-- ==== Sys2Proof/Word.lean ====
section
/-! DEFINITION. The word types of the TZ-5120: bytes of packets, 32-bit register words (R22), and the fixed-size
records of host memory (R49 to R51, R386). -/

namespace Sys2Proof

/-- One byte of a packet, a record or a memory. -/
abbrev Byte := BitVec 8

/-- One register word (R22: every register is 32 bits wide). -/
abbrev Word := BitVec 32

/-- A sequence of bytes in the order the wire or the memory holds them. -/
abbrev Bytes := List Byte

end Sys2Proof
end

