-- ==== Sys2Proof/Syntax.lean ====
section
/-! DEFINITION. The commands of the TZ-5120, one constructor per row of spec/opcode_table.json, and the plain data their
operands are made of: who writes a register, what a read of host memory returned, what arrived on a link. -/

namespace Sys2Proof

/-- Who makes a register access: the host over PCI Express, with whose rights the register commands of the management serial
interface act (R463), or the management controller, with whose rights JTAG REG_WRITE acts (R36, R442).
(DEDUCED, log entry 26.) -/
inductive Agent where
  | host | mc
  deriving DecidableEq, Repr

/-- What a host access addresses: BAR0, BAR4 or the configuration space of the function (R21, R39, R43); BAR2 has rows of its own. -/
inductive Space where
  | bar0 | bar4 | config
  deriving DecidableEq, Repr

/-- How a non-posted read of host memory ends (R46): its data, or UR, CA, poison or a timeout. (DESIGN CHOICE, log entry 27.) -/
inductive ReadResult where
  | data (bytes : Bytes)
  | fail
  deriving DecidableEq, Repr

/-- A ring whose doorbells R43 lays out: a command ring, or the punt or inject ring of a channel. -/
inductive RingId where
  | cmd (n : Nat)
  | punt (c : Nat)
  | inject (c : Nat)
  deriving DecidableEq, Repr

/-- A ring of records the device writes in host memory (R338). -/
inductive RecRingId where
  | sample | log | feTrace | tmTrace | notify
  deriving DecidableEq, Repr

/-- A write of the MSI-X controls of the function (R70): enable and function mask, or one vector's table entry. -/
inductive MsixCtl where
  | control (enable : Bool) (fnMask : Bool)
  | vector (v : Nat) (addr : Nat) (data : Nat) (masked : Bool)
  deriving DecidableEq, Repr


/-- What resets the host interface (R42). -/
inductive HostResetKind where
  | perst | hotReset | flr
  deriving DecidableEq, Repr

/-- What the program hands to the route sequence (R154): family, VRF and address; or an MPLS key (R172), label space and
label, with what to route when the label pops; or a MAC key (R173), bridge domain and address. (DEDUCED, log entry 23.) -/
inductive RouteAsk where
  | none
  | ip (v6 : Bool) (vrf addr : Nat)
  | mpls (lspace label : Nat) (v6 : Bool) (addr : Nat)
  | mac (bd addr : Nat)
  deriving DecidableEq, Repr

/-- What the fetches of an EPOCH_STAGE of kind ALMANAC meet (R81): the image as host memory holds it, the fetch that fails
(0 the container, k + 1 section k), the section whose readback differs or is uncorrectable, and the step of R81 in which
the stage still stands when the command ends (it goes on when the command comes again). -/
structure StageFetch where
  bytes : Bytes
  failAt : Option Nat
  badReadback : Option Nat
  stall : Option Nat
  deriving DecidableEq, Repr

/-- What a cell's self-check finds (R120); slot words are numbered 0 to 255. -/
inductive CellFinding where
  | parity | lockstep | slotCorrected (word : Nat) | slotUncorrectable (word : Nat) | maintPort | selfTest
  deriving DecidableEq, Repr

/-- How a CELL_TEST ends (R129): UNIT and the failing line or word on failure. -/
inductive TestOutcome where
  | pass | fail (unit line : Nat) | timeout
  deriving DecidableEq, Repr

/-- How a received frame ends at the MAC (R16, R217): whole and correct, with an FCS error, or cut by loss of link. -/
inductive FrameEnd where
  | good | fcsError | truncated
  deriving DecidableEq, Repr

/-- A lane whose FEC intervals are judged (R221, R257): a network port or a fabric link. -/
inductive LaneRef where
  | port (p : Nat) | link (n : Nat)
  deriving DecidableEq, Repr

/-- How a GDDR7 access ends (R368): good, good after on-die correction, a CRC error, or reported uncorrectable. -/
inductive AccessOutcome where
  | good | corrected | crcError | uncorrectable
  deriving DecidableEq, Repr

/-- What a word of the die-to-die bridge carried (R396): data or metadata of the packet of a pipeline (ingress on bundles 0 to
63, egress above), a register access, or an event record. -/
inductive BridgeWord where
  | packet (pipe : Nat) | metadata (pipe : Nat) | register | record
  deriving DecidableEq, Repr

/-- The word MEM_ACCESS names (R442): of the management controller's SRAM, of a line of table SRAM (direction, logical position,
line, 32-bit word), or of another on-chip array. -/
inductive MemRef where
  | mc (word : Nat) | table (dir pos line word : Nat) | other (addr : Nat)
  deriving DecidableEq, Repr

/-- What MC_DEBUG asks for. -/
inductive McOp where
  | halt | step | resume
  deriving DecidableEq, Repr
/-- The commands the block takes: one constructor per row of spec/opcode_table.json, in the table's order. An operand
that the row's own words fix (an address, a value, the data a bus brings) is a field of the constructor.
(DESIGN CHOICE, log entry 16.) -/
inductive Instr where
  /-- REGISTER_WRITE (R6): A write to a register field that has no row of its own, applied according to its access type, lock and epoch state. -/
  | registerWrite (who : Agent) (off : Nat) (width : Nat) (data : Nat) (space : Space := .bar0)
  /-- PAGE_ENABLE (R29): A write of PAGE_CTRL.ENABLE starts or idles a block; on a DMC page it starts training. -/
  | pageEnable (who : Agent) (page : Nat) (en : Bool)
  /-- SOFT_RESET (R30): A write of 1 to PAGE_CTRL.SOFT_RESET requests a BLOCK reset of the page, announced by an order-break marker. -/
  | softReset (who : Agent) (page : Nat)
  /-- MARKER_ACTION_START (R407): Once its marker is admitted to the device ring, a BLOCK reset or fence starts and IN_RESET or FENCED sets. -/
  | markerActionStart (page : Nat)
  /-- MARKER_WAIT_LIMIT (R407): An action still waiting for its marker 5 us after its event starts anyway. -/
  | markerWaitLimit (page : Nat)
  /-- BLOCK_RESET_DONE (R409): A BLOCK reset completes, IN_RESET clears and commands waiting for the block start. -/
  | blockResetDone (page : Nat)
  /-- EVT_LATCH_CLEAR (R31): A W1C write of EVT_LATCH clears latch bits, which set again at once while the raw condition holds. -/
  | evtLatchClear (page : Nat) (mask : Nat)
  /-- EVT_FORCE (R31): A write of EVT_FORCE raises sources once with FORCED set, taking the programmed action. -/
  | evtForce (page : Nat) (mask : Nat)
  /-- EVT_CAPTURE_RELEASE (R32): A write of 1 to EVT_CAPTURE0.VALID releases the capture for the next enabled event. -/
  | evtCaptureRelease (page : Nat)
  /-- EVT_LOST_CLEAR (R33): A write of EVT_LOST_CNT.CLEAR clears COUNT and OVF. -/
  | evtLostClear (page : Nat)
  /-- PAGE_LOCK_WRITE (R36): A write of PAGE_LOCK sets the lock, or clears it when written 0 by the management controller. -/
  | pageLockWrite (who : Agent) (page : Nat) (lock : Bool)
  /-- PERF_CNT_PRESET (R38): A write of a PERF_CNT half presets the count, from which counting continues. -/
  | perfCntPreset (page : Nat) (k : Nat) (hi : Bool) (v : Nat)
  /-- COUNTER_LO_READ_LATCH (R38): A read of a LO counter word latches its HI word for the following read. -/
  | counterLoReadLatch (off : Nat) (space : Space := .bar0) (width : Nat := 4)
  /-- COUNTER_READ_REARM (R338): A read of a drop counter such as SAMPLE_DROP, STALE_DROP or TRACE_DROP re-arms its event for the next drop. -/
  | counterReadRearm (off : Nat) (width : Nat := 4)
  /-- PCIE_LINK_TRAINED (R41): The PCI Express link completes training and LINK_STATUS takes its speed and width. -/
  | pcieLinkTrained (speed : Nat) (width : Nat) (flit : Bool)
  /-- HOST_INTERFACE_RESET (R42): PERST_N, hot reset or FLR resets only the PCI Express controller, HCMD, HPKT and MSIX, losing completions. -/
  | hostInterfaceReset (kind : HostResetKind)
  /-- PCIE_POWER_STATE (R40): A Power Management write moves the function between D0 and D3hot, stopping or resuming fetches and messages. -/
  | pciePowerState (d3hot : Bool) (bme : Bool)
  /-- SQ_TAIL_DOORBELL (R47): A write of a ring's SQ_TAIL submits commands, or is discarded as out of range with DOORBELL_ERR. -/
  | sqTailDoorbell (ring : Nat) (width : Nat) (v : Nat)
  /-- CQ_HEAD_DOORBELL (R51): A write of CQ_HEAD releases completion entries, or is discarded with DOORBELL_ERR HEAD_AHEAD. -/
  | cqHeadDoorbell (ring : Nat) (width : Nat) (v : Nat)
  /-- PUNT_TAIL_DOORBELL (R61): A write of a channel's PUNT_TAIL posts punt descriptors. -/
  | puntTailDoorbell (chan : Nat) (width : Nat) (v : Nat)
  /-- INJECT_TAIL_DOORBELL (R61): A write of a channel's INJECT_TAIL posts inject descriptors. -/
  | injectTailDoorbell (chan : Nat) (width : Nat) (v : Nat)
  /-- RING_ENABLE (R46): A write of RING_CTRL.ENABLE = 1 resets the ring indexes and phase, or is refused with BAD_CONFIG. -/
  | ringEnable (ring : RingId) (ctrl : Nat)
  /-- RING_DISABLE (R46): A write of RING_CTRL.ENABLE = 0 stops fetching while commands in flight finish. -/
  | ringDisable (ring : RingId) (ctrl : Nat)
  /-- COMMAND_FETCH (R48): The device fetches the next pending command of a ring in turn, within the in-flight limits. -/
  | commandFetch
  /-- FETCH_READ_DONE (R46): A non-posted fetch read of a command or descriptor returns data or fails. -/
  | fetchReadDone (id : Nat) (r : ReadResult)
  /-- COMPLETION_WRITE (R52): A finished or held completion is written to the completion ring once an entry is free. -/
  | completionWrite (ring : Nat) (bad : Bool)
  /-- COAL_TIMER_EXPIRE (R70): An interrupt coalescing timer expires and its cause fires. -/
  | coalTimerExpire (cause : Nat)
  /-- MSIX_UNBLOCK (R70): MSI-X enable or unmask ends a block and pending interrupt messages are sent. -/
  | msixUnblock (ctl : MsixCtl)
  /-- FENCE (R54): The FENCE command completes once every earlier command of its ring has completed. -/
  | fence (id : Nat)
  /-- UNKNOWN_OPCODE (R58): A command with an opcode not in the table completes INVALID, DETAIL 1, without effect. -/
  | unknownOpcode (id : Nat)
  /-- DCMD_GO (R60): A write of DCMD_GO issues the direct command, or is discarded with DCMD_BUSY. -/
  | dcmdGo
  /-- DRES_RESULT_ACK (R60): A write of DRES_CTRL.RESULT_ACK releases the direct result. -/
  | dresResultAck
  /-- PUNT_DELIVER (R64): A punted packet at the head of its host queue is written to the next punt buffer and its descriptor written back. -/
  | puntDeliver (chan : Nat) (desc : ReadResult) (bad : Bool) (badBack : Bool := false)
  /-- INJECT_FETCH (R67): An inject descriptor and its buffer are fetched and the packet sent to a pipeline or queue, or refused. -/
  | injectFetch (chan : Nat) (desc : ReadResult) (buf : ReadResult) (bad : Bool)
  /-- EPOCH_STAGE_ALMANAC (R81): EPOCH_STAGE of kind ALMANAC fetches, verifies, loads and reads back an Almanac into the staged bank. -/
  | epochStageAlmanac (id : Nat) (img : StageFetch)
  /-- STAGE_TIMEOUT (R81): An ALMANAC stage unfinished 2 s after its start ends with TIMEOUT. -/
  | stageTimeout
  /-- EPOCH_STAGE_RULES (R86): EPOCH_STAGE of kind RULES applies rule records to the staged bank, all or nothing. -/
  | epochStageRules (id : Nat) (recs : ReadResult)
  /-- EPOCH_COMMIT (R90): EPOCH_COMMIT checks locks and sequence and arms the flip at a chosen cycle F. -/
  | epochCommit (id : Nat)
  /-- EPOCH_FLIP (R90): At cycle F the staged bank becomes active and EPOCH_SEQ rises. -/
  | epochFlip
  /-- SELECTOR_LANE (R89): The three selector lanes disagree; the FE takes the majority and raises SELECTOR_LANE. -/
  | selectorLane (lanes : Nat)
  /-- DEPTH_GAP_END (R110): After a depth decrease the admission gap ends and pipelines admit again. -/
  | depthGapEnd (egress : Bool)
  /-- DRAIN_SETTLED (R92): The old bank's count has stayed at 0 for 128 cycles and the state moves to RETIRING. -/
  | drainSettled
  /-- RETIRE_TIMEOUT (R93): EPOCH_RETIRE_TIMEOUT expires in DRAINING; the marker is raised and old-bank packets not begun are purged. -/
  | retireTimeout
  /-- PURGE_DONE (R93): The old-bank count reaches 0 in EXPIRED and the state moves to RETIRING. -/
  | purgeDone
  /-- RETIRE_MIRROR_DONE (R95): The mirror of the active bank into the old one completes, RETIRED is raised and the state is IDLE. -/
  | retireMirrorDone
  /-- EPOCH_ABORT (R88): EPOCH_ABORT with ROLLBACK 0 abandons staging or cancels an armed flip. -/
  | epochAbort (id : Nat)
  /-- EPOCH_ROLLBACK (R94): EPOCH_ABORT with ROLLBACK 1 in DRAINING arms a flip back to the old bank. -/
  | epochRollback (id : Nat)
  /-- ROLLBACK_FLIP (R94): At the rollback cycle the old bank becomes active again and the rejected bank drains. -/
  | rollbackFlip
  /-- REMIRROR_DONE (R87): An abort's re-mirror of the inactive bank completes and waiting epoch commands start. -/
  | remirrorDone
  /-- EPOCH_STATUS (R98): EPOCH_STATUS returns the commit state, banks and counts. -/
  | epochStatus (id : Nat)
  /-- CELL_CHECK_ERROR (R120): A cell self-check finds a parity, lockstep, slot, maintenance-port or test error. -/
  | cellCheckError (phys : Nat) (f : CellFinding) (unit : Nat)
  /-- SLOT_SCRUB (R120): The 1 ms background scrub of the inactive slot bank rewrites erroneous words from the store. -/
  | slotScrub (errs : List (Nat × Nat))
  /-- SLOT_STORE_SCRUB (R117): The once-per-second scrub of the slot image store repairs words from their other copy. -/
  | slotStoreScrub (errs : List (Nat × Nat × Bool))
  /-- REMAP_DONE (R122): A remap copy finishes, LOGICAL_MAP is updated and the strip resumes. -/
  | remapDone (strip : Nat) (extra : Nat)
  /-- FENCED_CELL_ACTIVITY (R128): A fenced cell drives an output, which is counted and ignored. -/
  | fencedCellActivity (phys : Nat)
  /-- CELL_REMAP (R129): CELL_REMAP fences a mapped logical cell and remaps it to a spare. -/
  | cellRemap (id : Nat)
  /-- CELL_TEST (R129): CELL_TEST starts BIST and march tests of a fenced, spare or tested cell. -/
  | cellTest (id : Nat)
  /-- CELL_TEST_DONE (R129): A cell test ends with PASS, FAIL or TIMEOUT and the cell changes state. -/
  | cellTestDone (phys : Nat) (o : TestOutcome)
  /-- CELL_UNFENCE (R129): CELL_UNFENCE returns a TESTED_OK cell to SPARE, letting a waiting remap start. -/
  | cellUnfence (id : Nat)
  /-- FRAME_RX (R217): A network frame is received, timestamped and buffered at its port group input, or dropped. -/
  | frameRx (port : Nat) (data : Bytes) (tail : FrameEnd)
  /-- PIPELINE_INPUT_ADMIT (R109): A pipeline input admits one frame, looped packet or MODE 0 inject and stamps its epoch. -/
  | pipelineInputAdmit (pipe : Nat)
  /-- STRIP_EXIT (R142): A packet leaves its ingress strip and FAIL_ACT, punt replacement, elimination and learning act. -/
  | stripExit (pipe : Nat) (ask : RouteAsk)
  /-- TM_INGRESS_ARRIVAL (R326): A packet reaching TM ingress is policed and then offered to admission. -/
  | tmIngressArrival (pipe : Nat)
  /-- VOQ_SELECT (R321): Node FABRIC selects VOQ packets and hands each to the cutter of its stream. -/
  | voqSelect (unc : List Nat := [])
  /-- SWITCH_CORE_STEP (R270): The switch core connects sources and destinations to banks and moves up to 2 cells each. -/
  | switchCoreStep
  /-- SPRAY_SLOT_SEND (R277): In each pattern slot a link sends the cell its slot entry selects, or an alternate takes it. -/
  | spraySlotSend
  /-- TX_FRAME_START (R243): All links start a transmit frame with overhead, MFI, status, reach and flow-control entries. -/
  | txFrameStart
  /-- PATTERN_BOUNDARY (R273): At a pattern boundary returned links take back their slots and new geometry applies. -/
  | patternBoundary
  /-- FABRIC_CELL_RX (R252): A received cell is taken into reorder or counted and discarded. -/
  | fabricCellRx (link pos : Nat) (bytes : Bytes) (marked : Bool)
  /-- REORDER_COLLECTION_EXPIRE (R280): A new context's collection time ends and release starts from the lowest SEQ held. -/
  | reorderCollectionExpire (src : Nat) (express : Bool)
  /-- REORDER_GAP_EXPIRE (R280): The oldest held cell has waited W and the missing numbers are declared lost. -/
  | reorderGapExpire (src : Nat) (express : Bool)
  /-- REORDER_CTX_IDLE (R280): A context without cells for CTX_IDLE becomes new. -/
  | reorderCtxIdle (src : Nat) (express : Bool)
  /-- RESIDUE_RETRY (R286): Every RETRY interval residue branches are retried in order and ready ones served. -/
  | residueRetry
  /-- RESIDUE_TIMEOUT (R286): A branch still in residue after RESIDUE_TIMEOUT is dropped. -/
  | residueTimeout (egress : Bool) (rec : Nat)
  /-- EGRESS_SELECT (R321): An egress pipeline takes one packet per cycle from its port nodes or loopback FIFO. -/
  | egressSelect (pipe : Nat) (unc : List Nat := [])
  /-- LOOPBACK_SELECT (R321): Port node 256 selects a packet into the loopback FIFO of its pipeline. -/
  | loopbackSelect
  /-- EXPRESS_PACER_OPEN (R349): A port's express pacer reopens after the wire time of its last class 7 frame. -/
  | expressPacerOpen (port : Nat)
  /-- EGRESS_STRIP_EXIT (R148): A packet leaves its egress strip and its rewritten head is emitted. -/
  | egressStripExit (pipe : Nat)
  /-- MAC_FRAME_BOUNDARY (R348): At a frame boundary the MAC chooses a PFC, express, copy or scheduled frame. -/
  | macFrameBoundary (port : Nat)
  /-- FRAME_TX_END (R92): A packet's last bit or cell leaves and it departs from its bank count. -/
  | frameTxEnd (port : Nat)
  /-- TBL_INSERT (R193): TBL_INSERT adds an entry to a free slot of its line. -/
  | tblInsert (id : Nat)
  /-- TBL_DELETE (R193): TBL_DELETE empties an entry's slot. -/
  | tblDelete (id : Nat)
  /-- TBL_MODIFY (R193): TBL_MODIFY replaces an entry whole. -/
  | tblModify (id : Nat) (entry : ReadResult)
  /-- TBL_LOOKUP (R193): TBL_LOOKUP returns the entry of a key. -/
  | tblLookup (id : Nat)
  /-- TBL_READ_INDEX (R193): TBL_READ_INDEX returns the entry at an index or slot. -/
  | tblReadIndex (id : Nat)
  /-- TBL_CAS (R193): TBL_CAS writes NEW when the masked present entry equals EXPECT. -/
  | tblCas (id : Nat)
  /-- TBL_AGE_DELETE (R207): TBL_AGE_DELETE deletes an entry only when its hit bit is clear. -/
  | tblAgeDelete (id : Nat)
  /-- TBL_SWITCH_REGION (R195): TBL_SWITCH_REGION checks and accepts a switch of a table's live region. -/
  | tblSwitchRegion (id : Nat)
  /-- REGION_SWITCH_APPLY (R195): Once no write to the table is in flight, the other region becomes live at one cycle. -/
  | regionSwitchApply (id : Nat)
  /-- TABLE_WRITE_SLOT (R189): A write pipeline slot reads, decides and writes one entry into all eight replicas. -/
  | tableWriteSlot
  /-- BAR2_WRITE (R185): A BAR2 write into a locked segment is written to all replicas, otherwise discarded. -/
  | bar2Write (off : Nat) (width : Nat) (data : Nat)
  /-- BAR2_READ (R186): A BAR2 read returns a corrected word from the first replica that holds it. -/
  | bar2Read (off : Nat)
  /-- TDMA_LOCK (R187): LOCK_CTRL GO with OP lock locks a run of segments of a region. -/
  | tdmaLock (ctrl : Nat)
  /-- TDMA_UNLOCK (R187): LOCK_CTRL GO with OP unlock unlocks a run of segments. -/
  | tdmaUnlock (ctrl : Nat)
  /-- HOLD_WRITE (R196): A write of FE.TCMD.HOLD holds or releases the autonomous writers of a table. -/
  | holdWrite (v : Nat)
  /-- HOLD_DRAINED (R196): No held write remains in the pipeline and HOLD.ACTIVE reads 1. -/
  | holdDrained
  /-- TABLE_SCRUB (R198): The scrubber reads a line and repairs correctable or replicated words. -/
  | tableScrub (strip : Nat) (pos : Nat) (line : Nat) (single : List Nat) (upset : List (Nat × Nat)) (written : Bool)
  /-- LEARN_EVENT_PROCESS (R202): The learn engine inserts, moves, damps or ignores the head learn event. -/
  | learnEventProcess
  /-- DAMP_WINDOW_EXPIRE (R203): A key's 1 s move-damping window ends. -/
  | dampWindowExpire (key : Nat)
  /-- HIT_SET_WRITE (R205): A held hit set reaches its write slot and sets HIT. -/
  | hitSetWrite
  /-- AGE_TICK (R206): An AGE_TICK advances NOW and starts a walk over the aged tables. -/
  | ageTick
  /-- AGE_WALK_LINE (R206): The walk reads a line, refreshing hit entries and issuing age deletions. -/
  | ageWalkLine
  /-- AGE_DELETION (R207): An ager deletion at its write slot empties the entry or is saved by its hit. -/
  | ageDeletion
  /-- PORT_ENABLE (R215): A write of PORT_CFG.ENABLE = 1 takes the port's mode or is refused. -/
  | portEnable (port : Nat) (cfg : Nat)
  /-- PORT_DISABLE (R215): A write of PORT_CFG.ENABLE = 0 stops the port and powers down its lanes. -/
  | portDisable (port : Nat) (cfg : Nat)
  /-- LINK_UP (R219): A port gains signal, lock, fault freedom and training and LINK_UP rises. -/
  | linkUp (port : Nat)
  /-- LINK_DOWN (R219): A port loses signal or lock or sees a fault and LINK_UP falls. -/
  | linkDown (port : Nat) (cause : Nat)
  /-- AN_FAIL (R216): An autonegotiation attempt fails and restarts. -/
  | anFail (port : Nat) (ability : Nat)
  /-- DEG_INTERVAL_END (R221): A 1 ms interval is judged and DEG sets or clears after DEG_M intervals. -/
  | degIntervalEnd (lane : LaneRef) (corr unc : Nat) (prbs : List Nat := [])
  /-- PFC_FRAME_RX (R222): A received PFC frame pauses or resumes egress classes. -/
  | pfcFrameRx (port : Nat) (vec : Nat) (quanta : List Nat)
  /-- PFC_PAUSE_EXPIRE (R222): A received PFC pause time runs out and the class resumes. -/
  | pfcPauseExpire (port : Nat) (cls : Nat)
  /-- PFC_REFRESH_TIMER (R222): Every QUANTA / 2 quanta the MAC repeats PFC while the count stays at or above XON. -/
  | pfcRefreshTimer (port : Nat) (cls : Nat)
  /-- PREEMPT_ENABLE (R224): A write of PREEMPT_CFG.EN starts 802.3br verification. -/
  | preemptEnable (port : Nat) (cfg : Nat)
  /-- PREEMPT_VERIFY_TIMER (R224): A verify interval ends and verification retries, succeeds or fails. -/
  | preemptVerifyTimer (port : Nat) (answered : Bool)
  /-- TS_ACK (R228): A write of TS_CTRL.TS_ACK releases the presented timestamp capture. -/
  | tsAck (group : Nat)
  /-- PROT_RECORD_READ (R230): STREAM_SEL GO with OP read loads a protection record into DATA. -/
  | protRecordRead (sel : Nat)
  /-- PROT_RECORD_WRITE (R230): STREAM_SEL GO with OP write sets a protection record or is refused. -/
  | protRecordWrite (sel : Nat)
  /-- RCVY_RESET_EXPIRE (R232): A stream passes no packet for RCVY_RESET and its record sets TAKE_ANY. -/
  | rcvyResetExpire (stream : Nat)
  /-- PROT_WTR_EXPIRE (R233): A port's WAIT timer expires and it rejoins protection. -/
  | protWtrExpire (port : Nat)
  /-- PROT_FORCE_OUT (R233): A write of FORCE_OUT forces ports out of protection or releases them. -/
  | protForceOut (k : Nat) (mask : Nat)
  /-- CODEWORD_LOCK (R242): A fabric receiver gains or loses codeword lock. -/
  | codewordLock (link : Nat)
  /-- FLINK_LOS (R253): A fabric lane loses signal and its framer returns to HUNT. -/
  | flinkLos (link : Nat) (signal : Bool)
  /-- FAW_CHECK (R253): A FAW at the candidate phase is judged and the alignment state moves. -/
  | fawCheck (link phase diff : Nat) (exact : List Nat := [])
  /-- OVERHEAD_RX (R247): A frame overhead is received and used for alignment, trace, status, reach and flow control. -/
  | overheadRx (link : Nat) (bytes : Bytes) (marked : Bool)
  /-- FC_TIMEOUT_EXPIRE (R263): An XOFF bit without a fresh entry for FC_TIMEOUT clears. -/
  | fcTimeoutExpire (dev pg : Nat)
  /-- FLINK_ENABLE (R259): A write of LINK_CFG.ENABLE = 1 starts the link in WITHDRAWN. -/
  | flinkEnable (link cfg : Nat)
  /-- FLINK_DISABLE (R260): A write of LINK_CFG.ENABLE = 0 withdraws the link and powers its lane down. -/
  | flinkDisable (link cfg : Nat)
  /-- FLINK_FORCE_OUT (R259): A write of FORCE_OUT forces a link out or releases it. -/
  | flinkForceOut (link : Nat) (on : Bool)
  /-- FLINK_WTR_EXPIRE (R259): A link's FAB_WTR timer expires and it returns to IN_SERVICE. -/
  | flinkWtrExpire (link : Nat)
  /-- TRAIN_FAIL_TIMEOUT (R266): Fabric link training unfinished after 500 ms raises TRAIN_FAIL and retries. -/
  | trainFailTimeout (link : Nat)
  /-- TRACE_SEL_READ (R266): TRACE_SEL GO with OP read loads a trace or reach vector into TRACE_DATA. -/
  | traceSelRead (page sel : Nat)
  /-- TRACE_SEL_WRITE (R266): TRACE_SEL GO with OP write sets a transmit or expected trace, or is refused. -/
  | traceSelWrite (page sel : Nat)
  /-- SPRAY_COPY_ACTIVE (R279): A write of INSTALL.COPY_ACTIVE loads the pending image from the active pattern. -/
  | sprayCopyActive
  /-- PEND_DATA_ACCESS (R288): An access of PEND_DATA reads or writes a pending word and advances PEND_ADDR. -/
  | pendDataAccess (write : Option Nat)
  /-- SPRAY_INSTALL_GO (R279): A write of INSTALL.GO checks the pending image and accepts or refuses the install. -/
  | sprayInstallGo
  /-- SPRAY_INSTALL_APPLY (R279): At a pattern boundary in IDLE the pending image is written into both banks. -/
  | sprayInstallApply
  /-- MCAST_GROUP_READ (R290): GROUP_SEL GO with OP read loads a group entry. -/
  | mcastGroupRead (sel : Nat)
  /-- MCAST_GROUP_WRITE (R287): GROUP_SEL GO with OP write sets a group entry. -/
  | mcastGroupWrite (sel : Nat)
  /-- MCAST_RECORD_READ (R290): REC_SEL GO with OP read loads a replication record. -/
  | mcastRecordRead (sel : Nat)
  /-- MCAST_RECORD_WRITE (R287): REC_SEL GO with OP write sets a replication record, keeping DROPS. -/
  | mcastRecordWrite (sel : Nat)
  /-- WALK_DRAIN_SET (R287): A write of 1 to WALK_DRAIN starts tracking replications in progress. -/
  | walkDrainSet
  /-- WALK_DRAIN_DONE (R287): Every replication started before the write finishes and WALK_DRAIN clears. -/
  | walkDrainDone
  /-- CHAN_CREATE (R296): CHAN_CREATE takes an index and issues a channel handle. -/
  | chanCreate (id : Nat)
  /-- CHAN_MODIFY (R297): CHAN_MODIFY replaces a channel's classes, parent, profiles and port default. -/
  | chanModify (id : Nat)
  /-- CHAN_DESTROY (R298): CHAN_DESTROY retires the generation and starts draining or flushing the queues. -/
  | chanDestroy (id : Nat)
  /-- CHAN_DESTROY_DRAINED (R298): A destroyed channel's queues are empty, its index is freed and the command completes. -/
  | chanDestroyDrained (index : Nat)
  /-- DESTROY_TIMEOUT (R298): A destroy's queues are not empty after DESTROY_TIMEOUT and the rest is discarded. -/
  | destroyTimeout (index : Nat)
  /-- CHAN_QUERY (R295): CHAN_QUERY returns a channel's fields and depth. -/
  | chanQuery (id : Nat)
  /-- TM_PORT_DOWN (R309): A local port goes down and enters HOLD with its hold timer. -/
  | tmPortDown (port : Nat)
  /-- PORT_HOLD_EXPIRE (R309): The hold timer expires and the port's egress queues are flushed. -/
  | portHoldExpire (port : Nat)
  /-- TM_PORT_UP (R309): A port in HOLD or DOWN comes up and service resumes. -/
  | tmPortUp (port : Nat)
  /-- QPROF_READ (R312): QPROF_SEL GO with OP read loads a queue profile. -/
  | qprofRead (sel : Nat)
  /-- QPROF_WRITE (R302): QPROF_SEL GO with OP write sets a queue profile. -/
  | qprofWrite (sel : Nat)
  /-- QUEUE_STATS_LOAD (R312): Q_SEL GO loads a queue's depth, packets and GDDR7 units. -/
  | queueStatsLoad (sel : Nat)
  /-- NODE_READ (R339): NODE_SEL GO with OP read loads a scheduler node. -/
  | nodeRead (sel : Nat)
  /-- NODE_WRITE (R317): NODE_SEL GO with OP write sets a node's parent, priority, weight and shaper, or is refused. -/
  | nodeWrite (sel : Nat)
  /-- CLSPROF_READ (R339): CLSPROF_SEL GO with OP read loads a class profile. -/
  | clsprofRead (sel : Nat)
  /-- CLSPROF_WRITE (R320): CLSPROF_SEL GO with OP write sets a class profile. -/
  | clsprofWrite (sel : Nat)
  /-- SHPROF_READ (R340): SHPROF_SEL GO with OP read loads a shaper profile. -/
  | shprofRead (sel : Nat)
  /-- SHPROF_WRITE (R323): SHPROF_SEL GO with OP write sets a shaper profile. -/
  | shprofWrite (sel : Nat)
  /-- SHAPER_LOAD (R340): SHAPER_SEL GO loads a node's credit and release time. -/
  | shaperLoad (sel : Nat)
  /-- CALENDAR_FINE_SLOT (R324): A 10 ns fine slot reopens up to 1,024 shapers, carrying the rest. -/
  | calendarFineSlot
  /-- CALENDAR_COARSE_SLOT (R324): A coarse slot begins and its shapers move into the fine wheel. -/
  | calendarCoarseSlot
  /-- PPROF_READ (R341): PPROF_SEL GO with OP read loads a policer profile. -/
  | pprofRead (sel : Nat)
  /-- PPROF_WRITE (R327): PPROF_SEL GO with OP write sets a policer profile. -/
  | pprofWrite (sel : Nat)
  /-- POLICER_READ (R341): POL_SEL GO with OP read loads a policer record. -/
  | policerRead (sel : Nat)
  /-- POLICER_WRITE (R329): POL_SEL GO with OP write sets a policer record and buckets. -/
  | policerWrite (sel : Nat)
  /-- GATE_ENTRY_READ (R342): GATE_SEL GO with OP read loads a gate entry. -/
  | gateEntryRead (sel : Nat)
  /-- GATE_ENTRY_WRITE (R342): GATE_SEL GO with OP write sets a pending gate entry, or is refused. -/
  | gateEntryWrite (sel : Nat)
  /-- GATE_EN (R331): A write of PORT_CTRL.EN makes the gates follow the active list or open all. -/
  | gateEn (v : Nat)
  /-- GATE_SWITCH_REQUEST (R332): A write of PORT_CTRL.SWITCH checks the pending list and fixes the switch time S. -/
  | gateSwitchRequest (v : Nat)
  /-- GATE_ABORT (R332): A write of PORT_CTRL.ABORT cancels a pending switch. -/
  | gateAbort (v : Nat)
  /-- GATE_SWITCH_APPLY (R332): At time S the pending list becomes active. -/
  | gateSwitchApply (port : Nat)
  /-- GATE_ENTRY_CHANGE (R331): Device time passes an entry boundary and the gates in force change. -/
  | gateEntryChange (port : Nat)
  /-- DEPTH_SAMPLE (R335): Every DEPTH_INTERVAL the depth sampler takes the next queue and writes a record. -/
  | depthSample
  /-- SAMPLE_N_WRITE (R336): A write of SAMPLE_N restarts the delay sampling count. -/
  | sampleNWrite (v : Nat)
  /-- RECORD_RING_ENABLE (R338): A write of a record ring's ENABLE resets its tail and phase, or is refused. -/
  | recordRingEnable (ring : RecRingId) (ctrl : Nat)
  /-- RECORD_RING_HEAD_WRITE (R338): A write of a record ring's head releases records to the device. -/
  | recordRingHeadWrite (ring : RecRingId) (v : Nat)
  /-- DMC_TRAINING_DONE (R359): Controller training succeeds and STATE becomes READY, or fails and STATE becomes DOWN. -/
  | dmcTrainingDone (ctl : Nat) (failed : Option (Nat × Nat))
  /-- DMC_TRAIN_TIMEOUT (R359): Training unfinished at 50 ms makes the controller DOWN with TRAIN_FAIL. -/
  | dmcTrainTimeout (ctl : Nat)
  /-- DDR_ENABLE (R357): A write of DDR_CTRL.ENABLE = 1 brings GDDR7 into service or raises DDR_REFUSED. -/
  | ddrEnable
  /-- DDR_DISABLE (R358): A write of DDR_CTRL.ENABLE = 0 stops new spill placements. -/
  | ddrDisable
  /-- WCK_REALIGN (R359): Every 100 ms a channel repeats WCK-to-CK alignment. -/
  | wckRealign (ctl chan : Nat)
  /-- DMC_ACTIVATE (R361): A channel issues the activate of the next eligible bank's oldest request. -/
  | dmcActivate (ctl chan : Nat)
  /-- REFRESH_INTERVAL (R362): Each tREFIPB a bank owing a refresh is refreshed or forced. -/
  | refreshInterval (ctl : Nat)
  /-- DMC_TEMP_READ (R363): Every 1 ms the device temperature is read and the refresh interval adjusted. -/
  | dmcTempRead (ctl temp : Nat) (hot : Bool)
  /-- ACT_TABLE_CLEAR (R364): Every 32 ms the row-activation tables are cleared. -/
  | actTableClear
  /-- THROTTLE_EXPIRE (R365): A throttle's THROTTLE_US ends and the requester's requests to the bank resume. -/
  | throttleExpire (bank who : Nat)
  /-- FREQ_GO (R366): A write of FREQ.GO starts a frequency change, or is refused. -/
  | freqGo
  /-- FREQ_CHANGE_DONE (R366): A frequency change completes, falls back or makes the controller DOWN. -/
  | freqChangeDone (ctl : Nat) (ok : Bool) (step : Nat)
  /-- FREQ_STEP_TIMEOUT (R367): A frequency-change step passes its limit and the previous set is restored. -/
  | freqStepTimeout (ctl step : Nat)
  /-- DMC_ACCESS_COMPLETE (R368): A GDDR7 read or write completes, is retried on CRC error, or is uncorrectable. -/
  | dmcAccessComplete (unit : Nat) (write : Bool) (outcome : AccessOutcome)
  /-- COUNTER_WRITEBACK (R373): The counter engine writes back pending increments of an active queue record. -/
  | counterWriteback (queue : Nat)
  /-- MEM_WINDOW_READ (R374): MEM GO with OP read reads 32 bytes of a unit into MEM_DATA. -/
  | memWindowRead
  /-- MEM_WINDOW_WRITE (R374): MEM GO with OP write writes 32 bytes of a unit, or is denied. -/
  | memWindowWrite
  /-- COUNTER_EXPORT (R374): A write of EXPORT.GO starts copying the counter region to host memory. -/
  | counterExport
  /-- COUNTER_EXPORT_DONE (R374): The counter export copy ends and BUSY clears. -/
  | counterExportDone (bad : List Nat)
  /-- FE_RECORD_FORWARD (R383): An FE log record crosses the bridge and reaches the device ring. -/
  | feRecordForward (bad : Bool)
  /-- SQUALL_WINDOW_END (R391): A Squall window ends, summaries are written and Squall may exit. -/
  | squallWindowEnd
  /-- LOG_EXPORT (R390): The device copies the oldest log record to the host ring. -/
  | logExport (slotBad writeBad : Bool)
  /-- HEARTBEAT (R393): Helri writes HEARTBEAT, restarting the heartbeat check. -/
  | heartbeat
  /-- HB_HOLD_WRITE (R393): Helri writes HB_HOLD, suspending the heartbeat check. -/
  | hbHoldWrite (ms : Nat)
  /-- HEARTBEAT_GAP (R392): More than 100 ms pass without a heartbeat; ALIVE stops and the watchdog may reset the MC. -/
  | heartbeatGap
  /-- ALIVE_RESTART (R394): A write of ALIVE_CTRL.RESTART starts ALIVE or sets RESTART_REFUSED. -/
  | aliveRestart
  /-- ALIVE_STOP (R392): A write of ALIVE_CTRL.STOP stops ALIVE. -/
  | aliveStop
  /-- BRIDGE_LANE_INTERVAL (R396): A 1 ms interval ends and lanes above REPAIR_THR are replaced by spares. -/
  | bridgeLaneInterval (bundle lane corr : Nat)
  /-- BRIDGE_WORD_UNCORRECTABLE (R396): An uncorrectable bridge word marks, drops or voids what it carried. -/
  | bridgeWordUncorrectable (bundle : Nat) (what : BridgeWord)
  /-- BRIDGE_DOWN (R398): A bundle loses alignment; the bridge is down and the TM records BRIDGE_DOWN itself. -/
  | bridgeDown (bundle : Nat)
  /-- SUMMARY_COUNT_LOAD (R401): SUM_SEL GO loads a source's summary counter. -/
  | summaryCountLoad (sel : Nat)
  /-- FREEZE_WRITE (R417): A write of TM.PERF.FREEZE schedules a freeze change at TICK T. -/
  | freezeWrite (v : Nat)
  /-- FREEZE_APPLY (R417): At TICK T all page counters freeze or resume on both dies. -/
  | freezeApply
  /-- SNAPSHOT (R419): SNAPSHOT checks its buffer and chooses the latch TICK T. -/
  | snapshot (id : Nat)
  /-- SNAPSHOT_LATCH (R419): At TICK T every counter of both dies is latched into a shadow. -/
  | snapshotLatch
  /-- SNAPSHOT_COPY_DONE (R419): The snapshot image is written and the completion follows. -/
  | snapshotCopyDone
  /-- TRACE_SEED_WRITE (R421): A write of FE.TRACE.SEED reloads every pipeline LFSR. -/
  | traceSeedWrite (seed : Nat)
  /-- TRACE_EXPORT (R426): A die copies a trace record from its device ring to its host ring. -/
  | traceExport (tm bad : Bool)
  /-- ATTEST_QUOTE (R441): ATTEST_QUOTE writes a signed quote of the device state. -/
  | attestQuote (id : Nat)
  /-- ADD_OWNER (R439): KEY_PROVISION ADD_OWNER makes an empty owner slot valid with a new key. -/
  | addOwner (id : Nat) (record : ReadResult) (copies : Nat := 3)
  /-- REVOKE_OWNER (R439): KEY_PROVISION REVOKE_OWNER revokes a valid owner slot. -/
  | revokeOwner (id : Nat) (record : ReadResult) (copies : Nat := 3)
  /-- LIFECYCLE (R437): KEY_PROVISION LIFECYCLE makes a lifecycle transition and burns OTP. -/
  | lifecycle (id : Nat) (record : ReadResult) (copies : Nat := 3)
  /-- ADVANCE_SVN (R439): KEY_PROVISION ADVANCE_SVN advances HELRI_SVN or ALM_SVN. -/
  | advanceSvn (id : Nat) (record : ReadResult) (copies : Nat := 3)
  /-- OWNER_ONLY (R439): KEY_PROVISION OWNER_ONLY sets the irreversible OWNER_ONLY bit. -/
  | ownerOnly (id : Nat) (record : ReadResult) (copies : Nat := 3)
  /-- BOOT_RETRY (R434): A write of BOOT.RETRY in FAILED repeats the boot checks. -/
  | bootRetry
  /-- JTAG_IDCODE (R442): The IDCODE instruction reads the device IDCODE. -/
  | jtagIdcode
  /-- JTAG_BYPASS (R442): The BYPASS instruction, or a refused one, bypasses the device. -/
  | jtagBypass (code : Nat)
  /-- SEC_CHALLENGE (R443): SEC_CHALLENGE reads a new unlock challenge. -/
  | secChallenge
  /-- SEC_RESPONSE (R443): SEC_RESPONSE shifts in a signed response that sets the debug level or fails. -/
  | secResponse (resp : Bytes)
  /-- SEC_STATUS (R442): SEC_STATUS reads TM.SEC.DEBUG. -/
  | secStatus
  /-- SAMPLE_PRELOAD (R442): SAMPLE/PRELOAD samples or preloads the boundary-scan register. -/
  | samplePreload (pins load : Bytes)
  /-- EXTEST (R442): EXTEST drives the CMOS pins from the boundary-scan register. -/
  | extest (pins load : Bytes)
  /-- JTAG_REG_READ (R442): REG_READ performs a BAR0 read with the effect of a host read. -/
  | jtagRegRead (off : Nat)
  /-- JTAG_REG_WRITE (R442): REG_WRITE performs a BAR0 write with the effect of a management-controller write. -/
  | jtagRegWrite (off : Nat) (data : Nat)
  /-- MEM_ACCESS (R442): MEM_ACCESS reads or writes on-chip SRAM other than OTP. -/
  | memAccess (mem : MemRef) (write : Option Nat)
  /-- MC_DEBUG (R442): MC_DEBUG halts, steps or resumes the management controller. -/
  | mcDebug (op : McOp)
  /-- JTAG_TAP_RESET (R442): TRST_N or Test-Logic-Reset resets the TAP but not the debug level. -/
  | jtagTapReset
  /-- DEBUG_UNLOCK_EXPIRE (R444): An unlock's MINUTES expire and the level becomes LOCKED. -/
  | debugUnlockExpire
  /-- DEBUG_RELOCK (R444): A write of DEBUG.RELOCK ends the unlock. -/
  | debugRelock
  /-- UNLOCK_LOCKOUT_EXPIRE (R443): The 60 s lockout after 4 failed responses ends. -/
  | unlockLockoutExpire
  /-- PLL_UNLOCK (R450): A root PLL loses lock and the die's clocks stop. -/
  | pllUnlock (tm : Bool)
  /-- REFCLK_LOSS (R450): REFCLK_CORE is missing for 10 us. -/
  | refclkLoss
  /-- AON_OSC_CHECK (R450): Each second the AON oscillator is measured and a fault raised if out of range. -/
  | aonOscCheck (khz : Nat)
  /-- CYCLE_CHECK_MARKER (R449): Every 2^20 cycles the FE compares its counter with the TM marker and resyncs. -/
  | cycleCheckMarker (fe : Nat)
  /-- TIME_STEP_WRITE (R452): A write of TIME_CTRL.STEP schedules a time step at TICK T. -/
  | timeStepWrite
  /-- TIME_OFFSET_WRITE (R452): A write of TIME_CTRL.OFFSET schedules a time offset at TICK T. -/
  | timeOffsetWrite
  /-- ADDEND_WRITE (R452): A write of ADDEND_NS schedules a new addend at TICK T. -/
  | addendWrite (v : Nat)
  /-- TIME_ADJUST_APPLY (R452): At TICK T the scheduled step, offset or addend takes effect on both dies. -/
  | timeAdjustApply
  /-- PPS_OUT_EDGE (R454): The nanoseconds carry into seconds and PPS_OUT rises. -/
  | ppsOutEdge
  /-- PPS_IN_EDGE (R454): An edge on PPS_IN latches device time or is counted as missed. -/
  | ppsInEdge (falling : Bool)
  /-- PPS_IN_MISSING (R454): No PPS_IN edge for 1.1 s raises PPS_IN_MISSING. -/
  | ppsInMissing
  /-- PPS_CAP_ACK (R454): A write of PPS_CAP_CTRL.RESULT_ACK releases the capture. -/
  | ppsCapAck
  /-- TOD_TX_SEND (R455): TX_DELAY_MS after a PPS_OUT edge a time-of-day message is sent. -/
  | todTxSend
  /-- TOD_RX_MESSAGE (R455): A time-of-day message is received and latched or discarded. -/
  | todRxMessage (bytes : Bytes) (cut : Option Nat)
  /-- TOD_RX_ACK (R455): A write of TOD_RX_CTRL.RESULT_ACK releases the received message. -/
  | todRxAck
  /-- POWER_REQUEST (R457): A write of TM.PWR.REQ starts, pends or discards a power transition. -/
  | powerRequest (target : Nat)
  /-- ENTRY_SAFE_POINT (R459): At a safe point of Doldrums entry the waits are tested and entry advances or aborts. -/
  | entrySafePoint
  /-- DOLDRUMS_DRAIN_EXPIRE (R458): DRAIN_MS ends and remaining queued packets are discarded. -/
  | doldrumsDrainExpire
  /-- DOLDRUMS_SAMPLE (R460): Every PERIOD_MS in Doldrums the inputs and temperature are sampled and a wake may start. -/
  | doldrumsSample (ls temp : Nat)
  /-- WAKE_N_RELEASE (R461): A write of WAKE_N_CTRL.RELEASE releases WAKE_N. -/
  | wakeNRelease
  /-- MGMT_ADDRESS_MATCH (R462): A matched address in Doldrums starts the AON oscillator and may start a wake. -/
  | mgmtAddressMatch
  /-- MGMT_STATUS (R463): The STATUS command returns the power and alarm status. -/
  | mgmtStatus
  /-- MGMT_POWER_REQ (R463): The POWER_REQ command makes a power request. -/
  | mgmtPowerReq (target : Nat) (pec : Bool)
  /-- MGMT_CLEAR (R463): The CLEAR command releases WAKE_N or clears WAKE_FAIL or BROWNOUT. -/
  | mgmtClear (v : Nat) (pec : Bool)
  /-- MGMT_REG_ADDR (R463): The REG_ADDR command sets the BAR0 offset for register commands. -/
  | mgmtRegAddr (off : Nat) (pec : Bool)
  /-- MGMT_REG_READ (R463): The REG_READ command reads the register at REG_ADDR. -/
  | mgmtRegRead
  /-- MGMT_REG_WRITE (R463): The REG_WRITE command writes the register at REG_ADDR. -/
  | mgmtRegWrite (data : Nat) (pec : Bool)
  /-- MGMT_TIMEOUT (R507): SCL held low for tTIMEOUT resets the interface and discards the transfer. -/
  | mgmtTimeout
  /-- WAKE_STEP_DONE (R464): A wake step completes and the next one starts or ACTIVE is reached. -/
  | wakeStepDone
  /-- WAKE_STEP_TIMEOUT (R465): A wake step misses its timeout and the wake retries or WAKE_FAIL sets. -/
  | wakeStepTimeout (switch : Option Nat)
  /-- PWR_GOOD_FALL (R464): PWR_GOOD_IN falls in DOLDRUMS_W and the device enters DOLDRUMS_C. -/
  | pwrGoodFall
  /-- AON_BROWNOUT (R466): The always-on domain browns out and restarts in DOLDRUMS_C with BROWNOUT latched. -/
  | aonBrownout
  /-- POR (R473): POR_N low resets everything but OTP and flash and runs the cold start. -/
  | por
  /-- CHIP_RESET (R412): SYS_RST_N or a CHIP_RESET reaction resets the device state and ends the promises. -/
  | chipReset (pin : Bool)
  /-- RESET_REQ (R489): A write of RESET_REQ with the right key starts a CHIP reset. -/
  | resetReq (v : Nat)
  /-- MC_RESET (R475): An MC reset reboots Helri from NEXT_SLOT while traffic continues. -/
  | mcReset
  /-- HELRI_READY (R475): Helri sets INIT_STAGE READY and TM.MC leaves reset. -/
  | helriReady
  /-- FW_STAGE (R481): A write of FW_CTRL.STAGE starts staging a Helri image into the other slot. -/
  | fwStage
  /-- FW_STAGE_DONE (R481): Staging ends with STAGED set or ERR with a cause. -/
  | fwStageDone (image : ReadResult) (good : Bool)
  /-- FW_SWITCH (R481): A write of FW_CTRL.SWITCH sets NEXT_SLOT and starts an MC reset into a trial. -/
  | fwSwitch
  /-- FW_CONFIRM (R482): A write of FW_CTRL.CONFIRM makes the slot record name the new slot. -/
  | fwConfirm
  /-- FW_TRIAL_TIMEOUT (R482): CONFIRM_S passes without confirm and Helri reboots the old slot. -/
  | fwTrialTimeout
  /-- AVS_ENABLE (R484): A write of AVS_EN starts the voltage loop at START_MV. -/
  | avsEnable
  /-- AVS_PERIOD (R484): Every PERIOD_MS the canaries report and the loop adjusts the core voltage. -/
  | avsPeriod (reports : List (Nat × Nat)) (back : Option Nat)
  /-- TEMP_WARN (R485): The hottest sensor passes WARN_C and TEMP_WARN is raised. -/
  | tempWarn (tm : Bool) (sensors : List (Nat × Nat))
  /-- THERM_TRIP (R485): A die reaches 125 C and drives THERM_TRIP_N low. -/
  | thermTrip (tm : Bool) (sensor temp : Nat)
  /-- LIFE_RECORD_UPDATE (R487): Every hour Helri updates the life record in flash. -/
  | lifeRecordUpdate (tj thermal : Nat)
  /-- PCIE_LINK_DOWN (R41): The PCI Express data link layer goes down without a PERST_N, hot reset or FLR, LINK_STATUS reads link down, and later host writes fail. -/
  | pcieLinkDown
  /-- POR_N_RELEASE (R476): POR_N rises and the cold start runs: AON oscillator, PWR_EN_OUT, PLL lock, OTP read, boot of Helri. -/
  | porNRelease
  /-- SYS_RST_N_RELEASE (R473): SYS_RST_N rises, the core-cycle and TICK counters restart and the cold start runs from the OTP step. -/
  | sysRstNRelease
  /-- PPS_OUT_PULSE_END (R454): WIDTH_MS after its rising edge, PPS_OUT falls. -/
  | ppsOutPulseEnd
  /-- WAKE_RETRY (R465): 1 ms (or 10 ms after a PWR_GOOD failure) after a missed wake timeout, the device starts the wake again from its first step. -/
  | wakeRetry
  deriving DecidableEq, Repr

end Sys2Proof
end

