-- ==== Sys2Proof/Config.lean ====
section
/-! DEFINITION. What the spec leaves to the device and what it leaves open. Every constant here is opaque: no body, so
no statement can lean on a value. A fresh open value of a run is `freeWord` applied to the counter `State.freeCtr`. -/

namespace Sys2Proof

/-- A 32-bit value that the spec leaves open, the k-th one asked for. -/
opaque Config.freeWord : Nat → BitVec 32

/-- The result words of a lookup that gives HIT 0, where the spec states none (R161): of the k-th walk, for a TABLE_ID.
(DESIGN CHOICE, log entry 7.) -/
opaque Config.openResult : Nat → Nat → BitVec 480

/-- The position within its line that SLOT names when a lookup misses (R161): of the k-th walk, for a TABLE_ID.
(DESIGN CHOICE, log entry 7.) -/
opaque Config.missPos : Nat → Nat → Nat

/-- A random value of the device's generator (R443): the k-th one asked for, 256 bits. -/
opaque Config.random : Nat → BitVec 256

/-- SHA-384 of a byte sequence (R80, R430). The spec names the function and gives no computation of it.
(DESIGN CHOICE, log entry 6.) -/
opaque Config.sha384 : Bytes → BitVec 384

/-- The vendor public key of the boot ROM (R430). (DESIGN CHOICE, log entry 6.) -/
opaque Config.vendorKey : Bytes

/-- A signature (R80, R430) over a digest verifies under a public key: key, digest, signature. (DESIGN CHOICE, log entry 6.) -/
opaque Config.verifies : Bytes → BitVec 384 → Bytes → Bool

/-- The signature the device makes with its own key over a digest (R441). (DESIGN CHOICE, log entry 6.) -/
opaque Config.deviceSign : BitVec 384 → Bytes

/-- The ingress bound of a pipeline while no fabric rate is there to divide by (R346): the spec states no value.
(DEDUCED, log entry 19.) -/
opaque Config.boundNoRate : Nat → BitVec 32

/-- The device certificate in the identity area of the flash (R431). (DESIGN CHOICE, log entry 6.) -/
opaque Config.deviceCert : Bytes

/-- The certificate chain in the identity area of the flash (R431). (DESIGN CHOICE, log entry 6.) -/
opaque Config.certChain : Bytes

/-- The Helri image a flash slot held when the device was made: 0 A, 1 B (R433). (DESIGN CHOICE, log entry 22.) -/
opaque Config.flashImage : Nat → Bytes

/-- The k-th reading of a flash slot meets a read error (R434). (DESIGN CHOICE, log entry 22.) -/
opaque Config.flashError : Nat → Bool

/-- The board area of the flash (R509). (DESIGN CHOICE, log entry 22.) -/
opaque Config.boardArea : Bytes

/-- A word of configuration space that the PCI Express specification fills and the spec does not (R39). (PRESUMED, log entry 30.) -/
opaque Config.cfgRest : Nat → BitVec 32

/-- The MGMT_ADDR pins of the board (R462). (DESIGN CHOICE, log entry 22.) -/
opaque Config.mgmtPins : BitVec 3

end Sys2Proof
end

