-- ==== Sys2Proof/Machine/Bits.lean ====
section
/-! DEFINITION. Bit-field, saturation and byte-order helpers used by every unit. R4 numbers bits from the least
significant; R3 makes registers and records little-endian and packet fields big-endian (network order). -/

namespace Sys2Proof.Machine

/-- Bits `[lo+w-1 : lo]` of `v` (R4). -/
def bits (v lo w : Nat) : Nat := v >>> lo % 2 ^ w

/-- `v` with bits `[lo+w-1 : lo]` replaced by `x`. -/
def setBits (v lo w x : Nat) : Nat :=
  v - (bits v lo w) * 2 ^ lo + (x % 2 ^ w) * 2 ^ lo

/-- Bit `n` of `v`. -/
def bit (v n : Nat) : Bool := v.testBit n

/-- A Boolean as a one-bit field. -/
def b2n (b : Bool) : Nat := if b then 1 else 0

/-- `v` with bit `n` set to `b`. -/
def setBit (v n : Nat) (b : Bool) : Nat := setBits v n 1 (b2n b)

/-- Saturating addition in a field of `w` bits: "saturates" of the register tables. -/
def satAdd (w v n : Nat) : Nat := min (v + n) (2 ^ w - 1)

/-- Addition modulo `2^w`: "modulo 2^32" of the register tables. -/
def wrapAdd (w v n : Nat) : Nat := (v + n) % 2 ^ w

/-- The value that acts for a field whose 0 "acts as" another value. -/
def orWhenZero (v d : Nat) : Nat := if v = 0 then d else v

/-- `v` as a signed number of `w` bits. -/
def toSigned (w v : Nat) : Int := if 2 ^ (w - 1) ≤ v % 2 ^ w then (v % 2 ^ w : Int) - 2 ^ w else (v % 2 ^ w : Int)

/-- A signed number as the bits of a field of `w` bits. -/
def ofSigned (w : Nat) (v : Int) : Nat := (v % (2 ^ w : Int)).toNat

/-- Division rounding up. -/
def ceilDiv (a b : Nat) : Nat := (a + b - 1) / b

/-- The bytes as one number, most significant byte first (network order, R3). -/
def beNat (bs : Bytes) : Nat := bs.foldl (fun a b => a * 256 + b.toNat) 0

/-- The bytes as one number, least significant byte first (R3). -/
def leNat : Bytes → Nat
  | [] => 0
  | b :: bs => b.toNat + 256 * leNat bs

/-- 32-bit words as one number, the first word lowest. -/
def leWords : List Nat → Nat
  | [] => 0
  | w :: ws => w % 2 ^ 32 + 2 ^ 32 * leWords ws

/-- The `n` low bytes of `v`, least significant first (R3). -/
def toLe : Nat → Nat → Bytes
  | 0, _ => []
  | n + 1, v => BitVec.ofNat 8 v :: toLe n (v / 256)

/-- The `n` low bytes of `v`, most significant first (network order, R3). -/
def toBe (n v : Nat) : Bytes := (toLe n v).reverse

/-- Little-endian 32-bit word at byte offset `o`; bytes beyond the end read 0. -/
def le32 (bs : Bytes) (o : Nat) : Nat := leNat ((bs.drop o).take 4)

/-- Little-endian 64-bit word at byte offset `o`. -/
def le64 (bs : Bytes) (o : Nat) : Nat := leNat ((bs.drop o).take 8)

/-- A list with element `i` replaced; unchanged when `i` is out of range. -/
def listSet {α : Type} : List α → Nat → α → List α
  | [], _, _ => []
  | _ :: xs, 0, v => v :: xs
  | x :: xs, n + 1, v => x :: listSet xs n v

/-- The index of the first element that satisfies `p`. -/
def firstIdx {α : Type} (p : α → Bool) : List α → Option Nat
  | [] => none
  | x :: xs => if p x then some 0 else (firstIdx p xs).map (· + 1)

/-- The indexes below `n` that satisfy `p`, rising. -/
def idxsBelow (n : Nat) (p : Nat → Bool) : List Nat := (List.range n).filter p

/-- The population count of the low `w` bits. -/
def popCount : Nat → Nat → Nat
  | 0, _ => 0
  | w + 1, v => (if v.testBit w then 1 else 0) + popCount w v

/-- CRC-32 of the Ethernet FCS over a byte sequence (R247): the four bytes follow the sequence, lowest first. -/
def crc32 (bs : Bytes) : Nat :=
  (bs.foldl (fun c b => (List.range 8).foldl (fun c _ => if c % 2 = 1 then (c / 2) ^^^ 0xEDB88320 else c / 2) (c ^^^ b.toNat))
    0xFFFFFFFF) ^^^ 0xFFFFFFFF

/-- CRC-16 of R250: polynomial x^16 + x^12 + x^5 + 1, initial value 0xFFFF, no reflection, no final inversion. -/
def crc16 (bs : Bytes) : Nat :=
  bs.foldl (fun c b => (List.range 8).foldl (fun c _ =>
    if 32768 ≤ c then ((c * 2) % 65536) ^^^ 0x1021 else c * 2) (c ^^^ (b.toNat * 256))) 0xFFFF

/-- A natural put in its place in a rising list. -/
def insertN (x : Nat) : List Nat → List Nat
  | [] => [x]
  | y :: ys => if x ≤ y then x :: y :: ys else y :: insertN x ys

/-- A list of naturals in rising order. -/
def sortN : List Nat → List Nat
  | [] => []
  | x :: xs => insertN x (sortN xs)

/-- The sum of a list of naturals. -/
def sumN (l : List Nat) : Nat := l.foldl (· + ·) 0

/-- The largest of a list of naturals, 0 when empty. -/
def maxN (l : List Nat) : Nat := l.foldl max 0

end Sys2Proof.Machine
end

