-- ==== Sys2Proof/Machine/Events.lean ====
section
/-! DEFINITION. The event sources of every page (R378) with the severity and the action each has after CHIP reset and
POR: the table of R379, and the tables of the later chapters where they state their own defaults. Source 31 of every
assigned page is ACCESS_ERR (R31). -/

namespace Sys2Proof.Machine

/-- An event source: the page index of the first page of its kind, its number in the page, its reset severity
(0 INFO, 1 MINOR, 2 MAJOR, 3 CRITICAL) and its reset action (R380). -/
structure Evt where
  page : Nat
  src : Nat
  sev : Nat
  act : Nat
  deriving DecidableEq, Repr

/-- R104. -/
def Ev.TM_EPOCH.FLIPPED : Evt := ⟨4099, 0, 0, 0⟩
/-- R104. -/
def Ev.TM_EPOCH.RETIRED : Evt := ⟨4099, 1, 0, 0⟩
/-- R104. -/
def Ev.TM_EPOCH.RETIRE_TIMEOUT : Evt := ⟨4099, 2, 2, 1⟩
/-- R104. -/
def Ev.TM_EPOCH.ROLLBACK : Evt := ⟨4099, 3, 1, 1⟩
/-- R104. -/
def Ev.TM_EPOCH.COUNT_ERR : Evt := ⟨4099, 4, 2, 1⟩
/-- R104. -/
def Ev.FE_EPOCH.SELECTOR_LANE : Evt := ⟨3, 0, 2, 1⟩
/-- R104. -/
def Ev.TM_ALM.LOAD_FAIL : Evt := ⟨4100, 0, 1, 1⟩
/-- R104. -/
def Ev.FE_ALM.LOAD_FAIL : Evt := ⟨4, 0, 1, 1⟩
/-- R133. -/
def Ev.FE_CELLS.CELL_FENCED : Evt := ⟨72, 0, 2, 1⟩
/-- R133. -/
def Ev.FE_CELLS.REMAP_DONE : Evt := ⟨72, 1, 0, 1⟩
/-- R133. -/
def Ev.FE_CELLS.STRIP_DOWN : Evt := ⟨72, 2, 2, 9⟩
/-- R133. -/
def Ev.FE_CELLS.FENCED_CELL_ACTIVITY : Evt := ⟨72, 3, 1, 1⟩
/-- R133. -/
def Ev.FE_CELLS.SLOT_CORRECTED : Evt := ⟨72, 4, 0, 0⟩
/-- R133. -/
def Ev.FE_CELLS.SPARES_EXHAUSTED : Evt := ⟨72, 5, 2, 1⟩
/-- R133. -/
def Ev.FE_CELLS.COPY_UNCORRECTABLE : Evt := ⟨72, 6, 2, 1⟩
/-- R133. -/
def Ev.FE_CELLS.SOURCE_RETRY : Evt := ⟨72, 7, 1, 0⟩
/-- R133. -/
def Ev.FE_CELLS.STORE_LOST : Evt := ⟨72, 8, 2, 1⟩
/-- R133. -/
def Ev.FE_PIPEI.FAULT_WINDOW : Evt := ⟨73, 0, 1, 0⟩
/-- R133. -/
def Ev.FE_PIPEE.FAULT_WINDOW : Evt := ⟨74, 0, 1, 0⟩
/-- R133. -/
def Ev.FE_PIPEI.OVERRUN : Evt := ⟨73, 1, 0, 0⟩
/-- R153. -/
def Ev.FE_PARSE.FAIL_DROP : Evt := ⟨64, 0, 0, 0⟩
/-- R153. -/
def Ev.FE_PARSE.EMIT_DROP : Evt := ⟨64, 1, 0, 0⟩
/-- R153. -/
def Ev.FE_CLASS.PUNT_LIMITED : Evt := ⟨65, 0, 0, 0⟩
/-- R178. -/
def Ev.FE_LPM.ENTRY_UNCORRECTABLE : Evt := ⟨66, 0, 2, 1⟩
/-- R178. -/
def Ev.FE_EXM.ENTRY_UNCORRECTABLE : Evt := ⟨67, 0, 2, 1⟩
/-- R178. -/
def Ev.FE_EXM.INDEX_RANGE : Evt := ⟨67, 1, 1, 0⟩
/-- R213. -/
def Ev.FE_TCMD.NEED_REHASH : Evt := ⟨68, 0, 1, 1⟩
/-- R213. -/
def Ev.FE_TCMD.SCRUB_UNCORRECTABLE : Evt := ⟨68, 1, 2, 1⟩
/-- R213. -/
def Ev.FE_TCMD.REGION_SWITCHED : Evt := ⟨68, 2, 0, 0⟩
/-- R213. -/
def Ev.FE_TCMD.HIT_LOST : Evt := ⟨68, 3, 0, 0⟩
/-- R213. -/
def Ev.FE_TDMA.DMA_UNLOCKED : Evt := ⟨69, 0, 1, 1⟩
/-- R213. -/
def Ev.FE_TDMA.LOCK_REFUSED : Evt := ⟨69, 1, 1, 1⟩
/-- R213. -/
def Ev.FE_TDMA.DMA_UNCORRECTABLE : Evt := ⟨69, 2, 2, 1⟩
/-- R213. -/
def Ev.FE_LEARN.MAC_MOVE : Evt := ⟨70, 0, 0, 0⟩
/-- R213. -/
def Ev.FE_LEARN.MAC_MOVE_DAMPED : Evt := ⟨70, 1, 1, 1⟩
/-- R213. -/
def Ev.FE_LEARN.LEARN_NO_ROOM : Evt := ⟨70, 2, 1, 1⟩
/-- R213. -/
def Ev.FE_LEARN.QUEUE_FULL : Evt := ⟨70, 3, 1, 0⟩
/-- R213. -/
def Ev.FE_LEARN.NOTIFY_READY : Evt := ⟨70, 4, 0, 1⟩
/-- R213. -/
def Ev.FE_LEARN.NOTIFY_FULL : Evt := ⟨70, 5, 1, 1⟩
/-- R213. -/
def Ev.FE_AGE.WALK_OVERRUN : Evt := ⟨71, 0, 1, 1⟩
/-- R240. -/
def Ev.FE_PG.LINK_DOWN : Evt := ⟨16, 0, 1, 1⟩
/-- R240. -/
def Ev.FE_PG.LINK_UP : Evt := ⟨16, 1, 0, 1⟩
/-- R240. -/
def Ev.FE_PG.DEG_SET : Evt := ⟨16, 2, 1, 1⟩
/-- R240. -/
def Ev.FE_PG.DEG_CLEAR : Evt := ⟨16, 3, 0, 1⟩
/-- R240. -/
def Ev.FE_PG.AN_FAIL : Evt := ⟨16, 4, 1, 0⟩
/-- R240. -/
def Ev.FE_PG.PREEMPT_VERIFY_FAIL : Evt := ⟨16, 5, 1, 1⟩
/-- R240. -/
def Ev.FE_PG.CFG_REFUSED : Evt := ⟨16, 6, 1, 1⟩
/-- R240. -/
def Ev.FE_PG.TS_FIFO_OVF : Evt := ⟨16, 7, 1, 0⟩
/-- R240. -/
def Ev.FE_PG.PROT_WITHDRAW : Evt := ⟨16, 8, 1, 1⟩
/-- R240. -/
def Ev.FE_PG.PROT_REJOIN : Evt := ⟨16, 9, 0, 1⟩
/-- R240. -/
def Ev.FE_PROT.ROGUE : Evt := ⟨75, 0, 1, 0⟩
/-- R240. -/
def Ev.FE_PROT.NO_STREAM : Evt := ⟨75, 1, 1, 0⟩
/-- R240. -/
def Ev.FE_PROT.COPY_DROP : Evt := ⟨75, 2, 1, 0⟩
/-- R268. -/
def Ev.TM_FLINK.LOF : Evt := ⟨4136, 0, 1, 1⟩
/-- R268. -/
def Ev.TM_FLINK.LOM : Evt := ⟨4136, 1, 1, 1⟩
/-- R268. -/
def Ev.TM_FLINK.TIM : Evt := ⟨4136, 2, 1, 1⟩
/-- R268. -/
def Ev.TM_FLINK.DEG_SET : Evt := ⟨4136, 3, 1, 1⟩
/-- R268. -/
def Ev.TM_FLINK.DEG_CLEAR : Evt := ⟨4136, 4, 0, 0⟩
/-- R268. -/
def Ev.TM_FLINK.RDI_RX : Evt := ⟨4136, 5, 1, 0⟩
/-- R268. -/
def Ev.TM_FLINK.WITHDRAW : Evt := ⟨4136, 6, 1, 1⟩
/-- R268. -/
def Ev.TM_FLINK.REJOIN : Evt := ⟨4136, 7, 0, 1⟩
/-- R268. -/
def Ev.TM_FLINK.REACH_CHANGE : Evt := ⟨4136, 16, 0, 1⟩
/-- R268. -/
def Ev.TM_FLINK.FALSE_LOCK : Evt := ⟨4136, 17, 0, 0⟩
/-- R268. -/
def Ev.TM_FLINK.TRAIN_FAIL : Evt := ⟨4136, 18, 1, 1⟩
/-- R268. -/
def Ev.TM_FLINK.MODE_MISMATCH : Evt := ⟨4136, 19, 2, 1⟩
/-- R291. -/
def Ev.TM_SPRAY.INSTALLED : Evt := ⟨4146, 0, 0, 1⟩
/-- R291. -/
def Ev.TM_SPRAY.INSTALL_REFUSED : Evt := ⟨4146, 1, 1, 1⟩
/-- R291. -/
def Ev.TM_SPRAY.NO_REACH_DROP : Evt := ⟨4146, 2, 1, 0⟩
/-- R291. -/
def Ev.TM_SPRAY.CORE_DROP : Evt := ⟨4146, 3, 2, 1⟩
/-- R291. -/
def Ev.TM_REORD.CELL_LOST : Evt := ⟨4147, 0, 1, 0⟩
/-- R291. -/
def Ev.TM_REORD.FORCED_SKIP : Evt := ⟨4147, 1, 1, 0⟩
/-- R291. -/
def Ev.TM_MCAST.RESIDUE_TIMEOUT : Evt := ⟨4155, 0, 1, 0⟩
/-- R291. -/
def Ev.TM_MCAST.RESIDUE_FULL : Evt := ⟨4155, 1, 1, 1⟩
/-- R291. -/
def Ev.TM_MCAST.STALE_BRANCH : Evt := ⟨4155, 2, 1, 0⟩
/-- R314. -/
def Ev.TM_CHAN.STALE_ADMIT : Evt := ⟨4148, 0, 1, 0⟩
/-- R314. -/
def Ev.TM_CHAN.DESTROY_TIMEOUT : Evt := ⟨4148, 1, 0, 0⟩
/-- R314. -/
def Ev.TM_QUEUE.PORT_HOLD : Evt := ⟨4149, 0, 1, 1⟩
/-- R314. -/
def Ev.TM_QUEUE.PORT_FLUSHED : Evt := ⟨4149, 1, 1, 1⟩
/-- R314. -/
def Ev.TM_QUEUE.PORT_RESUMED : Evt := ⟨4149, 2, 0, 1⟩
/-- R314. -/
def Ev.TM_QUEUE.EXP_DROP : Evt := ⟨4149, 3, 1, 1⟩
/-- R314. -/
def Ev.TM_BUF.BUF_DROP : Evt := ⟨4150, 0, 0, 0⟩
/-- R314. -/
def Ev.TM_BUF.DIE_UNCORRECTABLE : Evt := ⟨4150, 1, 2, 1⟩
/-- R314. -/
def Ev.TM_BUF.RESERVE_SHORT : Evt := ⟨4150, 2, 2, 1⟩
/-- R344. -/
def Ev.TM_SCHED.SCHED_ORPHAN : Evt := ⟨4151, 0, 1, 1⟩
/-- R344. -/
def Ev.TM_SCHED.EXP_POLICED : Evt := ⟨4151, 1, 1, 0⟩
/-- R344. -/
def Ev.TM_SCHED.EXP_CAPACITY : Evt := ⟨4151, 2, 2, 1⟩
/-- R344. -/
def Ev.TM_SHAPE.CAL_LATE : Evt := ⟨4152, 0, 1, 0⟩
/-- R344. -/
def Ev.TM_GATE.GATE_SWITCHED : Evt := ⟨4154, 0, 0, 1⟩
/-- R344. -/
def Ev.TM_GATE.GATE_REFUSED : Evt := ⟨4154, 1, 1, 1⟩
/-- R344. -/
def Ev.TM_GATE.GATE_OVERSIZE : Evt := ⟨4154, 2, 1, 0⟩
/-- R344. -/
def Ev.TM_SAMPLE.SAMPLE_DROP : Evt := ⟨4156, 0, 0, 0⟩
/-- R377. -/
def Ev.TM_DMC.TRAIN_FAIL : Evt := ⟨4160, 0, 2, 9⟩
/-- R377. -/
def Ev.TM_DMC.UNCORRECTABLE : Evt := ⟨4160, 1, 1, 1⟩
/-- R377. -/
def Ev.TM_DMC.ROW_THROTTLE : Evt := ⟨4160, 2, 1, 0⟩
/-- R377. -/
def Ev.TM_DMC.TEMP_HIGH : Evt := ⟨4160, 3, 1, 1⟩
/-- R377. -/
def Ev.TM_DMC.CTRL_DOWN : Evt := ⟨4160, 4, 2, 9⟩
/-- R377. -/
def Ev.TM_DMC.RETIRE_FULL : Evt := ⟨4160, 5, 2, 1⟩
/-- R377. -/
def Ev.TM_DMC.DDR_REFUSED : Evt := ⟨4160, 8, 2, 1⟩
/-- R377. -/
def Ev.TM_DMC.FREQ_DONE : Evt := ⟨4160, 9, 0, 1⟩
/-- R377. -/
def Ev.TM_DMC.FREQ_FAIL : Evt := ⟨4160, 10, 2, 1⟩
/-- R403. -/
def Ev.FE_D2D.CORRECTED : Evt := ⟨78, 0, 0, 0⟩
/-- R403. -/
def Ev.FE_D2D.UNCORRECTABLE : Evt := ⟨78, 1, 2, 1⟩
/-- R403. -/
def Ev.FE_D2D.LANE_REPAIRED : Evt := ⟨78, 2, 1, 1⟩
/-- R403. -/
def Ev.FE_D2D.SPARES_EXHAUSTED : Evt := ⟨78, 3, 2, 1⟩
/-- R403. -/
def Ev.FE_D2D.BRIDGE_DOWN : Evt := ⟨78, 4, 3, 10⟩
/-- R403. -/
def Ev.TM_FAULT.HEARTBEAT_LOST : Evt := ⟨4176, 0, 2, 9⟩
/-- R403. -/
def Ev.TM_FAULT.ALIVE_STOPPED : Evt := ⟨4176, 1, 2, 1⟩
/-- R403. -/
def Ev.TM_LOG.SQUALL_ENTER : Evt := ⟨4177, 0, 1, 1⟩
/-- R403. -/
def Ev.TM_LOG.SQUALL_EXIT : Evt := ⟨4177, 1, 0, 1⟩
/-- R403. -/
def Ev.TM_LOG.EXPORT_ERR : Evt := ⟨4177, 2, 2, 1⟩
/-- R403. -/
def Ev.TM_LOG.CRIT_OVF : Evt := ⟨4177, 3, 2, 1⟩
/-- R447. -/
def Ev.TM_SEC.DEBUG_UNLOCKED : Evt := ⟨4101, 0, 2, 1⟩
/-- R447. -/
def Ev.TM_SEC.UNLOCK_FAIL : Evt := ⟨4101, 1, 1, 1⟩
/-- R447. -/
def Ev.TM_SEC.LIFECYCLE_CHANGED : Evt := ⟨4101, 2, 2, 1⟩
/-- R447. -/
def Ev.TM_SEC.BOOT_FALLBACK : Evt := ⟨4101, 3, 2, 1⟩
/-- R447. -/
def Ev.TM_SEC.BOOT_FAIL : Evt := ⟨4101, 4, 3, 10⟩
/-- R472. -/
def Ev.TM_CLK.PLL_UNLOCK : Evt := ⟨4097, 0, 3, 10⟩
/-- R472. -/
def Ev.TM_CLK.REFCLK_LOSS : Evt := ⟨4097, 1, 3, 10⟩
/-- R472. -/
def Ev.TM_CLK.AON_OSC_FAULT : Evt := ⟨4097, 2, 2, 1⟩
/-- R472. -/
def Ev.FE_CLK.PLL_UNLOCK : Evt := ⟨1, 0, 3, 10⟩
/-- R472. -/
def Ev.FE_CLK.CYCLE_SKEW : Evt := ⟨1, 1, 2, 1⟩
/-- R472. -/
def Ev.FE_PWR.RETENTION_FAULT : Evt := ⟨2, 0, 2, 1⟩
/-- R472. -/
def Ev.FE_PWR.SWITCH_FAULT : Evt := ⟨2, 1, 2, 1⟩
/-- R472. -/
def Ev.FE_PTP.TIME_STEP : Evt := ⟨76, 0, 0, 0⟩
/-- R472. -/
def Ev.FE_PTP.PPS_IN_MISSING : Evt := ⟨76, 1, 1, 1⟩
/-- R472. -/
def Ev.FE_PTP.TOD_ERR : Evt := ⟨76, 2, 1, 0⟩
/-- R472. -/
def Ev.TM_PWR.STATE_CHANGED : Evt := ⟨4098, 0, 0, 1⟩
/-- R472. -/
def Ev.TM_PWR.ENTRY_ABORTED : Evt := ⟨4098, 1, 0, 1⟩
/-- R472. -/
def Ev.TM_PWR.WAKE_N_ASSERTED : Evt := ⟨4098, 2, 0, 0⟩
/-- R472. -/
def Ev.TM_PWR.WAKE_FAIL : Evt := ⟨4098, 3, 2, 1⟩
/-- R472. -/
def Ev.TM_PWR.BROWNOUT : Evt := ⟨4098, 4, 2, 1⟩
/-- R472. -/
def Ev.TM_PWR.REQ_DISCARDED : Evt := ⟨4098, 5, 1, 0⟩
/-- R472. -/
def Ev.TM_MGMT.ADDR_WAKE : Evt := ⟨4108, 0, 0, 0⟩
/-- R472. -/
def Ev.TM_MGMT.PEC_ERR : Evt := ⟨4108, 1, 1, 0⟩
/-- R491. -/
def Ev.TM_MC.MC_RESTARTED : Evt := ⟨4102, 0, 0, 1⟩
/-- R491. -/
def Ev.TM_MC.FW_UPDATE_DONE : Evt := ⟨4102, 1, 0, 1⟩
/-- R491. -/
def Ev.TM_MC.FW_UPDATE_FAIL : Evt := ⟨4102, 2, 2, 1⟩
/-- R491. -/
def Ev.FE_THERM.TEMP_WARN : Evt := ⟨80, 0, 1, 1⟩
/-- R491. -/
def Ev.TM_THERM.TEMP_WARN : Evt := ⟨4179, 0, 1, 1⟩
/-- R491. -/
def Ev.FE_THERM.THERM_TRIP : Evt := ⟨80, 1, 3, 10⟩
/-- R491. -/
def Ev.TM_THERM.THERM_TRIP : Evt := ⟨4179, 1, 3, 10⟩
/-- R491. -/
def Ev.FE_THERM.CANARY_FAULT : Evt := ⟨80, 2, 1, 1⟩
/-- R491. -/
def Ev.FE_THERM.CANARY_LOW : Evt := ⟨80, 3, 0, 0⟩
/-- R491. -/
def Ev.TM_THERM.AVS_FAULT : Evt := ⟨4179, 2, 2, 1⟩
/-- R491. -/
def Ev.TM_THERM.MARGIN_EXHAUSTED : Evt := ⟨4179, 3, 2, 1⟩
/-- R47. -/
def Ev.TM_HCMD.DOORBELL_ERR : Evt := ⟨4105, 0, 1, 1⟩
/-- R46. -/
def Ev.TM_HCMD.FETCH_ERR : Evt := ⟨4105, 1, 2, 1⟩
/-- R46. -/
def Ev.TM_HCMD.BAD_CONFIG : Evt := ⟨4105, 3, 1, 1⟩
/-- R60. -/
def Ev.TM_HCMD.DCMD_BUSY : Evt := ⟨4105, 4, 0, 0⟩
/-- R61. -/
def Ev.TM_HPKT.DOORBELL_ERR : Evt := ⟨4106, 0, 1, 1⟩
/-- R61. -/
def Ev.TM_HPKT.FETCH_ERR : Evt := ⟨4106, 1, 2, 1⟩
/-- R61. -/
def Ev.TM_HPKT.BAD_CONFIG : Evt := ⟨4106, 3, 1, 1⟩
/-- R41. -/
def Ev.TM_PCIE.LINK_DEGRADED : Evt := ⟨4104, 0, 2, 10⟩
/-- R429. -/
def Ev.FE_TRACE.TRACE_DROP : Evt := ⟨77, 0, 0, 0⟩
/-- R429. -/
def Ev.TM_PERF.TRACE_DROP : Evt := ⟨4178, 0, 0, 0⟩

/-- Every named source of every page kind (R378). -/
def evtTable : List Evt :=
  [Ev.TM_EPOCH.FLIPPED, Ev.TM_EPOCH.RETIRED, Ev.TM_EPOCH.RETIRE_TIMEOUT, Ev.TM_EPOCH.ROLLBACK, Ev.TM_EPOCH.COUNT_ERR, Ev.FE_EPOCH.SELECTOR_LANE, Ev.TM_ALM.LOAD_FAIL, Ev.FE_ALM.LOAD_FAIL, Ev.FE_CELLS.CELL_FENCED, Ev.FE_CELLS.REMAP_DONE] ++
  [Ev.FE_CELLS.STRIP_DOWN, Ev.FE_CELLS.FENCED_CELL_ACTIVITY, Ev.FE_CELLS.SLOT_CORRECTED, Ev.FE_CELLS.SPARES_EXHAUSTED, Ev.FE_CELLS.COPY_UNCORRECTABLE, Ev.FE_CELLS.SOURCE_RETRY, Ev.FE_CELLS.STORE_LOST, Ev.FE_PIPEI.FAULT_WINDOW, Ev.FE_PIPEE.FAULT_WINDOW, Ev.FE_PIPEI.OVERRUN] ++
  [Ev.FE_PARSE.FAIL_DROP, Ev.FE_PARSE.EMIT_DROP, Ev.FE_CLASS.PUNT_LIMITED, Ev.FE_LPM.ENTRY_UNCORRECTABLE, Ev.FE_EXM.ENTRY_UNCORRECTABLE, Ev.FE_EXM.INDEX_RANGE, Ev.FE_TCMD.NEED_REHASH, Ev.FE_TCMD.SCRUB_UNCORRECTABLE, Ev.FE_TCMD.REGION_SWITCHED, Ev.FE_TCMD.HIT_LOST] ++
  [Ev.FE_TDMA.DMA_UNLOCKED, Ev.FE_TDMA.LOCK_REFUSED, Ev.FE_TDMA.DMA_UNCORRECTABLE, Ev.FE_LEARN.MAC_MOVE, Ev.FE_LEARN.MAC_MOVE_DAMPED, Ev.FE_LEARN.LEARN_NO_ROOM, Ev.FE_LEARN.QUEUE_FULL, Ev.FE_LEARN.NOTIFY_READY, Ev.FE_LEARN.NOTIFY_FULL, Ev.FE_AGE.WALK_OVERRUN] ++
  [Ev.FE_PG.LINK_DOWN, Ev.FE_PG.LINK_UP, Ev.FE_PG.DEG_SET, Ev.FE_PG.DEG_CLEAR, Ev.FE_PG.AN_FAIL, Ev.FE_PG.PREEMPT_VERIFY_FAIL, Ev.FE_PG.CFG_REFUSED, Ev.FE_PG.TS_FIFO_OVF, Ev.FE_PG.PROT_WITHDRAW, Ev.FE_PG.PROT_REJOIN] ++
  [Ev.FE_PROT.ROGUE, Ev.FE_PROT.NO_STREAM, Ev.FE_PROT.COPY_DROP, Ev.TM_FLINK.LOF, Ev.TM_FLINK.LOM, Ev.TM_FLINK.TIM, Ev.TM_FLINK.DEG_SET, Ev.TM_FLINK.DEG_CLEAR, Ev.TM_FLINK.RDI_RX, Ev.TM_FLINK.WITHDRAW] ++
  [Ev.TM_FLINK.REJOIN, Ev.TM_FLINK.REACH_CHANGE, Ev.TM_FLINK.FALSE_LOCK, Ev.TM_FLINK.TRAIN_FAIL, Ev.TM_FLINK.MODE_MISMATCH, Ev.TM_SPRAY.INSTALLED, Ev.TM_SPRAY.INSTALL_REFUSED, Ev.TM_SPRAY.NO_REACH_DROP, Ev.TM_SPRAY.CORE_DROP, Ev.TM_REORD.CELL_LOST] ++
  [Ev.TM_REORD.FORCED_SKIP, Ev.TM_MCAST.RESIDUE_TIMEOUT, Ev.TM_MCAST.RESIDUE_FULL, Ev.TM_MCAST.STALE_BRANCH, Ev.TM_CHAN.STALE_ADMIT, Ev.TM_CHAN.DESTROY_TIMEOUT, Ev.TM_QUEUE.PORT_HOLD, Ev.TM_QUEUE.PORT_FLUSHED, Ev.TM_QUEUE.PORT_RESUMED, Ev.TM_QUEUE.EXP_DROP] ++
  [Ev.TM_BUF.BUF_DROP, Ev.TM_BUF.DIE_UNCORRECTABLE, Ev.TM_BUF.RESERVE_SHORT, Ev.TM_SCHED.SCHED_ORPHAN, Ev.TM_SCHED.EXP_POLICED, Ev.TM_SCHED.EXP_CAPACITY, Ev.TM_SHAPE.CAL_LATE, Ev.TM_GATE.GATE_SWITCHED, Ev.TM_GATE.GATE_REFUSED, Ev.TM_GATE.GATE_OVERSIZE] ++
  [Ev.TM_SAMPLE.SAMPLE_DROP, Ev.TM_DMC.TRAIN_FAIL, Ev.TM_DMC.UNCORRECTABLE, Ev.TM_DMC.ROW_THROTTLE, Ev.TM_DMC.TEMP_HIGH, Ev.TM_DMC.CTRL_DOWN, Ev.TM_DMC.RETIRE_FULL, Ev.TM_DMC.DDR_REFUSED, Ev.TM_DMC.FREQ_DONE, Ev.TM_DMC.FREQ_FAIL] ++
  [Ev.FE_D2D.CORRECTED, Ev.FE_D2D.UNCORRECTABLE, Ev.FE_D2D.LANE_REPAIRED, Ev.FE_D2D.SPARES_EXHAUSTED, Ev.FE_D2D.BRIDGE_DOWN, Ev.TM_FAULT.HEARTBEAT_LOST, Ev.TM_FAULT.ALIVE_STOPPED, Ev.TM_LOG.SQUALL_ENTER, Ev.TM_LOG.SQUALL_EXIT, Ev.TM_LOG.EXPORT_ERR] ++
  [Ev.TM_LOG.CRIT_OVF, Ev.TM_SEC.DEBUG_UNLOCKED, Ev.TM_SEC.UNLOCK_FAIL, Ev.TM_SEC.LIFECYCLE_CHANGED, Ev.TM_SEC.BOOT_FALLBACK, Ev.TM_SEC.BOOT_FAIL, Ev.TM_CLK.PLL_UNLOCK, Ev.TM_CLK.REFCLK_LOSS, Ev.TM_CLK.AON_OSC_FAULT, Ev.FE_CLK.PLL_UNLOCK] ++
  [Ev.FE_CLK.CYCLE_SKEW, Ev.FE_PWR.RETENTION_FAULT, Ev.FE_PWR.SWITCH_FAULT, Ev.FE_PTP.TIME_STEP, Ev.FE_PTP.PPS_IN_MISSING, Ev.FE_PTP.TOD_ERR, Ev.TM_PWR.STATE_CHANGED, Ev.TM_PWR.ENTRY_ABORTED, Ev.TM_PWR.WAKE_N_ASSERTED, Ev.TM_PWR.WAKE_FAIL] ++
  [Ev.TM_PWR.BROWNOUT, Ev.TM_PWR.REQ_DISCARDED, Ev.TM_MGMT.ADDR_WAKE, Ev.TM_MGMT.PEC_ERR, Ev.TM_MC.MC_RESTARTED, Ev.TM_MC.FW_UPDATE_DONE, Ev.TM_MC.FW_UPDATE_FAIL, Ev.FE_THERM.TEMP_WARN, Ev.TM_THERM.TEMP_WARN, Ev.FE_THERM.THERM_TRIP] ++
  [Ev.TM_THERM.THERM_TRIP, Ev.FE_THERM.CANARY_FAULT, Ev.FE_THERM.CANARY_LOW, Ev.TM_THERM.AVS_FAULT, Ev.TM_THERM.MARGIN_EXHAUSTED, Ev.TM_HCMD.DOORBELL_ERR, Ev.TM_HCMD.FETCH_ERR, Ev.TM_HCMD.BAD_CONFIG, Ev.TM_HCMD.DCMD_BUSY, Ev.TM_HPKT.DOORBELL_ERR] ++
  [Ev.TM_HPKT.FETCH_ERR, Ev.TM_HPKT.BAD_CONFIG, Ev.TM_PCIE.LINK_DEGRADED, Ev.FE_TRACE.TRACE_DROP, Ev.TM_PERF.TRACE_DROP]

end Sys2Proof.Machine
end

