-- ==== Sys2Proof/Machine/Store.lean ====
section
/-! DEFINITION. Sparse storage in one canonical form. Every large array of the device (register file, SRAM, queues,
nodes, records) is a list of (index, content) pairs with strictly rising indexes in which an entry equal to what an
unlisted index reads as does not stand, so equal contents are equal data. -/

namespace Sys2Proof.Machine

/-- A sparse array: (index, content) pairs, indexes strictly rising. (DEDUCED, log entry 25.) -/
abbrev SMap (β : Type) := List (Nat × β)

/-- The content at `k`; an unlisted index reads as `d`. -/
def SMap.get {β : Type} (d : β) : SMap β → Nat → β
  | [], _ => d
  | (k', v) :: m, k => if k' = k then v else SMap.get d m k

/-- `m` without the entries whose index satisfies `p`: those indexes read as the default again. -/
def SMap.drop {β : Type} (p : Nat → Bool) (m : SMap β) : SMap β := m.filter (fun e => !p e.1)

/-- `m` with an entry for `k` put in its place, before the first larger index. -/
def SMap.ins {β : Type} : SMap β → Nat → β → SMap β
  | [], k, v => [(k, v)]
  | (k', v') :: m, k, v => if k < k' then (k, v) :: (k', v') :: m else (k', v') :: SMap.ins m k v

/-- `m` with `v` at `k`; writing what an unlisted index reads as removes the entry. -/
def SMap.put {β : Type} [DecidableEq β] (d : β) (m : SMap β) (k : Nat) (v : β) : SMap β :=
  let m' := SMap.drop (fun x => decide (x = k)) m
  if v = d then m' else SMap.ins m' k v

/-- `m` with the content at `k` replaced by `f` of it. -/
def SMap.upd {β : Type} [DecidableEq β] (d : β) (m : SMap β) (k : Nat) (f : β → β) : SMap β :=
  SMap.put d m k (f (SMap.get d m k))

/-- The indexes of a sparse array rise strictly. -/
def SMap.rising {β : Type} : SMap β → Bool
  | [] => true
  | [_] => true
  | (k, _) :: (k', v') :: m => decide (k < k') && SMap.rising ((k', v') :: m)

/-- The canonical form: indexes rise strictly and no entry equals the default. -/
def SMap.wf {β : Type} [DecidableEq β] (d : β) (m : SMap β) : Bool :=
  SMap.rising m && m.all (fun e => decide (e.2 ≠ d))

end Sys2Proof.Machine
end

