-- ==== Sys2Proof/Machine/Regs.lean ====
section
/-! DEFINITION. The register fields of every page, one constant per field under the manual's name PAGE.REGISTER.FIELD
(die prefix FE_ or TM_), taken from the register tables of the rules each comment names. A field stands in the
register file at its bit address in BAR0; its access type is R6's and its reset value the table's. Reserved bits have no
constant: they read 0 and discard writes (R4). -/

set_option linter.dupNamespace false

namespace Sys2Proof.Machine

/-- The access types of R6. -/
inductive Access where
  | ro | rw | rwe | w1c | w1s | wo | rwl
  deriving DecidableEq, Repr

/-- A register field. `page` is the page index (die * 4096 + page number) of the first page of its kind, `off` the
byte offset in the page of element 0, `cnt` the number of elements, which lie `per` to a word `bs` bits apart, the words
`stride` bytes apart; `lo` is the lowest bit, `w` the width, `lat` says that a read of the low word latches the high
word for the next read (64-bit counters). -/
structure Fld where
  page : Nat
  off : Nat
  cnt : Nat
  stride : Nat
  per : Nat
  bs : Nat
  lo : Nat
  w : Nat
  acc : Access
  reset : Nat
  lat : Bool
  deriving DecidableEq, Repr

/-- A field that stands once in its page. -/
def fld1 (page off lo w : Nat) (acc : Access) (reset : Nat) : Fld := ⟨page, off, 1, 0, 1, 0, lo, w, acc, reset, false⟩

/-- A field of an array of `cnt` registers `stride` bytes apart. -/
def fldN (page off cnt stride lo w : Nat) (acc : Access) (reset : Nat) : Fld :=
  ⟨page, off, cnt, stride, 1, 0, lo, w, acc, reset, false⟩

/-- A 64-bit counter, an array of `cnt` of them `stride` bytes apart; a read of LO latches HI. -/
def fldC (page off cnt stride : Nat) : Fld := ⟨page, off, cnt, stride, 1, 0, 0, 64, .ro, 0, true⟩

/-- The bit address in BAR0 of element `i` of a field of page instance `p` of its kind. -/
def Fld.key (f : Fld) (p i : Nat) : Nat :=
  ((f.page + p) * 4096 + f.off + f.stride * (i / f.per)) * 8 + f.lo + f.bs * (i % f.per)

/-! ### FE_GLOBAL (header only) -/
/-- The counter fields of FE_GLOBAL in the order of R415. -/
def FE_GLOBAL.ctrs : List Fld :=
  []
/-- The block fields of FE_GLOBAL. -/
def FE_GLOBAL.fields : List Fld :=
  []

/-! ### FE_CLK (R467) -/
def FE_CLK.STATUS.ROOT_LOCK : Fld := fld1 1 0x100 0 1 .ro 0
def FE_CLK.STATUS.CYCLE_SYNC : Fld := fld1 1 0x100 1 1 .ro 0
def FE_CLK.STATUS.REFCLK_OK : Fld := fld1 1 0x100 2 1 .ro 0
def FE_CLK.STATUS.AON_OSC_OK : Fld := fld1 1 0x100 3 1 .ro 0
def FE_CLK.SKEW_CNT.COUNT : Fld := fld1 1 0x104 0 16 .ro 0
def FE_CLK.AON_FREQ.KHZ : Fld := fld1 1 0x108 0 16 .ro 0
/-- The counter fields of FE_CLK in the order of R415. -/
def FE_CLK.ctrs : List Fld :=
  [FE_CLK.SKEW_CNT.COUNT]
/-- The block fields of FE_CLK. -/
def FE_CLK.fields : List Fld :=
  [FE_CLK.STATUS.ROOT_LOCK, FE_CLK.STATUS.CYCLE_SYNC, FE_CLK.STATUS.REFCLK_OK, FE_CLK.STATUS.AON_OSC_OK, FE_CLK.SKEW_CNT.COUNT, FE_CLK.AON_FREQ.KHZ]

/-! ### FE_PWR (R470) -/
def FE_PWR.STATUS.RETAINED : Fld := fld1 2 0x100 0 1 .ro 0
def FE_PWR.STATUS.SWITCH_OK : Fld := fld1 2 0x100 1 1 .ro 0
/-- The counter fields of FE_PWR in the order of R415. -/
def FE_PWR.ctrs : List Fld :=
  []
/-- The block fields of FE_PWR. -/
def FE_PWR.fields : List Fld :=
  [FE_PWR.STATUS.RETAINED, FE_PWR.STATUS.SWITCH_OK]

/-! ### FE_EPOCH (R102) -/
def FE_EPOCH.SELECTOR.BANK : Fld := fld1 3 0x100 0 1 .ro 0
def FE_EPOCH.SELECTOR.LANES : Fld := fld1 3 0x100 1 3 .ro 0
def FE_EPOCH.FLIP_CYCLE.CYCLE : Fld := fld1 3 0x104 0 64 .ro 0
def FE_EPOCH.LANE_ERR.COUNT : Fld := fld1 3 0x10c 0 16 .ro 0
def FE_EPOCH.STAMP_A.COUNT : Fld := fld1 3 0x110 0 32 .ro 0
def FE_EPOCH.STAMP_B.COUNT : Fld := fld1 3 0x114 0 32 .ro 0
/-- The counter fields of FE_EPOCH in the order of R415. -/
def FE_EPOCH.ctrs : List Fld :=
  [FE_EPOCH.LANE_ERR.COUNT, FE_EPOCH.STAMP_A.COUNT, FE_EPOCH.STAMP_B.COUNT]
/-- The block fields of FE_EPOCH. -/
def FE_EPOCH.fields : List Fld :=
  [FE_EPOCH.SELECTOR.BANK, FE_EPOCH.SELECTOR.LANES, FE_EPOCH.FLIP_CYCLE.CYCLE, FE_EPOCH.LANE_ERR.COUNT, FE_EPOCH.STAMP_A.COUNT, FE_EPOCH.STAMP_B.COUNT]

/-! ### FE_ALM (R103) -/
def FE_ALM.LOAD_STATUS.PHASE : Fld := fld1 4 0x100 0 2 .ro 0
def FE_ALM.LOAD_STATUS.ERROR : Fld := fld1 4 0x100 2 1 .ro 0
def FE_ALM.LOAD_STATUS.ERR_CODE : Fld := fld1 4 0x100 16 16 .ro 0
def FE_ALM.ERR_SECTION.INDEX : Fld := fld1 4 0x104 0 8 .ro 0
def FE_ALM.ERR_OFFSET.OFFSET : Fld := fld1 4 0x108 0 32 .ro 0
def FE_ALM.BYTES_LOADED.BYTES : Fld := fld1 4 0x10c 0 32 .ro 0
/-- The counter fields of FE_ALM in the order of R415. -/
def FE_ALM.ctrs : List Fld :=
  []
/-- The block fields of FE_ALM. -/
def FE_ALM.fields : List Fld :=
  [FE_ALM.LOAD_STATUS.PHASE, FE_ALM.LOAD_STATUS.ERROR, FE_ALM.LOAD_STATUS.ERR_CODE, FE_ALM.ERR_SECTION.INDEX, FE_ALM.ERR_OFFSET.OFFSET, FE_ALM.BYTES_LOADED.BYTES]

/-! ### FE_PG (R235, R237) -/
def FE_PG.PORT_CFG.ENABLE : Fld := fldN 16 0x100 8 0x4 0 1 .rw 0
def FE_PG.PORT_CFG.WIDTH : Fld := fldN 16 0x100 8 0x4 1 2 .rw 0
def FE_PG.PORT_CFG.SPEED : Fld := fldN 16 0x100 8 0x4 3 3 .rw 0
def FE_PG.PORT_CFG.SF : Fld := fldN 16 0x100 8 0x4 6 1 .rw 0
def FE_PG.PORT_CFG.PROT_MEMBER : Fld := fldN 16 0x100 8 0x4 7 1 .rw 0
def FE_PG.PORT_CFG.DEG_DOWN : Fld := fldN 16 0x100 8 0x4 8 1 .rw 0
def FE_PG.PORT_CFG.FORCE_RF : Fld := fldN 16 0x100 8 0x4 9 1 .rw 0
def FE_PG.PORT_CFG.AN_EN : Fld := fldN 16 0x100 8 0x4 10 1 .rw 0
def FE_PG.PORT_CFG.LT_EN : Fld := fldN 16 0x100 8 0x4 11 1 .rw 0
def FE_PG.PORT_CFG.MAX_FRAME : Fld := fldN 16 0x100 8 0x4 16 14 .rw 16000
def FE_PG.PORT_STATUS.LINK_UP : Fld := fldN 16 0x120 8 0x4 0 1 .ro 0
def FE_PG.PORT_STATUS.LOS : Fld := fldN 16 0x120 8 0x4 1 1 .ro 0
def FE_PG.PORT_STATUS.LOCAL_FAULT : Fld := fldN 16 0x120 8 0x4 2 1 .ro 0
def FE_PG.PORT_STATUS.REMOTE_FAULT : Fld := fldN 16 0x120 8 0x4 3 1 .ro 0
def FE_PG.PORT_STATUS.DEG : Fld := fldN 16 0x120 8 0x4 4 1 .ro 0
def FE_PG.PORT_STATUS.AN_DONE : Fld := fldN 16 0x120 8 0x4 5 1 .ro 0
def FE_PG.PORT_STATUS.LT_DONE : Fld := fldN 16 0x120 8 0x4 6 1 .ro 0
def FE_PG.PORT_STATUS.PROT_STATE : Fld := fldN 16 0x120 8 0x4 7 2 .ro 1
def FE_PG.PORT_STATUS.PREEMPT_ACTIVE : Fld := fldN 16 0x120 8 0x4 9 1 .ro 0
def FE_PG.PORT_STATUS.VERIFY : Fld := fldN 16 0x120 8 0x4 10 2 .ro 0
def FE_PG.PORT_STATUS.WTR_LEFT : Fld := fldN 16 0x120 8 0x4 16 16 .ro 0
def FE_PG.DEG_CFG.DEG_THR : Fld := fldN 16 0x140 8 0x4 0 24 .rw 16000
def FE_PG.DEG_CFG.DEG_M : Fld := fldN 16 0x140 8 0x4 24 4 .rw 7
def FE_PG.PFC_CFG.PFC_EN : Fld := fldN 16 0x160 8 0x4 0 8 .rw 0
def FE_PG.PFC_CFG.QUANTA : Fld := fldN 16 0x160 8 0x4 16 16 .rw 65535
def FE_PG.PFC_THR.PFC_XOFF : Fld := fldN 16 0x180 8 0x4 0 16 .rw 4096
def FE_PG.PFC_THR.PFC_XON : Fld := fldN 16 0x180 8 0x4 16 16 .rw 3072
def FE_PG.PREEMPT_CFG.EN : Fld := fldN 16 0x1a0 8 0x4 0 1 .rw 0
def FE_PG.PREEMPT_CFG.ADD_FRAG_SIZE : Fld := fldN 16 0x1a0 8 0x4 1 2 .rw 0
def FE_PG.PREEMPT_CFG.VERIFY_DIS : Fld := fldN 16 0x1a0 8 0x4 3 1 .rw 0
def FE_PG.PREEMPT_CFG.VERIFY_MS : Fld := fldN 16 0x1a0 8 0x4 4 8 .rw 10
def FE_PG.LAT.D_MAC_RX : Fld := fldN 16 0x1c0 8 0x4 0 16 .ro 281
def FE_PG.LAT.D_MAC_TX : Fld := fldN 16 0x1c0 8 0x4 16 16 .ro 130
def FE_PG.HOLD.BLOCK_BYTES : Fld := fldN 16 0x1e0 8 0x4 0 16 .ro 16020
def FE_PG.TS_NS.NS : Fld := fld1 16 0x200 0 32 .ro 0
def FE_PG.TS_SEC_LO.SEC : Fld := fld1 16 0x204 0 32 .ro 0
def FE_PG.TS_SEC_HI.SEC : Fld := fld1 16 0x208 0 16 .ro 0
def FE_PG.TS_SEC_HI.TS_ID : Fld := fld1 16 0x208 16 16 .ro 0
def FE_PG.TS_CTRL.SLOT : Fld := fld1 16 0x20c 0 3 .ro 0
def FE_PG.TS_CTRL.TS_VALID : Fld := fld1 16 0x20c 3 1 .ro 0
def FE_PG.TS_CTRL.TS_ACK : Fld := fld1 16 0x20c 4 1 .wo 0
def FE_PG.TS_OVF.COUNT : Fld := fld1 16 0x210 0 32 .ro 0
def FE_PG.TS_ERR.COUNT : Fld := fld1 16 0x214 0 32 .ro 0
def FE_PG.CNT.RX_FRAMES : Fld := fldC 16 0x400 8 0x80
def FE_PG.CNT.RX_BYTES : Fld := fldC 16 0x408 8 0x80
def FE_PG.CNT.RX_FCS_ERR : Fld := fldC 16 0x410 8 0x80
def FE_PG.CNT.RX_LEN_ERR : Fld := fldC 16 0x418 8 0x80
def FE_PG.CNT.RX_TRUNC : Fld := fldC 16 0x420 8 0x80
def FE_PG.CNT.RX_MAC_CTRL : Fld := fldC 16 0x428 8 0x80
def FE_PG.CNT.TX_FRAMES : Fld := fldC 16 0x430 8 0x80
def FE_PG.CNT.TX_BYTES : Fld := fldC 16 0x438 8 0x80
def FE_PG.CNT.TX_STOMPED : Fld := fldC 16 0x440 8 0x80
def FE_PG.CNT.TX_TAIL_BAD_DROP : Fld := fldC 16 0x448 8 0x80
def FE_PG.CNT.TX_OVERSIZE : Fld := fldC 16 0x450 8 0x80
def FE_PG.CNT.LINK_DOWN_DROP : Fld := fldC 16 0x458 8 0x80
def FE_PG.CNT.FEC_CORR_SYM : Fld := fldC 16 0x460 8 0x80
def FE_PG.CNT.FEC_UNCORR_CW : Fld := fldC 16 0x468 8 0x80
def FE_PG.CNT.PFC_RX : Fld := fldC 16 0x470 8 0x80
def FE_PG.CNT.PFC_TX : Fld := fldC 16 0x478 8 0x80
/-- The counter fields of FE_PG in the order of R415. -/
def FE_PG.ctrs : List Fld :=
  [FE_PG.TS_OVF.COUNT, FE_PG.TS_ERR.COUNT, FE_PG.CNT.RX_FRAMES, FE_PG.CNT.RX_BYTES, FE_PG.CNT.RX_FCS_ERR, FE_PG.CNT.RX_LEN_ERR, FE_PG.CNT.RX_TRUNC, FE_PG.CNT.RX_MAC_CTRL, FE_PG.CNT.TX_FRAMES, FE_PG.CNT.TX_BYTES, FE_PG.CNT.TX_STOMPED, FE_PG.CNT.TX_TAIL_BAD_DROP] ++
  [FE_PG.CNT.TX_OVERSIZE, FE_PG.CNT.LINK_DOWN_DROP, FE_PG.CNT.FEC_CORR_SYM, FE_PG.CNT.FEC_UNCORR_CW, FE_PG.CNT.PFC_RX, FE_PG.CNT.PFC_TX]
/-- The block fields of FE_PG. -/
def FE_PG.fields : List Fld :=
  [FE_PG.PORT_CFG.ENABLE, FE_PG.PORT_CFG.WIDTH, FE_PG.PORT_CFG.SPEED, FE_PG.PORT_CFG.SF, FE_PG.PORT_CFG.PROT_MEMBER, FE_PG.PORT_CFG.DEG_DOWN, FE_PG.PORT_CFG.FORCE_RF, FE_PG.PORT_CFG.AN_EN, FE_PG.PORT_CFG.LT_EN, FE_PG.PORT_CFG.MAX_FRAME, FE_PG.PORT_STATUS.LINK_UP, FE_PG.PORT_STATUS.LOS] ++
  [FE_PG.PORT_STATUS.LOCAL_FAULT, FE_PG.PORT_STATUS.REMOTE_FAULT, FE_PG.PORT_STATUS.DEG, FE_PG.PORT_STATUS.AN_DONE, FE_PG.PORT_STATUS.LT_DONE, FE_PG.PORT_STATUS.PROT_STATE, FE_PG.PORT_STATUS.PREEMPT_ACTIVE, FE_PG.PORT_STATUS.VERIFY, FE_PG.PORT_STATUS.WTR_LEFT, FE_PG.DEG_CFG.DEG_THR, FE_PG.DEG_CFG.DEG_M, FE_PG.PFC_CFG.PFC_EN] ++
  [FE_PG.PFC_CFG.QUANTA, FE_PG.PFC_THR.PFC_XOFF, FE_PG.PFC_THR.PFC_XON, FE_PG.PREEMPT_CFG.EN, FE_PG.PREEMPT_CFG.ADD_FRAG_SIZE, FE_PG.PREEMPT_CFG.VERIFY_DIS, FE_PG.PREEMPT_CFG.VERIFY_MS, FE_PG.LAT.D_MAC_RX, FE_PG.LAT.D_MAC_TX, FE_PG.HOLD.BLOCK_BYTES, FE_PG.TS_NS.NS, FE_PG.TS_SEC_LO.SEC] ++
  [FE_PG.TS_SEC_HI.SEC, FE_PG.TS_SEC_HI.TS_ID, FE_PG.TS_CTRL.SLOT, FE_PG.TS_CTRL.TS_VALID, FE_PG.TS_CTRL.TS_ACK, FE_PG.TS_OVF.COUNT, FE_PG.TS_ERR.COUNT, FE_PG.CNT.RX_FRAMES, FE_PG.CNT.RX_BYTES, FE_PG.CNT.RX_FCS_ERR, FE_PG.CNT.RX_LEN_ERR, FE_PG.CNT.RX_TRUNC] ++
  [FE_PG.CNT.RX_MAC_CTRL, FE_PG.CNT.TX_FRAMES, FE_PG.CNT.TX_BYTES, FE_PG.CNT.TX_STOMPED, FE_PG.CNT.TX_TAIL_BAD_DROP, FE_PG.CNT.TX_OVERSIZE, FE_PG.CNT.LINK_DOWN_DROP, FE_PG.CNT.FEC_CORR_SYM, FE_PG.CNT.FEC_UNCORR_CW, FE_PG.CNT.PFC_RX, FE_PG.CNT.PFC_TX]

/-! ### FE_SDN (R238) -/
def FE_SDN.LANE_CFG.TX_INVERT : Fld := fldN 48 0x100 16 0x40 0 1 .rw 0
def FE_SDN.LANE_CFG.RX_INVERT : Fld := fldN 48 0x100 16 0x40 1 1 .rw 0
def FE_SDN.LANE_CFG.TX_DISABLE : Fld := fldN 48 0x100 16 0x40 2 1 .rw 0
def FE_SDN.LANE_CFG.PRBS_GEN : Fld := fldN 48 0x100 16 0x40 3 3 .rw 0
def FE_SDN.LANE_CFG.PRBS_CHK : Fld := fldN 48 0x100 16 0x40 6 3 .rw 0
def FE_SDN.LANE_CFG.NEAR_LOOPBACK : Fld := fldN 48 0x100 16 0x40 9 1 .rw 0
def FE_SDN.LANE_CFG.ADAPT_FREEZE : Fld := fldN 48 0x100 16 0x40 10 1 .rw 0
def FE_SDN.TX_FFE0.C_M3 : Fld := fldN 48 0x104 16 0x40 0 8 .rw 0
def FE_SDN.TX_FFE0.C_M2 : Fld := fldN 48 0x104 16 0x40 8 8 .rw 0
def FE_SDN.TX_FFE0.C_M1 : Fld := fldN 48 0x104 16 0x40 16 8 .rw 0
def FE_SDN.TX_FFE0.C0 : Fld := fldN 48 0x104 16 0x40 24 8 .rw 127
def FE_SDN.TX_FFE1.C_P1 : Fld := fldN 48 0x108 16 0x40 0 8 .rw 0
def FE_SDN.LANE_STATUS.RATE : Fld := fldN 48 0x10c 16 0x40 0 2 .ro 0
def FE_SDN.LANE_STATUS.SIGNAL : Fld := fldN 48 0x10c 16 0x40 2 1 .ro 0
def FE_SDN.LANE_STATUS.CDR_LOCK : Fld := fldN 48 0x10c 16 0x40 3 1 .ro 0
def FE_SDN.LANE_STATUS.ADAPT_DONE : Fld := fldN 48 0x10c 16 0x40 4 1 .ro 0
def FE_SDN.LANE_STATUS.EYE_MARGIN : Fld := fldN 48 0x10c 16 0x40 8 8 .ro 0
def FE_SDN.PRBS_ERR.COUNT : Fld := fldC 48 0x110 16 0x40
/-- The counter fields of FE_SDN in the order of R415. -/
def FE_SDN.ctrs : List Fld :=
  [FE_SDN.PRBS_ERR.COUNT]
/-- The block fields of FE_SDN. -/
def FE_SDN.fields : List Fld :=
  [FE_SDN.LANE_CFG.TX_INVERT, FE_SDN.LANE_CFG.RX_INVERT, FE_SDN.LANE_CFG.TX_DISABLE, FE_SDN.LANE_CFG.PRBS_GEN, FE_SDN.LANE_CFG.PRBS_CHK, FE_SDN.LANE_CFG.NEAR_LOOPBACK, FE_SDN.LANE_CFG.ADAPT_FREEZE, FE_SDN.TX_FFE0.C_M3, FE_SDN.TX_FFE0.C_M2, FE_SDN.TX_FFE0.C_M1, FE_SDN.TX_FFE0.C0, FE_SDN.TX_FFE1.C_P1] ++
  [FE_SDN.LANE_STATUS.RATE, FE_SDN.LANE_STATUS.SIGNAL, FE_SDN.LANE_STATUS.CDR_LOCK, FE_SDN.LANE_STATUS.ADAPT_DONE, FE_SDN.LANE_STATUS.EYE_MARGIN, FE_SDN.PRBS_ERR.COUNT]

/-! ### FE_PARSE (R151) -/
def FE_PARSE.FAIL_ACT.ACT : Fld := ⟨64, 0x100, 16, 0x4, 16, 2, 0, 2, .rwe, 5592404, false⟩
def FE_PARSE.INFO.RESULT_STAGE : Fld := fld1 64 0x104 0 8 .ro 24
def FE_PARSE.INFO.MAX_STEPS : Fld := fld1 64 0x104 8 8 .ro 48
def FE_PARSE.STATES.NI : Fld := fld1 64 0x108 0 7 .ro 0
def FE_PARSE.STATES.NE : Fld := fld1 64 0x108 8 7 .ro 0
def FE_PARSE.FAIL_DROP_I.COUNT : Fld := fld1 64 0x10c 0 32 .ro 0
def FE_PARSE.FAIL_DROP_E.COUNT : Fld := fld1 64 0x110 0 32 .ro 0
def FE_PARSE.EMIT_DROP.COUNT : Fld := fld1 64 0x114 0 32 .ro 0
def FE_PARSE.EMIT_PAD.COUNT : Fld := fld1 64 0x118 0 32 .ro 0
def FE_PARSE.FAIL_CNT_I.COUNT : Fld := fldN 64 0x200 16 0x4 0 32 .ro 0
def FE_PARSE.FAIL_CNT_E.COUNT : Fld := fldN 64 0x240 16 0x4 0 32 .ro 0
/-- The counter fields of FE_PARSE in the order of R415. -/
def FE_PARSE.ctrs : List Fld :=
  [FE_PARSE.FAIL_DROP_I.COUNT, FE_PARSE.FAIL_DROP_E.COUNT, FE_PARSE.EMIT_DROP.COUNT, FE_PARSE.EMIT_PAD.COUNT, FE_PARSE.FAIL_CNT_I.COUNT, FE_PARSE.FAIL_CNT_E.COUNT]
/-- The block fields of FE_PARSE. -/
def FE_PARSE.fields : List Fld :=
  [FE_PARSE.FAIL_ACT.ACT, FE_PARSE.INFO.RESULT_STAGE, FE_PARSE.INFO.MAX_STEPS, FE_PARSE.STATES.NI, FE_PARSE.STATES.NE, FE_PARSE.FAIL_DROP_I.COUNT, FE_PARSE.FAIL_DROP_E.COUNT, FE_PARSE.EMIT_DROP.COUNT, FE_PARSE.EMIT_PAD.COUNT, FE_PARSE.FAIL_CNT_I.COUNT, FE_PARSE.FAIL_CNT_E.COUNT]

/-! ### FE_CLASS (R152) -/
def FE_CLASS.CHAIN_INFO.TABLES : Fld := fld1 65 0x100 0 4 .ro 0
def FE_CLASS.PUNT_RATE.RATE : Fld := fldN 65 0x200 64 0x8 0 24 .rw 1000
def FE_CLASS.PUNT_BURST.BURST : Fld := fldN 65 0x204 64 0x8 0 16 .rw 64
def FE_CLASS.PUNT_PASS.COUNT : Fld := fldN 65 0x400 64 0x4 0 32 .ro 0
def FE_CLASS.PUNT_METER_DROP.COUNT : Fld := fldN 65 0x500 64 0x4 0 32 .ro 0
def FE_CLASS.HIT.COUNT : Fld := fldN 65 0x600 12 0x4 0 32 .ro 0
def FE_CLASS.MISS.COUNT : Fld := fldN 65 0x640 12 0x4 0 32 .ro 0
/-- The counter fields of FE_CLASS in the order of R415. -/
def FE_CLASS.ctrs : List Fld :=
  [FE_CLASS.PUNT_PASS.COUNT, FE_CLASS.PUNT_METER_DROP.COUNT, FE_CLASS.HIT.COUNT, FE_CLASS.MISS.COUNT]
/-- The block fields of FE_CLASS. -/
def FE_CLASS.fields : List Fld :=
  [FE_CLASS.CHAIN_INFO.TABLES, FE_CLASS.PUNT_RATE.RATE, FE_CLASS.PUNT_BURST.BURST, FE_CLASS.PUNT_PASS.COUNT, FE_CLASS.PUNT_METER_DROP.COUNT, FE_CLASS.HIT.COUNT, FE_CLASS.MISS.COUNT]

/-! ### FE_LPM (R176) -/
def FE_LPM.VRF_NH_BASE4.BASE : Fld := fld1 66 0x100 0 20 .rwe 0
def FE_LPM.VRF_NH_BASE6.BASE : Fld := fld1 66 0x104 0 20 .rwe 4096
def FE_LPM.ROUTE_IDS.FILTER4 : Fld := fld1 66 0x108 0 8 .ro 255
def FE_LPM.ROUTE_IDS.FILTER6 : Fld := fld1 66 0x108 8 8 .ro 255
def FE_LPM.ROUTE_IDS.CLASS4 : Fld := fld1 66 0x108 16 8 .ro 255
def FE_LPM.ROUTE_IDS.CLASS6 : Fld := fld1 66 0x108 24 8 .ro 255
def FE_LPM.FILTER4_LINES.LINES : Fld := fld1 66 0x10c 0 25 .ro 0
def FE_LPM.FILTER6_LINES.LINES : Fld := fld1 66 0x110 0 25 .ro 0
def FE_LPM.CLASS4_LINES.LINES : Fld := fldN 66 0x120 4 0x4 0 25 .ro 0
def FE_LPM.CLASS6_LINES.LINES : Fld := fldN 66 0x130 4 0x4 0 25 .ro 0
def FE_LPM.FILTER4_CNT.COUNT : Fld := fld1 66 0x140 0 25 .ro 0
def FE_LPM.FILTER6_CNT.COUNT : Fld := fld1 66 0x144 0 25 .ro 0
def FE_LPM.CLASS4_CNT.COUNT : Fld := fldN 66 0x150 4 0x4 0 25 .ro 0
def FE_LPM.CLASS6_CNT.COUNT : Fld := fldN 66 0x160 4 0x4 0 25 .ro 0
def FE_LPM.FILTER4_HIT.COUNT : Fld := fld1 66 0x180 0 32 .ro 0
def FE_LPM.FILTER4_MISS.COUNT : Fld := fld1 66 0x184 0 32 .ro 0
def FE_LPM.FILTER6_HIT.COUNT : Fld := fld1 66 0x188 0 32 .ro 0
def FE_LPM.FILTER6_MISS.COUNT : Fld := fld1 66 0x18c 0 32 .ro 0
def FE_LPM.CLASS4_HIT.COUNT : Fld := fldN 66 0x190 4 0x4 0 32 .ro 0
def FE_LPM.CLASS6_HIT.COUNT : Fld := fldN 66 0x1a0 4 0x4 0 32 .ro 0
def FE_LPM.UNC_CNT.COUNT : Fld := fld1 66 0x1b0 0 32 .ro 0
/-- The counter fields of FE_LPM in the order of R415. -/
def FE_LPM.ctrs : List Fld :=
  [FE_LPM.FILTER4_CNT.COUNT, FE_LPM.FILTER6_CNT.COUNT, FE_LPM.CLASS4_CNT.COUNT, FE_LPM.CLASS6_CNT.COUNT, FE_LPM.FILTER4_HIT.COUNT, FE_LPM.FILTER4_MISS.COUNT, FE_LPM.FILTER6_HIT.COUNT, FE_LPM.FILTER6_MISS.COUNT, FE_LPM.CLASS4_HIT.COUNT, FE_LPM.CLASS6_HIT.COUNT, FE_LPM.UNC_CNT.COUNT]
/-- The block fields of FE_LPM. -/
def FE_LPM.fields : List Fld :=
  [FE_LPM.VRF_NH_BASE4.BASE, FE_LPM.VRF_NH_BASE6.BASE, FE_LPM.ROUTE_IDS.FILTER4, FE_LPM.ROUTE_IDS.FILTER6, FE_LPM.ROUTE_IDS.CLASS4, FE_LPM.ROUTE_IDS.CLASS6, FE_LPM.FILTER4_LINES.LINES, FE_LPM.FILTER6_LINES.LINES, FE_LPM.CLASS4_LINES.LINES, FE_LPM.CLASS6_LINES.LINES, FE_LPM.FILTER4_CNT.COUNT, FE_LPM.FILTER6_CNT.COUNT] ++
  [FE_LPM.CLASS4_CNT.COUNT, FE_LPM.CLASS6_CNT.COUNT, FE_LPM.FILTER4_HIT.COUNT, FE_LPM.FILTER4_MISS.COUNT, FE_LPM.FILTER6_HIT.COUNT, FE_LPM.FILTER6_MISS.COUNT, FE_LPM.CLASS4_HIT.COUNT, FE_LPM.CLASS6_HIT.COUNT, FE_LPM.UNC_CNT.COUNT]

/-! ### FE_EXM (R177) -/
def FE_EXM.EXM_IDS.MPLS : Fld := fld1 67 0x100 0 8 .ro 255
def FE_EXM.EXM_IDS.MAC : Fld := fld1 67 0x100 8 8 .ro 255
def FE_EXM.EXM_IDS.NH : Fld := fld1 67 0x100 16 8 .ro 255
def FE_EXM.EXM_IDS.GROUP : Fld := fld1 67 0x100 24 8 .ro 255
def FE_EXM.MEMBER_ID.MEMBER : Fld := fld1 67 0x104 0 8 .ro 255
def FE_EXM.NH_SIZE.ENTRIES : Fld := fld1 67 0x108 0 21 .ro 0
def FE_EXM.GROUP_SIZE.ENTRIES : Fld := fld1 67 0x10c 0 17 .ro 0
def FE_EXM.MEMBER_SIZE.ENTRIES : Fld := fld1 67 0x110 0 24 .ro 0
def FE_EXM.MPLS_CNT.COUNT : Fld := fld1 67 0x114 0 25 .ro 0
def FE_EXM.MAC_CNT.COUNT : Fld := fld1 67 0x118 0 25 .ro 0
def FE_EXM.MPLS_HIT.COUNT : Fld := fld1 67 0x120 0 32 .ro 0
def FE_EXM.MPLS_MISS.COUNT : Fld := fld1 67 0x124 0 32 .ro 0
def FE_EXM.MAC_HIT.COUNT : Fld := fld1 67 0x128 0 32 .ro 0
def FE_EXM.MAC_MISS.COUNT : Fld := fld1 67 0x12c 0 32 .ro 0
def FE_EXM.INDEX_RANGE.COUNT : Fld := fld1 67 0x130 0 32 .ro 0
def FE_EXM.UNC_CNT.COUNT : Fld := fld1 67 0x134 0 32 .ro 0
/-- The counter fields of FE_EXM in the order of R415. -/
def FE_EXM.ctrs : List Fld :=
  [FE_EXM.MPLS_CNT.COUNT, FE_EXM.MAC_CNT.COUNT, FE_EXM.MPLS_HIT.COUNT, FE_EXM.MPLS_MISS.COUNT, FE_EXM.MAC_HIT.COUNT, FE_EXM.MAC_MISS.COUNT, FE_EXM.INDEX_RANGE.COUNT, FE_EXM.UNC_CNT.COUNT]
/-- The block fields of FE_EXM. -/
def FE_EXM.fields : List Fld :=
  [FE_EXM.EXM_IDS.MPLS, FE_EXM.EXM_IDS.MAC, FE_EXM.EXM_IDS.NH, FE_EXM.EXM_IDS.GROUP, FE_EXM.MEMBER_ID.MEMBER, FE_EXM.NH_SIZE.ENTRIES, FE_EXM.GROUP_SIZE.ENTRIES, FE_EXM.MEMBER_SIZE.ENTRIES, FE_EXM.MPLS_CNT.COUNT, FE_EXM.MAC_CNT.COUNT, FE_EXM.MPLS_HIT.COUNT, FE_EXM.MPLS_MISS.COUNT] ++
  [FE_EXM.MAC_HIT.COUNT, FE_EXM.MAC_MISS.COUNT, FE_EXM.INDEX_RANGE.COUNT, FE_EXM.UNC_CNT.COUNT]

/-! ### FE_TCMD (R209) -/
def FE_TCMD.HOLD.TABLE : Fld := fld1 68 0x100 0 8 .rw 0
def FE_TCMD.HOLD.ENABLE : Fld := fld1 68 0x100 8 1 .rw 0
def FE_TCMD.HOLD.ACTIVE : Fld := fld1 68 0x100 9 1 .ro 0
def FE_TCMD.SCRUB_CTRL.PERIOD_S : Fld := fld1 68 0x104 0 16 .rw 10
def FE_TCMD.CMD_WRITES.COUNT : Fld := fld1 68 0x108 0 32 .ro 0
def FE_TCMD.LEARN_WRITES.COUNT : Fld := fld1 68 0x10c 0 32 .ro 0
def FE_TCMD.HIT_WRITES.COUNT : Fld := fld1 68 0x110 0 32 .ro 0
def FE_TCMD.AGER_WRITES.COUNT : Fld := fld1 68 0x114 0 32 .ro 0
def FE_TCMD.HIT_LOST.COUNT : Fld := fld1 68 0x118 0 32 .ro 0
def FE_TCMD.REHASH.COUNT : Fld := fld1 68 0x11c 0 16 .ro 0
def FE_TCMD.REHASH.LAST_TABLE : Fld := fld1 68 0x11c 16 8 .ro 0
def FE_TCMD.SCRUB_CORR.COUNT : Fld := fld1 68 0x120 0 32 .ro 0
def FE_TCMD.SCRUB_REPAIRED.COUNT : Fld := fld1 68 0x124 0 32 .ro 0
def FE_TCMD.SCRUB_UNC.COUNT : Fld := fld1 68 0x128 0 32 .ro 0
def FE_TCMD.SCRUB_LAST.LOGICAL : Fld := fld1 68 0x12c 0 11 .ro 0
def FE_TCMD.SCRUB_LAST.LINE : Fld := fld1 68 0x12c 16 16 .ro 0
def FE_TCMD.LIVE.REGION : Fld := ⟨68, 0x140, 256, 0x4, 32, 1, 0, 1, .ro, 0, false⟩
/-- The counter fields of FE_TCMD in the order of R415. -/
def FE_TCMD.ctrs : List Fld :=
  [FE_TCMD.CMD_WRITES.COUNT, FE_TCMD.LEARN_WRITES.COUNT, FE_TCMD.HIT_WRITES.COUNT, FE_TCMD.AGER_WRITES.COUNT, FE_TCMD.HIT_LOST.COUNT, FE_TCMD.REHASH.COUNT, FE_TCMD.SCRUB_CORR.COUNT, FE_TCMD.SCRUB_REPAIRED.COUNT, FE_TCMD.SCRUB_UNC.COUNT]
/-- The block fields of FE_TCMD. -/
def FE_TCMD.fields : List Fld :=
  [FE_TCMD.HOLD.TABLE, FE_TCMD.HOLD.ENABLE, FE_TCMD.HOLD.ACTIVE, FE_TCMD.SCRUB_CTRL.PERIOD_S, FE_TCMD.CMD_WRITES.COUNT, FE_TCMD.LEARN_WRITES.COUNT, FE_TCMD.HIT_WRITES.COUNT, FE_TCMD.AGER_WRITES.COUNT, FE_TCMD.HIT_LOST.COUNT, FE_TCMD.REHASH.COUNT, FE_TCMD.REHASH.LAST_TABLE, FE_TCMD.SCRUB_CORR.COUNT] ++
  [FE_TCMD.SCRUB_REPAIRED.COUNT, FE_TCMD.SCRUB_UNC.COUNT, FE_TCMD.SCRUB_LAST.LOGICAL, FE_TCMD.SCRUB_LAST.LINE, FE_TCMD.LIVE.REGION]

/-! ### FE_TDMA (R210) -/
def FE_TDMA.LOCK_CTRL.TABLE_ID : Fld := fld1 69 0x100 0 8 .rw 0
def FE_TDMA.LOCK_CTRL.REGION : Fld := fld1 69 0x100 8 1 .rw 0
def FE_TDMA.LOCK_CTRL.STAGED : Fld := fld1 69 0x100 9 1 .rw 0
def FE_TDMA.LOCK_CTRL.OP : Fld := fld1 69 0x100 10 1 .rw 0
def FE_TDMA.LOCK_CTRL.GO : Fld := fld1 69 0x100 11 1 .wo 0
def FE_TDMA.LOCK_CTRL.FIRST_SEG : Fld := fld1 69 0x100 16 8 .rw 0
def FE_TDMA.LOCK_CTRL.LAST_SEG : Fld := fld1 69 0x100 24 8 .rw 0
def FE_TDMA.LOCK_MAP.LOCKED : Fld := fldN 69 0x104 8 0x4 0 32 .ro 0
def FE_TDMA.LOCKED_SEGS.COUNT : Fld := fld1 69 0x124 0 16 .ro 0
def FE_TDMA.DMA_WORDS.COUNT : Fld := fld1 69 0x128 0 32 .ro 0
def FE_TDMA.DMA_UNLOCKED.COUNT : Fld := fld1 69 0x12c 0 32 .ro 0
def FE_TDMA.DMA_LAST_DISCARD.OFFSET : Fld := fld1 69 0x130 0 32 .ro 0
/-- The counter fields of FE_TDMA in the order of R415. -/
def FE_TDMA.ctrs : List Fld :=
  [FE_TDMA.LOCKED_SEGS.COUNT, FE_TDMA.DMA_WORDS.COUNT, FE_TDMA.DMA_UNLOCKED.COUNT]
/-- The block fields of FE_TDMA. -/
def FE_TDMA.fields : List Fld :=
  [FE_TDMA.LOCK_CTRL.TABLE_ID, FE_TDMA.LOCK_CTRL.REGION, FE_TDMA.LOCK_CTRL.STAGED, FE_TDMA.LOCK_CTRL.OP, FE_TDMA.LOCK_CTRL.GO, FE_TDMA.LOCK_CTRL.FIRST_SEG, FE_TDMA.LOCK_CTRL.LAST_SEG, FE_TDMA.LOCK_MAP.LOCKED, FE_TDMA.LOCKED_SEGS.COUNT, FE_TDMA.DMA_WORDS.COUNT, FE_TDMA.DMA_UNLOCKED.COUNT, FE_TDMA.DMA_LAST_DISCARD.OFFSET]

/-! ### FE_LEARN (R211) -/
def FE_LEARN.CTRL.ENABLE : Fld := fld1 70 0x100 0 1 .rw 0
def FE_LEARN.MOVE_MAX.MAX : Fld := fld1 70 0x104 0 8 .rw 4
def FE_LEARN.PORT_NH_BASE.BASE : Fld := fld1 70 0x108 0 20 .rw 8192
def FE_LEARN.QUEUE.DEPTH : Fld := fld1 70 0x10c 0 15 .ro 0
def FE_LEARN.PORT_EN.EN : Fld := fldN 70 0x110 8 0x4 0 32 .rw 4294967295
def FE_LEARN.INSERTED.COUNT : Fld := fld1 70 0x130 0 32 .ro 0
def FE_LEARN.MOVED.COUNT : Fld := fld1 70 0x134 0 32 .ro 0
def FE_LEARN.DAMPED.COUNT : Fld := fld1 70 0x138 0 32 .ro 0
def FE_LEARN.DUPLICATE.COUNT : Fld := fld1 70 0x13c 0 32 .ro 0
def FE_LEARN.NO_ROOM.COUNT : Fld := fld1 70 0x140 0 32 .ro 0
def FE_LEARN.STATIC.COUNT : Fld := fld1 70 0x144 0 32 .ro 0
def FE_LEARN.STATIC_OTHER.COUNT : Fld := fld1 70 0x148 0 32 .ro 0
def FE_LEARN.QUEUE_DROP.COUNT : Fld := fld1 70 0x14c 0 32 .ro 0
def FE_LEARN.NOTIFY_BASE_LO.ADDR : Fld := fld1 70 0x160 12 20 .rw 0
def FE_LEARN.NOTIFY_BASE_HI.ADDR : Fld := fld1 70 0x164 0 32 .rw 0
def FE_LEARN.NOTIFY_CTRL.LOG2_SIZE : Fld := fld1 70 0x168 0 5 .rw 6
def FE_LEARN.NOTIFY_CTRL.ENABLE : Fld := fld1 70 0x168 5 1 .rw 0
def FE_LEARN.NOTIFY_CTRL.OUTCOMES : Fld := fld1 70 0x168 8 7 .rw 127
def FE_LEARN.NOTIFY_STATUS.TAIL : Fld := fld1 70 0x16c 0 16 .ro 0
def FE_LEARN.NOTIFY_STATUS.PHASE : Fld := fld1 70 0x16c 16 1 .ro 1
def FE_LEARN.NOTIFY_HEAD.HEAD : Fld := fld1 70 0x170 0 16 .rw 0
def FE_LEARN.NOTIFY_DROP.COUNT : Fld := fld1 70 0x174 0 32 .ro 0
/-- The counter fields of FE_LEARN in the order of R415. -/
def FE_LEARN.ctrs : List Fld :=
  [FE_LEARN.INSERTED.COUNT, FE_LEARN.MOVED.COUNT, FE_LEARN.DAMPED.COUNT, FE_LEARN.DUPLICATE.COUNT, FE_LEARN.NO_ROOM.COUNT, FE_LEARN.STATIC.COUNT, FE_LEARN.STATIC_OTHER.COUNT, FE_LEARN.QUEUE_DROP.COUNT, FE_LEARN.NOTIFY_DROP.COUNT]
/-- The block fields of FE_LEARN. -/
def FE_LEARN.fields : List Fld :=
  [FE_LEARN.CTRL.ENABLE, FE_LEARN.MOVE_MAX.MAX, FE_LEARN.PORT_NH_BASE.BASE, FE_LEARN.QUEUE.DEPTH, FE_LEARN.PORT_EN.EN, FE_LEARN.INSERTED.COUNT, FE_LEARN.MOVED.COUNT, FE_LEARN.DAMPED.COUNT, FE_LEARN.DUPLICATE.COUNT, FE_LEARN.NO_ROOM.COUNT, FE_LEARN.STATIC.COUNT, FE_LEARN.STATIC_OTHER.COUNT] ++
  [FE_LEARN.QUEUE_DROP.COUNT, FE_LEARN.NOTIFY_BASE_LO.ADDR, FE_LEARN.NOTIFY_BASE_HI.ADDR, FE_LEARN.NOTIFY_CTRL.LOG2_SIZE, FE_LEARN.NOTIFY_CTRL.ENABLE, FE_LEARN.NOTIFY_CTRL.OUTCOMES, FE_LEARN.NOTIFY_STATUS.TAIL, FE_LEARN.NOTIFY_STATUS.PHASE, FE_LEARN.NOTIFY_HEAD.HEAD, FE_LEARN.NOTIFY_DROP.COUNT]

/-! ### FE_AGE (R212) -/
def FE_AGE.CTRL.ENABLE : Fld := fld1 71 0x100 0 1 .rw 0
def FE_AGE.TICK.MS : Fld := fld1 71 0x104 0 16 .rw 1000
def FE_AGE.LIMIT.TICKS : Fld := fld1 71 0x108 0 15 .rw 300
def FE_AGE.NOW.TICKS : Fld := fld1 71 0x10c 0 16 .ro 0
def FE_AGE.REFRESHED.COUNT : Fld := fld1 71 0x110 0 32 .ro 0
def FE_AGE.AGED_OUT.COUNT : Fld := fld1 71 0x114 0 32 .ro 0
def FE_AGE.AGE_SAVED.COUNT : Fld := fld1 71 0x118 0 32 .ro 0
def FE_AGE.WALK_OVERRUN.COUNT : Fld := fld1 71 0x11c 0 32 .ro 0
def FE_AGE.LAST_WALK_US.US : Fld := fld1 71 0x120 0 32 .ro 0
/-- The counter fields of FE_AGE in the order of R415. -/
def FE_AGE.ctrs : List Fld :=
  [FE_AGE.REFRESHED.COUNT, FE_AGE.AGED_OUT.COUNT, FE_AGE.AGE_SAVED.COUNT, FE_AGE.WALK_OVERRUN.COUNT]
/-- The block fields of FE_AGE. -/
def FE_AGE.fields : List Fld :=
  [FE_AGE.CTRL.ENABLE, FE_AGE.TICK.MS, FE_AGE.LIMIT.TICKS, FE_AGE.NOW.TICKS, FE_AGE.REFRESHED.COUNT, FE_AGE.AGED_OUT.COUNT, FE_AGE.AGE_SAVED.COUNT, FE_AGE.WALK_OVERRUN.COUNT, FE_AGE.LAST_WALK_US.US]

/-! ### FE_CELLS (R131) -/
def FE_CELLS.CTRL.AUTO_REMAP : Fld := fld1 72 0x100 0 1 .rwl 1
def FE_CELLS.CTRL.DOWN_LINK_FAULT : Fld := fld1 72 0x100 1 1 .rwl 0
def FE_CELLS.FAULT_TOTAL.COUNT : Fld := fld1 72 0x104 0 32 .ro 0
def FE_CELLS.REMAP_TOTAL.COUNT : Fld := fld1 72 0x108 0 32 .ro 0
def FE_CELLS.FENCED_ACTIVITY.COUNT : Fld := fld1 72 0x10c 0 32 .ro 0
def FE_CELLS.SLOT_CORR.COUNT : Fld := fld1 72 0x110 0 32 .ro 0
def FE_CELLS.LAST_REMAP.LOGICAL : Fld := fld1 72 0x114 0 11 .ro 0
def FE_CELLS.LAST_REMAP.PHYS : Fld := fld1 72 0x114 16 12 .ro 0
def FE_CELLS.LAST_REMAP_CYCLES.CYCLES : Fld := fld1 72 0x118 0 32 .ro 0
def FE_CELLS.LAST_REMAP_DROPS.COUNT : Fld := fld1 72 0x11c 0 32 .ro 0
def FE_CELLS.LAST_FENCE.PHYS : Fld := fld1 72 0x120 0 12 .ro 0
def FE_CELLS.LAST_FENCE.CAUSE : Fld := fld1 72 0x120 16 4 .ro 0
def FE_CELLS.STRIP_STATUS.SPARES : Fld := fldN 72 0x140 16 0x4 0 3 .ro 4
def FE_CELLS.STRIP_STATUS.STATE : Fld := fldN 72 0x140 16 0x4 4 2 .ro 0
def FE_CELLS.STRIP_STATUS.REBUILD_L : Fld := fldN 72 0x140 16 0x4 8 7 .ro 0
def FE_CELLS.STRIP_STATUS.WAITING : Fld := fldN 72 0x140 16 0x4 16 4 .ro 0
def FE_CELLS.STRIP_STATUS.SOURCE : Fld := fldN 72 0x140 16 0x4 20 4 .ro 0
def FE_CELLS.CELL_STATE.STATE : Fld := ⟨72, 0x200, 2112, 0x4, 8, 4, 0, 4, .ro, 0, false⟩
def FE_CELLS.LOGICAL_MAP.POSITION : Fld := ⟨72, 0x800, 2048, 0x4, 4, 8, 0, 8, .ro, 0, false⟩
/-- The counter fields of FE_CELLS in the order of R415. -/
def FE_CELLS.ctrs : List Fld :=
  [FE_CELLS.FAULT_TOTAL.COUNT, FE_CELLS.REMAP_TOTAL.COUNT, FE_CELLS.FENCED_ACTIVITY.COUNT, FE_CELLS.SLOT_CORR.COUNT, FE_CELLS.LAST_REMAP_DROPS.COUNT]
/-- The block fields of FE_CELLS. -/
def FE_CELLS.fields : List Fld :=
  [FE_CELLS.CTRL.AUTO_REMAP, FE_CELLS.CTRL.DOWN_LINK_FAULT, FE_CELLS.FAULT_TOTAL.COUNT, FE_CELLS.REMAP_TOTAL.COUNT, FE_CELLS.FENCED_ACTIVITY.COUNT, FE_CELLS.SLOT_CORR.COUNT, FE_CELLS.LAST_REMAP.LOGICAL, FE_CELLS.LAST_REMAP.PHYS, FE_CELLS.LAST_REMAP_CYCLES.CYCLES, FE_CELLS.LAST_REMAP_DROPS.COUNT, FE_CELLS.LAST_FENCE.PHYS, FE_CELLS.LAST_FENCE.CAUSE] ++
  [FE_CELLS.STRIP_STATUS.SPARES, FE_CELLS.STRIP_STATUS.STATE, FE_CELLS.STRIP_STATUS.REBUILD_L, FE_CELLS.STRIP_STATUS.WAITING, FE_CELLS.STRIP_STATUS.SOURCE, FE_CELLS.CELL_STATE.STATE, FE_CELLS.LOGICAL_MAP.POSITION]

/-! ### FE_PIPEI (R132) -/
def FE_PIPEI.DEPTH_CYCLES.CYCLES : Fld := fld1 73 0x100 0 11 .ro 0
def FE_PIPEI.DEPTH_OTHER.CYCLES : Fld := fld1 73 0x104 0 11 .ro 0
def FE_PIPEI.PKT.COUNT : Fld := fldC 73 0x200 16 0x20
def FE_PIPEI.FAULT_DROP.COUNT : Fld := fldN 73 0x208 16 0x20 0 32 .ro 0
def FE_PIPEI.OVERRUN_DROP.COUNT : Fld := fldN 73 0x20c 16 0x20 0 32 .ro 0
def FE_PIPEI.LOOP.COUNT : Fld := fldN 73 0x210 16 0x20 0 32 .ro 0
def FE_PIPEI.INJECT_IN.COUNT : Fld := fldN 73 0x214 16 0x20 0 32 .ro 0
def FE_PIPEI.GAP_CYCLES.COUNT : Fld := fldN 73 0x218 16 0x20 0 32 .ro 0
/-- The counter fields of FE_PIPEI in the order of R415. -/
def FE_PIPEI.ctrs : List Fld :=
  [FE_PIPEI.PKT.COUNT, FE_PIPEI.FAULT_DROP.COUNT, FE_PIPEI.OVERRUN_DROP.COUNT, FE_PIPEI.LOOP.COUNT, FE_PIPEI.INJECT_IN.COUNT, FE_PIPEI.GAP_CYCLES.COUNT]
/-- The block fields of FE_PIPEI. -/
def FE_PIPEI.fields : List Fld :=
  [FE_PIPEI.DEPTH_CYCLES.CYCLES, FE_PIPEI.DEPTH_OTHER.CYCLES, FE_PIPEI.PKT.COUNT, FE_PIPEI.FAULT_DROP.COUNT, FE_PIPEI.OVERRUN_DROP.COUNT, FE_PIPEI.LOOP.COUNT, FE_PIPEI.INJECT_IN.COUNT, FE_PIPEI.GAP_CYCLES.COUNT]

/-! ### FE_PIPEE (R132) -/
def FE_PIPEE.DEPTH_CYCLES.CYCLES : Fld := fld1 74 0x100 0 11 .ro 0
def FE_PIPEE.DEPTH_OTHER.CYCLES : Fld := fld1 74 0x104 0 11 .ro 0
def FE_PIPEE.PKT.COUNT : Fld := fldC 74 0x200 16 0x20
def FE_PIPEE.FAULT_DROP.COUNT : Fld := fldN 74 0x208 16 0x20 0 32 .ro 0
def FE_PIPEE.OVERRUN_DROP.COUNT : Fld := fldN 74 0x20c 16 0x20 0 32 .ro 0
def FE_PIPEE.LOOP.COUNT : Fld := fldN 74 0x210 16 0x20 0 32 .ro 0
def FE_PIPEE.INJECT_IN.COUNT : Fld := fldN 74 0x214 16 0x20 0 32 .ro 0
def FE_PIPEE.GAP_CYCLES.COUNT : Fld := fldN 74 0x218 16 0x20 0 32 .ro 0
/-- The counter fields of FE_PIPEE in the order of R415. -/
def FE_PIPEE.ctrs : List Fld :=
  [FE_PIPEE.PKT.COUNT, FE_PIPEE.FAULT_DROP.COUNT, FE_PIPEE.OVERRUN_DROP.COUNT, FE_PIPEE.LOOP.COUNT, FE_PIPEE.INJECT_IN.COUNT, FE_PIPEE.GAP_CYCLES.COUNT]
/-- The block fields of FE_PIPEE. -/
def FE_PIPEE.fields : List Fld :=
  [FE_PIPEE.DEPTH_CYCLES.CYCLES, FE_PIPEE.DEPTH_OTHER.CYCLES, FE_PIPEE.PKT.COUNT, FE_PIPEE.FAULT_DROP.COUNT, FE_PIPEE.OVERRUN_DROP.COUNT, FE_PIPEE.LOOP.COUNT, FE_PIPEE.INJECT_IN.COUNT, FE_PIPEE.GAP_CYCLES.COUNT]

/-! ### FE_PROT (R239) -/
def FE_PROT.CTRL.RX_ENABLE : Fld := fld1 75 0x100 0 1 .rw 0
def FE_PROT.CTRL.TX_ENABLE : Fld := fld1 75 0x100 1 1 .rw 0
def FE_PROT.WTR.PROT_WTR : Fld := fld1 75 0x104 0 16 .rwl 60
def FE_PROT.RCVY_RESET.MS : Fld := fld1 75 0x108 0 16 .rw 1000
def FE_PROT.FORCE_OUT.PORT : Fld := fldN 75 0x110 8 0x4 0 32 .rw 0
def FE_PROT.NOT_IN.PORT : Fld := fldN 75 0x130 8 0x4 0 32 .ro 4294967295
def FE_PROT.STREAM_SEL.STREAM : Fld := fld1 75 0x180 0 14 .rw 0
def FE_PROT.STREAM_SEL.SIDE : Fld := fld1 75 0x180 16 1 .rw 0
def FE_PROT.STREAM_SEL.OP : Fld := fld1 75 0x180 17 1 .rw 0
def FE_PROT.STREAM_SEL.GO : Fld := fld1 75 0x180 18 1 .wo 0
def FE_PROT.STREAM_SEL.BUSY : Fld := fld1 75 0x180 19 1 .ro 0
def FE_PROT.STREAM_SEL.ERR : Fld := fld1 75 0x180 20 1 .ro 0
def FE_PROT.DATA.DATA : Fld := fldN 75 0x184 4 0x4 0 32 .rw 0
def FE_PROT.PASSED.COUNT : Fld := fld1 75 0x200 0 32 .ro 0
def FE_PROT.DUPLICATE.COUNT : Fld := fld1 75 0x204 0 32 .ro 0
def FE_PROT.ROGUE.COUNT : Fld := fld1 75 0x208 0 32 .ro 0
def FE_PROT.IGNORED.COUNT : Fld := fld1 75 0x20c 0 32 .ro 0
def FE_PROT.NO_STREAM.COUNT : Fld := fld1 75 0x210 0 32 .ro 0
def FE_PROT.RCVY_RESETS.COUNT : Fld := fld1 75 0x214 0 32 .ro 0
def FE_PROT.SUPPRESSED.COUNT : Fld := fld1 75 0x218 0 32 .ro 0
def FE_PROT.COPY_DROP.COUNT : Fld := fld1 75 0x21c 0 32 .ro 0
def FE_PROT.RTAG_DROP.COUNT : Fld := fld1 75 0x220 0 32 .ro 0
/-- The counter fields of FE_PROT in the order of R415. -/
def FE_PROT.ctrs : List Fld :=
  [FE_PROT.PASSED.COUNT, FE_PROT.DUPLICATE.COUNT, FE_PROT.ROGUE.COUNT, FE_PROT.IGNORED.COUNT, FE_PROT.NO_STREAM.COUNT, FE_PROT.RCVY_RESETS.COUNT, FE_PROT.SUPPRESSED.COUNT, FE_PROT.COPY_DROP.COUNT, FE_PROT.RTAG_DROP.COUNT]
/-- The block fields of FE_PROT. -/
def FE_PROT.fields : List Fld :=
  [FE_PROT.CTRL.RX_ENABLE, FE_PROT.CTRL.TX_ENABLE, FE_PROT.WTR.PROT_WTR, FE_PROT.RCVY_RESET.MS, FE_PROT.FORCE_OUT.PORT, FE_PROT.NOT_IN.PORT, FE_PROT.STREAM_SEL.STREAM, FE_PROT.STREAM_SEL.SIDE, FE_PROT.STREAM_SEL.OP, FE_PROT.STREAM_SEL.GO, FE_PROT.STREAM_SEL.BUSY, FE_PROT.STREAM_SEL.ERR] ++
  [FE_PROT.DATA.DATA, FE_PROT.PASSED.COUNT, FE_PROT.DUPLICATE.COUNT, FE_PROT.ROGUE.COUNT, FE_PROT.IGNORED.COUNT, FE_PROT.NO_STREAM.COUNT, FE_PROT.RCVY_RESETS.COUNT, FE_PROT.SUPPRESSED.COUNT, FE_PROT.COPY_DROP.COUNT, FE_PROT.RTAG_DROP.COUNT]

/-! ### FE_PTP (R468) -/
def FE_PTP.TIME_NS.NS : Fld := fld1 76 0x100 0 32 .ro 0
def FE_PTP.TIME_SEC_LO.SEC : Fld := fld1 76 0x104 0 32 .ro 0
def FE_PTP.TIME_SEC_HI.SEC : Fld := fld1 76 0x108 0 16 .ro 0
def FE_PTP.ADDEND_FRAC.FRAC : Fld := fld1 76 0x10c 0 32 .rw 1073741824
def FE_PTP.ADDEND_NS.NS : Fld := fld1 76 0x110 0 1 .rw 1
def FE_PTP.SET_NS.NS : Fld := fld1 76 0x114 0 32 .rw 0
def FE_PTP.SET_SEC_LO.SEC : Fld := fld1 76 0x118 0 32 .rw 0
def FE_PTP.SET_SEC_HI.SEC : Fld := fld1 76 0x11c 0 16 .rw 0
def FE_PTP.OFFSET_NS.NS : Fld := fld1 76 0x120 0 32 .rw 0
def FE_PTP.TIME_CTRL.STEP : Fld := fld1 76 0x124 0 1 .wo 0
def FE_PTP.TIME_CTRL.OFFSET : Fld := fld1 76 0x124 1 1 .wo 0
def FE_PTP.TIME_CTRL.BUSY : Fld := fld1 76 0x124 2 1 .ro 0
def FE_PTP.TIME_CTRL.TIME_VALID : Fld := fld1 76 0x124 3 1 .ro 0
def FE_PTP.PPS_CTRL.OUT_EN : Fld := fld1 76 0x128 0 1 .rw 0
def FE_PTP.PPS_CTRL.IN_EN : Fld := fld1 76 0x128 1 1 .rw 0
def FE_PTP.PPS_CTRL.IN_FALLING : Fld := fld1 76 0x128 2 1 .rw 0
def FE_PTP.PPS_CTRL.WIDTH_MS : Fld := fld1 76 0x128 8 8 .rw 100
def FE_PTP.PPS_CTRL.IN_DELAY_NS : Fld := fld1 76 0x128 16 16 .rw 0
def FE_PTP.PPS_CAP_NS.NS : Fld := fld1 76 0x12c 0 32 .ro 0
def FE_PTP.PPS_CAP_SEC_LO.SEC : Fld := fld1 76 0x130 0 32 .ro 0
def FE_PTP.PPS_CAP_SEC_HI.SEC : Fld := fld1 76 0x134 0 16 .ro 0
def FE_PTP.PPS_CAP_CTRL.VALID : Fld := fld1 76 0x138 0 1 .ro 0
def FE_PTP.PPS_CAP_CTRL.RESULT_ACK : Fld := fld1 76 0x138 1 1 .wo 0
def FE_PTP.PPS_CAP_CTRL.MISSED : Fld := fld1 76 0x138 16 16 .ro 0
def FE_PTP.TOD_CTRL.TX_EN : Fld := fld1 76 0x140 0 1 .rw 0
def FE_PTP.TOD_CTRL.RX_EN : Fld := fld1 76 0x140 1 1 .rw 0
def FE_PTP.TOD_CTRL.BAUD : Fld := fld1 76 0x140 2 2 .rw 2
def FE_PTP.TOD_CTRL.TX_DELAY_MS : Fld := fld1 76 0x140 8 8 .rw 10
def FE_PTP.TOD_RX_SEC_LO.SEC : Fld := fld1 76 0x144 0 32 .ro 0
def FE_PTP.TOD_RX_SEC_HI.SEC : Fld := fld1 76 0x148 0 16 .ro 0
def FE_PTP.TOD_RX_SEC_HI.STATUS : Fld := fld1 76 0x148 16 8 .ro 0
def FE_PTP.TOD_RX_CTRL.VALID : Fld := fld1 76 0x14c 0 1 .ro 0
def FE_PTP.TOD_RX_CTRL.RESULT_ACK : Fld := fld1 76 0x14c 1 1 .wo 0
def FE_PTP.TOD_ERR.COUNT : Fld := fld1 76 0x150 0 32 .ro 0
/-- The counter fields of FE_PTP in the order of R415. -/
def FE_PTP.ctrs : List Fld :=
  [FE_PTP.TOD_ERR.COUNT]
/-- The block fields of FE_PTP. -/
def FE_PTP.fields : List Fld :=
  [FE_PTP.TIME_NS.NS, FE_PTP.TIME_SEC_LO.SEC, FE_PTP.TIME_SEC_HI.SEC, FE_PTP.ADDEND_FRAC.FRAC, FE_PTP.ADDEND_NS.NS, FE_PTP.SET_NS.NS, FE_PTP.SET_SEC_LO.SEC, FE_PTP.SET_SEC_HI.SEC, FE_PTP.OFFSET_NS.NS, FE_PTP.TIME_CTRL.STEP, FE_PTP.TIME_CTRL.OFFSET, FE_PTP.TIME_CTRL.BUSY] ++
  [FE_PTP.TIME_CTRL.TIME_VALID, FE_PTP.PPS_CTRL.OUT_EN, FE_PTP.PPS_CTRL.IN_EN, FE_PTP.PPS_CTRL.IN_FALLING, FE_PTP.PPS_CTRL.WIDTH_MS, FE_PTP.PPS_CTRL.IN_DELAY_NS, FE_PTP.PPS_CAP_NS.NS, FE_PTP.PPS_CAP_SEC_LO.SEC, FE_PTP.PPS_CAP_SEC_HI.SEC, FE_PTP.PPS_CAP_CTRL.VALID, FE_PTP.PPS_CAP_CTRL.RESULT_ACK, FE_PTP.PPS_CAP_CTRL.MISSED] ++
  [FE_PTP.TOD_CTRL.TX_EN, FE_PTP.TOD_CTRL.RX_EN, FE_PTP.TOD_CTRL.BAUD, FE_PTP.TOD_CTRL.TX_DELAY_MS, FE_PTP.TOD_RX_SEC_LO.SEC, FE_PTP.TOD_RX_SEC_HI.SEC, FE_PTP.TOD_RX_SEC_HI.STATUS, FE_PTP.TOD_RX_CTRL.VALID, FE_PTP.TOD_RX_CTRL.RESULT_ACK, FE_PTP.TOD_ERR.COUNT]

/-! ### FE_TRACE (R428) -/
def FE_TRACE.RING_BASE_LO.ADDR : Fld := fld1 77 0x100 12 20 .rw 0
def FE_TRACE.RING_BASE_HI.ADDR : Fld := fld1 77 0x104 0 32 .rw 0
def FE_TRACE.RING_CTRL.LOG2_SIZE : Fld := fld1 77 0x108 0 5 .rw 6
def FE_TRACE.RING_CTRL.ENABLE : Fld := fld1 77 0x108 5 1 .rw 0
def FE_TRACE.RING_CTRL.COAL_COUNT : Fld := fld1 77 0x108 8 8 .rw 1
def FE_TRACE.RING_CTRL.COAL_TIME_US : Fld := fld1 77 0x108 16 16 .rw 0
def FE_TRACE.RING_STATUS.TAIL : Fld := fld1 77 0x10c 0 16 .ro 0
def FE_TRACE.RING_STATUS.PHASE : Fld := fld1 77 0x10c 16 1 .ro 1
def FE_TRACE.RING_HEAD.HEAD : Fld := fld1 77 0x110 0 16 .rw 0
def FE_TRACE.RING_STATUS.ERROR : Fld := fld1 77 0x10c 17 1 .ro 0
def FE_TRACE.CTRL.TAG_EN : Fld := fld1 77 0x114 0 1 .rw 0
def FE_TRACE.CTRL.K : Fld := fld1 77 0x114 1 5 .rw 16
def FE_TRACE.CTRL.KEEP_REMOTE : Fld := fld1 77 0x114 6 1 .rw 1
def FE_TRACE.SEED.SEED : Fld := fld1 77 0x118 0 32 .rw 1
def FE_TRACE.TAGGED.COUNT : Fld := fld1 77 0x11c 0 32 .ro 0
def FE_TRACE.TRACE_DROP.COUNT : Fld := fld1 77 0x120 0 32 .ro 0
def FE_TRACE.RECORDS.COUNT : Fld := fld1 77 0x124 0 32 .ro 0
/-- The counter fields of FE_TRACE in the order of R415. -/
def FE_TRACE.ctrs : List Fld :=
  [FE_TRACE.TAGGED.COUNT, FE_TRACE.TRACE_DROP.COUNT, FE_TRACE.RECORDS.COUNT]
/-- The block fields of FE_TRACE. -/
def FE_TRACE.fields : List Fld :=
  [FE_TRACE.RING_BASE_LO.ADDR, FE_TRACE.RING_BASE_HI.ADDR, FE_TRACE.RING_CTRL.LOG2_SIZE, FE_TRACE.RING_CTRL.ENABLE, FE_TRACE.RING_CTRL.COAL_COUNT, FE_TRACE.RING_CTRL.COAL_TIME_US, FE_TRACE.RING_STATUS.TAIL, FE_TRACE.RING_STATUS.PHASE, FE_TRACE.RING_HEAD.HEAD, FE_TRACE.RING_STATUS.ERROR, FE_TRACE.CTRL.TAG_EN, FE_TRACE.CTRL.K] ++
  [FE_TRACE.CTRL.KEEP_REMOTE, FE_TRACE.SEED.SEED, FE_TRACE.TAGGED.COUNT, FE_TRACE.TRACE_DROP.COUNT, FE_TRACE.RECORDS.COUNT]

/-! ### FE_D2D (R399) -/
def FE_D2D.STATUS.UP : Fld := fld1 78 0x100 0 1 .ro 0
def FE_D2D.STATUS.DOWN_BUNDLE : Fld := fld1 78 0x100 8 7 .ro 0
def FE_D2D.CTRL.REPAIR_THR : Fld := fld1 78 0x104 0 16 .rwl 64
def FE_D2D.CTRL.AUTO_REPAIR : Fld := fld1 78 0x104 16 1 .rwl 1
def FE_D2D.CORR.COUNT : Fld := fld1 78 0x108 0 32 .ro 0
def FE_D2D.UNC.COUNT : Fld := fld1 78 0x10c 0 32 .ro 0
def FE_D2D.META_DROP.COUNT : Fld := fld1 78 0x110 0 32 .ro 0
def FE_D2D.REPAIRS.COUNT : Fld := fld1 78 0x114 0 16 .ro 0
def FE_D2D.SPARES.SPARES : Fld := ⟨78, 0x140, 128, 0x4, 16, 2, 0, 2, .ro, 2, false⟩
/-- The counter fields of FE_D2D in the order of R415. -/
def FE_D2D.ctrs : List Fld :=
  [FE_D2D.CORR.COUNT, FE_D2D.UNC.COUNT, FE_D2D.META_DROP.COUNT, FE_D2D.REPAIRS.COUNT]
/-- The block fields of FE_D2D. -/
def FE_D2D.fields : List Fld :=
  [FE_D2D.STATUS.UP, FE_D2D.STATUS.DOWN_BUNDLE, FE_D2D.CTRL.REPAIR_THR, FE_D2D.CTRL.AUTO_REPAIR, FE_D2D.CORR.COUNT, FE_D2D.UNC.COUNT, FE_D2D.META_DROP.COUNT, FE_D2D.REPAIRS.COUNT, FE_D2D.SPARES.SPARES]

/-! ### FE_FAULT (R400) -/
def FE_FAULT.FWD.DEPTH : Fld := fld1 79 0x100 0 9 .ro 0
/-- The counter fields of FE_FAULT in the order of R415. -/
def FE_FAULT.ctrs : List Fld :=
  []
/-- The block fields of FE_FAULT. -/
def FE_FAULT.fields : List Fld :=
  [FE_FAULT.FWD.DEPTH]

/-! ### FE_THERM (R490) -/
def FE_THERM.TEMP.NOW : Fld := fld1 80 0x100 0 8 .ro 0
def FE_THERM.TEMP.MAX : Fld := fld1 80 0x100 8 8 .ro 0
def FE_THERM.TEMP.WARN_C : Fld := fld1 80 0x100 16 8 .rw 105
def FE_THERM.TRIP.ASSERTED : Fld := fld1 80 0x104 0 1 .ro 0
def FE_THERM.CANARY_MIN.MARGIN_PS : Fld := fld1 80 0x108 0 16 .ro 0
def FE_THERM.CANARY_MIN.INDEX : Fld := fld1 80 0x108 16 6 .ro 0
def FE_THERM.CANARY_SEL.INDEX : Fld := fld1 80 0x10c 0 6 .rw 0
def FE_THERM.CANARY_DATA.MARGIN_PS : Fld := fld1 80 0x110 0 16 .ro 0
def FE_THERM.CANARY_DATA.EXCLUDED : Fld := fld1 80 0x110 16 1 .ro 0
def FE_THERM.EXCLUDED.COUNT : Fld := fld1 80 0x114 0 7 .ro 0
/-- The counter fields of FE_THERM in the order of R415. -/
def FE_THERM.ctrs : List Fld :=
  [FE_THERM.EXCLUDED.COUNT]
/-- The block fields of FE_THERM. -/
def FE_THERM.fields : List Fld :=
  [FE_THERM.TEMP.NOW, FE_THERM.TEMP.MAX, FE_THERM.TEMP.WARN_C, FE_THERM.TRIP.ASSERTED, FE_THERM.CANARY_MIN.MARGIN_PS, FE_THERM.CANARY_MIN.INDEX, FE_THERM.CANARY_SEL.INDEX, FE_THERM.CANARY_DATA.MARGIN_PS, FE_THERM.CANARY_DATA.EXCLUDED, FE_THERM.EXCLUDED.COUNT]

/-! ### TM_GLOBAL (R34, R355) -/
def TM_GLOBAL.EXP_TERMS.D_TM_EG : Fld := fld1 4096 0x200 0 16 .ro 60
def TM_GLOBAL.EXP_TERMS.D_BRIDGE : Fld := fld1 4096 0x200 16 16 .ro 40
def TM_GLOBAL.T_PAT.NS : Fld := fld1 4096 0x204 0 24 .ro 0
def TM_GLOBAL.MIN_LEN7.BYTES : Fld := fld1 4096 0x208 0 14 .ro 64
def TM_GLOBAL.F_WIRE.FACTOR : Fld := fld1 4096 0x20c 0 32 .ro 86016
def TM_GLOBAL.F_CELL.FACTOR : Fld := fld1 4096 0x210 0 32 .ro 245760
def TM_GLOBAL.EXP_SHORT.COUNT : Fld := fld1 4096 0x214 0 32 .ro 0
def TM_GLOBAL.TARGET_IG.NS : Fld := fld1 4096 0x218 0 32 .ro 0
def TM_GLOBAL.TARGET_EG.NS : Fld := fld1 4096 0x21c 0 32 .ro 0
def TM_GLOBAL.BOUND_STATUS.IG_OVER : Fld := fld1 4096 0x220 0 1 .w1c 0
def TM_GLOBAL.BOUND_STATUS.EG_OVER : Fld := fld1 4096 0x220 1 1 .w1c 0
def TM_GLOBAL.D_TM_IG.NS : Fld := fldN 4096 0x240 16 0x4 0 16 .ro 290
def TM_GLOBAL.L_IG.NS : Fld := fldN 4096 0x280 16 0x4 0 32 .ro 0
def TM_GLOBAL.L_EG.NS : Fld := fldN 4096 0x400 256 0x4 0 32 .ro 0
def TM_GLOBAL.RWE_VIEW.STAGED : Fld := fld1 4096 0x100 0 1 .rw 0
/-- The counter fields of TM_GLOBAL in the order of R415. -/
def TM_GLOBAL.ctrs : List Fld :=
  [TM_GLOBAL.EXP_SHORT.COUNT]
/-- The block fields of TM_GLOBAL. -/
def TM_GLOBAL.fields : List Fld :=
  [TM_GLOBAL.EXP_TERMS.D_TM_EG, TM_GLOBAL.EXP_TERMS.D_BRIDGE, TM_GLOBAL.T_PAT.NS, TM_GLOBAL.MIN_LEN7.BYTES, TM_GLOBAL.F_WIRE.FACTOR, TM_GLOBAL.F_CELL.FACTOR, TM_GLOBAL.EXP_SHORT.COUNT, TM_GLOBAL.TARGET_IG.NS, TM_GLOBAL.TARGET_EG.NS, TM_GLOBAL.BOUND_STATUS.IG_OVER, TM_GLOBAL.BOUND_STATUS.EG_OVER, TM_GLOBAL.D_TM_IG.NS] ++
  [TM_GLOBAL.L_IG.NS, TM_GLOBAL.L_EG.NS, TM_GLOBAL.RWE_VIEW.STAGED]

/-! ### TM_CLK (R467) -/
def TM_CLK.STATUS.ROOT_LOCK : Fld := fld1 4097 0x100 0 1 .ro 0
def TM_CLK.STATUS.CYCLE_SYNC : Fld := fld1 4097 0x100 1 1 .ro 0
def TM_CLK.STATUS.REFCLK_OK : Fld := fld1 4097 0x100 2 1 .ro 0
def TM_CLK.STATUS.AON_OSC_OK : Fld := fld1 4097 0x100 3 1 .ro 0
def TM_CLK.SKEW_CNT.COUNT : Fld := fld1 4097 0x104 0 16 .ro 0
def TM_CLK.AON_FREQ.KHZ : Fld := fld1 4097 0x108 0 16 .ro 0
/-- The counter fields of TM_CLK in the order of R415. -/
def TM_CLK.ctrs : List Fld :=
  [TM_CLK.SKEW_CNT.COUNT]
/-- The block fields of TM_CLK. -/
def TM_CLK.fields : List Fld :=
  [TM_CLK.STATUS.ROOT_LOCK, TM_CLK.STATUS.CYCLE_SYNC, TM_CLK.STATUS.REFCLK_OK, TM_CLK.STATUS.AON_OSC_OK, TM_CLK.SKEW_CNT.COUNT, TM_CLK.AON_FREQ.KHZ]

/-! ### TM_PWR (R469) -/
def TM_PWR.STATE.STATE : Fld := fld1 4098 0x100 0 3 .ro 0
def TM_PWR.STATE.PENDING : Fld := fld1 4098 0x100 3 2 .ro 3
def TM_PWR.STATE.WAKE_FAIL : Fld := fld1 4098 0x100 5 1 .w1c 0
def TM_PWR.STATE.BROWNOUT : Fld := fld1 4098 0x100 6 1 .w1c 0
def TM_PWR.STATE.WAKE_CAUSE : Fld := fld1 4098 0x100 8 3 .ro 0
def TM_PWR.STATE.FAIL_STEP : Fld := fld1 4098 0x100 11 2 .ro 0
def TM_PWR.REQ.TARGET : Fld := fld1 4098 0x104 0 2 .wo 0
def TM_PWR.DOLD_CFG.PERIOD_MS : Fld := fld1 4098 0x108 0 10 .rw 100
def TM_PWR.DOLD_CFG.SELF_WAKE : Fld := fld1 4098 0x108 10 1 .rw 0
def TM_PWR.DOLD_CFG.DEBOUNCE : Fld := fld1 4098 0x108 11 4 .rw 1
def TM_PWR.DOLD_CFG.MGMT_WAKE_EN : Fld := fld1 4098 0x108 15 1 .rw 1
def TM_PWR.DOLD_CFG.DRAIN_MS : Fld := fld1 4098 0x108 16 8 .rw 10
def TM_PWR.DOLD_CFG.TEMP_EN : Fld := fld1 4098 0x108 24 1 .rw 1
def TM_PWR.LS_EXPECT.EXPECT : Fld := fldN 4098 0x10c 2 0x4 0 32 .rw 0
def TM_PWR.LS_MASK.MASK : Fld := fldN 4098 0x114 2 0x4 0 32 .rw 0
def TM_PWR.LS_LAST.LAST : Fld := fldN 4098 0x11c 2 0x4 0 32 .ro 0
def TM_PWR.TEMP_THR.T_HIGH : Fld := fld1 4098 0x124 0 8 .rw 100
def TM_PWR.TEMP_THR.T_LOW : Fld := fld1 4098 0x124 8 8 .rw 216
def TM_PWR.TEMP_THR.TEMP_LAST : Fld := fld1 4098 0x124 16 8 .ro 0
def TM_PWR.DOLD_DROP.COUNT : Fld := fld1 4098 0x128 0 32 .ro 0
def TM_PWR.SAMPLES.COUNT : Fld := fld1 4098 0x12c 0 32 .ro 0
def TM_PWR.WAKE_N_CTRL.ASSERTED : Fld := fld1 4098 0x130 0 1 .ro 0
def TM_PWR.WAKE_N_CTRL.RELEASE : Fld := fld1 4098 0x130 1 1 .wo 0
/-- The counter fields of TM_PWR in the order of R415. -/
def TM_PWR.ctrs : List Fld :=
  [TM_PWR.DOLD_DROP.COUNT, TM_PWR.SAMPLES.COUNT]
/-- The block fields of TM_PWR. -/
def TM_PWR.fields : List Fld :=
  [TM_PWR.STATE.STATE, TM_PWR.STATE.PENDING, TM_PWR.STATE.WAKE_FAIL, TM_PWR.STATE.BROWNOUT, TM_PWR.STATE.WAKE_CAUSE, TM_PWR.STATE.FAIL_STEP, TM_PWR.REQ.TARGET, TM_PWR.DOLD_CFG.PERIOD_MS, TM_PWR.DOLD_CFG.SELF_WAKE, TM_PWR.DOLD_CFG.DEBOUNCE, TM_PWR.DOLD_CFG.MGMT_WAKE_EN, TM_PWR.DOLD_CFG.DRAIN_MS] ++
  [TM_PWR.DOLD_CFG.TEMP_EN, TM_PWR.LS_EXPECT.EXPECT, TM_PWR.LS_MASK.MASK, TM_PWR.LS_LAST.LAST, TM_PWR.TEMP_THR.T_HIGH, TM_PWR.TEMP_THR.T_LOW, TM_PWR.TEMP_THR.TEMP_LAST, TM_PWR.DOLD_DROP.COUNT, TM_PWR.SAMPLES.COUNT, TM_PWR.WAKE_N_CTRL.ASSERTED, TM_PWR.WAKE_N_CTRL.RELEASE]

/-! ### TM_EPOCH (R101) -/
def TM_EPOCH.STATE.STATE : Fld := fld1 4099 0x100 0 4 .ro 0
def TM_EPOCH.STATE.ACTIVE_BANK : Fld := fld1 4099 0x100 4 1 .ro 0
def TM_EPOCH.STATE.ROLLBACK : Fld := fld1 4099 0x100 5 1 .ro 0
def TM_EPOCH.EPOCH_SEQ.SEQ : Fld := fld1 4099 0x104 0 32 .ro 0
def TM_EPOCH.BANK_SEQ_A.SEQ : Fld := fld1 4099 0x108 0 32 .ro 0
def TM_EPOCH.BANK_SEQ_B.SEQ : Fld := fld1 4099 0x10c 0 32 .ro 0
def TM_EPOCH.RETIRE_TIMEOUT.MS : Fld := fld1 4099 0x110 0 16 .rwl 250
def TM_EPOCH.COUNT_A.COUNT : Fld := fld1 4099 0x114 0 32 .ro 0
def TM_EPOCH.COUNT_B.COUNT : Fld := fld1 4099 0x118 0 32 .ro 0
def TM_EPOCH.DROP_LAST.COUNT : Fld := fld1 4099 0x11c 0 32 .ro 0
def TM_EPOCH.DROP_TOTAL.COUNT : Fld := fld1 4099 0x120 0 32 .ro 0
def TM_EPOCH.FLIP_CYCLE.CYCLE : Fld := fld1 4099 0x124 0 64 .ro 0
def TM_EPOCH.FLIP_TIME_NS.NS : Fld := fld1 4099 0x12c 0 32 .ro 0
def TM_EPOCH.FLIP_TIME_SEC.SEC : Fld := fld1 4099 0x130 0 48 .ro 0
def TM_EPOCH.DRAIN_US.US : Fld := fld1 4099 0x138 0 32 .ro 0
def TM_EPOCH.RULE_CHANGES.COUNT : Fld := fld1 4099 0x13c 0 15 .ro 0
def TM_EPOCH.NOW_CYCLE.CYCLE : Fld := fldC 4099 0x140 1 0x0
/-- The counter fields of TM_EPOCH in the order of R415. -/
def TM_EPOCH.ctrs : List Fld :=
  [TM_EPOCH.COUNT_A.COUNT, TM_EPOCH.COUNT_B.COUNT, TM_EPOCH.DROP_LAST.COUNT, TM_EPOCH.DROP_TOTAL.COUNT, TM_EPOCH.RULE_CHANGES.COUNT]
/-- The block fields of TM_EPOCH. -/
def TM_EPOCH.fields : List Fld :=
  [TM_EPOCH.STATE.STATE, TM_EPOCH.STATE.ACTIVE_BANK, TM_EPOCH.STATE.ROLLBACK, TM_EPOCH.EPOCH_SEQ.SEQ, TM_EPOCH.BANK_SEQ_A.SEQ, TM_EPOCH.BANK_SEQ_B.SEQ, TM_EPOCH.RETIRE_TIMEOUT.MS, TM_EPOCH.COUNT_A.COUNT, TM_EPOCH.COUNT_B.COUNT, TM_EPOCH.DROP_LAST.COUNT, TM_EPOCH.DROP_TOTAL.COUNT, TM_EPOCH.FLIP_CYCLE.CYCLE] ++
  [TM_EPOCH.FLIP_TIME_NS.NS, TM_EPOCH.FLIP_TIME_SEC.SEC, TM_EPOCH.DRAIN_US.US, TM_EPOCH.RULE_CHANGES.COUNT, TM_EPOCH.NOW_CYCLE.CYCLE]

/-! ### TM_ALM (R103) -/
def TM_ALM.LOAD_STATUS.PHASE : Fld := fld1 4100 0x100 0 2 .ro 0
def TM_ALM.LOAD_STATUS.ERROR : Fld := fld1 4100 0x100 2 1 .ro 0
def TM_ALM.LOAD_STATUS.ERR_CODE : Fld := fld1 4100 0x100 16 16 .ro 0
def TM_ALM.ERR_SECTION.INDEX : Fld := fld1 4100 0x104 0 8 .ro 0
def TM_ALM.ERR_OFFSET.OFFSET : Fld := fld1 4100 0x108 0 32 .ro 0
def TM_ALM.BYTES_LOADED.BYTES : Fld := fld1 4100 0x10c 0 32 .ro 0
def TM_ALM.ACTIVE_ID.ID : Fld := fld1 4100 0x110 0 64 .ro 0
def TM_ALM.STAGED_ID.ID : Fld := fld1 4100 0x118 0 64 .ro 0
def TM_ALM.ACTIVE_BUILD.SEQ : Fld := fld1 4100 0x120 0 32 .ro 0
def TM_ALM.STAGED_BUILD.SEQ : Fld := fld1 4100 0x124 0 32 .ro 0
def TM_ALM.MIN_BUILD.SEQ : Fld := fld1 4100 0x128 0 32 .rwl 0
def TM_ALM.ACTIVE_DIGEST.DIGEST : Fld := fldN 4100 0x140 12 0x4 0 32 .ro 0
def TM_ALM.STAGED_DIGEST.DIGEST : Fld := fldN 4100 0x180 12 0x4 0 32 .ro 0
/-- The counter fields of TM_ALM in the order of R415. -/
def TM_ALM.ctrs : List Fld :=
  []
/-- The block fields of TM_ALM. -/
def TM_ALM.fields : List Fld :=
  [TM_ALM.LOAD_STATUS.PHASE, TM_ALM.LOAD_STATUS.ERROR, TM_ALM.LOAD_STATUS.ERR_CODE, TM_ALM.ERR_SECTION.INDEX, TM_ALM.ERR_OFFSET.OFFSET, TM_ALM.BYTES_LOADED.BYTES, TM_ALM.ACTIVE_ID.ID, TM_ALM.STAGED_ID.ID, TM_ALM.ACTIVE_BUILD.SEQ, TM_ALM.STAGED_BUILD.SEQ, TM_ALM.MIN_BUILD.SEQ, TM_ALM.ACTIVE_DIGEST.DIGEST] ++
  [TM_ALM.STAGED_DIGEST.DIGEST]

/-! ### TM_SEC (R446) -/
def TM_SEC.LIFECYCLE.STATE : Fld := fld1 4101 0x100 0 2 .ro 0
def TM_SEC.LIFECYCLE.OWNER_ONLY : Fld := fld1 4101 0x100 2 1 .ro 0
def TM_SEC.LIFECYCLE.ERASED : Fld := fld1 4101 0x100 3 1 .ro 0
def TM_SEC.LIFECYCLE.CHAIN_BAD : Fld := fld1 4101 0x100 4 1 .ro 0
def TM_SEC.LIFECYCLE.OWNER_VALID : Fld := fld1 4101 0x100 8 4 .ro 0
def TM_SEC.LIFECYCLE.OWNER_REVOKED : Fld := fld1 4101 0x100 12 4 .ro 0
def TM_SEC.DEBUG.LEVEL : Fld := fld1 4101 0x104 0 2 .ro 0
def TM_SEC.DEBUG.RELOCK : Fld := fld1 4101 0x104 2 1 .wo 0
def TM_SEC.DEBUG.KEY : Fld := fld1 4101 0x104 8 3 .ro 0
def TM_SEC.DEBUG.MIN_LEFT : Fld := fld1 4101 0x104 16 16 .ro 0
def TM_SEC.BOOT.BOOTED_SLOT : Fld := fld1 4101 0x108 0 1 .ro 0
def TM_SEC.BOOT.FALLBACK : Fld := fld1 4101 0x108 1 1 .ro 0
def TM_SEC.BOOT.NEXT_SLOT : Fld := fld1 4101 0x108 2 1 .rw 0
def TM_SEC.BOOT.RETRY : Fld := fld1 4101 0x108 3 1 .wo 0
def TM_SEC.BOOT.STATE : Fld := fld1 4101 0x108 4 2 .ro 0
def TM_SEC.BOOT.IMAGE_SVN : Fld := fld1 4101 0x108 8 8 .ro 0
def TM_SEC.SVN.HELRI_SVN : Fld := fld1 4101 0x10c 0 8 .ro 0
def TM_SEC.SVN.ALM_SVN : Fld := fld1 4101 0x10c 8 8 .ro 0
def TM_SEC.DEVICE_ID.ID : Fld := fld1 4101 0x110 0 64 .ro 0
def TM_SEC.PROV_NONCE.NONCE : Fld := fldN 4101 0x120 8 0x4 0 32 .ro 0
def TM_SEC.HELRI_MEAS.MEAS : Fld := fldN 4101 0x140 12 0x4 0 32 .ro 0
def TM_SEC.DBG_DENIED.COUNT : Fld := fld1 4101 0x170 0 32 .ro 0
def TM_SEC.UNLOCK_FAIL.COUNT : Fld := fld1 4101 0x174 0 32 .ro 0
/-- The counter fields of TM_SEC in the order of R415. -/
def TM_SEC.ctrs : List Fld :=
  [TM_SEC.DBG_DENIED.COUNT, TM_SEC.UNLOCK_FAIL.COUNT]
/-- The block fields of TM_SEC. -/
def TM_SEC.fields : List Fld :=
  [TM_SEC.LIFECYCLE.STATE, TM_SEC.LIFECYCLE.OWNER_ONLY, TM_SEC.LIFECYCLE.ERASED, TM_SEC.LIFECYCLE.CHAIN_BAD, TM_SEC.LIFECYCLE.OWNER_VALID, TM_SEC.LIFECYCLE.OWNER_REVOKED, TM_SEC.DEBUG.LEVEL, TM_SEC.DEBUG.RELOCK, TM_SEC.DEBUG.KEY, TM_SEC.DEBUG.MIN_LEFT, TM_SEC.BOOT.BOOTED_SLOT, TM_SEC.BOOT.FALLBACK] ++
  [TM_SEC.BOOT.NEXT_SLOT, TM_SEC.BOOT.RETRY, TM_SEC.BOOT.STATE, TM_SEC.BOOT.IMAGE_SVN, TM_SEC.SVN.HELRI_SVN, TM_SEC.SVN.ALM_SVN, TM_SEC.DEVICE_ID.ID, TM_SEC.PROV_NONCE.NONCE, TM_SEC.HELRI_MEAS.MEAS, TM_SEC.DBG_DENIED.COUNT, TM_SEC.UNLOCK_FAIL.COUNT]

/-! ### TM_MC (R489) -/
def TM_MC.STATUS.INIT_STAGE : Fld := fld1 4102 0x100 0 2 .ro 0
def TM_MC.STATUS.RESET_CAUSE : Fld := fld1 4102 0x100 2 2 .ro 0
def TM_MC.STATUS.TRIAL : Fld := fld1 4102 0x100 4 1 .ro 0
def TM_MC.RESET_REQ.CHIP : Fld := fld1 4102 0x104 0 1 .wo 0
def TM_MC.RESET_REQ.KEY : Fld := fld1 4102 0x104 16 16 .wo 0
def TM_MC.FW_BUF_LO.ADDR : Fld := fld1 4102 0x108 6 26 .rw 0
def TM_MC.FW_BUF_HI.ADDR : Fld := fld1 4102 0x10c 0 32 .rw 0
def TM_MC.FW_LEN.BYTES : Fld := fld1 4102 0x110 0 22 .rw 0
def TM_MC.FW_CTRL.STAGE : Fld := fld1 4102 0x114 0 1 .wo 0
def TM_MC.FW_CTRL.SWITCH : Fld := fld1 4102 0x114 1 1 .wo 0
def TM_MC.FW_CTRL.CONFIRM : Fld := fld1 4102 0x114 2 1 .wo 0
def TM_MC.FW_CTRL.BUSY : Fld := fld1 4102 0x114 3 1 .ro 0
def TM_MC.FW_CTRL.STAGED : Fld := fld1 4102 0x114 4 1 .ro 0
def TM_MC.FW_CTRL.ERR : Fld := fld1 4102 0x114 5 1 .ro 0
def TM_MC.FW_CTRL.CAUSE : Fld := fld1 4102 0x114 6 4 .ro 0
def TM_MC.CONFIRM_S.S : Fld := fld1 4102 0x118 0 16 .rw 600
def TM_MC.RESTARTS.COUNT : Fld := fld1 4102 0x11c 0 32 .ro 0
def TM_MC.WATCHDOG.EN : Fld := fld1 4102 0x120 0 1 .rwl 1
/-- The counter fields of TM_MC in the order of R415. -/
def TM_MC.ctrs : List Fld :=
  [TM_MC.RESTARTS.COUNT]
/-- The block fields of TM_MC. -/
def TM_MC.fields : List Fld :=
  [TM_MC.STATUS.INIT_STAGE, TM_MC.STATUS.RESET_CAUSE, TM_MC.STATUS.TRIAL, TM_MC.RESET_REQ.CHIP, TM_MC.RESET_REQ.KEY, TM_MC.FW_BUF_LO.ADDR, TM_MC.FW_BUF_HI.ADDR, TM_MC.FW_LEN.BYTES, TM_MC.FW_CTRL.STAGE, TM_MC.FW_CTRL.SWITCH, TM_MC.FW_CTRL.CONFIRM, TM_MC.FW_CTRL.BUSY] ++
  [TM_MC.FW_CTRL.STAGED, TM_MC.FW_CTRL.ERR, TM_MC.FW_CTRL.CAUSE, TM_MC.CONFIRM_S.S, TM_MC.RESTARTS.COUNT, TM_MC.WATCHDOG.EN]

/-! ### TM_PCIE (R41) -/
def TM_PCIE.LINK_STATUS.SPEED : Fld := fld1 4104 0x100 0 3 .ro 0
def TM_PCIE.LINK_STATUS.WIDTH : Fld := fld1 4104 0x100 8 5 .ro 0
def TM_PCIE.LINK_STATUS.FLIT : Fld := fld1 4104 0x100 13 1 .ro 0
def TM_PCIE.LINK_STATUS.LINK_UP : Fld := fld1 4104 0x100 14 1 .ro 0
def TM_PCIE.LINK_EXPECT.MIN_SPEED : Fld := fld1 4104 0x104 0 3 .rw 6
def TM_PCIE.LINK_EXPECT.MIN_WIDTH : Fld := fld1 4104 0x104 8 5 .rw 16
/-- The counter fields of TM_PCIE in the order of R415. -/
def TM_PCIE.ctrs : List Fld :=
  []
/-- The block fields of TM_PCIE. -/
def TM_PCIE.fields : List Fld :=
  [TM_PCIE.LINK_STATUS.SPEED, TM_PCIE.LINK_STATUS.WIDTH, TM_PCIE.LINK_STATUS.FLIT, TM_PCIE.LINK_STATUS.LINK_UP, TM_PCIE.LINK_EXPECT.MIN_SPEED, TM_PCIE.LINK_EXPECT.MIN_WIDTH]

/-! ### TM_HCMD (R45, R60) -/
def TM_HCMD.SQ_BASE_LO.ADDR : Fld := fldN 4105 0x100 64 0x20 12 20 .rw 0
def TM_HCMD.SQ_BASE_HI.ADDR : Fld := fldN 4105 0x104 64 0x20 0 32 .rw 0
def TM_HCMD.CQ_BASE_LO.ADDR : Fld := fldN 4105 0x108 64 0x20 12 20 .rw 0
def TM_HCMD.CQ_BASE_HI.ADDR : Fld := fldN 4105 0x10c 64 0x20 0 32 .rw 0
def TM_HCMD.RING_CTRL.LOG2_SIZE : Fld := fldN 4105 0x110 64 0x20 0 4 .rw 6
def TM_HCMD.RING_CTRL.ENABLE : Fld := fldN 4105 0x110 64 0x20 4 1 .rw 0
def TM_HCMD.RING_CTRL.MAX_INFLIGHT : Fld := fldN 4105 0x110 64 0x20 8 12 .rw 256
def TM_HCMD.RING_STATUS.SQ_HEAD : Fld := fldN 4105 0x114 64 0x20 0 16 .ro 0
def TM_HCMD.RING_STATUS.INFLIGHT : Fld := fldN 4105 0x114 64 0x20 16 12 .ro 0
def TM_HCMD.RING_STATUS.ACTIVE : Fld := fldN 4105 0x114 64 0x20 28 1 .ro 0
def TM_HCMD.RING_STATUS.CQ_FULL : Fld := fldN 4105 0x114 64 0x20 29 1 .ro 0
def TM_HCMD.RING_STATUS.ERROR : Fld := fldN 4105 0x114 64 0x20 30 1 .ro 0
def TM_HCMD.CQ_STATUS.CQ_TAIL : Fld := fldN 4105 0x118 64 0x20 0 16 .ro 0
def TM_HCMD.CQ_STATUS.CQ_PHASE : Fld := fldN 4105 0x118 64 0x20 16 1 .ro 1
def TM_HCMD.IRQ_COAL.COUNT : Fld := fldN 4105 0x11c 64 0x20 0 8 .rw 1
def TM_HCMD.IRQ_COAL.TIME_US : Fld := fldN 4105 0x11c 64 0x20 8 16 .rw 0
def TM_HCMD.HCMD_STATUS.INFLIGHT : Fld := fld1 4105 0x900 0 12 .ro 0
def TM_HCMD.HCMD_STATUS.LOST_CPL : Fld := fld1 4105 0x900 16 16 .ro 0
def TM_HCMD.DCMD.WORD : Fld := fldN 4105 0xa00 16 0x4 0 32 .rw 0
def TM_HCMD.DCMD_GO.GO : Fld := fld1 4105 0xa40 0 1 .wo 0
def TM_HCMD.DRES.WORD : Fld := fldN 4105 0xa80 8 0x4 0 32 .ro 0
def TM_HCMD.DRES_CTRL.VALID : Fld := fld1 4105 0xaa0 0 1 .ro 0
def TM_HCMD.DRES_CTRL.RESULT_ACK : Fld := fld1 4105 0xaa0 1 1 .wo 0
def TM_HCMD.DRES_CTRL.BUSY : Fld := fld1 4105 0xaa0 2 1 .ro 0
/-- The counter fields of TM_HCMD in the order of R415. -/
def TM_HCMD.ctrs : List Fld :=
  [TM_HCMD.IRQ_COAL.COUNT]
/-- The block fields of TM_HCMD. -/
def TM_HCMD.fields : List Fld :=
  [TM_HCMD.SQ_BASE_LO.ADDR, TM_HCMD.SQ_BASE_HI.ADDR, TM_HCMD.CQ_BASE_LO.ADDR, TM_HCMD.CQ_BASE_HI.ADDR, TM_HCMD.RING_CTRL.LOG2_SIZE, TM_HCMD.RING_CTRL.ENABLE, TM_HCMD.RING_CTRL.MAX_INFLIGHT, TM_HCMD.RING_STATUS.SQ_HEAD, TM_HCMD.RING_STATUS.INFLIGHT, TM_HCMD.RING_STATUS.ACTIVE, TM_HCMD.RING_STATUS.CQ_FULL, TM_HCMD.RING_STATUS.ERROR] ++
  [TM_HCMD.CQ_STATUS.CQ_TAIL, TM_HCMD.CQ_STATUS.CQ_PHASE, TM_HCMD.IRQ_COAL.COUNT, TM_HCMD.IRQ_COAL.TIME_US, TM_HCMD.HCMD_STATUS.INFLIGHT, TM_HCMD.HCMD_STATUS.LOST_CPL, TM_HCMD.DCMD.WORD, TM_HCMD.DCMD_GO.GO, TM_HCMD.DRES.WORD, TM_HCMD.DRES_CTRL.VALID, TM_HCMD.DRES_CTRL.RESULT_ACK, TM_HCMD.DRES_CTRL.BUSY]

/-! ### TM_HPKT (R61) -/
def TM_HPKT.PUNT_BASE_LO.ADDR : Fld := fldN 4106 0x100 64 0x20 12 20 .rw 0
def TM_HPKT.INJ_BASE_LO.ADDR : Fld := fldN 4106 0x110 64 0x20 12 20 .rw 0
def TM_HPKT.PUNT_BASE_HI.ADDR : Fld := fldN 4106 0x104 64 0x20 0 32 .rw 0
def TM_HPKT.INJ_BASE_HI.ADDR : Fld := fldN 4106 0x114 64 0x20 0 32 .rw 0
def TM_HPKT.PUNT_CTRL.LOG2_SIZE : Fld := fldN 4106 0x108 64 0x20 0 4 .rw 6
def TM_HPKT.INJ_CTRL.LOG2_SIZE : Fld := fldN 4106 0x118 64 0x20 0 4 .rw 6
def TM_HPKT.PUNT_CTRL.ENABLE : Fld := fldN 4106 0x108 64 0x20 4 1 .rw 0
def TM_HPKT.INJ_CTRL.ENABLE : Fld := fldN 4106 0x118 64 0x20 4 1 .rw 0
def TM_HPKT.PUNT_CTRL.COAL_COUNT : Fld := fldN 4106 0x108 64 0x20 8 8 .rw 1
def TM_HPKT.INJ_CTRL.COAL_COUNT : Fld := fldN 4106 0x118 64 0x20 8 8 .rw 1
def TM_HPKT.PUNT_CTRL.COAL_TIME_US : Fld := fldN 4106 0x108 64 0x20 16 16 .rw 0
def TM_HPKT.INJ_CTRL.COAL_TIME_US : Fld := fldN 4106 0x118 64 0x20 16 16 .rw 0
def TM_HPKT.PUNT_STATUS.HEAD : Fld := fldN 4106 0x10c 64 0x20 0 16 .ro 0
def TM_HPKT.INJ_STATUS.HEAD : Fld := fldN 4106 0x11c 64 0x20 0 16 .ro 0
def TM_HPKT.PUNT_STATUS.PHASE : Fld := fldN 4106 0x10c 64 0x20 16 1 .ro 1
def TM_HPKT.INJ_STATUS.PHASE : Fld := fldN 4106 0x11c 64 0x20 16 1 .ro 1
def TM_HPKT.PUNT_MAP.CHAN : Fld := ⟨4106, 0x900, 64, 0x4, 4, 8, 0, 6, .rw, 0, false⟩
def TM_HPKT.PUNT_DROP.COUNT : Fld := fldN 4106 0xa00 64 0x4 0 32 .ro 0
def TM_HPKT.INJ_DROP.COUNT : Fld := fldN 4106 0xb00 64 0x4 0 32 .ro 0
/-- The counter fields of TM_HPKT in the order of R415. -/
def TM_HPKT.ctrs : List Fld :=
  [TM_HPKT.PUNT_DROP.COUNT, TM_HPKT.INJ_DROP.COUNT]
/-- The block fields of TM_HPKT. -/
def TM_HPKT.fields : List Fld :=
  [TM_HPKT.PUNT_BASE_LO.ADDR, TM_HPKT.INJ_BASE_LO.ADDR, TM_HPKT.PUNT_BASE_HI.ADDR, TM_HPKT.INJ_BASE_HI.ADDR, TM_HPKT.PUNT_CTRL.LOG2_SIZE, TM_HPKT.INJ_CTRL.LOG2_SIZE, TM_HPKT.PUNT_CTRL.ENABLE, TM_HPKT.INJ_CTRL.ENABLE, TM_HPKT.PUNT_CTRL.COAL_COUNT, TM_HPKT.INJ_CTRL.COAL_COUNT, TM_HPKT.PUNT_CTRL.COAL_TIME_US, TM_HPKT.INJ_CTRL.COAL_TIME_US] ++
  [TM_HPKT.PUNT_STATUS.HEAD, TM_HPKT.INJ_STATUS.HEAD, TM_HPKT.PUNT_STATUS.PHASE, TM_HPKT.INJ_STATUS.PHASE, TM_HPKT.PUNT_MAP.CHAN, TM_HPKT.PUNT_DROP.COUNT, TM_HPKT.INJ_DROP.COUNT]

/-! ### TM_MSIX (R69) -/
def TM_MSIX.CAUSE_MAP.VECTOR : Fld := fldN 4107 0x100 768 0x4 0 11 .rw 0
def TM_MSIX.CAUSE_MAP.ENABLE : Fld := fldN 4107 0x100 768 0x4 16 1 .rw 0
def TM_MSIX.CAUSE_MAP.PEND : Fld := fldN 4107 0x100 768 0x4 31 1 .ro 0
/-- The counter fields of TM_MSIX in the order of R415. -/
def TM_MSIX.ctrs : List Fld :=
  []
/-- The block fields of TM_MSIX. -/
def TM_MSIX.fields : List Fld :=
  [TM_MSIX.CAUSE_MAP.VECTOR, TM_MSIX.CAUSE_MAP.ENABLE, TM_MSIX.CAUSE_MAP.PEND]

/-! ### TM_MGMT (R471) -/
def TM_MGMT.ADDR.ADDR : Fld := fld1 4108 0x100 0 7 .ro 0
def TM_MGMT.CFG.PEC_REQ : Fld := fld1 4108 0x104 0 1 .rwl 0
def TM_MGMT.CFG.REG_EN : Fld := fld1 4108 0x104 1 1 .rwl 1
def TM_MGMT.PEC_ERR.COUNT : Fld := fld1 4108 0x108 0 32 .ro 0
def TM_MGMT.NACKS.COUNT : Fld := fld1 4108 0x10c 0 32 .ro 0
/-- The counter fields of TM_MGMT in the order of R415. -/
def TM_MGMT.ctrs : List Fld :=
  [TM_MGMT.PEC_ERR.COUNT, TM_MGMT.NACKS.COUNT]
/-- The block fields of TM_MGMT. -/
def TM_MGMT.fields : List Fld :=
  [TM_MGMT.ADDR.ADDR, TM_MGMT.CFG.PEC_REQ, TM_MGMT.CFG.REG_EN, TM_MGMT.PEC_ERR.COUNT, TM_MGMT.NACKS.COUNT]

/-! ### TM_SDF (R265) -/
def TM_SDF.LANE_CFG.TX_INVERT : Fld := fldN 4112 0x100 16 0x40 0 1 .rw 0
def TM_SDF.LANE_CFG.RX_INVERT : Fld := fldN 4112 0x100 16 0x40 1 1 .rw 0
def TM_SDF.LANE_CFG.TX_DISABLE : Fld := fldN 4112 0x100 16 0x40 2 1 .rw 0
def TM_SDF.LANE_CFG.PRBS_GEN : Fld := fldN 4112 0x100 16 0x40 3 3 .rw 0
def TM_SDF.LANE_CFG.PRBS_CHK : Fld := fldN 4112 0x100 16 0x40 6 3 .rw 0
def TM_SDF.LANE_CFG.NEAR_LOOPBACK : Fld := fldN 4112 0x100 16 0x40 9 1 .rw 0
def TM_SDF.LANE_CFG.ADAPT_FREEZE : Fld := fldN 4112 0x100 16 0x40 10 1 .rw 0
def TM_SDF.TX_FFE0.C_M3 : Fld := fldN 4112 0x104 16 0x40 0 8 .rw 0
def TM_SDF.TX_FFE0.C_M2 : Fld := fldN 4112 0x104 16 0x40 8 8 .rw 0
def TM_SDF.TX_FFE0.C_M1 : Fld := fldN 4112 0x104 16 0x40 16 8 .rw 0
def TM_SDF.TX_FFE0.C0 : Fld := fldN 4112 0x104 16 0x40 24 8 .rw 127
def TM_SDF.TX_FFE1.C_P1 : Fld := fldN 4112 0x108 16 0x40 0 8 .rw 0
def TM_SDF.LANE_STATUS.RATE : Fld := fldN 4112 0x10c 16 0x40 0 2 .ro 0
def TM_SDF.LANE_STATUS.SIGNAL : Fld := fldN 4112 0x10c 16 0x40 2 1 .ro 0
def TM_SDF.LANE_STATUS.CDR_LOCK : Fld := fldN 4112 0x10c 16 0x40 3 1 .ro 0
def TM_SDF.LANE_STATUS.ADAPT_DONE : Fld := fldN 4112 0x10c 16 0x40 4 1 .ro 0
def TM_SDF.LANE_STATUS.EYE_MARGIN : Fld := fldN 4112 0x10c 16 0x40 8 8 .ro 0
def TM_SDF.PRBS_ERR.COUNT : Fld := fldC 4112 0x110 16 0x40
/-- The counter fields of TM_SDF in the order of R415. -/
def TM_SDF.ctrs : List Fld :=
  [TM_SDF.PRBS_ERR.COUNT]
/-- The block fields of TM_SDF. -/
def TM_SDF.fields : List Fld :=
  [TM_SDF.LANE_CFG.TX_INVERT, TM_SDF.LANE_CFG.RX_INVERT, TM_SDF.LANE_CFG.TX_DISABLE, TM_SDF.LANE_CFG.PRBS_GEN, TM_SDF.LANE_CFG.PRBS_CHK, TM_SDF.LANE_CFG.NEAR_LOOPBACK, TM_SDF.LANE_CFG.ADAPT_FREEZE, TM_SDF.TX_FFE0.C_M3, TM_SDF.TX_FFE0.C_M2, TM_SDF.TX_FFE0.C_M1, TM_SDF.TX_FFE0.C0, TM_SDF.TX_FFE1.C_P1] ++
  [TM_SDF.LANE_STATUS.RATE, TM_SDF.LANE_STATUS.SIGNAL, TM_SDF.LANE_STATUS.CDR_LOCK, TM_SDF.LANE_STATUS.ADAPT_DONE, TM_SDF.LANE_STATUS.EYE_MARGIN, TM_SDF.PRBS_ERR.COUNT]

/-! ### TM_FLINK (R266, R267) -/
def TM_FLINK.LINK_CFG.ENABLE : Fld := fldN 4136 0x100 32 0x4 0 1 .rw 0
def TM_FLINK.LINK_CFG.LT_EN : Fld := fldN 4136 0x100 32 0x4 1 1 .rw 0
def TM_FLINK.LINK_CFG.TIM_EN : Fld := fldN 4136 0x100 32 0x4 2 1 .rw 0
def TM_FLINK.LINK_CFG.TIM_DEV : Fld := fldN 4136 0x100 32 0x4 3 1 .rw 0
def TM_FLINK.LINK_CFG.TIM_LINK : Fld := fldN 4136 0x100 32 0x4 4 1 .rw 0
def TM_FLINK.LINK_CFG.TIM_PLANE : Fld := fldN 4136 0x100 32 0x4 5 1 .rw 0
def TM_FLINK.LINK_CFG.TIM_OPER : Fld := fldN 4136 0x100 32 0x4 6 1 .rw 0
def TM_FLINK.LINK_CFG.FORCE_OUT : Fld := fldN 4136 0x100 32 0x4 7 1 .rw 0
def TM_FLINK.LINK_CFG.REACT : Fld := fldN 4136 0x100 32 0x4 8 5 .rwl 31
def TM_FLINK.LINK_STATUS.CW_LOCK : Fld := fldN 4136 0x180 32 0x4 0 1 .ro 0
def TM_FLINK.LINK_STATUS.LOF : Fld := fldN 4136 0x180 32 0x4 1 1 .ro 1
def TM_FLINK.LINK_STATUS.LOM : Fld := fldN 4136 0x180 32 0x4 2 1 .ro 1
def TM_FLINK.LINK_STATUS.TIM : Fld := fldN 4136 0x180 32 0x4 3 1 .ro 0
def TM_FLINK.LINK_STATUS.DEG : Fld := fldN 4136 0x180 32 0x4 4 1 .ro 0
def TM_FLINK.LINK_STATUS.RDI_RX : Fld := fldN 4136 0x180 32 0x4 5 1 .ro 0
def TM_FLINK.LINK_STATUS.MODE_MISMATCH : Fld := fldN 4136 0x180 32 0x4 6 1 .ro 0
def TM_FLINK.LINK_STATUS.LOS : Fld := fldN 4136 0x180 32 0x4 7 1 .ro 1
def TM_FLINK.LINK_STATUS.ALIGN : Fld := fldN 4136 0x180 32 0x4 8 2 .ro 0
def TM_FLINK.LINK_STATUS.STATE : Fld := fldN 4136 0x180 32 0x4 10 2 .ro 1
def TM_FLINK.LINK_STATUS.WTR_LEFT : Fld := fldN 4136 0x180 32 0x4 16 16 .ro 0
def TM_FLINK.DEG_CFG.DEG_THR : Fld := fldN 4136 0x200 32 0x4 0 24 .rw 2000
def TM_FLINK.DEG_CFG.DEG_M : Fld := fldN 4136 0x200 32 0x4 24 4 .rw 7
def TM_FLINK.FAB_CTRL.BTB : Fld := fld1 4136 0x280 0 1 .rwl 0
def TM_FLINK.FAB_CTRL.ADVERTISE : Fld := fld1 4136 0x280 1 1 .rw 0
def TM_FLINK.WTR.FAB_WTR : Fld := fld1 4136 0x284 0 16 .rwl 1000
def TM_FLINK.FC_CTRL.FC_TIMEOUT : Fld := fld1 4136 0x288 0 16 .rw 100
def TM_FLINK.LINKS_UP.COUNT : Fld := fld1 4136 0x28c 0 6 .ro 0
def TM_FLINK.FC_EXPIRED.COUNT : Fld := fld1 4136 0x290 0 32 .ro 0
def TM_FLINK.TRACE_SEL.LINK : Fld := fld1 4136 0x300 0 5 .rw 0
def TM_FLINK.TRACE_SEL.SIDE : Fld := fld1 4136 0x300 5 3 .rw 0
def TM_FLINK.TRACE_SEL.OP : Fld := fld1 4136 0x300 8 1 .rw 0
def TM_FLINK.TRACE_SEL.GO : Fld := fld1 4136 0x300 9 1 .wo 0
def TM_FLINK.TRACE_SEL.BUSY : Fld := fld1 4136 0x300 10 1 .ro 0
def TM_FLINK.TRACE_SEL.ERR : Fld := fld1 4136 0x300 11 1 .ro 0
def TM_FLINK.TRACE_DATA.DATA : Fld := fldN 4136 0x304 16 0x4 0 32 .rw 0
def TM_FLINK.CNT.CELLS_RX : Fld := fldC 4136 0x800 32 0x40
def TM_FLINK.CNT.CELLS_TX : Fld := fldC 4136 0x808 32 0x40
def TM_FLINK.CNT.HCRC_ERR : Fld := fldC 4136 0x810 32 0x40
def TM_FLINK.CNT.OH_CRC_ERR : Fld := fldC 4136 0x818 32 0x40
def TM_FLINK.CNT.FEC_CORR_SYM : Fld := fldC 4136 0x820 32 0x40
def TM_FLINK.CNT.FEC_UNCORR_CW : Fld := fldC 4136 0x828 32 0x40
def TM_FLINK.CNT.RX_DISCARD : Fld := fldC 4136 0x830 32 0x40
def TM_FLINK.CNT.FALSE_LOCK : Fld := fldC 4136 0x838 32 0x40
/-- The counter fields of TM_FLINK in the order of R415. -/
def TM_FLINK.ctrs : List Fld :=
  [TM_FLINK.LINKS_UP.COUNT, TM_FLINK.FC_EXPIRED.COUNT, TM_FLINK.CNT.CELLS_RX, TM_FLINK.CNT.CELLS_TX, TM_FLINK.CNT.HCRC_ERR, TM_FLINK.CNT.OH_CRC_ERR, TM_FLINK.CNT.FEC_CORR_SYM, TM_FLINK.CNT.FEC_UNCORR_CW, TM_FLINK.CNT.RX_DISCARD, TM_FLINK.CNT.FALSE_LOCK]
/-- The block fields of TM_FLINK. -/
def TM_FLINK.fields : List Fld :=
  [TM_FLINK.LINK_CFG.ENABLE, TM_FLINK.LINK_CFG.LT_EN, TM_FLINK.LINK_CFG.TIM_EN, TM_FLINK.LINK_CFG.TIM_DEV, TM_FLINK.LINK_CFG.TIM_LINK, TM_FLINK.LINK_CFG.TIM_PLANE, TM_FLINK.LINK_CFG.TIM_OPER, TM_FLINK.LINK_CFG.FORCE_OUT, TM_FLINK.LINK_CFG.REACT, TM_FLINK.LINK_STATUS.CW_LOCK, TM_FLINK.LINK_STATUS.LOF, TM_FLINK.LINK_STATUS.LOM] ++
  [TM_FLINK.LINK_STATUS.TIM, TM_FLINK.LINK_STATUS.DEG, TM_FLINK.LINK_STATUS.RDI_RX, TM_FLINK.LINK_STATUS.MODE_MISMATCH, TM_FLINK.LINK_STATUS.LOS, TM_FLINK.LINK_STATUS.ALIGN, TM_FLINK.LINK_STATUS.STATE, TM_FLINK.LINK_STATUS.WTR_LEFT, TM_FLINK.DEG_CFG.DEG_THR, TM_FLINK.DEG_CFG.DEG_M, TM_FLINK.FAB_CTRL.BTB, TM_FLINK.FAB_CTRL.ADVERTISE] ++
  [TM_FLINK.WTR.FAB_WTR, TM_FLINK.FC_CTRL.FC_TIMEOUT, TM_FLINK.LINKS_UP.COUNT, TM_FLINK.FC_EXPIRED.COUNT, TM_FLINK.TRACE_SEL.LINK, TM_FLINK.TRACE_SEL.SIDE, TM_FLINK.TRACE_SEL.OP, TM_FLINK.TRACE_SEL.GO, TM_FLINK.TRACE_SEL.BUSY, TM_FLINK.TRACE_SEL.ERR, TM_FLINK.TRACE_DATA.DATA, TM_FLINK.CNT.CELLS_RX] ++
  [TM_FLINK.CNT.CELLS_TX, TM_FLINK.CNT.HCRC_ERR, TM_FLINK.CNT.OH_CRC_ERR, TM_FLINK.CNT.FEC_CORR_SYM, TM_FLINK.CNT.FEC_UNCORR_CW, TM_FLINK.CNT.RX_DISCARD, TM_FLINK.CNT.FALSE_LOCK]

/-! ### TM_SPRAY (R288) -/
def TM_SPRAY.FAB_ID.ID : Fld := fld1 4146 0x100 0 10 .rwl 0
def TM_SPRAY.PAT_INFO.PAT_LEN : Fld := fld1 4146 0x104 0 13 .ro 0
def TM_SPRAY.PAT_INFO.EXP_SLOTS : Fld := fld1 4146 0x104 16 13 .ro 0
def TM_SPRAY.TXQ_XOFF.NORM : Fld := fld1 4146 0x108 0 13 .rw 2048
def TM_SPRAY.TXQ_XOFF.EXP : Fld := fld1 4146 0x108 16 13 .rw 2944
def TM_SPRAY.PEND_ADDR.WORD : Fld := fld1 4146 0x110 0 21 .rw 0
def TM_SPRAY.PEND_DATA.DATA : Fld := fld1 4146 0x114 0 32 .rw 0
def TM_SPRAY.INSTALL.GO : Fld := fld1 4146 0x118 0 1 .wo 0
def TM_SPRAY.INSTALL.PENDING : Fld := fld1 4146 0x118 1 1 .ro 0
def TM_SPRAY.INSTALL.COPY_ACTIVE : Fld := fld1 4146 0x118 2 1 .wo 0
def TM_SPRAY.INSTALL.ERR : Fld := fld1 4146 0x118 3 1 .ro 0
def TM_SPRAY.INSTALL.CAUSE : Fld := fld1 4146 0x118 4 4 .ro 0
def TM_SPRAY.INSTALL_COUNT.COUNT : Fld := fld1 4146 0x11c 0 32 .ro 0
def TM_SPRAY.SLOT_LOST.COUNT : Fld := fld1 4146 0x120 0 32 .ro 0
def TM_SPRAY.NO_REACH_DROP.COUNT : Fld := fld1 4146 0x124 0 32 .ro 0
def TM_SPRAY.TXQ_OVF.COUNT : Fld := fld1 4146 0x128 0 32 .ro 0
def TM_SPRAY.CORE_DROP.COUNT : Fld := fld1 4146 0x12c 0 32 .ro 0
def TM_SPRAY.ALT_USED.COUNT : Fld := fld1 4146 0x130 0 32 .ro 0
def TM_SPRAY.TXQ_DEPTH.CELLS : Fld := fldN 4146 0x200 32 0x4 0 13 .ro 0
/-- The counter fields of TM_SPRAY in the order of R415. -/
def TM_SPRAY.ctrs : List Fld :=
  [TM_SPRAY.INSTALL_COUNT.COUNT, TM_SPRAY.SLOT_LOST.COUNT, TM_SPRAY.NO_REACH_DROP.COUNT, TM_SPRAY.TXQ_OVF.COUNT, TM_SPRAY.CORE_DROP.COUNT, TM_SPRAY.ALT_USED.COUNT]
/-- The block fields of TM_SPRAY. -/
def TM_SPRAY.fields : List Fld :=
  [TM_SPRAY.FAB_ID.ID, TM_SPRAY.PAT_INFO.PAT_LEN, TM_SPRAY.PAT_INFO.EXP_SLOTS, TM_SPRAY.TXQ_XOFF.NORM, TM_SPRAY.TXQ_XOFF.EXP, TM_SPRAY.PEND_ADDR.WORD, TM_SPRAY.PEND_DATA.DATA, TM_SPRAY.INSTALL.GO, TM_SPRAY.INSTALL.PENDING, TM_SPRAY.INSTALL.COPY_ACTIVE, TM_SPRAY.INSTALL.ERR, TM_SPRAY.INSTALL.CAUSE] ++
  [TM_SPRAY.INSTALL_COUNT.COUNT, TM_SPRAY.SLOT_LOST.COUNT, TM_SPRAY.NO_REACH_DROP.COUNT, TM_SPRAY.TXQ_OVF.COUNT, TM_SPRAY.CORE_DROP.COUNT, TM_SPRAY.ALT_USED.COUNT, TM_SPRAY.TXQ_DEPTH.CELLS]

/-! ### TM_REORD (R289) -/
def TM_REORD.WINDOW_EXP.NS : Fld := fld1 4147 0x100 0 20 .rwe 4000
def TM_REORD.WINDOW_NORM.NS : Fld := fld1 4147 0x104 0 20 .rwe 40000
def TM_REORD.CTX_IDLE.MS : Fld := fld1 4147 0x108 0 16 .rw 1000
def TM_REORD.HELD.CELLS : Fld := fld1 4147 0x10c 0 17 .ro 0
def TM_REORD.RELEASED.COUNT : Fld := fld1 4147 0x110 0 32 .ro 0
def TM_REORD.LOST_CELLS.COUNT : Fld := fld1 4147 0x114 0 32 .ro 0
def TM_REORD.LATE_DROP.COUNT : Fld := fld1 4147 0x118 0 32 .ro 0
def TM_REORD.FORCED_SKIP.COUNT : Fld := fld1 4147 0x11c 0 32 .ro 0
def TM_REORD.REORD_LOSS.COUNT : Fld := fld1 4147 0x120 0 32 .ro 0
/-- The counter fields of TM_REORD in the order of R415. -/
def TM_REORD.ctrs : List Fld :=
  [TM_REORD.RELEASED.COUNT, TM_REORD.LOST_CELLS.COUNT, TM_REORD.LATE_DROP.COUNT, TM_REORD.FORCED_SKIP.COUNT, TM_REORD.REORD_LOSS.COUNT]
/-- The block fields of TM_REORD. -/
def TM_REORD.fields : List Fld :=
  [TM_REORD.WINDOW_EXP.NS, TM_REORD.WINDOW_NORM.NS, TM_REORD.CTX_IDLE.MS, TM_REORD.HELD.CELLS, TM_REORD.RELEASED.COUNT, TM_REORD.LOST_CELLS.COUNT, TM_REORD.LATE_DROP.COUNT, TM_REORD.FORCED_SKIP.COUNT, TM_REORD.REORD_LOSS.COUNT]

/-! ### TM_CHAN (R311) -/
def TM_CHAN.CHAN_COUNT.COUNT : Fld := fld1 4148 0x100 0 17 .ro 0
def TM_CHAN.DESTROY_TIMEOUT.MS : Fld := fld1 4148 0x104 0 16 .rw 100
def TM_CHAN.NO_CHAN_DROP.COUNT : Fld := fld1 4148 0x108 0 32 .ro 0
def TM_CHAN.STALE_DROP.COUNT : Fld := fld1 4148 0x10c 0 32 .ro 0
def TM_CHAN.PORT_MISMATCH.COUNT : Fld := fld1 4148 0x110 0 32 .ro 0
def TM_CHAN.NO_QUEUE_DROP.COUNT : Fld := fld1 4148 0x114 0 32 .ro 0
def TM_CHAN.DESTROY_DROP.COUNT : Fld := fld1 4148 0x118 0 32 .ro 0
def TM_CHAN.PORT_CHAN.HANDLE : Fld := fldN 4148 0x400 257 0x4 0 32 .ro 0
/-- The counter fields of TM_CHAN in the order of R415. -/
def TM_CHAN.ctrs : List Fld :=
  [TM_CHAN.CHAN_COUNT.COUNT, TM_CHAN.NO_CHAN_DROP.COUNT, TM_CHAN.STALE_DROP.COUNT, TM_CHAN.PORT_MISMATCH.COUNT, TM_CHAN.NO_QUEUE_DROP.COUNT, TM_CHAN.DESTROY_DROP.COUNT]
/-- The block fields of TM_CHAN. -/
def TM_CHAN.fields : List Fld :=
  [TM_CHAN.CHAN_COUNT.COUNT, TM_CHAN.DESTROY_TIMEOUT.MS, TM_CHAN.NO_CHAN_DROP.COUNT, TM_CHAN.STALE_DROP.COUNT, TM_CHAN.PORT_MISMATCH.COUNT, TM_CHAN.NO_QUEUE_DROP.COUNT, TM_CHAN.DESTROY_DROP.COUNT, TM_CHAN.PORT_CHAN.HANDLE]

/-! ### TM_QUEUE (R312) -/
def TM_QUEUE.EXP_QLIM.BYTES : Fld := fld1 4149 0x100 0 24 .rwl 16384
def TM_QUEUE.EXP_VOQ_LIM.BYTES : Fld := fld1 4149 0x104 0 28 .rwl 1048576
def TM_QUEUE.EXP_VOQ_BYTES.BYTES : Fld := fld1 4149 0x108 0 28 .ro 0
def TM_QUEUE.PG_FC.PG_XOFF : Fld := fld1 4149 0x10c 0 16 .rw 0
def TM_QUEUE.PG_FC.PG_XON : Fld := fld1 4149 0x10c 16 16 .rw 49152
def TM_QUEUE.MCAST_ING_LIMIT.UNITS : Fld := fld1 4149 0x110 0 28 .rw 65536
def TM_QUEUE.PORT_HOLD.MS : Fld := fld1 4149 0x114 0 16 .rwl 50
def TM_QUEUE.QPROF_SEL.PROFILE : Fld := fld1 4149 0x120 0 8 .rw 0
def TM_QUEUE.QPROF_SEL.OP : Fld := fld1 4149 0x120 8 1 .rw 0
def TM_QUEUE.QPROF_SEL.GO : Fld := fld1 4149 0x120 9 1 .wo 0
def TM_QUEUE.QPROF_SEL.BUSY : Fld := fld1 4149 0x120 10 1 .ro 0
def TM_QUEUE.QPROF_DATA.DATA : Fld := fldN 4149 0x124 4 0x4 0 32 .rw 0
def TM_QUEUE.Q_SEL.QUEUE : Fld := fld1 4149 0x140 0 19 .rw 0
def TM_QUEUE.Q_SEL.GO : Fld := fld1 4149 0x140 19 1 .wo 0
def TM_QUEUE.Q_SEL.BUSY : Fld := fld1 4149 0x140 20 1 .ro 0
def TM_QUEUE.Q_BYTES.COUNT : Fld := fld1 4149 0x144 0 32 .ro 0
def TM_QUEUE.Q_PKTS.COUNT : Fld := fld1 4149 0x148 0 32 .ro 0
def TM_QUEUE.Q_DDR_UNITS.COUNT : Fld := fld1 4149 0x14c 0 32 .ro 0
def TM_QUEUE.PORT_STATE.STATE : Fld := ⟨4149, 0x200, 257, 0x4, 16, 2, 0, 2, .ro, 0, false⟩
def TM_QUEUE.EXP_PORT_BYTES.BYTES : Fld := fldN 4149 0x300 257 0x4 0 24 .ro 0
def TM_QUEUE.TAIL_DROP_G.COUNT : Fld := fld1 4149 0x800 0 32 .ro 0
def TM_QUEUE.TAIL_DROP_Y.COUNT : Fld := fld1 4149 0x804 0 32 .ro 0
def TM_QUEUE.TAIL_DROP_R.COUNT : Fld := fld1 4149 0x808 0 32 .ro 0
def TM_QUEUE.EXP_DROP.COUNT : Fld := fld1 4149 0x80c 0 32 .ro 0
def TM_QUEUE.DOWN_DROP.COUNT : Fld := fld1 4149 0x810 0 32 .ro 0
def TM_QUEUE.FLUSH_DROP.COUNT : Fld := fld1 4149 0x814 0 32 .ro 0
def TM_QUEUE.MCAST_ING_DROP.COUNT : Fld := fld1 4149 0x818 0 32 .ro 0
/-- The counter fields of TM_QUEUE in the order of R415. -/
def TM_QUEUE.ctrs : List Fld :=
  [TM_QUEUE.Q_BYTES.COUNT, TM_QUEUE.Q_PKTS.COUNT, TM_QUEUE.Q_DDR_UNITS.COUNT, TM_QUEUE.TAIL_DROP_G.COUNT, TM_QUEUE.TAIL_DROP_Y.COUNT, TM_QUEUE.TAIL_DROP_R.COUNT, TM_QUEUE.EXP_DROP.COUNT, TM_QUEUE.DOWN_DROP.COUNT, TM_QUEUE.FLUSH_DROP.COUNT, TM_QUEUE.MCAST_ING_DROP.COUNT]
/-- The block fields of TM_QUEUE. -/
def TM_QUEUE.fields : List Fld :=
  [TM_QUEUE.EXP_QLIM.BYTES, TM_QUEUE.EXP_VOQ_LIM.BYTES, TM_QUEUE.EXP_VOQ_BYTES.BYTES, TM_QUEUE.PG_FC.PG_XOFF, TM_QUEUE.PG_FC.PG_XON, TM_QUEUE.MCAST_ING_LIMIT.UNITS, TM_QUEUE.PORT_HOLD.MS, TM_QUEUE.QPROF_SEL.PROFILE, TM_QUEUE.QPROF_SEL.OP, TM_QUEUE.QPROF_SEL.GO, TM_QUEUE.QPROF_SEL.BUSY, TM_QUEUE.QPROF_DATA.DATA] ++
  [TM_QUEUE.Q_SEL.QUEUE, TM_QUEUE.Q_SEL.GO, TM_QUEUE.Q_SEL.BUSY, TM_QUEUE.Q_BYTES.COUNT, TM_QUEUE.Q_PKTS.COUNT, TM_QUEUE.Q_DDR_UNITS.COUNT, TM_QUEUE.PORT_STATE.STATE, TM_QUEUE.EXP_PORT_BYTES.BYTES, TM_QUEUE.TAIL_DROP_G.COUNT, TM_QUEUE.TAIL_DROP_Y.COUNT, TM_QUEUE.TAIL_DROP_R.COUNT, TM_QUEUE.EXP_DROP.COUNT] ++
  [TM_QUEUE.DOWN_DROP.COUNT, TM_QUEUE.FLUSH_DROP.COUNT, TM_QUEUE.MCAST_ING_DROP.COUNT]

/-! ### TM_BUF (R313) -/
def TM_BUF.DIE_TOTAL.UNITS : Fld := fld1 4150 0x100 0 20 .ro 786432
def TM_BUF.DIE_FREE.UNITS : Fld := fld1 4150 0x104 0 20 .ro 786432
def TM_BUF.EXP_RESERVE.UNITS : Fld := fld1 4150 0x108 0 20 .rwl 82176
def TM_BUF.SPILL_FREE.UNITS : Fld := fld1 4150 0x10c 0 20 .rw 131072
def TM_BUF.SPILL_MCAST.UNITS : Fld := fld1 4150 0x110 0 28 .rw 268435455
def TM_BUF.DDR_TOTAL.UNITS : Fld := fld1 4150 0x114 0 29 .ro 0
def TM_BUF.DDR_FREE.UNITS : Fld := fld1 4150 0x118 0 29 .ro 0
def TM_BUF.SPILLED.COUNT : Fld := fld1 4150 0x11c 0 32 .ro 0
def TM_BUF.BUF_DROP.COUNT : Fld := fld1 4150 0x120 0 32 .ro 0
def TM_BUF.DIE_UNC.COUNT : Fld := fld1 4150 0x124 0 32 .ro 0
/-- The counter fields of TM_BUF in the order of R415. -/
def TM_BUF.ctrs : List Fld :=
  [TM_BUF.SPILLED.COUNT, TM_BUF.BUF_DROP.COUNT, TM_BUF.DIE_UNC.COUNT]
/-- The block fields of TM_BUF. -/
def TM_BUF.fields : List Fld :=
  [TM_BUF.DIE_TOTAL.UNITS, TM_BUF.DIE_FREE.UNITS, TM_BUF.EXP_RESERVE.UNITS, TM_BUF.SPILL_FREE.UNITS, TM_BUF.SPILL_MCAST.UNITS, TM_BUF.DDR_TOTAL.UNITS, TM_BUF.DDR_FREE.UNITS, TM_BUF.SPILLED.COUNT, TM_BUF.BUF_DROP.COUNT, TM_BUF.DIE_UNC.COUNT]

/-! ### TM_SCHED (R339) -/
def TM_SCHED.EXP_CTRL.ENABLE : Fld := fld1 4151 0x100 0 1 .rwl 1
def TM_SCHED.EXP_RATE.KBPS : Fld := fld1 4151 0x104 0 32 .rwl 1000000000
def TM_SCHED.EXP_BURST.BYTES : Fld := fld1 4151 0x108 0 28 .rwl 1048576
def TM_SCHED.QUANTUM.BYTES : Fld := fld1 4151 0x10c 0 16 .rw 256
def TM_SCHED.NODE_SEL.LEVEL : Fld := fld1 4151 0x110 0 2 .rw 0
def TM_SCHED.NODE_SEL.INDEX : Fld := fld1 4151 0x110 2 16 .rw 0
def TM_SCHED.NODE_SEL.OP : Fld := fld1 4151 0x110 18 1 .rw 0
def TM_SCHED.NODE_SEL.GO : Fld := fld1 4151 0x110 19 1 .wo 0
def TM_SCHED.NODE_SEL.BUSY : Fld := fld1 4151 0x110 20 1 .ro 0
def TM_SCHED.NODE_SEL.ERR : Fld := fld1 4151 0x110 21 1 .ro 0
def TM_SCHED.NODE_DATA0.PARENT : Fld := fld1 4151 0x114 0 14 .rw 0
def TM_SCHED.NODE_DATA0.PRIO : Fld := fld1 4151 0x114 16 3 .rw 0
def TM_SCHED.NODE_DATA0.WEIGHT : Fld := fld1 4151 0x114 20 10 .rw 1
def TM_SCHED.NODE_DATA1.SHPROF : Fld := fld1 4151 0x118 0 12 .rw 0
def TM_SCHED.NODE_DATA1.SHAPE_EN : Fld := fld1 4151 0x118 12 1 .rw 0
def TM_SCHED.NODE_DATA1.CLS_PROF : Fld := fld1 4151 0x118 16 6 .rw 0
def TM_SCHED.CLSPROF_SEL.PROFILE : Fld := fld1 4151 0x120 0 6 .rw 0
def TM_SCHED.CLSPROF_SEL.OP : Fld := fld1 4151 0x120 6 1 .rw 0
def TM_SCHED.CLSPROF_SEL.GO : Fld := fld1 4151 0x120 7 1 .wo 0
def TM_SCHED.CLSPROF_SEL.BUSY : Fld := fld1 4151 0x120 8 1 .ro 0
def TM_SCHED.CLSPROF_DATA.DATA : Fld := fldN 4151 0x124 4 0x4 0 32 .rw 0
def TM_SCHED.EXP_POLICED.COUNT : Fld := fld1 4151 0x140 0 32 .ro 0
def TM_SCHED.R_FAB_EXP.MBPS : Fld := fld1 4151 0x144 0 32 .ro 0
/-- The counter fields of TM_SCHED in the order of R415. -/
def TM_SCHED.ctrs : List Fld :=
  [TM_SCHED.EXP_POLICED.COUNT]
/-- The block fields of TM_SCHED. -/
def TM_SCHED.fields : List Fld :=
  [TM_SCHED.EXP_CTRL.ENABLE, TM_SCHED.EXP_RATE.KBPS, TM_SCHED.EXP_BURST.BYTES, TM_SCHED.QUANTUM.BYTES, TM_SCHED.NODE_SEL.LEVEL, TM_SCHED.NODE_SEL.INDEX, TM_SCHED.NODE_SEL.OP, TM_SCHED.NODE_SEL.GO, TM_SCHED.NODE_SEL.BUSY, TM_SCHED.NODE_SEL.ERR, TM_SCHED.NODE_DATA0.PARENT, TM_SCHED.NODE_DATA0.PRIO] ++
  [TM_SCHED.NODE_DATA0.WEIGHT, TM_SCHED.NODE_DATA1.SHPROF, TM_SCHED.NODE_DATA1.SHAPE_EN, TM_SCHED.NODE_DATA1.CLS_PROF, TM_SCHED.CLSPROF_SEL.PROFILE, TM_SCHED.CLSPROF_SEL.OP, TM_SCHED.CLSPROF_SEL.GO, TM_SCHED.CLSPROF_SEL.BUSY, TM_SCHED.CLSPROF_DATA.DATA, TM_SCHED.EXP_POLICED.COUNT, TM_SCHED.R_FAB_EXP.MBPS]

/-! ### TM_SHAPE (R340) -/
def TM_SHAPE.CAL_INFO0.N1 : Fld := fld1 4152 0x100 0 13 .ro 0
def TM_SHAPE.CAL_INFO0.N2 : Fld := fld1 4152 0x100 16 15 .ro 0
def TM_SHAPE.CAL_INFO1.N3 : Fld := fld1 4152 0x104 0 17 .ro 0
def TM_SHAPE.CAL_LATE.COUNT : Fld := fld1 4152 0x108 0 32 .ro 0
def TM_SHAPE.CAL_WAITING.COUNT : Fld := fld1 4152 0x10c 0 17 .ro 0
def TM_SHAPE.SHPROF_SEL.PROFILE : Fld := fld1 4152 0x110 0 12 .rw 0
def TM_SHAPE.SHPROF_SEL.OP : Fld := fld1 4152 0x110 12 1 .rw 0
def TM_SHAPE.SHPROF_SEL.GO : Fld := fld1 4152 0x110 13 1 .wo 0
def TM_SHAPE.SHPROF_SEL.BUSY : Fld := fld1 4152 0x110 14 1 .ro 0
def TM_SHAPE.SHPROF_DATA.DATA : Fld := fldN 4152 0x114 2 0x4 0 32 .rw 0
def TM_SHAPE.SHAPER_SEL.LEVEL : Fld := fld1 4152 0x120 0 2 .rw 0
def TM_SHAPE.SHAPER_SEL.INDEX : Fld := fld1 4152 0x120 2 16 .rw 0
def TM_SHAPE.SHAPER_SEL.GO : Fld := fld1 4152 0x120 18 1 .wo 0
def TM_SHAPE.SHAPER_SEL.BUSY : Fld := fld1 4152 0x120 19 1 .ro 0
def TM_SHAPE.SHAPER_SEL.ERR : Fld := fld1 4152 0x120 20 1 .ro 0
def TM_SHAPE.SHAPER_CREDIT.BYTES : Fld := fld1 4152 0x124 0 32 .ro 0
def TM_SHAPE.SHAPER_NEXT.NS : Fld := fld1 4152 0x128 0 32 .ro 0
/-- The counter fields of TM_SHAPE in the order of R415. -/
def TM_SHAPE.ctrs : List Fld :=
  [TM_SHAPE.CAL_LATE.COUNT, TM_SHAPE.CAL_WAITING.COUNT]
/-- The block fields of TM_SHAPE. -/
def TM_SHAPE.fields : List Fld :=
  [TM_SHAPE.CAL_INFO0.N1, TM_SHAPE.CAL_INFO0.N2, TM_SHAPE.CAL_INFO1.N3, TM_SHAPE.CAL_LATE.COUNT, TM_SHAPE.CAL_WAITING.COUNT, TM_SHAPE.SHPROF_SEL.PROFILE, TM_SHAPE.SHPROF_SEL.OP, TM_SHAPE.SHPROF_SEL.GO, TM_SHAPE.SHPROF_SEL.BUSY, TM_SHAPE.SHPROF_DATA.DATA, TM_SHAPE.SHAPER_SEL.LEVEL, TM_SHAPE.SHAPER_SEL.INDEX] ++
  [TM_SHAPE.SHAPER_SEL.GO, TM_SHAPE.SHAPER_SEL.BUSY, TM_SHAPE.SHAPER_SEL.ERR, TM_SHAPE.SHAPER_CREDIT.BYTES, TM_SHAPE.SHAPER_NEXT.NS]

/-! ### TM_POLICE (R341) -/
def TM_POLICE.PPROF_SEL.PROFILE : Fld := fld1 4153 0x100 0 12 .rw 0
def TM_POLICE.PPROF_SEL.OP : Fld := fld1 4153 0x100 12 1 .rw 0
def TM_POLICE.PPROF_SEL.GO : Fld := fld1 4153 0x100 13 1 .wo 0
def TM_POLICE.PPROF_SEL.BUSY : Fld := fld1 4153 0x100 14 1 .ro 0
def TM_POLICE.PPROF_DATA.DATA : Fld := fldN 4153 0x104 5 0x4 0 32 .rw 0
def TM_POLICE.POL_SEL.INDEX : Fld := fld1 4153 0x120 0 18 .rw 0
def TM_POLICE.POL_SEL.OP : Fld := fld1 4153 0x120 18 1 .rw 0
def TM_POLICE.POL_SEL.GO : Fld := fld1 4153 0x120 19 1 .wo 0
def TM_POLICE.POL_SEL.INIT : Fld := fld1 4153 0x120 20 1 .rw 0
def TM_POLICE.POL_SEL.BUSY : Fld := fld1 4153 0x120 21 1 .ro 0
def TM_POLICE.POL_DATA0.PROFILE : Fld := fld1 4153 0x124 0 12 .rw 0
def TM_POLICE.POL_DATA1.TC : Fld := fld1 4153 0x128 0 28 .rw 0
def TM_POLICE.POL_DATA2.TE : Fld := fld1 4153 0x12c 0 28 .rw 0
def TM_POLICE.POL_DATA3.GREEN : Fld := fld1 4153 0x130 0 32 .rw 0
def TM_POLICE.POL_DATA4.YELLOW : Fld := fld1 4153 0x134 0 32 .rw 0
def TM_POLICE.POL_DATA5.RED : Fld := fld1 4153 0x138 0 32 .rw 0
def TM_POLICE.GREEN_TOTAL.COUNT : Fld := fld1 4153 0x140 0 32 .ro 0
def TM_POLICE.YELLOW_TOTAL.COUNT : Fld := fld1 4153 0x144 0 32 .ro 0
def TM_POLICE.RED_TOTAL.COUNT : Fld := fld1 4153 0x148 0 32 .ro 0
def TM_POLICE.RED_DROP.COUNT : Fld := fld1 4153 0x14c 0 32 .ro 0
/-- The counter fields of TM_POLICE in the order of R415. -/
def TM_POLICE.ctrs : List Fld :=
  [TM_POLICE.GREEN_TOTAL.COUNT, TM_POLICE.YELLOW_TOTAL.COUNT, TM_POLICE.RED_TOTAL.COUNT, TM_POLICE.RED_DROP.COUNT]
/-- The block fields of TM_POLICE. -/
def TM_POLICE.fields : List Fld :=
  [TM_POLICE.PPROF_SEL.PROFILE, TM_POLICE.PPROF_SEL.OP, TM_POLICE.PPROF_SEL.GO, TM_POLICE.PPROF_SEL.BUSY, TM_POLICE.PPROF_DATA.DATA, TM_POLICE.POL_SEL.INDEX, TM_POLICE.POL_SEL.OP, TM_POLICE.POL_SEL.GO, TM_POLICE.POL_SEL.INIT, TM_POLICE.POL_SEL.BUSY, TM_POLICE.POL_DATA0.PROFILE, TM_POLICE.POL_DATA1.TC] ++
  [TM_POLICE.POL_DATA2.TE, TM_POLICE.POL_DATA3.GREEN, TM_POLICE.POL_DATA4.YELLOW, TM_POLICE.POL_DATA5.RED, TM_POLICE.GREEN_TOTAL.COUNT, TM_POLICE.YELLOW_TOTAL.COUNT, TM_POLICE.RED_TOTAL.COUNT, TM_POLICE.RED_DROP.COUNT]

/-! ### TM_GATE (R342) -/
def TM_GATE.GATE_SEL.PORT : Fld := fld1 4154 0x100 0 8 .rw 0
def TM_GATE.GATE_SEL.LIST : Fld := fld1 4154 0x100 8 1 .rw 0
def TM_GATE.GATE_SEL.ENTRY : Fld := fld1 4154 0x100 9 10 .rw 0
def TM_GATE.GATE_SEL.OP : Fld := fld1 4154 0x100 19 1 .rw 0
def TM_GATE.GATE_SEL.GO : Fld := fld1 4154 0x100 20 1 .wo 0
def TM_GATE.GATE_SEL.BUSY : Fld := fld1 4154 0x100 21 1 .ro 0
def TM_GATE.GATE_SEL.ERR : Fld := fld1 4154 0x100 22 1 .ro 0
def TM_GATE.GATE_DATA.DATA : Fld := fldN 4154 0x104 2 0x4 0 32 .rw 0
def TM_GATE.PORT_CTRL.EN : Fld := fld1 4154 0x110 0 1 .rw 0
def TM_GATE.PORT_CTRL.GUARD : Fld := fld1 4154 0x110 1 1 .rw 0
def TM_GATE.PORT_CTRL.SWITCH : Fld := fld1 4154 0x110 2 1 .wo 0
def TM_GATE.PORT_CTRL.ABORT : Fld := fld1 4154 0x110 3 1 .wo 0
def TM_GATE.PORT_CTRL.PENDING : Fld := fld1 4154 0x110 4 1 .ro 0
def TM_GATE.PORT_CTRL.ACT_GUARD : Fld := fld1 4154 0x110 5 1 .ro 0
def TM_GATE.PORT_CTRL.RESULT : Fld := fld1 4154 0x110 8 8 .ro 0
def TM_GATE.PORT_CTRL.CAUSE : Fld := fld1 4154 0x110 16 4 .ro 0
def TM_GATE.PEND_CYCLE.NS : Fld := fld1 4154 0x114 0 32 .rw 0
def TM_GATE.PEND_LEN.LEN : Fld := fld1 4154 0x118 0 11 .rw 1
def TM_GATE.PEND_BASE_NS.NS : Fld := fld1 4154 0x11c 0 32 .rw 0
def TM_GATE.PEND_BASE_SEC_LO.SEC : Fld := fld1 4154 0x120 0 32 .rw 0
def TM_GATE.PEND_BASE_SEC_HI.SEC : Fld := fld1 4154 0x124 0 16 .rw 0
def TM_GATE.ACT_CYCLE.NS : Fld := fld1 4154 0x128 0 32 .ro 1000
def TM_GATE.ACT_LEN.LEN : Fld := fld1 4154 0x12c 0 32 .ro 1
def TM_GATE.ACT_BASE_NS.BASE : Fld := fld1 4154 0x130 0 32 .ro 0
def TM_GATE.ACT_BASE_SEC_LO.BASE : Fld := fld1 4154 0x134 0 32 .ro 0
def TM_GATE.ACT_BASE_SEC_HI.BASE : Fld := fld1 4154 0x138 0 32 .ro 0
def TM_GATE.SWITCH_NS.S : Fld := fld1 4154 0x13c 0 32 .ro 0
def TM_GATE.SWITCH_SEC_LO.S : Fld := fld1 4154 0x140 0 32 .ro 0
def TM_GATE.SWITCH_SEC_HI.S : Fld := fld1 4154 0x144 0 32 .ro 0
def TM_GATE.GATE_NOW.GATES : Fld := fld1 4154 0x148 0 8 .ro 255
def TM_GATE.GATE_NOW.ENTRY : Fld := fld1 4154 0x148 16 10 .ro 0
def TM_GATE.GMAX.NS : Fld := fldN 4154 0x400 256 0x4 0 32 .ro 0
def TM_GATE.GATE_OVERSIZE.COUNT : Fld := fld1 4154 0x800 0 32 .ro 0
/-- The counter fields of TM_GATE in the order of R415. -/
def TM_GATE.ctrs : List Fld :=
  [TM_GATE.GATE_OVERSIZE.COUNT]
/-- The block fields of TM_GATE. -/
def TM_GATE.fields : List Fld :=
  [TM_GATE.GATE_SEL.PORT, TM_GATE.GATE_SEL.LIST, TM_GATE.GATE_SEL.ENTRY, TM_GATE.GATE_SEL.OP, TM_GATE.GATE_SEL.GO, TM_GATE.GATE_SEL.BUSY, TM_GATE.GATE_SEL.ERR, TM_GATE.GATE_DATA.DATA, TM_GATE.PORT_CTRL.EN, TM_GATE.PORT_CTRL.GUARD, TM_GATE.PORT_CTRL.SWITCH, TM_GATE.PORT_CTRL.ABORT] ++
  [TM_GATE.PORT_CTRL.PENDING, TM_GATE.PORT_CTRL.ACT_GUARD, TM_GATE.PORT_CTRL.RESULT, TM_GATE.PORT_CTRL.CAUSE, TM_GATE.PEND_CYCLE.NS, TM_GATE.PEND_LEN.LEN, TM_GATE.PEND_BASE_NS.NS, TM_GATE.PEND_BASE_SEC_LO.SEC, TM_GATE.PEND_BASE_SEC_HI.SEC, TM_GATE.ACT_CYCLE.NS, TM_GATE.ACT_LEN.LEN, TM_GATE.ACT_BASE_NS.BASE] ++
  [TM_GATE.ACT_BASE_SEC_LO.BASE, TM_GATE.ACT_BASE_SEC_HI.BASE, TM_GATE.SWITCH_NS.S, TM_GATE.SWITCH_SEC_LO.S, TM_GATE.SWITCH_SEC_HI.S, TM_GATE.GATE_NOW.GATES, TM_GATE.GATE_NOW.ENTRY, TM_GATE.GMAX.NS, TM_GATE.GATE_OVERSIZE.COUNT]

/-! ### TM_MCAST (R290) -/
def TM_MCAST.GROUP_SEL.GROUP : Fld := fld1 4155 0x100 0 16 .rw 0
def TM_MCAST.GROUP_SEL.OP : Fld := fld1 4155 0x100 16 1 .rw 0
def TM_MCAST.GROUP_SEL.GO : Fld := fld1 4155 0x100 17 1 .wo 0
def TM_MCAST.GROUP_SEL.BUSY : Fld := fld1 4155 0x100 18 1 .ro 0
def TM_MCAST.GROUP_DATA.DATA : Fld := fldN 4155 0x104 2 0x4 0 32 .rw 0
def TM_MCAST.REC_SEL.RECORD : Fld := fld1 4155 0x110 0 20 .rw 0
def TM_MCAST.REC_SEL.OP : Fld := fld1 4155 0x110 20 1 .rw 0
def TM_MCAST.REC_SEL.GO : Fld := fld1 4155 0x110 21 1 .wo 0
def TM_MCAST.REC_SEL.BUSY : Fld := fld1 4155 0x110 22 1 .ro 0
def TM_MCAST.REC_DATA.DATA : Fld := fldN 4155 0x114 4 0x4 0 32 .rw 0
def TM_MCAST.RETRY.US : Fld := fld1 4155 0x130 0 16 .rw 100
def TM_MCAST.RESIDUE_TIMEOUT.MS : Fld := fld1 4155 0x134 0 16 .rw 10
def TM_MCAST.WALK_DRAIN.DRAIN : Fld := fld1 4155 0x138 0 1 .w1s 0
def TM_MCAST.RESIDUE.ING : Fld := fld1 4155 0x13c 0 16 .ro 0
def TM_MCAST.RESIDUE.EGR : Fld := fld1 4155 0x13c 16 16 .ro 0
def TM_MCAST.ING_COPIES.COUNT : Fld := fld1 4155 0x140 0 32 .ro 0
def TM_MCAST.EGR_COPIES.COUNT : Fld := fld1 4155 0x144 0 32 .ro 0
def TM_MCAST.RESIDUE_TIMEOUT_DROP.COUNT : Fld := fld1 4155 0x148 0 32 .ro 0
def TM_MCAST.RESIDUE_FULL.COUNT : Fld := fld1 4155 0x14c 0 32 .ro 0
def TM_MCAST.STALE_DROP.COUNT : Fld := fld1 4155 0x150 0 32 .ro 0
def TM_MCAST.NO_GROUP.COUNT : Fld := fld1 4155 0x154 0 32 .ro 0
/-- The counter fields of TM_MCAST in the order of R415. -/
def TM_MCAST.ctrs : List Fld :=
  [TM_MCAST.ING_COPIES.COUNT, TM_MCAST.EGR_COPIES.COUNT, TM_MCAST.RESIDUE_TIMEOUT_DROP.COUNT, TM_MCAST.RESIDUE_FULL.COUNT, TM_MCAST.STALE_DROP.COUNT, TM_MCAST.NO_GROUP.COUNT]
/-- The block fields of TM_MCAST. -/
def TM_MCAST.fields : List Fld :=
  [TM_MCAST.GROUP_SEL.GROUP, TM_MCAST.GROUP_SEL.OP, TM_MCAST.GROUP_SEL.GO, TM_MCAST.GROUP_SEL.BUSY, TM_MCAST.GROUP_DATA.DATA, TM_MCAST.REC_SEL.RECORD, TM_MCAST.REC_SEL.OP, TM_MCAST.REC_SEL.GO, TM_MCAST.REC_SEL.BUSY, TM_MCAST.REC_DATA.DATA, TM_MCAST.RETRY.US, TM_MCAST.RESIDUE_TIMEOUT.MS] ++
  [TM_MCAST.WALK_DRAIN.DRAIN, TM_MCAST.RESIDUE.ING, TM_MCAST.RESIDUE.EGR, TM_MCAST.ING_COPIES.COUNT, TM_MCAST.EGR_COPIES.COUNT, TM_MCAST.RESIDUE_TIMEOUT_DROP.COUNT, TM_MCAST.RESIDUE_FULL.COUNT, TM_MCAST.STALE_DROP.COUNT, TM_MCAST.NO_GROUP.COUNT]

/-! ### TM_SAMPLE (R343) -/
def TM_SAMPLE.RING_BASE_LO.ADDR : Fld := fld1 4156 0x100 12 20 .rw 0
def TM_SAMPLE.RING_BASE_HI.ADDR : Fld := fld1 4156 0x104 0 32 .rw 0
def TM_SAMPLE.RING_CTRL.LOG2_SIZE : Fld := fld1 4156 0x108 0 5 .rw 6
def TM_SAMPLE.RING_CTRL.ENABLE : Fld := fld1 4156 0x108 5 1 .rw 0
def TM_SAMPLE.RING_CTRL.COAL_COUNT : Fld := fld1 4156 0x108 8 8 .rw 1
def TM_SAMPLE.RING_CTRL.COAL_TIME_US : Fld := fld1 4156 0x108 16 16 .rw 0
def TM_SAMPLE.RING_STATUS.TAIL : Fld := fld1 4156 0x10c 0 16 .ro 0
def TM_SAMPLE.RING_STATUS.PHASE : Fld := fld1 4156 0x10c 16 1 .ro 1
def TM_SAMPLE.RING_HEAD.HEAD : Fld := fld1 4156 0x110 0 16 .rw 0
def TM_SAMPLE.SAMPLE_N.N : Fld := fld1 4156 0x114 0 24 .rw 0
def TM_SAMPLE.DEPTH_INTERVAL.NS : Fld := fld1 4156 0x118 0 24 .rw 0
def TM_SAMPLE.DEPTH_INTERVAL.NONEMPTY : Fld := fld1 4156 0x118 24 1 .rw 0
def TM_SAMPLE.DEPTH_POS.QUEUE : Fld := fld1 4156 0x11c 0 19 .ro 0
def TM_SAMPLE.SAMPLE_DROP.COUNT : Fld := fld1 4156 0x120 0 32 .ro 0
def TM_SAMPLE.RECORDS.COUNT : Fld := fld1 4156 0x124 0 32 .ro 0
/-- The counter fields of TM_SAMPLE in the order of R415. -/
def TM_SAMPLE.ctrs : List Fld :=
  [TM_SAMPLE.SAMPLE_DROP.COUNT, TM_SAMPLE.RECORDS.COUNT]
/-- The block fields of TM_SAMPLE. -/
def TM_SAMPLE.fields : List Fld :=
  [TM_SAMPLE.RING_BASE_LO.ADDR, TM_SAMPLE.RING_BASE_HI.ADDR, TM_SAMPLE.RING_CTRL.LOG2_SIZE, TM_SAMPLE.RING_CTRL.ENABLE, TM_SAMPLE.RING_CTRL.COAL_COUNT, TM_SAMPLE.RING_CTRL.COAL_TIME_US, TM_SAMPLE.RING_STATUS.TAIL, TM_SAMPLE.RING_STATUS.PHASE, TM_SAMPLE.RING_HEAD.HEAD, TM_SAMPLE.SAMPLE_N.N, TM_SAMPLE.DEPTH_INTERVAL.NS, TM_SAMPLE.DEPTH_INTERVAL.NONEMPTY] ++
  [TM_SAMPLE.DEPTH_POS.QUEUE, TM_SAMPLE.SAMPLE_DROP.COUNT, TM_SAMPLE.RECORDS.COUNT]

/-! ### TM_DMC (R375, R376) -/
def TM_DMC.CFG.DENSITY : Fld := fld1 4160 0x100 0 2 .rwl 0
def TM_DMC.STATUS.STATE : Fld := fld1 4160 0x104 0 3 .ro 0
def TM_DMC.STATUS.TSET : Fld := fld1 4160 0x104 3 1 .ro 0
def TM_DMC.STATUS.TEMP : Fld := fld1 4160 0x104 8 8 .ro 0
def TM_DMC.TSETk_A.RATE : Fld := fldN 4160 0x110 2 0x10 0 6 .rw 0
def TM_DMC.TSETk_A.TRCD : Fld := fldN 4160 0x110 2 0x10 8 8 .rw 0
def TM_DMC.TSETk_A.TRP : Fld := fldN 4160 0x110 2 0x10 16 8 .rw 0
def TM_DMC.TSETk_A.TRAS : Fld := fldN 4160 0x110 2 0x10 24 8 .rw 0
def TM_DMC.TSETk_B.TRRD : Fld := fldN 4160 0x114 2 0x10 0 8 .rw 0
def TM_DMC.TSETk_B.TFAW : Fld := fldN 4160 0x114 2 0x10 8 8 .rw 0
def TM_DMC.TSETk_B.TWR : Fld := fldN 4160 0x114 2 0x10 16 8 .rw 0
def TM_DMC.TSETk_B.TRFCPB : Fld := fldN 4160 0x114 2 0x10 24 8 .rw 0
def TM_DMC.TSETk_C.TREFIPB : Fld := fldN 4160 0x118 2 0x10 0 16 .rw 0
def TM_DMC.TSETk_C.POSTPONE_MAX : Fld := fldN 4160 0x118 2 0x10 16 4 .rw 0
def TM_DMC.ACT_CTRL.ACT_THR : Fld := fld1 4160 0x130 0 16 .rwl 4096
def TM_DMC.ACT_CTRL.THROTTLE_US : Fld := fld1 4160 0x130 16 16 .rwl 10
def TM_DMC.THROTTLED.REQ : Fld := fld1 4160 0x134 0 4 .ro 0
def TM_DMC.READS.COUNT : Fld := fld1 4160 0x140 0 32 .ro 0
def TM_DMC.WRITES.COUNT : Fld := fld1 4160 0x144 0 32 .ro 0
def TM_DMC.CRC_RETRY.COUNT : Fld := fld1 4160 0x148 0 32 .ro 0
def TM_DMC.ODECC_CORR.COUNT : Fld := fld1 4160 0x14c 0 32 .ro 0
def TM_DMC.UNC.COUNT : Fld := fld1 4160 0x150 0 32 .ro 0
def TM_DMC.REF_FORCED.COUNT : Fld := fld1 4160 0x154 0 32 .ro 0
def TM_DMC.THROTTLES.COUNT : Fld := fld1 4160 0x158 0 32 .ro 0
def TM_DMC.RETIRED.UNITS : Fld := fld1 4160 0x15c 0 13 .ro 0
def TM_DMC.ERR_NEXT.SLOT : Fld := fld1 4160 0x160 0 4 .ro 0
def TM_DMC.ERR_LOG.W0 : Fld := fldN 4160 0x200 16 0x10 0 32 .ro 0
def TM_DMC.ERR_LOG.W1 : Fld := fldN 4160 0x204 16 0x10 0 32 .ro 0
def TM_DMC.ERR_LOG.W2 : Fld := fldN 4160 0x208 16 0x10 0 32 .ro 0
def TM_DMC.ERR_LOG.W3 : Fld := fldN 4160 0x20c 16 0x10 0 32 .ro 0
def TM_DMC.DDR_CTRL.ENABLE : Fld := fld1 4160 0x400 0 1 .rwl 0
def TM_DMC.CTR_REGION.UNITS : Fld := fld1 4160 0x404 0 17 .rwl 0
def TM_DMC.FREQ.GO : Fld := fld1 4160 0x408 0 1 .wo 0
def TM_DMC.FREQ.BUSY : Fld := fld1 4160 0x408 1 1 .ro 0
def TM_DMC.DDR_UNC_DROP.COUNT : Fld := fld1 4160 0x40c 0 32 .ro 0
def TM_DMC.MEM_ADDR.UNIT : Fld := fld1 4160 0x410 0 28 .rw 0
def TM_DMC.MEM_ADDR.PART : Fld := fld1 4160 0x410 28 3 .rw 0
def TM_DMC.MEM.OP : Fld := fld1 4160 0x414 0 1 .rw 0
def TM_DMC.MEM.GO : Fld := fld1 4160 0x414 1 1 .wo 0
def TM_DMC.MEM.BUSY : Fld := fld1 4160 0x414 2 1 .ro 0
def TM_DMC.MEM.STATUS : Fld := fld1 4160 0x414 8 8 .ro 0
def TM_DMC.MEM_DATA.DATA : Fld := fldN 4160 0x420 8 0x4 0 32 .rw 0
def TM_DMC.EXPORT_BASE_LO.ADDR : Fld := fld1 4160 0x440 12 20 .rw 0
def TM_DMC.EXPORT_BASE_HI.ADDR : Fld := fld1 4160 0x444 0 32 .rw 0
def TM_DMC.EXPORT.GO : Fld := fld1 4160 0x448 0 1 .wo 0
def TM_DMC.EXPORT.BUSY : Fld := fld1 4160 0x448 1 1 .ro 0
def TM_DMC.EXPORT.ERR : Fld := fld1 4160 0x448 2 1 .ro 0
/-- The counter fields of TM_DMC in the order of R415. -/
def TM_DMC.ctrs : List Fld :=
  [TM_DMC.READS.COUNT, TM_DMC.WRITES.COUNT, TM_DMC.CRC_RETRY.COUNT, TM_DMC.ODECC_CORR.COUNT, TM_DMC.UNC.COUNT, TM_DMC.REF_FORCED.COUNT, TM_DMC.THROTTLES.COUNT, TM_DMC.DDR_UNC_DROP.COUNT]
/-- The block fields of TM_DMC. -/
def TM_DMC.fields : List Fld :=
  [TM_DMC.CFG.DENSITY, TM_DMC.STATUS.STATE, TM_DMC.STATUS.TSET, TM_DMC.STATUS.TEMP, TM_DMC.TSETk_A.RATE, TM_DMC.TSETk_A.TRCD, TM_DMC.TSETk_A.TRP, TM_DMC.TSETk_A.TRAS, TM_DMC.TSETk_B.TRRD, TM_DMC.TSETk_B.TFAW, TM_DMC.TSETk_B.TWR, TM_DMC.TSETk_B.TRFCPB] ++
  [TM_DMC.TSETk_C.TREFIPB, TM_DMC.TSETk_C.POSTPONE_MAX, TM_DMC.ACT_CTRL.ACT_THR, TM_DMC.ACT_CTRL.THROTTLE_US, TM_DMC.THROTTLED.REQ, TM_DMC.READS.COUNT, TM_DMC.WRITES.COUNT, TM_DMC.CRC_RETRY.COUNT, TM_DMC.ODECC_CORR.COUNT, TM_DMC.UNC.COUNT, TM_DMC.REF_FORCED.COUNT, TM_DMC.THROTTLES.COUNT] ++
  [TM_DMC.RETIRED.UNITS, TM_DMC.ERR_NEXT.SLOT, TM_DMC.ERR_LOG.W0, TM_DMC.ERR_LOG.W1, TM_DMC.ERR_LOG.W2, TM_DMC.ERR_LOG.W3, TM_DMC.DDR_CTRL.ENABLE, TM_DMC.CTR_REGION.UNITS, TM_DMC.FREQ.GO, TM_DMC.FREQ.BUSY, TM_DMC.DDR_UNC_DROP.COUNT, TM_DMC.MEM_ADDR.UNIT] ++
  [TM_DMC.MEM_ADDR.PART, TM_DMC.MEM.OP, TM_DMC.MEM.GO, TM_DMC.MEM.BUSY, TM_DMC.MEM.STATUS, TM_DMC.MEM_DATA.DATA, TM_DMC.EXPORT_BASE_LO.ADDR, TM_DMC.EXPORT_BASE_HI.ADDR, TM_DMC.EXPORT.GO, TM_DMC.EXPORT.BUSY, TM_DMC.EXPORT.ERR]

/-! ### TM_FAULT (R401) -/
def TM_FAULT.HEARTBEAT.BEAT : Fld := fld1 4176 0x100 0 1 .wo 0
def TM_FAULT.HB_HOLD.MS : Fld := fld1 4176 0x104 0 12 .rw 0
def TM_FAULT.ALIVE_STATUS.STATE : Fld := fld1 4176 0x108 0 2 .ro 0
def TM_FAULT.ALIVE_STATUS.CAUSE : Fld := fld1 4176 0x108 2 2 .ro 0
def TM_FAULT.ALIVE_STATUS.RESTART_REFUSED : Fld := fld1 4176 0x108 4 1 .ro 0
def TM_FAULT.ALIVE_STATUS.SLOW : Fld := fld1 4176 0x108 5 1 .ro 0
def TM_FAULT.ALIVE_CTRL.RESTART : Fld := fld1 4176 0x10c 0 1 .wo 0
def TM_FAULT.ALIVE_CTRL.STOP : Fld := fld1 4176 0x10c 1 1 .wo 0
def TM_FAULT.ERR_CTRL.FORCE : Fld := fld1 4176 0x110 0 1 .rwl 0
def TM_FAULT.ERR_CTRL.ASSERTED : Fld := fld1 4176 0x110 1 1 .ro 0
def TM_FAULT.LAST_CHIP_RESET.PAGE : Fld := fld1 4176 0x114 0 12 .ro 0
def TM_FAULT.LAST_CHIP_RESET.DIE : Fld := fld1 4176 0x114 12 1 .ro 0
def TM_FAULT.LAST_CHIP_RESET.SOURCE : Fld := fld1 4176 0x114 13 5 .ro 0
def TM_FAULT.LAST_CHIP_RESET.VALID : Fld := fld1 4176 0x114 31 1 .w1c 0
def TM_FAULT.STATUS.BRIDGE_UP : Fld := fld1 4176 0x118 0 1 .ro 0
def TM_FAULT.STATUS.BD_LATCH : Fld := fld1 4176 0x118 1 1 .w1c 0
def TM_FAULT.SEV_CNT.COUNT : Fld := fldN 4176 0x120 4 0x4 0 32 .ro 0
def TM_FAULT.SUM_SEL.PAGE : Fld := fld1 4176 0x140 0 12 .rw 0
def TM_FAULT.SUM_SEL.DIE : Fld := fld1 4176 0x140 12 1 .rw 0
def TM_FAULT.SUM_SEL.SOURCE : Fld := fld1 4176 0x140 13 5 .rw 0
def TM_FAULT.SUM_SEL.GO : Fld := fld1 4176 0x140 18 1 .wo 0
def TM_FAULT.SUM_COUNT.COUNT : Fld := fld1 4176 0x144 0 32 .ro 0
/-- The counter fields of TM_FAULT in the order of R415. -/
def TM_FAULT.ctrs : List Fld :=
  [TM_FAULT.SEV_CNT.COUNT, TM_FAULT.SUM_COUNT.COUNT]
/-- The block fields of TM_FAULT. -/
def TM_FAULT.fields : List Fld :=
  [TM_FAULT.HEARTBEAT.BEAT, TM_FAULT.HB_HOLD.MS, TM_FAULT.ALIVE_STATUS.STATE, TM_FAULT.ALIVE_STATUS.CAUSE, TM_FAULT.ALIVE_STATUS.RESTART_REFUSED, TM_FAULT.ALIVE_STATUS.SLOW, TM_FAULT.ALIVE_CTRL.RESTART, TM_FAULT.ALIVE_CTRL.STOP, TM_FAULT.ERR_CTRL.FORCE, TM_FAULT.ERR_CTRL.ASSERTED, TM_FAULT.LAST_CHIP_RESET.PAGE, TM_FAULT.LAST_CHIP_RESET.DIE] ++
  [TM_FAULT.LAST_CHIP_RESET.SOURCE, TM_FAULT.LAST_CHIP_RESET.VALID, TM_FAULT.STATUS.BRIDGE_UP, TM_FAULT.STATUS.BD_LATCH, TM_FAULT.SEV_CNT.COUNT, TM_FAULT.SUM_SEL.PAGE, TM_FAULT.SUM_SEL.DIE, TM_FAULT.SUM_SEL.SOURCE, TM_FAULT.SUM_SEL.GO, TM_FAULT.SUM_COUNT.COUNT]

/-! ### TM_LOG (R402) -/
def TM_LOG.RING_BASE_LO.ADDR : Fld := fld1 4177 0x100 12 20 .rw 0
def TM_LOG.RING_BASE_HI.ADDR : Fld := fld1 4177 0x104 0 32 .rw 0
def TM_LOG.RING_CTRL.LOG2_SIZE : Fld := fld1 4177 0x108 0 5 .rw 6
def TM_LOG.RING_CTRL.ENABLE : Fld := fld1 4177 0x108 5 1 .rw 0
def TM_LOG.RING_CTRL.COAL_COUNT : Fld := fld1 4177 0x108 8 8 .rw 1
def TM_LOG.RING_CTRL.COAL_TIME_US : Fld := fld1 4177 0x108 16 16 .rw 0
def TM_LOG.RING_STATUS.TAIL : Fld := fld1 4177 0x10c 0 16 .ro 0
def TM_LOG.RING_STATUS.PHASE : Fld := fld1 4177 0x10c 16 1 .ro 1
def TM_LOG.RING_HEAD.HEAD : Fld := fld1 4177 0x110 0 16 .rw 0
def TM_LOG.RING_STATUS.ERROR : Fld := fld1 4177 0x10c 17 1 .ro 0
def TM_LOG.OCC.TOTAL : Fld := fld1 4177 0x114 0 14 .ro 0
def TM_LOG.OCC.PROTECTED : Fld := fld1 4177 0x114 16 14 .ro 0
def TM_LOG.SEQ_NEXT.SEQ : Fld := fld1 4177 0x118 0 32 .ro 0
def TM_LOG.SQUALL_CTRL.ENTER : Fld := fld1 4177 0x11c 0 13 .rwl 6144
def TM_LOG.SQUALL_CTRL.EXIT : Fld := fld1 4177 0x11c 16 13 .rwl 2048
def TM_LOG.SQUALL_WINDOW.MS : Fld := fld1 4177 0x120 0 16 .rwl 100
def TM_LOG.SQUALL_STATUS.ACTIVE : Fld := fld1 4177 0x124 0 1 .ro 0
def TM_LOG.SQUALL_STATUS.WINDOWS : Fld := fld1 4177 0x124 16 16 .ro 0
def TM_LOG.FOLDED.COUNT : Fld := fld1 4177 0x128 0 32 .ro 0
def TM_LOG.REPLACED.COUNT : Fld := fld1 4177 0x12c 0 32 .ro 0
def TM_LOG.CRIT_OVF.COUNT : Fld := fld1 4177 0x130 0 32 .ro 0
def TM_LOG.EXPORTED.COUNT : Fld := fld1 4177 0x134 0 32 .ro 0
/-- The counter fields of TM_LOG in the order of R415. -/
def TM_LOG.ctrs : List Fld :=
  [TM_LOG.FOLDED.COUNT, TM_LOG.REPLACED.COUNT, TM_LOG.CRIT_OVF.COUNT, TM_LOG.EXPORTED.COUNT]
/-- The block fields of TM_LOG. -/
def TM_LOG.fields : List Fld :=
  [TM_LOG.RING_BASE_LO.ADDR, TM_LOG.RING_BASE_HI.ADDR, TM_LOG.RING_CTRL.LOG2_SIZE, TM_LOG.RING_CTRL.ENABLE, TM_LOG.RING_CTRL.COAL_COUNT, TM_LOG.RING_CTRL.COAL_TIME_US, TM_LOG.RING_STATUS.TAIL, TM_LOG.RING_STATUS.PHASE, TM_LOG.RING_HEAD.HEAD, TM_LOG.RING_STATUS.ERROR, TM_LOG.OCC.TOTAL, TM_LOG.OCC.PROTECTED] ++
  [TM_LOG.SEQ_NEXT.SEQ, TM_LOG.SQUALL_CTRL.ENTER, TM_LOG.SQUALL_CTRL.EXIT, TM_LOG.SQUALL_WINDOW.MS, TM_LOG.SQUALL_STATUS.ACTIVE, TM_LOG.SQUALL_STATUS.WINDOWS, TM_LOG.FOLDED.COUNT, TM_LOG.REPLACED.COUNT, TM_LOG.CRIT_OVF.COUNT, TM_LOG.EXPORTED.COUNT]

/-! ### TM_PERF (R427) -/
def TM_PERF.RING_BASE_LO.ADDR : Fld := fld1 4178 0x200 12 20 .rw 0
def TM_PERF.RING_BASE_HI.ADDR : Fld := fld1 4178 0x204 0 32 .rw 0
def TM_PERF.RING_CTRL.LOG2_SIZE : Fld := fld1 4178 0x208 0 5 .rw 6
def TM_PERF.RING_CTRL.ENABLE : Fld := fld1 4178 0x208 5 1 .rw 0
def TM_PERF.RING_CTRL.COAL_COUNT : Fld := fld1 4178 0x208 8 8 .rw 1
def TM_PERF.RING_CTRL.COAL_TIME_US : Fld := fld1 4178 0x208 16 16 .rw 0
def TM_PERF.RING_STATUS.TAIL : Fld := fld1 4178 0x20c 0 16 .ro 0
def TM_PERF.RING_STATUS.PHASE : Fld := fld1 4178 0x20c 16 1 .ro 1
def TM_PERF.RING_HEAD.HEAD : Fld := fld1 4178 0x210 0 16 .rw 0
def TM_PERF.RING_STATUS.ERROR : Fld := fld1 4178 0x20c 17 1 .ro 0
def TM_PERF.FREEZE.FREEZE : Fld := fld1 4178 0x100 0 1 .rw 0
def TM_PERF.FREEZE.FROZEN : Fld := fld1 4178 0x100 1 1 .ro 0
def TM_PERF.SNAP_STATUS.BUSY : Fld := fld1 4178 0x104 0 1 .ro 0
def TM_PERF.SNAP_LEN.BYTES : Fld := fld1 4178 0x108 0 32 .ro 0
def TM_PERF.SNAP_TIME_NS.NS : Fld := fld1 4178 0x10c 0 32 .ro 0
def TM_PERF.SNAP_TIME_SEC_LO.SEC : Fld := fld1 4178 0x110 0 32 .ro 0
def TM_PERF.SNAP_TIME_SEC_HI.SEC : Fld := fld1 4178 0x114 0 16 .ro 0
def TM_PERF.SNAP_SEQ.SEQ : Fld := fld1 4178 0x118 0 32 .ro 0
def TM_PERF.TRACE_DROP.COUNT : Fld := fld1 4178 0x220 0 32 .ro 0
def TM_PERF.RECORDS.COUNT : Fld := fld1 4178 0x224 0 32 .ro 0
/-- The counter fields of TM_PERF in the order of R415. -/
def TM_PERF.ctrs : List Fld :=
  [TM_PERF.TRACE_DROP.COUNT, TM_PERF.RECORDS.COUNT]
/-- The block fields of TM_PERF. -/
def TM_PERF.fields : List Fld :=
  [TM_PERF.RING_BASE_LO.ADDR, TM_PERF.RING_BASE_HI.ADDR, TM_PERF.RING_CTRL.LOG2_SIZE, TM_PERF.RING_CTRL.ENABLE, TM_PERF.RING_CTRL.COAL_COUNT, TM_PERF.RING_CTRL.COAL_TIME_US, TM_PERF.RING_STATUS.TAIL, TM_PERF.RING_STATUS.PHASE, TM_PERF.RING_HEAD.HEAD, TM_PERF.RING_STATUS.ERROR, TM_PERF.FREEZE.FREEZE, TM_PERF.FREEZE.FROZEN] ++
  [TM_PERF.SNAP_STATUS.BUSY, TM_PERF.SNAP_LEN.BYTES, TM_PERF.SNAP_TIME_NS.NS, TM_PERF.SNAP_TIME_SEC_LO.SEC, TM_PERF.SNAP_TIME_SEC_HI.SEC, TM_PERF.SNAP_SEQ.SEQ, TM_PERF.TRACE_DROP.COUNT, TM_PERF.RECORDS.COUNT]

/-! ### TM_THERM (R490) -/
def TM_THERM.TEMP.NOW : Fld := fld1 4179 0x100 0 8 .ro 0
def TM_THERM.TEMP.MAX : Fld := fld1 4179 0x100 8 8 .ro 0
def TM_THERM.TEMP.WARN_C : Fld := fld1 4179 0x100 16 8 .rw 105
def TM_THERM.TRIP.ASSERTED : Fld := fld1 4179 0x104 0 1 .ro 0
def TM_THERM.CANARY_MIN.MARGIN_PS : Fld := fld1 4179 0x108 0 16 .ro 0
def TM_THERM.CANARY_MIN.INDEX : Fld := fld1 4179 0x108 16 6 .ro 0
def TM_THERM.CANARY_SEL.INDEX : Fld := fld1 4179 0x10c 0 6 .rw 0
def TM_THERM.CANARY_DATA.MARGIN_PS : Fld := fld1 4179 0x110 0 16 .ro 0
def TM_THERM.CANARY_DATA.EXCLUDED : Fld := fld1 4179 0x110 16 1 .ro 0
def TM_THERM.EXCLUDED.COUNT : Fld := fld1 4179 0x114 0 7 .ro 0
def TM_THERM.AVS_CTRL.AVS_EN : Fld := fld1 4179 0x140 0 1 .rwl 0
def TM_THERM.AVS_CTRL.PERIOD_MS : Fld := fld1 4179 0x140 8 8 .rwl 100
def TM_THERM.AVS_MARGIN.LOW_PS : Fld := fld1 4179 0x144 0 16 .rwl 40
def TM_THERM.AVS_MARGIN.HIGH_PS : Fld := fld1 4179 0x144 16 16 .rwl 70
def TM_THERM.AVS_VOLT.V_MIN : Fld := fld1 4179 0x148 0 10 .rwl 650
def TM_THERM.AVS_VOLT.V_MAX : Fld := fld1 4179 0x148 16 10 .rwl 800
def TM_THERM.AVS_STATE.TARGET : Fld := fld1 4179 0x14c 0 10 .ro 0
def TM_THERM.AVS_STATE.READBACK : Fld := fld1 4179 0x14c 16 10 .ro 0
def TM_THERM.AVS_STATE.AT_MAX : Fld := fld1 4179 0x14c 26 1 .ro 0
def TM_THERM.AVS_STEPS.COUNT : Fld := fld1 4179 0x150 0 32 .ro 0
def TM_THERM.AVS_START.START_MV : Fld := fld1 4179 0x154 0 10 .rwl 750
def TM_THERM.LIFE_HOURS.HOURS : Fld := fld1 4179 0x160 0 32 .ro 0
def TM_THERM.TJ_AVG.DECI_C : Fld := fld1 4179 0x164 0 16 .ro 0
def TM_THERM.CYCLES.THERMAL : Fld := fld1 4179 0x168 0 16 .ro 0
def TM_THERM.CYCLES.POWER : Fld := fld1 4179 0x168 16 16 .ro 0
/-- The counter fields of TM_THERM in the order of R415. -/
def TM_THERM.ctrs : List Fld :=
  [TM_THERM.EXCLUDED.COUNT, TM_THERM.AVS_STEPS.COUNT]
/-- The block fields of TM_THERM. -/
def TM_THERM.fields : List Fld :=
  [TM_THERM.TEMP.NOW, TM_THERM.TEMP.MAX, TM_THERM.TEMP.WARN_C, TM_THERM.TRIP.ASSERTED, TM_THERM.CANARY_MIN.MARGIN_PS, TM_THERM.CANARY_MIN.INDEX, TM_THERM.CANARY_SEL.INDEX, TM_THERM.CANARY_DATA.MARGIN_PS, TM_THERM.CANARY_DATA.EXCLUDED, TM_THERM.EXCLUDED.COUNT, TM_THERM.AVS_CTRL.AVS_EN, TM_THERM.AVS_CTRL.PERIOD_MS] ++
  [TM_THERM.AVS_MARGIN.LOW_PS, TM_THERM.AVS_MARGIN.HIGH_PS, TM_THERM.AVS_VOLT.V_MIN, TM_THERM.AVS_VOLT.V_MAX, TM_THERM.AVS_STATE.TARGET, TM_THERM.AVS_STATE.READBACK, TM_THERM.AVS_STATE.AT_MAX, TM_THERM.AVS_STEPS.COUNT, TM_THERM.AVS_START.START_MV, TM_THERM.LIFE_HOURS.HOURS, TM_THERM.TJ_AVG.DECI_C, TM_THERM.CYCLES.THERMAL] ++
  [TM_THERM.CYCLES.POWER]

/-- The page kinds of R24 and R25: first page index (die * 4096 + page), number of instances (R26), block fields,
counter fields (R415). -/
def pageKinds : List (Nat × Nat × List Fld × List Fld) :=
  [(0, 1, FE_GLOBAL.fields, FE_GLOBAL.ctrs), (1, 1, FE_CLK.fields, FE_CLK.ctrs), (2, 1, FE_PWR.fields, FE_PWR.ctrs), (3, 1, FE_EPOCH.fields, FE_EPOCH.ctrs), (4, 1, FE_ALM.fields, FE_ALM.ctrs), (16, 32, FE_PG.fields, FE_PG.ctrs)] ++
  [(48, 16, FE_SDN.fields, FE_SDN.ctrs), (64, 1, FE_PARSE.fields, FE_PARSE.ctrs), (65, 1, FE_CLASS.fields, FE_CLASS.ctrs), (66, 1, FE_LPM.fields, FE_LPM.ctrs), (67, 1, FE_EXM.fields, FE_EXM.ctrs), (68, 1, FE_TCMD.fields, FE_TCMD.ctrs)] ++
  [(69, 1, FE_TDMA.fields, FE_TDMA.ctrs), (70, 1, FE_LEARN.fields, FE_LEARN.ctrs), (71, 1, FE_AGE.fields, FE_AGE.ctrs), (72, 1, FE_CELLS.fields, FE_CELLS.ctrs), (73, 1, FE_PIPEI.fields, FE_PIPEI.ctrs), (74, 1, FE_PIPEE.fields, FE_PIPEE.ctrs)] ++
  [(75, 1, FE_PROT.fields, FE_PROT.ctrs), (76, 1, FE_PTP.fields, FE_PTP.ctrs), (77, 1, FE_TRACE.fields, FE_TRACE.ctrs), (78, 1, FE_D2D.fields, FE_D2D.ctrs), (79, 1, FE_FAULT.fields, FE_FAULT.ctrs), (80, 1, FE_THERM.fields, FE_THERM.ctrs)] ++
  [(4096, 1, TM_GLOBAL.fields, TM_GLOBAL.ctrs), (4097, 1, TM_CLK.fields, TM_CLK.ctrs), (4098, 1, TM_PWR.fields, TM_PWR.ctrs), (4099, 1, TM_EPOCH.fields, TM_EPOCH.ctrs), (4100, 1, TM_ALM.fields, TM_ALM.ctrs), (4101, 1, TM_SEC.fields, TM_SEC.ctrs)] ++
  [(4102, 1, TM_MC.fields, TM_MC.ctrs), (4104, 1, TM_PCIE.fields, TM_PCIE.ctrs), (4105, 1, TM_HCMD.fields, TM_HCMD.ctrs), (4106, 1, TM_HPKT.fields, TM_HPKT.ctrs), (4107, 1, TM_MSIX.fields, TM_MSIX.ctrs), (4108, 1, TM_MGMT.fields, TM_MGMT.ctrs)] ++
  [(4112, 20, TM_SDF.fields, TM_SDF.ctrs), (4136, 10, TM_FLINK.fields, TM_FLINK.ctrs), (4146, 1, TM_SPRAY.fields, TM_SPRAY.ctrs), (4147, 1, TM_REORD.fields, TM_REORD.ctrs), (4148, 1, TM_CHAN.fields, TM_CHAN.ctrs), (4149, 1, TM_QUEUE.fields, TM_QUEUE.ctrs)] ++
  [(4150, 1, TM_BUF.fields, TM_BUF.ctrs), (4151, 1, TM_SCHED.fields, TM_SCHED.ctrs), (4152, 1, TM_SHAPE.fields, TM_SHAPE.ctrs), (4153, 1, TM_POLICE.fields, TM_POLICE.ctrs), (4154, 1, TM_GATE.fields, TM_GATE.ctrs), (4155, 1, TM_MCAST.fields, TM_MCAST.ctrs)] ++
  [(4156, 1, TM_SAMPLE.fields, TM_SAMPLE.ctrs), (4160, 16, TM_DMC.fields, TM_DMC.ctrs), (4176, 1, TM_FAULT.fields, TM_FAULT.ctrs), (4177, 1, TM_LOG.fields, TM_LOG.ctrs), (4178, 1, TM_PERF.fields, TM_PERF.ctrs), (4179, 1, TM_THERM.fields, TM_THERM.ctrs)]

end Sys2Proof.Machine
end

