-- ==== Sys2Proof/Machine/Types.lean ====
section
/-! DEFINITION. The data types of the state that more than one unit uses: agents, outputs of the block, packets, page
headers, log records, commands in flight and timers. All of them are plain data. -/

namespace Sys2Proof.Machine

/-- What the block sends out of itself, in the order it does so. (DESIGN CHOICE, log entry 27.) -/
inductive Out where
  /-- A posted write to host memory (R514). -/
  | hostWrite (addr : Nat) (data : Bytes)
  /-- A posted write of packet data to a host buffer, with its Relaxed Ordering and No Snoop attributes (R39, R62). -/
  | packetWrite (addr : Nat) (data : Bytes) (relaxed noSnoop : Bool)
  /-- A non-posted read request to host memory (R46). -/
  | hostRead (addr : Nat) (len : Nat)
  /-- An MSI-X message (R70). -/
  | msix (vector : Nat)
  /-- A non-maskable interrupt to the management controller (R380). -/
  | nmi (page : Nat) (src : Nat)
  /-- A frame on the wire of a network port; stomped frames carry the inverted FCS (R16). -/
  | frame (port : Nat) (data : Bytes) (stomped : Bool)
  /-- A PFC frame for one class of a port (R222). -/
  | pfc (port : Nat) (cls : Nat) (quanta : Nat)
  /-- Remote fault sent on a port starts or ends (R127, R382). -/
  | remoteFault (port : Nat) (on : Bool)
  /-- A cell on a fabric link: 16 header bytes and 240 payload bytes (R250). -/
  | cell (link : Nat) (hdr : Bytes) (payload : Bytes)
  /-- The overhead of a transmit frame of a fabric link (R246). -/
  | overhead (link : Nat) (bytes : Bytes)
  /-- A 802.3br verification frame (R224). -/
  | preemptVerify (port : Nat)
  /-- A time-of-day message on TOD_TX (R455). -/
  | tod (bytes : Bytes)
  /-- Bytes answered on the management serial interface (R463). -/
  | mgmt (bytes : Bytes)
  /-- Bits shifted out on TDO (R442). -/
  | tdo (bytes : Bytes)
  /-- The value answered to a read of a BAR or of configuration space: the addressed bytes, the lowest first (R22). -/
  | readData (value : Nat)
  /-- Configuration Request Retry Status (R477). -/
  | cfgRetry
  /-- A core-voltage command on the AVS bus, in mV (R484). -/
  | avs (mv : Nat)
  deriving DecidableEq, Repr

/-- One of the four performance counters of a page (R37, R38). -/
structure PerfCtr where
  event : Nat
  enable : Bool
  count : Nat
  hiLatch : Nat
  deriving DecidableEq, Repr

/-- The common header of a page (R27 to R38). Bit n of `latch` and `evtEn` belongs to source n; `sev` and `act`
hold EVT_SEV_LO/HI and EVT_ACT0 to 3 as one number each. EVT_RAW is read from the conditions themselves. -/
structure PageHdr where
  enable : Bool
  fenced : Bool
  inReset : Bool
  latch : Nat
  evtEn : Nat
  sev : Nat
  act : Nat
  capValid : Bool
  capSource : Nat
  capCause : Nat
  capForced : Bool
  capTime : Nat
  capD0 : Nat
  capD1 : Nat
  lostCount : Nat
  lostOvf : Bool
  lock : Bool
  perf0 : PerfCtr
  perf1 : PerfCtr
  perf2 : PerfCtr
  perf3 : PerfCtr
  deriving DecidableEq, Repr

/-- The kinds of fault-log record (R386). -/
inductive RecKind where
  | event | summary | squallStart | squallEnd | orderBreak
  deriving DecidableEq, Repr

/-- A fault-log record (R386) without PHASE, which the host-ring write gives it. `page` is the page index (die * 4096 +
page number); `time` is seconds * 2^32 + nanoseconds. -/
structure LogRec where
  page : Nat
  src : Nat
  sev : Nat
  act : Nat
  cause : Nat
  kind : RecKind
  forced : Bool
  seq : Nat
  time : Nat
  d0 : Nat
  d1 : Nat
  deriving DecidableEq, Repr

/-- The summary counter of a source (R391): events folded, time of the first, time and cause of the last. -/
structure SumCtr where
  count : Nat
  firstTime : Nat
  lastTime : Nat
  lastCause : Nat
  deriving DecidableEq, Repr

/-- The fault collector (R383 to R391): the device ring (oldest first), the forwarding buffer of the FE, the summary
counters (index page * 32 + source), the events folded in the present Squall episode, and the bundle in which the register access
under way met an uncorrectable word (R396). -/
structure LogState where
  ring : List LogRec
  fwd : List LogRec
  sums : SMap SumCtr
  episode : Nat
  accessBad : Option Nat
  deriving DecidableEq, Repr

/-- An action that waits for its order-break marker (R407): a BLOCK reset or a fence of a page; `admitted` once the
marker stands in the device ring, `limit` the core cycle at which the action starts anyway. -/
structure PendAct where
  fence : Bool
  page : Nat
  admitted : Bool
  limit : Nat
  deriving DecidableEq, Repr

/-- The timers of the device. Each kind counts per index; the deadline is a core cycle. -/
inductive TimerKind where
  /-- Interrupt coalescing of a ring cause (R70). -/
  | coal
  /-- End of a BLOCK reset of a page (R409). -/
  | blockReset
  /-- ALMANAC stage limit of 2 s (R81). -/
  | stage
  /-- EPOCH_RETIRE_TIMEOUT (R93). -/
  | retire
  /-- The flip cycle of an armed commit or rollback (R90, R94). -/
  | flip
  /-- The admission gap of an ingress (0) or egress (1) depth decrease (R110). -/
  | depthGap
  /-- The bank count has stayed at 0 (R92). -/
  | settle
  /-- The shortest end of the remap copy of a strip (R122). -/
  | remap
  /-- CELL_TEST limit of a physical cell (R129). -/
  | cellTest
  /-- PFC: received pause of port * 8 + class, refresh of port * 8 + class (R222). -/
  | pfcPause | pfcRefresh
  /-- Preemption verification of a port (R224). -/
  | preempt
  /-- Recovery reset of a receive stream (R232); WAIT of a port (R233). -/
  | rcvyReset | protWtr
  /-- WAIT of a fabric link (R259); link training (R266); XOFF entry of a (plane, port) (R263). -/
  | flinkWtr | flinkTrain | fcTimeout
  /-- Reorder: collection, gap and idle of a context (R280). -/
  | reordCollect | reordGap | reordIdle
  /-- Residue retry (R286). -/
  | residueRetry
  /-- Destroy timeout of a channel (R298); port hold (R309). -/
  | destroy | portHold
  /-- Express pacer of a port (R349). -/
  | pacer
  /-- GDDR7: training limit (R359), WCK realignment (R359), throttle (R365). -/
  | dmcTrain | wck | throttle
  /-- Squall window (R391); heartbeat check (R392); heartbeat hold (R393). -/
  | squall | heartbeat | hbHold
  /-- Freeze and snapshot TICKs (R417, R419). -/
  | freeze | snapshot
  /-- Debug unlock and response lockout (R443, R444). -/
  | unlock | lockout
  /-- PPS and TOD (R454, R455). -/
  | ppsWidth | ppsMissing | todSend
  /-- Doldrums drain and sampling, wake step, wake retry (R458 to R465). -/
  | doldDrain | doldSample | wakeStep | wakeRetry
  /-- The depth sampler's next queue (R335). -/
  | depth
  deriving DecidableEq, Repr

/-- A running timer. -/
structure Timer where
  kind : TimerKind
  idx : Nat
  deadline : Nat
  deriving DecidableEq, Repr

/-- Where a command in flight stands (R48, R53): its fetch read is outstanding, it is fetched, its execution has begun,
or it is finished and waits for its completion to be written. -/
inductive CmdPhase where
  | fetching | fetched | begun | finished
  deriving DecidableEq, Repr

/-- A command in flight (R48). `id` numbers fetches, so ids of one ring rise in fetch order; `ring` is none for the
direct slot (R60). A finished command holds its completion fields (R50) and the result buffers to write first (R51);
`finSeq` numbers finishing. `orphan` marks a command whose completion is lost to a host-interface reset (R42), `byReset` one whose
ABORTED stems from a reset (R411). `effSeq` is EPOCH_SEQ as its effect took hold, where that was before it finished (R50). -/
structure Cmd where
  id : Nat
  ring : Option Nat
  addr : Nat
  record : BitVec 512
  phase : CmdPhase
  status : Nat
  detail : Nat
  epochSeq : Nat
  result : Nat
  bufs : List (Nat × Bytes)
  finSeq : Nat
  orphan : Bool
  byReset : Bool
  effSeq : Option Nat
  deriving DecidableEq, Repr

/-- Bits of the command record (R49). -/
def Cmd.bits (c : Cmd) (lo w : Nat) : Nat := c.record.toNat >>> lo % 2 ^ w
/-- OPCODE (R49). -/
def Cmd.opcode (c : Cmd) : Nat := c.bits 0 8
/-- ORDER_KEY (R49). -/
def Cmd.key (c : Cmd) : Nat := c.bits 32 16
/-- FENCE (R49); opcode 0x01 always counts as 1 (R54). -/
def Cmd.fence (c : Cmd) : Bool := c.bits 8 1 = 1 || c.opcode = 1

/-- The registers of the function's configuration space that the host writes and no other part of State holds (R21, R39): Memory
Space Enable, the three base addresses, Device Control, Device Control 2 and the ECRC enables of AER; and the subsystem IDs, with
whether Helri has read them (R477, R509). (PRESUMED, log entry 30.) -/
structure PciFn where
  memEn : Bool
  bar0 : Nat
  bar2 : Nat
  bar4 : Nat
  devCtl : Nat
  devCtl2 : Nat
  ecrcGen : Bool
  ecrcChk : Bool
  subsys : Nat
  boardRead : Bool
  deriving DecidableEq, Repr

/-- The command side of the host interface (R43 to R60): commands in flight in fetch order, the next fetch number, the
ring whose turn it is (R48), the doorbells in force (R44), and the state of PCI Express that R39, R40, R42 and R514 name. -/
structure HostCmd where
  cmds : List Cmd
  nextId : Nat
  nextFin : Nat
  turn : Nat
  sqTail : SMap Nat
  cqHead : SMap Nat
  bme : Bool
  d3hot : Bool
  pci : PciFn
  deriving DecidableEq, Repr

/-- The host packet channels (R61 to R67) beyond their registers: the tails in force of the punt and inject rings, the
count of packets directed to each channel, and the rings a fetch error has stopped (punt ring c at c, inject ring c at
64 + c). -/
structure HostPkt where
  puntTail : SMap Nat
  injTail : SMap Nat
  puntSeq : SMap Nat
  stopped : SMap Bool
  deriving DecidableEq, Repr

/-- One MSI-X vector: message address and data, mask and pending bit (R43, R70). -/
structure MsixVec where
  addr : Nat
  data : Nat
  masked : Bool
  pba : Bool
  deriving DecidableEq, Repr

/-- Interrupt delivery (R68 to R70): MSI-X enable and function mask, the vectors, the unsignalled count of each ring
cause. -/
structure Irq where
  enable : Bool
  fnMask : Bool
  vecs : SMap MsixVec
  coal : SMap Nat
  deriving DecidableEq, Repr

/-- Where a packet is. The packets of one place stand in arrival order in the packet list. (DESIGN CHOICE, log entry 5.) -/
inductive Loc where
  /-- The input buffer of a port group (R109). -/
  | input (pg : Nat)
  /-- Looped packets that wait at an ingress pipeline (R10). -/
  | loopIn (pipe : Nat)
  /-- MODE 0 injects that wait at an ingress pipeline (R67). -/
  | injectIn (pipe : Nat)
  /-- The strip of an ingress pipeline (R107). -/
  | strip (pipe : Nat)
  /-- Across the bridge, before policing (R326). -/
  | tmArrive (pipe : Nat)
  /-- The host queue of a packet channel (R64). -/
  | hostq (chan : Nat)
  /-- A queue of the queue pool (R300). -/
  | queue (q : Nat)
  /-- A multicast copy that waits for its stream's cutter (R284). -/
  | cutq (stream : Nat)
  /-- Being cut into cells of a stream (R272). -/
  | cut (stream : Nat)
  /-- Cut whole, its cells in the switch core or a transmit group (R92). -/
  | core
  /-- Open at egress reassembly, not yet in a queue (R282). -/
  | reasm
  /-- A multicast original whose copies are in residue (R286). -/
  | residue
  /-- Selected for an egress pipeline while its units are read back from GDDR7 (R15). -/
  | eread (pipe : Nat)
  /-- The loopback FIFO of an egress pipeline (R321). -/
  | loopFifo (pipe : Nat)
  /-- The strip of an egress pipeline (R107). -/
  | estrip (pipe : Nat)
  /-- A MAC buffer of a port: 0 normal, 1 express, 2 protection copies (R348). -/
  | mac (port : Nat) (buf : Nat)
  /-- On the wire of a port. -/
  | wire (port : Nat)
  deriving DecidableEq, Repr

/-- A packet present in the device. `md` is its metadata (R12), `data` the frame without FCS as far as it has arrived,
`whole` that its tail has, `bad` that it has been found bad (R16), `begun` that it has begun at an output (R93).
`dieUnits` and `ddr` are the buffer units it holds (R304), `times` the trace points reached (R423), `since` the device
time of its admission (R336), `inj` the channel, the descriptor's address
and the phase to write back of the inject it came from, `fail` the parse
failure cause (R141), `vrf` the VRF the classifier assigned (R63), `egr` that it is on the egress side, `src` the fabric ID of the device it
entered at, `due` the cycle at which it leaves its strip, or before its handoff the egress queue it was selected from, `stream` its ingress stream (R272), `dest` its destination device,
`share` the original whose buffer units it shares (0 none, R305), `hold` that it is forwarded whole (R15), `ts` the transmit timestamp control (R227), `passed` that its egress part stands in the list
beside it and carries its stamp (R13). (DESIGN CHOICE, log entry 5.) -/
structure Pkt where
  id : Nat
  loc : Loc
  md : BitVec 512
  data : Bytes
  bad : Bool
  whole : Bool
  begun : Bool
  dieUnits : Nat
  ddr : List Nat
  times : SMap Nat
  since : Nat
  inj : Option (Nat × Nat × Nat)
  fail : Nat
  vrf : Nat
  egr : Bool
  src : Nat
  due : Nat
  stream : Nat
  dest : Nat
  share : Nat
  hold : Bool
  ts : Nat
  passed : Bool
  deriving DecidableEq, Repr

/-- Where the epoch machine stands beyond its registers (R87 to R95). `stage` is the command of an executing stage and
the state it started from, `stageStep` the step of R81 it has reached; `commit` the armed or draining EPOCH_COMMIT and its WAIT_RETIRE; `flipTime` a FLIP_TIME in
2^-32 ns still to come (0: the flip timer holds F); `rolled` that the present commit has had its rollback;
`rollbackArmed` that the armed flip is a rollback's, `rollbackCmd` its command; `remirror` that an abort's re-mirror is in progress; `fromNone` that
no bank was active before staging began; `flipAt` the cycle the drain is measured from; `changes` the rule entries the
group changed (table of the chain, line, slot); `head` the header, section table and signature block that an executing stage has
fetched and checked. -/
structure EpochState where
  stage : Option (Nat × Nat)
  stageStep : Nat
  head : Bytes
  commit : Option (Nat × Bool)
  flipTime : Nat
  rolled : Bool
  rollbackArmed : Bool
  rollbackCmd : Option Nat
  remirror : Bool
  fromNone : Bool
  flipAt : Nat
  changes : List (Nat × Nat × Nat)
  deriving DecidableEq, Repr

/-- An owner key slot in OTP (R430): 0 EMPTY, 1 VALID, 2 REVOKED, and the compressed point. -/
structure OwnerSlot where
  st : Nat
  key : Bytes
  deriving DecidableEq, Repr

/-- The one-time-programmable memory (R430 to R438): device identity, lifecycle (0 MANUFACTURE, 1 DEPLOYED, 2 RETURNED,
3 RETIRED), owner slots 1 to 4, security versions, OWNER_ONLY, and the erase. It survives every reset. -/
structure Otp where
  deviceId : Nat
  lifecycle : Nat
  slots : List OwnerSlot
  helriSvn : Nat
  almSvn : Nat
  ownerOnly : Bool
  erased : Bool
  certHash : Bytes
  deriving DecidableEq, Repr

/-- A section of an Almanac (R77, R78) as it was loaded: type, die, strip and content. -/
structure Section where
  typ : Nat
  die : Nat
  strip : Nat
  data : Bytes
  deriving DecidableEq, Repr

/-- A region of table SRAM (R179): logical positions, first line and lines per cell. -/
structure Region where
  firstCell : Nat
  cells : Nat
  firstLine : Nat
  lpc : Nat
  deriving DecidableEq, Repr

/-- A table of a layout: the record of R179, and the region in force with its hash parameters (R183): `live` false for
region 0. -/
structure Tbl where
  id : Nat
  dir : Nat
  kind : Nat
  role : Nat
  cls : Nat
  size : Nat
  aged : Bool
  liveBit : Bool
  learnId : Nat
  load : Nat
  reg0 : Region
  reg1 : Region
  seed0 : Nat
  mult0 : Nat
  lines0 : Nat
  seed1 : Nat
  mult1 : Nat
  lines1 : Nat
  live : Bool
  seed : Nat
  mult : Nat
  lines : Nat
  deriving DecidableEq, Repr

/-- What a bank holds of an Almanac (R71, R76 to R79): identity, depths, RWE_INIT values by field key, sections, and the
table layout with its live regions. -/
structure Bank where
  present : Bool
  almId : Nat
  build : Nat
  digest : Bytes
  depthI : Nat
  depthE : Nat
  rwe : List (Nat × Nat)
  secs : List Section
  tbls : List Tbl
  deriving DecidableEq, Repr

/-- Lines the loader cleared (R516): a region of a direction, to zeros or to empty filter slots. -/
structure Fill where
  dir : Nat
  reg : Region
  filter : Bool
  deriving DecidableEq, Repr

/-- The uncorrectable words of one logical cell's replica in one strip (R124, R198): all words when `all`, but for the
words listed, which are the other way. Words count line * 8 + word. -/
structure Ecc where
  all : Bool
  flips : List Nat
  deriving DecidableEq, Repr

/-- A locked segment (R187): direction, table, region and segment. -/
structure SegLock where
  dir : Nat
  table : Nat
  reg : Region
  seg : Nat
  deriving DecidableEq, Repr

/-- Table SRAM (R105, R118): line contents by (direction * 128 + logical position) * 49152 + line, alike in the eight
strips of a direction, the loader's fills (latest first), the uncorrectable words by strip * 128 + logical position, and
the segment locks; and the write pipeline (R188): the table commands that wait for a write slot with the entries fetched
for them (R191), the position in the round of eight slots, the accepted region switches (R195), and the BAR2 writes that flow control
holds (offset, width, data; R185). -/
structure TblMem where
  sram : SMap Nat
  fills : List Fill
  ecc : SMap Ecc
  locks : List SegLock
  wq : List (Nat × Nat)
  slot : Nat
  switches : List Nat
  dmaHeld : List (Nat × Nat × Nat)
  deriving DecidableEq, Repr

/-- One remap of a strip's fault window (R122 to R125): the logical cell, the cycle of its fence, the CELL_REMAP that
waits for it, the position it names, the spare taken, the source strip of its copy (none: the copy has no source), whether it starts on its own, whether it
runs, and whether it is done. -/
structure Remap where
  logical : Nat
  fenceAt : Nat
  cmd : Option Nat
  want : Option Nat
  phys : Nat
  src : Option Nat
  auto : Bool
  active : Bool
  done : Bool
  deriving DecidableEq, Repr

/-- The fault window of a strip: its remaps in the order of their fences, and the packets dropped. -/
structure StripRec where
  remaps : List Remap
  drops : Nat
  deriving DecidableEq, Repr

/-- A CELL_TEST in progress: the cell, the state it started from and the command (none for the replay of R477). -/
structure CellTest where
  phys : Nat
  from_ : Nat
  cmd : Option Nat
  deriving DecidableEq, Repr

/-- The cell array (R105 to R131) beyond its registers: fault windows per strip, tests, the fenced cells that have
spoken since their fence (R128), and the words the slot image store has lost (logical * 256 + word, R117). -/
structure CellArr where
  strips : SMap StripRec
  tests : List CellTest
  spoke : List Nat
  storeLost : SMap Bool
  deriving DecidableEq, Repr

/-- A learn event (R200): MAC, BD, kind, pipeline, port, MAC table. -/
structure LearnEv where
  mac : Nat
  bd : Nat
  kind : Nat
  pipe : Nat
  port : Nat
  table : Nat
  deriving DecidableEq, Repr

/-- A damping window of a key (R203): moves made and the cycle it opened. -/
structure Damp where
  key : Nat
  moves : Nat
  opened : Nat
  deriving DecidableEq, Repr

/-- A hit set held in the hit recorder (R205): the table, the slot and the key it was made for. -/
structure HitSet where
  table : Nat
  slot : Nat
  key : Nat
  deriving DecidableEq, Repr

/-- The walk of the ager (R206): the tables still to walk, the hash line it reaches next in the first of them, the cycle it
began, and whether a tick has asked for another walk at its end. -/
structure AgeWalk where
  tables : List Nat
  line : Nat
  began : Nat
  again : Bool
  deriving DecidableEq, Repr

/-- Learning and aging (R199 to R208): the learn queue, the damping windows in the order they opened, the held hit sets,
the walk, and the age deletions it has issued (table, slot, key). -/
structure Learning where
  queue : List LearnEv
  damps : List Damp
  hits : List HitSet
  walk : Option AgeWalk
  dels : List (Nat × Nat × Nat × Bool)
  deriving DecidableEq, Repr

/-- The parse, classifier and punt side of the FE beyond registers: the punt meter's content of a reason in 2^-16
tokens with the remainder carried (in units of 2^-16 token / 5 * 10^9 per core cycle pair) and the tick it was brought up
to, and whether the reason's last packet was dropped (R150, R153). -/
structure Meter where
  level : Nat
  rem : Nat
  tick : Nat
  limited : Bool
  deriving DecidableEq, Repr

/-- A network port beyond its registers: consecutive bad and good intervals (R221), whether it has been up since its ENABLE
(R233), verification attempts (R224), the classes whose PFC stands at XOFF (R222), PFC frames that wait for a frame boundary (class,
quanta), whether it sends remote fault (R127, R219), and of the frame on its wire the cycle its present fragment began at and the bytes
sent in earlier ones (R224). -/
structure NetPort where
  bad : Nat
  good : Nat
  seenUp : Bool
  attempts : Nat
  xoff : Nat
  pfcQ : List (Nat × Nat)
  rf : Bool
  fragAt : Nat
  fragSent : Nat
  deriving DecidableEq, Repr

/-- A transmit-timestamp capture (R227, R228): device time, port slot and TS_ID. -/
structure TsCap where
  sec : Nat
  ns : Nat
  slot : Nat
  id : Nat
  deriving DecidableEq, Repr

/-- A transmit protection record (R230). -/
structure TxRec where
  portA : Nat
  portB : Nat
  valid : Bool
  off : Nat
  seq : Nat
  deriving DecidableEq, Repr

/-- A receive protection record (R230). -/
structure RxRec where
  seq : Nat
  takeAny : Bool
  valid : Bool
  hist : Nat
  deriving DecidableEq, Repr

/-- The network side beyond registers: ports, the capture FIFOs by port group, the protection records by stream, and what
an ingress pipeline admitted last of looped packets (1) and injects (2), which alternate (R109). -/
structure NetState where
  alt : SMap Nat
  ports : SMap NetPort
  ts : SMap (List TsCap)
  tx : SMap TxRec
  rx : SMap RxRec
  deriving DecidableEq, Repr

/-- The snapshot in execution (R419): its command, and once latched the image with the time of its TICK. -/
structure Snap where
  cmd : Nat
  image : Option (Bytes × Nat)
  deriving DecidableEq, Repr

/-- Tracing (R421 to R426): the device rings of the two dies, oldest record first, whether their TRACE_DROP event is armed,
and the LFSRs of the ingress pipelines. -/
structure TraceState where
  fe : List Nat
  tm : List Nat
  feArm : Bool
  tmArm : Bool
  lfsr : List Nat
  deriving DecidableEq, Repr

/-- One event about to be raised: its page, its source, cause and details. -/
structure Raise where
  page : Nat
  src : Nat
  cause : Nat
  d0 : Nat
  d1 : Nat
  deriving DecidableEq, Repr

/-- The power state machine (R456 to R466) beyond TM.PWR. `rst` tells a reset that a pin holds: 1 POR_N low, 2 SYS_RST_N low, 0
none. `entry` is the step of a Doldrums entry in progress (0 none), `target` its target, `abort` that a request for ACTIVE waits
for its safe point. `wake` is the step of a wake or cold start in progress (0 none), `left` the state it left (2 DOLDRUMS_W, 3
DOLDRUMS_C), `fails` the attempts of it that failed, `cause` the RESET_CAUSE of the cold start it leads to. `run` is the count
of R460, `cycleAt` the core-cycle count at the entry, `pwrEn` the level of PWR_EN_OUT, `regAddr` the REG_ADDR of the management
interface; `held` the events that arose in Doldrums and are raised once their pages are out of reset (R464); `sysLow` that SYS_RST_N
is low (R500). -/
structure Power where
  rst : Nat
  entry : Nat
  target : Nat
  abort : Bool
  wake : Nat
  left : Nat
  fails : Nat
  cause : Nat
  run : Nat
  cycleAt : Nat
  pwrEn : Bool
  regAddr : Nat
  held : List Raise
  sysLow : Bool
  deriving DecidableEq, Repr

/-- An adjustment of device time that waits for its TICK (R452): a step, an offset in ns as 32 bits, or an addend. -/
inductive TimeAdj where
  | step (sec ns : Nat)
  | offset (ns : Nat)
  | addend (v : Nat)
  deriving DecidableEq, Repr

/-- Device time beyond its registers (R452 to R455): the adjustments with the core cycles of their TICKs, the level of PPS_OUT,
and the seconds value of its latest edge. -/
structure Ptp where
  adjs : List (Nat × TimeAdj)
  ppsOut : Bool
  ppsSec : Nat
  deriving DecidableEq, Repr

/-- The xSPI flash (R433, R435, R477, R487) as far as the device writes it, which survives every reset: images written into slot 0 A
and 1 B, the slot record, the fault record (physical cells), and the life record: hours, average Tj, thermal and POR cycles,
and v once it has been saved. -/
structure Flash where
  slots : SMap Bytes
  record : Nat
  faults : List Nat
  hours : Nat
  tj : Nat
  thermal : Nat
  power : Nat
  volt : Option Nat
  deriving DecidableEq, Repr

/-- The management controller beyond TM.MC and TM.SEC (R380, R442, R475 to R482): NMIs held while it is in reset, failures of a firmware
update to report once Helri runs, the cycle its latest reset began, whether MC_DEBUG has halted it, and the words MEM_ACCESS
wrote into its SRAM (+ 1); `update` that a switch to a new image is under way, `trialAt` the cycle its trial began. -/
structure Mc where
  update : Bool
  trialAt : Int
  nmis : List (Nat × Nat)
  fails : List Nat
  resetAt : Nat
  halted : Bool
  sram : SMap Nat
  deriving DecidableEq, Repr

/-- Temperature and voltage beyond the registers (R483 to R485). Canaries are numbered die * 64 + index: their latest margins, the
consecutive periods in which they did not change, those excluded; `run` and `exhausted` of R484; the sensor whose warning has
been raised (+ 1), by die. -/
structure Therm where
  margins : SMap Nat
  same : SMap Nat
  excluded : List Nat
  run : Nat
  exhausted : Bool
  warned : SMap Nat
  deriving DecidableEq, Repr

/-- The JTAG port (R442 to R444): the instruction register, the unlock challenge with the cycle it was made, consecutive failed
responses, the boundary-scan register, and whether EXTEST drives the pins from it. -/
structure Jtag where
  ir : Nat
  challenge : Option (Bytes × Nat)
  fails : Nat
  scan : Bytes
  extest : Bool
  deriving DecidableEq, Repr

end Sys2Proof.Machine
end

