-- ==== Sys2Proof/Machine/PageMap.lean ====
section
/-! DEFINITION. The page index of both dies (R24 to R28), the header each page has after CHIP reset (R29, R36, R379),
and the times of R5 in core cycles. A page index is die * 4096 + page number. -/

namespace Sys2Proof.Machine

/-- The page kind that holds page index `P`, if the position is assigned (R24, R25). -/
def pageKind (P : Nat) : Option (Nat × Nat × List Fld × List Fld) :=
  pageKinds.find? (fun k => decide (k.1 ≤ P) && decide (P < k.1 + k.2.1))

/-- Page index `P` is assigned (R24, R25). -/
def pageAssigned (P : Nat) : Bool := (pageKind P).isSome

/-- The GLOBAL page of the die that page index `P` lies on. -/
def globalPage (P : Nat) : Nat := P / 4096 * 4096

/-- First page of the array `P` belongs to, or `P` itself (R28). -/
def pageBase (P : Nat) : Nat := ((pageKind P).map (·.1)).getD P

/-- The named sources of page `P`; sources 8 to 10 of the DMC pages exist on DMC0 only (R378). -/
def pageSources (P : Nat) : List Evt :=
  evtTable.filter (fun e => decide (e.page = pageBase P) && (decide (pageBase P ≠ 4160) || decide (P = 4160) || decide (e.src < 8)))

/-- Source `n` of page `P` is implemented (R31, R378). -/
def srcImplemented (P n : Nat) : Bool :=
  pageAssigned P && (decide (n = 31) || (pageSources P).any (fun e => decide (e.src = n)))

/-- EVT_ENABLE after reset: 1 for every implemented source (R379). -/
def resetEvtEn (P : Nat) : Nat := (pageSources P).foldl (fun a e => a ||| 2 ^ e.src) (2 ^ 31)

/-- EVT_SEV after reset (R379): ACCESS_ERR is MINOR on every page. -/
def resetSev (P : Nat) : Nat := (pageSources P).foldl (fun a e => a ||| e.sev * 4 ^ e.src) (4 ^ 31)

/-- EVT_ACT after reset (R379). -/
def resetAct (P : Nat) : Nat := (pageSources P).foldl (fun a e => a ||| e.act * 16 ^ e.src) 0

/-- Pages whose ENABLE resets to 1 (R29): TM GLOBAL, CLK, PWR, SEC, MC, PCIE, MGMT; FE GLOBAL, CLK, PWR. -/
def resetEnable (P : Nat) : Bool :=
  decide (P = 4096) || decide (P = 4097) || decide (P = 4098) || decide (P = 4101) || decide (P = 4102) ||
    decide (P = 4104) || decide (P = 4108) || decide (P = 0) || decide (P = 1) || decide (P = 2)

/-- Pages whose SOFT_RESET is discarded (R30): GLOBAL, CLK, PWR, EPOCH and SEC of either die. -/
def softResetDiscarded (P : Nat) : Bool :=
  [0, 1, 2, 3, 4096, 4097, 4098, 4099, 4101].contains P

/-- Pages that can be fenced (R382). -/
def fenceable (P : Nat) : Bool :=
  (decide (16 ≤ P) && decide (P < 48)) || (decide (48 ≤ P) && decide (P < 64)) ||
    (decide (4112 ≤ P) && decide (P < 4132)) || (decide (4136 ≤ P) && decide (P < 4146)) ||
    (decide (4160 ≤ P) && decide (P < 4176)) || [75, 70, 71, 77, 4156].contains P

/-- A performance counter after reset (R37). -/
def PerfCtr.zero : PerfCtr := ⟨0, false, 0, 0⟩

/-- The header of page `P` after CHIP reset and POR (R29, R31, R32, R33, R36, R37, R379). -/
def resetHdr (P : Nat) : PageHdr where
  enable := resetEnable P
  fenced := false
  inReset := true
  latch := 0
  evtEn := resetEvtEn P
  sev := resetSev P
  act := resetAct P
  capValid := false
  capSource := 0
  capCause := 0
  capForced := false
  capTime := 0
  capD0 := 0
  capD1 := 0
  lostCount := 0
  lostOvf := false
  lock := false
  perf0 := PerfCtr.zero
  perf1 := PerfCtr.zero
  perf2 := PerfCtr.zero
  perf3 := PerfCtr.zero

/-- A millisecond in core cycles of 0.625 ns (R5). -/
def cyMs : Nat := 1600000
/-- A microsecond in core cycles. -/
def cyUs : Nat := 1600
/-- A second in core cycles. -/
def cySec : Nat := 1600000000
/-- `ns` nanoseconds in core cycles, rounded up. -/
def cyNs (ns : Nat) : Nat := ceilDiv (ns * 8) 5

/-- One second of device time in its unit of 2^-32 ns (R451). -/
def secUnits : Nat := 1000000000 * 2 ^ 32

end Sys2Proof.Machine
end

