-- ==== Sys2Proof/Machine/TmTypes.lean ====
section
/-! DEFINITION. The state of the TM die beyond its registers: channels (R292 to R299), the scheduler with its shapers,
policers and gate lists (R315 to R334), cells and the switch core (R269 to R287), fabric links (R253 to R263), and the
GDDR7 controllers (R356 to R374). -/

namespace Sys2Proof.Machine

/-- A channel index (R292 to R298): in use or free, its destroy in progress, its present generation, and its fields;
`cmd` is the CHAN_DESTROY that waits for the drain, `drops` what it has discarded so far. -/
structure Chan where
  used : Bool
  dying : Bool
  gen : Nat
  egress : Bool
  outPort : Nat
  destDev : Nat
  mask : Nat
  portDefault : Bool
  parent : Nat
  profile : Nat
  cmd : Option Nat
  drops : Nat
  deriving DecidableEq, Repr

/-- A scheduler node (R315, R339). -/
structure Node where
  parent : Nat
  prio : Nat
  weight : Nat
  shprof : Nat
  shapeEn : Bool
  clsProf : Nat
  deriving DecidableEq, Repr

/-- A shaper (R322): credit in 2^-16 byte, the remainder of the rise in 1/3,125 of that, the cycle it was brought up to, and the profile
in force since then (R323). -/
structure Shaper where
  credit : Int
  rem : Nat
  cyc : Nat
  prof : Nat
  deriving DecidableEq, Repr

/-- A shaper in the calendar (R324): its 10 ns slot of device time, its node, and whether it waits in the coarse wheel. -/
structure CalEnt where
  slot : Nat
  node : Nat
  coarse : Bool
  deriving DecidableEq, Repr

/-- A token bucket (R326, R328): level in 2^-16 byte, and the remainder of its fill in 1/3,125 of that. -/
structure Bucket where
  level : Nat
  rem : Nat
  deriving DecidableEq, Repr

/-- Work of queues that has ended and may begin again (R319): that of a class of a port, of the VOQs toward a port group of a device, or
of one queue. -/
inductive WorkEnd where
  | egr (port cls : Nat)
  | voq (dev pg : Nat)
  | queue (q : Nat)
  deriving DecidableEq, Repr

/-- A policer record (R329): profile, both buckets and the cycle they were brought up to, the three counts, and the profile's content in
force since the latest packet. -/
structure Policer where
  profile : Nat
  tc : Bucket
  te : Bucket
  cyc : Nat
  green : Nat
  yellow : Nat
  red : Nat
  force : Nat
  deriving DecidableEq, Repr

/-- A gate list (R330): entries (INTERVAL below 32 bits of GATES), CYCLE_TIME, LEN, BASE_TIME as nanoseconds and seconds,
GUARD. -/
structure GateList where
  entries : SMap Nat
  cycleNs : Nat
  len : Nat
  baseNs : Nat
  baseSec : Nat
  guarded : Bool
  deriving DecidableEq, Repr

/-- The gates of a port (R331, R332): EN, both lists, the pending switch, its time S in ns, and the last RESULT and CAUSE. -/
structure GatePort where
  en : Bool
  act : GateList
  pend : GateList
  pending : Bool
  sw : Nat
  result : Nat
  cause : Nat
  deriving DecidableEq, Repr

/-- Scheduling, shaping, policing and gates (R315 to R338) beyond registers. Nodes are numbered level * 65536 + index, with
levels 0 port, 1 L1, 2 L2, 3 channel, 4 class queue (whose index is the queue number). `xlast` and `rounds` are those of
R319 (a round under node * 8 + prio), `deficit` in bytes; `rr` is the port an egress pipeline served last; `loopNext` the
time in 1/250 cycle at which node 256 may select again; `dequeues` counts toward SAMPLE_N; `sampleArm` and `staleArm` that
SAMPLE_DROP and STALE_ADMIT may be raised again; `downAt` the cycle at which a port left UP; `ended` the work that has ended since the
rounds above it were last brought up to date, oldest first. -/
structure Sched where
  nodes : SMap Node
  xlast : SMap Nat
  rounds : SMap (List Nat)
  deficit : SMap Int
  shapers : SMap (Option Shaper)
  cal : List CalEnt
  clsProf : SMap Nat
  shProf : SMap Nat
  qProf : SMap Nat
  pProf : SMap Nat
  pols : SMap Policer
  express : Bucket
  expressCyc : Nat
  gates : SMap GatePort
  rr : SMap Nat
  loopNext : Nat
  dequeues : Nat
  sampleArm : Bool
  staleArm : Bool
  downAt : SMap Nat
  ended : List WorkEnd
  deriving DecidableEq, Repr

/-- A cell (R250): header fields and the 240 payload bytes. `own` tells that an ingress stream of this device carried it,
`pkt` the packet it was cut from, `tx` the transmit group and reach class it is assigned to, `since` the cycle it entered the
switch core and `ns` the device time then (R280, R423). -/
structure Cell where
  first : Bool
  last : Bool
  bad : Bool
  epoch : Bool
  destDev : Nat
  destPg : Nat
  cls : Nat
  srcDev : Nat
  lastLen : Nat
  seq : Nat
  data : Bytes
  own : Bool
  pkt : Nat
  tx : Option (Nat × Nat)
  since : Nat
  ns : Nat
  deriving DecidableEq, Repr

/-- A reorder context (R280): NEXT once release has begun, and the held cells with the cycles they arrived at. A context
without NEXT that holds cells is collecting. -/
structure Reord where
  next : Option Nat
  held : List (Cell × Nat)
  deriving DecidableEq, Repr

/-- A branch in residue (R286): side, group, record, original packet, and the cycle its packet reached the replication
point. -/
structure Branch where
  egr : Bool
  group : Nat
  rec_ : Nat
  pkt : Nat
  born : Nat
  deriving DecidableEq, Repr

/-- The switch core, the fabric side and multicast (R269 to R287). `staging` by source, `banks` by (bank * 48 + destination)
* 2 + express, `txq` by (group * 16 + reach class) * 2 + express; `ptr` by stream * 16 + reach class; `seqs` by device * 2 +
space; `cut` the cells already cut of a stream's packet; `ctxs` by source device * 2 + space; `ras` the packet open in a
reassembly context, by (source device * 32 + port group) * 2 + space; `away` the links whose slots stand with their
alternates; `patBank` the bank whose pattern runs; `mfi` and `pos` the transmit frame and the next cell position in it;
`pend` the words of the pending image; `fcQ` the flow-control changes not yet sent, `fcNext` the next group to refresh,
`pgXoff` the groups at XOFF; `groups` and `recs` the multicast records; `residue` in the order the branches entered;
`walk` the replications WALK_DRAIN waits for. -/
structure Fabric where
  staging : SMap (List Cell)
  banks : SMap (List Cell)
  txq : SMap (List Cell)
  ptr : SMap Nat
  seqs : SMap Nat
  cut : SMap Nat
  ctxs : SMap Reord
  ras : SMap Nat
  away : List Nat
  patBank : Option Bool
  mfi : Nat
  pos : Nat
  pend : SMap Nat
  fcQ : List (Nat × Bool)
  fcNext : Nat
  pgXoff : Nat
  groups : SMap Nat
  recs : SMap Nat
  residue : List Branch
  walk : List Nat
  deriving DecidableEq, Repr

/-- A fabric link beyond its registers (R253 to R261): START, the candidate phase, matches in PRESYNC or good overheads in
CHECK, consecutive errored FAWs; the expected MFI, the last MFI of a good overhead, inconsistencies; consecutive bad and
good intervals of DEG; IN_SERVICE met since ENABLE; the trace bytes of the repetition being collected (index to byte + 1),
the repetition collected before it, and the accepted trace; the transmit and expected traces; the REACH blocks in force and
the last block received of each number (+ 1). -/
structure FLink where
  start : Nat
  cand : Nat
  steps : Nat
  faws : Nat
  expect : Nat
  lastMfi : Option Nat
  incons : Nat
  bad : Nat
  good : Nat
  seenUp : Bool
  rep : Nat
  cur : SMap Nat
  prev : Option Bytes
  accepted : Option Bytes
  txTrace : SMap Nat
  expTrace : SMap Nat
  reach : SMap Nat
  reachLast : SMap Nat
  deriving DecidableEq, Repr

/-- A GDDR7 request (R361): requester 0 buffer writer, 1 buffer reader, 2 counter engine, 3 host DMA; write or read; unit;
the packet or queue it serves; the 32-byte part and the value it writes there; retries made; whether its access is in
progress; whether it came to staging, its controller pausing for a frequency change (R366). -/
structure DReq where
  who : Nat
  write : Bool
  unit_ : Nat
  ref : Nat
  part : Nat
  value : Nat
  tries : Nat
  active : Bool
  paused : Bool
  deriving DecidableEq, Repr

/-- The pending increments of a queue record (R373). -/
structure QInc where
  deqP : Nat
  deqB : Nat
  dropP : Nat
  dropB : Nat
  deriving DecidableEq, Repr

/-- A frequency change of a controller (R366, R367): it repeats with its previous set after the step that failed. -/
structure Freq where
  ctl : Nat
  again : Bool
  step : Nat
  deriving DecidableEq, Repr

/-- The GDDR7 controllers beyond their registers (R356 to R374). Requests stand in arrival order; banks are numbered
(controller * 4 + channel) * 16 + bank, channels controller * 4 + channel. `ptr` is the bank a channel activated last,
`wmode` that a channel is in write mode, `lastAct` the cycles of a channel's latest activates (newest first), `bankFree`
the cycle from which tRP allows a bank again; `rows` the activation tables (row, count); `owed` the refreshes owed, `refN`
the intervals counted by a controller, `refAt` the cycle of its last, `refPtr` the bank a channel refreshed last; `hot` the controllers whose report calls
for more refresh; `unc` the units that gave an uncorrectable access, `lost` the packets whose write met an error response, `retired` the units
retired; `used` the units packets hold; `mem` the 32-byte parts the window or the counter engine wrote (content + 1), `pend`
the counter increments; `freq` the controllers in a frequency change, `freqAt` the cycle of GO, `freqBad` that some
controller of it failed; `full` the controllers whose RETIRE_FULL was raised. -/
structure Dmc where
  reqs : List DReq
  ptr : SMap Nat
  wmode : SMap Bool
  lastAct : SMap (List Nat)
  bankFree : SMap Nat
  rows : SMap (List (Nat × Nat))
  owed : SMap Nat
  refN : SMap Nat
  refAt : SMap Nat
  refPtr : SMap Nat
  hot : List Nat
  unc : List Nat
  lost : List Nat
  retired : List Nat
  used : List Nat
  mem : SMap Nat
  pend : SMap QInc
  freq : List Freq
  freqAt : Nat
  freqBad : Bool
  full : List Nat
  deriving DecidableEq, Repr

end Sys2Proof.Machine
end

