-- ==== Sys2Proof/Machine/State.lean ====
section
/-! DEFINITION. The state of the TZ-5120 as a block, and its state at power-on reset. Block registers stand field by field in
`regs` (`regsB` for bank B of the RWE fields), page headers in `hdrs`; every table, queue, ring, buffer and engine that is no
register has a field of its own. Packets stand in one list with the place each is in. -/

namespace Sys2Proof.Machine

/-- Reasons to stop with a fault. No command of this block has an effect that the spec leaves out, so nothing raises one: the
type has a constructor because the host's interface names it. Safe. -/
inductive Fault where
  /-- Raised by no meaning. Safe. -/
  | none
  deriving DecidableEq, Repr

/-- Reasons to refuse a command. -/
inductive Refusal where
  /-- Raised by an arm of `exec` whose command has no meaning yet. Safe. -/
  | notModelled (mnemonic : String)
  deriving DecidableEq, Repr

/-- Configuration space after a reset of the function: Relaxed Ordering and No Snoop enabled, Max Payload 128 and Max Read Request
512 bytes, as the PCI Express specification has them. (PRESUMED, log entry 30.) -/
def PciFn.reset : PciFn := ⟨false, 0, 0, 0, 0x2810, 0, false, false, 0, false⟩

/-- The state of the block. -/
structure State where
  /-- Core cycles since the counters restarted (R89, R449); in Doldrums the time passed in core cycles. -/
  cycle : Nat
  /-- Device PTP time in 2^-32 ns (R451). -/
  time : Nat
  /-- Addend of device time per TICK in 2^-32 ns (R451). -/
  addend : Nat
  /-- Device time advances: the clocks of R448 run. -/
  timeRun : Bool
  timers : List Timer
  hdrs : SMap PageHdr
  regs : SMap Nat
  regsB : SMap Nat
  /-- The HI word that the latest read of a LO counter word latched (R38), by field key. -/
  hiLatch : SMap Nat
  /-- Counts that a BLOCK reset in progress holds back until IN_RESET clears (R409), by field key. -/
  later : SMap Nat
  log : LogState
  acts : List PendAct
  /-- A CHIP reset has been asked for and not yet begun (R380, R489). -/
  chipReq : Bool
  pw : Power
  ptp : Ptp
  mc : Mc
  flash : Flash
  th : Therm
  jt : Jtag
  hc : HostCmd
  hp : HostPkt
  irq : Irq
  pkts : List Pkt
  nextPkt : Nat
  ep : EpochState
  bankA : Bank
  bankB : Bank
  tm : TblMem
  ca : CellArr
  ln : Learning
  net : NetState
  tr : TraceState
  /-- The snapshot in execution (R419): a SNAPSHOT command that has begun. -/
  snap : Option Snap
  /-- Punt meters by reason (R150). -/
  meters : SMap Meter
  chans : SMap Chan
  sc : Sched
  fab : Fabric
  links : SMap FLink
  dm : Dmc
  otp : Otp
  /-- The model's own counter of the open values asked for so far (`Config.freeWord`, `Config.random`). -/
  freeCtr : Nat
  /-- What the block has sent out, newest first. -/
  out : List Out
  /-- Commands that wait, first in first out. -/
  pending : List Instr
  deriving DecidableEq, Repr

/-- A bank that holds nothing (R71). -/
def Bank.empty : Bank := ⟨false, 0, 0, [], 0, 0, [], [], []⟩

/-- The addend after reset: 1.25 ns (R451). -/
def addendReset : Nat := 5 * 2 ^ 30

/-- OTP as manufactured, before any provisioning (R430, R431, R436): lifecycle MANUFACTURE, every owner slot EMPTY.
(DESIGN CHOICE, log entry 14.) -/
def Otp.made : Otp :=
  ⟨0, 0, List.replicate 4 ⟨0, []⟩, 0, 0, false, false, toBe 48 (Config.sha384 Config.deviceCert).toNat⟩

/-- The flash as manufactured: the slot record names slot A, nothing recorded. (DESIGN CHOICE, log entry 14.) -/
def Flash.made : Flash := ⟨[], 0, [], 0, 0, 0, 0, none⟩

/-- Power with POR_N low (R476). (DESIGN CHOICE, log entry 14.) -/
def Power.por : Power := ⟨1, 0, 0, false, 0, 3, 0, 0, 0, 0, false, 0, [], false⟩

/-- Scheduler and shapers as reset leaves them (R302, R326): the express bucket is full. -/
def Sched.reset : Sched where
  nodes := []
  xlast := []
  rounds := []
  deficit := []
  shapers := []
  cal := []
  clsProf := []
  shProf := []
  qProf := []
  pProf := []
  pols := []
  express := ⟨1048576 * 65536, 0⟩
  expressCyc := 0
  gates := []
  rr := []
  loopNext := 0
  dequeues := 0
  sampleArm := true
  staleArm := true
  downAt := []
  ended := []

/-- The switch core and the fabric side as reset leaves them: nothing held; the next transmit frame begins a pattern (R273). -/
def Fabric.reset : Fabric where
  staging := []
  banks := []
  txq := []
  ptr := []
  seqs := []
  cut := []
  ctxs := []
  ras := []
  away := []
  patBank := none
  mfi := 255
  pos := 31
  pend := []
  fcQ := []
  fcNext := 0
  pgXoff := 0
  groups := []
  recs := []
  residue := []
  walk := []

/-- The GDDR7 controllers as reset leaves them. -/
def Dmc.reset : Dmc where
  reqs := []
  ptr := []
  wmode := []
  lastAct := []
  bankFree := []
  rows := []
  owed := []
  refN := []
  refAt := []
  refPtr := []
  hot := []
  unc := []
  lost := []
  retired := []
  used := []
  mem := []
  pend := []
  freq := []
  freqAt := 0
  freqBad := false
  full := []

/-- The device with POR_N low (R473, R476): every register at its reset value, every page in reset, nothing held, NO_EPOCH.
(DESIGN CHOICE, log entry 14.) -/
def State.reset : State where
  cycle := 0
  time := 0
  addend := addendReset
  timeRun := false
  timers := []
  hdrs := []
  regs := []
  regsB := []
  hiLatch := []
  later := []
  log := ⟨[], [], [], 0, none⟩
  acts := []
  chipReq := false
  pw := Power.por
  ptp := ⟨[], false, 0⟩
  mc := ⟨false, 0, [], [], 0, false, []⟩
  flash := Flash.made
  th := ⟨[], [], [], 0, false, []⟩
  jt := ⟨1, none, 0, [], false⟩
  hc := ⟨[], 0, 0, 0, [], [], false, false, PciFn.reset⟩
  hp := ⟨[], [], [], []⟩
  irq := ⟨false, false, [], []⟩
  pkts := []
  nextPkt := 1
  ep := ⟨none, 0, [], none, 0, false, false, none, false, false, 0, []⟩
  bankA := Bank.empty
  bankB := Bank.empty
  tm := ⟨[], [], [], [], [], 0, [], []⟩
  ca := ⟨[], [], [], []⟩
  ln := ⟨[], [], [], none, []⟩
  net := ⟨[], [], [], [], []⟩
  tr := ⟨[], [], true, true, (List.range 16).map (fun i => 1 + i)⟩
  snap := none
  meters := []
  chans := []
  sc := Sched.reset
  fab := Fabric.reset
  links := []
  dm := Dmc.reset
  otp := Otp.made
  freeCtr := 0
  out := []
  pending := []

end Sys2Proof.Machine
end

