-- ==== Sys2Proof/Machine/RegFile.lean ====
section
/-! DEFINITION. Page headers, the register file with its counters (R6, R22 to R38), and time (R5, R449, R451). -/

namespace Sys2Proof.Machine

/-! ### Page headers -/

/-- The header of page index `P`. -/
def State.hdr (s : State) (P : Nat) : PageHdr := SMap.get (resetHdr P) s.hdrs P

/-- The header of page `P` replaced by `f` of it. -/
def State.updHdr (s : State) (P : Nat) (f : PageHdr → PageHdr) : State :=
  { s with hdrs := SMap.upd (resetHdr P) s.hdrs P f }

/-- The page is fenced (R382). -/
def State.fenced (s : State) (P : Nat) : Bool := (s.hdr P).fenced

/-- A BLOCK reset of the page is in progress (R29). -/
def State.inReset (s : State) (P : Nat) : Bool := (s.hdr P).inReset

/-- The block operates: enabled, out of reset and not fenced (R29). -/
def State.operating (s : State) (P : Nat) : Bool := (s.hdr P).enable && !(s.hdr P).fenced && !(s.hdr P).inReset

/-- The page of a GDDR7 controller. -/
def isDmcPage (P : Nat) : Bool := decide (4160 ≤ P) && decide (P < 4176)

/-! ### The register file -/

/-- The reset value of element `i` of a field: the table's, but for the arrays whose elements differ: CELL_STATE and
LOGICAL_MAP (R131), and FAIL_ACT, two bits a cause of 0x0055_5554 (R151). -/
def Fld.resetAt (f : Fld) (i : Nat) : Nat :=
  if f = FE_CELLS.CELL_STATE.STATE then (if 128 ≤ i % 132 then 1 else 0)
  else if f = FE_CELLS.LOGICAL_MAP.POSITION then i % 128
  else if f = FE_PARSE.FAIL_ACT.ACT then (if 1 ≤ i && i ≤ 11 then 1 else 0)
  else f.reset

/-- The content of field `f`, element `i`, page instance `p`. (DEDUCED, log entry 3.) -/
def State.rfp (s : State) (f : Fld) (p i : Nat) : Nat := SMap.get (f.resetAt i) s.regs (f.key p i)

/-- The content of a field that stands once. -/
def State.rf (s : State) (f : Fld) : Nat := s.rfp f 0 0

/-- Element `i` of a field array of a single page. -/
def State.rfi (s : State) (f : Fld) (i : Nat) : Nat := s.rfp f 0 i

/-- A one-bit field as a Boolean. -/
def State.rfb (s : State) (f : Fld) : Bool := decide (s.rf f = 1)

/-- Accesses reach the page: FE pages are out of reach while the bridge is down (R397). -/
def State.reachable (s : State) (P : Nat) : Bool := decide (4096 ≤ P) || s.rfb TM_FAULT.STATUS.BRIDGE_UP

/-- The block registers of the page answer: it is reachable and neither FENCED nor IN_RESET is set (R23). -/
def State.blockOpen (s : State) (P : Nat) : Bool := s.reachable P && !(s.hdr P).fenced && !(s.hdr P).inReset

/-- Field `f` set to the low bits of `v`; a field at its reset value is not listed. (DEDUCED, log entry 3.) -/
def State.wfp (s : State) (f : Fld) (p i v : Nat) : State :=
  { s with regs := SMap.put (f.resetAt i) s.regs (f.key p i) (v % 2 ^ f.w) }

/-- A field that stands once, set. -/
def State.wf (s : State) (f : Fld) (v : Nat) : State := s.wfp f 0 0 v

/-- Element `i` of a field array, set. -/
def State.wfi (s : State) (f : Fld) (i v : Nat) : State := s.wfp f 0 i v

/-- An RWE field in bank `b` (false A, true B): bank A stands in `regs`, bank B in `regsB` (R34). (DEDUCED, log entry 3.) -/
def State.rfBank (s : State) (f : Fld) (b : Bool) (i : Nat) : Nat :=
  if b then SMap.get (f.resetAt i) s.regsB (f.key 0 i) else SMap.get (f.resetAt i) s.regs (f.key 0 i)

/-- An RWE field in bank `b`, set. (DEDUCED, log entry 3.) -/
def State.wfBank (s : State) (f : Fld) (b : Bool) (i v : Nat) : State :=
  if b then { s with regsB := SMap.put (f.resetAt i) s.regsB (f.key 0 i) (v % 2 ^ f.w) } else s.wfp f 0 i v

/-- The active bank (R87): false A, true B. -/
def State.activeBank (s : State) : Bool := s.rfb TM_EPOCH.STATE.ACTIVE_BANK

/-- The block registers of page `P` at their reset values (R30), but for the fields whose key satisfies `keep`. -/
def State.resetBlockRegs (s : State) (P : Nat) (keep : Nat → Bool) : State :=
  let inPage := fun k => decide ((P * 4096 + 0x100) * 8 ≤ k) && decide (k < (P + 1) * 4096 * 8) && !keep k
  { s with regs := SMap.drop inPage s.regs, hiLatch := SMap.drop inPage s.hiLatch }

/-! ### What runs (R448, R450, R456, R473) -/

/-- The FE stack runs: its root PLL is locked and no reset pin is low. (DESIGN CHOICE, log entry 14.) -/
def State.feOn (s : State) : Bool := s.rfb FE_CLK.STATUS.ROOT_LOCK && decide (s.pw.rst = 0)

/-- The TM die runs: its root PLL is locked and no reset pin is low. (DESIGN CHOICE, log entry 14.) -/
def State.tmOn (s : State) : Bool := s.rfb TM_CLK.STATUS.ROOT_LOCK && decide (s.pw.rst = 0)

/-- The PCI Express PHY is powered: it keeps its link through a CHIP reset (R473) and is off in Doldrums (R456). -/
def State.phyOn (s : State) : Bool :=
  decide (s.pw.rst ≠ 1) && decide (s.rf TM_PWR.STATE.STATE ≠ 2) && decide (s.rf TM_PWR.STATE.STATE ≠ 3)

/-- Command, descriptor and inject fetching has stopped for Doldrums (R458 step 2). -/
def State.fetchStopped (s : State) : Bool := decide (2 ≤ s.pw.entry)

/-- Admission has stopped for Doldrums (R458 step 3). -/
def State.admitStopped (s : State) : Bool := decide (3 ≤ s.pw.entry)

/-- A command of the FE stack: nothing happens while that does not run. -/
def State.onFe (s : State) (f : State → State) : State := if s.feOn then f s else s

/-- A command of the TM die: nothing happens while that does not run. -/
def State.onTm (s : State) (f : State → State) : State := if s.tmOn then f s else s

/-- A command of the PCI Express link: nothing happens while its PHY is off. -/
def State.onPhy (s : State) (f : State → State) : State := if s.phyOn then f s else s

/-! ### Page counters -/

/-- `n` added to a page counter that counts event `ev`; at most 2^20 per core cycle (R416), modulo 2^48 (R38). -/
def PerfCtr.add (c : PerfCtr) (ev n : Nat) : PerfCtr :=
  if c.enable && decide (c.event = ev) then { c with count := wrapAdd 48 c.count (min n (2 ^ 20)) } else c

/-- An event that adds 1 in each of `n` core cycles (R414): the limit of R416 is per cycle. -/
def PerfCtr.addCycles (c : PerfCtr) (ev n : Nat) : PerfCtr :=
  if c.enable && decide (c.event = ev) then { c with count := wrapAdd 48 c.count n } else c

/-- Some counter of the page counts. -/
def PageHdr.perfOn (h : PageHdr) : Bool := h.perf0.enable || h.perf1.enable || h.perf2.enable || h.perf3.enable

/-- Event `ev` of the page adds `n` to the counters that select it. -/
def PageHdr.perfAdd (h : PageHdr) (ev n : Nat) : PageHdr :=
  { h with perf0 := h.perf0.add ev n, perf1 := h.perf1.add ev n, perf2 := h.perf2.add ev n, perf3 := h.perf3.add ev n }

/-- An event of the page adds 1 in each of `n` core cycles. -/
def PageHdr.perfCycles (h : PageHdr) (ev n : Nat) : PageHdr :=
  { h with perf0 := h.perf0.addCycles ev n, perf1 := h.perf1.addCycles ev n, perf2 := h.perf2.addCycles ev n,
           perf3 := h.perf3.addCycles ev n }

/-- Event `ev` of page `P` occurs `n` times, unless the counters are frozen (R414, R417). -/
def State.perf (s : State) (P ev n : Nat) : State :=
  if (s.hdr P).perfOn && decide (s.rf TM_PERF.FREEZE.FROZEN = 0) then s.updHdr P (·.perfAdd ev n) else s

/-- HOST_ACCESS of page `P` (R414): an access to the page from the host. (DEDUCED, log entry 4.) -/
def State.hostAccess (s : State) (who : Agent) (P : Nat) : State := if who = .host then s.perf P 7 1 else s

/-- The index j of a counter field of its page (R415). -/
def ctrIndex (f : Fld) : Option Nat :=
  (pageKind f.page).bind (fun k => firstIdx (fun g => decide (g = f)) k.2.2.2)

/-- Counter field `f` would rise by `n`: event 0x10 + j of its page (R415). -/
def State.perfFld (s : State) (f : Fld) (p n : Nat) : State :=
  if (s.hdr (f.page + p)).perfOn then
    match ctrIndex f with
    | some j => s.perf (f.page + p) (16 + j) n
    | none => s
  else s

/-- A counter that saturates rises by `n`. -/
def State.sat (s : State) (f : Fld) (p i n : Nat) : State :=
  (s.wfp f p i (satAdd f.w (s.rfp f p i) n)).perfFld f p n

/-- A saturating counter that counts once IN_RESET clears while its page is in reset (R409). -/
def State.satLater (s : State) (f : Fld) (p i n : Nat) : State :=
  if s.inReset (f.page + p) then { s with later := SMap.upd 0 s.later (f.key p i) (· + n) } else s.sat f p i n

/-- A counter that counts modulo its width rises by `n`. -/
def State.inc (s : State) (f : Fld) (p i n : Nat) : State :=
  (s.wfp f p i (wrapAdd f.w (s.rfp f p i) n)).perfFld f p n

/-- A field named COUNT takes a value; a rise counts for its event (R415). -/
def State.setCnt (s : State) (f : Fld) (i v : Nat) : State :=
  (s.wfi f i v).perfFld f 0 (v - s.rfi f i)

/-- A saturating counter that stands once rises by 1. -/
def State.sat1 (s : State) (f : Fld) : State := s.sat f 0 0 1

/-- A modulo counter that stands once rises by 1. -/
def State.inc1 (s : State) (f : Fld) : State := s.inc f 0 0 1

/-! ### Time -/

/-- Nanoseconds field of device time. -/
def State.timeNs (s : State) : Nat := s.time / 2 ^ 32 % 1000000000

/-- Seconds of device time, 48 bits. -/
def State.timeSec (s : State) : Nat := s.time / secUnits % 2 ^ 48

/-- Device time as the 80-bit field of a record: seconds above 32 bits of nanoseconds. The log record states it so (R386); that the
80-bit TIMESTAMP of R12 and of the other records lies the same way is DEDUCED (log entry 29). -/
def State.time80 (s : State) : Nat := s.timeSec * 2 ^ 32 + s.timeNs

/-- The TICK counter: one TICK is two core cycles (R5). -/
def State.tick (s : State) : Nat := s.cycle / 2

/-- PAGE_STATUS.READY (R29): the block operates and has finished its own initialisation. Of the blocks only a GDDR7 controller
has one, its training: its page is ready in READY and FREQ (R357, R359; which blocks initialise is DEDUCED, log entry 28). -/
def State.blockReady (s : State) (P : Nat) : Bool :=
  s.operating P && (!isDmcPage P ||
    decide (s.rfp TM_DMC.STATUS.STATE (P - 4160) 0 = 2) || decide (s.rfp TM_DMC.STATUS.STATE (P - 4160) 0 = 3))

/-- A commit is under way (R87): armed, draining, expired or retiring, or an abort's re-mirror runs. -/
def State.epochBusy (s : State) : Bool := decide (5 ≤ s.rf TM_EPOCH.STATE.STATE) || s.ep.remirror

/-- PAGE_STATUS.BUSY (R29): a multi-cycle operation of the block is in progress. Which operations count is DEDUCED (log entry 28). -/
def State.blockBusy (s : State) (P : Nat) : Bool :=
  match P with
  | 3 | 4099 => s.epochBusy
  | 4 | 4100 => s.ep.stage.isSome
  | 68 => !s.tm.wq.isEmpty || !s.tm.switches.isEmpty
  | 71 => s.ln.walk.isSome
  | 72 => s.ca.strips.any (fun e => e.2.remaps.any (fun r => r.active)) || !s.ca.tests.isEmpty
  | 76 => s.rfb FE_PTP.TIME_CTRL.BUSY
  | 4102 => s.rfb TM_MC.FW_CTRL.BUSY
  | 4105 => s.rfb TM_HCMD.DRES_CTRL.BUSY
  | 4146 => s.rfb TM_SPRAY.INSTALL.PENDING
  | 4148 => s.chans.any (fun e => e.2.dying)
  | 4155 => !s.fab.walk.isEmpty
  | 4178 => s.rfb TM_PERF.SNAP_STATUS.BUSY
  | _ => isDmcPage P &&
      (decide (s.rfp TM_DMC.STATUS.STATE (P - 4160) 0 = 1) || s.dm.freq.any (fun f => decide (f.ctl = P - 4160)) ||
        (decide (P = 4160) && (s.rfb TM_DMC.FREQ.BUSY || s.rfb TM_DMC.MEM.BUSY || s.rfb TM_DMC.EXPORT.BUSY)))

/-- `n` core cycles pass: the cycle counter rises, device time gains the addend at each TICK (R451), and the page
counters of CYCLES, READY_CYCLES, BUSY_CYCLES and FENCED_CYCLES add (R414). (DESIGN CHOICE, log entry 1.) -/
def State.advance (s : State) (n : Nat) : State :=
  let ticks := (s.cycle + n) / 2 - s.cycle / 2
  let frozen := decide (s.rf TM_PERF.FREEZE.FROZEN = 1)
  let cnt := fun (P : Nat) (h : PageHdr) =>
    if frozen || !(if P < 4096 then s.feOn else s.tmOn) then h
    else
      let h := h.perfCycles 1 n
      let h := if s.blockReady P then h.perfCycles 2 n else h
      let h := if s.blockBusy P then h.perfCycles 3 n else h
      if h.fenced then h.perfCycles 4 n else h
  { s with
    cycle := (s.cycle + n) % 2 ^ 64
    time := if s.timeRun then s.time + ticks * s.addend else s.time
    hdrs := s.hdrs.map (fun e => (e.1, cnt e.1 e.2)) }

/-- The clock moves on to core cycle `c` if that lies ahead. -/
def State.advanceTo (s : State) (c : Nat) : State := s.advance (c - s.cycle)

/-- The first core cycle at which device time is `t` or later. -/
def State.cycleOfTime (s : State) (t : Nat) : Nat :=
  if t ≤ s.time then s.cycle else (s.cycle / 2 + ceilDiv (t - s.time) (max s.addend 1)) * 2

end Sys2Proof.Machine
end

