-- ==== Sys2Proof/Machine/Bounds.lean ====
section
/-! DEFINITION. What the express latency bound is made of (R345 to R355): the states of R87, the banks' sections and depths, port
registers, the bound terms, and the registers that show them; and R_FAB_EXP (R339, R346). -/

namespace Sys2Proof.Machine

/-! ### States of R87 and banks -/

def esNoEpoch : Nat := 0
def esIdle : Nat := 1
def esStaging : Nat := 2
def esStaged : Nat := 3
def esFailed : Nat := 4
def esArmed : Nat := 5
def esDraining : Nat := 6
def esExpired : Nat := 7
def esRetiring : Nat := 8

/-- TM.EPOCH.STATE.STATE (R87). -/
def State.epochState (s : State) : Nat := s.rf TM_EPOCH.STATE.STATE

/-- No bank is active: the state is NO_EPOCH, or a first staging or commit is under way (R75, R87). -/
def State.noEpoch (s : State) : Bool :=
  decide (s.epochState = esNoEpoch) || (s.ep.fromNone && decide (s.epochState ≤ esArmed))

/-- The inactive bank is in use: from arming until the old bank is retired (R35). -/
def State.bankInUse (s : State) : Bool := decide (esArmed ≤ s.epochState) && decide (s.epochState ≤ esRetiring)

/-- The content of bank `b`. -/
def State.bank (s : State) (b : Bool) : Bank := if b then s.bankB else s.bankA

/-- The content of the section of a type (R78); empty when the bank holds none. -/
def Bank.sec (b : Bank) (typ : Nat) : Bytes := ((b.secs.find? (fun x => decide (x.typ = typ))).map (·.data)).getD []

/-- Byte `i` of a byte list as a number; 0 beyond its end. -/
def byteAt (bs : Bytes) (i : Nat) : Nat := (bs[i]?.map (·.toNat)).getD 0

/-- `n` bytes from offset `o` as a little-endian number (R3). -/
def leAt (bs : Bytes) (o n : Nat) : Nat := leNat ((bs.drop o).take n)

/-- A PORT register field of port `p` (R235). -/
def State.pg (s : State) (f : Fld) (p : Nat) : Nat := s.rfp f (p / 8) (p % 8)

/-- The same as a Boolean. -/
def State.pgb (s : State) (f : Fld) (p : Nat) : Bool := decide (s.pg f p = 1)

/-- The port is enabled. -/
def State.portEnabled (s : State) (p : Nat) : Bool := s.pgb FE_PG.PORT_CFG.ENABLE p

/-- MAX_FRAME in force (R235). -/
def State.maxFrame (s : State) (p : Nat) : Nat :=
  let v := s.pg FE_PG.PORT_CFG.MAX_FRAME p
  if 64 ≤ v && v ≤ 16000 then v else 16000

/-- D_MAC_RX and D_MAC_TX of a speed (R236). -/
def macLat (speed : Nat) : Nat × Nat := [(281, 130), (181, 90), (131, 70), (106, 60), (98, 55)].getD speed (281, 130)

/-- Speed of a port in units of 100 Gbit/s. -/
def State.portRate (s : State) (p : Nat) : Nat := 2 ^ s.pg FE_PG.PORT_CFG.SPEED p

/-- DEPTH of a bank and direction. -/
def State.depthOf (s : State) (b egr : Bool) : Nat := if egr then (s.bank b).depthE else (s.bank b).depthI

/-- PAT_LOG and EXP_SLOTS of a SPRAY_PATTERN section (R274), and the slots of its pattern. -/
def sprayLog (d : Bytes) : Nat := bits (leAt d 0 4) 0 3
def sprayExp (d : Bytes) : Nat := bits (leAt d 0 4) 16 13
def sprayLen (d : Bytes) : Nat := 125 * 2 ^ sprayLog d

/-! ### Terms (R346, R347, R351, R352) -/

/-- D_FE_EG and D_FE_IG in 1/8 ns (R347): the depth in core cycles; outside IDLE the larger of the two banks'. -/
def State.depthEighths (s : State) (egr : Bool) : Nat :=
  let a := if s.noEpoch then 0 else s.depthOf s.activeBank egr
  let b := if s.epochState = esIdle || s.epochState = esNoEpoch then 0 else s.depthOf (!s.activeBank) egr
  max a b * 5

/-- MIN_LEN7 of an EXPRESS section (R354). -/
def minLenOf (d : Bytes) : Nat :=
  let v := leAt d 0 4 % 2 ^ 14
  if 64 ≤ v && v ≤ 16000 then v else 64

/-- F_WIRE of a shortest length, with 16 fraction bits, rounded up (R352, R355). -/
def fWire (m : Nat) : Nat := ceilDiv ((m + 20) * 65536) m

/-- F_CELL (R352): the ratio at M and at the first length 240k - 63 above it, the larger, rounded up. -/
def fCell (m : Nat) : Nat :=
  let next := ((m + 63) / 240 + 1) * 240 - 63
  let at_ := fun l => ceilDiv (240 * ceilDiv (l + 64) 240 * 65536) l
  max (at_ m) (at_ next)

/-- The links in IN_SERVICE of the device: N_LINKS_UP. -/
def State.nLinksUp (s : State) : Nat :=
  ((List.range 320).filter (fun n => decide (s.rfp TM_FLINK.LINK_STATUS.STATE (n / 32) (n % 32) = 0))).length

/-- R_FAB_EXP in Mbit/s (R339, R346); 0 in NO_EPOCH. -/
def State.rFabExp (s : State) : Nat :=
  if s.noEpoch then 0
  else
    let d := (s.bank s.activeBank).sec 0x0041
    sprayExp d * s.nLinksUp * 187500 / sprayLen d

/-- EXP_RATE exceeds what express slots carry (R344). -/
def State.expOver (s : State) : Bool := decide (s.rFabExp * 1000 < s.rf TM_SCHED.EXP_RATE.KBPS)

/-- D_TM_IG of ingress pipeline `i` (R351). (DEDUCED, log entry 28.) -/
def State.dTmIg (s : State) (i : Nat) : Nat :=
  let ps := ((List.range 16).map (16 * i + ·)).filter s.portEnabled
  210 + maxN (80 :: ps.map (fun p => ceilDiv (8 * s.maxFrame p) (100 * s.portRate p)))

/-- A value of an RWE field for the bound: outside IDLE the larger bank value (R347). -/
def State.largerBank (s : State) (f : Fld) : Nat :=
  let a := s.rfBank f s.activeBank 0
  if s.epochState = esIdle || s.epochState = esNoEpoch then a else max a (s.rfBank f (!s.activeBank) 0)

/-- B_BLOCK with the increases of R347 that the port's configuration allows (R355). -/
def State.bBlock (s : State) (p : Nat) : Nat :=
  s.pg FE_PG.HOLD.BLOCK_BYTES p + (if s.pg FE_PG.PFC_CFG.PFC_EN p = 0 then 0 else 84) +
    (if s.net.tx.any (fun e => e.2.valid && (decide (e.2.portA = p) || decide (e.2.portB = p))) then s.maxFrame p + 20 else 0)

/-- L_IG of ingress pipeline `i` (R346, R355); without a fabric rate the spec states no value. -/
def State.lIg (s : State) (i : Nat) : Nat :=
  let ps := ((List.range 16).map (16 * i + ·)).filter s.portEnabled
  let r := s.rFabExp
  if s.noEpoch || ps.isEmpty then 0
  else if r = 0 then (Config.boundNoRate i).toNat
  else
    let rx := maxN (ps.map (fun p => (macLat (s.pg FE_PG.PORT_CFG.SPEED p)).1))
    let whole := rx + 40 + s.dTmIg i + s.rf TM_GLOBAL.T_PAT.NS
    let num := 8 * s.rf TM_GLOBAL.F_CELL.FACTOR * s.rf TM_QUEUE.EXP_VOQ_LIM.BYTES * 1000
    let den := 65536 * r
    min (ceilDiv ((whole * 8 + s.depthEighths false) * den + num * 8) (den * 8)) (2 ^ 32 - 1)

/-- L_EG of port `p` (R346, R355). -/
def State.lEg (s : State) (p : Nat) : Nat :=
  if s.noEpoch || !s.portEnabled p then 0
  else
    let whole := s.largerBank TM_REORD.WINDOW_EXP.NS + 60 + 40 + (macLat (s.pg FE_PG.PORT_CFG.SPEED p)).2 + s.rfi TM_GATE.GMAX.NS p
    let num := 8 * (s.rf TM_QUEUE.EXP_QLIM.BYTES + s.bBlock p) * s.rf TM_GLOBAL.F_WIRE.FACTOR
    let den := 65536 * 100 * s.portRate p
    min (ceilDiv ((whole * 8 + s.depthEighths true) * den + num * 8) (den * 8)) (2 ^ 32 - 1)

/-- BOUND_STATUS takes up the bounds that now exceed their targets (R355). (DEDUCED, log entry 19.) -/
def State.latchBounds (s : State) : State :=
  let ig := s.rf TM_GLOBAL.TARGET_IG.NS
  let eg := s.rf TM_GLOBAL.TARGET_EG.NS
  let s := if ig ≠ 0 && (List.range 16).any (fun i => decide (ig < s.lIg i)) then s.wf TM_GLOBAL.BOUND_STATUS.IG_OVER 1 else s
  if eg ≠ 0 && (List.range 256).any (fun p => decide (eg < s.lEg p)) then s.wf TM_GLOBAL.BOUND_STATUS.EG_OVER 1 else s

/-- The registers that show the active bank's EXPRESS section and pattern length (R354, R355). -/
def State.showExpress (s : State) : State :=
  let b := s.bank s.activeBank
  let x := b.sec 0x0051
  let m := if s.noEpoch then 64 else minLenOf x
  let s := s.wf TM_GLOBAL.T_PAT.NS (if s.noEpoch then 0 else sprayLen (b.sec 0x0041) * 1024 / 100)
  let s := ((s.wf TM_GLOBAL.MIN_LEN7.BYTES m).wf TM_GLOBAL.F_WIRE.FACTOR (fWire m)).wf TM_GLOBAL.F_CELL.FACTOR (fCell m)
  let s := (s.wf TM_GLOBAL.TARGET_IG.NS (if s.noEpoch then 0 else leAt x 4 4)).wf TM_GLOBAL.TARGET_EG.NS (if s.noEpoch then 0 else leAt x 8 4)
  s.latchBounds

end Sys2Proof.Machine
end

