-- ==== Sys2Proof/Machine/Ops.lean ====
section
/-! DEFINITION. The named operations every unit uses: timers, interrupt causes (R68 to R70), events and the fault log
(R378 to R395), and host writes (R514). -/

namespace Sys2Proof.Machine

/-! ### Timers -/

/-- The deadline of a running timer. -/
def State.timerAt (s : State) (k : TimerKind) (i : Nat) : Option Nat :=
  (s.timers.find? (fun t => decide (t.kind = k) && decide (t.idx = i))).map (·.deadline)

/-- The timer runs. (DESIGN CHOICE, log entry 2.) -/
def State.armed (s : State) (k : TimerKind) (i : Nat) : Bool := (s.timerAt k i).isSome

/-- The timer stopped. -/
def State.disarm (s : State) (k : TimerKind) (i : Nat) : State :=
  { s with timers := s.timers.filter (fun t => !(decide (t.kind = k) && decide (t.idx = i))) }

/-- The timer started afresh with a deadline in core cycles. -/
def State.armAt (s : State) (k : TimerKind) (i deadline : Nat) : State :=
  let s := s.disarm k i
  { s with timers := s.timers ++ [⟨k, i, deadline⟩] }

/-- The timer started afresh to run for `n` core cycles. (DESIGN CHOICE, log entry 2.) -/
def State.arm (s : State) (k : TimerKind) (i n : Nat) : State := s.armAt k i (s.cycle + n)

/-- Every timer of a kind stopped. -/
def State.disarmAll (s : State) (k : TimerKind) : State :=
  { s with timers := s.timers.filter (fun t => !decide (t.kind = k)) }

/-- The timer expires: when it runs, the clock stands at its deadline or later and the timer has stopped. None when it
does not run. (DESIGN CHOICE, log entry 2.) -/
def State.expire (s : State) (k : TimerKind) (i : Nat) : Option State :=
  (s.timerAt k i).map (fun d => (s.advanceTo d).disarm k i)

/-- `n` discards of a Doldrums entry (R458 step 3). -/
def State.doldDrop (s : State) (n : Nat) : State := s.sat TM_PWR.DOLD_DROP.COUNT 0 0 n

/-! ### Outputs -/

/-- An output, newest first. (DESIGN CHOICE, log entry 27.) -/
def State.emit (s : State) (o : Out) : State := { s with out := o :: s.out }

/-- A posted write can be sent (R514): Bus Master Enable is 1 and the data link layer is up. -/
def State.canPost (s : State) : Bool := s.hc.bme && s.rfb TM_PCIE.LINK_STATUS.LINK_UP

/-- A posted write to host memory; `bad` is an uncorrectable error found on its way out. True when it was sent (R514).
(DESIGN CHOICE, log entry 27.) -/
def State.post (s : State) (bad : Bool) (addr : Nat) (data : Bytes) : Bool × State :=
  if s.canPost && !bad then (true, s.emit (.hostWrite addr data)) else (false, s)

/-- A posted write of packet data to a host buffer (R39): Relaxed Ordering and No Snoop as Device Control enables them. -/
def State.postPkt (s : State) (bad : Bool) (addr : Nat) (data : Bytes) : Bool × State :=
  if s.canPost && !bad then (true, s.emit (.packetWrite addr data (bit s.hc.pci.devCtl 4) (bit s.hc.pci.devCtl 11))) else (false, s)

/-- Posted writes in order, stopping at the first that fails. (DESIGN CHOICE, log entry 27.) -/
def State.postAll (s : State) (bad : Bool) : List (Nat × Bytes) → Bool × State
  | [] => (true, s)
  | (a, d) :: ws =>
    let (ok, s') := s.post bad a d
    if ok then s'.postAll bad ws else (false, s')

/-! ### Interrupt causes (R68 to R70) -/

/-- An MSI-X vector after reset: masked, as the PCI Express specification has it. -/
def MsixVec.reset : MsixVec := ⟨0, 0, true, false⟩

/-- Something holds the message of a cause back (R70). -/
def State.irqBlocked (s : State) (v : Nat) : Bool :=
  !s.irq.enable || s.irq.fnMask || (SMap.get MsixVec.reset s.irq.vecs v).masked || s.hc.d3hot

/-- Cause `n` fires (R70): an enabled cause sends its message, or sets PEND and its vector's PBA bit while blocked; while PEND is 1
a firing merges into the message that waits. -/
def State.causeFire (s : State) (n : Nat) : State :=
  if s.rfi TM_MSIX.CAUSE_MAP.ENABLE n = 0 || s.rfi TM_MSIX.CAUSE_MAP.PEND n = 1 then s
  else
    let v := s.rfi TM_MSIX.CAUSE_MAP.VECTOR n
    if s.irqBlocked v then
      let s := s.wfi TM_MSIX.CAUSE_MAP.PEND n 1
      { s with irq := { s.irq with vecs := SMap.upd MsixVec.reset s.irq.vecs v (fun x => { x with pba := true }) } }
    else s.emit (.msix v)

/-- A ring cause counts one unsignalled item: it fires at `count` items (0 acts as 1), and its timer of `us` starts with
the first (R45, R70). -/
def State.coalesce (s : State) (n count us : Nat) : State :=
  let c := SMap.get 0 s.irq.coal n + 1
  if orWhenZero count 1 ≤ c then
    let s := { s with irq := { s.irq with coal := SMap.put 0 s.irq.coal n 0 } }
    (s.disarm .coal n).causeFire n
  else
    let s := { s with irq := { s.irq with coal := SMap.put 0 s.irq.coal n c } }
    if c = 1 && us ≠ 0 then s.arm .coal n (us * cyUs) else s

/-! ### Events -/

/-- Severity programmed for source `n` (R31). -/
def PageHdr.sevOf (h : PageHdr) (n : Nat) : Nat := bits h.sev (2 * n) 2
/-- Action programmed for source `n` (R31). -/
def PageHdr.actOf (h : PageHdr) (n : Nat) : Nat := bits h.act (4 * n) 4

/-- The reaction of an event (R380): values 6 and 7 act as 1, FENCE on a page that cannot be fenced and BLOCK_RESET on a
page that cannot take SOFT_RESET act as 1; on FE.D2D BRIDGE_DOWN neither can be taken (R398). -/
def reaction (P act : Nat) : Nat :=
  let r := act % 8
  if 6 ≤ r then 1
  else if r = 3 && !fenceable P then 1
  else if r = 4 && softResetDiscarded P then 1
  else r

/-- ERR_N is asserted (R395): an enabled source whose action has bit 3 set has its latch set, FORCE, BD_LATCH with bit 3
of the copy (R398), or WAKE_FAIL. -/
def State.errN (s : State) : Bool :=
  s.hdrs.any (fun e => (List.range 32).any (fun n => bit e.2.latch n && bit e.2.evtEn n && bit (e.2.actOf n) 3)) ||
    decide (s.rf TM_FAULT.ERR_CTRL.FORCE = 1) || decide (s.rf TM_PWR.STATE.WAKE_FAIL = 1) ||
    (decide (s.rf TM_FAULT.STATUS.BD_LATCH = 1) && bit ((s.hdr 78).evtEn) 4 && bit ((s.hdr 78).actOf 4) 3)

/-- A record is protected (R388). -/
def LogRec.isProtected (r : LogRec) : Bool :=
  decide (r.sev = 3) || decide (r.kind = .squallStart) || decide (r.kind = .squallEnd) || decide (r.kind = .orderBreak)

/-- Summary counter of a source (R391). -/
def SumCtr.zero : SumCtr := ⟨0, 0, 0, 0⟩

/-- An event folded into its source's summary counter (R391); one that comes out of the ring is older than those folded before it
(R388). -/
def State.foldEvent (s : State) (r : LogRec) : State :=
  let k := r.page * 32 + r.src
  let c := SMap.get SumCtr.zero s.log.sums k
  let c' : SumCtr := if c.count = 0 then ⟨1, r.time, r.time, r.cause⟩
    else ⟨satAdd 32 c.count 1, min c.firstTime r.time, max c.lastTime r.time, if c.lastTime ≤ r.time then r.cause else c.lastCause⟩
  let s := { s with log := { s.log with sums := SMap.put SumCtr.zero s.log.sums k c', episode := satAdd 32 s.log.episode 1 } }
  s.sat1 TM_LOG.FOLDED.COUNT

/-- SQUALL_ENTER in force (R391). -/
def State.squallEnterThr (s : State) : Nat :=
  let v := s.rf TM_LOG.SQUALL_CTRL.ENTER
  if 1024 ≤ v && v ≤ 7680 then v else 6144

/-- SQUALL_EXIT in force (R391). -/
def State.squallExitThr (s : State) : Nat :=
  let v := s.rf TM_LOG.SQUALL_CTRL.EXIT
  if v < s.squallEnterThr then v else s.squallEnterThr - 1

/-- A record written into the device ring: it takes the next SEQ (R384). -/
def State.ringPush (s : State) (r : LogRec) : State :=
  let q := s.rf TM_LOG.SEQ_NEXT.SEQ
  let s := { s with log := { s.log with ring := s.log.ring ++ [{ r with seq := q }] } }
  s.wf TM_LOG.SEQ_NEXT.SEQ (q + 1)

/-- The ring without its most recent ordinary record, and that record (R388). -/
def dropLastOrdinary (ring : List LogRec) : Option (List LogRec × LogRec) :=
  match firstIdx (fun r => !r.isProtected) ring.reverse with
  | none => none
  | some i =>
    let j := ring.length - 1 - i
    (ring[j]?).map (fun r => (ring.take j ++ ring.drop (j + 1), r))

/-- A record replaced by a protected one returns to its source's counter (R388): an EVENT is folded, a SUMMARY gives its
count back. -/
def State.unrecord (s : State) (r : LogRec) : State :=
  match r.kind with
  | .summary =>
    let k := r.page * 32 + r.src
    let c := SMap.get SumCtr.zero s.log.sums k
    let c' : SumCtr :=
      ⟨satAdd 32 c.count r.d0, r.time, if c.count = 0 then r.time / 2 ^ 32 * 2 ^ 32 + r.d1 else c.lastTime,
        if c.count = 0 then r.cause else c.lastCause⟩
    { s with log := { s.log with sums := SMap.put SumCtr.zero s.log.sums k c' } }
  | _ => s.foldEvent r

/-- A record meets the device ring (R388): what it asks to be raised in turn is the second component. -/
def State.admitRec (s : State) (r : LogRec) : State × List Raise :=
  let n := s.log.ring.length
  let squall := s.rfb TM_LOG.SQUALL_STATUS.ACTIVE
  let enter := fun (s : State) =>
    if !squall && s.squallEnterThr ≤ s.log.ring.length then
      let occ := s.log.ring.length
      let s := { s with log := { s.log with episode := 0 } }
      let s := (s.wf TM_LOG.SQUALL_STATUS.ACTIVE 1).wf TM_LOG.SQUALL_STATUS.WINDOWS 0
      let s := if occ < 8192 then
          s.ringPush ⟨4177, 0, s.hdr 4177 |>.sevOf 0, s.hdr 4177 |>.actOf 0, 0, .squallStart, false, 0, s.time80, occ, s.rf TM_LOG.SQUALL_WINDOW.MS⟩
        else s
      let s := s.arm .squall 0 (orWhenZero (s.rf TM_LOG.SQUALL_WINDOW.MS) 1 * cyMs)
      (s, [⟨4177, 0, 0, occ, 0⟩])
    else (s, [])
  let mark := fun (s : State) =>
    if r.kind = .orderBreak then
      { s with acts := s.acts.map (fun a =>
          if a.page = r.page && decide (a.fence = decide (r.cause = 2)) then { a with admitted := true } else a) }
    else s
  if r.isProtected then
    if n < 8192 then enter (mark (s.ringPush r))
    else
      match dropLastOrdinary s.log.ring with
      | some (ring', old) =>
        let s := { s with log := { s.log with ring := ring' } }
        let s := (s.unrecord old).sat1 TM_LOG.REPLACED.COUNT
        enter (mark (s.ringPush r))
      | none =>
        (s.sat1 TM_LOG.CRIT_OVF.COUNT, [⟨4177, 3, 0, r.page % 4096 + r.page / 4096 * 4096 + r.src * 8192, 0⟩])
  else if squall || 7680 ≤ n then (s.foldEvent r, [])
  else enter (s.ringPush r)

/-- A lost event of page `P` (R33). -/
def PageHdr.loseEvent (h : PageHdr) : PageHdr :=
  if h.lostCount = 65535 then { h with lostOvf := true } else { h with lostCount := h.lostCount + 1 }

/-- A record leaves its page for the collector: TM records meet the ring at once, FE records enter the forwarding buffer
of 256, where a record that finds it full is lost (R383, R385). -/
def State.sendRec (s : State) (r : LogRec) : State × List Raise :=
  if 4096 ≤ r.page then s.admitRec r
  else if s.log.fwd.length < 256 then ({ s with log := { s.log with fwd := s.log.fwd ++ [r] } }, [])
  else ((s.updHdr 79 PageHdr.loseEvent).perf 79 6 1, [])

/-- ALIVE stops with a cause (R392): STATE STOPPED, and ALIVE_STOPPED is to be raised. -/
def State.aliveStop (s : State) (cause : Nat) : State × List Raise :=
  if s.rf TM_FAULT.ALIVE_STATUS.STATE = 2 then (s, [])
  else ((s.wf TM_FAULT.ALIVE_STATUS.STATE 2).wf TM_FAULT.ALIVE_STATUS.CAUSE cause, [⟨4176, 1, cause, 0, 0⟩])

/-- DETAIL1 of the marker of a BLOCK reset of page `P` (R409): SUSPENDED mask and BULK. -/
def State.resetMask (s : State) (P : Nat) : Nat :=
  if P = 75 then 0x01
  else if P = 4105 then
    if s.hc.cmds.isEmpty && (List.range 64).all (fun n => decide (s.rfi TM_HCMD.RING_CTRL.ENABLE n = 0)) &&
        decide (s.rf TM_HCMD.DRES_CTRL.BUSY = 0) then 0 else 0x02
  else if P = 4147 then 0x49
  else if [4146, 4149, 4150, 4155].contains P then 0x48
  else 0

/-- Fabric link `n` is no longer IN_SERVICE: its state is WITHDRAWN and its slots stand with their alternates (R260, R278). -/
def State.linkOut (s : State) (n : Nat) : State :=
  if s.rfp TM_FLINK.LINK_STATUS.STATE (n / 32) (n % 32) = 0 then
    let s := s.wfp TM_FLINK.LINK_STATUS.STATE (n / 32) (n % 32) 1
    let s := s.wfp TM_FLINK.LINKS_UP.COUNT (n / 32) 0 (s.rfp TM_FLINK.LINKS_UP.COUNT (n / 32) 0 - 1)
    ({ s with fab := { s.fab with away := if s.fab.away.contains n then s.fab.away else s.fab.away ++ [n] } } : State).latchBounds
  else s

/-- EXP_CAPACITY is to be raised when EXP_RATE comes to exceed R_FAB_EXP (R344). -/
def State.capRaise (s : State) (before : Bool) : List Raise :=
  if !before && s.expOver then [⟨4151, 2, 0, s.rf TM_SCHED.EXP_RATE.KBPS / 1000, s.rFabExp⟩] else []

/-- The fabric links of a FLINK or SDF page (R241). -/
def pageLinks (P : Nat) : List Nat :=
  if 4136 ≤ P ∧ P < 4146 then (List.range 32).map (fun k => (P - 4136) * 32 + k)
  else if 4112 ≤ P ∧ P < 4132 then (List.range 16).map (fun k => (P - 4112) * 16 + k) else []

/-- A fence of page `P` starts (R382): FENCED sets, and the links of a fenced FLINK or SDF page leave IN_SERVICE. A fenced
controller is DOWN (R371) and the effects of the other pages are read from FENCED where they act. -/
def State.fenceStart (s : State) (P : Nat) : State :=
  let s := s.updHdr P (fun h => { h with fenced := true })
  (pageLinks P).foldl (fun s n => s.linkOut n) s

/-- A non-maskable interrupt to the management controller; it is held while that is in reset (R380, R475). -/
def State.nmi (s : State) (P src : Nat) : State :=
  if s.inReset 4102 then { s with mc := { s.mc with nmis := s.mc.nmis ++ [(P, src)] } } else s.emit (.nmi P src)

/-- A reset of page `P`, or its fence, waits for its marker (R407). -/
def State.actWaits (s : State) (P : Nat) (fence : Bool) : Bool :=
  s.acts.any (fun a => decide (a.page = P) && decide (a.fence = fence))

/-- One core cycle's events of one page (R31 to R33, R380, R383): latches, capture, records, and the single reaction. The
second component lists what must be raised in turn. -/
def State.raisePage (s : State) (P : Nat) (forced : Bool) (evs : List Raise) : State × List Raise :=
  let evs := (List.range 32).filterMap (fun n => evs.find? (fun e => decide (e.src = n) && srcImplemented P n))
  let s := s.updHdr P (fun h => { h with latch := evs.foldl (fun a e => a ||| 2 ^ e.src) h.latch })
  let h := s.hdr P
  let en := evs.filter (fun e => bit h.evtEn e.src)
  if en.isEmpty then (s, [])
  else
    let s := en.foldl (fun s e => s.inc TM_FAULT.SEV_CNT.COUNT 0 (h.sevOf e.src) 1) s
    let s := s.perf P 5 en.length
    -- capture: the lowest source when the capture is empty; every other event counts as lost
    let cap := if h.capValid then none else en.head?
    let s := match cap with
      | some e => s.updHdr P (fun h =>
          { h with capValid := true, capSource := e.src, capCause := e.cause % 256, capForced := forced,
                   capTime := s.timeNs, capD0 := e.d0 % 2 ^ 32, capD1 := e.d1 % 2 ^ 32 })
      | none => s
    let lost := en.length - (if cap.isSome then 1 else 0)
    let s := (s.updHdr P (fun h => (List.range lost).foldl (fun h _ => h.loseEvent) h)).perf P 6 lost
    -- the single reaction of the page: the largest value, the lowest source on equal values
    let best := en.foldl (fun b e => if reaction P (h.actOf b.src) < reaction P (h.actOf e.src) then e else b)
      (en.headD ⟨P, 0, 0, 0, 0⟩)
    let r := reaction P (h.actOf best.src)
    let fenceNow := decide (r = 3) && !h.fenced && !s.actWaits P true
    let resetNow := decide (r = 4) && !h.inReset && !s.actWaits P false
    let seq := s.rf TM_EPOCH.EPOCH_SEQ.SEQ
    let rec1 := fun (e : Raise) (k : RecKind) (cause d0 d1 : Nat) =>
      (⟨P, e.src, h.sevOf e.src, h.actOf e.src, cause % 256, k, forced, 0, s.time80, d0 % 2 ^ 32, d1 % 2 ^ 32⟩ : LogRec)
    let markers :=
      (if decide (P = 4099) && en.any (fun e => decide (e.src = 2)) then
        (en.filter (fun e => decide (e.src = 2))).map (fun e =>
          rec1 e .orderBreak 3 (if s.activeBank then s.rf TM_EPOCH.BANK_SEQ_A.SEQ else s.rf TM_EPOCH.BANK_SEQ_B.SEQ) 0x48)
       else []) ++
      (if fenceNow && decide (P = 75) then [rec1 best .orderBreak 2 seq 0x01] else []) ++
      (if resetNow then [rec1 best .orderBreak 1 seq (s.resetMask P)] else [])
    let s := if fenceNow && decide (P = 75) then
        { s with acts := s.acts ++ [⟨true, P, false, s.cycle + 5 * cyUs⟩] } else s
    let s := if resetNow then { s with acts := s.acts ++ [⟨false, P, false, s.cycle + 5 * cyUs⟩] } else s
    let recs := markers ++ (match cap with
      | some e => [rec1 e .event e.cause e.d0 e.d1]
      | none => [])
    let (s, nest) := recs.foldl (fun (a : State × List Raise) r => let (s', n) := a.1.sendRec r; (s', a.2 ++ n)) (s, [])
    let nest := if fenceNow && decide (4160 ≤ P) && decide (P < 4176) then
        nest ++ [⟨P, 4, 0, P - 4160, s.rfp TM_DMC.STATUS.STATE (P - 4160) 0⟩] else nest
    let was := s.expOver
    let s := if fenceNow && !decide (P = 75) then s.fenceStart P else s
    let nest := if fenceNow then nest ++ s.capRaise was else nest
    let s := if r = 1 || r = 3 || r = 4 then s.causeFire (256 + P / 4096 * 256 + P % 256) else s
    let s := if r = 2 then s.nmi P best.src else s
    let s := if r = 5 then
        (((s.wf TM_FAULT.LAST_CHIP_RESET.PAGE (P % 4096)).wf TM_FAULT.LAST_CHIP_RESET.DIE (P / 4096)).wf
          TM_FAULT.LAST_CHIP_RESET.SOURCE best.src).wf TM_FAULT.LAST_CHIP_RESET.VALID 1 else s
    let s := if r = 5 then { s with chipReq := true } else s
    -- an enabled CRITICAL event stops ALIVE
    if en.any (fun e => decide (h.sevOf e.src = 3)) then
      let (s, n2) := s.aliveStop 1
      (s, nest ++ n2)
    else (s, nest)

/-- Events of one page in one core cycle and what they raise in turn, to the given depth. -/
def State.raiseDepth : Nat → State → Nat → Bool → List Raise → State
  | 0, s, _, _, _ => s
  | d + 1, s, P, forced, evs =>
    let (s', nest) := s.raisePage P forced evs
    nest.foldl (fun s e => s.raiseDepth d e.page false [e]) s'

/-- One event of a page instance is raised with its cause and details. -/
def State.raise (s : State) (e : Evt) (p cause d0 d1 : Nat) : State :=
  s.raiseDepth 4 (e.page + p) false [⟨e.page + p, e.src, cause, d0, d1⟩]

/-- EXP_CAPACITY after a change of its terms; `before` that EXP_RATE exceeded R_FAB_EXP already (R344). -/
def State.capCheck (s : State) (before : Bool) : State :=
  (s.capRaise before).foldl (fun s e => s.raiseDepth 4 e.page false [e]) s

/-- A 32-bit value the spec leaves open: the next free value. (DESIGN CHOICE, log entry 7.) -/
def State.freeVal (s : State) : Nat × State :=
  ((Config.freeWord s.freeCtr).toNat, { s with freeCtr := s.freeCtr + 1 })

/-- `x` where the spec states it, a free value where it does not. (DESIGN CHOICE, log entry 7.) -/
def State.orFree (s : State) (x : Option Nat) : Nat × State :=
  match x with
  | some v => (v, s)
  | none => s.freeVal

/-- One event is raised whose cause or details the spec does not all state: those are free values.
(DESIGN CHOICE, log entry 7.) -/
def State.raiseO (s : State) (e : Evt) (p : Nat) (cause d0 d1 : Option Nat) : State :=
  let (c, s) := s.orFree cause
  let (a, s) := s.orFree d0
  let (b, s) := s.orFree d1
  s.raise e p c a b

/-- Events of one page in one core cycle (R33), each with its source, cause and details; a `none` is a free value.
(DESIGN CHOICE, log entry 7.) -/
def State.raiseBatch (s : State) (P : Nat) (es : List (Evt × Option Nat × Option Nat × Option Nat)) : State :=
  let x := es.foldl (fun (a : List Raise × State) e =>
    let (c, s) := a.2.orFree e.2.1
    let (d0, s) := s.orFree e.2.2.1
    let (d1, s) := s.orFree e.2.2.2
    (a.1 ++ [(⟨P, e.1.src, c, d0, d1⟩ : Raise)], s)) (([], s) : List Raise × State)
  x.2.raiseDepth 4 P false x.1

/-- ACCESS_ERR of page `P` (R23, R33): the offset of the access and the data written. -/
def State.accessErr (s : State) (P cause off data : Nat) : State :=
  s.raiseDepth 4 P false [⟨P, 31, cause, off, data⟩]

/-- An access to a page position that is not assigned (R23): ACCESS_ERR of the die's GLOBAL page. -/
def State.unassigned (s : State) (P off data : Nat) : State := s.accessErr (globalPage P) 3 (P * 4096 + off) data

/-- A command that is the write of an RWL field of a single page (R36): `data` is the register word written and `v` the field's
value in it. On a locked page it is discarded, with LOCKED where the value differs from the field's. -/
def State.rwlWrite (s : State) (f : Fld) (data v : Nat) (op : State → State) : State :=
  if (s.hdr f.page).lock then
    (if v % 2 ^ f.w ≠ s.rf f then s.accessErr f.page 4 (f.page * 4096 + f.off) data else s)
  else op s

end Sys2Proof.Machine
end

