-- ==== Sys2Proof/Machine/HostOps.lean ====
section
/-! DEFINITION. Shared operations of the host interface: commands in flight, their order and completion (R45 to R60,
R411), the rings of records that several pages write in host memory (R338), and the doorbells' range checks (R47,
R51). -/

namespace Sys2Proof.Machine

/-! ### Commands in flight -/

/-- The command in flight with fetch number `id`. -/
def State.cmd (s : State) (id : Nat) : Option Cmd := s.hc.cmds.find? (fun c => decide (c.id = id))

/-- The command in flight `id` replaced by `f` of it. -/
def State.updCmd (s : State) (id : Nat) (f : Cmd → Cmd) : State :=
  { s with hc := { s.hc with cmds := s.hc.cmds.map (fun c => if c.id = id then f c else c) } }

/-- The command `id` leaves the list: its completion has been written, or is lost. -/
def State.dropCmd (s : State) (id : Nat) : State :=
  { s with hc := { s.hc with cmds := s.hc.cmds.filter (fun c => !decide (c.id = id)) } }

/-- Commands of ring `n` in flight (RING_STATUS.INFLIGHT). -/
def State.inflight (s : State) (n : Nat) : Nat := (s.hc.cmds.filter (fun c => decide (c.ring = some n) && !c.orphan)).length

/-- Commands in flight device-wide (HCMD_STATUS.INFLIGHT). -/
def State.inflightAll (s : State) : Nat := (s.hc.cmds.filter (fun c => !c.orphan)).length

/-- RING_STATUS.ACTIVE: enabled, or disabled with commands in flight (R45). -/
def State.ringActive (s : State) (n : Nat) : Bool :=
  decide (s.rfi TM_HCMD.RING_CTRL.ENABLE n = 1) || decide (0 < s.inflight n)

/-- Entries of ring `n`. -/
def State.ringSize (s : State) (n : Nat) : Nat := 2 ^ s.rfi TM_HCMD.RING_CTRL.LOG2_SIZE n

/-- SQ_TAIL of ring `n` in force (R44). -/
def State.sqTail (s : State) (n : Nat) : Nat := SMap.get 0 s.hc.sqTail n
/-- CQ_HEAD of ring `n` in force (R44). -/
def State.cqHead (s : State) (n : Nat) : Nat := SMap.get 0 s.hc.cqHead n

/-- The completion ring of ring `n` is full (R51). -/
def State.cqFull (s : State) (n : Nat) : Bool :=
  decide ((s.rfi TM_HCMD.CQ_STATUS.CQ_TAIL n + 1) % s.ringSize n = s.cqHead n)

/-- The pages that execute an opcode (R56, R59): EPOCH_STAGE is executed by both ALM pages together. -/
def opcodePages (op : Nat) : List Nat :=
  if op = 0x01 then [4105]
  else if 0x10 ≤ op && op ≤ 0x17 then [68]
  else if 0x20 ≤ op && op ≤ 0x23 then [4148]
  else if op = 0x30 then [4, 4100]
  else if 0x31 ≤ op && op ≤ 0x33 then [4099]
  else if 0x40 ≤ op && op ≤ 0x42 then [72]
  else if op = 0x50 then [4178]
  else if op = 0x60 || op = 0x61 then [4102]
  else []

/-- The opcode stands in the table of R56. -/
def opcodeKnown (op : Nat) : Bool := !(opcodePages op).isEmpty

/-- Command `c` may start: it is fetched, no command of its ring that R53 or R54 puts before it is still in flight (one whose fetch
read has not returned may be of its key or a fence), and no page that executes it is in reset (R59); a page with ENABLE 0 is idle (R29), HCMD itself included. The direct slot ignores the order (R60). -/
def State.mayStart (s : State) (c : Cmd) : Bool :=
  decide (c.phase = .fetched) &&
  (match c.ring with
   | none => true
   | some n =>
     !s.hc.cmds.any (fun d => decide (d.ring = some n) && decide (d.id < c.id) && !d.orphan &&
       (c.fence || d.fence || decide (d.phase = .fetching) || (decide (c.key ≠ 0) && decide (d.key = c.key))))) &&
  s.operating 4105 && (opcodePages c.opcode).all (fun P => (s.hdr P).enable && !s.inReset P)

/-- The command of a row: command `id` when it may start and its opcode satisfies `p`. -/
def State.startable (s : State) (id : Nat) (p : Nat → Bool) : Option Cmd :=
  (s.cmd id).bind (fun c => if s.mayStart c && p c.opcode then some c else none)

/-- A completion entry (R50) as a number. -/
def completionWord (tag status phase sqHead detail epochSeq result : Nat) : Nat :=
  tag % 2 ^ 16 + status % 2 ^ 8 * 2 ^ 16 + phase % 2 * 2 ^ 31 + sqHead % 2 ^ 16 * 2 ^ 32 + detail % 2 ^ 16 * 2 ^ 48 +
    epochSeq % 2 ^ 32 * 2 ^ 64 + result % 2 ^ 160 * 2 ^ 96

/-- STATUS codes (R57). -/
def stOK : Nat := 0x00
def stNotFound : Nat := 0x01
def stExists : Nat := 0x02
def stNeedRehash : Nat := 0x03
def stStaleHandle : Nat := 0x04
def stLocked : Nat := 0x05
def stEccFail : Nat := 0x06
def stEpochBusy : Nat := 0x07
def stDenied : Nat := 0x08
def stInvalid : Nat := 0x09
def stAborted : Nat := 0x0A
def stTimeout : Nat := 0x0B
def stCasFail : Nat := 0x0C

/-- A completion that is never written counts in LOST_CPL (R42, R514). -/
def State.loseCpl (s : State) : State := s.sat TM_HCMD.HCMD_STATUS.LOST_CPL 0 0 1

/-- Command `id` finishes with a status, a detail, a result and result buffers to write (R50, R51). A ring command waits
for its completion to be written; the direct command completes into DRES (R60), with SQ_HEAD 0 since the slot has no ring (DESIGN
CHOICE, log entry 31); an orphan's completion is lost (R42). -/
def State.finish (s : State) (id status detail result : Nat) (bufs : List (Nat × Bytes)) : State :=
  match s.cmd id with
  | none => s
  | some c =>
    let seq := c.effSeq.getD (s.rf TM_EPOCH.EPOCH_SEQ.SEQ)
    if c.orphan then s.dropCmd id
    else
      match c.ring with
      | some _ =>
        let k := s.hc.nextFin
        let s := { s with hc := { s.hc with nextFin := k + 1 } }
        s.updCmd id (fun c => { c with
          phase := .finished, status := status, detail := detail, epochSeq := seq, result := result, bufs := bufs, finSeq := k })
      | none =>
        let (_, s) := s.postAll false bufs
        let w := completionWord (c.bits 16 16) status 1 0 detail seq result
        let s := (List.range 8).foldl (fun s k => s.wfi TM_HCMD.DRES.WORD k (bits w (32 * k) 32)) s
        ((s.wf TM_HCMD.DRES_CTRL.VALID 1).wf TM_HCMD.DRES_CTRL.BUSY 0).dropCmd id

/-- The effect of command `id` takes hold under the present EPOCH_SEQ, which its completion will hold (R50). -/
def State.tookEffect (s : State) (id : Nat) : State :=
  s.updCmd id (fun c => { c with effSeq := some (s.rf TM_EPOCH.EPOCH_SEQ.SEQ) })

/-- Command `id` finishes without result buffers. -/
def State.finishR (s : State) (id status detail result : Nat) : State := s.finish id status detail result []

/-- Command `id` begins its execution. -/
def State.begin (s : State) (id : Nat) : State := s.updCmd id (fun c => { c with phase := .begun })

/-- The commands R411 aborts behind command `c`: the same ring and the same nonzero key, fetched later, not finished. -/
def State.abortFollowers (s : State) (c : Cmd) : List Nat :=
  if c.key = 0 then []
  else (s.hc.cmds.filter (fun d => decide (c.ring.isSome) && decide (d.ring = c.ring) && decide (d.key = c.key) &&
    decide (c.id < d.id) && decide (d.phase = .fetched) && !d.orphan)).map (·.id)

/-- Command `id` completes ABORTED by a reset, and the commands R411 puts behind it with it, in fetch order, without effect. -/
def State.abortCmd (s : State) (id : Nat) : State :=
  match s.cmd id with
  | none => s
  | some c =>
    let fs := s.abortFollowers c
    ((id :: fs).foldl (fun s k => s.finishR k stAborted 0 0) s).updCmd id (fun c => { c with byReset := true })

/-- Command `c` is in execution (R59): it has begun; or its row does all its work in one step, and a reset finds it before that: a
CHAN_DESTROY that may start and has not reached its step 1 (R298), and the one command Helri is at work on, the earliest of its own
that may start. (DEDUCED, log entry 20.) -/
def State.executing (s : State) (c : Cmd) : Bool :=
  decide (c.phase = .begun) || (decide (c.opcode = 0x21) && s.mayStart c) ||
    decide ((s.hc.cmds.find? (fun d => (decide (d.opcode = 0x60) || decide (d.opcode = 0x61)) && s.mayStart d)).map (·.id) = some c.id)

/-- Every command in execution on page `P` completes ABORTED (R59, R409). -/
def State.abortBlock (s : State) (P : Nat) : State :=
  let ids := (s.hc.cmds.filter (fun c => (opcodePages c.opcode).contains P && s.executing c)).map (·.id)
  ids.foldl (fun s id => s.abortCmd id) s

/-- The doorbell check of R47: a tail of the ring's size or more is out of range. -/
def tailInRange (log2 tail : Nat) : Bool := decide (tail < 2 ^ log2)

/-- The head check of R51: in range, and not beyond the entries written, counting from the head in force. -/
def headOk (size head tail new : Nat) : Bool :=
  decide (new < size) && decide ((new + size - head) % size ≤ (tail + size - head) % size)

/-! ### Rings of records in host memory (R338) -/

/-- The registers of a record ring: base, size, enable, coalescing, tail, phase, head; its interrupt cause and record
size in bytes. -/
structure RecRing where
  baseLo : Fld
  baseHi : Fld
  log2 : Fld
  enable : Fld
  coalCount : Fld
  coalUs : Fld
  tail : Fld
  phase : Fld
  head : Fld
  cause : Nat
  size : Nat

/-- The sample ring (R337, R343). -/
def sampleRing : RecRing :=
  ⟨TM_SAMPLE.RING_BASE_LO.ADDR, TM_SAMPLE.RING_BASE_HI.ADDR, TM_SAMPLE.RING_CTRL.LOG2_SIZE, TM_SAMPLE.RING_CTRL.ENABLE,
   TM_SAMPLE.RING_CTRL.COAL_COUNT, TM_SAMPLE.RING_CTRL.COAL_TIME_US, TM_SAMPLE.RING_STATUS.TAIL,
   TM_SAMPLE.RING_STATUS.PHASE, TM_SAMPLE.RING_HEAD.HEAD, 193, 32⟩

/-- The fault-log ring (R390, R402). -/
def logRing : RecRing :=
  ⟨TM_LOG.RING_BASE_LO.ADDR, TM_LOG.RING_BASE_HI.ADDR, TM_LOG.RING_CTRL.LOG2_SIZE, TM_LOG.RING_CTRL.ENABLE,
   TM_LOG.RING_CTRL.COAL_COUNT, TM_LOG.RING_CTRL.COAL_TIME_US, TM_LOG.RING_STATUS.TAIL,
   TM_LOG.RING_STATUS.PHASE, TM_LOG.RING_HEAD.HEAD, 192, 32⟩

/-- The FE trace ring (R426, R428). -/
def feTraceRing : RecRing :=
  ⟨FE_TRACE.RING_BASE_LO.ADDR, FE_TRACE.RING_BASE_HI.ADDR, FE_TRACE.RING_CTRL.LOG2_SIZE, FE_TRACE.RING_CTRL.ENABLE,
   FE_TRACE.RING_CTRL.COAL_COUNT, FE_TRACE.RING_CTRL.COAL_TIME_US, FE_TRACE.RING_STATUS.TAIL,
   FE_TRACE.RING_STATUS.PHASE, FE_TRACE.RING_HEAD.HEAD, 194, 64⟩

/-- The TM trace ring (R426, R427). -/
def tmTraceRing : RecRing :=
  ⟨TM_PERF.RING_BASE_LO.ADDR, TM_PERF.RING_BASE_HI.ADDR, TM_PERF.RING_CTRL.LOG2_SIZE, TM_PERF.RING_CTRL.ENABLE,
   TM_PERF.RING_CTRL.COAL_COUNT, TM_PERF.RING_CTRL.COAL_TIME_US, TM_PERF.RING_STATUS.TAIL,
   TM_PERF.RING_STATUS.PHASE, TM_PERF.RING_HEAD.HEAD, 195, 64⟩

/-- The record ring is full (R338). -/
def State.recFull (s : State) (r : RecRing) : Bool :=
  decide ((s.rf r.tail + 1) % 2 ^ s.rf r.log2 = s.rf r.head)

/-- A record of `r.size` bytes whose top bit is PHASE, written at TAIL; true when the posted write was sent. On success
the tail and the phase move on and the interrupt coalesces (R338). -/
def State.recWrite (s : State) (r : RecRing) (bad : Bool) (v : Nat) : Bool × State :=
  let t := s.rf r.tail
  let addr := s.rf r.baseHi * 2 ^ 32 + s.rf r.baseLo * 2 ^ 12 + t * r.size
  let w := v % 2 ^ (r.size * 8 - 1) + s.rf r.phase * 2 ^ (r.size * 8 - 1)
  let (ok, s) := s.post bad addr (toLe r.size w)
  if ok then
    let n := (t + 1) % 2 ^ s.rf r.log2
    let s := s.wf r.tail n
    let s := if n = 0 then s.wf r.phase (1 - s.rf r.phase) else s
    (true, s.coalesce r.cause (s.rf r.coalCount) (s.rf r.coalUs))
  else (false, s)

/-- A record ring enabled (R338): TAIL 0, head in force 0, PHASE 1. -/
def State.recEnable (s : State) (r : RecRing) : State :=
  (((s.wf r.enable 1).wf r.tail 0).wf r.head 0).wf r.phase 1

/-- A log record as the 255 bits below PHASE (R386). -/
def LogRec.word (r : LogRec) : Nat :=
  r.page % 4096 + r.page / 4096 * 2 ^ 12 + r.src * 2 ^ 13 + r.sev * 2 ^ 18 + r.act * 2 ^ 20 + r.cause * 2 ^ 24 +
    (match r.kind with
     | .event => 0 | .summary => 1 | .squallStart => 2 | .squallEnd => 3 | .orderBreak => 4) * 2 ^ 32 +
    b2n r.forced * 2 ^ 35 + r.seq * 2 ^ 64 + r.time * 2 ^ 96 + r.d0 * 2 ^ 176 + r.d1 * 2 ^ 208

end Sys2Proof.Machine
end

