-- ==== Sys2Proof/Machine/PktOps.lean ====
section
/-! DEFINITION. Packets: the fields of their metadata (R12), the packet list, and the die and half a packet stands on. -/

namespace Sys2Proof.Machine

/-! ### Metadata (R12) -/

/-- Bits `[lo+w-1:lo]` of a packet's metadata. -/
def Pkt.mdGet (p : Pkt) (lo w : Nat) : Nat := p.md.toNat >>> lo % 2 ^ w
/-- Bits `[lo+w-1:lo]` of a packet's metadata replaced. -/
def Pkt.mdSet (p : Pkt) (lo w v : Nat) : Pkt := { p with md := BitVec.ofNat 512 (setBits p.md.toNat lo w v) }
def Pkt.inPort (p : Pkt) : Nat := p.mdGet 0 9
/-- The bank stamped on the packet (EPOCH). -/
def Pkt.bank (p : Pkt) : Bool := decide (p.mdGet 9 1 = 1)
def Pkt.cls (p : Pkt) : Nat := p.mdGet 10 3
/-- COLOUR; 3 is treated as red (R12). -/
def Pkt.colour (p : Pkt) : Nat := min (p.mdGet 13 2) 2
def Pkt.trace (p : Pkt) : Bool := decide (p.mdGet 15 1 = 1)
def Pkt.length (p : Pkt) : Nat := p.mdGet 16 14
def Pkt.mcast (p : Pkt) : Bool := decide (p.mdGet 30 1 = 1)
def Pkt.handle (p : Pkt) : Nat := p.mdGet 32 32
def Pkt.nextHop (p : Pkt) : Nat := p.mdGet 64 20
def Pkt.encap (p : Pkt) : Nat := p.mdGet 84 19
def Pkt.policer (p : Pkt) : Nat := p.mdGet 103 18
def Pkt.puntReason (p : Pkt) : Nat := p.mdGet 121 6
def Pkt.punt (p : Pkt) : Bool := decide (p.mdGet 127 1 = 1)
def Pkt.flowHash (p : Pkt) : Nat := p.mdGet 128 32
def Pkt.protStream (p : Pkt) : Nat := p.mdGet 160 14
def Pkt.prot (p : Pkt) : Bool := decide (p.mdGet 174 1 = 1)
def Pkt.outPort (p : Pkt) : Nat := p.mdGet 175 9
def Pkt.inRate (p : Pkt) : Nat := p.mdGet 184 3
/-- TIMESTAMP as seconds * 2^32 + nanoseconds: 32 bits of nanoseconds below 48 of seconds. (DEDUCED, log entry 29.) -/
def Pkt.timestamp (p : Pkt) : Nat := p.mdGet 192 80

/-! ### The packet list -/

/-- The packets of a place, oldest first. -/
def State.at_ (s : State) (l : Loc) : List Pkt := s.pkts.filter (fun p => decide (p.loc = l))

/-- The oldest packet of a place. -/
def State.headAt (s : State) (l : Loc) : Option Pkt := s.pkts.find? (fun p => decide (p.loc = l))

/-- The packet with an identity. -/
def State.pktById (s : State) (id : Nat) : Option Pkt := s.pkts.find? (fun p => decide (p.id = id))

/-- The packet list with one packet replaced in place. -/
def State.putPkt (s : State) (p : Pkt) : State :=
  { s with pkts := s.pkts.map (fun x => if x.id = p.id then p else x) }

/-- A packet arrives at a place, behind the packets that are there. (DESIGN CHOICE, log entry 5.) -/
def State.movePkt (s : State) (p : Pkt) (l : Loc) : State :=
  { s with pkts := s.pkts.filter (fun x => !decide (x.id = p.id)) ++ [{ p with loc := l }] }

/-- A packet enters the device with a fresh identity. -/
def State.newPkt (s : State) (p : Pkt) : Nat × State :=
  (s.nextPkt, { s with pkts := s.pkts ++ [{ p with id := s.nextPkt }], nextPkt := s.nextPkt + 1 })

/-- A packet leaves the list without a departure count: it was never stamped. -/
def State.removePkt (s : State) (id : Nat) : State :=
  { s with pkts := s.pkts.filter (fun x => !decide (x.id = id)) }

/-- The packet stands on the TM die. -/
def Pkt.onTm (p : Pkt) : Bool :=
  match p.loc with
  | .tmArrive _ | .hostq _ | .queue _ | .cutq _ | .cut _ | .core | .reasm | .residue | .eread _ => true
  | _ => false

/-- The packet leaves its strip before every packet of another pipeline: in the order of exit cycles, and in one cycle ingress
pipelines before egress ones, each in rising order (R150, R201, R232). -/
def State.exitTurn (s : State) (p : Pkt) : Bool :=
  let key := fun (x : Pkt) => match x.loc with
    | .strip i => some (x.due * 32 + i)
    | .estrip i => some (x.due * 32 + 16 + i)
    | _ => none
  s.pkts.all (fun x => decide (x.loc = p.loc) || (match key x, key p with
    | some a, some b => decide (b ≤ a)
    | _, _ => true))

/-- The metadata with which a packet leaves its strip: the lanes', with the bank it was stamped with and reserved bits 0 (R4, R12). -/
def Pkt.exitMd (p : Pkt) (md : Nat) : BitVec 512 :=
  BitVec.ofNat 512 (setBits (setBits (setBits md 9 1 (p.mdGet 9 1)) 187 5 0) 272 112 0)

/-- The work of queues ends (R319): whatever it finds when it begins again, it rejoins its rounds. (DEDUCED, log entry 17.) -/
def State.workEnds (s : State) (e : WorkEnd) : State :=
  { s with sc := { s.sc with ended := s.sc.ended.filter (fun x => !decide (x = e)) ++ [e] } }

/-- The packet stands in the egress half (R423). -/
def Pkt.onEgress (p : Pkt) : Bool :=
  match p.loc with
  | .reasm | .eread _ | .loopFifo _ | .estrip _ | .mac _ _ | .wire _ => true
  | .queue _ | .residue => p.egr
  | _ => false

end Sys2Proof.Machine
end

