-- ==== Sys2Proof/Machine/Ddr.lean ====
section
/-! DEFINITION. GDDR7 units (R304, R357, R358, R360, R370): which are free, which packets hold them, and the requests that
write and read them (R361, R368 to R371). -/

namespace Sys2Proof.Machine

/-! ### Controllers and units -/

/-- STATE of a controller: 0 OFF, 1 TRAINING, 2 READY, 3 FREQ_CHANGE, 4 DOWN (R375); a fenced controller is DOWN (R371,
R382). -/
def State.dmcState (s : State) (c : Nat) : Nat := if s.fenced (4160 + c) then 4 else s.rfp TM_DMC.STATUS.STATE c 0

def dmcOff : Nat := 0
def dmcTraining : Nat := 1
def dmcReady : Nat := 2
def dmcFreq : Nat := 3
def dmcDown : Nat := 4

/-- The controller, channel, bank and row of a unit (R360); banks and channels are numbered device-wide. -/
def unitCtl (u : Nat) : Nat := u % 16
def unitChan (u : Nat) : Nat := unitCtl u * 4 + bits u 4 2
def unitBank (u : Nat) : Nat := unitChan u * 16 + bits u 6 4
def unitRow (u : Nat) : Nat := bits u 13 15

/-- Fitted units of a density code (R357). -/
def fittedUnits (d : Nat) : Nat := if d = 1 then 134217728 else if d = 2 then 201326592 else if d = 3 then 268435456 else 0

/-- Units of the counter region: 0 or 65,536 (R373). -/
def State.ctrUnits (s : State) : Nat := if s.rf TM_DMC.CTR_REGION.UNITS = 65536 then 65536 else 0

/-- First unit of the counter region. -/
def State.ctrBase (s : State) : Nat := fittedUnits (s.rf TM_DMC.CFG.DENSITY) - 65536

/-- The controller is in use: READY, or in a frequency change. One that is DOWN returns to service at READY (R371). -/
def State.dmcUp (s : State) (c : Nat) : Bool := decide (s.dmcState c = dmcReady) || decide (s.dmcState c = dmcFreq)

/-- GDDR7 is in service: ENABLE is 1 and every controller is in use (R358, R371). -/
def State.ddrOn (s : State) : Bool := s.rfb TM_DMC.DDR_CTRL.ENABLE && (List.range 16).all s.dmcUp

/-- The free units: DDR_TOTAL less the units held, the units retired and the free units of DOWN controllers (R357, R371). -/
def State.ddrFreeN (s : State) : Nat :=
  let total := s.rf TM_BUF.DDR_TOTAL.UNITS
  let taken := s.dm.used ++ s.dm.retired
  let down := (List.range 16).filter (fun c => !s.dmcUp c)
  let lost := sumN (down.map (fun c => total / 16 - (taken.filter (fun u => decide (unitCtl u = c))).length))
  total - taken.length - lost

/-- DDR_FREE shows the free units; DDR_TOTAL falls to 0 once GDDR7 is disabled and holds no packet (R358). -/
def State.showDdr (s : State) : State :=
  let s := if !s.rfb TM_DMC.DDR_CTRL.ENABLE && s.dm.used.isEmpty then s.wf TM_BUF.DDR_TOTAL.UNITS 0 else s
  s.wf TM_BUF.DDR_FREE.UNITS s.ddrFreeN

/-- `n` free units in a run from a place the spec leaves open. -/
def State.ddrTake (s : State) (n : Nat) : List Nat × State :=
  let total := s.rf TM_BUF.DDR_TOTAL.UNITS
  let (r, s) := s.freeVal
  let taken := s.dm.used ++ s.dm.retired
  let cand := (List.range (taken.length + n)).map (fun k => (r + k) % max total 1)
  let us := (cand.filter (fun u => !taken.contains u)).take n
  (us, { s with dm := { s.dm with used := s.dm.used ++ us, mem := SMap.drop (fun k => us.contains (k / 8)) s.dm.mem } }.showDdr)

/-! ### Requests (R361) -/

/-- A request enters behind the others; a spill write toward a paused controller goes to staging (R366). -/
def State.ddrAsk (s : State) (r : DReq) : State :=
  { s with dm := { s.dm with
    reqs := s.dm.reqs ++ [{ r with paused := r.write && decide (r.who = 0) && decide (s.dmcState (unitCtl r.unit_) = dmcFreq) }] } }

/-- The writes of a spilled packet's units; `id` names its family. -/
def State.ddrWrites (s : State) (id : Nat) (us : List Nat) : State :=
  us.foldl (fun s u => s.ddrAsk ⟨0, true, u, id, 0, 0, 0, false, false⟩) s

/-- The requests, each with whether it waits outside its bank queue: in staging for a paused controller, or behind the 16 requests of
a bank queue (R305, R361, R366). -/
def State.reqWaits (s : State) : List (DReq × Bool) :=
  (s.dm.reqs.foldl (fun (a : SMap Nat × List (DReq × Bool)) r =>
    let b := unitBank r.unit_
    let k := SMap.get 0 a.1 b
    (SMap.put 0 a.1 b (k + b2n (!r.paused)), a.2 ++ [(r, r.paused || decide (16 ≤ k))])) (([], []) : SMap Nat × List (DReq × Bool))).2

/-- A spill write that waits in staging. -/
def isStaged (e : DReq × Bool) : Bool := e.2 && e.1.write && decide (e.1.who = 0)

/-- The spill writes that wait in staging. -/
def State.stagedWrites (s : State) : Nat := (s.reqWaits.filter isStaged).length

/-- A packet's units are asked for (R369); its first part is forwarded when all have come. -/
def State.startReads (s : State) (p : Pkt) : State :=
  p.ddr.foldl (fun s u => s.ddrAsk ⟨1, false, u, p.id, 0, 0, 0, false, false⟩) s

/-- The packet's units are being read back. -/
def State.reading (s : State) (id : Nat) : Bool := s.dm.reqs.any (fun r => decide (r.who = 1) && decide (r.ref = id))

/-! ### Release (R305, R370) -/

/-- A released unit that gave an uncorrectable access is retired, while its controller has retired fewer than 4,096; beyond
that RETIRE_FULL is raised once and the unit is freed as usual. -/
def State.retireUnit (s : State) (u : Nat) : State :=
  let c := unitCtl u
  let s := { s with dm := { s.dm with unc := s.dm.unc.filter (· ≠ u) } }
  if s.rfp TM_DMC.RETIRED.UNITS c 0 < 4096 then
    let s := { s with dm := { s.dm with retired := s.dm.retired ++ [u] } }
    s.wfp TM_DMC.RETIRED.UNITS c 0 (s.rfp TM_DMC.RETIRED.UNITS c 0 + 1)
  else if s.dm.full.contains c then s
  else ({ s with dm := { s.dm with full := s.dm.full ++ [c] } }).raise Ev.TM_DMC.RETIRE_FULL c 0 c 0

/-- Units leave the packets that held them. -/
def State.ddrRelease (s : State) (us : List Nat) : State :=
  if us.isEmpty then s
  else
    let s := { s with dm := { s.dm with used := s.dm.used.filter (fun u => !us.contains u) } }
    let s := us.foldl (fun s u => if s.dm.unc.contains u then s.retireUnit u else s) s
    s.showDdr

/-- The packet whose units a packet shares (R305): its original, or itself. -/
def Pkt.family (p : Pkt) : Nat := if p.share = 0 then p.id else p.share

/-- A packet whose first byte at least has been handed to the bridge. -/
def Pkt.sending (p : Pkt) : Bool :=
  match p.loc with
  | .estrip _ | .loopIn _ | .mac _ _ | .wire _ => p.egr
  | _ => false

/-- A packet that can hold buffer units: until its last byte has been handed on (R305). -/
def Pkt.holds (p : Pkt) : Bool :=
  match p.loc with
  | .queue _ | .cutq _ | .cut _ | .residue | .eread _ | .loopFifo _ => true
  | _ => p.sending && (decide (p.dieUnits ≠ 0) || !p.ddr.isEmpty)

/-- A write of the packet's units met an error response: it is discarded by its descriptor (R369). -/
def State.ddrLost (s : State) (p : Pkt) : Bool := s.dm.lost.contains p.family

/-- The buffer units of a packet return to the free pools, or pass to a packet that shares them (R304, R305). -/
def State.freeUnits (s : State) (p : Pkt) : State :=
  if p.dieUnits = 0 && p.ddr.isEmpty then s
  else
    match s.pkts.find? (fun q => decide (q.id ≠ p.id) && decide (q.family = p.family) && q.holds && decide (q.egr = p.egr)) with
    | some q => s.putPkt { q with dieUnits := q.dieUnits + p.dieUnits, ddr := q.ddr ++ p.ddr }
    | none =>
      let s := if p.dieUnits = 0 then s else s.wf TM_BUF.DIE_FREE.UNITS (s.rf TM_BUF.DIE_FREE.UNITS + p.dieUnits)
      let s := { s with dm := { s.dm with lost := s.dm.lost.filter (· ≠ p.family) } }
      s.ddrRelease p.ddr

/-- A packet that stays has given its units back. -/
def State.unitsOff (s : State) (p : Pkt) : State :=
  let s := s.putPkt { p with dieUnits := 0, ddr := [] }
  s.freeUnits p

/-! ### Queue statistics (R373) -/

def QInc.zero : QInc := ⟨0, 0, 0, 0⟩

/-- The increments of queue `q`'s record rise, while the counter region stands. -/
def State.countQ (s : State) (q : Nat) (f : QInc → QInc) : State :=
  if s.ctrUnits = 0 then s else { s with dm := { s.dm with pend := SMap.upd QInc.zero s.dm.pend q f } }

/-- A packet of `len` bytes is dequeued, or dropped at admission or discarded. -/
def State.countDeq (s : State) (q len : Nat) : State := s.countQ q (fun i => { i with deqP := i.deqP + 1, deqB := i.deqB + len })
def State.countDrop (s : State) (q len : Nat) : State := s.countQ q (fun i => { i with dropP := i.dropP + 1, dropB := i.dropB + len })

end Sys2Proof.Machine
end

