-- ==== Sys2Proof/Machine/Trace.lean ====
section
/-! DEFINITION. Tagging and trace records (R421 to R426). -/

namespace Sys2Proof.Machine

/-! ### Tagging (R421, R422) -/

/-- One step of a pipeline's LFSR (R421). -/
def lfsrStep (v : Nat) : Nat := if v % 2 = 1 then (v / 2) ^^^ 0x80200003 else v / 2

/-- The LFSR of pipeline `i` after a load of SEED. -/
def lfsrLoad (seed i : Nat) : Nat := orWhenZero ((seed + i) % 2 ^ 32) 1

/-- All sixteen LFSRs loaded from a seed. -/
def lfsrAll (seed : Nat) : List Nat := (List.range 16).map (lfsrLoad seed)

/-- K in force (R421). -/
def State.traceK (s : State) : Nat := min (max (s.rf FE_TRACE.CTRL.K) 8) 24

/-- The LFSR of a pipeline steps for a packet it admits; true when the packet is tagged. -/
def State.tagStep (s : State) (pipe : Nat) : Bool × State :=
  let v := lfsrStep (s.tr.lfsr.getD pipe 1)
  let s := { s with tr := { s.tr with lfsr := listSet s.tr.lfsr pipe v } }
  (s.rfb FE_TRACE.CTRL.TAG_EN && decide (v % 2 ^ s.traceK = 0), s)

/-- TRACE_SEED_WRITE (R421): SEED is written and every LFSR loaded from it. -/
def State.traceSeed (s : State) (seed : Nat) : State :=
  if s.blockOpen 77 then
    let s := s.wf FE_TRACE.SEED.SEED seed
    { s with tr := { s.tr with lfsr := lfsrAll (seed % 2 ^ 32) } }
  else s

def execTraceSeedWrite (seed : Nat) (s : State) : Host.Outcome State Fault Refusal :=
  .next (s.onFe (fun s => s.traceSeed seed))

/-! ### Points and records (R423 to R426) -/

/-- Device time in whole nanoseconds. -/
def State.nowNs (s : State) : Nat := s.time / 2 ^ 32

/-- A packet passes trace point `k` now. Times stand as nanoseconds + 1. -/
def Pkt.point (p : Pkt) (k now : Nat) : Pkt := { p with times := SMap.put 0 p.times k (now + 1) }

/-- The packet forgets the points of the given range. -/
def Pkt.clearPoints (p : Pkt) : Pkt := { p with times := [] }

/-- OFFSET of a point (R425): its time minus TIME_BASE, cut to 32 signed bits. -/
def traceOffset (base : Nat) (t : Option Nat) : Nat :=
  match t with
  | none => 0x80000000
  | some n =>
    let d : Int := (n : Int) - base
    if 2 ^ 31 ≤ d then 0x7FFFFFFF else if d ≤ -(2 ^ 31) then 0x80000001 else ofSigned 32 d

/-- A trace record of a half without SEQ and PHASE (R425). `tm` tells the die, `egr` the half. -/
def Pkt.traceRecord (p : Pkt) (tm egr dropped punted : Bool) : Nat :=
  let first := if tm then (if egr then 7 else 4) else (if egr then 11 else 1)
  let n := if tm then (if egr then 4 else 3) else (if egr then 2 else 3)
  let ts := p.timestamp
  let base := ts / 2 ^ 32 * 1000000000 + ts % 2 ^ 32
  let at_ := fun k => if k < n then (let v := SMap.get 0 p.times (first + k); if v = 0 then none else some (v - 1)) else none
  let points := sumN ((List.range 4).map (fun k => if (at_ k).isSome then 2 ^ k else 0))
  p.timestamp + p.inPort * 2 ^ 80 + p.outPort * 2 ^ 89 + p.cls * 2 ^ 98 + b2n p.bank * 2 ^ 101 + b2n tm * 2 ^ 102 +
    b2n egr * 2 ^ 103 + p.src % 1024 * 2 ^ 104 + first * 2 ^ 114 + points * 2 ^ 118 + b2n dropped * 2 ^ 122 +
    b2n punted * 2 ^ 123 + p.mdGet 31 1 * 2 ^ 124 + p.flowHash * 2 ^ 128 + p.length * 2 ^ 160 +
    sumN ((List.range 4).map (fun k => traceOffset base (at_ k) * 2 ^ (224 + 32 * k)))

/-- A record of a die enters its device ring (R426): it takes the next SEQ; one that finds 4,096 is dropped and counted, and
raises TRACE_DROP the first time since TRACE_DROP was read. -/
def State.tracePush (s : State) (tm : Bool) (v : Nat) : State :=
  let r := if tm then tmTraceRing else feTraceRing
  if s.rf r.enable = 0 || !s.operating (if tm then 4178 else 77) then s
  else
    let recs := if tm then TM_PERF.RECORDS.COUNT else FE_TRACE.RECORDS.COUNT
    let seq := s.rf recs
    let s := s.inc recs 0 0 1
    let ring := if tm then s.tr.tm else s.tr.fe
    if 4096 ≤ ring.length then
      let s := s.sat1 (if tm then TM_PERF.TRACE_DROP.COUNT else FE_TRACE.TRACE_DROP.COUNT)
      let armed := if tm then s.tr.tmArm else s.tr.feArm
      if armed then
        let s := if tm then { s with tr := { s.tr with tmArm := false } } else { s with tr := { s.tr with feArm := false } }
        s.raise (if tm then Ev.TM_PERF.TRACE_DROP else Ev.FE_TRACE.TRACE_DROP) 0 0 (s.rf r.tail) (s.rf r.head)
      else s
    else
      let w := v + seq * 2 ^ 192
      if tm then { s with tr := { s.tr with tm := s.tr.tm ++ [w] } } else { s with tr := { s.tr with fe := s.tr.fe ++ [w] } }

/-- The record of a half, for a packet with TRACE = 1 (R424). -/
def State.traceHalf (s : State) (p : Pkt) (tm egr dropped punted : Bool) : State :=
  if p.trace then s.tracePush tm (p.traceRecord tm egr dropped punted) else s

end Sys2Proof.Machine
end

