-- ==== Sys2Proof/Machine/EpochOps.lean ====
section
/-! DEFINITION. Shared operations of the epoch machine: the states of R87, stamps and departures (R72, R92), the packet
list, banks and RWE fields (R34, R35, R95, R100), the purge of R93 and the abandoning of a staging (R97, R99). -/

namespace Sys2Proof.Machine

/-! ### States of R87 -/

/-- The epoch machine enters a state. -/
def State.setEpochState (s : State) (v : Nat) : State := s.wf TM_EPOCH.STATE.STATE v

/-- The bank a staging goes into: A from NO_EPOCH, the inactive bank otherwise (R75). -/
def State.stagedBank (s : State) : Bool := if s.ep.fromNone || s.epochState = esNoEpoch then false else !s.activeBank

/-- Bank `b` replaced. -/
def State.setBank (s : State) (b : Bool) (k : Bank) : State := if b then { s with bankB := k } else { s with bankA := k }

/-- The bank the FE stamps with: the majority of the selector lanes (R89). -/
def State.feBank (s : State) : Bool := s.rfb FE_EPOCH.SELECTOR.BANK

/-! ### Bank counts -/

/-- COUNT of bank `b`. -/
def countFld (b : Bool) : Fld := if b then TM_EPOCH.COUNT_B.COUNT else TM_EPOCH.COUNT_A.COUNT

/-- Packets present with stamp `b` (R92). -/
def State.bankCount (s : State) (b : Bool) : Nat := s.rf (countFld b)

/-- The old bank drains: DRAINING or EXPIRED. -/
def State.draining (s : State) : Bool := decide (s.epochState = esDraining) || decide (s.epochState = esExpired)

/-- A packet is stamped with bank `b`, or copied under it: the count rises, and the old bank is no longer settled. -/
def State.stampCount (s : State) (b : Bool) : State :=
  let s := s.inc (countFld b) 0 0 1
  if s.draining && decide (b ≠ s.activeBank) then s.disarm .settle 0 else s

/-- A packet with stamp `b` departs (R92); a count that would go below 0 holds and raises COUNT_ERR (R104). When the old
bank's count reaches 0 its 128 settling cycles begin. -/
def State.departCount (s : State) (b : Bool) : State :=
  let n := s.bankCount b
  if n = 0 then s.raiseO Ev.TM_EPOCH.COUNT_ERR 0 none none none
  else
    let s := s.wf (countFld b) (n - 1)
    if n = 1 && s.draining && decide (b ≠ s.activeBank) then s.arm .settle 0 128 else s

/-! ### Departure (R92) -/

/-- An inject descriptor is written back (R65, R67): STATUS and PHASE; anything but ACCEPTED counts in INJ_DROP. A write
that fails is lost (R514). -/
def State.injBack (s : State) (c addr ph status : Nat) : State :=
  let s := if status = 0 then s else s.sat TM_HPKT.INJ_DROP.COUNT 0 c 1
  let (ok, s) := s.post false (addr + 10) (toLe 6 (status * 2 ^ 16 + ph * 2 ^ 47))
  if ok then s.coalesce (128 + c) (s.rfi TM_HPKT.INJ_CTRL.COAL_COUNT c) (s.rfi TM_HPKT.INJ_CTRL.COAL_TIME_US c) else s

/-- The inject of a packet, if it came from one, is written back. (DESIGN CHOICE, log entry 5.) -/
def State.injDone (s : State) (p : Pkt) (status : Nat) : State :=
  match p.inj with
  | some (c, addr, ph) => s.injBack c addr ph status
  | none => s

/-- A stamped packet departs: it leaves the list, its units are free, its bank's count falls (R92); an inject not yet
written back was refused (R67). A packet whose egress part carries the stamp departs with that. -/
def State.departPkt (s : State) (p : Pkt) : State :=
  let s := (s.removePkt p.id).freeUnits p
  if p.passed then s else (s.injDone p 4).departCount p.bank

/-- `n` more packets directed to channel `c` (R63): SEQ counts them. -/
def State.puntCount (s : State) (c n : Nat) : State :=
  { s with hp := { s.hp with puntSeq := SMap.put 0 s.hp.puntSeq c ((SMap.get 0 s.hp.puntSeq c + n) % 65536) } }

/-- A packet is dropped where it stands: its queue's record counts it (R373) or its channel's SEQ (R63), its trace record says so
(R424), and it departs. -/
def State.dropPkt (s : State) (p : Pkt) : State :=
  let s := match p.loc with
    | .queue q => s.countDrop q p.length
    | .eread _ | .loopFifo _ => if p.egr then s.countDrop p.due p.length else s
    | .hostq c => s.puntCount c 1
    | _ => s
  (s.traceHalf p p.onTm p.onEgress true false).departPkt p

/-- A packet of a list taken earlier is dropped as it stands now: an earlier drop may have passed it the units of its family. -/
def State.dropNow (s : State) (p : Pkt) : State := s.dropPkt ((s.pktById p.id).getD p)

/-- Every listed packet is dropped. -/
def State.dropAll (s : State) (ps : List Pkt) : State := ps.foldl (fun s p => s.dropNow p) s

/-- Bytes of frame length queued in a place. -/
def State.bytesAt (s : State) (l : Loc) : Nat := sumN ((s.at_ l).map Pkt.length)

/-! ### RWE fields and mirrors -/

/-- The RWE fields of both dies, with their element counts (R6, R71). -/
def rweFields : List Fld :=
  [FE_PARSE.FAIL_ACT.ACT, FE_LPM.VRF_NH_BASE4.BASE, FE_LPM.VRF_NH_BASE6.BASE, TM_REORD.WINDOW_EXP.NS, TM_REORD.WINDOW_NORM.NS]

/-- Every RWE field of bank `src` copied into bank `dst`. -/
def State.copyRwe (s : State) (src dst : Bool) : State :=
  rweFields.foldl (fun s f => (List.range f.cnt).foldl (fun s i => s.wfBank f dst i (s.rfBank f src i)) s) s

/-- An RWE field of a bank at the value its Almanac's RWE_INIT gives it, or its reset value (R100). -/
def State.resetRwe (s : State) (f : Fld) (b : Bool) : State :=
  (List.range f.cnt).foldl (fun s i =>
    let v := ((s.bank b).rwe.reverse.find? (fun e => decide (e.1 = f.key 0 i))).map (·.2)
    s.wfBank f b i (v.getD (f.resetAt i))) s

/-- The Almanac items and RWE fields of the active bank copied into the other one (R95, R87). -/
def State.mirrorBank (s : State) : State :=
  let a := s.activeBank
  (s.setBank (!a) (s.bank a)).copyRwe a (!a)

/-- The ALM registers that show the active and the staged image (R103). A flip or an abort leaves STAGED_ID, STAGED_BUILD and
STAGED_DIGEST at the latest staged image (DESIGN CHOICE, log entry 10). -/
def State.showImages (s : State) (staged : Option Bank) : State :=
  let act := s.bank s.activeBank
  let dig := fun (s : State) (f : Fld) (d : Bytes) => (List.range 12).foldl (fun s k => s.wfi f k (le32 d (4 * k))) s
  let s := if s.noEpoch then s else
    dig ((s.wf TM_ALM.ACTIVE_ID.ID act.almId).wf TM_ALM.ACTIVE_BUILD.SEQ act.build) TM_ALM.ACTIVE_DIGEST.DIGEST act.digest
  match staged with
  | some k => dig ((s.wf TM_ALM.STAGED_ID.ID k.almId).wf TM_ALM.STAGED_BUILD.SEQ k.build) TM_ALM.STAGED_DIGEST.DIGEST k.digest
  | none => s

/-! ### Flip, purge, abandoning -/

/-- EPOCH_SEQ steps: after 0xFFFF_FFFF the next value is 1 (R74). -/
def nextSeq (q : Nat) : Nat := if q = 2 ^ 32 - 1 then 1 else q + 1

/-- The register effects of a flip to bank `b` (R74, R90): EPOCH_SEQ, BANK_SEQ, ACTIVE_BANK, the FE selector and the
flip's cycle and time. -/
def State.flipTo (s : State) (b : Bool) : State :=
  let q := nextSeq (s.rf TM_EPOCH.EPOCH_SEQ.SEQ)
  let s := s.wf TM_EPOCH.EPOCH_SEQ.SEQ q
  let s := s.wf (if b then TM_EPOCH.BANK_SEQ_B.SEQ else TM_EPOCH.BANK_SEQ_A.SEQ) q
  let s := s.wf TM_EPOCH.STATE.ACTIVE_BANK (b2n b)
  let s := (s.wf FE_EPOCH.SELECTOR.BANK (b2n b)).wf FE_EPOCH.SELECTOR.LANES (7 * b2n b)
  let s := (s.wf TM_EPOCH.FLIP_CYCLE.CYCLE s.cycle).wf FE_EPOCH.FLIP_CYCLE.CYCLE s.cycle
  let s := (s.wf TM_EPOCH.FLIP_TIME_NS.NS s.timeNs).wf TM_EPOCH.FLIP_TIME_SEC.SEC s.timeSec
  { s with ep := { s.ep with flipAt := s.cycle } }

/-- EPOCH_RETIRE_TIMEOUT in core cycles; 0 acts as 1 ms (R101). -/
def State.retireCycles (s : State) : Nat := orWhenZero (s.rf TM_EPOCH.RETIRE_TIMEOUT.MS) 1 * cyMs

/-- The old bank starts to drain: the timeout runs from the flip, and a count of 0 begins to settle (R92, R93). -/
def State.startDrain (s : State) : State :=
  let s := (s.setEpochState esDraining).arm .retire 0 s.retireCycles
  if s.bankCount (!s.activeBank) = 0 then s.arm .settle 0 128 else s.disarm .settle 0

/-- The packet has been stamped (R72): it stands past the buffers in which frames and MODE 0 injects wait for their pipeline. -/
def Pkt.stamped (p : Pkt) : Bool :=
  match p.loc with
  | .input _ | .injectIn _ => false
  | _ => true

/-- The cells already cut of the listed packets leave the switch core: a packet that has not begun at an output sends none. -/
def State.dropCells (s : State) (ids : List Nat) : State :=
  let cut := fun (m : SMap (List Cell)) =>
    (m.map (fun e => (e.1, e.2.filter (fun c => !(c.own && ids.contains c.pkt))))).filter (fun e => !e.2.isEmpty)
  { s with fab := { s.fab with staging := cut s.fab.staging, banks := cut s.fab.banks, txq := cut s.fab.txq } }

/-- The packets of the old bank that have not begun at an output are discarded and counted (R93). -/
def State.purge (s : State) : State :=
  let old := !s.activeBank
  let ps := s.pkts.filter (fun p => p.stamped && decide (p.bank = old) && !p.begun)
  let n := (ps.filter (fun p => !p.passed)).length
  let s := (s.setCnt TM_EPOCH.DROP_LAST.COUNT 0 n).sat TM_EPOCH.DROP_TOTAL.COUNT 0 0 n
  (s.dropCells (ps.map (·.id))).dropAll ps

/-- The state a staging that ends returns to (R87). -/
def State.restState (s : State) : Nat := if s.ep.fromNone then esNoEpoch else esIdle

/-- PHASE of both loaders (R103). -/
def State.loaderPhase (s : State) (v : Nat) : State := (s.wf TM_ALM.LOAD_STATUS.PHASE v).wf FE_ALM.LOAD_STATUS.PHASE v

/-- Staging, a staged image or a failed one is abandoned by an abort: the state is IDLE or NO_EPOCH, the loaders are idle, and the
re-mirror of the inactive bank begins (R87, R103). -/
def State.abandonTo (s : State) : State :=
  let r := s.restState
  let s := ((s.setEpochState r).disarm .stage 0).loaderPhase 0
  { s with ep := { s.ep with stage := none, stageStep := 0, head := [], remirror := true } }

/-- A BLOCK reset of an ALM page or a Doldrums entry abandons a staging (R97, R99): an executing stage ends ABORTED. -/
def State.abandonStaging (s : State) : State :=
  let e := s.epochState
  if e = esStaging || e = esStaged || e = esFailed then
    let s := match s.ep.stage with
      | some (id, _) => s.abortCmd id
      | none => s
    s.abandonTo
  else s

end Sys2Proof.Machine
end

