-- ==== Sys2Proof/Machine/Layout.lean ====
section
/-! DEFINITION. Table layouts and table SRAM: TABLE_LAYOUT records (R179), hashing (R156, R157, R182), placement (R180),
live regions (R183), line and entry access with uncorrectable words (R118, R124, R161, R516). -/

namespace Sys2Proof.Machine

/-! ### Sections of a bank -/

/-! ### Layout records (R179) -/

def Region.ofBits (v : Nat) : Region := ⟨bits v 0 7, bits v 8 8, bits v 16 16, bits v 32 16⟩

/-- The region is not empty. -/
def Region.used (r : Region) : Bool := decide (0 < r.cells)

/-- The regions share a line of a strip. -/
def Region.meets (a b : Region) : Bool :=
  a.used && b.used && decide (a.firstCell < b.firstCell + b.cells) && decide (b.firstCell < a.firstCell + a.cells) &&
    decide (a.firstLine < b.firstLine + b.lpc) && decide (b.firstLine < a.firstLine + a.lpc)

/-- The region holds line `ln` of logical position `c`. -/
def Region.holds (r : Region) (c ln : Nat) : Bool :=
  decide (r.firstCell ≤ c) && decide (c < r.firstCell + r.cells) && decide (r.firstLine ≤ ln) && decide (ln < r.firstLine + r.lpc)

/-- A layout record of 512 bits, with region 0 or 1 in force by LIVE. -/
def Tbl.ofBits (v : Nat) : Tbl :=
  let l := bit v 23
  { id := bits v 0 8, dir := bits v 8 1, kind := bits v 9 4, role := bits v 13 4, cls := bits v 17 2, size := bits v 19 3,
    aged := bit v 22, liveBit := l, learnId := bits v 24 8, load := bits v 32 10,
    reg0 := Region.ofBits (bits v 64 64), reg1 := Region.ofBits (bits v 128 64),
    seed0 := bits v 192 64, mult0 := bits v 256 64, lines0 := bits v 320 32,
    seed1 := bits v 352 64, mult1 := bits v 416 64, lines1 := bits v 480 32,
    live := l, seed := if l then bits v 352 64 else bits v 192 64, mult := if l then bits v 416 64 else bits v 256 64,
    lines := if l then bits v 480 32 else bits v 320 32 }

def kIndex : Nat := 0
def kExact : Nat := 1
def kRule : Nat := 2
def kFilter4 : Nat := 3
def kFilter6 : Nat := 4
def kClass4 : Nat := 5
def kHead6 : Nat := 6
def kTail6 : Nat := 7

/-- Entry size in bytes (R179). -/
def Tbl.bytes (t : Tbl) : Nat := [4, 8, 16, 48, 64].getD t.size 0
/-- Group width w: 1, or 3 for 48-byte and 2 for 64-byte entries (R180). -/
def Tbl.width (t : Tbl) : Nat := if t.bytes = 48 then 3 else if t.bytes = 64 then 2 else 1
/-- Entries per hash line E (R180). -/
def Tbl.perLine (t : Tbl) : Nat := if t.bytes = 48 then 2 else if t.bytes = 64 then 1 else if t.bytes = 0 then 1 else 32 / t.bytes
/-- Region `r` of the table. -/
def Tbl.region (t : Tbl) (r : Bool) : Region := if r then t.reg1 else t.reg0
/-- The live region (R183). -/
def Tbl.liveReg (t : Tbl) : Region := t.region t.live
/-- Hash lines a region holds (R180). -/
def Tbl.capacity (t : Tbl) (r : Bool) : Nat := (t.region r).cells / t.width * (t.region r).lpc
/-- LINES of a region: the parameters in force for the live one, the record's for the other. -/
def Tbl.linesOf (t : Tbl) (r : Bool) : Nat := if r = t.live then t.lines else if r then t.lines1 else t.lines0
/-- Slots, or entries of an index table (R180). -/
def Tbl.slots (t : Tbl) : Nat := t.lines * t.perLine

/-- Minimum LINES of a table's kind (R157). -/
def Tbl.minLines (t : Tbl) : Nat :=
  if t.kind = kFilter4 then 257 else if t.kind = kFilter6 then 65537 else if t.kind = kClass4 then 16
  else if t.kind = kHead6 then 8192 else 0

/-- The table of a bank's layout with an ID; LEARN_IDs are no table IDs. Where tables of both directions have the ID it is the
ingress one. (DESIGN CHOICE, log entry 12.) -/
def Bank.tblId (b : Bank) (id : Nat) : Option Tbl :=
  match b.tbls.find? (fun t => decide (t.id = id) && decide (t.dir = 0)) with
  | some t => some t
  | none => b.tbls.find? (fun t => decide (t.id = id))

/-- The table of a direction with an ID. -/
def Bank.tblDir (b : Bank) (dir id : Nat) : Option Tbl := b.tbls.find? (fun t => decide (t.id = id) && decide (t.dir = dir))

/-- The table a lookup of a direction names, LEARN_IDs included; true for a source lookup (R199). -/
def Bank.tblLookup (b : Bank) (dir id : Nat) : Option (Tbl × Bool) :=
  match b.tblDir dir id with
  | some t => some (t, false)
  | none =>
    if id = 255 || dir ≠ 0 then none
    else (b.tbls.find? (fun t => decide (t.learnId = id) && decide (t.dir = 0) && decide (t.role = 2) && decide (t.kind = kExact))).map (fun t => (t, true))

/-- The layout with the line counts of the IPv6 tail arrays, which follow those of their heads: eight records to a line, one for each
of the two slots of a head line (R157). (DEDUCED, log entry 12.) -/
def Bank.tailLines (b : Bank) : Bank :=
  let n := fun l => ceilDiv (2 * l) 8
  { b with tbls := b.tbls.map (fun x =>
      if x.kind = kTail6 then
        match b.tbls.find? (fun h => decide (h.kind = kHead6) && decide (h.cls = x.cls) && decide (h.dir = x.dir)) with
        | some h => { x with lines0 := n h.lines0, lines1 := n h.lines1, lines := n h.lines }
        | none => x
      else x) }

/-- The table of an ingress role; for route tables its kind and class (R154: the route sequence stands in the ingress strips). -/
def Bank.tblRole (b : Bank) (role : Nat) : Option Tbl := b.tbls.find? (fun t => decide (t.role = role) && decide (role ≠ 0) && decide (t.dir = 0))
def Bank.tblKind (b : Bank) (kind cls : Nat) : Option Tbl := b.tbls.find? (fun t => decide (t.kind = kind) && decide (t.cls = cls) && decide (t.dir = 0))

/-! ### Hashing (R156, R182) -/

/-- The quotient hash of an n-bit key: line and TAG. -/
def quotient (k n seed mult lines : Nat) : Nat × Nat :=
  let x := (k % 2 ^ n) ^^^ (seed % 2 ^ n)
  let x := x * mult % 2 ^ n
  let h := (n + 1) / 2
  let x := x ^^^ (x >>> h)
  let lines := max lines 1
  (x % lines, x / lines)

/-- First length and width in lengths of a class (R155): family 4 false, 6 true. -/
def classBase (v6 : Bool) (c : Nat) : Nat := if v6 then [24, 33, 49, 66].getD c 0 else [16, 20, 24, 28].getD c 0
def classWidth (v6 : Bool) (c : Nat) : Nat := if v6 then [9, 16, 17, 63].getD c 0 else [4, 4, 4, 5].getD c 0

/-- A length code; codes beyond the class are 0 (R155). -/
def effCode (v6 : Bool) (c code : Nat) : Nat := if code ≤ classWidth v6 c then code else 0

/-- The address with its bits below a length cleared. -/
def maskAddr (v6 : Bool) (a len : Nat) : Nat :=
  let w := if v6 then 128 else 32
  if w ≤ len then a % 2 ^ w else a % 2 ^ w / 2 ^ (w - len) * 2 ^ (w - len)

/-- Filter key (R156). -/
def filterKey (v6 : Bool) (vrf a : Nat) : Nat :=
  if v6 then vrf % 2 ^ 12 * 2 ^ 24 + bits a 104 24 else vrf % 2 ^ 12 * 2 ^ 16 + bits a 16 16
/-- Class key of an address already masked (R156). -/
def classKey (v6 : Bool) (vrf a : Nat) : Nat := vrf % 2 ^ 12 * 2 ^ (if v6 then 128 else 32) + a

/-- Key width of a table's kind (R156, R182); `words` is the key length of a rule table. -/
def Tbl.keyBits (t : Tbl) (words : Nat) : Nat :=
  if t.kind = kFilter4 then 28 else if t.kind = kFilter6 then 36 else if t.kind = kClass4 then 44
  else if t.kind = kHead6 then 140 else if t.kind = kRule then 32 * words else if t.role = 1 then 32 else 60

/-- Line and TAG of a key in the live region. -/
def Tbl.hash (t : Tbl) (words k : Nat) : Nat × Nat := quotient k (t.keyBits words) t.seed t.mult t.lines

/-! ### SRAM lines -/

/-- Index of a line in the SRAM map: direction, logical position, line. -/
def lineKey (dir c ln : Nat) : Nat := (dir * 128 + c) * 49152 + ln

/-- A line of four empty filter slots: TAG 0xF_FFFF, other bits 0 (R516). -/
def filterEmpty : Nat :=
  let e := 0xFFFFF * 2 ^ 44
  e + e * 2 ^ 64 + e * 2 ^ 128 + e * 2 ^ 192

/-- What a line not written since reset or the loader's latest fill holds (R516). (DEDUCED, log entry 25.) -/
def State.lineReset (s : State) (dir c ln : Nat) : Nat :=
  match s.tm.fills.find? (fun f => decide (f.dir = dir) && f.reg.holds c ln) with
  | some f => if f.filter then filterEmpty else 0
  | none => 0

/-- The data of a line of a direction's replicas. (DEDUCED, log entry 25.) -/
def State.line (s : State) (dir c ln : Nat) : Nat := SMap.get (s.lineReset dir c ln) s.tm.sram (lineKey dir c ln)

/-- Uncorrectable words: none. -/
def Ecc.clean : Ecc := ⟨false, []⟩

/-- Word `w` (line * 8 + word) is uncorrectable. -/
def Ecc.bad (e : Ecc) (w : Nat) : Bool := e.all != e.flips.contains w

/-- Word `w` set uncorrectable or good. -/
def Ecc.set (e : Ecc) (w : Nat) (b : Bool) : Ecc :=
  if e.bad w = b then e
  else if e.flips.contains w then { e with flips := e.flips.filter (fun x => !decide (x = w)) }
  else { e with flips := e.flips ++ [w] }

/-- The uncorrectable words of the replica of logical position `c` in strip `st`. -/
def State.eccOf (s : State) (st c : Nat) : Ecc := SMap.get Ecc.clean s.tm.ecc (st * 128 + c)

/-- Word `w` of a line is uncorrectable in strip `st`. -/
def State.wordBad (s : State) (st c ln w : Nat) : Bool := (s.eccOf st c).bad (ln * 8 + w)

/-- Some word of the line is uncorrectable in strip `st`. -/
def State.lineBad (s : State) (st c ln : Nat) : Bool := (List.range 8).any (fun w => s.wordBad st c ln w)

/-- Word `w` of a line in a strip marked uncorrectable or good. -/
def State.markWord (s : State) (st c ln w : Nat) (b : Bool) : State :=
  { s with tm := { s.tm with ecc := SMap.upd Ecc.clean s.tm.ecc (st * 128 + c) (fun e => e.set (ln * 8 + w) b) } }

/-- A write of R118 to bits `[lo+n-1:lo]` of a line, `lo` and `n` multiples of 32: into all eight replicas with fresh check
bits for the words written. (DEDUCED, log entry 25.) -/
def State.writeLine (s : State) (dir c ln lo n v : Nat) : State :=
  let d := s.lineReset dir c ln
  let k := lineKey dir c ln
  let s := { s with tm := { s.tm with sram := SMap.put d s.tm.sram k (setBits (SMap.get d s.tm.sram k) lo n v) } }
  (List.range 8).foldl (fun s i =>
    (List.range (n / 32)).foldl (fun s w => s.markWord (dir * 8 + i) c ln (lo / 32 + w) false) s) s

/-! ### Entries -/

/-- The parts of slot `sl` of region `r`: logical position, line, lowest bit and width, in the order of the entry (R180). -/
def Tbl.parts (t : Tbl) (r : Bool) (sl : Nat) : List (Nat × Nat × Nat × Nat) :=
  let g := t.region r
  let l := sl / t.perLine
  let p := sl % t.perLine
  let lpc := max g.lpc 1
  let ln := g.firstLine + l % lpc
  let c := g.firstCell + t.width * (l / lpc)
  if t.width = 3 then [(c + p, ln, 0, 256), (c + 2, ln, 128 * p, 128)]
  else if t.width = 2 then [(c, ln, 0, 256), (c + 1, ln, 0, 256)]
  else [(c, ln, p * t.bytes * 8, t.bytes * 8)]

/-- The entry at a slot of a region. -/
def State.entry (s : State) (t : Tbl) (r : Bool) (sl : Nat) : Nat :=
  ((t.parts r sl).foldr (fun (c, ln, lo, n) a => a * 2 ^ n + bits (s.line t.dir c ln) lo n) 0)

/-- The entry at a slot of the live region. -/
def State.slotOf (s : State) (t : Tbl) (sl : Nat) : Nat := s.entry t t.live sl

/-- The words of a slot as (position, line, word), lowest first. -/
def Tbl.words (t : Tbl) (r : Bool) (sl : Nat) : List (Nat × Nat × Nat) :=
  (t.parts r sl).flatMap (fun (c, ln, lo, n) => (List.range (n / 32)).map (fun w => (c, ln, lo / 32 + w)))

/-- The slot holds an uncorrectable word in strip `st`. -/
def State.slotBad (s : State) (st : Nat) (t : Tbl) (sl : Nat) : Bool :=
  (t.words t.live sl).any (fun (c, ln, w) => s.wordBad st c ln w)

/-- Words `[from_, from_ + n)` of the slot include an uncorrectable one in strip `st`. -/
def State.slotWordsBad (s : State) (st : Nat) (t : Tbl) (sl from_ n : Nat) : Bool :=
  (((t.words t.live sl).drop from_).take n).any (fun (c, ln, w) => s.wordBad st c ln w)

/-- Some word of the slot's lines is uncorrectable in strip `st` (UNC of R161). -/
def State.hashLineBad (s : State) (st : Nat) (t : Tbl) (l : Nat) : Bool :=
  ((List.range t.perLine).flatMap (fun p => t.words t.live (l * t.perLine + p))).any (fun (c, ln, w) => s.wordBad st c ln w)

/-- An entry written whole at a slot of a region, into all replicas. -/
def State.writeEntry (s : State) (t : Tbl) (r : Bool) (sl v : Nat) : State :=
  ((t.parts r sl).foldl (fun (a : State × Nat) (c, ln, lo, n) =>
    (a.1.writeLine t.dir c ln lo n (a.2 % 2 ^ n), a.2 / 2 ^ n)) (s, v)).1

/-- The physical cell that holds logical position `L` of strip `st`. -/
def State.physOf (s : State) (st c : Nat) : Nat := st * 132 + s.rfi FE_CELLS.LOGICAL_MAP.POSITION (st * 128 + c)

/-- State of a physical cell: 0 MAPPED, 1 SPARE, 2 REBUILDING, 3 FENCED, 4 TESTING, 5 TESTED_OK (R131). -/
def State.cellState (s : State) (n : Nat) : Nat := s.rfi FE_CELLS.CELL_STATE.STATE n

/-- The cell for logical position `c` of strip `st` is MAPPED. -/
def State.cellMapped (s : State) (st c : Nat) : Bool := decide (s.cellState (s.physOf st c) = 0)

/-- The strip a command read of the table's lines takes: the lowest of the direction whose cell is MAPPED (R118). -/
def State.readStrip (s : State) (dir c : Nat) : Nat :=
  (((List.range 8).map (· + dir * 8)).find? (fun st => s.cellMapped st c)).getD (dir * 8)

/-- A word is uncorrectable in every replica that is MAPPED (R124, R186, R193). -/
def State.wordLost (s : State) (dir c ln w : Nat) : Bool :=
  (List.range 8).all (fun i => !s.cellMapped (dir * 8 + i) c || s.wordBad (dir * 8 + i) c ln w)

/-- The slot holds a word that no replica holds correctably. -/
def State.slotLost (s : State) (t : Tbl) (sl : Nat) : Bool := (t.words t.live sl).any (fun (c, ln, w) => s.wordLost t.dir c ln w)

/-- The same for words `[from_, from_ + n)` of the slot. -/
def State.slotWordsLost (s : State) (t : Tbl) (sl from_ n : Nat) : Bool :=
  (((t.words t.live sl).drop from_).take n).any (fun (c, ln, w) => s.wordLost t.dir c ln w)

/-- The same for the reading half of a write, which takes the one replica that R118 names (R189). -/
def State.slotWordsGone (s : State) (t : Tbl) (sl from_ n : Nat) : Bool :=
  (((t.words t.live sl).drop from_).take n).any (fun (c, ln, w) => s.wordBad (s.readStrip t.dir c) c ln w)

/-- The slot holds a word that is uncorrectable in the replica a write reads (R118, R189). -/
def State.slotGone (s : State) (t : Tbl) (sl : Nat) : Bool :=
  (t.words t.live sl).any (fun (c, ln, w) => s.wordBad (s.readStrip t.dir c) c ln w)

/-! ### Stored keys (R158 to R160, R172, R173, R144) -/

/-- The slot's content counts as an entry of its kind: not an empty slot (R157, R197). -/
def Tbl.occupied (t : Tbl) (v : Nat) : Bool :=
  if t.kind = kFilter4 || t.kind = kFilter6 then decide (bits v 44 20 ≠ 0xFFFFF)
  else if t.kind = kClass4 then bit v 20
  else if t.kind = kHead6 then bit v 0
  else if t.kind = kRule then bit v 261 || bit v 262
  else if t.kind = kExact then (if t.role = 1 then bit v 32 else bit v 60)
  else true

/-- What is compared against the searched key: the TAG of a route table, the key of an exact table, (MASK_ID, KEY) of a
rule. -/
def Tbl.keyField (t : Tbl) (v : Nat) : Nat :=
  if t.kind = kFilter4 || t.kind = kFilter6 then bits v 44 20
  else if t.kind = kClass4 then bits v 24 40
  else if t.kind = kHead6 then bits v 1 127
  else if t.kind = kRule then bits v 0 261
  else if t.role = 1 then bits v 0 32 else bits v 0 60

/-- The words of a slot that hold its key: first word and count. -/
def Tbl.keyWords (t : Tbl) : Nat × Nat :=
  if t.kind = kFilter4 || t.kind = kFilter6 then (1, 1)
  else if t.kind = kClass4 then (0, 2)
  else if t.kind = kHead6 then (0, 4)
  else if t.kind = kRule then (0, 9)
  else if t.role = 1 then (0, 2) else (0, 2)

/-- The hash key (K of R156, R182) of an exact-table entry image. -/
def Tbl.exactKey (t : Tbl) (v : Nat) : Nat := if t.role = 1 then bits v 0 32 else bits v 0 60

/-- The slots of hash line `l`. -/
def Tbl.lineSlots (t : Tbl) (l : Nat) : List Nat := (List.range t.perLine).map (fun p => l * t.perLine + p)

/-- The slot of line `l` whose occupied entry holds `key`, with readable key words (R193): for a write readable in the replica that
R118 names, for a read in some replica. -/
def State.findSlot (s : State) (write : Bool) (t : Tbl) (l key : Nat) : Option Nat :=
  (t.lineSlots l).find? (fun sl =>
    t.occupied (s.slotOf t sl) && decide (t.keyField (s.slotOf t sl) = key) &&
      !(if write then s.slotWordsGone t sl t.keyWords.1 t.keyWords.2 else s.slotWordsLost t sl t.keyWords.1 t.keyWords.2))

/-- A free slot of line `l`; a slot with an uncorrectable word in the replica a write reads counts as occupied (R189, R193). -/
def State.freeSlot (s : State) (t : Tbl) (l : Nat) : Option Nat :=
  (t.lineSlots l).find? (fun sl => !t.occupied (s.slotOf t sl) && !s.slotGone t sl)

/-- The empty content of a slot of the table's kind (R197). -/
def Tbl.emptySlot (t : Tbl) : Nat := if t.kind = kFilter4 || t.kind = kFilter6 then 0xFFFFF * 2 ^ 44 else 0

/-- The CNT field of a table's entries in FE.LPM or FE.EXM (R176, R177). -/
def Tbl.cntFld (t : Tbl) : Option (Fld × Nat) :=
  if t.kind = kFilter4 then some (FE_LPM.FILTER4_CNT.COUNT, 0)
  else if t.kind = kFilter6 then some (FE_LPM.FILTER6_CNT.COUNT, 0)
  else if t.kind = kClass4 then some (FE_LPM.CLASS4_CNT.COUNT, t.cls)
  else if t.kind = kHead6 then some (FE_LPM.CLASS6_CNT.COUNT, t.cls)
  else if t.role = 1 then some (FE_EXM.MPLS_CNT.COUNT, 0)
  else if t.role = 2 then some (FE_EXM.MAC_CNT.COUNT, 0)
  else none

/-- One entry more, or one less, is present in the table. (DEDUCED, log entry 9.) -/
def State.countEntry (s : State) (t : Tbl) (more : Bool) : State :=
  match t.cntFld with
  | none => s
  | some (f, i) => s.setCnt f i (if more then s.rfi f i + 1 else s.rfi f i - 1)

/-- A slot emptied; the count falls when it held an entry. -/
def State.emptyOut (s : State) (t : Tbl) (sl : Nat) : State :=
  let was := t.occupied (s.slotOf t sl)
  let s := s.writeEntry t t.live sl t.emptySlot
  if was then s.countEntry t false else s

/-- A segment's size in hash lines: LINES / 256 rounded up (R187). -/
def segSize (lines : Nat) : Nat := max (ceilDiv lines 256) 1

/-- The locked segment of the live region that holds hash line `l` (R187). -/
def State.lockedSeg (s : State) (t : Tbl) (l : Nat) : Option Nat :=
  let k := l / segSize t.lines
  if s.tm.locks.any (fun x => decide (x.dir = t.dir) && decide (x.table = t.id) && decide (x.reg = t.liveReg) && decide (x.seg = k))
  then some k else none

/-- The active layout. -/
def State.layout (s : State) : Bank := s.bank s.activeBank

/-- The table's layout differs between the banks from arming until retirement (R96). -/
def State.layoutMoving (s : State) (t : Tbl) : Bool :=
  s.bankInUse && decide (s.bankA.tblDir t.dir t.id ≠ s.bankB.tblDir t.dir t.id)

/-- The table of the active layout with an ID; none in NO_EPOCH. -/
def State.tblOf (s : State) (id : Nat) : Option Tbl := if s.noEpoch then none else s.layout.tblId id

/-- The registers that show the active layout (R176, R177, R209): TABLE_IDs by role, line counts, sizes and live regions.
(DEDUCED, log entry 9.) -/
def State.showLayout (s : State) : State :=
  if s.noEpoch then s
  else
    let b := s.layout
    let idOf := fun (t : Option Tbl) => (t.map (fun t => t.id)).getD 0xFF
    let linesOf := fun (t : Option Tbl) => (t.map (fun t => t.lines)).getD 0
    let sizeOf := fun (t : Option Tbl) => (t.map (fun t => t.slots)).getD 0
    let s := (s.wf FE_LPM.ROUTE_IDS.FILTER4 (idOf (b.tblKind kFilter4 0))).wf FE_LPM.ROUTE_IDS.FILTER6 (idOf (b.tblKind kFilter6 0))
    let s := (s.wf FE_LPM.ROUTE_IDS.CLASS4 (idOf (b.tblKind kClass4 0))).wf FE_LPM.ROUTE_IDS.CLASS6 (idOf (b.tblKind kHead6 0))
    let s := (s.wf FE_LPM.FILTER4_LINES.LINES (linesOf (b.tblKind kFilter4 0))).wf FE_LPM.FILTER6_LINES.LINES
      (linesOf (b.tblKind kFilter6 0))
    let s := (List.range 4).foldl (fun s c =>
      (s.wfi FE_LPM.CLASS4_LINES.LINES c (linesOf (b.tblKind kClass4 c))).wfi FE_LPM.CLASS6_LINES.LINES c (linesOf (b.tblKind kHead6 c))) s
    let s := (s.wf FE_EXM.EXM_IDS.MPLS (idOf (b.tblRole 1))).wf FE_EXM.EXM_IDS.MAC (idOf (b.tblRole 2))
    let s := (s.wf FE_EXM.EXM_IDS.NH (idOf (b.tblRole 3))).wf FE_EXM.EXM_IDS.GROUP (idOf (b.tblRole 4))
    let s := (s.wf FE_EXM.MEMBER_ID.MEMBER (idOf (b.tblRole 5))).wf FE_EXM.NH_SIZE.ENTRIES (sizeOf (b.tblRole 3))
    let s := (s.wf FE_EXM.GROUP_SIZE.ENTRIES (sizeOf (b.tblRole 4))).wf FE_EXM.MEMBER_SIZE.ENTRIES (sizeOf (b.tblRole 5))
    (List.range 256).foldl (fun s k =>
      s.wfi FE_TCMD.LIVE.REGION k (match b.tblId k with
        | some t => b2n t.live
        | none => 0)) s

end Sys2Proof.Machine
end

