-- ==== Sys2Proof/Machine/Cells.lean ====
section
/-! DEFINITION. The cell array's faults: self-checks and fences (R120, R121), spare remaps and fault windows (R122 to R127),
fenced cells that speak (R128), the cell commands (R129, R130) and the slot image store (R117). -/

namespace Sys2Proof.Machine

/-! ### Strips and cells -/

def csMapped : Nat := 0
def csSpare : Nat := 1
def csRebuilding : Nat := 2
def csFenced : Nat := 3
def csTesting : Nat := 4
def csTestedOk : Nat := 5

def stripRun : Nat := 0
def stripRemap : Nat := 1
def stripDown : Nat := 2

/-- STRIP_STATUS.STATE of strip `st` (R131). -/
def State.stripState (s : State) (st : Nat) : Nat := s.rfi FE_CELLS.STRIP_STATUS.STATE st

/-- Physical cells of strip `st` in a state, lowest position first. -/
def State.cellsIn (s : State) (st v : Nat) : List Nat :=
  ((List.range 132).map (fun p => st * 132 + p)).filter (fun n => decide (s.cellState n = v))

/-- A cell changes state; STRIP_STATUS.SPARES counts the cells in SPARE or TESTING. -/
def State.setCell (s : State) (n v : Nat) : State :=
  let s := s.wfi FE_CELLS.CELL_STATE.STATE n v
  s.wfi FE_CELLS.STRIP_STATUS.SPARES (n / 132) ((s.cellsIn (n / 132) csSpare).length + (s.cellsIn (n / 132) csTesting).length)

/-- The logical position of strip `st` that physical cell `n` holds, if it holds one. -/
def State.logicalOf (s : State) (n : Nat) : Option Nat :=
  (List.range 128).find? (fun l => decide (s.physOf (n / 132) l = n))

/-- The fault window of a strip. -/
def StripRec.none : StripRec := ⟨[], 0⟩
def State.stripRec (s : State) (st : Nat) : StripRec := SMap.get StripRec.none s.ca.strips st

/-- The fault window of a strip replaced; WAITING counts the remaps that have not started. -/
def State.setStripRec (s : State) (st : Nat) (r : StripRec) : State :=
  let s := { s with ca := { s.ca with strips := SMap.put StripRec.none s.ca.strips st r } }
  s.wfi FE_CELLS.STRIP_STATUS.WAITING st (r.remaps.filter (fun m => !m.active && !m.done)).length

/-- The remap in progress in a strip. -/
def State.remapNow (s : State) (st : Nat) : Option Remap := (s.stripRec st).remaps.find? (fun m => m.active)

/-- The remap of a logical cell replaced by `f` of it. -/
def State.updRemap (s : State) (st l : Nat) (f : Remap → Remap) : State :=
  let r := s.stripRec st
  s.setStripRec st { r with remaps := r.remaps.map (fun m => if m.logical = l then f m else m) }

/-- The direction's page of pipeline counters and the pipelines of a strip: egress for strips 8 to 15. -/
def stripPipes (st : Nat) : List Nat := [2 * (st % 8), 2 * (st % 8) + 1]

/-- Where the packets of a pipeline's strip stand. -/
def stripLoc (egr : Bool) (pipe : Nat) : Loc := if egr then .estrip pipe else .strip pipe

/-- FAULT_DROP of a pipeline. -/
def faultDropFld (egr : Bool) : Fld := if egr then FE_PIPEE.FAULT_DROP.COUNT else FE_PIPEI.FAULT_DROP.COUNT

/-- Packets dropped in the fault window of a strip are counted in FAULT_DROP of their pipeline and in the window (R122). -/
def State.faultDrops (s : State) (st pipe n : Nat) : State :=
  let s := s.satLater (faultDropFld (decide (8 ≤ st))) 0 pipe n
  let r := s.stripRec st
  s.setStripRec st { r with drops := r.drops + n }

/-- Every packet in the strip's pipelines is dropped (R122); lost packets are departures (R97). -/
def State.dropStrip (s : State) (st : Nat) : State :=
  (stripPipes st).foldl (fun s p =>
    let ps := s.at_ (stripLoc (decide (8 ≤ st)) p)
    (s.dropAll ps).faultDrops st p ps.length) s

/-- FAULT_WINDOW is raised on both pipelines of a strip that leaves RUN. -/
def State.faultWindow (s : State) (st logical : Nat) : State :=
  (stripPipes st).foldl (fun s p =>
    s.raise (if 8 ≤ st then Ev.FE_PIPEE.FAULT_WINDOW else Ev.FE_PIPEI.FAULT_WINDOW) 0 0 p logical) s

/-- The ports of a strip's four port groups. -/
def stripPorts (st : Nat) : List Nat := (List.range 32).map (fun k => st % 8 * 32 + k)

/-- State of a network port beyond registers, at reset. -/
def NetPort.zero : NetPort := ⟨0, 0, false, 0, 0, [], false, 0, 0⟩
def State.netPort (s : State) (p : Nat) : NetPort := SMap.get NetPort.zero s.net.ports p
def State.updNetPort (s : State) (p : Nat) (f : NetPort → NetPort) : State :=
  { s with net := { s.net with ports := SMap.upd NetPort.zero s.net.ports p f } }

/-- The port sends remote fault (R127, R219): under FORCE_RF, while a strip of its direction's ports is DOWN and DOWN_LINK_FAULT asks
for it, and while its link is down by a local fault, which loss of signal is too. (DEDUCED, log entry 11.) -/
def State.wantsRf (s : State) (p : Nat) : Bool :=
  s.portEnabled p && (s.pgb FE_PG.PORT_CFG.FORCE_RF p ||
    (s.rfb FE_CELLS.CTRL.DOWN_LINK_FAULT && (decide (s.stripState (p / 32) = stripDown) || decide (s.stripState (8 + p / 32) = stripDown))) ||
    (!s.pgb FE_PG.PORT_STATUS.LINK_UP p && (s.pgb FE_PG.PORT_STATUS.LOS p || s.pgb FE_PG.PORT_STATUS.LOCAL_FAULT p)))

/-- The port starts or stops sending remote fault after a change of what asks for it. (DEDUCED, log entry 11.) -/
def State.rfUpdate (s : State) (p : Nat) : State :=
  let w := s.wantsRf p
  if (s.netPort p).rf = w then s else (s.updNetPort p (fun x => { x with rf := w })).emit (.remoteFault p w)

/-- The strip enters DOWN (R127): STRIP_DOWN, and remote fault on its ports when DOWN_LINK_FAULT asks for it.
(DEDUCED, log entry 11.) -/
def State.stripGoDown (s : State) (st logical : Nat) : State :=
  let s := s.wfi FE_CELLS.STRIP_STATUS.STATE st stripDown
  let s := (stripPorts st).foldl (fun s p => s.rfUpdate p) s
  s.raise Ev.FE_CELLS.STRIP_DOWN 0 0 st logical

/-! ### The copy (R122 to R124) -/

/-- The source strip of a copy: the first candidate whose cell is MAPPED (R124). -/
def State.copySource (s : State) (st l : Nat) : Option Nat :=
  let b := st / 8 * 8
  ((List.range 7).map (fun k => b + (st - b + k + 1) % 8)).find? (fun x => s.cellMapped x l)

/-- Words uncorrectable in both of two replicas. -/
def Ecc.meet (a b : Ecc) : Ecc :=
  if a.all then
    if b.all then ⟨true, a.flips ++ b.flips.filter (fun w => !a.flips.contains w)⟩
    else ⟨false, b.flips.filter (fun w => !a.flips.contains w)⟩
  else ⟨false, a.flips.filter (fun w => b.bad w)⟩

/-- The words of a logical position that no candidate of a copy holds correctably; all words without a candidate. -/
def State.copyEcc (s : State) (st l : Nat) : Ecc :=
  let b := st / 8 * 8
  let cs := ((List.range 8).map (· + b)).filter (fun x => decide (x ≠ st) && s.cellMapped x l)
  cs.foldl (fun e x => e.meet (s.eccOf x l)) ⟨true, []⟩

/-- The replica of a position takes an uncorrectable-word map. -/
def State.setEcc (s : State) (st l : Nat) (e : Ecc) : State :=
  { s with tm := { s.tm with ecc := SMap.put Ecc.clean s.tm.ecc (st * 128 + l) e } }

/-- The lines of a map that hold an uncorrectable word. -/
def Ecc.badLines (e : Ecc) : List Nat :=
  (List.range 49152).filter (fun ln => (List.range 8).any (fun w => e.bad (ln * 8 + w)))

/-- Copy of position `l` into a spare starts at its first line (R124): the source is chosen; a copy
without one marks every word uncorrectable. -/
def State.copyStart (s : State) (st l : Nat) : State :=
  let src := s.copySource st l
  let s := s.updRemap st l (fun m => { m with src := src })
  let s := s.wfi FE_CELLS.STRIP_STATUS.SOURCE st (src.getD 0)
  let s := s.arm .remap st 49152
  match src with
  | some _ => s
  | none => (s.setEcc st l ⟨true, []⟩).raise Ev.FE_CELLS.COPY_UNCORRECTABLE 0 0 (st * 128 + l) 0xFFFFFFFF

/-- The TESTING cells of a strip that were SPARE before their test, lowest position first: a cell that was FENCED comes back into use
only by PASS and CELL_UNFENCE (R128). -/
def State.testedSpares (s : State) (st : Nat) : List Nat :=
  (s.cellsIn st csTesting).filter (fun n => s.ca.tests.any (fun t => decide (t.phys = n) && decide (t.from_ = csSpare)))

/-- The spare a remap takes: the SPARE cell with the lowest position, or the one its CELL_REMAP names; without a SPARE cell
the spare in TESTING with the lowest position (R122). -/
def State.spareFor (s : State) (st : Nat) (want : Option Nat) : Option Nat :=
  match want with
  | some p => if s.cellState (st * 132 + p) = csSpare then some (st * 132 + p) else none
  | none =>
    match (s.cellsIn st csSpare).head? with
    | some n => some n
    | none => (s.testedSpares st).head?

/-- A cell command that may be absent finishes. -/
def State.finishO (s : State) (c : Option Nat) (status detail result : Nat) : State :=
  match c with
  | some id => s.finishR id status detail result
  | none => s

/-- A test that a remap ends: the command completes ABORTED and the cell is SPARE again (R130). -/
def State.testAbort (s : State) (n : Nat) : State :=
  match s.ca.tests.find? (fun t => decide (t.phys = n)) with
  | none => s
  | some t =>
    let s := { s with ca := { s.ca with tests := s.ca.tests.filter (fun t => !decide (t.phys = n)) } }
    let s := s.disarm .cellTest n
    (match t.cmd with
     | some id => s.abortCmd id
     | none => s).setCell n csSpare

/-- A BLOCK reset of FE.CELLS (R59, R409): the cell commands in execution complete ABORTED. Fences and the remaps in progress go on
without their commands; a cell whose CELL_TEST is aborted is as before the test. (DEDUCED, log entry 11.) -/
def State.cellsReset (s : State) : State :=
  let ts := s.ca.tests.filter (fun t => t.cmd.isSome)
  let s := s.abortBlock 72
  let s : State := { s with ca := { s.ca with
    tests := s.ca.tests.filter (fun t => t.cmd.isNone),
    strips := s.ca.strips.map (fun e => (e.1, { e.2 with remaps := e.2.remaps.map (fun m => { m with cmd := none }) })) } }
  ts.foldl (fun s t => (s.disarm .cellTest t.phys).setCell t.phys t.from_) s

/-- The remap of position `l` of a strip takes cell `n` and its copy starts (R122 steps 2 to 4). -/
def State.remapTake (s : State) (st l n : Nat) : State :=
  let s := if s.cellState n = csTesting then s.testAbort n else s
  let s := s.setCell n csRebuilding
  let s := s.updRemap st l (fun m => { m with active := true, phys := n, auto := true, want := none })
  let s := (s.wfi FE_CELLS.STRIP_STATUS.STATE st stripRemap).wfi FE_CELLS.STRIP_STATUS.REBUILD_L st l
  let s := (stripPorts st).foldl (fun s p => s.rfUpdate p) s
  let s := if s.rfi FE_CELLS.STRIP_STATUS.SPARES st = 0 then s.raise Ev.FE_CELLS.SPARES_EXHAUSTED 0 0 st 0 else s
  s.copyStart st l

/-- The words of a logical cell's slot memory that the image store has lost (R117). -/
def State.slotStoreLost (s : State) (logical : Nat) : Bool := s.ca.storeLost.any (fun e => decide (e.1 / 256 = logical) && e.2)

/-- The remaps of a fault window that wait are started, in the order of their fences, as far as one may start: it starts
on its own or a CELL_REMAP names it, its slot words are in the store, and a spare is there. Otherwise the strip is DOWN. -/
def State.remapNext (s : State) (st logical : Nat) : State :=
  match (s.stripRec st).remaps.find? (fun m => !m.done && !m.active && m.auto && !s.slotStoreLost (st * 128 + m.logical)) with
  | none => if s.stripState st = stripDown then s else s.stripGoDown st logical
  | some m =>
    match s.spareFor st m.want with
    | some n => s.remapTake st m.logical n
    | none => if s.stripState st = stripDown then s else s.stripGoDown st logical

/-- The strip resumes (R122 step 6, R125): REMAP_DONE, REMAP_TOTAL and the RESULT of each remap of the window, in the order of
their fences. -/
def State.stripResume (s : State) (st : Nat) : State :=
  let r := s.stripRec st
  let s := s.wfi FE_CELLS.STRIP_STATUS.STATE st stripRun
  let s := s.setStripRec st StripRec.none
  r.remaps.foldl (fun s m =>
    let cyc := s.cycle - m.fenceAt
    let lg := st * 128 + m.logical
    let s := s.sat1 FE_CELLS.REMAP_TOTAL.COUNT
    let s := (s.wf FE_CELLS.LAST_REMAP.LOGICAL lg).wf FE_CELLS.LAST_REMAP.PHYS m.phys
    let s := (s.wf FE_CELLS.LAST_REMAP_CYCLES.CYCLES cyc).setCnt FE_CELLS.LAST_REMAP_DROPS.COUNT 0 (min r.drops (2 ^ 32 - 1))
    let s := s.raise Ev.FE_CELLS.REMAP_DONE 0 0 lg cyc
    match m.cmd with
    | some id => s.finishR id stOK 0 (m.phys + cyc % 2 ^ 32 * 2 ^ 32 + min r.drops (2 ^ 32 - 1) * 2 ^ 64)
    | none => s) s

/-- REMAP_DONE (R122, R124): the copy of a strip ends `extra` cycles after the shortest time of one line a cycle: words that
no candidate holds correctably are marked, LOGICAL_MAP is updated, and the next remap follows or the strip resumes.
(DEDUCED, log entry 11.) -/
def State.remapDone (s : State) (st extra : Nat) : State :=
  match s.timerAt .remap st, s.remapNow st with
  | some d, some m =>
    let s := (s.advanceTo (d + extra)).disarm .remap st
    let lg := st * 128 + m.logical
    let s := match m.src with
      | none => s
      | some _ =>
        let e := s.copyEcc st m.logical
        let s := s.setEcc st m.logical e
        if e = Ecc.clean then s
        else e.badLines.foldl (fun s ln => s.raise Ev.FE_CELLS.COPY_UNCORRECTABLE 0 0 lg ln) s
    let s := s.wfi FE_CELLS.LOGICAL_MAP.POSITION lg (m.phys % 132)
    let s := s.setCell m.phys csMapped
    let s := s.updRemap st m.logical (fun m => { m with active := false, done := true })
    if (s.stripRec st).remaps.all (fun m => m.done) then s.stripResume st else s.remapNext st lg
  | _, _ => s

/-! ### Fences -/

/-- A copy whose source strip has lost its cell restarts at line 0 from the next candidate (R124). -/
def State.sourceLost (s : State) (st l : Nat) : State :=
  (List.range 16).foldl (fun s x =>
    match s.remapNow x with
    | some m =>
      if m.logical = l && m.src = some st then
        let s := s.copyStart x l
        let new := ((s.remapNow x).bind (fun m => m.src))
        s.raiseO Ev.FE_CELLS.SOURCE_RETRY 0 (some 0) (some (x * 128 + l)) new
      else s
    | none => s) s

/-- The registers and the event of a fence (R120, R121); a cause other than 5 enters the fault record (R477). -/
def State.fenceNote (s : State) (n cause : Nat) (logical : Option Nat) : State :=
  let s := (s.setCell n csFenced).sat1 FE_CELLS.FAULT_TOTAL.COUNT
  let s := (s.wf FE_CELLS.LAST_FENCE.PHYS n).wf FE_CELLS.LAST_FENCE.CAUSE cause
  let s : State := { s with ca := { s.ca with spoke := s.ca.spoke.filter (fun x => !decide (x = n)) } }
  let s : State := if cause = 5 || s.flash.faults.contains n then s
    else { s with flash := { s.flash with faults := s.flash.faults ++ [n] } }
  s.raiseO Ev.FE_CELLS.CELL_FENCED 0 (some cause) (some n) logical

/-- A MAPPED cell is fenced: its strip leaves RUN and drops its packets, or the new fault waits behind the others (R121, R122,
R125). -/
def State.fenceMapped (s : State) (n cause : Nat) (cmd : Option Nat) (want : Option Nat) : State :=
  match s.logicalOf n with
  | none => s
  | some l =>
    let st := n / 132
    let lg := st * 128 + l
    let was := s.stripState st
    let auto := s.rfb FE_CELLS.CTRL.AUTO_REMAP || cmd.isSome
    let r := s.stripRec st
    let s := s.setStripRec st { r with remaps := r.remaps ++ [⟨l, s.cycle, cmd, want, 0, none, auto, false, false⟩] }
    let s := s.fenceNote n cause (some lg)
    let s := s.sourceLost st l
    if was = stripRun then
      let s := (s.wfi FE_CELLS.STRIP_STATUS.STATE st stripRemap).dropStrip st
      (s.faultWindow st lg).remapNext st lg
    else if was = stripDown then s.remapNext st lg
    else s

/-- A REBUILDING cell is fenced (R124): the next spare is taken and the remap restarts; without one the strip is DOWN and a
CELL_REMAP that waits completes NOT_FOUND. -/
def State.fenceRebuilding (s : State) (n cause : Nat) : State :=
  let st := n / 132
  match s.remapNow st with
  | none => s
  | some m =>
    let lg := st * 128 + m.logical
    let s := s.fenceNote n cause (some lg)
    let s := s.updRemap st m.logical (fun m => { m with active := false, auto := true, want := none })
    match s.spareFor st none with
    | some x => s.remapTake st m.logical x
    | none =>
      let s := s.disarm .remap st
      let s := match m.cmd with
        | some id => s.finishR id stNotFound 0 0
        | none => s
      (s.updRemap st m.logical (fun m => { m with cmd := none })).stripGoDown st lg

/-- A test in progress ends as a failure (R130): the cell is fenced with cause 6 and the command completes OK with PASS 0. -/
def State.testFail (s : State) (n unit line : Nat) : State :=
  match s.ca.tests.find? (fun t => decide (t.phys = n)) with
  | none => s
  | some t =>
    let s := { s with ca := { s.ca with tests := s.ca.tests.filter (fun t => !decide (t.phys = n)) } }
    ((s.disarm .cellTest n).fenceNote n 6 none).finishO t.cmd stOK 0 (unit % 8 * 2 + line % 2 ^ 32 * 2 ^ 32)

/-- The cause a finding fences with; none when it does not fence (R120). -/
def fenceCause : CellFinding → Option Nat
  | .parity => some 1
  | .lockstep => some 2
  | .slotCorrected _ => none
  | .slotUncorrectable _ => some 3
  | .maintPort => some 4
  | .selfTest => some 6

/-- A slot word is corrected: SLOT_CORR and SLOT_CORRECTED (R120). -/
def State.slotCorrected (s : State) (n word : Nat) : State :=
  (s.sat1 FE_CELLS.SLOT_CORR.COUNT).raise Ev.FE_CELLS.SLOT_CORRECTED 0 0 n word

/-- CELL_CHECK_ERROR (R120, R121, R130): a self-check of physical cell `n` finds an error; the clock has moved to the cycle of
the fence, which is at most 8 cycles after the error. A fenced cell's outputs reach nothing. -/
def State.cellCheckError (s : State) (n : Nat) (f : CellFinding) (unit : Nat) : State :=
  if 2112 ≤ n || s.inReset 72 then s
  else
    let st := s.cellState n
    match fenceCause f with
    | none =>
      match f with
      | .slotCorrected w => if st = csMapped && w < 256 then s.slotCorrected n w else s
      | _ => s
    | some c =>
      if st = csMapped then s.fenceMapped n c none none
      else if st = csRebuilding then s.fenceRebuilding n c
      else if st = csTesting then
        let (line, s) := s.freeVal
        s.testFail n unit line
      else if st = csSpare then s.fenceNote n (if f = .selfTest then 6 else c) none
      else if st = csTestedOk then s.fenceNote n c none
      else s

/-- SLOT_SCRUB (R120): the scrub of the inactive slot bank meets the listed (physical cell, word) errors and rewrites the
words from the store. -/
def State.slotScrub (s : State) (errs : List (Nat × Nat)) : State :=
  errs.foldl (fun s e =>
    if e.1 < 2112 && e.2 < 256 && s.cellState e.1 = csMapped && decide (e.2 / 128 = b2n (!s.activeBank)) then s.slotCorrected e.1 e.2
    else s) s

def execSlotScrub (errs : List (Nat × Nat)) (s : State) : Host.Outcome State Fault Refusal :=
  .next (s.onFe (fun s => s.slotScrub errs))

/-- SLOT_STORE_SCRUB (R117): the scrub of the store meets the listed words (logical cell, word, both copies uncorrectable). A
word with one good copy is rewritten from it; one with none is lost. -/
def State.storeScrub (s : State) (errs : List (Nat × Nat × Bool)) : State :=
  errs.foldl (fun s (l, w, both) =>
    if l < 2048 && w < 256 && both then
      let s := { s with ca := { s.ca with storeLost := SMap.put false s.ca.storeLost (l * 256 + w) true } }
      s.raise Ev.FE_CELLS.STORE_LOST 0 0 l w
    else s) s

def execSlotStoreScrub (errs : List (Nat × Nat × Bool)) (s : State) : Host.Outcome State Fault Refusal :=
  .next (s.onFe (fun s => s.storeScrub errs))

/-- FENCED_CELL_ACTIVITY (R128): a FENCED cell drives an output in one core cycle: counted, and raised the first time after its
fence. -/
def State.fencedActivity (s : State) (n : Nat) : State :=
  if n < 2112 && s.cellState n = csFenced then
    let s := s.sat1 FE_CELLS.FENCED_ACTIVITY.COUNT
    if s.ca.spoke.contains n then s
    else ({ s with ca := { s.ca with spoke := s.ca.spoke ++ [n] } } : State).raise Ev.FE_CELLS.FENCED_CELL_ACTIVITY 0 0 n 0
  else s

def execFencedCellActivity (phys : Nat) (s : State) : Host.Outcome State Fault Refusal :=
  .next (s.onFe (fun s => s.fencedActivity phys))

/-! ### Cell commands (R129) -/

/-- CELL_REMAP (R129): see the table of R129 for its outcomes; a strip in REMAP makes the command wait. A cell whose slot
words the store has lost is refused (R117) with ECC_FAIL. (DEDUCED, log entry 11.) -/
def State.cellRemap (s : State) (id : Nat) : State :=
  match s.startable id (fun op => decide (op = 0x40)) with
  | none => s
  | some c =>
    let lg := c.bits 64 11
    let pos := c.bits 128 8
    let st := lg / 128
    let l := lg % 128
    let n := s.physOf st l
    let want := if pos = 0xFF then none else some pos
    if 132 ≤ pos && pos ≠ 0xFF then s.finishR id stInvalid 2 0
    else if s.stripState st = stripRemap then
      match s.remapNow st with
      | some m => if m.logical = l then s.finishR id stInvalid 4 0 else s
      | none => s
    else if s.slotStoreLost lg then s.finishR id stEccFail 0 0
    else if (s.spareFor st want).isNone then s.finishR id stNotFound 0 0
    else
      let s := s.begin id
      if s.cellState n = csMapped then s.fenceMapped n 5 (some id) want
      else
        let s := s.updRemap st l (fun m => { m with cmd := some id, want := want, auto := true })
        match s.spareFor st want with
        | some x => s.remapTake st l x
        | none => s

def execCellRemap (id : Nat) (s : State) : Host.Outcome State Fault Refusal := .next (s.onFe (fun s => s.cellRemap id))

/-- CELL_TEST (R129): tests of a FENCED, SPARE or TESTED_OK cell start. -/
def State.cellTest (s : State) (id : Nat) : State :=
  match s.startable id (fun op => decide (op = 0x42)) with
  | none => s
  | some c =>
    let n := c.bits 64 12
    if 2112 ≤ n then s.finishR id stInvalid 2 0
    else
      let v := s.cellState n
      if v = csFenced || v = csSpare || v = csTestedOk then
        let s := (s.begin id).setCell n csTesting
        let s := { s with ca := { s.ca with tests := s.ca.tests ++ [(⟨n, v, some id⟩ : CellTest)] } }
        s.arm .cellTest n cyMs
      else s.finishR id stInvalid 4 0

def execCellTest (id : Nat) (s : State) : Host.Outcome State Fault Refusal := .next (s.onFe (fun s => s.cellTest id))

/-- CELL_TEST_DONE (R129): PASS leads to TESTED_OK, or to SPARE for a cell that was SPARE; FAIL to FENCED with cause 6; after
1 ms the command completes TIMEOUT and the cell is as before the test. (DEDUCED, log entry 11.) -/
def State.cellTestDone (s : State) (n : Nat) (o : TestOutcome) : State :=
  match s.ca.tests.find? (fun t => decide (t.phys = n)) with
  | none => s
  | some t =>
    match o with
    | .fail unit line => s.testFail n unit line
    | .pass =>
      let s := { s with ca := { s.ca with tests := s.ca.tests.filter (fun t => !decide (t.phys = n)) } }
      ((s.disarm .cellTest n).setCell n (if t.from_ = csSpare then csSpare else csTestedOk)).finishO t.cmd stOK 0 1
    | .timeout =>
      match s.expire .cellTest n with
      | none => s
      | some s =>
        let s := { s with ca := { s.ca with tests := s.ca.tests.filter (fun t => !decide (t.phys = n)) } }
        (s.setCell n t.from_).finishO t.cmd stTimeout 0 0

def execCellTestDone (phys : Nat) (o : TestOutcome) (s : State) : Host.Outcome State Fault Refusal :=
  .next (s.onFe (fun s => s.cellTestDone phys o))

/-- CELL_UNFENCE (R128, R129): a TESTED_OK cell becomes a spare; a remap that waits for one starts at once (R127). -/
def State.cellUnfence (s : State) (id : Nat) : State :=
  match s.startable id (fun op => decide (op = 0x41)) with
  | none => s
  | some c =>
    let n := c.bits 64 12
    if 2112 ≤ n then s.finishR id stInvalid 2 0
    else if s.cellState n = csFenced then s.finishR id stInvalid 3 0
    else if s.cellState n ≠ csTestedOk then s.finishR id stInvalid 5 0
    else
      let s := s.setCell n csSpare
      let s : State := { s with flash := { s.flash with faults := s.flash.faults.filter (fun x => !decide (x = n)) } }
      let s := if s.stripState (n / 132) = stripDown then s.remapNext (n / 132) (n / 132 * 128) else s
      s.finishR id stOK 0 0

def execCellUnfence (id : Nat) (s : State) : Host.Outcome State Fault Refusal := .next (s.onFe (fun s => s.cellUnfence id))

end Sys2Proof.Machine
end

