-- ==== Sys2Proof/Machine/Program.lean ====
section
/-! DEFINITION. The forwarding program of a bank: slot words and lookup chains (R107 to R113, R518), the parse unit (R134
to R141), the classifier chain (R143 to R146), the route probes (R161 to R163), and the walk of a packet down its
strip. -/

namespace Sys2Proof.Machine

/-! ### Slot words -/

/-- STRIP_SLOTS records (R115): the words of every position, in order; none when a record has COUNT 0 or runs past the
end. -/
def parseSlots : Nat → Bytes → Option (List (Nat × List Nat))
  | 0, _ => some []
  | _ + 1, [] => some []
  | fuel + 1, bs =>
    let pos := byteAt bs 0
    let n := byteAt bs 1
    if n = 0 || bs.length < 8 + 8 * n then none
    else
      let ws := (List.range n).map (fun i => leAt bs (8 + 8 * i) 8)
      (parseSlots fuel (bs.drop (8 + 8 * n))).map ((pos, ws) :: ·)

/-- The STRIP_SLOTS section of a strip. -/
def Bank.strip (b : Bank) (st : Nat) : Bytes :=
  ((b.secs.find? (fun x => decide (x.typ = 0x0001) && decide (x.strip = st))).map (·.data)).getD []

/-- The slot words of a strip's program as (position, word) pairs, position by position in the order of the records. -/
def Bank.slotWords (b : Bank) (st : Nat) : List (Nat × Nat) :=
  match parseSlots (b.strip st).length (b.strip st) with
  | none => []
  | some rs => rs.flatMap (fun (p, ws) => ws.map (fun w => (p, w)))

def swClass (w : Nat) : Nat := bits w 60 4
def swOp (w : Nat) : Nat := bits w 56 4
def swStage (w : Nat) : Nat := bits w 46 10
def swPipe (w : Nat) : Nat := bits w 44 2

/-- The word acts for a pipeline of the given parity (R111): bit 0 even, bit 1 odd. -/
def swActs (w : Nat) (odd : Bool) : Bool := bit (swPipe w) (if odd then 1 else 0)

/-- The opcodes of R112. -/
def swKnown (w : Nat) : Bool :=
  let c := swClass w
  let o := swOp w
  (decide (c ≤ 4) && decide (o = 0)) || (decide (c = 5) && decide (o ≤ 9)) || (decide (c = 6) && decide (o ≤ 2))

/-! ### The parse graph (R135 to R141) -/

/-- A parse state record as one number of 512 bits. -/
def Bank.parseState (b : Bank) (egr : Bool) (k : Nat) : Nat :=
  let g := b.sec 0x0010
  let ni := bits (leAt g 0 2) 0 7
  leAt g (64 * (1 + (if egr then ni else 0) + k)) 64

/-- NI and NE of the parse graph. -/
def Bank.parseCounts (b : Bank) : Nat × Nat := let h := leAt (b.sec 0x0010) 0 2; (bits h 0 7, bits h 8 7)

/-- The state of a parse walk. -/
structure Walk where
  cur : Nat
  state : Nat
  steps : Nat
  rep : Nat
  tunnels : Nat
  exts : Nat
  vlans : Nat
  mpls : Nat
  sids : Nat
  layers : List (Option (Nat × Nat))
  area : Nat
  fail : Nat
  deriving DecidableEq, Repr

/-- The ones' complement sum of 16-bit words of an IPv4 header of `n` bytes at `o`, folded. -/
def csumOk (win : Bytes) (o n : Nat) : Bool :=
  let sum := sumN ((List.range (n / 2)).map (fun i => byteAt win (o + 2 * i) * 256 + byteAt win (o + 2 * i + 1)))
  let f := sum % 65536 + sum / 65536
  let f := f % 65536 + f / 65536
  decide (f = 65535)

/-- `w` bits of the window from bit `b` of byte `o`, most significant bit first. -/
def winBits (win : Bytes) (o b w : Nat) : Nat :=
  let v := beNat ((List.range 5).map (fun i => BitVec.ofNat 8 (byteAt win (o + i))))
  v / 2 ^ (40 - b - w) % 2 ^ w

/-- One extract (R137, R138 step 6). -/
def doExtract (win : Bytes) (cur rep x area : Nat) : Nat :=
  if !bit x 29 then area
  else
    let w := bits x 9 5 + 1
    let v := winBits win (cur + bits x 0 6) (bits x 6 3) w
    let d := bits x 14 9 + rep * bits x 23 6
    if 352 ≤ d then area else setBits area d (min w (352 - d)) v

/-- The parse walk (R138). `win` is the header window, `len` the frame length without FCS. Each step enters a state or
repeats it; LAST_STATE of a walk at its step limit is the state it entered last (R140). -/
def parseWalk (b : Bank) (egr : Bool) (win : Bytes) (len : Nat) : Nat → Bool → Walk → Walk
  | 0, _, w => { w with fail := 9 }
  | fuel + 1, again, w =>
    if w.steps = 48 then { w with fail := 9 }
    else
      let r := b.parseState egr w.state
      let lc := bits r 44 4
      let w := { w with
        steps := w.steps + 1,
        rep := if again then w.rep + 1 else 0,
        vlans := if lc = 3 then w.vlans + 1 else w.vlans,
        mpls := if lc = 4 then w.mpls + 1 else w.mpls }
      -- step 2: tunnel, extension and IHL checks
      let w := if bit r 52 then { w with tunnels := w.tunnels + 1, exts := 0 } else w
      let w := if bit r 55 then { w with exts := w.exts + 1 } else w
      if 3 < w.tunnels then { w with tunnels := 3, fail := 5 }
      else if 8 < w.exts then { w with fail := 7 }
      else if bit r 53 && byteAt win w.cur % 16 < 5 then { w with fail := 10 }
      else
        -- step 3: length
        let lenEn := bit r 14
        let lo := w.cur + bits r 8 6
        if lenEn && 512 ≤ lo then { w with fail := 1 }
        else if lenEn && len ≤ lo then { w with fail := 2 }
        else
          let L := bits r 0 8 + (if lenEn then ((byteAt win lo &&& bits r 16 8) >>> bits r 24 3) <<< bits r 27 3 else 0)
          if lenEn && L = 0 then { w with fail := 10 }
          else if 512 < w.cur + L then { w with fail := 1 }
          else if len < w.cur + L then { w with fail := 2 }
          else if bit r 53 && !csumOk win w.cur (byteAt win w.cur % 16 * 4) then { w with fail := 11 }
          else
            let segs := byteAt win (w.cur + 4) + 1
            if bit r 54 && 10 < segs then { w with fail := 6 }
            else
              let w := if bit r 54 then { w with sids := segs } else w
              let ly := bits r 48 4
              let w := if ly < 8 && (w.layers.getD ly none).isNone then
                  { w with layers := listSet w.layers ly (some (w.cur, w.state)) } else w
              let w := { w with area := (List.range 4).foldl (fun a j => doExtract win w.cur w.rep (bits r (64 + 32 * j) 32) a) w.area }
              let sel := byteAt win (w.cur + bits r 32 6) * 256 + byteAt win (w.cur + bits r 32 6 + 1)
              let tr := ((List.range 8).map (fun j => bits r (192 + 40 * j) 40)).find? (fun t =>
                bit t 39 && decide (sel &&& bits t 16 16 = bits t 0 16 &&& bits t 16 16))
              let next := if bit r 38 then (match tr with | some t => bits t 32 7 | none => bits r 56 7) else bits r 56 7
              if next = 64 then w
              else if next = 65 then { w with fail := 8 }
              else
                let w := { w with cur := w.cur + L }
                if next = w.state then
                  if bits r 40 4 ≤ w.rep then { w with fail := lc } else parseWalk b egr win len fuel true w
                else if w.steps = 48 then { w with fail := 9 }
                else parseWalk b egr win len fuel false { w with state := next }

/-- The parse of a packet. -/
def parsePkt (b : Bank) (egr : Bool) (data : Bytes) : Walk :=
  parseWalk b egr (data.take 512) data.length 49 false
    ⟨0, 0, 0, 0, 0, 0, 0, 0, 0, List.replicate 8 none, 0, 0⟩

/-- Carry lane 128 + j of the parse result (R140). -/
def Walk.lane (w : Walk) (j : Nat) : Nat :=
  if j = 0 then
    w.fail + w.state * 2 ^ 4 + w.steps % 64 * 2 ^ 10 + w.tunnels % 4 * 2 ^ 16 + w.vlans % 8 * 2 ^ 18 + w.mpls % 16 * 2 ^ 21 +
      w.sids % 16 * 2 ^ 25
  else if j ≤ 4 then
    let half := fun k => match w.layers.getD k none with
      | some (o, st) => o % 1024 + st * 1024
      | none => 0x03FF
    half (2 * (j - 1)) + half (2 * (j - 1) + 1) * 65536
  else if j ≤ 15 then bits w.area (32 * (j - 5)) 32
  else 0

/-! ### The classifier chain (R143, R144) -/

/-- A table of the chain. -/
structure ChainTbl where
  firstId : Nat
  masked : Bool
  keyLen : Nat
  groups : Nat
  missReason : Nat
  missPunt : Bool
  dataLane : Nat
  missData : Nat
  maskOff : Nat
  deriving DecidableEq, Repr

/-- Tables of the chain. -/
def Bank.chainLen (b : Bank) : Nat := bits (leAt (b.sec 0x0011) 0 1) 0 4

/-- Chain table `t`. -/
def Bank.chainTbl (b : Bank) (t : Nat) : ChainTbl :=
  let r := leAt (b.sec 0x0011) (64 * (t + 1)) 64
  ⟨bits r 0 8, bit r 8, bits r 9 3 + 1, bits r 13 5 + 1, bits r 18 6, bit r 24, bits r 32 8, bits r 64 64, bits r 128 32⟩

/-- The mask of group `g` of a chain table: all ones over the key for EXACT. -/
def Bank.groupMask (b : Bank) (c : ChainTbl) (g : Nat) : Nat :=
  if c.masked then leAt (b.sec 0x0011) (c.maskOff + 32 * g) 32 else 2 ^ (32 * c.keyLen) - 1

/-- The chain table and group a TABLE_ID belongs to. -/
def Bank.chainOf (b : Bank) (id : Nat) : Option (Nat × Nat) :=
  ((List.range b.chainLen).find? (fun t =>
    decide ((b.chainTbl t).firstId ≤ id) && decide (id < (b.chainTbl t).firstId + (b.chainTbl t).groups))).map
    (fun t => (t, id - (b.chainTbl t).firstId))

/-- The chain table and group of a layout's table: the chain's groups are tables of the ingress direction (R144). -/
def Bank.groupOf (b : Bank) (t : Tbl) : Option (Nat × Nat) := if t.kind = kRule && t.dir = 0 then b.chainOf t.id else none

/-- Key words and mask of a rule table: those of its group, and eight words unmasked where it belongs to none.
(DEDUCED, log entry 12.) -/
def Bank.ruleKey (b : Bank) (t : Tbl) : Nat × Nat :=
  match b.groupOf t with
  | some (c, g) => ((b.chainTbl c).keyLen, b.groupMask (b.chainTbl c) g)
  | none => (8, 2 ^ 256 - 1)

/-! ### The walk down the strip (R107, R108, R112, R113) -/

/-- What a lookup leaves in the result register: entry words, slot and HIT; `bad` that the line it read holds an uncorrectable
word. -/
structure Result where
  val : Nat
  slot : Nat
  hit : Bool
  bad : Bool
  deriving DecidableEq, Repr

/-- UNC (R161): HIT is 0 and the line read holds an uncorrectable word. -/
def Result.unc (r : Result) : Bool := !r.hit && r.bad

/-- Result word `k` (R161): the entry in words 0 upward; word 15 holds SLOT, UNC and HIT. -/
def Result.word (r : Result) (k : Nat) : Nat :=
  if k = 15 then r.slot % 2 ^ 25 + b2n r.unc * 2 ^ 30 + b2n r.hit * 2 ^ 31 else bits r.val (32 * k) 32

/-- One lookup chain in one cell (R113): the key words as one number, those HASH hashed, that the cell is the owner, the result. -/
structure Unit_ where
  key : Nat
  hkey : Nat
  own : Bool
  res : Option Result
  deriving DecidableEq, Repr

/-- The events and counts a walk gives rise to, applied after it. -/
inductive Note where
  | inc (f : Fld) (i : Nat)
  | sat (f : Fld) (i : Nat)
  | unc (lpm : Bool) (id : Nat) (line : Nat)
  | range (id : Nat) (idx : Nat)
  deriving DecidableEq, Repr

/-- A source lookup's outcome (R199): table, stage, entry result, and the key. -/
structure SrcLook where
  table : Nat
  stage : Nat
  res : Result
  key : Nat
  deriving DecidableEq, Repr

/-- A packet on its way down the strip: lanes 0 to 175 as numbers, the chains by cell * 2048 + stage of their KEY words, notes, the
acting source lookup, the hits of mask groups (chain table, group, entry), whether a rule has set CHAN_HANDLE (R146), and what is
handed to the route sequence, whose lookups `routeApply` makes and counts (R154). -/
structure Strip where
  lanes : List Nat
  units : SMap Unit_
  notes : List Note
  src : Option SrcLook
  hits : List (Nat × Nat × Nat)
  queueSet : Bool
  ask : RouteAsk
  deriving DecidableEq, Repr

def Unit_.zero : Unit_ := ⟨0, 0, false, none⟩

/-- A lane; lanes 176 to 255 read 0 (R108). -/
def laneGet (ls : List Nat) (i : Nat) : Nat := if i < 176 then ls.getD i 0 else 0

/-- `w` bits written to a lane from bit `lo`, cut at bit 31; writes to lanes 176 to 255 are discarded. -/
def lanePut (ls : List Nat) (i lo w v : Nat) : List Nat :=
  if i < 176 && lo < 32 then listSet ls i (setBits (ls.getD i 0) lo (min w (32 - lo)) v) else ls

/-- The read of one slot as a result in strip `st`: HIT when readable; the words of an unreadable entry are open (log entry 7). -/
def State.readSlot (s : State) (st : Nat) (t : Tbl) (sl : Nat) : Result :=
  let bad := s.slotBad st t sl
  ⟨if bad then (Config.openResult s.freeCtr t.id).toNat else s.slotOf t sl, sl, !bad, bad⟩

/-- The slot SLOT names on a miss in line `l`: its position is open (log entry 7). -/
def State.missSlot (s : State) (t : Tbl) (l : Nat) : Nat := l * t.perLine + Config.missPos s.freeCtr t.id % max t.perLine 1

/-- The search of a hash line in strip `st` for a stored key: entries with an uncorrectable word never match (R161);
`vis` is the visibility bit of a rule lookup. The entry words of a miss are open (log entry 7). -/
def State.matchLine (s : State) (st : Nat) (t : Tbl) (l key : Nat) (vis : Option Nat) : Result :=
  let hit := (t.lineSlots l).find? (fun sl =>
    let v := s.slotOf t sl
    t.occupied v && decide (t.keyField v = key) && !s.slotBad st t sl && (match vis with | some n => bit v n | none => true))
  match hit with
  | some sl => ⟨s.slotOf t sl, sl, true, s.hashLineBad st t l⟩
  | none => ⟨(Config.openResult s.freeCtr t.id).toNat, s.missSlot t l, false, s.hashLineBad st t l⟩

/-- The zero results of a lookup whose table the layout does not hold (R518). -/
def Result.miss : Result := ⟨0, 0, false, false⟩

/-- A filter probe (R161, R162): the entry, or the VRF default entry on a miss. -/
def State.filterProbe (s : State) (st : Nat) (bk : Bool) (v6 : Bool) (vrf a : Nat) : Result :=
  let base := if v6 then s.rfBank FE_LPM.VRF_NH_BASE6.BASE bk 0 else s.rfBank FE_LPM.VRF_NH_BASE4.BASE bk 0
  let dflt := (base + vrf % 2 ^ 12) % 2 ^ 20
  match (s.bank bk).tblKind (if v6 then kFilter6 else kFilter4) 0 with
  | none => ⟨dflt, 0, false, false⟩
  | some t =>
    let (l, tag) := t.hash 0 (filterKey v6 vrf a)
    let r := s.matchLine st t l tag none
    if r.hit then r else { r with val := dflt }

/-- A class probe (R161): a code treated as 0 gives HIT 0 and UNC 0 without a match, and leaves the result words open (log
entry 7). -/
def State.classProbe (s : State) (st : Nat) (t : Tbl) (vrf a code : Nat) : Result :=
  let v6 := decide (t.kind = kHead6)
  let k := effCode v6 t.cls code
  if k = 0 then
    ⟨(Config.openResult s.freeCtr t.id).toNat, s.missSlot t (Config.missPos s.freeCtr t.id % max t.lines 1), false, false⟩
  else
    let m := maskAddr v6 a (classBase v6 t.cls + k - 1)
    let (l, tag) := t.hash 0 (classKey v6 vrf m)
    s.matchLine st t l tag none

/-- An index read (R161): entry `i`, HIT 0 beyond the table or on an uncorrectable word; its words are then open (log entry 7). -/
def State.indexRead (s : State) (st : Nat) (t : Tbl) (i : Nat) : Result :=
  if i < t.slots then s.readSlot st t i else ⟨(Config.openResult s.freeCtr t.id).toNat, i, false, false⟩

/-- The lookup a MATCH word completes, for a packet of bank `bk` in strip `st`: `hkey` is what HASH hashed, `key` what MATCH compares
(R112, R161, R182). -/
def State.lookup (s : State) (st : Nat) (bk : Bool) (t : Tbl) (hkey key : Nat) : Result :=
  let b := s.bank bk
  let w := fun k => bits hkey (32 * k) 32
  let line := fun k => (t.hash 0 k).1
  if t.kind = kFilter4 then s.filterProbe st bk false (w 1 % 4096) (w 0)
  else if t.kind = kFilter6 then s.filterProbe st bk true (w 1 % 4096) (w 0 * 2 ^ 96)
  else if t.kind = kClass4 then s.classProbe st t (w 1 % 4096) (w 0) (bits (w 1) 16 6)
  else if t.kind = kHead6 then
    s.classProbe st t (w 4 % 4096) (w 0 * 2 ^ 96 + w 1 * 2 ^ 64 + w 2 * 2 ^ 32 + w 3) (bits (w 4) 16 6)
  else if t.kind = kIndex || t.kind = kTail6 then s.indexRead st t (w 0)
  else if t.kind = kRule then
    let (n, mask) := b.ruleKey t
    let g := ((b.groupOf t).map (fun x => x.2)).getD 0
    let masked := fun (k : Nat) => (k &&& mask) % 2 ^ (32 * n)
    s.matchLine st t (t.hash n (masked hkey)).1 (masked key + g * 2 ^ 256) (some (if bk then 262 else 261))
  else
    let cut := fun (k : Nat) => if t.role = 1 then bits k 0 32 else bits k 0 48 + bits k 48 12 * 2 ^ 48
    s.matchLine st t (line (cut hkey)) (cut key) none

/-- The hash line a lookup reads. -/
def Result.line (r : Result) (t : Tbl) : Nat := r.slot / t.perLine

/-- The cell of the table that owns a result: the first cell of the group whose line is read. An index read beyond the region's cells
reads none, and the table's cell 0 owns its HIT 0 (R112, R180). (DESIGN CHOICE, log entry 23.) -/
def Result.cellOff (r : Result) (t : Tbl) : Nat :=
  let off := t.width * (r.line t / max t.liveReg.lpc 1)
  if off < t.liveReg.cells then off else 0

/-- The counts and events of a lookup (R152, R176 to R178); rule tables count in FE.CLASS alone. -/
def lookupNotes (t : Tbl) (r : Result) : List Note :=
  let probe := decide (t.kind = kFilter4) || decide (t.kind = kFilter6) || decide (t.kind = kClass4) || decide (t.kind = kHead6)
  let hm := fun (h m : Fld) => [Note.inc (if r.hit then h else m) 0]
  (if t.kind = kFilter4 then hm FE_LPM.FILTER4_HIT.COUNT FE_LPM.FILTER4_MISS.COUNT
   else if t.kind = kFilter6 then hm FE_LPM.FILTER6_HIT.COUNT FE_LPM.FILTER6_MISS.COUNT
   else if t.kind = kClass4 then (if r.hit then [Note.inc FE_LPM.CLASS4_HIT.COUNT t.cls] else [])
   else if t.kind = kHead6 then (if r.hit then [Note.inc FE_LPM.CLASS6_HIT.COUNT t.cls] else [])
   else if t.role = 1 then hm FE_EXM.MPLS_HIT.COUNT FE_EXM.MPLS_MISS.COUNT
   else if t.role = 2 then hm FE_EXM.MAC_HIT.COUNT FE_EXM.MAC_MISS.COUNT
   else []) ++
  (if probe then
     (if r.bad then [Note.unc true t.id (r.line t)] else []) ++ (if r.unc then [Note.sat FE_LPM.UNC_CNT.COUNT 0] else [])
   else if t.kind = kTail6 then
     (if r.unc then [Note.unc true t.id (r.line t), Note.sat FE_LPM.UNC_CNT.COUNT 0] else [])
   else if t.role ≠ 0 then
     (if r.unc then [Note.unc false t.id (r.line t), Note.sat FE_EXM.UNC_CNT.COUNT 0] else [])
   else []) ++
  (if t.kind = kIndex && !r.hit && !r.unc then [Note.range t.id r.slot, Note.sat FE_EXM.INDEX_RANGE.COUNT 0] else [])

/-- The route sequence a request starts makes the lookups of this table itself (R154, R172, R173). (DEDUCED, log entry 23.) -/
def askCovers (a : RouteAsk) (t : Tbl) : Bool :=
  let route := decide (3 ≤ t.kind) || (decide (3 ≤ t.role) && decide (t.role ≤ 5))
  match a with
  | .none => false
  | .ip _ _ _ => route
  | .mpls _ _ _ _ => route || decide (t.role = 1)
  | .mac _ _ => route || decide (t.role = 2)

/-- The ALU of R112. -/
def aluOp (op a b : Nat) : Nat :=
  (if op = 0 then a + b else if op = 1 then a + 2 ^ 32 - b else if op = 2 then a &&& b else if op = 3 then a ||| b
   else if op = 4 then a ^^^ b else if op = 5 then a <<< (b % 32) else if op = 6 then a >>> (b % 32) else if op = 7 then min a b
   else if op = 8 then max a b else if a = b then 1 else 0) % 2 ^ 32

/-- One slot word acts on a packet at its stage (R112). `old` is the record as it left the previous stage; writes go to
the strip's lanes. The words of one chain find each other by the spacing of R113. Key words that no KEY word of the chain writes
hold zero: R145 says so of a rule lookup, and the model takes it for every other. (DESIGN CHOICE, log entry 23.) -/
def State.slotAct (s : State) (st : Nat) (bk : Bool) (old : List Nat) (x : Strip) (cell w : Nat) : Strip :=
  let b := s.bank bk
  let dir := st / 8
  let c := swClass w
  let at_ := cell * 2048 + (swStage w - (if c = 1 then 0 else if c = 2 then 1 else if c = 3 then 2 else if c = 4 then 4 else 5))
  let u := SMap.get Unit_.zero x.units at_
  let put := fun (u : Unit_) => { x with units := SMap.put Unit_.zero x.units at_ u }
  let id := bits w 36 8
  let cut := u.key % 2 ^ (32 * (bits w 32 4 + 1))
  if c = 1 then
    put { u with key := setBits u.key (32 * bits w 32 4) 32 (laneGet old id &&& bits w 0 32) }
  else if c = 2 then put { u with hkey := cut }
  else if c = 3 then
    match b.tblLookup dir id with
    | none => put { u with own := decide (bits w 29 7 = 0) }
    | some (t, _) =>
      let off := bits w 29 7
      put { u with own := decide (cell = t.liveReg.firstCell + off) && decide ((s.lookup st bk t u.hkey u.hkey).cellOff t = off) }
  else if c = 4 then
    if !u.own then x
    else
      match b.tblLookup dir id with
      | none => put { u with res := some Result.miss }
      | some (t, src) =>
        let r := s.lookup st bk t u.hkey cut
        let x := put { u with res := some r }
        let x := if askCovers x.ask t && !src then x else { x with notes := x.notes ++ lookupNotes t r }
        let x := match b.groupOf t with
          | some (ct, g) => if r.hit then { x with hits := x.hits ++ [(ct, g, r.val)] } else x
          | none => x
        if src then { x with src := some ⟨t.id, swStage w, r, bits u.key 0 48 + bits u.key 48 12 * 2 ^ 48⟩ } else x
  else if c = 5 then
    let rhs := if bit w 16 then bits w 0 16 else laneGet old (bits w 20 8)
    { x with lanes := lanePut x.lanes id 0 32 (aluOp (swOp w) (laneGet old (bits w 28 8)) rhs) }
  else if c = 6 then
    let n := bits w 13 5 + 1
    let lsb := bits w 23 5
    let go := !bit w 12 || bit (laneGet old (bits w 4 8)) 0
    let val := if swOp w = 0 then some (laneGet old (bits w 28 8))
      else match u.res with
        | none => none
        | some r => some (if swOp w = 1 then r.word (bits w 28 4) else b2n r.hit)
    match val with
    | some v =>
      if go then
        let m := min n (32 - lsb)
        let v := if swOp w = 2 then v else bits v lsb m
        { x with lanes := lanePut x.lanes id (bits w 18 5) (if swOp w = 2 then 1 else m) v }
      else x
    | none => x
  else x

/-! ### Chain and route outcomes (R145, R146, R163, R170, R172) -/

/-- The metadata that lanes 160 to 175 hold. -/
def lanesMd (ls : List Nat) : Nat := (List.range 16).foldl (fun a k => a + laneGet ls (160 + k) % 2 ^ 32 * 2 ^ (32 * k)) 0

/-- Bits of the metadata written in the lanes. -/
def mdPut (ls : List Nat) (lo w v : Nat) : List Nat :=
  let m := setBits (lanesMd ls) lo w v
  (List.range 16).foldl (fun l k => listSet l (160 + k) (bits m (32 * k) 32)) ls

/-- PUNT set with a reason that is written only while PUNT is still 0 (R146). -/
def puntPut (ls : List Nat) (reason : Nat) : List Nat :=
  if bit (lanesMd ls) 127 then ls else mdPut (mdPut ls 121 6 reason) 127 1 1

/-- The winner among the groups that hit (R145 step 3): the largest PRIORITY, the lowest MASK_ID on equal ones. -/
def chainWinner (hs : List (Nat × Nat)) : Option (Nat × Nat) :=
  hs.foldl (fun b h => match b with
    | none => some h
    | some w =>
      let pw := bits w.2 264 16
      let ph := bits h.2 264 16
      if pw < ph || (pw = ph && h.1 < w.1) then some h else some w) none

/-- Chain table `t` applies its hit or its miss to the record (R145 steps 4 and 5). (DEDUCED, log entry 23.) -/
def Bank.chainApply (b : Bank) (x : Strip) (t : Nat) : Strip :=
  let c := b.chainTbl t
  let data := fun (ls : List Nat) (v : Nat) =>
    if c.dataLane = 0 then ls else lanePut (lanePut ls c.dataLane 0 32 (bits v 0 32)) (c.dataLane + 1) 0 32 (bits v 32 32)
  match chainWinner ((x.hits.filter (fun h => decide (h.1 = t))).map (fun h => h.2)) with
  | some (_, e) =>
    let ls := if bit e 285 then mdPut x.lanes 10 3 (bits e 280 3) else x.lanes
    let ls := if bit e 286 then mdPut ls 13 2 (bits e 283 2) else ls
    let ls := if bit e 287 then mdPut ls 32 32 (bits e 288 32) else ls
    { x with lanes := data ls (bits e 320 64), queueSet := x.queueSet || bit e 287, notes := x.notes ++ [.inc FE_CLASS.HIT.COUNT t] }
  | none =>
    let ls := data x.lanes c.missData
    let ls := if c.missPunt then puntPut ls c.missReason else ls
    { x with lanes := ls, notes := x.notes ++ [.inc FE_CLASS.MISS.COUNT t] }

/-- The stage at whose end chain table `t` acts: one after the last MATCH of its groups, where the results stand (R113), and not before
the tables ahead of it in the chain (R146); a table without lookup words acts with the table before it.
(DEDUCED, log entry 23.) -/
def Bank.chainStages (b : Bank) (ws : List (Nat × Nat)) : List Nat :=
  ((List.range b.chainLen).foldl (fun (a : List Nat × Nat) t =>
    let c := b.chainTbl t
    let ks := (ws.filter (fun e => decide (swClass e.2 = 4) && decide (c.firstId ≤ bits e.2 36 8) &&
      decide (bits e.2 36 8 < c.firstId + c.groups))).map (fun e => swStage e.2 + 1)
    let k := max a.2 (maxN ks)
    (a.1 ++ [k], k)) ([], 0)).1

/-- The outcome of the choice of a route (R163). -/
inductive RouteOut where
  | uncertain
  | nh (n : Nat)
  deriving DecidableEq, Repr

/-- The choice of R163 among classes 3 to 0, with the counts and events of every probe and tail read: each is made whether or not an
earlier lookup hit, and the choice stops at the first that decides (R154). The tail is read at the head probe's SLOT. -/
def State.routeClasses (s : State) (st : Nat) (bk v6 : Bool) (vrf a f : Nat) : List Nat → List Note × RouteOut
  | [] => ([], .nh (bits f 0 20))
  | c :: cs =>
    let code := effCode v6 c (bits f (20 + 6 * c) 6)
    let (ns, r) := match (s.bank bk).tblKind (if v6 then kHead6 else kClass4) c with
      | some t => let r := s.classProbe st t vrf a code; (lookupNotes t r, r)
      | none => ([], Result.miss)
    let (nt, q) := if !v6 then ([], r) else match (s.bank bk).tblKind kTail6 c with
      | some tt => let q := s.indexRead st tt r.slot; (lookupNotes tt q, q)
      | none => ([], Result.miss)
    let (ns', o) := s.routeClasses st bk v6 vrf a f cs
    (ns ++ nt ++ ns',
      if code = 0 then o
      else if r.hit then (if q.hit then .nh (bits q.val 0 20) else .uncertain)
      else if r.unc then .uncertain else o)

/-- The route of an address (R163). -/
def State.route (s : State) (st : Nat) (bk v6 : Bool) (vrf a : Nat) : List Note × RouteOut :=
  let f := s.filterProbe st bk v6 vrf a
  let ns := match (s.bank bk).tblKind (if v6 then kFilter6 else kFilter4) 0 with
    | some t => lookupNotes t f
    | none => []
  let (ns', o) := s.routeClasses st bk v6 vrf a f.val [3, 2, 1, 0]
  (ns ++ ns', if f.unc then .uncertain else o)

/-- A read of an index table by role, with its counts; HIT 0 when the layout has no such table (R518). -/
def State.roleRead (s : State) (st : Nat) (bk : Bool) (role i : Nat) : List Note × Result :=
  match (s.bank bk).tblRole role with
  | none => ([], Result.miss)
  | some t => let r := s.indexRead st t i; (lookupNotes t r, r)

/-- Member index of a flow in a group (R169). -/
def memberIndex (base size flow : Nat) : Nat := base + ((bits flow 16 16 * size) >>> 16)

/-- The group, member and member's next-hop reads of an ECMP next hop, all of them made (R154, R168, R169): the member's next hop and
its entry where every read succeeds and the group is not empty. A read after one that failed takes its index from words that are
open (log entry 7). -/
def State.ecmpRead (s : State) (st : Nat) (bk : Bool) (group flow : Nat) : List Note × Option (Nat × Nat) :=
  let (ng, g) := s.roleRead st bk 4 group
  let size := bits g.val 24 10
  let (nm, m) := s.roleRead st bk 5 (memberIndex (bits g.val 0 24) size flow)
  let n := bits m.val 0 20
  let (nq, q) := s.roleRead st bk 3 n
  (ng ++ nm ++ nq, if g.hit && decide (size ≠ 0) && m.hit && q.hit then some (n, q.val) else none)

/-- A next hop resolved into the lanes (R170). -/
def State.resolveNh (s : State) (st : Nat) (bk : Bool) (x : Strip) (n : Nat) : Strip :=
  let forward := fun (x : Strip) (n e : Nat) =>
    let ls := mdPut (mdPut x.lanes 64 20 n) 84 19 (bits e 9 19)
    { x with lanes := if x.queueSet then ls else mdPut ls 32 32 (bits e 32 32) }
  let punt := fun (x : Strip) (r : Nat) => { x with lanes := puntPut x.lanes r }
  let last := fun (x : Strip) (n e : Nat) =>
    if bits e 0 3 = 1 then forward x n e
    else if bits e 0 3 = 4 then punt x (if bits e 3 6 < 16 then 62 else bits e 3 6)
    else punt x 62
  let (ns, r) := s.roleRead st bk 3 n
  let x := { x with notes := x.notes ++ ns }
  if !r.hit then punt x 62
  else if bits r.val 0 3 = 2 then
    let (ns, o) := s.ecmpRead st bk (bits r.val 32 16) (bits (lanesMd x.lanes) 128 32)
    let x := { x with notes := x.notes ++ ns }
    match o with
    | some (nm, e) => last x nm e
    | none => punt x 62
  else last x n r.val

/-- The route sequence of a packet (R154, R163, R170, R172, R173). After an uncertain choice the next hop is read too, at an index
that is open (log entry 7); its outcome is not used. A MAC miss leaves the packet as it is. (DEDUCED, log entry 23.) -/
def State.routeApply (s : State) (st : Nat) (bk : Bool) (x : Strip) : Strip :=
  let ip := fun (x : Strip) (v6 : Bool) (vrf a : Nat) =>
    let (ns, o) := s.route st bk v6 vrf a
    let x := { x with notes := x.notes ++ ns }
    match o with
    | .uncertain =>
      let y := s.resolveNh st bk x (bits (Config.openResult s.freeCtr 256).toNat 0 20)
      { x with lanes := puntPut x.lanes 61, notes := y.notes }
    | .nh n => s.resolveNh st bk x n
  let exact := fun (role k : Nat) => match (s.bank bk).tblRole role with
    | none => ([], Result.miss)
    | some t => let r := s.matchLine st t (t.hash 0 k).1 k none; (lookupNotes t r, r)
  match x.ask with
  | .none => x
  | .ip v6 vrf a => ip x v6 vrf a
  | .mac bd mac =>
    let (ns, r) := exact 2 (mac % 2 ^ 48 + bd % 2 ^ 12 * 2 ^ 48)
    let x := { x with notes := x.notes ++ ns }
    if r.hit then s.resolveNh st bk x (bits r.val 64 20) else x
  | .mpls sp lb v6 a =>
    let (ns, r) := exact 1 (lb % 2 ^ 20 + sp % 2 ^ 12 * 2 ^ 20)
    let x := { x with notes := x.notes ++ ns }
    let act := bits r.val 33 3
    if !r.hit then { x with lanes := puntPut x.lanes 62 }
    else if act = 0 || act = 1 then s.resolveNh st bk x (bits r.val 48 20)
    else if act = 2 then ip x v6 (bits r.val 88 12) a
    else if act = 4 then { x with lanes := puntPut x.lanes (bits r.val 36 6) }
    else { x with lanes := puntPut x.lanes 62 }

/-- The strip walk of a packet: slot words stage by stage on the record as the previous stage left it, the parse result
at stage 24, and the chain tables at their stages (R107, R134, R146). `n` stages are still to go from stage `k`; `ws` are
the strip's words for the packet's pipeline, `cs` the chain tables' stages. -/
def State.stages (s : State) (st : Nat) (bk : Bool) (pw : Walk) (ws : List (Nat × Nat)) (cs : List Nat) :
    Nat → Nat → Strip → Strip
  | 0, _, x => x
  | n + 1, k, x =>
    let old := x.lanes
    let x := (ws.filter (fun e => decide (swStage e.2 = k))).foldl (fun x e => s.slotAct st bk old x e.1 e.2) x
    let x := if k = 24 then
        { x with lanes := (List.range 16).foldl (fun l j => lanePut l (128 + j) 0 32 (pw.lane j)) x.lanes } else x
    let x := (List.range cs.length).foldl (fun x t => if cs.getD t 0 = k then (s.bank bk).chainApply x t else x) x
    s.stages st bk pw ws cs n (k + 1) x

/-- Lanes at entry (R108): the first 512 bytes, zero carry, the metadata. -/
def entryLanes (data : Bytes) (md : Nat) : List Nat :=
  let win := data.take 512
  (List.range 128).map (fun k => beNat ((List.range 4).map (fun i => BitVec.ofNat 8 (byteAt win (4 * k + i))))) ++
    List.replicate 32 0 ++ (List.range 16).map (fun k => bits md (32 * k) 32)

/-- Bytes `[0, n)` of the header window as the lanes hold it. -/
def lanesHead (ls : List Nat) (n : Nat) : Bytes :=
  ((List.range 128).flatMap (fun k => toBe 4 (laneGet ls k % 2 ^ 32))).take n

/-- The walk of a packet down strip `st` as pipeline `pipe` (0 to 15 of its direction), under its bank, with what its program hands to
the route sequence. A chain table whose MATCH stands at the last program stage acts one stage on (R113, R145).
(DEDUCED, log entry 23.) -/
def State.runStrip (s : State) (st pipe : Nat) (p : Pkt) (ask : RouteAsk) : Walk × Strip :=
  let bk := p.bank
  let b := s.bank bk
  let egr := decide (8 ≤ st)
  let pw := parsePkt b egr p.data
  let depth := if egr then b.depthE else b.depthI
  let ws := (b.slotWords st).filter (fun e => swActs e.2 (pipe % 2 = 1) && decide (swClass e.2 ≠ 0) && decide (swStage e.2 + 9 ≤ depth))
  let cs := if egr then [] else b.chainStages ws
  (pw, s.routeApply st bk (s.stages st bk pw ws cs (max (depth - 7) 25) 0 ⟨entryLanes p.data p.md.toNat, [], [], none, [], false, ask⟩))

end Sys2Proof.Machine
end

