-- ==== Sys2Proof/Machine/Tables.lean ====
section
/-! DEFINITION. Table commands (R147, R174, R190 to R195), raw DMA (R184 to R187), and the scrubber (R198). -/

namespace Sys2Proof.Machine

/-! ### Fields of a table command (R190, R191) -/

def Cmd.tblId (c : Cmd) : Nat := c.bits 64 8
/-- FORM INDEX. -/
def Cmd.byIndex (c : Cmd) : Bool := decide (c.bits 72 1 = 1)
def Cmd.index (c : Cmd) : Nat := c.bits 96 32
/-- The entry image: `n` bytes from command bit 128. -/
def Cmd.image (c : Cmd) (n : Nat) : Nat := c.bits 128 (8 * n)
def Cmd.resultBuf (c : Cmd) : Nat := c.bits 448 64

def opInsert : Nat := 0x10
def opDelete : Nat := 0x11
def opModify : Nat := 0x12
def opLookup : Nat := 0x13
def opReadIndex : Nat := 0x14
def opCas : Nat := 0x15
def opAgeDelete : Nat := 0x16
def opSwitch : Nat := 0x17

/-- The table is a hash table: its entries are found by key. -/
def Tbl.hashed (t : Tbl) : Bool := [kExact, kRule, kFilter4, kFilter6, kClass4, kHead6].contains t.kind
/-- The table is a filter. -/
def Tbl.isFilter (t : Tbl) : Bool := decide (t.kind = kFilter4) || decide (t.kind = kFilter6)
/-- The table is a class table (heads, for IPv6). -/
def Tbl.isClass (t : Tbl) : Bool := decide (t.kind = kClass4) || decide (t.kind = kHead6)
/-- The table's family is IPv6. -/
def Tbl.isV6 (t : Tbl) : Bool := decide (t.kind = kFilter6) || decide (t.kind = kHead6)

/-- The address a key of a route table carries. -/
def Cmd.keyAddr (c : Cmd) (t : Tbl) : Nat := if t.isV6 then c.bits 128 128 else c.bits 128 32

/-- Hash line and stored key of the command's key (R174, R182, R191). -/
def State.cmdKey (s : State) (c : Cmd) (t : Tbl) : Nat × Nat :=
  if t.isFilter then t.hash 0 (filterKey t.isV6 (c.bits 256 12) (c.keyAddr t))
  else if t.isClass then t.hash 0 (classKey t.isV6 (c.bits 256 12) (c.keyAddr t))
  else if t.kind = kRule then
    let (n, mask) := s.layout.ruleKey t
    let k := (c.bits 128 256 &&& mask) % 2 ^ (32 * n)
    ((t.hash n k).1, k + c.bits 384 5 * 2 ^ 256)
  else
    let k := t.exactKey (c.image 16)
    ((t.hash 0 k).1, k)

/-- The entry a command stores at a slot whose key part is `key` (R158 to R160, R191): for hash tables VALID is set. -/
def Cmd.entryFor (c : Cmd) (t : Tbl) (key fetched : Nat) : Nat :=
  if t.isFilter then c.bits 320 44 + key % 2 ^ 20 * 2 ^ 44
  else if t.kind = kClass4 then c.bits 320 20 + 2 ^ 20 + key % 2 ^ 40 * 2 ^ 24
  else if t.kind = kHead6 then 1 + key % 2 ^ 127 * 2
  else if t.kind = kExact then setBit (c.image 16) (if t.role = 1 then 32 else 60) true
  else if t.bytes = 64 then fetched
  else c.image t.bytes

/-- The tail table of a head table. -/
def State.tailOf (s : State) (t : Tbl) : Option Tbl := if t.kind = kHead6 then s.layout.tblKind kTail6 t.cls else none

/-- The tail record of slot `sl`. -/
def State.tailAt (s : State) (t : Tbl) (sl : Nat) : Nat :=
  match s.tailOf t with
  | some tt => s.slotOf tt sl
  | none => 0

/-- A word of the entry (of its head and tail) is uncorrectable in every replica. -/
def State.entryLost (s : State) (t : Tbl) (sl : Nat) : Bool :=
  s.slotLost t sl || (match s.tailOf t with
    | some tt => s.slotLost tt sl
    | none => false)

/-- RESULT of R192 for a slot and its entry. -/
def State.tblResult (s : State) (t : Tbl) (sl v : Nat) : Nat :=
  if t.kind = kHead6 then sl % 2 ^ 32 + s.tailAt t sl * 2 ^ 32 + v % 2 * 2 ^ 64
  else if t.bytes ≤ 16 then sl % 2 ^ 32 + v * 2 ^ 32
  else sl % 2 ^ 32 + t.bytes * 2 ^ 32

/-- A read completes with the entry of a slot, written to RESULT_BUF when larger than 16 bytes (R192). -/
def State.tblReturn (s : State) (c : Cmd) (t : Tbl) (sl status : Nat) : State :=
  let v := s.slotOf t sl
  s.finish c.id status 0 (s.tblResult t sl v) (if t.bytes ≤ 16 then [] else [(c.resultBuf, toLe t.bytes v)])

/-! ### Checks (R147, R174, R193, R194) -/

/-- The command's FORM is allowed for the table (R193, R194 BAD_FORM). -/
def formOk (op : Nat) (byIndex : Bool) (t : Tbl) : Bool :=
  if op = opInsert || op = opLookup then !byIndex && t.hashed
  else if op = opDelete then t.hashed
  else if op = opModify then byIndex || t.hashed
  else if op = opReadIndex then byIndex
  else if op = opCas then if byIndex then decide (t.kind = kIndex) && decide (t.bytes ≤ 16) else decide (t.kind = kExact)
  else if op = opAgeDelete then !byIndex && t.aged && decide (t.role = 2) && decide (t.kind = kExact)
  else true

/-- A length code of a filter VALUE is treated as 0 and is not 0 (R174 BAD_CODE). -/
def badCode (v6 : Bool) (v : Nat) : Bool :=
  (List.range 4).any (fun k => decide (bits v (20 + 6 * k) 6 ≠ 0) && decide (effCode v6 k (bits v (20 + 6 * k) 6) = 0))

/-- Entries of the member pool. -/
def State.poolSize (s : State) : Nat := ((s.layout.tblRole 5).map (fun t => t.slots)).getD 0

/-- The INVALID DETAIL of the route checks (R174) on a command that names key or entry. -/
def State.routeCheck (s : State) (c : Cmd) (op : Nat) (t : Tbl) (fetched : Nat) : Option Nat :=
  let writes := decide (op = opInsert) || decide (op = opModify) || decide (op = opCas)
  if t.isClass && !(c.byIndex && decide (op ≠ opModify)) then
    let len := c.bits 272 8
    let base := classBase t.isV6 t.cls
    if len < base || base + classWidth t.isV6 t.cls ≤ len then some 7
    else if maskAddr t.isV6 (c.keyAddr t) len ≠ c.keyAddr t then some 8
    else none
  else if t.isFilter && writes && badCode t.isV6 (c.bits 320 44) then some 9
  else if writes && t.role = 4 && (decide (512 < bits (c.entryFor t 0 fetched) 24 10) ||
      decide (s.poolSize < bits (c.entryFor t 0 fetched) 0 24 + bits (c.entryFor t 0 fetched) 24 10)) then some 10
  else if writes && t.role = 3 && (decide (5 ≤ bits (c.entryFor t 0 fetched) 0 3) ||
      (decide (bits (c.entryFor t 0 fetched) 0 3 = 4) && decide (bits (c.entryFor t 0 fetched) 3 6 < 16))) then some 11
  else none

/-- The table of a command and what refuses it before it reads the table: status and detail. (DEDUCED, log entry 12.) -/
def State.tblCheck (s : State) (c : Cmd) (fetched : Nat) : Except (Nat × Nat) Tbl :=
  let op := c.opcode
  match s.tblOf c.tblId with
  | none => .error (stInvalid, 12)
  | some t =>
    if t.kind = kRule && decide (op ≠ opLookup) && decide (op ≠ opReadIndex) && ((s.layout.groupOf t).isSome || decide (op = opSwitch)) then
      .error (stInvalid, 6)
    else if op = opSwitch then .ok t
    else if !formOk op c.byIndex t then .error (stInvalid, 13)
    else if c.byIndex && t.slots ≤ c.index then .error (stInvalid, 14)
    else
      match s.routeCheck c op t fetched with
      | some d => .error (stInvalid, d)
      | none =>
        if c.byIndex && op = opModify && (t.isFilter || t.isClass) && c.index / t.perLine ≠ (s.cmdKey c t).1 then .error (stInvalid, 14)
        else if s.layoutMoving t && op ≠ opLookup && op ≠ opReadIndex then .error (stEpochBusy, 0)
        else .ok t

/-- The hash line a command addresses. -/
def State.cmdLine (s : State) (c : Cmd) (t : Tbl) : Nat := if c.byIndex then c.index / t.perLine else (s.cmdKey c t).1

/-! ### Reads -/

/-- TBL_LOOKUP and TBL_READ_INDEX (R193): command reads, which take no write slot (R188). -/
def State.tblRead (s : State) (id op : Nat) : State :=
  match s.startable id (fun o => decide (o = op)) with
  | none => s
  | some c =>
    match s.tblCheck c 0 with
    | .error (st, d) => s.finishR id st d 0
    | .ok t =>
      match s.lockedSeg t (s.cmdLine c t) with
      | some k => s.finishR id stLocked k 0
      | none =>
        if op = opLookup then
          let (l, key) := s.cmdKey c t
          match s.findSlot false t l key with
          | none => s.finishR id stNotFound 0 0
          | some sl => if s.entryLost t sl then s.finishR id stEccFail 0 0 else s.tblReturn c t sl stOK
        else if s.entryLost t c.index then s.finishR id stEccFail 0 0
        else if t.hashed && !t.occupied (s.slotOf t c.index) then s.finishR id stNotFound 0 0
        else s.tblReturn c t c.index stOK

def execTblLookup (id : Nat) (s : State) : Host.Outcome State Fault Refusal :=
  .next (s.onFe (fun s => s.tblRead id opLookup))

def execTblReadIndex (id : Nat) (s : State) : Host.Outcome State Fault Refusal :=
  .next (s.onFe (fun s => s.tblRead id opReadIndex))

/-! ### Writes -/

/-- A writing command is checked and enters the write pipeline; the 64-byte entry it names is fetched first (R189, R191).
(DEDUCED, log entry 12.) -/
def State.tblAccept (s : State) (id op : Nat) (entry : ReadResult) : State :=
  match s.startable id (fun o => decide (o = op)) with
  | none => s
  | some c =>
    let big := match s.tblOf c.tblId with
      | some t => decide (t.bytes = 64) && decide (op = opModify)
      | none => false
    let s := if big then s.emit (.hostRead (c.bits 128 64) 64) else s
    let fetched := match entry with
      | .data bs => leNat (bs.take 64)
      | .fail => 0
    if big && decide (entry = .fail) then s.finishR id stInvalid 26 0
    else
      match s.tblCheck c fetched with
      | .error (st, d) => s.finishR id st d 0
      | .ok _ =>
        let s := s.begin id
        { s with tm := { s.tm with wq := s.tm.wq ++ [(id, fetched)] } }

def execTblInsert (id : Nat) (s : State) : Host.Outcome State Fault Refusal :=
  .next (s.onFe (fun s => s.tblAccept id opInsert .fail))

def execTblDelete (id : Nat) (s : State) : Host.Outcome State Fault Refusal :=
  .next (s.onFe (fun s => s.tblAccept id opDelete .fail))

def execTblModify (id : Nat) (entry : ReadResult) (s : State) : Host.Outcome State Fault Refusal :=
  .next (s.onFe (fun s => s.tblAccept id opModify entry))

def execTblCas (id : Nat) (s : State) : Host.Outcome State Fault Refusal :=
  .next (s.onFe (fun s => s.tblAccept id opCas .fail))

def execTblAgeDelete (id : Nat) (s : State) : Host.Outcome State Fault Refusal :=
  .next (s.onFe (fun s => s.tblAccept id opAgeDelete .fail))

/-- NEED_REHASH and NO_ROOM count in FE.TCMD.REHASH (R209). -/
def State.rehashNote (s : State) (table : Nat) : State :=
  (s.sat FE_TCMD.REHASH.COUNT 0 0 1).wf FE_TCMD.REHASH.LAST_TABLE table

/-- An entry written at a slot, with the tail of an IPv6 head (R160, R189); the count rises when the slot was empty. -/
def State.putEntry (s : State) (t : Tbl) (sl v tail : Nat) : State :=
  let was := t.occupied (s.slotOf t sl)
  let s := match s.tailOf t with
    | some tt => s.writeEntry tt tt.live sl tail
    | none => s
  let s := s.writeEntry t t.live sl v
  if was || !t.hashed then s else s.countEntry t true

/-- The tail record a command writes. -/
def Cmd.tailFor (c : Cmd) : Nat := c.bits 320 20

/-- The write slot of TBL_CAS on a slot (R193). -/
def State.casAt (s : State) (c : Cmd) (t : Tbl) (sl : Nat) : State :=
  let n := 8 * t.bytes
  let new := c.bits 128 128 % 2 ^ n
  let new := if t.kind = kExact then setBit new (if t.role = 1 then 32 else 60) true else new
  let present := s.slotOf t sl
  let mask := c.bits 384 128
  if s.slotGone t sl then s.finishR c.id stEccFail 0 0
  else if present &&& mask = c.bits 256 128 &&& mask then
    let s := s.writeEntry t t.live sl new
    s.finishR c.id stOK 0 (s.tblResult t sl new)
  else s.finishR c.id stCasFail 0 (s.tblResult t sl present)

/-- The write slot of a table command (R189, R193): it reads, decides and writes one entry, and the command finishes. The
remaining outcome of TBL_AGE_DELETE is `age`. (DEDUCED, log entry 12.) -/
def State.tblWriteAt (s : State) (c : Cmd) (t : Tbl) (fetched : Nat) (age : State → Tbl → Option Nat → State) : State :=
  let id := c.id
  let op := c.opcode
  let (l, key) := s.cmdKey c t
  match s.lockedSeg t (s.cmdLine c t) with
  | some k => s.finishR id stLocked k 0
  | none =>
    if c.byIndex then
      if op = opDelete then (s.emptyOut t c.index).finishR id stOK 0 (c.index % 2 ^ 32)
      else if op = opCas then s.casAt c t c.index
      else
        let v := c.entryFor t key fetched
        let s := s.putEntry t c.index v c.tailFor
        s.finishR id stOK 0 (s.tblResult t c.index v)
    else
      let found := s.findSlot true t l key
      if op = opAgeDelete then age s t found
      else if op = opInsert then
        match found with
        | some _ => s.finishR id stExists 0 0
        | none =>
          match s.freeSlot t l with
          | none => ((s.rehashNote t.id).raise Ev.FE_TCMD.NEED_REHASH 0 0 t.id l).finishR id stNeedRehash t.id 0
          | some sl =>
            let v := c.entryFor t key fetched
            let s := s.putEntry t sl v c.tailFor
            s.finishR id stOK 0 (s.tblResult t sl v)
      else
        match found with
        | none => s.finishR id stNotFound 0 0
        | some sl =>
          if op = opDelete then (s.emptyOut t sl).finishR id stOK 0 (sl % 2 ^ 32)
          else if op = opCas then s.casAt c t sl
          else
            let v := c.entryFor t key fetched
            let s := s.putEntry t sl v c.tailFor
            s.finishR id stOK 0 (s.tblResult t sl v)

/-! ### Region switch (R195) -/

/-- TBL_SWITCH_REGION (R195): checked and accepted; it takes effect at REGION_SWITCH_APPLY. -/
def State.tblSwitch (s : State) (id : Nat) : State :=
  match s.startable id (fun o => decide (o = opSwitch)) with
  | none => s
  | some c =>
    match s.tblCheck c 0 with
    | .error (st, d) => s.finishR id st d 0
    | .ok t =>
      let r := !t.live
      let mult := c.bits 192 64
      let lines := c.bits 256 32
      if s.epochState = esStaging || s.epochState = esStaged || s.layoutMoving t then s.finishR id stEpochBusy 0 0
      else if !(t.region r).used || mult % 2 = 0 || lines = 0 || lines < t.minLines || t.capacity r < lines then
        s.finishR id stInvalid 15 0
      else
        match (s.tm.locks.filter (fun x => decide (x.dir = t.dir) && decide (x.table = t.id) &&
            decide (x.reg = t.region r))).map (fun x => x.seg) with
        | k :: ks => s.finishR id stLocked (ks.foldl min k) 0
        | [] =>
          let s := s.begin id
          { s with tm := { s.tm with switches := s.tm.switches ++ [id] } }

def execTblSwitchRegion (id : Nat) (s : State) : Host.Outcome State Fault Refusal := .next (s.onFe (fun s => s.tblSwitch id))

/-- The tables of both banks with a table's ID, direction and regions take new live parameters (R195 step 2), which are the region's
from then on; the tail array follows its heads (R157). -/
def Bank.switchTbl (b : Bank) (t : Tbl) (r : Bool) (seed mult lines : Nat) : Bank :=
  ({ b with tbls := b.tbls.map (fun x =>
      if x.id = t.id && x.dir = t.dir && x.reg0 = t.reg0 && x.reg1 = t.reg1 then
        let x := if r then { x with seed1 := seed, mult1 := mult, lines1 := lines } else { x with seed0 := seed, mult0 := mult, lines0 := lines }
        { x with live := r, seed := seed, mult := mult, lines := lines }
      else x) } : Bank).tailLines

/-- REGION_SWITCH_APPLY (R195): no write to the table is in the write pipeline, and the other region becomes live. -/
def State.switchApply (s : State) (id : Nat) : State :=
  match s.cmd id with
  | none => s
  | some c =>
    if !s.tm.switches.contains id || decide (c.phase ≠ .begun) then s
    else
      match s.tblOf c.tblId with
      | none => s
      | some t =>
        let busy := s.tm.wq.any (fun (w, _) => match s.cmd w with
          | some d => decide (d.phase = .begun) && decide (d.tblId = t.id)
          | none => false)
        if busy then s
        else
          let r := !t.live
          let s := { s with tm := { s.tm with switches := s.tm.switches.filter (fun k => !decide (k = id)) } }
          let ba := s.bankA.switchTbl t r (c.bits 128 64) (c.bits 192 64) (c.bits 256 32)
          let bb := s.bankB.switchTbl t r (c.bits 128 64) (c.bits 192 64) (c.bits 256 32)
          let s := { s with bankA := ba, bankB := bb }
          let s := match t.cntFld with
            | some (f, i) => s.setCnt f i (c.bits 288 32)
            | none => s
          let s := s.showLayout.raise Ev.FE_TCMD.REGION_SWITCHED 0 0 t.id (b2n r)
          s.finishR id stOK 0 (b2n r)

def execRegionSwitchApply (id : Nat) (s : State) : Host.Outcome State Fault Refusal :=
  .next (s.onFe (fun s => s.switchApply id))

/-! ### Raw DMA (R184 to R187) -/

/-- What a BAR2 offset addresses: direction, logical position, line and word; none for a reserved offset. -/
def bar2Of (off : Nat) : Option (Nat × Nat × Nat × Nat) :=
  if 0x20000000 ≤ off || 0x180000 ≤ off % 0x200000 then none
  else some (off / 0x10000000, off % 0x10000000 / 0x200000, off % 0x200000 / 32, off % 32 / 4)

/-- The tables of the active and the staged layout. -/
def State.layoutTbls (s : State) : List Tbl :=
  (if s.noEpoch then [] else s.layout.tbls) ++ (s.bank s.stagedBank).tbls

/-- The line lies in a locked segment of a region of some table (R185, R187). -/
def State.lineLocked (s : State) (dir c ln : Nat) : Bool :=
  s.tm.locks.any (fun k =>
    decide (k.dir = dir) && k.reg.holds c ln &&
    s.layoutTbls.any (fun t => decide (t.dir = dir) && decide (t.id = k.table) &&
      [false, true].any (fun r => decide (t.region r = k.reg) &&
        decide (((c - k.reg.firstCell) / t.width * k.reg.lpc + (ln - k.reg.firstLine)) / segSize (t.linesOf r) = k.seg))))

/-- A remap copy runs in a strip of the direction (R185). -/
def State.copyRuns (s : State) (dir : Nat) : Bool := (List.range 8).any (fun i => (s.remapNow (dir * 8 + i)).isSome)

/-- One word of a BAR2 write (R185). -/
def State.bar2Word (s : State) (off v : Nat) : State :=
  match bar2Of off with
  | none => s.accessErr 69 2 off v
  | some (d, c, ln, w) =>
    if s.lineLocked d c ln then (s.writeLine d c ln (32 * w) 32 v).inc FE_TDMA.DMA_WORDS.COUNT 0 0 1
    else
      let s := (s.sat1 FE_TDMA.DMA_UNLOCKED.COUNT).wf FE_TDMA.DMA_LAST_DISCARD.OFFSET off
      s.raise Ev.FE_TDMA.DMA_UNLOCKED 0 0 off v

/-- A BAR2 write that reaches the device: whole aligned words in ascending address (R184, R185). -/
def State.bar2Take (s : State) (off width v : Nat) : State :=
  if !s.operating 69 then s
  else if width % 4 ≠ 0 || width = 0 || off % 4 ≠ 0 then s.accessErr 69 1 off v
  else (List.range (width / 4)).foldl (fun s k => s.bar2Word (off + 4 * k) (bits v (32 * k) 32)) s

/-- Flow control holds a BAR2 write at an offset: a remap copy runs in its direction (R185). (DEDUCED, log entry 12.) -/
def State.dmaStops (s : State) (off : Nat) : Bool := decide (off < 0x20000000) && s.copyRuns (off / 0x10000000)

/-- BAR2_WRITE (R184, R185). While a remap copy runs in the direction the write is held by flow control; later ones wait behind it,
because writes are made in arrival order. (DEDUCED, log entry 12.) -/
def State.bar2Write (s : State) (off width v : Nat) : State :=
  if s.dmaStops off || !s.tm.dmaHeld.isEmpty then { s with tm := { s.tm with dmaHeld := s.tm.dmaHeld ++ [(off, width, v)] } }
  else s.bar2Take off width v

/-- Held BAR2 writes go on in arrival order, up to one that is still held. -/
def State.dmaGo : Nat → State → State
  | 0, s => s
  | n + 1, s =>
    match s.tm.dmaHeld with
    | [] => s
    | (off, width, v) :: rest =>
      if s.dmaStops off then s
      else State.dmaGo n (({ s with tm := { s.tm with dmaHeld := rest } } : State).bar2Take off width v)

/-- The held BAR2 writes after a step that may have ended a copy. -/
def State.dmaDrain (s : State) : State := State.dmaGo s.tm.dmaHeld.length s

def execRemapDone (strip extra : Nat) (s : State) : Host.Outcome State Fault Refusal :=
  .next (s.onFe (fun s => (s.remapDone strip extra).dmaDrain))

def execCellCheckError (phys : Nat) (f : CellFinding) (unit : Nat) (s : State) : Host.Outcome State Fault Refusal :=
  .next (s.onFe (fun s => (s.cellCheckError phys f unit).dmaDrain))

def execBar2Write (off width data : Nat) (s : State) : Host.Outcome State Fault Refusal :=
  .next (s.onFe (fun s => s.bar2Write off width data))

/-- BAR2_READ of one word (R184, R186). -/
def State.bar2Read (s : State) (off : Nat) : State :=
  match bar2Of off with
  | none => s.emit (.readData 0)
  | some (d, c, ln, w) =>
    if s.wordLost d c ln w then
      (s.raise Ev.FE_TDMA.DMA_UNCORRECTABLE 0 0 (off / 4 * 4) 0).emit (.readData 0xFFFFFFFF)
    else s.emit (.readData (bits (s.line d c ln) (32 * w) 32))

def execBar2Read (off : Nat) (s : State) : Host.Outcome State Fault Refusal := .next (s.onFe (fun s => s.bar2Read off))

/-- The table and region LOCK_CTRL selects, in the active layout or in the staged one, which there is from STAGING to ARMED (R87). -/
def State.lockTarget (s : State) : Option (Tbl × Bool) :=
  let staged := s.rfb FE_TDMA.LOCK_CTRL.STAGED
  let open_ := decide (s.epochState = esStaging) || decide (s.epochState = esStaged) || decide (s.epochState = esArmed)
  let b := if staged then (if open_ then s.bank s.stagedBank else { s.layout with tbls := [] })
    else if s.noEpoch then { s.layout with tbls := [] } else s.layout
  let r := s.rfb FE_TDMA.LOCK_CTRL.REGION
  (b.tblId (s.rf FE_TDMA.LOCK_CTRL.TABLE_ID)).bind (fun t => if (t.region r).used then some (t, r) else none)

/-- LOCK_MAP of the selected region, and LOCKED_SEGS (R210). -/
def State.showLocks (s : State) : State :=
  let sel := s.lockTarget
  let on := fun k => match sel with
    | none => false
    | some (t, r) => s.tm.locks.any (fun x => decide (x.dir = t.dir) && decide (x.table = t.id) && decide (x.reg = t.region r) && decide (x.seg = k))
  let s := (List.range 8).foldl (fun s m =>
    s.wfi FE_TDMA.LOCK_MAP.LOCKED m (sumN ((List.range 32).map (fun b => if on (32 * m + b) then 2 ^ b else 0)))) s
  s.setCnt FE_TDMA.LOCKED_SEGS.COUNT 0 s.tm.locks.length

/-- Segments `[a, b]` of a region locked or unlocked. -/
def State.setLocks (s : State) (t : Tbl) (r : Bool) (a b : Nat) (lock : Bool) : State :=
  let mine := fun (x : SegLock) => decide (x.dir = t.dir) && decide (x.table = t.id) && decide (x.reg = t.region r) &&
    decide (a ≤ x.seg) && decide (x.seg ≤ b)
  let rest := s.tm.locks.filter (fun x => !mine x)
  let add : List SegLock := if lock then (List.range (b + 1 - a)).map (fun k => ⟨t.dir, t.id, t.region r, a + k⟩) else []
  { s with tm := { s.tm with locks := rest ++ add } }

/-- A write of LOCK_CTRL (R187, R210). -/
def State.lockCtrl (s : State) (v : Nat) : State :=
  if !s.blockOpen 69 then s
  else
    let s := ((s.wf FE_TDMA.LOCK_CTRL.TABLE_ID (bits v 0 8)).wf FE_TDMA.LOCK_CTRL.REGION (bits v 8 1)).wf
      FE_TDMA.LOCK_CTRL.STAGED (bits v 9 1)
    let s := ((s.wf FE_TDMA.LOCK_CTRL.OP (bits v 10 1)).wf FE_TDMA.LOCK_CTRL.FIRST_SEG (bits v 16 8)).wf
      FE_TDMA.LOCK_CTRL.LAST_SEG (bits v 24 8)
    let s := if bit v 11 then
        match s.lockTarget with
        | some (t, r) =>
          if bits v 24 8 < bits v 16 8 then s.raise Ev.FE_TDMA.LOCK_REFUSED 0 0 v 0
          else s.setLocks t r (bits v 16 8) (bits v 24 8) (bit v 10)
        | none => s.raise Ev.FE_TDMA.LOCK_REFUSED 0 0 v 0
      else s
    s.showLocks

/-- TDMA_LOCK (R187): a write of LOCK_CTRL with GO and OP lock. -/
def execTdmaLock (ctrl : Nat) (s : State) : Host.Outcome State Fault Refusal :=
  .next (s.onFe (fun s => s.lockCtrl (setBit (setBit (ctrl % 2 ^ 32) 11 true) 10 true)))

/-- TDMA_UNLOCK (R187): a write of LOCK_CTRL with GO and OP unlock. -/
def execTdmaUnlock (ctrl : Nat) (s : State) : Host.Outcome State Fault Refusal :=
  .next (s.onFe (fun s => s.lockCtrl (setBit (setBit (ctrl % 2 ^ 32) 11 true) 10 false)))

/-! ### The hold and the scrubber -/

/-- HOLD_WRITE (R196): the held table and ENABLE; ACTIVE reads 0 until HOLD_DRAINED. -/
def State.holdWrite (s : State) (v : Nat) : State :=
  if !s.blockOpen 68 then s
  else
    let same := decide (bits v 0 8 = s.rf FE_TCMD.HOLD.TABLE) && bit v 8
    let s := (s.wf FE_TCMD.HOLD.TABLE (bits v 0 8)).wf FE_TCMD.HOLD.ENABLE (bits v 8 1)
    if same then s else s.wf FE_TCMD.HOLD.ACTIVE 0

def execHoldWrite (v : Nat) (s : State) : Host.Outcome State Fault Refusal := .next (s.onFe (fun s => s.holdWrite v))

/-- The autonomous writers of the table are held (R196). -/
def State.held (s : State) (table : Nat) : Bool := s.rfb FE_TCMD.HOLD.ENABLE && decide (s.rf FE_TCMD.HOLD.TABLE = table)

/-- HOLD_DRAINED (R196): no held write of the table remains in the pipeline and ACTIVE reads 1. -/
def State.holdDrained (s : State) : State :=
  if s.rfb FE_TCMD.HOLD.ENABLE && !s.ln.dels.any (fun d => decide (d.1 = s.rf FE_TCMD.HOLD.TABLE)) then s.wf FE_TCMD.HOLD.ACTIVE 1
  else s

def execHoldDrained (s : State) : Host.Outcome State Fault Refusal := .next (s.onFe (fun s => s.holdDrained))

/-- TABLE_SCRUB (R198): the scrubber reads a line of a strip. `upset` lists the (strip, word) pairs of the line's replicas that
have become uncorrectable, `single` the words of this replica with a single-bit error; `written` says that a write of
R118 reached the line before the rewrite. -/
def State.tableScrub (s : State) (st c ln : Nat) (single : List Nat) (upset : List (Nat × Nat)) (written : Bool) : State :=
  if 16 ≤ st || 128 ≤ c || 49152 ≤ ln then s
  else
    let dir := st / 8
    let s := upset.foldl (fun s (x, w) => if x / 8 = dir && w < 8 && !s.wordBad x c ln w then s.markWord x c ln w true else s) s
    let copying := (List.range 16).any (fun x => match s.remapNow x with
      | some m => decide (m.logical = c) && (decide (x = st) || decide (m.src = some st))
      | none => false)
    if !s.cellMapped st c || copying || written || !s.operating 68 then s
    else
      let n := (single.filter (fun w => decide (w < 8) && !s.wordBad st c ln w)).length
      let s := s.sat FE_TCMD.SCRUB_CORR.COUNT 0 0 n
      let lost := (List.range 8).filter (fun w => s.wordLost dir c ln w)
      let s := (List.range 8).foldl (fun s w =>
        if !s.wordBad st c ln w then s
        else if lost.contains w then s.sat1 FE_TCMD.SCRUB_UNC.COUNT
        else (s.markWord st c ln w false).sat1 FE_TCMD.SCRUB_REPAIRED.COUNT) s
      if lost.isEmpty then s
      else
        let s := (s.wf FE_TCMD.SCRUB_LAST.LOGICAL (st * 128 + c)).wf FE_TCMD.SCRUB_LAST.LINE ln
        s.raise Ev.FE_TCMD.SCRUB_UNCORRECTABLE 0 0 (st * 128 + c) ln

def execTableScrub (strip pos line : Nat) (single : List Nat) (upset : List (Nat × Nat)) (written : Bool) (s : State) :
    Host.Outcome State Fault Refusal :=
  .next (s.onFe (fun s => s.tableScrub strip pos line single upset written))

end Sys2Proof.Machine
end

