-- ==== Sys2Proof/Machine/Learn.lean ====
section
/-! DEFINITION. Learning (R199 to R204), the hit recorder (R205), the ager (R206 to R208), and the write pipeline that they
share with table commands (R188, R189). -/

namespace Sys2Proof.Machine

/-! ### The notify ring (R204) -/

def oInserted : Nat := 0
def oMoved : Nat := 1
def oDamped : Nat := 2
def oDuplicate : Nat := 3
def oNoRoom : Nat := 4
def oStatic : Nat := 5
def oAgedOut : Nat := 6

/-- A notify record for an outcome whose bit is set in OUTCOMES (R200, R204); a failed write is lost and counted (R514). -/
def State.notify (s : State) (ev : LearnEv) (outcome old : Nat) : State :=
  if !s.rfb FE_LEARN.NOTIFY_CTRL.ENABLE || !bit (s.rf FE_LEARN.NOTIFY_CTRL.OUTCOMES) outcome then s
  else
    let size := 2 ^ s.rf FE_LEARN.NOTIFY_CTRL.LOG2_SIZE
    let tail := s.rf FE_LEARN.NOTIFY_STATUS.TAIL
    let head := s.rf FE_LEARN.NOTIFY_HEAD.HEAD
    if (tail + 1) % size = head then
      (s.sat1 FE_LEARN.NOTIFY_DROP.COUNT).raiseO Ev.FE_LEARN.NOTIFY_FULL 0 none (some tail) (some head)
    else
      let v := ev.mac % 2 ^ 48 + ev.bd % 2 ^ 12 * 2 ^ 48 + ev.kind % 4 * 2 ^ 64 + ev.pipe % 16 * 2 ^ 68 + ev.port % 512 * 2 ^ 72 +
        old % 512 * 2 ^ 81 + outcome * 2 ^ 90 + s.rf FE_AGE.NOW.TICKS * 2 ^ 96 + ev.table % 256 * 2 ^ 112 +
        s.rf FE_LEARN.NOTIFY_STATUS.PHASE * 2 ^ 127
      let base := s.rf FE_LEARN.NOTIFY_BASE_HI.ADDR * 2 ^ 32 + s.rf FE_LEARN.NOTIFY_BASE_LO.ADDR * 2 ^ 12
      let (ok, s) := s.post false (base + 16 * tail) (toLe 16 v)
      if !ok then s.sat1 FE_LEARN.NOTIFY_DROP.COUNT
      else
        let n := (tail + 1) % size
        let s := s.wf FE_LEARN.NOTIFY_STATUS.TAIL n
        let s := if n = 0 then s.wf FE_LEARN.NOTIFY_STATUS.PHASE (1 - s.rf FE_LEARN.NOTIFY_STATUS.PHASE) else s
        if tail = head then s.raiseO Ev.FE_LEARN.NOTIFY_READY 0 none (some n) (some 0) else s

/-! ### The learn queue (R199 to R201) -/

/-- QUEUE.DEPTH shows the learn queue. -/
def State.setLearnQueue (s : State) (q : List LearnEv) : State :=
  ({ s with ln := { s.ln with queue := q } } : State).wf FE_LEARN.QUEUE.DEPTH q.length

/-- A learn event arrives at the queue (R201); on a fenced or resetting page it counts in QUEUE_DROP (R382). -/
def State.learnArrive (s : State) (ev : LearnEv) : State :=
  if !s.operating 70 then s.satLater FE_LEARN.QUEUE_DROP.COUNT 0 0 1
  else if 16384 ≤ s.ln.queue.length then
    (s.sat1 FE_LEARN.QUEUE_DROP.COUNT).raiseO Ev.FE_LEARN.QUEUE_FULL 0 none (some ev.pipe) (some 0)
  else s.setLearnQueue (s.ln.queue ++ [ev])

/-- A hit set is lost (R187, R196, R205). -/
def State.hitLost (s : State) (table : Nat) : State :=
  (s.sat1 FE_TCMD.HIT_LOST.COUNT).raiseO Ev.FE_TCMD.HIT_LOST 0 none (some table) (some 0)

/-- A hit set arrives at the hit recorder (R196, R205). -/
def State.hitArrive (s : State) (h : HitSet) : State :=
  if s.held h.table then s.hitLost h.table
  else if s.ln.hits.any (fun x => decide (x.table = h.table) && decide (x.key = h.key)) then s
  else if 4096 ≤ s.ln.hits.length then s.hitLost h.table
  else { s with ln := { s.ln with hits := s.ln.hits ++ [h] } }

/-- Key of a MAC entry: BD above MAC (R182). -/
def LearnEv.key (ev : LearnEv) : Nat := ev.mac % 2 ^ 48 + ev.bd % 2 ^ 12 * 2 ^ 48

/-! ### The learn engine (R202, R203) -/

/-- A MAC entry as the learn engine writes it (R173, R202). -/
def State.macEntry (s : State) (ev : LearnEv) : Nat :=
  ev.key + 2 ^ 60 + (s.rf FE_LEARN.PORT_NH_BASE.BASE + ev.port) % 2 ^ 20 * 2 ^ 64 + ev.port % 2 ^ 9 * 2 ^ 84 +
    s.rf FE_AGE.NOW.TICKS * 2 ^ 96

/-- The damping window of a key, if it is open (R203). -/
def State.dampOf (s : State) (key : Nat) : Option Damp :=
  s.ln.damps.find? (fun d => decide (d.key = key) && decide (s.cycle < d.opened + cySec))

/-- A move of the key is damped (R203). -/
def State.damped (s : State) (key : Nat) : Bool :=
  let m := s.rf FE_LEARN.MOVE_MAX.MAX
  decide (m = 0) || (match s.dampOf key with
    | some d => decide (m ≤ d.moves)
    | none => false)

/-- A move is counted in the key's window, which opens with the first; a new key takes the place of the key whose window
opened earliest when 4,096 are held (R203). -/
def State.dampMove (s : State) (key : Nat) : State :=
  match s.dampOf key with
  | some _ =>
    { s with ln := { s.ln with damps := s.ln.damps.map (fun d => if d.key = key then { d with moves := d.moves + 1 } else d) } }
  | none =>
    let ds := s.ln.damps.filter (fun d => !decide (d.key = key))
    let ds := if 4096 ≤ ds.length then ds.drop 1 else ds
    { s with ln := { s.ln with damps := ds ++ [⟨key, 1, s.cycle⟩] } }

/-- The head learn event waits (R96, R187, R196): its table is held, its layout moves, or its segment is locked. -/
def State.learnWaits (s : State) (t : Tbl) (ev : LearnEv) : Bool :=
  s.held t.id || s.layoutMoving t || (s.lockedSeg t (t.hash 0 ev.key).1).isSome

/-- The outcome of an event on its table (R202). -/
def State.learnOutcome (s : State) (t : Tbl) (ev : LearnEv) : Nat :=
  let l := (t.hash 0 ev.key).1
  match s.findSlot true t l ev.key with
  | none => if (s.freeSlot t l).isSome then oInserted else oNoRoom
  | some sl =>
    let e := s.slotOf t sl
    if bit e 61 then oStatic
    else if bits e 84 9 = ev.port then oDuplicate
    else if s.damped ev.key then oDamped
    else oMoved

/-- The head event of the learn queue with its table, when the engine can process it. -/
def State.learnHead (s : State) : Option (LearnEv × Option Tbl) :=
  match s.ln.queue with
  | [] => none
  | ev :: _ =>
    if !s.operating 70 then none
    else
      match s.tblOf ev.table with
      | none => some (ev, none)
      | some t => if s.learnWaits t ev then none else some (ev, some t)

/-- LEARN_EVENT_PROCESS (R202): the head event of the queue is processed. An event whose table the layout no longer holds is
dropped. -/
def State.learnProcess (s : State) : State :=
  match s.learnHead with
  | none => s
  | some (ev, ot) =>
    let s := s.setLearnQueue (s.ln.queue.drop 1)
    match ot with
    | none => s
    | some t =>
      let l := (t.hash 0 ev.key).1
      let o := s.learnOutcome t ev
      let d1 := ev.mac % 2 ^ 48 / 2 ^ 32 + ev.bd % 2 ^ 12 * 2 ^ 16
      match s.findSlot true t l ev.key, s.freeSlot t l with
      | none, some sl =>
        let s := (s.writeEntry t t.live sl (s.macEntry ev)).countEntry t true
        let s := (s.inc FE_TCMD.LEARN_WRITES.COUNT 0 0 1).inc FE_LEARN.INSERTED.COUNT 0 0 1
        s.notify ev oInserted 0
      | none, none =>
        let s := (s.rehashNote t.id).sat1 FE_LEARN.NO_ROOM.COUNT
        (s.raiseO Ev.FE_LEARN.LEARN_NO_ROOM 0 none (some t.id) (some l)).notify ev oNoRoom 0
      | some sl, _ =>
        let old := bits (s.slotOf t sl) 84 9
        if o = oStatic then (s.sat1 FE_LEARN.STATIC.COUNT).notify ev o 0
        else if o = oDuplicate then (s.sat1 FE_LEARN.DUPLICATE.COUNT).notify ev o 0
        else if o = oDamped then
          ((s.sat1 FE_LEARN.DAMPED.COUNT).raise Ev.FE_LEARN.MAC_MOVE_DAMPED 0 ev.port (ev.mac % 2 ^ 32) d1).notify ev o 0
        else
          let s := (s.dampMove ev.key).writeEntry t t.live sl (s.macEntry ev)
          let s := (s.inc FE_TCMD.LEARN_WRITES.COUNT 0 0 1).inc FE_LEARN.MOVED.COUNT 0 0 1
          (s.raise Ev.FE_LEARN.MAC_MOVE 0 ev.port (ev.mac % 2 ^ 32) d1).notify ev oMoved old

def execLearnEventProcess (s : State) : Host.Outcome State Fault Refusal := .next (s.onFe (fun s => s.learnProcess))

/-- DAMP_WINDOW_EXPIRE (R203): the window of a key ends one second after it opened. -/
def execDampWindowExpire (key : Nat) (s : State) : Host.Outcome State Fault Refusal :=
  if !s.feOn then .next s else
  match s.ln.damps.find? (fun d => decide (d.key = key)) with
  | none => .next s
  | some d =>
    let s := s.advanceTo (d.opened + cySec)
    .next { s with ln := { s.ln with damps := s.ln.damps.filter (fun x => !decide (x.key = key)) } }

/-! ### Hit sets and aging (R205 to R208) -/

/-- The slot of a table still holds a key with VALID = 1. -/
def State.slotHolds (s : State) (t : Tbl) (sl key : Nat) : Bool :=
  decide (sl < t.slots) && t.occupied (s.slotOf t sl) && decide (t.keyField (s.slotOf t sl) = key)

/-- HIT_SET_WRITE (R205): the oldest held hit set reaches its write slot. -/
def State.hitWrite (s : State) : State :=
  match s.ln.hits with
  | [] => s
  | h :: hs =>
    let s := { s with ln := { s.ln with hits := hs } }
    match s.tblOf h.table with
    | none => s
    | some t =>
      if s.held t.id || (s.lockedSeg t (h.slot / t.perLine)).isSome then s.hitLost t.id
      else
        let s := s.inc FE_TCMD.HIT_WRITES.COUNT 0 0 1
        if s.slotHolds t h.slot h.key then s.writeEntry t t.live h.slot (setBit (s.slotOf t h.slot) 62 true) else s

def execHitSetWrite (s : State) : Host.Outcome State Fault Refusal := .next (s.onFe (fun s => s.hitWrite))

/-- The aged tables of the active layout: MAC tables alone, as aging never touches any other (R147, R179). -/
def State.agedTables (s : State) : List Nat :=
  if s.noEpoch then [] else (s.layout.tbls.filter (fun t => t.aged && decide (t.role = 2) && decide (t.kind = kExact))).map (fun t => t.id)

/-- AGE_TICK (R206): NOW rises, and a walk starts or waits for the end of the one before, which is an overrun. -/
def State.ageTick (s : State) : State :=
  if !s.operating 71 || !s.rfb FE_AGE.CTRL.ENABLE then s
  else
    let s := s.wf FE_AGE.NOW.TICKS (wrapAdd 16 (s.rf FE_AGE.NOW.TICKS) 1)
    match s.ln.walk with
    | none => { s with ln := { s.ln with walk := some ⟨s.agedTables, 0, s.cycle, false⟩ } }
    | some w =>
      let s := { s with ln := { s.ln with walk := some { w with again := true } } }
      (s.sat1 FE_AGE.WALK_OVERRUN.COUNT).raise Ev.FE_AGE.WALK_OVERRUN 0 0 (s.rf FE_AGE.NOW.TICKS) (s.rf FE_AGE.LAST_WALK_US.US)

def execAgeTick (s : State) : Host.Outcome State Fault Refusal := .next (s.onFe (fun s => s.ageTick))

/-- LIMIT in force (R212). -/
def State.ageLimit (s : State) : Nat := orWhenZero (s.rf FE_AGE.LIMIT.TICKS) 1

/-- The walk examines one entry (R206): a refresh, or an age deletion, is issued and waits for a write slot of the ager (R188). -/
def State.walkEntry (s : State) (t : Tbl) (sl : Nat) : State :=
  let e := s.slotOf t sl
  if !bit e 60 || bit e 61 || s.slotLost t sl then s
  else if bit e 62 || s.ageLimit ≤ (s.rf FE_AGE.NOW.TICKS + 65536 - bits e 96 16) % 65536 then
    { s with ln := { s.ln with dels := s.ln.dels ++ [(t.id, sl, t.keyField e, bit e 62)] } }
  else s

/-- The walk ends: LAST_WALK_US, and the walk that waits starts (R206). -/
def State.walkEnd (s : State) (w : AgeWalk) : State :=
  let s := s.wf FE_AGE.LAST_WALK_US.US (min ((s.cycle - w.began) / cyUs) (2 ^ 32 - 1))
  { s with ln := { s.ln with walk := if w.again then some ⟨s.agedTables, 0, s.cycle, false⟩ else none } }

/-- AGE_WALK_LINE (R206): the walk reads its next hash line; a held table, one whose layout moves, and a locked segment are
skipped (R96, R187, R196). A walk runs while CTRL.ENABLE is 1 (R212). -/
def State.walkLine (s : State) : State :=
  match s.ln.walk with
  | none => s
  | some w =>
    if !s.operating 71 || !s.rfb FE_AGE.CTRL.ENABLE then s
    else
      match w.tables with
      | [] => s.walkEnd w
      | id :: rest =>
        match s.tblOf id with
        | none => { s with ln := { s.ln with walk := some { w with tables := rest, line := 0 } } }
        | some t =>
          if t.lines ≤ w.line || s.held id || s.layoutMoving t then
            { s with ln := { s.ln with walk := some { w with tables := rest, line := 0 } } }
          else
            let s := if (s.lockedSeg t w.line).isSome then s else (t.lineSlots w.line).foldl (fun s sl => s.walkEntry t sl) s
            { s with ln := { s.ln with walk := some { w with line := w.line + 1 } } }

def execAgeWalkLine (s : State) : Host.Outcome State Fault Refusal := .next (s.onFe (fun s => s.walkLine))

/-- What an age deletion meets (R207): status, with the entry's slot emptied and the notify record made when it is deleted. -/
def State.ageDeleteAt (s : State) (t : Tbl) (found : Option Nat) (ager : Bool) : State × Nat × Nat :=
  match found with
  | none => (s, stNotFound, 0)
  | some sl =>
    let e := s.slotOf t sl
    let key := t.keyField e
    if bit e 61 then (s, stCasFail, s.tblResult t sl e)
    else if bit e 62 || s.ln.hits.any (fun h => decide (h.table = t.id) && decide (h.key = key)) then
      (if ager then s.sat1 FE_AGE.AGE_SAVED.COUNT else s, stCasFail, s.tblResult t sl e)
    else
      let s := (s.emptyOut t sl).inc FE_AGE.AGED_OUT.COUNT 0 0 1
      let (pipe, s) := s.freeVal
      let s := s.notify ⟨key % 2 ^ 48, key / 2 ^ 48, 2, pipe % 16, bits e 84 9, t.id⟩ oAgedOut 0
      (s, stOK, sl % 2 ^ 32)

/-- A refresh of the ager reaches its write slot (R206): HIT 0 and TIMESTAMP NOW, while the slot still holds the key. -/
def State.ageRefresh (s : State) (t : Tbl) (sl key : Nat) : State :=
  if s.slotHolds t sl key then
    (s.writeEntry t t.live sl (setBits (setBit (s.slotOf t sl) 62 false) 96 16 (s.rf FE_AGE.NOW.TICKS))).inc FE_AGE.REFRESHED.COUNT 0 0 1
  else s

/-- AGE_DELETION (R206, R207): the oldest write of the ager reaches its write slot, an age deletion or a refresh. -/
def State.ageDeletion (s : State) : State :=
  match s.ln.dels with
  | [] => s
  | (id, sl, key, refresh) :: ds =>
    let s := { s with ln := { s.ln with dels := ds } }
    match s.tblOf id with
    | none => s
    | some t =>
      let l := (t.hash 0 key).1
      if (s.lockedSeg t l).isSome || s.layoutMoving t then s
      else
        let s := s.inc FE_TCMD.AGER_WRITES.COUNT 0 0 1
        if refresh then s.ageRefresh t sl key else (s.ageDeleteAt t (s.findSlot true t l key) true).1

def execAgeDeletion (s : State) : Host.Outcome State Fault Refusal := .next (s.onFe (fun s => s.ageDeletion))

/-! ### The write pipeline (R188, R189) -/

/-- The write commands that still execute, in the order they came. -/
def State.writesWaiting (s : State) : List (Nat × Nat) :=
  s.tm.wq.filter (fun (k, _) => match s.cmd k with
    | some c => decide (c.phase = .begun)
    | none => false)

/-- The write slot of the oldest table command. -/
def State.cmdSlot (s : State) : State :=
  match s.writesWaiting with
  | [] => s
  | (id, fetched) :: rest =>
    let s := { s with tm := { s.tm with wq := rest } }
    match s.cmd id with
    | none => s
    | some c =>
      let s := s.inc FE_TCMD.CMD_WRITES.COUNT 0 0 1
      match s.tblOf c.tblId with
      | none => s.finishR id stInvalid 12 0
      | some t =>
        s.tblWriteAt c t fetched (fun s t found =>
          let (s, st, r) := s.ageDeleteAt t found false
          s.finishR id st 0 r)

/-- A source of the write pipeline has work for a slot: 0 table commands, 1 learn engine, 2 hit recorder, 3 ager. -/
def State.slotWork (s : State) (k : Nat) : Bool :=
  if k = 0 then !s.writesWaiting.isEmpty
  else if k = 1 then
    match s.learnHead with
    | some (ev, some t) => decide (s.learnOutcome t ev = oInserted) || decide (s.learnOutcome t ev = oMoved)
    | _ => false
  else if k = 2 then !s.ln.hits.isEmpty
  else !s.ln.dels.isEmpty

/-- TABLE_WRITE_SLOT (R188): one slot of the round of eight, for the source it belongs to or, when that has no work, the first
other source with work. -/
def State.writeSlot (s : State) : State :=
  let k := s.tm.slot
  let owner := if k < 4 then 0 else if k < 6 then 1 else if k < 7 then 2 else 3
  let src := if s.slotWork owner then some owner else [0, 1, 2, 3].find? (fun j => s.slotWork j)
  let s := { s with tm := { s.tm with slot := (k + 1) % 8 } }
  match src with
  | none => s
  | some 0 => s.cmdSlot
  | some 1 => s.learnProcess
  | some 2 => s.hitWrite
  | some _ => s.ageDeletion

def execTableWriteSlot (s : State) : Host.Outcome State Fault Refusal := .next (s.onFe (fun s => s.writeSlot))

end Sys2Proof.Machine
end

