-- ==== Sys2Proof/Machine/Ports.lean ====
section
/-! DEFINITION. Network ports (R214 to R228, R235) and the protection state and records of R229 to R234. -/

namespace Sys2Proof.Machine

/-! ### Register access by port -/

/-- A PORT register field of port `p`, set. -/
def State.setPg (s : State) (f : Fld) (p v : Nat) : State := s.wfp f (p / 8) (p % 8) v
/-- A port counter that counts modulo its width, or saturates (R237). -/
def State.pgInc (s : State) (f : Fld) (p n : Nat) : State := s.inc f (p / 8) (p % 8) n
def State.pgSat (s : State) (f : Fld) (p n : Nat) : State := s.sat f (p / 8) (p % 8) n

/-- Page index of the port's group, and of its lanes' SerDes. -/
def pgPage (p : Nat) : Nat := 16 + p / 8
def sdnPage (p : Nat) : Nat := 48 + p / 16

/-! ### Modes (R214 to R216) -/

/-- Lanes of a port with a WIDTH code. -/
def lanesOf (w : Nat) : Nat := 2 ^ w

/-- LANE_STATUS.RATE of a speed and width; none when the pair is not in R214. -/
def laneRate (speed w : Nat) : Option Nat :=
  if 5 ≤ speed || 2 + speed ≤ w || w + 3 < 2 + speed then none else some (2 + speed - w)

/-- The lanes a port's configuration occupies. -/
def State.portLanes (s : State) (p : Nat) : List Nat := (List.range (lanesOf (s.pg FE_PG.PORT_CFG.WIDTH p))).map (p + ·)

/-- Port slots inside the lanes of another enabled port: there is no such port (R215). (DEDUCED, log entry 13.) -/
def State.shadowedPort (s : State) (p : Nat) : Bool :=
  (List.range (p % 8)).any (fun k => s.portEnabled (p / 8 * 8 + k) && decide (p < p / 8 * 8 + k + lanesOf (s.pg FE_PG.PORT_CFG.WIDTH (p / 8 * 8 + k))))

/-- Lanes `[p, p + n)` overlap those of another enabled port of the group. -/
def State.lanesTaken (s : State) (p n : Nat) : Bool :=
  (List.range 8).any (fun k =>
    let q := p / 8 * 8 + k
    decide (q ≠ p) && s.portEnabled q && decide (q < p + n) && decide (p < q + lanesOf (s.pg FE_PG.PORT_CFG.WIDTH q)))

/-- HOLD.BLOCK_BYTES (R225). -/
def State.showHold (s : State) (p : Nat) : State :=
  (s.setPg FE_PG.HOLD.BLOCK_BYTES p
    (if s.pgb FE_PG.PORT_STATUS.PREEMPT_ACTIVE p then 64 * (1 + s.pg FE_PG.PREEMPT_CFG.ADD_FRAG_SIZE p) + 87
     else s.maxFrame p + 20)).latchBounds

/-- The fields of PORT_CFG but ENABLE, WIDTH and SPEED take the values written. (DEDUCED, log entry 13.) -/
def State.setPortCfg (s : State) (p v : Nat) : State :=
  let s := (s.setPg FE_PG.PORT_CFG.SF p (bits v 6 1)).setPg FE_PG.PORT_CFG.PROT_MEMBER p (bits v 7 1)
  let s := (s.setPg FE_PG.PORT_CFG.DEG_DOWN p (bits v 8 1)).setPg FE_PG.PORT_CFG.FORCE_RF p (bits v 9 1)
  let s := (s.setPg FE_PG.PORT_CFG.AN_EN p (bits v 10 1)).setPg FE_PG.PORT_CFG.LT_EN p (bits v 11 1)
  ((s.setPg FE_PG.PORT_CFG.MAX_FRAME p (bits v 16 14)).showHold p).rfUpdate p

/-! ### Link state -/

/-- The port carries frames: enabled, its link up, and neither its group nor its SerDes idle, fenced or in reset. -/
def State.linkUp (s : State) (p : Nat) : Bool :=
  s.portEnabled p && s.pgb FE_PG.PORT_STATUS.LINK_UP p && s.operating (pgPage p) && s.operating (sdnPage p)

/-- The egress strip of a port (R9). -/
def egressStrip (p : Nat) : Nat := 8 + p / 32

/-- The TM treats the port as down (R127, R220). -/
def State.tmPortDown (s : State) (p : Nat) : Bool :=
  decide (s.stripState (egressStrip p) = stripDown) ||
    (!(s.pgb FE_PG.PORT_CFG.PROT_MEMBER p) &&
      (!s.linkUp p || (s.pgb FE_PG.PORT_STATUS.DEG p && s.pgb FE_PG.PORT_CFG.DEG_DOWN p)))

/-- `b` bits at a port's speed in core cycles, rounded up: 100 Gbit/s carries 62.5 bits a cycle. -/
def State.bitCycles (s : State) (p b : Nat) : Nat := ceilDiv (b * 2) (125 * s.portRate p)

/-- PORT_STATUS as one number. -/
def State.portStatus (s : State) (p : Nat) : Nat :=
  s.pg FE_PG.PORT_STATUS.LINK_UP p + s.pg FE_PG.PORT_STATUS.LOS p * 2 + s.pg FE_PG.PORT_STATUS.LOCAL_FAULT p * 4 +
    s.pg FE_PG.PORT_STATUS.REMOTE_FAULT p * 8 + s.pg FE_PG.PORT_STATUS.DEG p * 16 + s.pg FE_PG.PORT_STATUS.AN_DONE p * 32 +
    s.pg FE_PG.PORT_STATUS.LT_DONE p * 64 + s.pg FE_PG.PORT_STATUS.PROT_STATE p * 128 +
    s.pg FE_PG.PORT_STATUS.PREEMPT_ACTIVE p * 512 + s.pg FE_PG.PORT_STATUS.VERIFY p * 1024 +
    ((s.timerAt .protWtr p).map (fun d => ceilDiv (d - s.cycle) cySec)).getD 0 * 65536

/-- The frame on the wire of a port that loses its link is discarded and counted as a tail-bad drop (R18); PFC frames that wait are
lost. -/
def State.cutTx (s : State) (p : Nat) : State :=
  let ps := s.at_ (.wire p)
  ((s.dropAll ps).pgSat FE_PG.CNT.TX_TAIL_BAD_DROP p ps.length).updNetPort p (fun x => { x with pfcQ := [] })

/-- Some lane of the port has a LANE_CFG field set. -/
def State.laneSet (s : State) (p : Nat) (f : Fld) : Bool := (s.portLanes p).any (fun l => decide (s.rfp f (l / 16) (l % 16) ≠ 0))

/-- What the port sends does not reach the wire: a lane is squelched, or sends a PRBS in place of traffic (R238). -/
def State.txMuted (s : State) (p : Nat) : Bool := s.laneSet p FE_SDN.LANE_CFG.TX_DISABLE || s.laneSet p FE_SDN.LANE_CFG.PRBS_GEN

/-- The lanes of the port loop what they transmit to their receivers (R238). -/
def State.loopedLanes (s : State) (p : Nat) : Bool := s.laneSet p FE_SDN.LANE_CFG.NEAR_LOOPBACK

/-- A frame or a PFC frame is put on the wire. -/
def State.wireOut (s : State) (p : Nat) (o : Out) : State := if s.txMuted p then s else s.emit o

/-- Bytes of the frame on the wire sent so far: at 100 Gbit/s a core cycle carries 62.5 bits, which are 125 / 16 bytes. -/
def State.sentBytes (s : State) (p : Nat) : Nat :=
  let n := s.netPort p
  n.fragSent + (s.cycle - n.fragAt) * 125 * s.portRate p / 16

/-- The frame on the wire may be preempted now (R224, R225): preemption is active, the frame is of classes 0 to 6, its present fragment
has its minimum, and at least 64 bytes of it are left. -/
def State.mayCut (s : State) (p : Nat) : Bool :=
  s.pgb FE_PG.PORT_STATUS.PREEMPT_ACTIVE p && (s.at_ (.wire p)).all (fun x => decide (x.cls ≠ 7) &&
    decide ((s.netPort p).fragSent + 64 * (1 + s.pg FE_PG.PREEMPT_CFG.ADD_FRAG_SIZE p) ≤ s.sentBytes p) &&
    decide (s.sentBytes p + 64 ≤ max x.length (x.data.length + 4)))

/-- Waiting PFC frames go out, each a frame of 64 bytes, when the port is at a frame boundary or may preempt (R222, R224, R348).
(DEDUCED, log entry 13.) -/
def State.pfcFlush (s : State) (p : Nat) : State :=
  if (s.at_ (.wire p)).isEmpty || s.mayCut p then
    let q := (s.netPort p).pfcQ
    q.foldl (fun s e =>
      let s := ((s.pgInc FE_PG.CNT.PFC_TX p 1).pgInc FE_PG.CNT.TX_FRAMES p 1).pgInc FE_PG.CNT.TX_BYTES p 64
      s.wireOut p (.pfc p e.1 e.2)) (s.updNetPort p (fun x => { x with pfcQ := [] }))
  else s

/-! ### Protection state (R233) -/

def protIn : Nat := 0
def protWithdrawn : Nat := 1
def protWait : Nat := 2
def protForced : Nat := 3

/-- The port's protection state changes, with its NOT_IN bit. -/
def State.setProt (s : State) (p v : Nat) : State :=
  let s := s.setPg FE_PG.PORT_STATUS.PROT_STATE p v
  s.wfi FE_PROT.NOT_IN.PORT (p / 32) (setBit (s.rfi FE_PROT.NOT_IN.PORT (p / 32)) (p % 32) (decide (v ≠ protIn)))

/-- The port is IN: it sends and takes protected copies. -/
def State.protIsIn (s : State) (p : Nat) : Bool := decide (s.pg FE_PG.PORT_STATUS.PROT_STATE p = protIn)

/-- The port is healthy (R233). -/
def State.healthy (s : State) (p : Nat) : Bool :=
  !s.pgb FE_PG.PORT_STATUS.LOS p && !s.pgb FE_PG.PORT_STATUS.LOCAL_FAULT p && !s.pgb FE_PG.PORT_STATUS.REMOTE_FAULT p &&
    !s.pgb FE_PG.PORT_STATUS.DEG p

/-- PROT_WTR in core cycles; 0 acts as 1 s (R239). -/
def State.protWtr (s : State) : Nat := orWhenZero (s.rf FE_PROT.WTR.PROT_WTR) 1 * cySec

/-- The transitions of R233 that follow a change of the port's health. -/
def State.protHealth (s : State) (p : Nat) : State :=
  let v := s.pg FE_PG.PORT_STATUS.PROT_STATE p
  if v = protForced then s
  else if s.healthy p then
    if v = protWithdrawn then (s.setProt p protWait).arm .protWtr p s.protWtr else s
  else if v = protWithdrawn then s
  else
    let cause := if s.pgb FE_PG.PORT_STATUS.LOS p then 1
      else if s.pgb FE_PG.PORT_STATUS.LOCAL_FAULT p || s.pgb FE_PG.PORT_STATUS.REMOTE_FAULT p then 2 else 3
    ((s.disarm .protWtr p).setProt p protWithdrawn).raise Ev.FE_PG.PROT_WITHDRAW (p / 8) cause p 0

/-! ### The commands on a port -/

/-- The lanes of a port show a rate and no signal. -/
def State.setLanes (s : State) (ls : List Nat) (rate : Nat) : State :=
  ls.foldl (fun s l =>
    let s := s.wfp FE_SDN.LANE_STATUS.RATE (l / 16) (l % 16) rate
    let s := (s.wfp FE_SDN.LANE_STATUS.SIGNAL (l / 16) (l % 16) 0).wfp FE_SDN.LANE_STATUS.CDR_LOCK (l / 16) (l % 16) 0
    s.wfp FE_SDN.LANE_STATUS.ADAPT_DONE (l / 16) (l % 16) 0) s

/-- CFG_REFUSED of a port (R215). (DEDUCED, log entry 13.) -/
def State.cfgRefused (s : State) (p v : Nat) : State := s.raiseO Ev.FE_PG.CFG_REFUSED (p / 8) none (some p) (some v)

/-- A write of PORT_CFG with ENABLE = 1 (R215). On a port already enabled, WIDTH and SPEED are kept. -/
def State.portEnable (s : State) (p v : Nat) : State :=
  if 256 ≤ p || !s.blockOpen (pgPage p) then s
  else if s.portEnabled p then
    let diff := bits v 1 2 ≠ s.pg FE_PG.PORT_CFG.WIDTH p || bits v 3 3 ≠ s.pg FE_PG.PORT_CFG.SPEED p
    let s := s.setPortCfg p v
    if diff then s.cfgRefused p v else s
  else
    match laneRate (bits v 3 3) (bits v 1 2) with
    | none => s.cfgRefused p v
    | some r =>
      let n := lanesOf (bits v 1 2)
      if p % n ≠ 0 || s.lanesTaken p n then s.cfgRefused p v
      else
        let s := (s.setPg FE_PG.PORT_CFG.WIDTH p (bits v 1 2)).setPg FE_PG.PORT_CFG.SPEED p (bits v 3 3)
        let s := (s.setPg FE_PG.PORT_CFG.ENABLE p 1).setPortCfg p v
        let s := (s.setPg FE_PG.PORT_STATUS.DEG p 0).updNetPort p (fun n => { n with bad := 0, good := 0, seenUp := false })
        let (rx, tx) := macLat (bits v 3 3)
        let s := (s.setPg FE_PG.LAT.D_MAC_RX p rx).setPg FE_PG.LAT.D_MAC_TX p tx
        s.setLanes (s.portLanes p) r

def execPortEnable (port cfg : Nat) (s : State) : Host.Outcome State Fault Refusal :=
  .next (s.onFe (fun s => (s.portEnable port (setBit (cfg % 2 ^ 32) 0 true)).latchBounds))

/-- The link of a port falls with a cause (R219): 1 LOS, 2 local fault, 3 remote fault. The condition stands from then on in place of
the one before it; without a signal there is no lock. (DEDUCED, log entry 13.) -/
def State.linkFall (s : State) (p cause : Nat) : State :=
  let was := s.pgb FE_PG.PORT_STATUS.LINK_UP p
  let s := s.setPg FE_PG.PORT_STATUS.LINK_UP p 0
  let s := s.setPg FE_PG.PORT_STATUS.LOS p (b2n (cause = 1))
  let s := (s.setPg FE_PG.PORT_STATUS.LOCAL_FAULT p (b2n (cause = 2))).setPg FE_PG.PORT_STATUS.REMOTE_FAULT p (b2n (cause = 3))
  let s := if cause = 1 then
      (s.portLanes p).foldl (fun s l =>
        (s.wfp FE_SDN.LANE_STATUS.SIGNAL (l / 16) (l % 16) 0).wfp FE_SDN.LANE_STATUS.CDR_LOCK (l / 16) (l % 16) 0) s else s
  let s := (if was then s.cutTx p else s).rfUpdate p
  let s := if was then s.raise Ev.FE_PG.LINK_DOWN (p / 8) cause p (s.portStatus p) else s
  s.protHealth p

/-- The port stops and its lanes power down, so that it has no signal (R215). (DEDUCED, log entry 13.) -/
def State.portStop (s : State) (p v : Nat) : State :=
  let ls := s.portLanes p
  let was := s.portEnabled p
  let s := if was then s.linkFall p 1 else s
  let s := s.setPg FE_PG.PORT_CFG.ENABLE p 0
  let s := if was then s.setLanes ls 0 else s
  ((s.setPg FE_PG.PORT_CFG.WIDTH p (bits v 1 2)).setPg FE_PG.PORT_CFG.SPEED p (bits v 3 3)).setPortCfg p v

/-- A write of PORT_CFG with ENABLE = 0 (R215): it reaches an enabled port with its WIDTH and SPEED discarded, and refused where they
differ. -/
def State.portDisable (s : State) (p v : Nat) : State :=
  if 256 ≤ p || !s.blockOpen (pgPage p) then s
  else if s.portEnabled p then
    let w := s.pg FE_PG.PORT_CFG.WIDTH p
    let sp := s.pg FE_PG.PORT_CFG.SPEED p
    let diff := bits v 1 2 ≠ w || bits v 3 3 ≠ sp
    let s := s.portStop p (setBits (setBits v 1 2 w) 3 3 sp)
    if diff then s.cfgRefused p v else s
  else s.portStop p v

def execPortDisable (port cfg : Nat) (s : State) : Host.Outcome State Fault Refusal :=
  .next (s.onFe (fun s => (s.portDisable port (setBit (cfg % 2 ^ 32) 0 false)).latchBounds))

/-- Link training writes the trained taps, which are open, to a lane's TX_FFE registers (R216). -/
def State.trainLane (s : State) (l : Nat) : State :=
  [FE_SDN.TX_FFE0.C_M3, FE_SDN.TX_FFE0.C_M2, FE_SDN.TX_FFE0.C_M1, FE_SDN.TX_FFE0.C0, FE_SDN.TX_FFE1.C_P1].foldl (fun s f =>
    let (v, s) := s.freeVal
    s.wfp f (l / 16) (l % 16) v) s

/-- LINK_UP (R219, R233): signal, lock, fault freedom and training hold. A lane under ADAPT_FREEZE does not adapt (R216). -/
def State.linkRise (s : State) (p : Nat) : State :=
  if 256 ≤ p || !s.portEnabled p || !s.operating (pgPage p) || !s.operating (sdnPage p) || s.pgb FE_PG.PORT_STATUS.LINK_UP p then s
  else
    let s := (s.setPg FE_PG.PORT_STATUS.LINK_UP p 1).setPg FE_PG.PORT_STATUS.LOS p 0
    let s := (s.setPg FE_PG.PORT_STATUS.LOCAL_FAULT p 0).setPg FE_PG.PORT_STATUS.REMOTE_FAULT p 0
    let s := (s.setPg FE_PG.PORT_STATUS.AN_DONE p (s.pg FE_PG.PORT_CFG.AN_EN p)).setPg FE_PG.PORT_STATUS.LT_DONE p
      (s.pg FE_PG.PORT_CFG.LT_EN p)
    let s := (s.portLanes p).foldl (fun s l =>
      let (eye, s) := s.freeVal
      let s := (s.wfp FE_SDN.LANE_STATUS.SIGNAL (l / 16) (l % 16) 1).wfp FE_SDN.LANE_STATUS.CDR_LOCK (l / 16) (l % 16) 1
      let s := if s.rfp FE_SDN.LANE_CFG.ADAPT_FREEZE (l / 16) (l % 16) = 1 then s
        else s.wfp FE_SDN.LANE_STATUS.ADAPT_DONE (l / 16) (l % 16) 1
      let s := if s.pgb FE_PG.PORT_CFG.LT_EN p then s.trainLane l else s
      s.wfp FE_SDN.LANE_STATUS.EYE_MARGIN (l / 16) (l % 16) eye) s
    let s := s.rfUpdate p
    let s := s.raise Ev.FE_PG.LINK_UP (p / 8) 0 p 0
    if (s.netPort p).seenUp then s.protHealth p
    else
      let s := s.updNetPort p (fun n => { n with seenUp := true })
      if s.pg FE_PG.PORT_STATUS.PROT_STATE p = protForced then s
      else if s.healthy p then (s.disarm .protWtr p).setProt p protIn else s

def execLinkUp (port : Nat) (s : State) : Host.Outcome State Fault Refusal := .next (s.onFe (fun s => s.linkRise port))

/-- LINK_DOWN (R219): the port loses signal or sees a fault. -/
def execLinkDown (port cause : Nat) (s : State) : Host.Outcome State Fault Refusal :=
  if !s.feOn then .next s else
  if port < 256 && s.portEnabled port && 1 ≤ cause && cause ≤ 3 then .next (s.linkFall port cause) else .next s

/-- AN_FAIL (R216): an autonegotiation attempt fails and restarts. -/
def execAnFail (port ability : Nat) (s : State) : Host.Outcome State Fault Refusal :=
  if !s.feOn then .next s else
  if port < 256 && s.portEnabled port && s.pgb FE_PG.PORT_CFG.AN_EN port && s.operating (pgPage port) then
    .next ((s.setPg FE_PG.PORT_STATUS.AN_DONE port 0).raiseO Ev.FE_PG.AN_FAIL (port / 8) none (some port) (some ability))
  else .next s

/-- Bit errors of a 1 ms interval at the PRBS checkers of the port's lanes that are on (R238). -/
def State.prbsCount (s : State) (p : Nat) (errs : List Nat) : State :=
  (s.portLanes p).foldl (fun s l =>
    if s.rfp FE_SDN.LANE_CFG.PRBS_CHK (l / 16) (l % 16) = 0 || !s.operating (48 + l / 16) then s
    else s.inc FE_SDN.PRBS_ERR.COUNT (l / 16) (l % 16) (errs.getD (l - p) 0)) s

/-- A network port's interval (R221): a 1 ms interval with its corrected symbols and uncorrectable codewords is judged; `prbs` is what
the lanes' checkers found in it. -/
def State.degInterval (s : State) (p corr unc : Nat) (prbs : List Nat) : State :=
  if 256 ≤ p || !s.portEnabled p || !s.operating (pgPage p) then s
  else
    let s := s.prbsCount p prbs
    let s := (s.pgInc FE_PG.CNT.FEC_CORR_SYM p corr).pgSat FE_PG.CNT.FEC_UNCORR_CW p unc
    if !s.pgb FE_PG.PORT_STATUS.LINK_UP p then s
    else
      let n := corr + 16 * unc
      let m := orWhenZero (s.pg FE_PG.DEG_CFG.DEG_M p) 1
      let isBad := decide (s.pg FE_PG.DEG_CFG.DEG_THR p < n)
      let s := s.updNetPort p (fun x => { x with bad := if isBad then x.bad + 1 else 0, good := if isBad then 0 else x.good + 1 })
      let x := s.netPort p
      if m ≤ x.bad && !s.pgb FE_PG.PORT_STATUS.DEG p then
        ((s.setPg FE_PG.PORT_STATUS.DEG p 1).raiseO Ev.FE_PG.DEG_SET (p / 8) none (some p) (some n)).protHealth p
      else if m ≤ x.good && s.pgb FE_PG.PORT_STATUS.DEG p then
        ((s.setPg FE_PG.PORT_STATUS.DEG p 0).raiseO Ev.FE_PG.DEG_CLEAR (p / 8) none (some p) (some 0)).protHealth p
      else s

/-! ### Priority flow control (R222) -/

/-- Class `c` of the port is paused by the peer. -/
def State.paused (s : State) (p c : Nat) : Bool := s.armed .pfcPause (p * 8 + c)

/-- A PFC frame acts (R217, R222): class-enable vector and the quanta of the eight priorities. -/
def State.pfcTake (s : State) (p vec : Nat) (quanta : List Nat) : State :=
  let s := (s.pgSat FE_PG.CNT.RX_MAC_CTRL p 1).pgInc FE_PG.CNT.PFC_RX p 1
  (List.range 8).foldl (fun s c =>
    if bit vec c && bit (s.pg FE_PG.PFC_CFG.PFC_EN p) c then
      let q := quanta.getD c 0 % 65536
      if q = 0 then s.disarm .pfcPause (p * 8 + c)
      else (s.arm .pfcPause (p * 8 + c) (s.bitCycles p (512 * q))).workEnds (.egr p c)
    else s) s

/-- PFC_FRAME_RX (R217, R222, R237): a PFC frame of 64 bytes is received. -/
def State.pfcRx (s : State) (p vec : Nat) (quanta : List Nat) : State :=
  if 256 ≤ p || !s.linkUp p then s
  else ((s.pgInc FE_PG.CNT.RX_FRAMES p 1).pgInc FE_PG.CNT.RX_BYTES p 64).pfcTake p vec quanta

def execPfcFrameRx (port vec : Nat) (quanta : List Nat) (s : State) : Host.Outcome State Fault Refusal :=
  .next (s.onFe (fun s => if s.loopedLanes port then s else s.pfcRx port vec quanta))

/-- PFC_PAUSE_EXPIRE (R222): the received pause time of a class runs out. -/
def execPfcPauseExpire (port cls : Nat) (s : State) : Host.Outcome State Fault Refusal :=
  .next (s.onFe (fun s => (s.expire .pfcPause (port * 8 + cls)).getD s))

/-- Bytes of a port's packets of a class present in VOQs (R222). -/
def State.pfcBytes (s : State) (p c : Nat) : Nat :=
  sumN ((s.pkts.filter (fun x => !x.egr && decide (x.inPort = p) && decide (x.cls = c) && (match x.loc with
    | .queue _ => true
    | _ => false))).map Pkt.length)

/-- The MAC sends PFC for one class, at the next frame boundary (R222). -/
def State.pfcSend (s : State) (p c q : Nat) : State :=
  if !s.linkUp p then s else (s.updNetPort p (fun x => { x with pfcQ := x.pfcQ ++ [(c, q)] })).pfcFlush p

/-- The refresh of a class at XOFF is due QUANTA / 2 quanta later. -/
def State.pfcArm (s : State) (p c : Nat) : State :=
  s.arm .pfcRefresh (p * 8 + c) (max (s.bitCycles p (256 * s.pg FE_PG.PFC_CFG.QUANTA p)) 1)

/-- The thresholds of R222 after a change of a port's VOQ bytes of a class. -/
def State.pfcCheck (s : State) (p c : Nat) : State :=
  if 256 ≤ p then s
  else
    let n := s.pfcBytes p c
    let off := bit (s.netPort p).xoff c
    if !off && bit (s.pg FE_PG.PFC_CFG.PFC_EN p) c && s.linkUp p && decide (s.pg FE_PG.PFC_THR.PFC_XOFF p * 256 ≤ n) then
      ((s.updNetPort p (fun x => { x with xoff := setBit x.xoff c true })).pfcSend p c (s.pg FE_PG.PFC_CFG.QUANTA p)).pfcArm p c
    else if off && decide (n < s.pg FE_PG.PFC_THR.PFC_XON p * 256) then
      ((s.updNetPort p (fun x => { x with xoff := setBit x.xoff c false })).pfcSend p c 0).disarm .pfcRefresh (p * 8 + c)
    else s

/-- PFC_REFRESH_TIMER (R222). -/
def State.pfcRefresh (s : State) (p c : Nat) : State :=
  match s.expire .pfcRefresh (p * 8 + c) with
  | none => s
  | some s =>
    if bit (s.netPort p).xoff c && s.pg FE_PG.PFC_THR.PFC_XON p * 256 ≤ s.pfcBytes p c then
      (s.pfcSend p c (s.pg FE_PG.PFC_CFG.QUANTA p)).pfcArm p c
    else s

def execPfcRefreshTimer (port cls : Nat) (s : State) : Host.Outcome State Fault Refusal :=
  .next (s.onFe (fun s => s.pfcRefresh port cls))

/-! ### Preemption (R224) -/

/-- VERIFY_MS in force (R235). -/
def State.verifyMs (s : State) (p : Nat) : Nat := min (orWhenZero (s.pg FE_PG.PREEMPT_CFG.VERIFY_MS p) 1) 128

/-- A write of PREEMPT_CFG (R224). -/
def State.preemptCfg (s : State) (p v : Nat) : State :=
  if 256 ≤ p || !s.blockOpen (pgPage p) then s
  else
    let s := (s.setPg FE_PG.PREEMPT_CFG.EN p (bits v 0 1)).setPg FE_PG.PREEMPT_CFG.ADD_FRAG_SIZE p (bits v 1 2)
    let s := (s.setPg FE_PG.PREEMPT_CFG.VERIFY_DIS p (bits v 3 1)).setPg FE_PG.PREEMPT_CFG.VERIFY_MS p (bits v 4 8)
    let s := s.disarm .preempt p
    let s :=
      if !bit v 0 then (s.setPg FE_PG.PORT_STATUS.PREEMPT_ACTIVE p 0).setPg FE_PG.PORT_STATUS.VERIFY p 0
      else if bit v 3 then (s.setPg FE_PG.PORT_STATUS.PREEMPT_ACTIVE p 1).setPg FE_PG.PORT_STATUS.VERIFY p 0
      else
        let s := (s.setPg FE_PG.PORT_STATUS.PREEMPT_ACTIVE p 0).setPg FE_PG.PORT_STATUS.VERIFY p 1
        ((s.updNetPort p (fun x => { x with attempts := 1 })).emit (.preemptVerify p)).arm .preempt p (s.verifyMs p * cyMs)
    s.showHold p

/-- PREEMPT_ENABLE: a write of PREEMPT_CFG with EN = 1. -/
def execPreemptEnable (port cfg : Nat) (s : State) : Host.Outcome State Fault Refusal :=
  .next (s.onFe (fun s => s.preemptCfg port (setBit (cfg % 2 ^ 32) 0 true)))

/-- PREEMPT_VERIFY_TIMER (R224): a verify interval ends, answered or not; the third attempt without an answer fails. -/
def State.preemptTimer (s : State) (p : Nat) (answered : Bool) : State :=
  match s.timerAt .preempt p with
  | none => s
  | some d =>
    if answered then
      (((s.disarm .preempt p).setPg FE_PG.PORT_STATUS.PREEMPT_ACTIVE p 1).setPg FE_PG.PORT_STATUS.VERIFY p 2).showHold p
    else
      let s := (s.advanceTo d).disarm .preempt p
      if (s.netPort p).attempts < 3 then
        ((s.updNetPort p (fun x => { x with attempts := x.attempts + 1 })).emit (.preemptVerify p)).arm .preempt p (s.verifyMs p * cyMs)
      else (s.setPg FE_PG.PORT_STATUS.VERIFY p 3).raiseO Ev.FE_PG.PREEMPT_VERIFY_FAIL (p / 8) none (some p) (some 0)

def execPreemptVerifyTimer (port : Nat) (answered : Bool) (s : State) : Host.Outcome State Fault Refusal :=
  .next (s.onFe (fun s => s.preemptTimer port answered))

/-! ### Transmit timestamps (R227, R228) -/

/-- The captures of a group, the presented one first. -/
def State.tsFifo (s : State) (g : Nat) : List TsCap := SMap.get [] s.net.ts g

/-- The FIFO of a group replaced, with the registers that present its head. -/
def State.setTs (s : State) (g : Nat) (l : List TsCap) : State :=
  let s := { s with net := { s.net with ts := SMap.put [] s.net.ts g l } }
  match l with
  | [] => s.wfp FE_PG.TS_CTRL.TS_VALID g 0 0
  | c :: _ =>
    let s := (s.wfp FE_PG.TS_NS.NS g 0 c.ns).wfp FE_PG.TS_SEC_LO.SEC g 0 (c.sec % 2 ^ 32)
    let s := (s.wfp FE_PG.TS_SEC_HI.SEC g 0 (c.sec / 2 ^ 32)).wfp FE_PG.TS_SEC_HI.TS_ID g 0 c.id
    (s.wfp FE_PG.TS_CTRL.SLOT g 0 c.slot).wfp FE_PG.TS_CTRL.TS_VALID g 0 1

/-- A two-step capture enters its group's FIFO (R228). -/
def State.tsCapture (s : State) (p id : Nat) : State :=
  let g := p / 8
  let l := s.tsFifo g
  if 64 ≤ l.length then (s.sat FE_PG.TS_OVF.COUNT g 0 1).raiseO Ev.FE_PG.TS_FIFO_OVF g none (some p) (some id)
  else s.setTs g (l ++ [⟨s.timeSec, s.timeNs, p % 8, id % 65536⟩])

/-- TS_ACK (R228): the presented capture is released and the next one presented. -/
def execTsAck (group : Nat) (s : State) : Host.Outcome State Fault Refusal :=
  if !s.feOn then .next s else
  if group < 32 && s.blockOpen (16 + group) && s.rfp FE_PG.TS_CTRL.TS_VALID group 0 = 1 then .next (s.setTs group ((s.tsFifo group).drop 1))
  else .next s

/-! ### Protection records (R230) and timers -/

def TxRec.zero : TxRec := ⟨0, 0, false, 0, 0⟩
def RxRec.zero : RxRec := ⟨0, false, false, 0⟩
def State.txRec (s : State) (k : Nat) : TxRec := SMap.get TxRec.zero s.net.tx k
def State.rxRec (s : State) (k : Nat) : RxRec := SMap.get RxRec.zero s.net.rx k
def State.setTxRec (s : State) (k : Nat) (r : TxRec) : State :=
  ({ s with net := { s.net with tx := SMap.put TxRec.zero s.net.tx k r } } : State).latchBounds
def State.setRxRec (s : State) (k : Nat) (r : RxRec) : State := { s with net := { s.net with rx := SMap.put RxRec.zero s.net.rx k r } }

/-- STREAM_SEL takes the value written. -/
def State.streamSel (s : State) (v : Nat) : State :=
  ((s.wf FE_PROT.STREAM_SEL.STREAM (bits v 0 14)).wf FE_PROT.STREAM_SEL.SIDE (bits v 16 1)).wf FE_PROT.STREAM_SEL.OP (bits v 17 1)

/-- DATA words of FE.PROT set. -/
def State.protData (s : State) (d0 d1 d2 : Nat) : State :=
  (((s.wfi FE_PROT.DATA.DATA 0 d0).wfi FE_PROT.DATA.DATA 1 d1).wfi FE_PROT.DATA.DATA 2 d2).wfi FE_PROT.DATA.DATA 3 0

/-- PROT_RECORD_READ (R230). -/
def State.protRead (s : State) (v : Nat) : State :=
  if !s.blockOpen 75 then s
  else
    let k := bits v 0 14
    let s := s.streamSel v
    if bit v 16 then
      let r := s.rxRec k
      s.protData (r.seq + b2n r.takeAny * 2 ^ 16 + b2n r.valid * 2 ^ 17) (r.hist % 2 ^ 32) (r.hist / 2 ^ 32)
    else
      let r := s.txRec k
      s.protData (r.portA + r.portB * 2 ^ 8 + b2n r.valid * 2 ^ 16 + r.off * 2 ^ 17) r.seq 0

def execProtRecordRead (sel : Nat) (s : State) : Host.Outcome State Fault Refusal :=
  .next (s.onFe (fun s => s.protRead (setBit (sel % 2 ^ 32) 17 false)))

/-- PROT_RECORD_WRITE (R230): a transmit record whose ports do not share an egress pipeline is refused with ERR; a receive
record starts with no history. -/
def State.protWrite (s : State) (v : Nat) : State :=
  if !s.blockOpen 75 then s
  else
    let k := bits v 0 14
    let s := s.streamSel v
    let d0 := s.rfi FE_PROT.DATA.DATA 0
    let d1 := s.rfi FE_PROT.DATA.DATA 1
    if bit v 16 then
      let s := (s.setRxRec k ⟨bits d0 0 16, bit d0 16, bit d0 17, 0⟩).wf FE_PROT.STREAM_SEL.ERR 0
      -- R232: the recovery reset time of a record that does not take any runs from here
      if bit d0 17 && !bit d0 16 then s.arm .rcvyReset k (orWhenZero (s.rf FE_PROT.RCVY_RESET.MS) 1 * cyMs) else s.disarm .rcvyReset k
    else if bits d0 0 8 / 16 ≠ bits d0 8 8 / 16 then s.wf FE_PROT.STREAM_SEL.ERR 1
    else (s.setTxRec k ⟨bits d0 0 8, bits d0 8 8, bit d0 16, bits d0 17 7, bits d1 0 16⟩).wf FE_PROT.STREAM_SEL.ERR 0

def execProtRecordWrite (sel : Nat) (s : State) : Host.Outcome State Fault Refusal :=
  .next (s.onFe (fun s => s.protWrite (setBit (sel % 2 ^ 32) 17 true)))

/-- RCVY_RESET_EXPIRE (R232): no packet of the stream has passed for RCVY_RESET. -/
def execRcvyResetExpire (stream : Nat) (s : State) : Host.Outcome State Fault Refusal :=
  if !s.feOn then .next s else
  match s.expire .rcvyReset stream with
  | none => .next s
  | some s => .next ((s.setRxRec stream { s.rxRec stream with takeAny := true }).sat1 FE_PROT.RCVY_RESETS.COUNT)

/-- PROT_WTR_EXPIRE (R233): the WAIT timer of a port expires and it is IN again. -/
def execProtWtrExpire (port : Nat) (s : State) : Host.Outcome State Fault Refusal :=
  if !s.feOn then .next s else
  match s.expire .protWtr port with
  | none => .next s
  | some s =>
    if s.pg FE_PG.PORT_STATUS.PROT_STATE port = protWait then
      .next ((s.setProt port protIn).raiseO Ev.FE_PG.PROT_REJOIN (port / 8) none (some port) (some 0))
    else .next s

/-- PROT_FORCE_OUT (R233): a write of FORCE_OUTk. -/
def State.protForceOut (s : State) (k mask : Nat) : State :=
  if 8 ≤ k || !s.blockOpen 75 then s
  else
    let old := s.rfi FE_PROT.FORCE_OUT.PORT k
    let s := s.wfi FE_PROT.FORCE_OUT.PORT k mask
    (List.range 32).foldl (fun s b =>
      let p := 32 * k + b
      if bit mask b && !bit old b then
        ((s.disarm .protWtr p).setProt p protForced).raise Ev.FE_PG.PROT_WITHDRAW (p / 8) 4 p 0
      else if !bit mask b && bit old b then
        if s.healthy p then (s.setProt p protWait).arm .protWtr p s.protWtr else s.setProt p protWithdrawn
      else s) s

def execProtForceOut (k mask : Nat) (s : State) : Host.Outcome State Fault Refusal :=
  .next (s.onFe (fun s => s.protForceOut k (mask % 2 ^ 32)))

end Sys2Proof.Machine
end

