-- ==== Sys2Proof/Machine/Ingress.lean ====
section
/-! DEFINITION. The ingress side of the FE (R10, R15 to R17, R75, R109, R141, R142, R149, R150, R199, R217, R226, R232): frames
arrive, pipelines admit, and packets leave their strips. -/

namespace Sys2Proof.Machine

/-- The bridge carries packets (R397). -/
def State.bridgeUp (s : State) : Bool := s.rfb TM_FAULT.STATUS.BRIDGE_UP

/-- This device's fabric ID. -/
def State.fabId (s : State) : Nat := s.rf TM_SPRAY.FAB_ID.ID

/-- A packet fresh at the device: frame without FCS, ingress port, rate code and time of its first bit (R12, R108). -/
def State.freshPkt (s : State) (l : Loc) (data : Bytes) (port rate : Nat) (bad : Bool) : Pkt :=
  let p : Pkt := ⟨0, l, 0, data, bad, true, false, 0, [], [], s.cycle, none, 0, 0, false, s.fabId, 0, 0, 0, 0, false, 0, false⟩
  ((((p.mdSet 0 9 port).mdSet 16 14 (data.length + 4)).mdSet 184 3 rate).mdSet 192 80 s.time80)

/-! ### Frames in (R109, R217) -/

/-- The frame is a MAC control frame: EtherType 0x8808. -/
def isMacCtrl (data : Bytes) : Bool := decide (beNat ((data.drop 12).take 2) = 0x8808)

/-- The quanta of a PFC frame's eight priorities. -/
def pfcQuanta (data : Bytes) : List Nat := (List.range 8).map (fun k => beNat ((data.drop (18 + 2 * k)).take 2))

/-- What a frame on the wire does to its port (R16, R75, R109, R217, R226): a frame, without its FCS, with the way it ends.
(DESIGN CHOICE, log entry 5.) (DEDUCED, log entry 13.) -/
def State.frameRx (s : State) (p : Nat) (data : Bytes) (e : FrameEnd) : State :=
  if 256 ≤ p || !s.linkUp p then s
  else
    let len := data.length + 4
    let s := (s.pgInc FE_PG.CNT.RX_FRAMES p 1).pgInc FE_PG.CNT.RX_BYTES p len
    let s := if e = .fcsError then s.pgSat FE_PG.CNT.RX_FCS_ERR p 1 else s
    let s := if e = .truncated then s.pgSat FE_PG.CNT.RX_TRUNC p 1 else s
    if len < 64 then s.pgSat FE_PG.CNT.RX_LEN_ERR p 1
    else if isMacCtrl data then
      -- R217: a longer one is cut, so that its FCS fails
      let long := decide (s.maxFrame p < len)
      let s := if long then s.pgSat FE_PG.CNT.RX_LEN_ERR p 1 else s
      if beNat ((data.drop 14).take 2) = 0x0101 && e = .good && !long then
        s.pfcTake p (beNat ((data.drop 16).take 2)) (pfcQuanta data)
      else s.pgSat FE_PG.CNT.RX_MAC_CTRL p 1
    else
      let max := s.maxFrame p
      let long := decide (max < len)
      let s := if long then s.pgSat FE_PG.CNT.RX_LEN_ERR p 1 else s
      let data := if long then data.take (max - 4) else data
      let g := p / 8
      if s.noEpoch then s
      else if s.admitStopped then s.doldDrop 1
      else if 131072 < s.bytesAt (.input g) + data.length + 4 then
        (s.sat FE_PIPEI.OVERRUN_DROP.COUNT 0 (g / 2) 1).raiseO Ev.FE_PIPEI.OVERRUN 0 none (some g) (some 0)
      else
        let x := s.freshPkt (.input g) data p (s.pg FE_PG.PORT_CFG.SPEED p) (long || decide (e ≠ .good))
        (s.newPkt (x.point 1 s.nowNs)).2

/-- FRAME_RX: a frame comes from the peer; a port whose lanes are looped hears itself alone (R238). -/
def execFrameRx (port : Nat) (data : Bytes) (tail : FrameEnd) (s : State) : Host.Outcome State Fault Refusal :=
  .next (s.onFe (fun s => if s.loopedLanes port then s else s.frameRx port data tail))

/-! ### Admission (R109, R110, R122, R409, R421) -/

/-- The pages whose reset makes every ingress pipeline drop what it would admit (R409). -/
def ingressPages : List Nat := [64, 65, 66, 67, 73]

/-- The strip of ingress pipeline `i`, and of egress pipeline `i`. -/
def inStrip (i : Nat) : Nat := i / 2
def outStrip (i : Nat) : Nat := 8 + i / 2

/-- What the input of a pipeline chooses (R109): the earliest frame of its two port groups, else a looped packet or an
inject, alternating when both wait. -/
def State.inputChoice (s : State) (i : Nat) : Option Pkt :=
  match s.headAt (.input (2 * i)), s.headAt (.input (2 * i + 1)) with
  | some a, some b => if b.since < a.since then some b else some a
  | some a, none => some a
  | none, some b => some b
  | none, none =>
    match (s.headAt (.loopIn i)).filter (·.whole), s.headAt (.injectIn i) with
    | some a, some b => if SMap.get 0 s.net.alt i = 1 then some b else some a
    | some a, none => some a
    | none, o => o

/-- The packet is a looped one. -/
def Pkt.looped (p : Pkt) : Bool := match p.loc with | .loopIn _ => true | _ => false
/-- The packet is a MODE 0 inject. -/
def Pkt.injected (p : Pkt) : Bool := match p.loc with | .injectIn _ => true | _ => false

/-- PIPELINE_INPUT_ADMIT (R109, R110, R421): the input of ingress pipeline `i` admits one packet; a looped packet keeps its
stamp. -/
def State.admitIn (s : State) (i : Nat) : State :=
  if 16 ≤ i || s.noEpoch || s.armed .depthGap 0 || !(72 :: ingressPages).all (fun P => (s.hdr P).enable) then s
  else
    match s.inputChoice i with
    | none => s
    | some p =>
      let st := inStrip i
      if s.admitStopped && p.injected then ((s.removePkt p.id).injDone p 4).doldDrop 1
      else if s.stripState st ≠ stripRun || ingressPages.any (fun P => s.inReset P) then
        let s := if p.looped then s.dropPkt p else (s.removePkt p.id).injDone p 4
        if s.stripState st ≠ stripRun then s.faultDrops st i 1 else s.satLater FE_PIPEI.FAULT_DROP.COUNT 0 i 1
      else
        let (hit, s) := s.tagStep i
        let trace := if p.looped then p.trace else hit || (p.injected && p.trace)
        let s := if trace && !p.looped then s.inc1 FE_TRACE.TAGGED.COUNT else s
        let s := s.inc FE_PIPEI.PKT.COUNT 0 i 1
        let s := if p.looped then s.inc FE_PIPEI.LOOP.COUNT 0 i 1 else if p.injected then s.inc FE_PIPEI.INJECT_IN.COUNT 0 i 1 else s
        let s := if p.looped || p.injected then
            { s with net := { s.net with alt := SMap.put 0 s.net.alt i (if p.looped then 1 else 2) } } else s
        let bank := if p.looped then p.bank else s.feBank
        let s := if p.looped then s else
            (s.stampCount bank).inc1 (if bank then FE_EPOCH.STAMP_B.COUNT else FE_EPOCH.STAMP_A.COUNT)
        let q : Pkt := { p with
          md := 0, times := if p.looped then [] else p.times, fail := 0, vrf := 0, egr := false, begun := false, stream := i,
          due := s.cycle + s.depthOf bank false }
        let q := (((q.mdSet 0 9 p.inPort).mdSet 9 1 (b2n bank)).mdSet 15 1 (b2n trace)).mdSet 16 14 (p.data.length + 4)
        let q := (q.mdSet 184 3 p.inRate).mdSet 192 80 p.timestamp
        s.movePkt (q.point 2 s.nowNs) (.strip i)

def execPipelineInputAdmit (pipe : Nat) (s : State) : Host.Outcome State Fault Refusal :=
  .next (s.onFe (fun s => s.admitIn pipe))

/-! ### The punt meter (R149, R150) -/

/-- A full bucket at CHIP reset. -/
def Meter.full : Meter := ⟨64 * 65536, 0, 0, false⟩

/-- BURST of a reason in 2^-16 tokens. -/
def State.puntBurst (s : State) (r : Nat) : Nat := orWhenZero (s.rfi FE_CLASS.PUNT_BURST.BURST r) 1 * 65536

/-- The bucket of a reason brought up to the present TICK: each TICK adds RATE * 1.25 * 10^-9 tokens, in steps of 2^-16 token
with the remainder carried, up to BURST (R150). -/
def State.meterNow (s : State) (r : Nat) : Meter :=
  let m := SMap.get Meter.full s.meters r
  let t := m.rem + (s.tick - m.tick) * s.rfi FE_CLASS.PUNT_RATE.RATE r * 32
  let v := m.level + t / 390625
  if s.puntBurst r ≤ v then { m with level := s.puntBurst r, rem := 0, tick := s.tick }
  else { m with level := v, rem := t % 390625, tick := s.tick }

def State.setMeter (s : State) (r : Nat) (m : Meter) : State := { s with meters := SMap.put Meter.full s.meters r m }

/-- The meter brought up to date before RATE or BURST changes. -/
def State.meterTouch (s : State) (r : Nat) : State := s.setMeter r (s.meterNow r)

/-- A packet that leaves a strip with PUNT = 1 passes the meter and goes to its host queue, or is dropped (R150, R64). -/
def State.puntMeter (s : State) (p : Pkt) : State :=
  let r := p.puntReason
  let m := s.meterNow r
  if 65536 ≤ m.level && s.rfi FE_CLASS.PUNT_RATE.RATE r ≠ 0 then
    let s := (s.setMeter r { m with level := m.level - 65536, limited := false }).sat FE_CLASS.PUNT_PASS.COUNT 0 r 1
    if !s.bridgeUp then s.dropPkt p
    else
      let s := s.injDone p 0
      s.movePkt { p with inj := none } (.hostq (s.rfi TM_HPKT.PUNT_MAP.CHAN r))
  else
    let s := (s.setMeter r { m with limited := true }).sat FE_CLASS.PUNT_METER_DROP.COUNT 0 r 1
    let s := if m.limited then s
      else s.raise Ev.FE_CLASS.PUNT_LIMITED 0 r r (s.rfi FE_CLASS.PUNT_METER_DROP.COUNT r)
    s.dropPkt p

/-! ### Strip exit -/

/-- The counts and events of a strip's lookups (R152, R176 to R178). -/
def State.applyNotes (s : State) (ns : List Note) : State :=
  ns.foldl (fun s n => match n with
    | .inc f i => s.inc f 0 i 1
    | .sat f i => s.sat f 0 i 1
    | .unc lpm id line =>
      s.raiseO (if lpm then Ev.FE_LPM.ENTRY_UNCORRECTABLE else Ev.FE_EXM.ENTRY_UNCORRECTABLE) 0 none (some id) (some line)
    | .range id idx => s.raiseO Ev.FE_EXM.INDEX_RANGE 0 none (some id) (some idx)) s

/-- The metadata a program leaves, with R149's replacement of reasons it may not raise. -/
def fixReason (p : Pkt) : Pkt := if p.punt && decide (p.puntReason < 16) then p.mdSet 121 6 0 else p

/-- FAIL_ACT of a cause in a bank: 0 CONTINUE, 1 PUNT, 2 DROP (R142, R151). -/
def State.failAct (s : State) (b : Bool) (c : Nat) : Nat := min (s.rfBank FE_PARSE.FAIL_ACT.ACT b c) 2

/-- The source lookup of a packet acts (R199). -/
def State.learnFrom (s : State) (i : Nat) (p : Pkt) (k : SrcLook) : State :=
  let port := p.inPort
  if !s.rfb FE_LEARN.CTRL.ENABLE || 256 ≤ port || !bit (s.rfi FE_LEARN.PORT_EN.EN (port / 32)) (port % 32) then s
  else
    let ev := fun kind => (⟨k.key % 2 ^ 48, k.key / 2 ^ 48, kind, i, port, k.table⟩ : LearnEv)
    if !k.res.hit then (if k.res.unc then s else s.learnArrive (ev 0))
    else
      let stat := bit k.res.val 61
      let here := decide (bits k.res.val 84 9 = port)
      if !stat && !here then s.learnArrive (ev 1)
      else if !stat && !bit k.res.val 62 && (match s.tblOf k.table with
          | some t => t.aged
          | none => false) then s.hitArrive ⟨k.table, k.res.slot, k.key⟩
      else if stat && !here then s.sat1 FE_LEARN.STATIC_OTHER.COUNT
      else s

/-- The outcome of the recovery function of R232. -/
inductive Recov where
  | pass (r : RxRec)
  | rogue
  | duplicate
  deriving DecidableEq, Repr

/-- The recovery function of R232. -/
def recover (r : RxRec) (seq : Nat) : Recov :=
  if r.takeAny then .pass { r with takeAny := false, seq := seq, hist := 1 }
  else
    let d := (seq + 65536 - r.seq) % 65536
    if 64 ≤ d && d ≤ 65536 - 64 then .rogue
    else if d = 0 || 65536 - 64 < d then
      let k := (65536 - d) % 65536
      if bit r.hist k then .duplicate else .pass { r with hist := setBit r.hist k true }
    else .pass { r with seq := seq, hist := (r.hist * 2 ^ d ||| 1) % 2 ^ 64 }

/-- Ingress elimination (R232): the packet that continues, if it does, under carry lane 157. -/
def State.eliminate (s : State) (p : Pkt) (lane : Nat) : Option Pkt × State :=
  if !s.operating 75 || !s.rfb FE_PROT.CTRL.RX_ENABLE || !p.prot || !bit lane 16 then (some p, s)
  else
    let k := p.protStream
    let seq := lane % 65536
    if p.inPort < 256 && !s.protIsIn p.inPort then (none, s.sat1 FE_PROT.IGNORED.COUNT)
    else
      let r := s.rxRec k
      if !r.valid then
        (none, (s.sat1 FE_PROT.NO_STREAM.COUNT).raiseO Ev.FE_PROT.NO_STREAM 0 none (some k) (some p.inPort))
      else
        match recover r seq with
        | .rogue => (none, (s.sat1 FE_PROT.ROGUE.COUNT).raiseO Ev.FE_PROT.ROGUE 0 none (some k) (some seq))
        | .duplicate => (none, s.sat1 FE_PROT.DUPLICATE.COUNT)
        | .pass r =>
          let s := ((s.setRxRec k r).inc1 FE_PROT.PASSED.COUNT).arm .rcvyReset k (orWhenZero (s.rf FE_PROT.RCVY_RESET.MS) 1 * cyMs)
          (some (if bit lane 17 then p else p.mdSet 174 1 0), s)

/-- FAIL_ACT of the packet's cause (R141, R142): the packet that continues, if it does. -/
def State.failApply (s : State) (egr : Bool) (pipe cause last : Nat) (p : Pkt) : Option Pkt × State :=
  if cause = 0 then (some p, s)
  else
    let s := s.sat (if egr then FE_PARSE.FAIL_CNT_E.COUNT else FE_PARSE.FAIL_CNT_I.COUNT) 0 cause 1
    match s.failAct p.bank cause with
    | 0 => (some p, s)
    | 1 => (some ((p.mdSet 127 1 1).mdSet 121 6 cause), s)
    | _ =>
      let s := s.sat1 (if egr then FE_PARSE.FAIL_DROP_E.COUNT else FE_PARSE.FAIL_DROP_I.COUNT)
      (none, s.raise Ev.FE_PARSE.FAIL_DROP 0 cause (pipe + (if egr then 16 else 0)) last)

/-- The VRF a route request names. -/
def askVrf (a : RouteAsk) : Nat := match a with | .ip _ v _ => v | _ => 0

/-- The header of a network frame leaves the strip before the frame's tail has come: its first bit came at TIMESTAMP, and its port
brings 100 Gbit/s times its rate (R12, R15). (DEDUCED, log entry 5.) -/
def State.cutsThrough (s : State) (p : Pkt) : Bool :=
  let t := p.timestamp / 2 ^ 32 * 1000000000 + p.timestamp % 2 ^ 32
  decide (p.inPort < 256) && p.inj.isNone &&
    decide (s.nowNs * (25 * 2 ^ p.inRate) < t * (25 * 2 ^ p.inRate) + 2 * p.length)

/-- STRIP_EXIT (R107, R142, R149, R150, R199, R232): the oldest packet of ingress pipeline `i` leaves its strip at its cycle;
`ask` is what the program hands to the route sequence (R154). All lookups of the packet see the tables as they are in this cycle.
(DEDUCED, log entry 23.) -/
def State.stripExit (s : State) (i : Nat) (ask : RouteAsk) : State :=
  match s.headAt (.strip i) with
  | none => s
  | some p =>
    if !s.exitTurn p then s
    else
    let s := s.advanceTo p.due
    let st := inStrip i
    let (pw, x) := s.runStrip st i p ask
    let s := { s with freeCtr := s.freeCtr + 1 }.applyNotes x.notes
    let q : Pkt := { p with
      md := p.exitMd (lanesMd x.lanes), fail := pw.fail, vrf := askVrf ask % 4096 }
    let q := ((fixReason q).mdSet 31 1 (b2n (s.cutsThrough p))).point 3 s.nowNs
    match s.failApply false i pw.fail pw.state q with
    | (none, s) => (s.putPkt q).dropPkt q
    | (some q, s) =>
      let s := match x.src with
        | some k => s.learnFrom i q k
        | none => s
      match s.eliminate q (laneGet x.lanes 157) with
      | (none, s) => (s.putPkt q).dropPkt q
      | (some q, s) =>
        if q.punt then (s.traceHalf q false false false true).puntMeter q
        else
          let s := s.traceHalf q false false false false
          if s.bridgeUp then s.movePkt q (.tmArrive i) else s.departPkt q

def execStripExit (pipe : Nat) (ask : RouteAsk) (s : State) : Host.Outcome State Fault Refusal :=
  .next (s.onFe (fun s => s.stripExit pipe ask))

end Sys2Proof.Machine
end

