-- ==== Sys2Proof/Machine/Queues.lean ====
section
/-! DEFINITION. Channels, queues and buffers (R292 to R314): handles, the channel commands, admission and placement, the
port states of R309, and the statistics registers. -/

namespace Sys2Proof.Machine

/-! ### Channels and handles (R292 to R294) -/

/-- A free index at POR and CHIP reset: generation 1 (R293). -/
def Chan.free : Chan := ⟨false, false, 1, false, 0, 0, 0, false, 0, 0, none, 0⟩

def State.chan (s : State) (x : Nat) : Chan := SMap.get Chan.free s.chans x
def State.setChan (s : State) (x : Nat) (c : Chan) : State := { s with chans := SMap.put Chan.free s.chans x c }

/-- The handle of index `x` with its present generation. -/
def State.handleOf (s : State) (x : Nat) : Nat := (s.chan x).gen * 65536 + x

/-- The channel a handle names (R293, R299): its index is in use, with the handle's generation, and not being destroyed. -/
def State.handleChan (s : State) (h : Nat) : Option Nat :=
  let x := h % 65536
  let c := s.chan x
  if h ≠ 0 && c.used && !c.dying && decide (c.gen = h / 65536) then some x else none

/-- Queue number of class `c` of index `x` (R294). -/
def queueOf (x c : Nat) : Nat := 8 * x + c

/-- The packets of a channel's queues. -/
def State.chanPkts (s : State) (x : Nat) : List Pkt :=
  s.pkts.filter (fun p => match p.loc with | .queue q => decide (q / 8 = x) | _ => false)

/-- CHAN_COUNT shows the indexes in use, destroys in progress included (R311). -/
def State.showChans (s : State) : State := s.setCnt TM_CHAN.CHAN_COUNT.COUNT 0 (s.chans.filter (fun e => e.2.used)).length

/-! ### The tree's parents (R315, R316) -/

/-- A node at CHIP reset (R315, R339). -/
def Node.reset (k : Nat) : Node :=
  let i := k % 65536
  ⟨if k / 65536 = 1 then (if i ≤ 256 then i else 257) else if k / 65536 = 2 then i % 4096 else 0, 0, 1, 0, false, 0⟩

/-- Node number of a level and index. -/
def nodeKey (level i : Nat) : Nat := level * 65536 + i

def State.node (s : State) (k : Nat) : Node := SMap.get (Node.reset k) s.sc.nodes k
def State.setNode (s : State) (k : Nat) (n : Node) : State :=
  { s with sc := { s.sc with nodes := SMap.put (Node.reset k) s.sc.nodes k n } }

/-- The parent of a node (R315): a class queue's channel, a channel's L2 group, and so on; a port node has none. -/
def State.nodeParent (s : State) (k : Nat) : Nat :=
  match k / 65536 with
  | 0 => 0
  | 1 => nodeKey 0 (s.node k).parent
  | 2 => nodeKey 1 (s.node k).parent
  | 3 => nodeKey 2 (s.chan (k % 65536)).parent
  | _ => nodeKey 3 ((k - 4 * 65536) / 8)

/-- The port node a channel's path reaches (R316). -/
def State.pathPort (s : State) (x : Nat) : Nat :=
  s.nodeParent (s.nodeParent (s.nodeParent (nodeKey 3 x)))

/-- The path of a channel ends where its packets go (R316). -/
def State.pathOk (s : State) (x : Nat) : Bool :=
  let c := s.chan x
  decide (s.pathPort x = if c.egress then c.outPort else 257)

/-- SCHED_ORPHAN of a channel whose path ends elsewhere (R316). (DEDUCED, log entry 17.) -/
def State.orphanCheck (s : State) (x : Nat) : State :=
  if s.pathOk x then s else s.raise Ev.TM_SCHED.SCHED_ORPHAN 0 0 x (s.pathPort x)

/-! ### Express counts (R306) -/

/-- EXP_PORT_BYTES of a port: class 7 bytes in its egress queues, not yet handed to the bridge. -/
def State.expPortBytes (s : State) (port : Nat) : Nat :=
  sumN ((s.pkts.filter (fun p => decide (p.cls = 7) && p.egr && (match p.loc with
    | .queue q => decide ((s.chan (q / 8)).outPort = port)
    | .loopFifo _ => decide (port = 256)
    | _ => false))).map Pkt.length)

/-- EXP_VOQ_BYTES: class 7 bytes at TM ingress whose last cell has not left or entered reassembly; a multicast packet counts once for
itself and its copies. -/
def State.expVoqBytes (s : State) : Nat :=
  let ps := s.pkts.filter (fun p => decide (p.cls = 7) && !p.egr && (match p.loc with
    | .queue _ | .cutq _ | .cut _ | .residue | .core => true
    | _ => false))
  (ps.foldl (fun (a : List Nat × Nat) p => if a.1.contains p.family then a else (p.family :: a.1, a.2 + p.length)) ([], 0)).2

/-- Bytes of multicast packets held at ingress (R300). -/
def State.mcastIngBytes (s : State) : Nat :=
  sumN ((s.pkts.filter (fun p => p.mcast && !p.egr && decide (p.share = 0) && (match p.loc with
    | .residue => true
    | _ => false))).map Pkt.length)

/-! ### Placement (R304) -/

/-- Units of a packet: metadata and frame in 256-byte units. -/
def unitsOf (len : Nat) : Nat := ceilDiv (len + 64) 256

/-- Where a packet of class `cls` and length `len` is placed, in a queue of the given depth and SPILL: die units and GDDR7
units; none when it has no room. -/
def State.place (s : State) (id cls len depth spill : Nat) : Option (Nat × List Nat) × State :=
  let u := unitsOf len
  let free := s.rf TM_BUF.DIE_FREE.UNITS
  let res := s.rf TM_BUF.EXP_RESERVE.UNITS
  let onDie := (some (u, ([] : List Nat)), s.wf TM_BUF.DIE_FREE.UNITS (free - u))
  if cls = 7 then if u ≤ free then onDie else (none, s)
  else if depth < spill * 256 && u ≤ free && res + s.rf TM_BUF.SPILL_FREE.UNITS ≤ free - u then onDie
  else
    let fallback := if u ≤ free && res ≤ free - u then onDie else (none, s)
    if s.ddrOn && u ≤ s.rf TM_BUF.DDR_FREE.UNITS then
      let (us, t) := s.ddrTake u
      let full := decide (32768 < t.stagedWrites + (us.filter (fun x => decide (t.dmcState (unitCtl x) = dmcFreq))).length) &&
        us.any (fun x => decide (t.dmcState (unitCtl x) = dmcFreq))
      if full then fallback
      else (some (0, us), (t.ddrWrites id us).inc TM_BUF.SPILLED.COUNT 0 0 1)
    else fallback

/-- RESERVE_SHORT stands: the inequality of R307 fails. -/
def State.reserveNeed (s : State) : Nat :=
  ceilDiv (s.rf TM_QUEUE.EXP_VOQ_LIM.BYTES) 64 + 257 * ceilDiv (s.rf TM_QUEUE.EXP_QLIM.BYTES) 64

/-- RESERVE_SHORT after a write of one of its registers (R307). -/
def State.reserveCheck (s : State) : State :=
  if s.rf TM_BUF.EXP_RESERVE.UNITS < s.reserveNeed then
    s.raise Ev.TM_BUF.RESERVE_SHORT 0 0 (s.rf TM_BUF.EXP_RESERVE.UNITS) s.reserveNeed
  else s

/-! ### Queue profiles (R302) -/

/-- A queue profile at CHIP reset. -/
def qprofReset : Nat := 4096 + 3072 * 2 ^ 32 + 2048 * 2 ^ 64 + 0x0FFFFFFF * 2 ^ 96

def State.qprof (s : State) (i : Nat) : Nat := SMap.get qprofReset s.sc.qProf i
def State.setQprof (s : State) (i v : Nat) : State := { s with sc := { s.sc with qProf := SMap.put qprofReset s.sc.qProf i v } }

/-- The profile of a queue. -/
def State.queueProf (s : State) (q : Nat) : Nat := s.qprof (bits (s.chan (q / 8)).profile (8 * (q % 8)) 8)

/-- Word `k` of a profile. -/
def profWord (v k : Nat) : Nat := bits v (32 * k) 28

/-- The threshold of a colour (R302), in bytes. -/
def profLimit (v colour : Nat) : Nat :=
  (if colour = 0 then profWord v 0 else if colour = 1 then min (profWord v 1) (profWord v 0) else min (profWord v 2) (profWord v 0)) * 256

/-! ### Admission (R300, R301) -/

/-- TM port states (R309, R312). -/
def tmUp : Nat := 0
def tmHold : Nat := 1
def tmDown : Nat := 2

def State.tmPort (s : State) (p : Nat) : Nat := s.rfi TM_QUEUE.PORT_STATE.STATE p

/-- The outcome of checks 1 to 7 of R301: the queue, or the check that failed. -/
inductive AdmitRes where
  | queue (q : Nat)
  | refused (step : Nat)
  deriving DecidableEq, Repr

/-- Checks 1 to 7 of R301 for a packet at one side of the TM, `anyPort` for a MODE 1 inject, whose port is its channel's. -/
def State.admitCheck (s : State) (p : Pkt) (h : Nat) (egr anyPort : Bool) : AdmitRes :=
  if h = 0 then .refused 1
  else
    match s.handleChan h with
    | none => .refused 2
    | some x =>
      let c := s.chan x
      let q := queueOf x p.cls
      let prof := s.queueProf q
      if c.egress ≠ egr || (!egr && !anyPort && decide (c.outPort ≠ p.outPort)) then .refused 3
      else if !bit c.mask p.cls then .refused 4
      else if egr && (decide (s.tmPort c.outPort = tmDown) || (decide (s.tmPort c.outPort = tmHold) && bit prof 124)) then .refused 5
      else if profLimit prof p.colour < s.bytesAt (.queue q) + p.length then .refused 6
      else if p.cls = 7 && egr && s.rf TM_QUEUE.EXP_QLIM.BYTES < s.expPortBytes c.outPort + p.length then .refused 7
      else if p.cls = 7 && !egr && s.rf TM_QUEUE.EXP_VOQ_LIM.BYTES < s.expVoqBytes + p.length then .refused 7
      else .queue q

/-- The counter and event of a failed check (R301). -/
def State.admitRefuse (s : State) (p : Pkt) (h step : Nat) (egr : Bool) : State :=
  match step with
  | 1 => s.sat1 TM_CHAN.NO_CHAN_DROP.COUNT
  | 2 =>
    let s := s.sat1 TM_CHAN.STALE_DROP.COUNT
    if s.sc.staleArm then
      ({ s with sc := { s.sc with staleArm := false } }).raise Ev.TM_CHAN.STALE_ADMIT 0 0 h p.outPort
    else s
  | 3 => s.sat1 TM_CHAN.PORT_MISMATCH.COUNT
  | 4 => s.sat1 TM_CHAN.NO_QUEUE_DROP.COUNT
  | 5 => s.sat1 TM_QUEUE.DOWN_DROP.COUNT
  | 6 => s.sat1 (if p.colour = 0 then TM_QUEUE.TAIL_DROP_G.COUNT
      else if p.colour = 1 then TM_QUEUE.TAIL_DROP_Y.COUNT else TM_QUEUE.TAIL_DROP_R.COUNT)
  | _ =>
    (s.sat1 TM_QUEUE.EXP_DROP.COUNT).raise Ev.TM_QUEUE.EXP_DROP 0 (if egr then 0 else 1)
      (if egr then (s.chan (h % 65536)).outPort else 0x1FF) p.length

/-- Bytes of classes 0 to 6 in the egress queues of port group `g` (R308). -/
def State.pgBytes (s : State) (g : Nat) : Nat :=
  sumN ((s.pkts.filter (fun p => decide (p.cls ≠ 7) && p.egr && (match p.loc with
    | .queue q => let o := (s.chan (q / 8)).outPort; decide (o < 256) && decide (o / 8 = g)
    | _ => false))).map Pkt.length)

/-- The XOFF state of a port group follows its bytes (R308); a change waits to be sent (R262). -/
def State.fcCheck (s : State) (g : Nat) : State :=
  let n := s.pgBytes g
  let off := bit s.fab.pgXoff g
  let chg := fun (b : Bool) =>
    { s with fab := { s.fab with pgXoff := setBit s.fab.pgXoff g b, fcQ := s.fab.fcQ ++ [(g, b)] } }
  if !off && decide (orWhenZero (s.rf TM_QUEUE.PG_FC.PG_XOFF) 65536 * 256 ≤ n) then chg true
  else if off && decide (n < s.rf TM_QUEUE.PG_FC.PG_XON * 256) then chg false
  else s

/-- Flow control after packets left queues: port groups and ingress ports that hold their senders are looked at again
(R222, R308). -/
def State.flowSweep (s : State) : State :=
  let s : State := (idxsBelow 32 (bit s.fab.pgXoff)).foldl (fun s g => s.fcCheck g) s
  let held := s.net.ports.flatMap (fun e => (idxsBelow 8 (bit e.2.xoff)).map (fun c => (e.1, c)))
  held.foldl (fun s e => s.pfcCheck e.1 e.2) s

/-- Flow control after a packet entered a queue. -/
def State.flowIn (s : State) (p : Pkt) (port : Nat) : State :=
  if p.egr then (if port < 256 then s.fcCheck (port / 8) else s) else s.pfcCheck p.inPort p.cls

/-- MIN_LEN7 of the active bank (R354). -/
def State.minLen7 (s : State) : Nat := s.rf TM_GLOBAL.MIN_LEN7.BYTES

/-- EXP_SHORT counts an admitted class 7 packet below MIN_LEN7 (R345, R355). -/
def State.expShort (s : State) (p : Pkt) : State :=
  if p.cls = 7 && decide (p.length < s.minLen7) then s.sat1 TM_GLOBAL.EXP_SHORT.COUNT else s

/-- A packet of the list that has passed its checks takes its units and joins the tail of queue `q` (R301 step 8, R303);
false when placement has no room. A copy that finds its family's units held takes none (R305). -/
def State.enqueue (s : State) (p : Pkt) (q : Nat) : Bool × State :=
  let x := q / 8
  let shared := s.pkts.any (fun r => decide (r.id ≠ p.id) && decide (r.family = p.family) && r.holds && decide (r.egr = p.egr) &&
    (decide (r.dieUnits ≠ 0) || !r.ddr.isEmpty))
  let (place, t) := if shared && p.egr then (some (0, ([] : List Nat)), s)
    else s.place p.family p.cls p.length (s.bytesAt (.queue q)) (profWord (s.queueProf q) 3)
  match place with
  | none => (false, (s.sat1 TM_BUF.BUF_DROP.COUNT).raise Ev.TM_BUF.BUF_DROP 0 p.cls q (unitsOf p.length))
  | some (die, ddr) =>
    let r : Pkt := { p with
      dieUnits := die, ddr := ddr, since := t.time, hold := p.hold || !ddr.isEmpty, dest := if p.egr then p.dest else (t.chan x).destDev }
    let t := if (t.at_ (.queue q)).isEmpty then t.workEnds (.queue q) else t
    let t := (t.movePkt (r.point (if p.egr then 9 else 4) t.nowNs) (.queue q)).expShort r
    (true, (t.flowIn r (t.chan x).outPort).orphanCheck x)

/-- A reset of TM.QUEUE or TM.BUF is in progress: arrivals are dropped (R409). -/
def State.buffersReset (s : State) : Bool := s.inReset 4149 || s.inReset 4150

/-- `n` packets lost to a reset of TM.QUEUE or TM.BUF: they count in FLUSH_DROP once IN_RESET clears (R409). -/
def State.flushLater (s : State) (n : Nat) : State :=
  { s with later := SMap.upd 0 s.later (TM_QUEUE.FLUSH_DROP.COUNT.key 0 0) (· + n) }

/-- A stamped packet of the list is offered to admission at the channel of handle `h`; a refused one is dropped (R301). -/
def State.admitTo (s : State) (p : Pkt) (h : Nat) (egr : Bool) : State :=
  let p : Pkt := { p with egr := egr }
  let pt := p.point (if egr then 9 else 4) s.nowNs
  if s.buffersReset then ((s.flushLater 1).putPkt pt).dropPkt pt
  else
  match s.admitCheck p h egr false with
  | .refused k =>
    let s := s.admitRefuse p h k egr
    let s := match s.handleChan h with
      | some x => s.countDrop (queueOf x p.cls) p.length
      | none => s
    (s.putPkt pt).dropPkt pt
  | .queue q =>
    match (s.putPkt p).enqueue p q with
    | (true, s) => s
    | (false, s) => ((s.countDrop q p.length).putPkt pt).dropPkt pt

/-! ### MODE 1 injects (R66, R67, R326) -/

/-- A MODE 1 inject refused at step `k` of R301: never stamped; its descriptor says STALE_HANDLE or DROPPED. -/
def State.injRefuse (s : State) (p : Pkt) (k : Nat) : State :=
  (s.removePkt p.id).injDone p (if k ≤ 2 then 5 else 4)

/-- A MODE 1 inject that has passed step 2 of policing is offered to the queue of its channel and CLASS: it is stamped at its
admission, and written back (R67, R72). -/
def State.injAdmit (s : State) (p : Pkt) (h : Nat) : State :=
  if s.buffersReset then (s.flushLater 1).injRefuse p 8
  else
  match s.handleChan h with
  | none => (s.admitRefuse p h (if h = 0 then 1 else 2) false).injRefuse p (if h = 0 then 1 else 2)
  | some x =>
    let c := s.chan x
    let p := { p with egr := c.egress, dest := c.destDev }.mdSet 175 9 c.outPort
    match s.admitCheck p h c.egress true with
    | .refused k => ((s.admitRefuse p h k c.egress).countDrop (queueOf x p.cls) p.length).injRefuse p k
    | .queue q =>
      let b := s.activeBank
      let p := p.mdSet 9 1 (b2n b)
      match (s.putPkt p).enqueue p q with
      | (false, s) => (s.countDrop q p.length).injRefuse p 8
      | (true, s) =>
        let s := (s.stampCount b).injDone p 0
        match s.pktById p.id with
        | some r => s.putPkt { r with inj := none }
        | none => s

/-! ### Channel commands (R295 to R299) -/

/-- PORT_CHAN entries that hold handle `h` become 0. -/
def State.clearPortChan (s : State) (h : Nat) : State :=
  (List.range 257).foldl (fun s p => if s.rfi TM_CHAN.PORT_CHAN.HANDLE p = h then s.wfi TM_CHAN.PORT_CHAN.HANDLE p 0 else s) s

/-- Channel `x` becomes the default of its port (R296 step 3): the one before it loses PORT_DEFAULT. -/
def State.takePort (s : State) (x : Nat) : State :=
  let c := s.chan x
  let old := s.rfi TM_CHAN.PORT_CHAN.HANDLE c.outPort
  let s := match s.handleChan old with
    | some y => if y = x then s else s.setChan y { s.chan y with portDefault := false }
    | none => s
  s.wfi TM_CHAN.PORT_CHAN.HANDLE c.outPort (s.handleOf x)

/-- The DETAIL cause of R296 that the fields of a command give; `port` is its OUT_PORT and KIND where the command has
them. -/
def chanCause (port : Nat) (voq dflt : Bool) (parent mask : Nat) : Option Nat :=
  if 256 < port || (dflt && voq) then some 16 else if 16383 < parent then some 17 else if mask = 0 then some 19 else none

/-- A shaper of a node takes a value; none is a full one. -/
def State.setShaper (s : State) (k : Nat) (sh : Option Shaper) : State :=
  { s with sc := { s.sc with shapers := SMap.put none s.sc.shapers k sh } }

/-- The calendar takes its entries. -/
def State.setCal (s : State) (l : List CalEnt) : State :=
  ({ s with sc := { s.sc with cal := l } } : State).setCnt TM_SHAPE.CAL_WAITING.COUNT 0 l.length

/-- A node's shaping ends: its shaper is discarded, in the calendar too (R322). -/
def State.unshape (s : State) (k : Nat) : State := (s.setShaper k none).setCal (s.sc.cal.filter (fun e => decide (e.node ≠ k)))

def State.setDeficit (s : State) (k : Nat) (d : Int) : State := { s with sc := { s.sc with deficit := SMap.put 0 s.sc.deficit k d } }

/-- A node leaves the round of its parent: it stands at the tail of the new one with a deficit of 0 (R317). -/
def State.unround (s : State) (k : Nat) : State :=
  let rs := s.sc.rounds.filterMap (fun e =>
    let l := e.2.filter (fun x => decide (x ≠ k))
    if l.isEmpty then none else some (e.1, l))
  ({ s with sc := { s.sc with rounds := rs } }).setDeficit k 0

/-- The channel node of a new channel (R320): unshaped, and new to its rounds with its queues. -/
def State.newNode (s : State) (x : Nat) : State :=
  let k := nodeKey 3 x
  ((List.range 8).foldl (fun s c => s.unround (4 * 65536 + queueOf x c)) (((s.setNode k (Node.reset k)).unshape k).unround k))

/-- CHAN_CREATE (R296). -/
def State.chanCreate (s : State) (id : Nat) : State :=
  match s.startable id (fun op => decide (op = 0x20)) with
  | none => s
  | some c =>
    let egress := decide (c.bits 128 1 = 1)
    let dflt := decide (c.bits 129 1 = 1)
    match chanCause (c.bits 160 9) (!egress) dflt (c.bits 200 14) (c.bits 192 8) with
    | some d => s.finishR id stInvalid d 0
    | none =>
      let any := decide (c.bits 130 1 = 1)
      let x := if any then (List.range 65536).find? (fun x => !(s.chan x).used) else some (c.bits 144 16)
      match x with
      | none => s.finishR id stInvalid 18 0
      | some x =>
        if (s.chan x).used then s.finishR id stExists 0 0
        else
          let ch : Chan := { s.chan x with
            used := true, dying := false, egress := egress, outPort := c.bits 160 9, destDev := c.bits 176 10,
            mask := c.bits 192 8, portDefault := dflt, parent := c.bits 200 14, profile := c.bits 256 64, cmd := none, drops := 0 }
          let s := (s.setChan x ch).newNode x
          let s := (if dflt then s.takePort x else s).showChans
          s.finishR id stOK 0 (s.handleOf x)

def execChanCreate (id : Nat) (s : State) : Host.Outcome State Fault Refusal := .next (s.onTm (fun s => s.chanCreate id))

/-- The channel a command names in TARGET. -/
def State.cmdChan (s : State) (c : Cmd) : Option Nat := s.handleChan (c.bits 64 32)

/-- CHAN_MODIFY (R297). -/
def State.chanModify (s : State) (id : Nat) : State :=
  match s.startable id (fun op => decide (op = 0x22)) with
  | none => s
  | some c =>
    match s.cmdChan c with
    | none => s.finishR id stStaleHandle 0 0
    | some x =>
      let ch := s.chan x
      let dflt := decide (c.bits 129 1 = 1)
      match chanCause ch.outPort (!ch.egress) dflt (c.bits 200 14) (c.bits 192 8) with
      | some d => s.finishR id stInvalid d 0
      | none =>
        let s := s.setChan x { ch with
          mask := c.bits 192 8, portDefault := dflt, parent := c.bits 200 14, profile := c.bits 256 64 }
        let s := if c.bits 200 14 = ch.parent then s else s.unround (nodeKey 3 x)
        let s := if dflt then s.takePort x
          else if s.rfi TM_CHAN.PORT_CHAN.HANDLE ch.outPort = s.handleOf x then s.wfi TM_CHAN.PORT_CHAN.HANDLE ch.outPort 0 else s
        let s := if (s.chanPkts x).isEmpty then s else s.orphanCheck x
        s.finishR id stOK 0 (s.handleOf x)

def execChanModify (id : Nat) (s : State) : Host.Outcome State Fault Refusal := .next (s.onTm (fun s => s.chanModify id))

/-- Every queued packet of a channel is discarded, counted in DESTROY_DROP (R298). -/
def State.chanFlush (s : State) (x : Nat) : Nat × State :=
  let ps := s.chanPkts x
  let s := (s.dropAll ps).sat TM_CHAN.DESTROY_DROP.COUNT 0 0 ps.length
  let c := s.chan x
  (ps.length, (s.setChan x { c with drops := c.drops + ps.length }).flowSweep)

/-- Step 4 of R298: the index is free and the command completes OK. -/
def State.chanFree (s : State) (x : Nat) : State :=
  let c := s.chan x
  let s := ((s.disarm .destroy x).setChan x { Chan.free with gen := c.gen }).showChans
  match c.cmd with
  | some id => s.finishR id stOK 0 c.drops
  | none => s

/-- CHAN_DESTROY (R298): step 1, the flush of step 2, and step 4 when nothing is queued. -/
def State.chanDestroy (s : State) (id : Nat) : State :=
  match s.startable id (fun op => decide (op = 0x21)) with
  | none => s
  | some c =>
    match s.cmdChan c with
    | none => s.finishR id stStaleHandle 0 0
    | some x =>
      let ch := s.chan x
      let s := ((s.begin id).tookEffect id).clearPortChan (s.handleOf x)
      let s := s.setChan x { ch with
        dying := true, gen := if ch.gen = 65535 then 1 else ch.gen + 1, cmd := some id, drops := 0, portDefault := false }
      let s := s.arm .destroy x (orWhenZero (s.rf TM_CHAN.DESTROY_TIMEOUT.MS) 1 * cyMs)
      let s := if c.bits 128 1 = 1 then (s.chanFlush x).2 else s
      if (s.chanPkts x).isEmpty then s.chanFree x else s

def execChanDestroy (id : Nat) (s : State) : Host.Outcome State Fault Refusal := .next (s.onTm (fun s => s.chanDestroy id))

/-- CHAN_DESTROY_DRAINED (R298): the queues of a channel being destroyed are empty. -/
def State.destroyDrained (s : State) (x : Nat) : State :=
  if (s.chan x).dying && (s.chanPkts x).isEmpty then s.chanFree x else s

def execChanDestroyDrained (index : Nat) (s : State) : Host.Outcome State Fault Refusal :=
  .next (s.onTm (fun s => s.destroyDrained index))

/-- DESTROY_TIMEOUT (R298 step 3): what remains is discarded. -/
def State.destroyTimeout (s : State) (x : Nat) : State :=
  match s.expire .destroy x with
  | none => s
  | some s =>
    if !(s.chan x).dying then s
    else
      let h := ((s.chan x).gen + 65534) % 65535 * 65536 + x
      let (n, s) := s.chanFlush x
      let s := if n = 0 then s else s.raise Ev.TM_CHAN.DESTROY_TIMEOUT 0 0 (if h / 65536 = 0 then 65535 * 65536 + x else h) n
      s.chanFree x

def execDestroyTimeout (index : Nat) (s : State) : Host.Outcome State Fault Refusal :=
  .next (s.onTm (fun s => s.destroyTimeout index))

/-- GDDR7 units of a set of packets. -/
def ddrUnits (ps : List Pkt) : Nat := sumN (ps.map (fun p => p.ddr.length))

/-- CHAN_QUERY (R295). -/
def State.chanQuery (s : State) (id : Nat) : State :=
  match s.startable id (fun op => decide (op = 0x23)) with
  | none => s
  | some c =>
    match s.cmdChan c with
    | none => s.finishR id stStaleHandle 0 0
    | some x =>
      let ch := s.chan x
      let ps := s.chanPkts x
      let r := b2n ch.egress + ch.outPort * 2 ^ 1 + ch.destDev * 2 ^ 10 + ch.mask * 2 ^ 20 + b2n ch.portDefault * 2 ^ 28 +
        ch.parent * 2 ^ 29 + sumN (ps.map Pkt.length) % 2 ^ 32 * 2 ^ 64 + ps.length % 2 ^ 32 * 2 ^ 96 + ddrUnits ps % 2 ^ 32 * 2 ^ 128
      s.finishR id stOK 0 r

def execChanQuery (id : Nat) (s : State) : Host.Outcome State Fault Refusal := .next (s.onTm (fun s => s.chanQuery id))

/-! ### Port down, hold and flush (R309) -/

/-- PORT_HOLD in core cycles. -/
def State.holdCycles (s : State) : Nat := orWhenZero (s.rf TM_QUEUE.PORT_HOLD.MS) 1 * cyMs

/-- TM_PORT_DOWN (R309): a port the TM treats as down leaves UP for HOLD. -/
def State.portGoesDown (s : State) (p : Nat) : State :=
  if p < 256 && decide (s.tmPort p = tmUp) && s.tmPortDown p then
    let s := (s.wfi TM_QUEUE.PORT_STATE.STATE p tmHold).arm .portHold p s.holdCycles
    let s := (List.range 8).foldl (fun (s : State) c => s.workEnds (.egr p c)) s
    ({ s with sc := { s.sc with downAt := SMap.put 0 s.sc.downAt p s.cycle } }).raise Ev.TM_QUEUE.PORT_HOLD 0 0 p 0
  else s

def execTmPortDown (port : Nat) (s : State) : Host.Outcome State Fault Refusal :=
  .next (s.onTm (fun s => s.portGoesDown port))

/-- The packets in the egress queues of a port. -/
def State.egressPkts (s : State) (port : Nat) : List Pkt :=
  s.pkts.filter (fun p => p.egr && (match p.loc with
    | .queue q => decide ((s.chan (q / 8)).outPort = port)
    | _ => false))

/-- PORT_HOLD_EXPIRE (R309): HOLD ends in DOWN and the port's egress queues are flushed. -/
def State.holdExpire (s : State) (p : Nat) : State :=
  match s.expire .portHold p with
  | none => s
  | some s =>
    let ps := s.egressPkts p
    let s := (s.wfi TM_QUEUE.PORT_STATE.STATE p tmDown).dropAll ps
    ((s.sat TM_QUEUE.FLUSH_DROP.COUNT 0 0 ps.length).flowSweep).raise Ev.TM_QUEUE.PORT_FLUSHED 0 0 p ps.length

def execPortHoldExpire (port : Nat) (s : State) : Host.Outcome State Fault Refusal :=
  .next (s.onTm (fun s => s.holdExpire port))

/-- TM_PORT_UP (R309): a port in HOLD or DOWN that is no longer down returns to UP. -/
def State.portComesUp (s : State) (p : Nat) : State :=
  if p < 256 && decide (s.tmPort p ≠ tmUp) && !s.tmPortDown p then
    let ms := (s.cycle - SMap.get 0 s.sc.downAt p) / cyMs
    let s := (s.wfi TM_QUEUE.PORT_STATE.STATE p tmUp).disarm .portHold p
    ({ s with sc := { s.sc with downAt := SMap.put 0 s.sc.downAt p 0 } }).raise Ev.TM_QUEUE.PORT_RESUMED 0 0 p ms
  else s

def execTmPortUp (port : Nat) (s : State) : Host.Outcome State Fault Refusal := .next (s.onTm (fun s => s.portComesUp port))

/-! ### Indirect registers (R312) -/

/-- QPROF_SEL takes the value written. -/
def State.qprofSel (s : State) (v : Nat) : State :=
  (s.wf TM_QUEUE.QPROF_SEL.PROFILE (bits v 0 8)).wf TM_QUEUE.QPROF_SEL.OP (bits v 8 1)

/-- QPROF_READ: QPROF_SEL written with GO and OP read. -/
def State.qprofRead (s : State) (v : Nat) : State :=
  if !s.blockOpen 4149 then s
  else
    let s := s.qprofSel v
    (List.range 4).foldl (fun s k => s.wfi TM_QUEUE.QPROF_DATA.DATA k (bits (s.qprof (bits v 0 8)) (32 * k) 32)) s

def execQprofRead (sel : Nat) (s : State) : Host.Outcome State Fault Refusal :=
  .next (s.onTm (fun s => s.qprofRead (setBit (sel % 2 ^ 32) 8 false)))

/-- QPROF_WRITE (R302): reserved bits of the words are not kept. -/
def State.qprofWrite (s : State) (v : Nat) : State :=
  if !s.blockOpen 4149 then s
  else
    let s := s.qprofSel v
    let w := fun k => s.rfi TM_QUEUE.QPROF_DATA.DATA k
    s.setQprof (bits v 0 8) (w 0 % 2 ^ 28 + w 1 % 2 ^ 28 * 2 ^ 32 + w 2 % 2 ^ 28 * 2 ^ 64 + w 3 % 2 ^ 29 * 2 ^ 96)

def execQprofWrite (sel : Nat) (s : State) : Host.Outcome State Fault Refusal :=
  .next (s.onTm (fun s => s.qprofWrite (setBit (sel % 2 ^ 32) 8 true)))

/-- QUEUE_STATS_LOAD (R312): Q_SEL written with GO. -/
def State.queueStats (s : State) (v : Nat) : State :=
  if !s.blockOpen 4149 then s
  else
    let q := bits v 0 19
    let ps := s.at_ (.queue q)
    let s := s.wf TM_QUEUE.Q_SEL.QUEUE q
    ((s.setCnt TM_QUEUE.Q_BYTES.COUNT 0 (sumN (ps.map Pkt.length))).setCnt TM_QUEUE.Q_PKTS.COUNT 0 ps.length).setCnt
      TM_QUEUE.Q_DDR_UNITS.COUNT 0 (ddrUnits ps)

def execQueueStatsLoad (sel : Nat) (s : State) : Host.Outcome State Fault Refusal :=
  .next (s.onTm (fun s => s.queueStats sel))

end Sys2Proof.Machine
end

