-- ==== Sys2Proof/Machine/Gates.lean ====
section
/-! DEFINITION. Gate lists (R330 to R334, R342, R350): the entry in force at a time, closings and windows, GMAX, and the
commands of TM.GATE. Times inside a list are in units of 2^-32 ns. -/

namespace Sys2Proof.Machine

/-! ### Lists -/

/-- An entry at CHIP reset: INTERVAL 1,000, all gates open (R342). -/
def gateEntryReset : Nat := 1000 + 0xFF * 2 ^ 32

/-- Both lists of a port at CHIP reset, but for CYCLE_TIME: 1,000 in the active list, 0 in PEND_CYCLE (R342). -/
def GateList.reset (cycleNs : Nat) : GateList := ⟨[], cycleNs, 1, 0, 0, false⟩
def GatePort.reset : GatePort := ⟨false, GateList.reset 1000, GateList.reset 0, false, 0, 0, 0⟩

def State.gate (s : State) (p : Nat) : GatePort := SMap.get GatePort.reset s.sc.gates p
def State.setGate (s : State) (p : Nat) (g : GatePort) : State :=
  { s with sc := { s.sc with gates := SMap.put GatePort.reset s.sc.gates p g } }

/-- BASE_TIME in ns. -/
def GateList.base (l : GateList) : Nat := l.baseSec * 1000000000 + l.baseNs

/-- Entry `k` of a list. -/
def GateList.entry (l : GateList) (k : Nat) : Nat := SMap.get gateEntryReset l.entries k

/-- One nanosecond in units of device time. -/
def ns32 : Nat := 2 ^ 32

/-- One cycle of a list as (duration, gates, entry) runs: entries beyond CYCLE_TIME are not used, and the last entry stays in
force until the cycle ends (R331). -/
def gateRuns (l : GateList) : Nat → Nat → Nat → List (Nat × Nat × Nat)
  | 0, _, _ => []
  | n + 1, k, left =>
    if left = 0 then []
    else
      let e := l.entry k
      let d := if n = 0 then left else min (bits e 0 32) left
      (d * ns32, bits e 32 8, k) :: gateRuns l n (k + 1) (left - d)

def GateList.runs (l : GateList) : List (Nat × Nat × Nat) := gateRuns l l.len 0 l.cycleNs

/-- Position of a time in the list's cycle (R331). -/
def GateList.pos (l : GateList) (t : Nat) : Nat :=
  (((t : Int) - (l.base * ns32 : Nat)) % ((l.cycleNs * ns32 : Nat) : Int)).toNat

/-- The runs from position `x` of a cycle on: the rest of the run in force, the runs behind it. -/
def runsFrom : List (Nat × Nat × Nat) → Nat → List (Nat × Nat × Nat)
  | [], _ => []
  | (d, g, k) :: rs, x => if x < d then (d - x, g, k) :: rs else runsFrom rs (x - d)

/-- The runs of a list from time `t` on: the rest of its cycle and one whole cycle more. -/
def GateList.ahead (l : GateList) (t : Nat) : List (Nat × Nat × Nat) := runsFrom l.runs (l.pos t) ++ l.runs

/-- The list in force at time `t` (R332): the pending list from S on. -/
def GatePort.listAt (g : GatePort) (t : Nat) : GateList := if g.pending && decide (g.sw * ns32 ≤ t) then g.pend else g.act

/-- Gates and entry in force at time `t`; all open while EN is 0 (R331). -/
def GatePort.now (g : GatePort) (t : Nat) : Nat × Nat :=
  if !g.en then (0xFF, 0)
  else
    match (g.listAt t).ahead t with
    | (_, gates, k) :: _ => (gates, k)
    | [] => (0xFF, 0)

/-- The leading time over which class `c`'s gate is `open_`; none when it never changes. -/
def leadTime (c : Nat) (open_ : Bool) : List (Nat × Nat × Nat) → Nat → Option Nat
  | [], _ => none
  | (d, g, _) :: rs, acc => if bit g c = open_ then leadTime c open_ rs (acc + d) else some acc

/-- Time from `t` until the gate of class `c` closes; none when it stays open. A pending switch ahead is counted. -/
def GatePort.closesIn (g : GatePort) (c t : Nat) : Option Nat :=
  let l := g.listAt t
  let a := leadTime c true (l.ahead t) 0
  let sw := g.sw * ns32
  if g.pending && decide (t < sw) then
    match a with
    | some v => if t + v ≤ sw then some v else (leadTime c true (g.pend.ahead sw) 0).map (fun w => sw - t + w)
    | none => (leadTime c true (g.pend.ahead sw) 0).map (fun w => sw - t + w)
  else a

/-- The longest run of class `c` with its gate `open_` in a cyclic list; none when it is so all the time. -/
def longestRun (l : GateList) (c : Nat) (open_ : Bool) : Option Nat :=
  let rs := l.runs
  if rs.all (fun r => decide (bit r.2.1 c = open_)) then none
  else
    let step := fun (a : Nat × Nat) (r : Nat × Nat × Nat) => if bit r.2.1 c = open_ then (max a.1 (a.2 + r.1), a.2 + r.1) else (a.1, 0)
    some ((rs ++ rs).foldl step (0, 0)).1

/-! ### Rates and delays -/

/-- `b` bits at the port's speed in units of device time. -/
def State.wire32 (s : State) (p b : Nat) : Nat := b * ns32 / (100 * s.portRate p)

/-- Wire time of a frame of LENGTH `len` (R333). -/
def State.frameTime (s : State) (p len : Nat) : Nat := s.wire32 p ((len + 20) * 8)

/-- The instant at which a frame selected now has its first bit on the wire of port `p` (R350). -/
def State.wireInstant (s : State) (p : Nat) : Nat :=
  let eighths := (60 + 40 + (macLat (s.pg FE_PG.PORT_CFG.SPEED p)).2) * 8 + s.depthEighths true
  s.time + eighths * 2 ^ 29

/-- The gate of the frame's class lets it start (R318, R333, R350); ports above 255 have no gates. -/
def State.gateOpen (s : State) (p c len : Nat) : Bool :=
  if 256 ≤ p then true
  else
    let g := s.gate p
    let t := s.wireInstant p
    if !g.en then true
    else if !bit (g.now t).1 c then false
    else if !(g.listAt t).guarded then true
    else
      match g.closesIn c t with
      | none => true
      | some v => decide (s.frameTime p len ≤ v)

/-- No open window of the class in the active list is long enough for the frame (R333). -/
def State.gateNever (s : State) (p c len : Nat) : Bool :=
  if 256 ≤ p then false
  else
    let g := s.gate p
    if !g.en || !g.act.guarded then false
    else
      match longestRun g.act c true with
      | none => false
      | some v => decide (v < s.frameTime p len)

/-! ### GMAX (R334) -/

/-- A list's longest closed run of class 7, with its guard; none when the gate never opens. (DEDUCED, log entry 17.) -/
def State.listGmax (s : State) (p : Nat) (l : GateList) : Option Nat :=
  (longestRun l 7 false).map (fun v => if v = 0 then 0 else if l.guarded then v + s.frameTime p (s.maxFrame p) else v)

/-- The closed run that ends at time `t` of a list: walking back through the runs before it. -/
def closedBefore (l : GateList) (t : Nat) : Option Nat :=
  let x := l.pos t
  let rs := l.runs
  let before := (rs.foldl (fun (a : List (Nat × Nat × Nat) × Nat) r =>
    if a.2 = 0 then a else ((min r.1 a.2, r.2.1, r.2.2) :: a.1, a.2 - min r.1 a.2)) (([], x) : List (Nat × Nat × Nat) × Nat)).1
  leadTime 7 false (before ++ rs.reverse) 0

/-- The closed run that spans S (R334). -/
def State.spanGmax (s : State) (p : Nat) (g : GatePort) : Option Nat :=
  let sw := g.sw * ns32
  match closedBefore g.act sw, leadTime 7 false (g.pend.ahead sw) 0 with
  | some a, some b => some (if a + b = 0 then 0 else if g.act.guarded || g.pend.guarded then a + b + s.frameTime p (s.maxFrame p) else a + b)
  | _, _ => none

/-- GMAX of a port computed again; a gate that never opens shows all ones. -/
def State.showGmax (s : State) (p : Nat) : State :=
  let g := s.gate p
  let all := [s.listGmax p g.act] ++ (if g.pending then [s.listGmax p g.pend, s.spanGmax p g] else [])
  let v := if !g.en then 0
    else if all.any (fun x => x.isNone) then 2 ^ 32 - 1
    else min (ceilDiv (maxN (all.map (fun x => x.getD 0))) ns32) (2 ^ 32 - 1)
  (s.wfi TM_GATE.GMAX.NS p v).latchBounds

/-! ### The switch (R332) -/

/-- The work of the classes whose gates stand closed now has ended (R318). -/
def State.gatesShut (s : State) (p : Nat) : State :=
  (List.range 8).foldl (fun (s : State) c => if bit ((s.gate p).now s.time).1 c then s else s.workEnds (.egr p c)) s

/-- The pending list of port `p` becomes active; the old one becomes the pending list. -/
def State.gateSwitch (s : State) (p : Nat) : State :=
  let g := s.gate p
  let s := s.setGate p { g with act := g.pend, pend := g.act, pending := false }
  ((s.showGmax p).raise Ev.TM_GATE.GATE_SWITCHED 0 0 p g.pend.len).gatesShut p

/-- Switches whose time a forward step of device time has passed (R332). -/
def State.gateCatchUp (s : State) : State :=
  (s.sc.gates.filter (fun e => e.2.pending && decide (e.2.sw * ns32 ≤ s.time))).foldl (fun s e => s.gateSwitch e.1) s

/-- GATE_SWITCH_APPLY (R332): at the first TICK at which device time is at or after S. -/
def State.gateApply (s : State) (p : Nat) : State :=
  let g := s.gate p
  if p < 256 && g.pending then (s.advanceTo (s.cycleOfTime (g.sw * ns32))).gateSwitch p else s

def execGateSwitchApply (port : Nat) (s : State) : Host.Outcome State Fault Refusal :=
  .next (s.onTm (fun s => s.gateApply port))

/-- The cause that refuses a request, if any (R332). -/
def gateCause (g : GatePort) : Option Nat :=
  if g.pend.cycleNs = 0 then some 1
  else if g.pending then some 2
  else if g.pend.len = 0 || 1024 < g.pend.len then some 3
  else if (List.range g.pend.len).any (fun k => decide (bits (g.pend.entry k) 0 32 = 0)) then some 4
  else none

/-- The switch time S in ns (R332): BASE_TIME, or the first whole cycle after it, at or after now + 1 us. -/
def switchTime (l : GateList) (time : Nat) : Nat :=
  let soon := time + 1000 * ns32
  if soon ≤ l.base * ns32 then l.base
  else l.base + ceilDiv (soon - l.base * ns32) (l.cycleNs * ns32) * l.cycleNs

/-- A request to install the pending list. -/
def State.gateRequest (s : State) (p : Nat) : State :=
  let g := s.gate p
  match gateCause g with
  | some c => (s.setGate p { g with result := stInvalid, cause := c }).raise Ev.TM_GATE.GATE_REFUSED 0 c p 0
  | none => (s.setGate p { g with pending := true, sw := switchTime g.pend s.time, result := stOK, cause := 0 }).showGmax p

/-- A write of PORT_CTRL for the port that GATE_SEL names (R331, R332, R342). -/
def State.portCtrlWrite (s : State) (v : Nat) : State :=
  if !s.blockOpen 4154 then s
  else
    let p := s.rf TM_GATE.GATE_SEL.PORT
    let g := s.gate p
    let guarded := bit v 1
    let s := if g.pending && decide (g.pend.guarded ≠ guarded) then s.wf TM_GATE.GATE_SEL.ERR 1 else s
    let g := { g with en := bit v 0, pend := if g.pending then g.pend else { g.pend with guarded := guarded } }
    let s := ((s.setGate p g).showGmax p).gatesShut p
    let s := if bit v 2 then s.gateRequest p else s
    if bit v 3 then
      let g := s.gate p
      (s.setGate p { g with pending := false }).showGmax p
    else s

/-- GATE_EN (R331): a write of PORT_CTRL that neither switches nor aborts. -/
def execGateEn (v : Nat) (s : State) : Host.Outcome State Fault Refusal := .next (s.onTm (fun s => s.portCtrlWrite (v % 4)))
/-- GATE_SWITCH_REQUEST (R332): a write of PORT_CTRL with SWITCH = 1. -/
def execGateSwitchRequest (v : Nat) (s : State) : Host.Outcome State Fault Refusal :=
  .next (s.onTm (fun s => s.portCtrlWrite (v % 4 + 4)))
/-- GATE_ABORT (R332): a write of PORT_CTRL with ABORT = 1. -/
def execGateAbort (v : Nat) (s : State) : Host.Outcome State Fault Refusal :=
  .next (s.onTm (fun s => s.portCtrlWrite (v % 4 + 8)))

/-- GATE_SEL takes the value written. -/
def State.gateSel (s : State) (v : Nat) : State :=
  ((((s.wf TM_GATE.GATE_SEL.PORT (bits v 0 8)).wf TM_GATE.GATE_SEL.LIST (bits v 8 1)).wf TM_GATE.GATE_SEL.ENTRY (bits v 9 10)).wf
    TM_GATE.GATE_SEL.OP (bits v 19 1)).wf TM_GATE.GATE_SEL.ERR 0

/-- GATE_ENTRY_READ (R342). -/
def State.gateRead (s : State) (v : Nat) : State :=
  if !s.blockOpen 4154 then s
  else
    let s := s.gateSel v
    let g := s.gate (bits v 0 8)
    let e := (if bit v 8 then g.pend else g.act).entry (bits v 9 10)
    (s.wfi TM_GATE.GATE_DATA.DATA 0 (bits e 0 32)).wfi TM_GATE.GATE_DATA.DATA 1 (bits e 32 32)

def execGateEntryRead (sel : Nat) (s : State) : Host.Outcome State Fault Refusal :=
  .next (s.onTm (fun s => s.gateRead (setBit (sel % 2 ^ 32) 19 false)))

/-- GATE_ENTRY_WRITE (R342): refused on the active list and while PENDING. -/
def State.gateWrite (s : State) (v : Nat) : State :=
  if !s.blockOpen 4154 then s
  else
    let s := s.gateSel v
    let p := bits v 0 8
    let g := s.gate p
    if !bit v 8 || g.pending then s.wf TM_GATE.GATE_SEL.ERR 1
    else
      let e := s.rfi TM_GATE.GATE_DATA.DATA 0 + s.rfi TM_GATE.GATE_DATA.DATA 1 % 256 * 2 ^ 32
      s.setGate p { g with pend := { g.pend with entries := SMap.put gateEntryReset g.pend.entries (bits v 9 10) e } }

def execGateEntryWrite (sel : Nat) (s : State) : Host.Outcome State Fault Refusal :=
  .next (s.onTm (fun s => s.gateWrite (setBit (sel % 2 ^ 32) 19 true)))

/-- A write of a PEND register of the port that GATE_SEL names: discarded, with ERR, while PENDING (R332). -/
def State.gatePend (s : State) (f : GateList → GateList) : State :=
  if !s.blockOpen 4154 then s
  else
    let p := s.rf TM_GATE.GATE_SEL.PORT
    let g := s.gate p
    if g.pending then s.wf TM_GATE.GATE_SEL.ERR 1 else s.setGate p { g with pend := f g.pend }

/-- GATE_ENTRY_CHANGE (R331): device time reaches the next entry boundary of an enabled port's list. -/
def State.gateEntryChange (s : State) (p : Nat) : State :=
  let g := s.gate p
  if 256 ≤ p || !g.en then s
  else
    match (g.listAt s.time).ahead s.time with
    | (d, _, _) :: _ => (s.advanceTo (s.cycleOfTime (s.time + d))).gatesShut p
    | [] => s

def execGateEntryChange (port : Nat) (s : State) : Host.Outcome State Fault Refusal :=
  .next (s.onTm (fun s => s.gateEntryChange port))

/-- The word a register of 0x110 to 0x148 reads for port `p` (R342). -/
def State.gateReg (s : State) (p off : Nat) : Nat :=
  let g := s.gate p
  let base := fun (l : GateList) (k : Nat) =>
    if k = 0 then l.baseNs else if k = 1 then l.baseSec % 2 ^ 32 else l.baseSec / 2 ^ 32
  let sw : GateList := { g.act with baseNs := g.sw % 1000000000, baseSec := g.sw / 1000000000 }
  match off with
  | 0x110 => b2n g.en + b2n g.pend.guarded * 2 + b2n g.pending * 16 + b2n g.act.guarded * 32 + g.result * 2 ^ 8 + g.cause * 2 ^ 16
  | 0x114 => g.pend.cycleNs
  | 0x118 => g.pend.len
  | 0x11C => base g.pend 0
  | 0x120 => base g.pend 1
  | 0x124 => base g.pend 2
  | 0x128 => g.act.cycleNs
  | 0x12C => g.act.len
  | 0x130 => base g.act 0
  | 0x134 => base g.act 1
  | 0x138 => base g.act 2
  | 0x13C => base sw 0
  | 0x140 => base sw 1
  | 0x144 => base sw 2
  | 0x148 => (g.now s.time).1 + (g.now s.time).2 * 2 ^ 16
  | _ => 0

/-- A write of a register of 0x114 to 0x124 for the port that GATE_SEL names. -/
def State.gatePendWrite (s : State) (off v : Nat) : State :=
  let v := v % 2 ^ 32
  match off with
  | 0x114 => s.gatePend (fun l => { l with cycleNs := v })
  | 0x118 => s.gatePend (fun l => { l with len := v % 2 ^ 11 })
  | 0x11C => s.gatePend (fun l => { l with baseNs := v })
  | 0x120 => s.gatePend (fun l => { l with baseSec := l.baseSec / 2 ^ 32 * 2 ^ 32 + v })
  | 0x124 => s.gatePend (fun l => { l with baseSec := v % 2 ^ 16 * 2 ^ 32 + l.baseSec % 2 ^ 32 })
  | _ => s

end Sys2Proof.Machine
end

