-- ==== Sys2Proof/Machine/Rings.lean ====
section
/-! DEFINITION. The rings of records in host memory (R204, R338, R390, R426): enabling them, their heads, and the sample
records that the TM writes (R335 to R337). -/

namespace Sys2Proof.Machine

/-- A sample record (R337) enters the sample ring while it is enabled: SEQ counts every record produced; a record that finds
the ring full, or whose write fails (R514), counts in SAMPLE_DROP. -/
def State.sampleRecord (s : State) (v : Nat) : State :=
  if s.rf sampleRing.enable = 0 || !s.operating 4156 then s
  else
    let seq := s.rf TM_SAMPLE.RECORDS.COUNT
    let s := s.inc1 TM_SAMPLE.RECORDS.COUNT
    if s.recFull sampleRing then
      let s := s.sat1 TM_SAMPLE.SAMPLE_DROP.COUNT
      if s.sc.sampleArm then
        ({ s with sc := { s.sc with sampleArm := false } }).raise Ev.TM_SAMPLE.SAMPLE_DROP 0 0 (s.rf sampleRing.tail) (s.rf sampleRing.head)
      else s
    else
      match s.recWrite sampleRing false (v + seq % 65536 * 2 ^ 208) with
      | (true, s) => s
      | (false, s) => s.sat1 TM_SAMPLE.SAMPLE_DROP.COUNT

/-- A sample record's fields below SEQ (R337). -/
def sampleWord (kind : Nat) (egr spilled : Bool) (queue colour value count units time : Nat) : Nat :=
  kind + b2n egr * 2 ^ 2 + b2n spilled * 2 ^ 3 + queue % 2 ^ 19 * 2 ^ 4 + queue % 8 * 2 ^ 23 + colour * 2 ^ 26 +
    min value (2 ^ 32 - 1) * 2 ^ 32 + count % 2 ^ 32 * 2 ^ 64 + units % 2 ^ 32 * 2 ^ 96 + time * 2 ^ 128

/-- A dequeue of a packet from queue `q` (R336): every SAMPLE_N-th one makes a DELAY record, SPILLED where its family's units stand in
GDDR7. -/
def State.dequeueSample (s : State) (p : Pkt) (q : Nat) : State :=
  let n := s.rf TM_SAMPLE.SAMPLE_N.N
  let s := s.countDeq q p.length
  if n = 0 then s
  else if s.sc.dequeues + 1 < n then { s with sc := { s.sc with dequeues := s.sc.dequeues + 1 } }
  else
    let s : State := { s with sc := { s.sc with dequeues := 0 } }
    let sojourn := (s.time - p.since) / 2 ^ 32
    let spilled := s.pkts.any (fun r => decide (r.family = p.family) && decide (r.egr = p.egr) && !r.ddr.isEmpty)
    s.sampleRecord (sampleWord 1 p.egr spilled q p.colour sojourn p.length 0 s.time80)

/-- SAMPLE_N_WRITE (R336). -/
def State.sampleN (s : State) (v : Nat) : State :=
  if s.blockOpen 4156 then { (s.wf TM_SAMPLE.SAMPLE_N.N v) with sc := { s.sc with dequeues := 0 } } else s

def execSampleNWrite (v : Nat) (s : State) : Host.Outcome State Fault Refusal := .next (s.onTm (fun s => s.sampleN v))

/-! ### Enabling and heads (R338) -/

/-- The page of a record ring, its registers, and the event of a refused enable. -/
def recRingOf (r : RecRingId) : Nat × RecRing × Evt :=
  match r with
  | .sample => (4156, sampleRing, Ev.TM_SAMPLE.SAMPLE_DROP)
  | .log => (4177, logRing, Ev.TM_LOG.EXPORT_ERR)
  | .feTrace => (77, feTraceRing, Ev.FE_TRACE.TRACE_DROP)
  | .tmTrace => (4178, tmTraceRing, Ev.TM_PERF.TRACE_DROP)
  | .notify => (70, ⟨FE_LEARN.NOTIFY_BASE_LO.ADDR, FE_LEARN.NOTIFY_BASE_HI.ADDR, FE_LEARN.NOTIFY_CTRL.LOG2_SIZE,
      FE_LEARN.NOTIFY_CTRL.ENABLE, FE_LEARN.NOTIFY_CTRL.OUTCOMES, FE_LEARN.NOTIFY_CTRL.OUTCOMES, FE_LEARN.NOTIFY_STATUS.TAIL,
      FE_LEARN.NOTIFY_STATUS.PHASE, FE_LEARN.NOTIFY_HEAD.HEAD, 0, 16⟩, Ev.FE_LEARN.NOTIFY_FULL)

/-- A write of a record ring's control register: ENABLE = 1 with LOG2_SIZE outside 6 to 16 is refused, otherwise it sets
TAIL 0, the head in force 0 and PHASE 1, and clears ERROR (R338, R390, R402). (DEDUCED, log entry 17.) -/
def State.recRingCtrl (s : State) (r : RecRingId) (v : Nat) : State :=
  let (P, ring, ev) := recRingOf r
  if !s.blockOpen P then s
  else
    let s := s.wf ring.log2 (bits v 0 5)
    let s := if r = .notify then s.wf FE_LEARN.NOTIFY_CTRL.OUTCOMES (bits v 8 7)
      else (s.wf ring.coalCount (bits v 8 8)).wf ring.coalUs (bits v 16 16)
    if !bit v 5 then s.wf ring.enable 0
    else if bits v 0 5 < 6 || 16 < bits v 0 5 then
      (s.wf ring.enable 0).raise ev 0 1 (s.rf ring.tail) (s.rf ring.head)
    else
      let s := match r with
        | .log => s.wf TM_LOG.RING_STATUS.ERROR 0
        | .feTrace => s.wf FE_TRACE.RING_STATUS.ERROR 0
        | .tmTrace => s.wf TM_PERF.RING_STATUS.ERROR 0
        | _ => s
      s.recEnable ring

/-- RECORD_RING_ENABLE (R338): a write of the ring's control register with ENABLE = 1. -/
def execRecordRingEnable (ring : RecRingId) (ctrl : Nat) (s : State) : Host.Outcome State Fault Refusal :=
  .next (s.onTm (fun s => s.recRingCtrl ring (setBit (ctrl % 2 ^ 32) 5 true)))

/-- A write of the ring's head register: the host releases records. -/
def State.recRingHead (s : State) (r : RecRingId) (v : Nat) : State :=
  let (P, ring, _) := recRingOf r
  if s.blockOpen P then s.wf ring.head v else s

def execRecordRingHeadWrite (ring : RecRingId) (v : Nat) (s : State) : Host.Outcome State Fault Refusal :=
  .next (s.onTm (fun s => s.recRingHead ring v))

end Sys2Proof.Machine
end

