-- ==== Sys2Proof/Machine/Sched.lean ====
section
/-! DEFINITION. Scheduling, shaping and policing (R315 to R329): profiles, shapers and the calendar, work and selection, the
policers and the express bucket, and the indirect registers of TM.SCHED, TM.SHAPE and TM.POLICE. -/

namespace Sys2Proof.Machine

/-! ### Profiles (R320, R323, R327) -/

/-- A class profile at CHIP reset: class c has PRIO c and WEIGHT 1 (half c of 16 bits: WEIGHT below PRIO at bit 12). -/
def clsProfReset : Nat := sumN ((List.range 7).map (fun c => (1 + c * 2 ^ 12) * 2 ^ (16 * c)))
/-- A shaper profile at CHIP reset: RATE 0, BURST 16,384, LEN_ADJ +20. -/
def shProfReset : Nat := (16384 + 20 * 2 ^ 24) * 2 ^ 32

def State.clsProf (s : State) (i : Nat) : Nat := SMap.get clsProfReset s.sc.clsProf i
def State.shProf (s : State) (i : Nat) : Nat := SMap.get shProfReset s.sc.shProf i
def State.pProf (s : State) (i : Nat) : Nat := SMap.get 0 s.sc.pProf i

/-- RATE in force in kbit/s; 0 is unshaped (R323). -/
def shRate (v : Nat) : Nat := let r := bits v 0 32; if r = 0 then 0 else min (max r 8) 1600000000
def shBurst (v : Nat) : Nat := bits v 32 24
/-- LEN_ADJ, signed. -/
def shAdj (v : Nat) : Int := toSigned 7 (bits v 56 7)

/-- Length with a signed adjustment, at least 1. -/
def adjLen (len : Nat) (adj : Int) : Nat := (max ((len : Int) + adj) 1).toNat

/-! ### Shapers (R322) -/

/-- The node's shaper profile. -/
def State.nodeShProf (s : State) (k : Nat) : Nat := s.shProf (s.node k).shprof

/-- The node is shaped: a port node always, another one with SHAPE_EN (R322). -/
def State.shaped (s : State) (k : Nat) : Bool := decide (k / 65536 = 0) || (s.node k).shapeEn

/-- A full shaper: credit of BURST (R322, R323). -/
def fullShaper (prof now : Nat) : Shaper := ⟨(shBurst prof * 65536 : Nat), 0, now, prof⟩

/-- A shaper brought up to cycle `now` under the profile in force: RATE kbit/s is RATE * 16 / 3,125 units of 2^-16 byte a cycle, capped at
BURST. -/
def Shaper.upTo (sh : Shaper) (now : Nat) : Shaper :=
  let t := sh.rem + (now - sh.cyc) * shRate sh.prof * 16
  let c := sh.credit + (t / 3125 : Nat)
  let cap : Int := (shBurst sh.prof * 65536 : Nat)
  if cap ≤ c then ⟨cap, 0, now, sh.prof⟩ else ⟨c, t % 3125, now, sh.prof⟩

/-- A profile comes into force for a shaper: a credit above its BURST is cut to it (R323). -/
def Shaper.adopt (sh : Shaper) (prof : Nat) : Shaper := { sh with prof := prof, credit := min sh.credit (shBurst prof * 65536 : Nat) }

/-- The shaper of a node now; one never charged is full. -/
def State.shaper (s : State) (k : Nat) : Shaper :=
  match SMap.get none s.sc.shapers k with
  | some sh => sh.upTo s.cycle
  | none => fullShaper (s.nodeShProf k) s.cycle

/-- The node's shaper waits in the calendar. -/
def State.inCalendar (s : State) (k : Nat) : Bool := s.sc.cal.any (fun e => decide (e.node = k))

/-- The node's shaper is open (R322, R324). -/
def State.shaperOpen (s : State) (k : Nat) : Bool := !s.shaped k || !s.inCalendar k

/-- The shaper of a node at a credit update (R323, R324): its present profile is in force from now on, but for one that waits in the
calendar, which keeps the old one until its release. -/
def State.shaperNow (s : State) (k : Nat) : Shaper :=
  if s.inCalendar k then s.shaper k else (s.shaper k).adopt (s.nodeShProf k)

/-- A 10 ns slot in units of device time. -/
def slot32 : Nat := 10 * 2 ^ 32

/-- The slot of device time now. -/
def State.calNow (s : State) : Nat := s.time / slot32

/-- A shaper whose credit lies below 0 enters the calendar at its eligible time (R324). -/
def State.calEnter (s : State) (k : Nat) : State :=
  let sh := s.shaperNow k
  let s := s.setShaper k (some sh)
  let rate := shRate sh.prof
  if 0 ≤ sh.credit || rate = 0 then s
  else
    let need := (-sh.credit).toNat * 3125 - sh.rem
    let dt := ceilDiv (need * 5 * 2 ^ 29) (rate * 16)
    let slot := ceilDiv (s.time + dt) slot32
    s.setCal (s.sc.cal ++ [⟨slot, k, decide (s.calNow + 65536 ≤ slot)⟩])

/-- A packet of `len` bytes is selected through node `k` (R322). -/
def State.shCharge (s : State) (k len : Nat) : State :=
  let sh := s.shaperNow k
  if !s.shaped k then s
  else if shRate sh.prof = 0 then
    if (SMap.get none s.sc.shapers k).isSome then s.setShaper k (some sh) else s
  else
    let s := s.setShaper k (some { sh with credit := sh.credit - (adjLen len (shAdj sh.prof) * 65536 : Nat) })
    if s.inCalendar k then s else s.calEnter k

/-! ### The calendar (R324) -/

/-- CALENDAR_FINE_SLOT: the earliest fine slot that holds shapers is reached; up to 1,024 reopen, the rest go to the next
slot in order and count in CAL_LATE. -/
def State.calFine (s : State) : State :=
  let fine := s.sc.cal.filter (fun e => !e.coarse)
  match fine.head? with
  | none => s
  | some e0 =>
    let slot := fine.foldl (fun m e => min m e.slot) e0.slot
    let s := s.advanceTo (s.cycleOfTime (slot * slot32))
    let due := s.sc.cal.filter (fun e => !e.coarse && decide (e.slot = slot))
    let go := due.take 1024
    let late := (due.drop 1024).map (fun e => { e with slot := slot + 1 })
    let rest := s.sc.cal.filter (fun e => e.coarse || decide (e.slot ≠ slot))
    let s := s.setCal (late ++ rest)
    let s : State := go.foldl (fun s e => s.calEnter e.node) s
    if late.isEmpty then s
    else (s.sat TM_SHAPE.CAL_LATE.COUNT 0 0 late.length).raiseO Ev.TM_SHAPE.CAL_LATE 0 (some 0) none (some late.length)

def execCalendarFineSlot (s : State) : Host.Outcome State Fault Refusal := .next (s.onTm (fun s => s.calFine))

/-- CALENDAR_COARSE_SLOT: the earliest coarse slot that holds shapers begins; they move into the fine wheel. -/
def State.calCoarse (s : State) : State :=
  let cs := s.sc.cal.filter (fun e => e.coarse)
  match cs.head? with
  | none => s
  | some e0 =>
    let c := cs.foldl (fun m e => min m (e.slot / 65536)) (e0.slot / 65536)
    let s := s.advanceTo (s.cycleOfTime (c * 65536 * slot32))
    let mv := s.sc.cal.filter (fun e => e.coarse && decide (e.slot / 65536 = c))
    let rest := s.sc.cal.filter (fun e => !(e.coarse && decide (e.slot / 65536 = c)))
    s.setCal (rest ++ mv.map (fun e => { e with coarse := false }))

def execCalendarCoarseSlot (s : State) : Host.Outcome State Fault Refusal := .next (s.onTm (fun s => s.calCoarse))

/-- Shapers that may stand at a level of the active calendar geometry (R325). -/
def State.calLimit (s : State) (level : Nat) : Nat :=
  if level = 1 then s.rf TM_SHAPE.CAL_INFO0.N1 else if level = 2 then s.rf TM_SHAPE.CAL_INFO0.N2
  else if level = 3 then s.rf TM_SHAPE.CAL_INFO1.N3 else 65536

/-- A flip brings new geometry (R325): nodes no longer below their level's count lose SHAPE_EN and their shapers. -/
def State.newCalendar (s : State) (n1 n2 n3 : Nat) : State :=
  let s := ((s.wf TM_SHAPE.CAL_INFO0.N1 n1).wf TM_SHAPE.CAL_INFO0.N2 n2).wf TM_SHAPE.CAL_INFO1.N3 n3
  let gone := fun (k : Nat) => decide (k / 65536 ≠ 0) && decide (s.calLimit (k / 65536) ≤ k % 65536)
  let ks := (s.sc.nodes.map (·.1)).filter gone
  let s : State := ks.foldl (fun s k => (s.setNode k { s.node k with shapeEn := false }).setShaper k none) s
  s.setCal (s.sc.cal.filter (fun e => !gone e.node))

/-! ### Work (R318) -/

/-- The head packet of a queue. -/
def State.queueHead (s : State) (q : Nat) : Option Pkt := s.headAt (.queue q)

/-- Destination port group of a VOQ packet's cells (R301). -/
def Pkt.destPg (p : Pkt) : Nat := if p.outPort < 256 then p.outPort / 8 else p.flowHash % 32

/-- Sequence space of a class: 1 for class 7 (R251). -/
def spaceOf (cls : Nat) : Nat := if cls = 7 then 1 else 0

/-- The bit of R263 for a device and port group: it is set while its timer runs. -/
def State.xoffBit (s : State) (dev pg : Nat) : Bool := s.armed .fcTimeout (dev * 32 + pg)

/-- Express service is on (R318). -/
def State.expOn (s : State) : Bool := s.rfb TM_SCHED.EXP_CTRL.ENABLE

/-- The EXPRESS or NORMAL work a queue offers under PRIO and WEIGHT of its class (R318 to R320). -/
def State.classPrio (s : State) (q : Nat) : Nat × Nat :=
  let c := q % 8
  if c = 7 then (7, 1)
  else
    let h := bits (s.clsProf (s.node (nodeKey 3 (q / 8))).clsProf) (16 * c) 16
    (bits h 12 3, orWhenZero (bits h 0 10) 1)

/-- PRIO and WEIGHT of a child among its siblings. -/
def State.childPrio (s : State) (k : Nat) : Nat × Nat :=
  if 4 ≤ k / 65536 then s.classPrio (k - 4 * 65536) else ((s.node k).prio, orWhenZero (s.node k).weight 1)

/-- What the tree offers: the nodes with EXPRESS work and those with NORMAL work, by level (0 port to 4 class queue). -/
structure Work where
  exp : List (List Nat)
  norm : List (List Nat)

/-- The nodes with work that the work of the level below gives: parents, rising, without repeats. -/
def State.parentsOf (s : State) (ks : List Nat) : List Nat := sortN (ks.map s.nodeParent).dedup

/-- The work of a set of servable queues. -/
def State.workOf (s : State) (qs : List Nat) : Work :=
  let key := fun q => 4 * 65536 + q
  let e4 := (qs.filter (fun q => decide (q % 8 = 7) && s.expOn)).map key
  let n4 := (qs.filter (fun q => !(decide (q % 8 = 7) && s.expOn))).map key
  let up := fun (ks : List Nat) => (s.parentsOf ks).filter s.shaperOpen
  let e3 := s.parentsOf e4
  let e2 := s.parentsOf e3
  let e1 := s.parentsOf e2
  let n3 := up n4
  let n2 := up n3
  let n1 := up n2
  ⟨[s.parentsOf e1, e1, e2, e3, e4], [up n1, n1, n2, n3, n4]⟩

def Work.expAt (w : Work) (level : Nat) : List Nat := w.exp.getD level []
def Work.normAt (w : Work) (level : Nat) : List Nat := w.norm.getD level []

/-- Level of a node. -/
def levelOf (k : Nat) : Nat := min (k / 65536) 4

/-! ### Rounds (R319) -/

def State.round (s : State) (node prio : Nat) : List Nat := SMap.get [] s.sc.rounds (node * 8 + prio)
def State.setRound (s : State) (node prio : Nat) (l : List Nat) : State :=
  { s with sc := { s.sc with rounds := SMap.put [] s.sc.rounds (node * 8 + prio) l } }
def State.deficit (s : State) (k : Nat) : Int := SMap.get 0 s.sc.deficit k

/-- Children without work leave a round, a positive deficit becoming 0; children with new work join at its tail. -/
def State.syncRound (s : State) (node prio : Nat) (have_ : List Nat) : State :=
  let old := s.round node prio
  let gone := old.filter (fun k => !have_.contains k)
  let s : State := gone.foldl (fun s k => if 0 < s.deficit k then s.setDeficit k 0 else s) s
  s.setRound node prio (old.filter (fun k => have_.contains k) ++ have_.filter (fun k => !old.contains k))

/-- The port node above a node. -/
def State.rootOf (s : State) : Nat → Nat → Nat
  | 0, k => k
  | n + 1, k => if k / 65536 = 0 then k else State.rootOf s n (s.nodeParent k)

/-- The nodes of a queue's path from its class queue up to its L1 group. -/
def State.pathOf (s : State) (q : Nat) : List Nat :=
  let k4 := 4 * 65536 + q
  let k3 := s.nodeParent k4
  let k2 := s.nodeParent k3
  [k4, k3, k2, s.nodeParent k2]

/-- Every round below the port nodes that satisfy `mine` follows the work of the queues `qs`; new children join in the order of the
queues. -/
def State.followWork (s : State) (mine : Nat → Bool) (qs : List Nat) : State :=
  let w := s.workOf qs
  let kids := ((qs.flatMap s.pathOf).filter (fun k => (w.normAt (levelOf k)).contains k)).eraseDups.map
    (fun k => (s.nodeParent k * 8 + (s.childPrio k).1, k))
  let keys := (((s.sc.rounds.map (·.1)) ++ kids.map (·.1)).dedup).filter (fun r => mine (s.rootOf 4 (r / 8)))
  keys.foldl (fun (s : State) r =>
    s.syncRound (r / 8) (r % 8) ((kids.filter (fun e => decide (e.1 = r))).map (·.2))) s

/-- The work of a queue has ended since its rounds were last brought up to date. -/
def State.workEnded (s : State) (q : Nat) : Bool :=
  let c := s.chan (q / 8)
  s.sc.ended.any (fun e => match e with
    | .queue x => decide (x = q)
    | .egr p k => c.egress && decide (c.outPort = p) && decide (q % 8 = k)
    | .voq d g => decide (q % 8 ≠ 7) && ((s.queueHead q).map (fun p => !p.egr && decide (p.dest = d) && decide (p.destPg = g))).getD false)

/-- The port node whose rounds an end of work lies below. -/
def State.endRoot (s : State) : WorkEnd → Nat
  | .egr p _ => p
  | .voq _ _ => 257
  | .queue q => s.pathPort (q / 8)

/-- Every round below the port nodes that satisfy `mine` is brought up to date with the servable queues `qs` (R319): what has ended
leaves, then what has begun joins at the tail, queues that have filled in the order in which they did, others by index. (DEDUCED, log
entry 17.). (DEDUCED, log entry 17.) -/
def State.syncRounds (s : State) (mine : Nat → Bool) (qs : List Nat) : State :=
  let first := (s.sc.ended.filterMap (fun e => match e with | .queue q => some q | _ => none)).filter (fun q => qs.contains q)
  let order := first ++ qs.filter (fun q => !first.contains q)
  let s := (s.followWork mine (qs.filter (fun q => !s.workEnded q))).followWork mine order
  { s with sc := { s.sc with ended := s.sc.ended.filter (fun e => !mine (s.endRoot e)) } }

/-! ### Selection (R319) -/

/-- The entry after `last` in index order, wrapping. -/
def nextAfter (l : List Nat) (last : Nat) : Option Nat :=
  match l.find? (fun k => decide (last < k)) with
  | some k => some k
  | none => l.head?

/-- The deficit round robin of R319 among the children `ps` of a node at one PRIO; the fuel bounds the turns. -/
def State.dwrr : Nat → State → Nat → Nat → List Nat → Option Nat × State
  | 0, s, _, _, _ => (none, s)
  | n + 1, s, node, prio, ps =>
    match (s.round node prio).find? (fun k => ps.contains k) with
    | none => (none, s)
    | some k =>
      if 0 < s.deficit k then (some k, s)
      else
        let q := orWhenZero (s.rf TM_SCHED.QUANTUM.BYTES) 64
        let s := s.setDeficit k (s.deficit k + ((s.childPrio k).2 * q : Nat))
        let s := s.setRound node prio ((s.round node prio).filter (fun x => decide (x ≠ k)) ++ [k])
        State.dwrr n s node prio ps

/-- The selection of R319 from a node down to a class queue: the queue, whether as EXPRESS work, and the children chosen. The
fuel is the number of levels below. -/
def State.selectFrom (w : Work) (expAllowed : Bool) : Nat → State → Nat → List Nat → Option (Nat × Bool × List Nat) × State
  | 0, s, _, _ => (none, s)
  | n + 1, s, node, path =>
    let l := levelOf node + 1
    let xs := if expAllowed then (w.expAt l).filter (fun k => decide (s.nodeParent k = node)) else []
    let fin := fun (s : State) (k : Nat) (e : Bool) =>
      if l = 4 then (some (k - 4 * 65536, e, k :: path), s) else State.selectFrom w e n s k (k :: path)
    match nextAfter xs (SMap.get 0 s.sc.xlast node) with
    | some k => fin { s with sc := { s.sc with xlast := SMap.put 0 s.sc.xlast node k } } k true
    | none =>
      let ns := (w.normAt l).filter (fun k => decide (s.nodeParent k = node))
      match ((List.range 8).reverse).find? (fun p => ns.any (fun k => decide ((s.childPrio k).1 = p))) with
      | none => (none, s)
      | some p =>
        let ps := ns.filter (fun k => decide ((s.childPrio k).1 = p))
        match State.dwrr (16100 * (ps.length + 1)) s node p ps with
        | (none, s) => (none, s)
        | (some k, s) => fin s k false

/-- Service of a packet through the nodes of a path (R319, R322): NORMAL service takes its LENGTH from the deficits, and
every node's shaper is charged. -/
def State.served (s : State) (port : Nat) (path : List Nat) (exp : Bool) (len : Nat) : State :=
  let s : State := if exp then s else path.foldl (fun s k => s.setDeficit k (s.deficit k - (len : Int))) s
  (nodeKey 0 port :: path.filter (fun k => decide (k / 65536 < 4))).foldl (fun s k => s.shCharge k len) s

/-! ### Policing (R326 to R329) -/

/-- A bucket filled for `n` cycles at `rate` kbit/s up to `cap` bytes, and what it gained above the capacity. -/
def Bucket.fill (b : Bucket) (rate n cap : Nat) : Bucket × Nat :=
  let t := b.rem + n * rate * 16
  let v := b.level + t / 3125
  if cap * 65536 < v then (⟨cap * 65536, t % 3125⟩, v - cap * 65536) else (⟨v, t % 3125⟩, 0)

/-- Fields of a policer profile (R327). -/
def ppCir (v : Nat) : Nat := bits v 0 32
def ppEir (v : Nat) : Nat := bits v 32 32
def ppCbs (v : Nat) : Nat := bits v 64 28
def ppEbs (v : Nat) : Nat := bits v 96 28
def ppMode (v : Nat) : Nat := bits v 128 2
def ppAware (v : Nat) : Bool := bit v 130
def ppRedDrop (v : Nat) : Bool := bit v 131
def ppAdj (v : Nat) : Int := toSigned 7 (bits v 132 7)

/-- A policer at CHIP reset: profile 0, whose buckets are full at 0 bytes (R327, R329). (DEDUCED, log entry 17.) -/
def Policer.reset : Policer := ⟨0, ⟨0, 0⟩, ⟨0, 0⟩, 0, 0, 0, 0, 0⟩

/-- The buckets brought up to a cycle under profile `v` (R328): for SRTCM the tokens above CBS go to Te. -/
def Policer.upTo (r : Policer) (v now : Nat) : Policer :=
  let n := now - r.cyc
  let (tc, above) := r.tc.fill (ppCir v) n (ppCbs v)
  let te := if ppMode v = 1 then (⟨min (ppEbs v * 65536) (r.te.level + above), r.te.rem⟩ : Bucket) else (r.te.fill (ppEir v) n (ppEbs v)).1
  { r with tc := tc, te := te, cyc := now }

/-- A profile comes into force for a policer: buckets above its capacities are cut to them (R329). -/
def Policer.adopt (r : Policer) (v : Nat) : Policer :=
  { r with tc := ⟨min r.tc.level (ppCbs v * 65536), r.tc.rem⟩, te := ⟨min r.te.level (ppEbs v * 65536), r.te.rem⟩, force := v }

/-- The policer as a packet meets it: filled under the profile in force so far, then under the profile as it is now.
(DEDUCED, log entry 17.) -/
def Policer.meet (r : Policer) (v now : Nat) : Policer := (r.upTo r.force now).adopt v

def Bucket.has (b : Bucket) (n : Nat) : Bool := decide (n * 65536 ≤ b.level)
def Bucket.take (b : Bucket) (n : Nat) : Bucket := { b with level := b.level - n * 65536 }

/-- The marking of R328: the colour (0 green, 1 yellow, 2 red) and the policer after it. PASS keeps the colour. -/
def police (v : Nat) (r : Policer) (colour len : Nat) : Nat × Policer :=
  let b := adjLen len (ppAdj v)
  let c := if ppAware v then colour else 0
  match ppMode v with
  | 0 => (colour, r)
  | 2 =>
    if c = 2 || !r.te.has b then (2, r)
    else if c = 1 || !r.tc.has b then (1, { r with te := r.te.take b })
    else (0, { r with te := r.te.take b, tc := r.tc.take b })
  | _ =>
    if c = 0 && r.tc.has b then (0, { r with tc := r.tc.take b })
    else if c ≠ 2 && r.te.has b then (1, { r with te := r.te.take b })
    else (2, r)

def State.policer (s : State) (i : Nat) : Policer := SMap.get Policer.reset s.sc.pols i
def State.setPolicer (s : State) (i : Nat) (r : Policer) : State := { s with sc := { s.sc with pols := SMap.put Policer.reset s.sc.pols i r } }

/-- Step 1 of R326: the packet with its new colour, and whether it goes on. (DEDUCED, log entry 17.) -/
def State.policeStep (s : State) (p : Pkt) : Bool × Pkt × State :=
  let i := p.policer
  let v := s.pProf (s.policer i).profile
  let (c, r) := police v ((s.policer i).meet v s.cycle) p.colour p.length
  let r := if c = 0 then { r with green := wrapAdd 32 r.green 1 }
    else if c = 1 then { r with yellow := wrapAdd 32 r.yellow 1 } else { r with red := wrapAdd 32 r.red 1 }
  let s := (s.setPolicer i r).inc1 (if c = 0 then TM_POLICE.GREEN_TOTAL.COUNT
    else if c = 1 then TM_POLICE.YELLOW_TOTAL.COUNT else TM_POLICE.RED_TOTAL.COUNT)
  let p := if ppMode v = 0 then p else p.mdSet 13 2 c
  if c = 2 && ppRedDrop v then (false, p, s.sat1 TM_POLICE.RED_DROP.COUNT) else (true, p, s)

/-- The express bucket brought up to the present cycle, at EXP_RATE up to EXP_BURST (R326). -/
def State.expressNow (s : State) : State :=
  let b := (s.sc.express.fill (s.rf TM_SCHED.EXP_RATE.KBPS) (s.cycle - s.sc.expressCyc) (s.rf TM_SCHED.EXP_BURST.BYTES)).1
  { s with sc := { s.sc with express := b, expressCyc := s.cycle } }

/-- Step 2 of R326: the express bucket; `src` is the ingress pipeline, or 0x1F for an inject. -/
def State.expressStep (s : State) (p : Pkt) (src : Nat) : Bool × State :=
  if p.cls ≠ 7 || !s.expOn then (true, s)
  else
    let s := s.expressNow
    let b := s.sc.express
    if b.has p.length then (true, { s with sc := { s.sc with express := b.take p.length } })
    else (false, (s.sat1 TM_SCHED.EXP_POLICED.COUNT).raise Ev.TM_SCHED.EXP_POLICED 0 0 src p.length)

/-! ### Nodes (R317, R339) -/

/-- NODE_SEL takes the value written; ERR is the outcome of this GO. -/
def State.nodeSel (s : State) (v : Nat) (err : Bool) : State :=
  (((s.wf TM_SCHED.NODE_SEL.LEVEL (bits v 0 2)).wf TM_SCHED.NODE_SEL.INDEX (bits v 2 16)).wf TM_SCHED.NODE_SEL.OP (bits v 18 1)).wf
    TM_SCHED.NODE_SEL.ERR (b2n err)

/-- The node that a LEVEL and INDEX name, if it exists (R315, R339). -/
def State.nodeAt (s : State) (level i : Nat) : Option Nat :=
  let ok := if level = 0 then decide (i < 258) else if level = 1 then decide (i < 4096)
    else if level = 2 then decide (i < 16384) else (s.chan i).used
  if ok then some (nodeKey level i) else none

/-- NODE_READ (R339). -/
def State.nodeRead (s : State) (v : Nat) : State :=
  if !s.blockOpen 4151 then s
  else
    match s.nodeAt (bits v 0 2) (bits v 2 16) with
    | none => s.nodeSel v true
    | some k =>
      let s := s.nodeSel v false
      let n := s.node k
      let level := bits v 0 2
      let parent := if level = 0 then 0 else if level = 3 then (s.chan (k % 65536)).parent else n.parent
      let s := ((s.wf TM_SCHED.NODE_DATA0.PARENT parent).wf TM_SCHED.NODE_DATA0.PRIO n.prio).wf TM_SCHED.NODE_DATA0.WEIGHT n.weight
      ((s.wf TM_SCHED.NODE_DATA1.SHPROF n.shprof).wf TM_SCHED.NODE_DATA1.SHAPE_EN (b2n (n.shapeEn || level = 0))).wf
        TM_SCHED.NODE_DATA1.CLS_PROF n.clsProf

def execNodeRead (sel : Nat) (s : State) : Host.Outcome State Fault Refusal :=
  .next (s.onTm (fun s => s.nodeRead (setBit (sel % 2 ^ 32) 18 false)))

/-- The channels that hold queued packets. -/
def State.busyChans (s : State) : List Nat :=
  ((s.pkts.filterMap (fun p => match p.loc with | .queue q => some (q / 8) | _ => none)).dedup)

/-- NODE_WRITE (R317, R322, R339): refused for a node that does not exist, a PARENT out of range, or SHAPE_EN beyond the
level's count. Queued channels whose path the change breaks raise SCHED_ORPHAN (R316). -/
def State.nodeWrite (s : State) (v : Nat) : State :=
  if !s.blockOpen 4151 then s
  else
    let level := bits v 0 2
    let parent := s.rf TM_SCHED.NODE_DATA0.PARENT
    let shape := s.rfb TM_SCHED.NODE_DATA1.SHAPE_EN
    match s.nodeAt level (bits v 2 16) with
    | none => s.nodeSel v true
    | some k =>
      let badParent := (decide (level = 1) && decide (257 < parent)) || (decide (level = 2) && decide (4095 < parent))
      if badParent || (shape && level ≠ 0 && decide (s.calLimit level ≤ k % 65536)) then s.nodeSel v true
      else
        let s := s.nodeSel v false
        let n := s.node k
        let n' : Node := ⟨if level = 1 || level = 2 then parent else n.parent, s.rf TM_SCHED.NODE_DATA0.PRIO,
          s.rf TM_SCHED.NODE_DATA0.WEIGHT, s.rf TM_SCHED.NODE_DATA1.SHPROF, shape && level ≠ 0,
          if level = 3 then s.rf TM_SCHED.NODE_DATA1.CLS_PROF else 0⟩
        let broken := (s.busyChans.filter s.pathOk)
        let sh := s.shaper k
        let s := s.setNode k n'
        let s := if n'.parent ≠ n.parent then s.unround k else s
        let s := if n'.shapeEn && !n.shapeEn then s.setShaper k none
          else if n.shapeEn && !n'.shapeEn then s.unshape k
          else if s.shaped k && n'.shprof ≠ n.shprof then
            -- the credit gained so far is the old profile's
            s.setShaper k (some (if s.inCalendar k then sh else sh.adopt (s.nodeShProf k))) else s
        broken.foldl (fun (s : State) x => s.orphanCheck x) s

def execNodeWrite (sel : Nat) (s : State) : Host.Outcome State Fault Refusal :=
  .next (s.onTm (fun s => s.nodeWrite (setBit (sel % 2 ^ 32) 18 true)))

/-- CLSPROF_READ (R339). -/
def State.clsprofRead (s : State) (v : Nat) : State :=
  if !s.blockOpen 4151 then s
  else
    let s := (s.wf TM_SCHED.CLSPROF_SEL.PROFILE (bits v 0 6)).wf TM_SCHED.CLSPROF_SEL.OP (bits v 6 1)
    (List.range 4).foldl (fun s k => s.wfi TM_SCHED.CLSPROF_DATA.DATA k (bits (s.clsProf (bits v 0 6)) (32 * k) 32)) s

def execClsprofRead (sel : Nat) (s : State) : Host.Outcome State Fault Refusal :=
  .next (s.onTm (fun s => s.clsprofRead (setBit (sel % 2 ^ 32) 6 false)))

/-- CLSPROF_WRITE (R320): WEIGHT and PRIO of classes 0 to 6. -/
def State.clsprofWrite (s : State) (v : Nat) : State :=
  if !s.blockOpen 4151 then s
  else
    let s := (s.wf TM_SCHED.CLSPROF_SEL.PROFILE (bits v 0 6)).wf TM_SCHED.CLSPROF_SEL.OP (bits v 6 1)
    let w := sumN ((List.range 4).map (fun k => s.rfi TM_SCHED.CLSPROF_DATA.DATA k * 2 ^ (32 * k)))
    let x := sumN ((List.range 7).map (fun c => (bits w (16 * c) 10 + bits w (16 * c + 12) 3 * 2 ^ 12) * 2 ^ (16 * c)))
    { s with sc := { s.sc with clsProf := SMap.put clsProfReset s.sc.clsProf (bits v 0 6) x } }

def execClsprofWrite (sel : Nat) (s : State) : Host.Outcome State Fault Refusal :=
  .next (s.onTm (fun s => s.clsprofWrite (setBit (sel % 2 ^ 32) 6 true)))

/-- SHPROF_READ (R340). -/
def State.shprofRead (s : State) (v : Nat) : State :=
  if !s.blockOpen 4152 then s
  else
    let s := (s.wf TM_SHAPE.SHPROF_SEL.PROFILE (bits v 0 12)).wf TM_SHAPE.SHPROF_SEL.OP (bits v 12 1)
    (List.range 2).foldl (fun s k => s.wfi TM_SHAPE.SHPROF_DATA.DATA k (bits (s.shProf (bits v 0 12)) (32 * k) 32)) s

def execShprofRead (sel : Nat) (s : State) : Host.Outcome State Fault Refusal :=
  .next (s.onTm (fun s => s.shprofRead (setBit (sel % 2 ^ 32) 12 false)))

/-- The shaped nodes that name a shaper profile and have never been charged. -/
def State.fullShapers (s : State) (i : Nat) : List Nat :=
  (List.range 258 ++ (s.sc.nodes.map (·.1)).filter (fun k => decide (258 ≤ k))).filter (fun k =>
    s.shaped k && decide ((s.node k).shprof = i) && (SMap.get none s.sc.shapers k).isNone)

/-- SHPROF_WRITE (R323): shapers that are full keep the credit of the old BURST, from which it rises at RATE. -/
def State.shprofWrite (s : State) (v : Nat) : State :=
  if !s.blockOpen 4152 then s
  else
    let i := bits v 0 12
    let s := (s.wf TM_SHAPE.SHPROF_SEL.PROFILE i).wf TM_SHAPE.SHPROF_SEL.OP (bits v 12 1)
    let x := s.rfi TM_SHAPE.SHPROF_DATA.DATA 0 + s.rfi TM_SHAPE.SHPROF_DATA.DATA 1 % 2 ^ 31 * 2 ^ 32
    let s : State := if shBurst (s.shProf i) < shBurst x then
        (s.fullShapers i).foldl (fun s k => s.setShaper k (some (s.shaper k))) s
      else s
    { s with sc := { s.sc with shProf := SMap.put shProfReset s.sc.shProf i x } }

def execShprofWrite (sel : Nat) (s : State) : Host.Outcome State Fault Refusal :=
  .next (s.onTm (fun s => s.shprofWrite (setBit (sel % 2 ^ 32) 12 true)))

/-- SHAPER_LOAD (R340): the node's credit in whole bytes and the time to its release in ns; ERR when it is not shaped. -/
def State.shaperLoad (s : State) (v : Nat) : State :=
  if !s.blockOpen 4152 then s
  else
    let s := (s.wf TM_SHAPE.SHAPER_SEL.LEVEL (bits v 0 2)).wf TM_SHAPE.SHAPER_SEL.INDEX (bits v 2 16)
    match s.nodeAt (bits v 0 2) (bits v 2 16) with
    | none => s.wf TM_SHAPE.SHAPER_SEL.ERR 1
    | some k =>
      if !s.shaped k then s.wf TM_SHAPE.SHAPER_SEL.ERR 1
      else
        let s := s.wf TM_SHAPE.SHAPER_SEL.ERR 0
        let next := match s.sc.cal.find? (fun e => decide (e.node = k)) with
          | some e => ceilDiv (e.slot * slot32 - s.time) (2 ^ 32)
          | none => 0
        (s.wf TM_SHAPE.SHAPER_CREDIT.BYTES (ofSigned 32 ((s.shaper k).credit / 65536))).wf TM_SHAPE.SHAPER_NEXT.NS next

def execShaperLoad (sel : Nat) (s : State) : Host.Outcome State Fault Refusal := .next (s.onTm (fun s => s.shaperLoad sel))

/-! ### Policer records (R329, R341) -/

/-- PPROF_READ (R341). -/
def State.pprofRead (s : State) (v : Nat) : State :=
  if !s.blockOpen 4153 then s
  else
    let s := (s.wf TM_POLICE.PPROF_SEL.PROFILE (bits v 0 12)).wf TM_POLICE.PPROF_SEL.OP (bits v 12 1)
    (List.range 5).foldl (fun s k => s.wfi TM_POLICE.PPROF_DATA.DATA k (bits (s.pProf (bits v 0 12)) (32 * k) 32)) s

def execPprofRead (sel : Nat) (s : State) : Host.Outcome State Fault Refusal :=
  .next (s.onTm (fun s => s.pprofRead (setBit (sel % 2 ^ 32) 12 false)))

/-- PPROF_WRITE (R327): it takes effect at the next packet of each policer that names the profile. -/
def State.pprofWrite (s : State) (v : Nat) : State :=
  if !s.blockOpen 4153 then s
  else
    let s := (s.wf TM_POLICE.PPROF_SEL.PROFILE (bits v 0 12)).wf TM_POLICE.PPROF_SEL.OP (bits v 12 1)
    let w := fun k => s.rfi TM_POLICE.PPROF_DATA.DATA k
    let x := w 0 + w 1 * 2 ^ 32 + w 2 % 2 ^ 28 * 2 ^ 64 + w 3 % 2 ^ 28 * 2 ^ 96 + w 4 % 2 ^ 11 * 2 ^ 128
    { s with sc := { s.sc with pProf := SMap.put 0 s.sc.pProf (bits v 0 12) x } }

def execPprofWrite (sel : Nat) (s : State) : Host.Outcome State Fault Refusal :=
  .next (s.onTm (fun s => s.pprofWrite (setBit (sel % 2 ^ 32) 12 true)))

/-- POL_SEL takes the value written. -/
def State.polSel (s : State) (v : Nat) : State :=
  ((s.wf TM_POLICE.POL_SEL.INDEX (bits v 0 18)).wf TM_POLICE.POL_SEL.OP (bits v 18 1)).wf TM_POLICE.POL_SEL.INIT (bits v 20 1)

/-- POLICER_READ (R329, R341): the buckets are shown as they stand at their latest update, in whole bytes. -/
def State.policerRead (s : State) (v : Nat) : State :=
  if !s.blockOpen 4153 then s
  else
    let s := s.polSel v
    let r := s.policer (bits v 0 18)
    let s := ((s.wf TM_POLICE.POL_DATA0.PROFILE r.profile).wf TM_POLICE.POL_DATA1.TC (r.tc.level / 65536)).wf
      TM_POLICE.POL_DATA2.TE (r.te.level / 65536)
    ((s.wf TM_POLICE.POL_DATA3.GREEN r.green).wf TM_POLICE.POL_DATA4.YELLOW r.yellow).wf TM_POLICE.POL_DATA5.RED r.red

def execPolicerRead (sel : Nat) (s : State) : Host.Outcome State Fault Refusal :=
  .next (s.onTm (fun s => s.policerRead (setBit (sel % 2 ^ 32) 18 false)))

/-- POLICER_WRITE (R329). -/
def State.policerWrite (s : State) (v : Nat) : State :=
  if !s.blockOpen 4153 then s
  else
    let s := s.polSel v
    let prof := s.rf TM_POLICE.POL_DATA0.PROFILE
    let x := s.pProf prof
    let fillTo := fun (f : Fld) (cap : Nat) => (if bit v 20 then cap else min (s.rf f) cap) * 65536
    s.setPolicer (bits v 0 18) ⟨prof, ⟨fillTo TM_POLICE.POL_DATA1.TC (ppCbs x), 0⟩, ⟨fillTo TM_POLICE.POL_DATA2.TE (ppEbs x), 0⟩,
      s.cycle, s.rf TM_POLICE.POL_DATA3.GREEN, s.rf TM_POLICE.POL_DATA4.YELLOW, s.rf TM_POLICE.POL_DATA5.RED, x⟩

def execPolicerWrite (sel : Nat) (s : State) : Host.Outcome State Fault Refusal :=
  .next (s.onTm (fun s => s.policerWrite (setBit (sel % 2 ^ 32) 18 true)))

/-! ### The depth sampler (R335) -/

/-- The queue exists: its channel is in use with its class bit set (R294). -/
def State.queueExists (s : State) (q : Nat) : Bool := (s.chan (q / 8)).used && bit (s.chan (q / 8)).mask (q % 8)

/-- The next queue the walk takes, from `q` on, wrapping. -/
def State.nextDepthQueue (s : State) (q : Nat) : Option Nat :=
  let skip := s.rfb TM_SAMPLE.DEPTH_INTERVAL.NONEMPTY
  let qs := (s.chans.flatMap (fun e => (List.range 8).map (fun c => queueOf e.1 c))).filter (fun x =>
    s.queueExists x && !(skip && (s.at_ (.queue x)).isEmpty))
  match qs.find? (fun x => decide (q ≤ x)) with
  | some x => some x
  | none => qs.head?

/-- The sampler waits DEPTH_INTERVAL before the queue it takes next; DEPTH_INTERVAL 0 stops the walk. -/
def State.depthArm (s : State) : State :=
  let n := s.rf TM_SAMPLE.DEPTH_INTERVAL.NS
  if n = 0 then s.disarm .depth 0 else s.arm .depth 0 (cyNs n)

/-- The sampler takes the next queue and makes a DEPTH record. -/
def State.depthTake (s : State) : State :=
  match s.nextDepthQueue (s.rf TM_SAMPLE.DEPTH_POS.QUEUE) with
  | none => s
  | some q =>
    let ps := s.at_ (.queue q)
    let s := s.wf TM_SAMPLE.DEPTH_POS.QUEUE ((q + 1) % 524288)
    s.sampleRecord (sampleWord 0 (s.chan (q / 8)).egress (decide (ddrUnits ps ≠ 0)) q 0 (sumN (ps.map Pkt.length)) ps.length
      (ddrUnits ps) s.time80)

/-- DEPTH_SAMPLE (R335): DEPTH_INTERVAL has passed since the sampler took a queue. -/
def State.depthSample (s : State) : State :=
  match s.expire .depth 0 with
  | none => s
  | some s => if s.operating 4156 then s.depthTake.depthArm else s.depthArm

def execDepthSample (s : State) : Host.Outcome State Fault Refusal := .next (s.onTm (fun s => s.depthSample))

end Sys2Proof.Machine
end

