-- ==== Sys2Proof/Machine/Flink.lean ====
section
/-! DEFINITION. The Fustan fabric link (R241 to R268): codeword lock and alignment, overheads, trace, defects and link state,
reachability, flow control, and the registers of TM.FLINK. -/

namespace Sys2Proof.Machine

/-! ### Registers by link -/

/-- A field of fabric link `n` (R266). -/
def State.fl (s : State) (f : Fld) (n : Nat) : Nat := s.rfp f (n / 32) (n % 32)
def State.flb (s : State) (f : Fld) (n : Nat) : Bool := decide (s.fl f n = 1)
def State.setFl (s : State) (f : Fld) (n v : Nat) : State := s.wfp f (n / 32) (n % 32) v
def State.flInc (s : State) (f : Fld) (n k : Nat) : State := s.inc f (n / 32) (n % 32) k
def State.flSat (s : State) (f : Fld) (n k : Nat) : State := s.sat f (n / 32) (n % 32) k
/-- An event of a link's page with the link number as DETAIL0 (R268). -/
def State.flRaise (s : State) (e : Evt) (n : Nat) (cause d1 : Option Nat) : State := s.raiseO e (n / 32) cause (some n) d1

/-- A link before its first ENABLE. -/
def FLink.zero : FLink := ⟨0, 0, 0, 0, 0, none, 0, 0, 0, false, 0, [], none, none, [], [], [], []⟩
def State.link (s : State) (n : Nat) : FLink := SMap.get FLink.zero s.links n
def State.updLink (s : State) (n : Nat) (f : FLink → FLink) : State := { s with links := SMap.upd FLink.zero s.links n f }

/-- The page of a link's framing, and the page of its lane (R241). -/
def flPage (n : Nat) : Nat := 4136 + n / 32
def sdfPage (n : Nat) : Nat := 4112 + n / 16

def lsInService : Nat := 0
def lsWithdrawn : Nat := 1
def lsWait : Nat := 2
def lsForcedOut : Nat := 3
def alHunt : Nat := 0
def alPresync : Nat := 1
def alCheck : Nat := 2
def alInFrame : Nat := 3

/-- The link's ENABLE is 1 and its pages run. -/
def State.flEnabled (s : State) (n : Nat) : Bool :=
  decide (n < 320) && s.flb TM_FLINK.LINK_CFG.ENABLE n && s.operating (flPage n) && !s.fenced (sdfPage n)

/-- The link's transmit side sends frames: its lane is enabled, whatever state its receive side is in (R243), a fence of its framing
page included, which only withdraws the link (R382). -/
def State.flTx (s : State) (n : Nat) : Bool :=
  decide (n < 320) && s.flb TM_FLINK.LINK_CFG.ENABLE n && (s.hdr (flPage n)).enable && !s.inReset (flPage n)

/-- What the link sends does not reach the lane: the lane is fenced or squelched, or sends a PRBS in place of the FEC output (R238,
R265, R382). -/
def State.flMuted (s : State) (n : Nat) : Bool :=
  s.fenced (sdfPage n) || decide (s.rfp TM_SDF.LANE_CFG.TX_DISABLE (n / 16) (n % 16) = 1) ||
    decide (s.rfp TM_SDF.LANE_CFG.PRBS_GEN (n / 16) (n % 16) ≠ 0)

/-- The lane loops what it transmits to its receiver (R238). -/
def State.flLooped (s : State) (n : Nat) : Bool := decide (s.rfp TM_SDF.LANE_CFG.NEAR_LOOPBACK (n / 16) (n % 16) = 1)

/-- A piece of a frame is put on the lane. -/
def State.flOut (s : State) (n : Nat) (o : Out) : State := if s.flMuted n then s else s.emit o

/-- The link is IN_SERVICE (R259). -/
def State.inService (s : State) (n : Nat) : Bool := decide (n < 320) && decide (s.fl TM_FLINK.LINK_STATUS.STATE n = lsInService)

/-! ### Link state (R257 to R260) -/

/-- The active defect whose REACT bit is 1, by its WITHDRAW cause (R257, R268). -/
def State.reacting (s : State) (n : Nat) : Option Nat :=
  let r := s.fl TM_FLINK.LINK_CFG.REACT n
  let on := fun (f : Fld) (b : Nat) => s.flb f n && bit r b
  if on TM_FLINK.LINK_STATUS.LOF 0 then some 1 else if on TM_FLINK.LINK_STATUS.LOM 1 then some 2
  else if on TM_FLINK.LINK_STATUS.TIM 2 then some 3 else if on TM_FLINK.LINK_STATUS.DEG 3 then some 4
  else if on TM_FLINK.LINK_STATUS.RDI_RX 4 then some 5 else if on TM_FLINK.LINK_STATUS.MODE_MISMATCH 2 then some 6 else none

/-- A link in IN_SERVICE is withdrawn with a cause. -/
def State.linkWithdraw (s : State) (n : Nat) (cause : Option Nat) : State :=
  let was := s.expOver
  ((s.linkOut n).flRaise Ev.TM_FLINK.WITHDRAW n cause (some 0)).capCheck was

/-- WAIT begins: FAB_WTR runs. -/
def State.linkWait (s : State) (n : Nat) : State :=
  (s.setFl TM_FLINK.LINK_STATUS.STATE n lsWait).arm .flinkWtr n
    (orWhenZero (s.rfp TM_FLINK.WTR.FAB_WTR (n / 32) 0) 1 * cyMs)

/-- The link enters IN_SERVICE; LINKS_UP of its page counts it (R266). -/
def State.linkIn (s : State) (n : Nat) : State :=
  let s := (s.setFl TM_FLINK.LINK_STATUS.STATE n lsInService).updLink n (fun l => { l with seenUp := true })
  s.inc TM_FLINK.LINKS_UP.COUNT (n / 32) 0 1

/-- The transitions of R259 that the link's present defects and FORCE_OUT call for. -/
def State.linkEval (s : State) (n : Nat) : State :=
  if !s.flEnabled n then s
  else
    let st := s.fl TM_FLINK.LINK_STATUS.STATE n
    if s.flb TM_FLINK.LINK_CFG.FORCE_OUT n || s.admitStopped then
      let s := if st = lsInService then s.linkWithdraw n (some 7) else s
      (s.setFl TM_FLINK.LINK_STATUS.STATE n lsForcedOut).disarm .flinkWtr n
    else
      match st, s.reacting n with
      | 0, some c => s.linkWithdraw n (some c)
      | 0, none => s
      | 1, none =>
        if (s.link n).seenUp then s.linkWait n
        else s.linkIn n
      | 1, some _ => s
      | 2, some _ => (s.setFl TM_FLINK.LINK_STATUS.STATE n lsWithdrawn).disarm .flinkWtr n
      | 2, none => s
      | _, none => s.linkWait n
      | _, some _ => s.setFl TM_FLINK.LINK_STATUS.STATE n lsWithdrawn

/-- FLINK_WTR_EXPIRE (R259). -/
def State.flinkWtr (s : State) (n : Nat) : State :=
  match s.expire .flinkWtr n with
  | none => s
  | some s =>
    (s.linkIn n).flRaise Ev.TM_FLINK.REJOIN n none (some 0)

def execFlinkWtrExpire (link : Nat) (s : State) : Host.Outcome State Fault Refusal :=
  .next (s.onTm (fun s => s.flinkWtr link))

/-! ### Alignment (R242, R253) -/

/-- A new HUNT from `start`: LOF is 1, and LOM once IN_FRAME is left (R253, R254). -/
def State.hunt (s : State) (n start : Nat) : State :=
  let was := decide (s.fl TM_FLINK.LINK_STATUS.ALIGN n = alInFrame)
  let s := ((s.setFl TM_FLINK.LINK_STATUS.ALIGN n alHunt).setFl TM_FLINK.LINK_STATUS.LOF n 1).updLink n
    (fun l => { l with start := start % 64000, steps := 0, faws := 0, lastMfi := none, cur := [], prev := none })
  if was then s.setFl TM_FLINK.LINK_STATUS.LOM n 1 else s

/-- CODEWORD_LOCK (R242): the receiver has found codeword boundaries. -/
def State.codewordLock (s : State) (n : Nat) : State :=
  if !s.flEnabled n then s
  else
    let s := (s.setFl TM_FLINK.LINK_STATUS.LOS n 0).setFl TM_FLINK.LINK_STATUS.CW_LOCK n 1
    let (eye, s) := s.freeVal
    ((s.wfp TM_SDF.LANE_STATUS.EYE_MARGIN (n / 16) (n % 16) eye).disarm .flinkTrain n).linkEval n

def execCodewordLock (link : Nat) (s : State) : Host.Outcome State Fault Refusal :=
  .next (s.onTm (fun s => s.codewordLock link))

/-- FLINK_LOS (R242, R253): the signal is lost, or codeword lock only. -/
def State.flinkLos (s : State) (n : Nat) (signal : Bool) : State :=
  if !s.flEnabled n then s
  else
    let was := decide (s.fl TM_FLINK.LINK_STATUS.ALIGN n = alInFrame)
    let s := (if signal then s.setFl TM_FLINK.LINK_STATUS.LOS n 1 else s).setFl TM_FLINK.LINK_STATUS.CW_LOCK n 0
    let s := s.hunt n 0
    let s := if was then s.flRaise Ev.TM_FLINK.LOF n (some (if signal then 1 else 2)) (some 0) else s
    s.linkEval n

def execFlinkLos (link : Nat) (signal : Bool) (s : State) : Host.Outcome State Fault Refusal :=
  .next (s.onTm (fun s => s.flinkLos link signal))

/-- The phase of `ps` that a scan forward from `start` meets first, wrapping past 63,999 (R253). -/
def firstPhase (start : Nat) : List Nat → Option Nat
  | [] => none
  | p :: ps =>
    match firstPhase start ps with
    | none => some p
    | some q => some (if (p + 64000 - start) % 64000 ≤ (q + 64000 - start) % 64000 then p else q)

/-- FAW_CHECK (R253): the bits at a phase differ from the FAW in `diff` places. In HUNT, `exact` are the other phases of the frame at
which an exact FAW stands; the scan goes forward from START. -/
def State.fawCheck (s : State) (n phase diff : Nat) (exact : List Nat) : State :=
  if !s.flEnabled n || !s.flb TM_FLINK.LINK_STATUS.CW_LOCK n || 64000 ≤ phase then s
  else
    let l := s.link n
    match s.fl TM_FLINK.LINK_STATUS.ALIGN n with
    | 0 =>
      match firstPhase l.start ((if diff = 0 then [phase] else []) ++ exact.filter (fun q => decide (q < 64000))) with
      | none => s
      | some q => (s.setFl TM_FLINK.LINK_STATUS.ALIGN n alPresync).updLink n (fun l => { l with cand := q, steps := 0 })
    | 1 =>
      if phase ≠ l.cand then s
      else if 3 < diff then s.hunt n (l.cand + 1)
      else if l.steps = 2 then
        (s.setFl TM_FLINK.LINK_STATUS.ALIGN n alCheck).updLink n (fun l => { l with steps := 0, lastMfi := none, cur := [], prev := none })
      else s.updLink n (fun l => { l with steps := l.steps + 1 })
    | 3 =>
      if phase ≠ l.cand then s
      else if diff ≤ 3 then s.updLink n (fun l => { l with faws := 0 })
      else if l.faws = 3 then
        ((s.hunt n l.cand).flRaise Ev.TM_FLINK.LOF n (some 3) (some 0)).linkEval n
      else s.updLink n (fun l => { l with faws := l.faws + 1 })
    | _ => s

def execFawCheck (link phase diff : Nat) (s : State) (exact : List Nat := []) : Host.Outcome State Fault Refusal :=
  .next (s.onTm (fun s => s.fawCheck link phase diff exact))

/-! ### The scrambler (R248) -/

/-- One step of the 23-bit LFSR with taps 23 and 18. (DEDUCED, log entry 18.) -/
def scrStep (v : Nat) : Nat := (v * 2 + b2n (bit v 22 != bit v 17)) % 2 ^ 23

/-- Eight output bits, the first the most significant, and the LFSR behind them. -/
def scrByte (v : Nat) : Nat × Nat := (List.range 8).foldl (fun (a : Nat × Nat) _ => (a.1 * 2 + b2n (bit a.2 22), scrStep a.2)) (0, v)

/-- The LFSR at frame byte `off`, 8 or above. -/
def scrAt (off : Nat) : Nat :=
  let skip := fun (n v : Nat) => (List.range n).foldl (fun v _ => (scrByte v).2) v
  let k := off - 8
  skip (k % 256) ((List.range (k / 256)).foldl (fun v _ => skip 256 v) (2 ^ 23 - 1))

/-- Bytes of a frame from offset `off`, 8 or above, scrambled or descrambled. -/
def scramble (off : Nat) (bs : Bytes) : Bytes :=
  ((bs.foldl (fun (a : Bytes × Nat) b => let (k, v) := scrByte a.2; ((b ^^^ BitVec.ofNat 8 k) :: a.1, v))
    (([], scrAt off) : Bytes × Nat)).1).reverse

/-- The frame alignment word (R246). -/
def faw : Bytes := toBe 8 0x59E41DB3A6720F8C

/-! ### The trace identifier (R255, R256) -/

/-- The trace a link sends. -/
def State.txTrace (s : State) (n : Nat) : Bytes :=
  let l := s.link n
  let host := fun i => BitVec.ofNat 8 (SMap.get 0 l.txTrace i)
  let b := toBe 8 s.otp.deviceId ++ [BitVec.ofNat 8 1] ++ toBe 2 n ++ (List.range 19).map (fun k => host (11 + k)) ++ List.replicate 30 0
  b ++ toLe 4 (crc32 b)

/-- The bytes of a trace that LINK_CFG compares. -/
def State.traceBytes (s : State) (n : Nat) : List Nat :=
  (if s.flb TM_FLINK.LINK_CFG.TIM_DEV n then List.range 8 else []) ++
  (if s.flb TM_FLINK.LINK_CFG.TIM_LINK n then [9, 10] else []) ++
  (if s.flb TM_FLINK.LINK_CFG.TIM_PLANE n then [11] else []) ++
  (if s.flb TM_FLINK.LINK_CFG.TIM_OPER n then (List.range 18).map (12 + ·) else [])

/-- A trace is accepted and compared (R256). (DEDUCED, log entry 18.) -/
def State.traceAccept (s : State) (n : Nat) (t : Bytes) : State :=
  let l := s.link n
  let fresh := decide (l.accepted ≠ some t)
  let s := s.updLink n (fun l => { l with accepted := some t })
  if !s.flb TM_FLINK.LINK_CFG.TIM_EN n then s.setFl TM_FLINK.LINK_STATUS.TIM n 0
  else
    match (s.traceBytes n).find? (fun i => decide ((t.getD i 0).toNat ≠ SMap.get 0 l.expTrace i)) with
    | none => s.setFl TM_FLINK.LINK_STATUS.TIM n 0
    | some i =>
      let was := s.flb TM_FLINK.LINK_STATUS.TIM n
      let s := s.setFl TM_FLINK.LINK_STATUS.TIM n 1
      if fresh || !was then s.flRaise Ev.TM_FLINK.TIM n none (some i) else s

/-- The trace byte of a good overhead (R256). -/
def State.traceByte (s : State) (n mfi b : Nat) : State :=
  let l := s.link n
  let r := mfi / 64
  let i := mfi % 64
  let same := decide (l.rep = r) && decide (SMap.get 0 l.cur i = 0)
  let keep := same || (decide (l.cur.length = 64) && decide (r = (l.rep + 1) % 4))
  let cur := SMap.put 0 (if same then l.cur else []) i (b + 1)
  let prev := if keep then l.prev else none
  if cur.length = 64 then
    let t : Bytes := (List.range 64).map (fun k => BitVec.ofNat 8 (SMap.get 0 cur k - 1))
    let s := s.updLink n (fun l => { l with rep := r, cur := cur, prev := some t })
    if prev = some t && decide (t.drop 60 = toLe 4 (crc32 (t.take 60))) then s.traceAccept n t else s
  else s.updLink n (fun l => { l with rep := r, cur := cur, prev := prev })

/-! ### Overheads (R246, R247, R249, R254, R257, R261, R262) -/

/-- An overhead is good: CRC, MFI_INV and no marked bit. -/
def ohGood (b : Bytes) (marked : Bool) : Bool :=
  decide (b.length = 64) && decide (b.drop 60 = toLe 4 (crc32 (b.take 60))) &&
    decide ((b.getD 8 0).toNat + (b.getD 9 0).toNat = 255) && !marked

/-- The MFI of a good overhead meets multiframe alignment (R254). -/
def State.mfiCheck (s : State) (n mfi : Nat) : State :=
  let l := s.link n
  let next := (mfi + 1) % 256
  if s.flb TM_FLINK.LINK_STATUS.LOM n then
    let gained := decide (l.lastMfi = some ((mfi + 255) % 256))
    let s := s.updLink n (fun l => { l with lastMfi := some mfi, expect := next, incons := 0 })
    if gained then s.setFl TM_FLINK.LINK_STATUS.LOM n 0 else s
  else if mfi = l.expect then s.updLink n (fun l => { l with lastMfi := some mfi, expect := next, incons := 0 })
  else
    let s := s.updLink n (fun x => { x with lastMfi := some mfi, expect := next, incons := l.incons + 1 })
    if l.incons = 2 then (s.setFl TM_FLINK.LINK_STATUS.LOM n 1).flRaise Ev.TM_FLINK.LOM n none (some mfi) else s

/-- The STATUS byte of a good overhead (R257, R258). -/
def State.statusRx (s : State) (n b : Nat) : State :=
  let rdi := bit b 7
  let was := s.flb TM_FLINK.LINK_STATUS.RDI_RX n
  let s := s.setFl TM_FLINK.LINK_STATUS.RDI_RX n (b2n rdi)
  let s := if rdi && !was then s.flRaise Ev.TM_FLINK.RDI_RX n none (some 0) else s
  let mm := decide (b2n (bit b 5) ≠ s.rfp TM_FLINK.FAB_CTRL.BTB (n / 32) 0)
  let wasM := s.flb TM_FLINK.LINK_STATUS.MODE_MISMATCH n
  let s := s.setFl TM_FLINK.LINK_STATUS.MODE_MISMATCH n (b2n mm)
  if mm && !wasM then s.flRaise Ev.TM_FLINK.MODE_MISMATCH n none (some b) else s

/-- Destinations the link's vector holds. -/
def State.reachCount (s : State) (n : Nat) : Nat := sumN ((s.link n).reach.map (fun e => popCount 128 e.2))

/-- A reach block of a good overhead (R261). (DEDUCED, log entry 18.) -/
def State.reachRx (s : State) (n mfi v : Nat) : State :=
  let l := s.link n
  let k := mfi % 8
  let old := SMap.get 0 l.reach k
  let last := SMap.get 0 l.reachLast k
  let new := if last = 0 then old
    else
      let differ := (last - 1) ^^^ v
      (v &&& (2 ^ 128 - 1 - differ)) ||| (old &&& differ)
  let s := s.updLink n (fun l => { l with reach := SMap.put 0 l.reach k new, reachLast := SMap.put 0 l.reachLast k (v + 1) })
  if new = old then s else s.flRaise Ev.TM_FLINK.REACH_CHANGE n none (some (s.reachCount n))

/-- The link advertises a destination and is IN_SERVICE (R261). -/
def State.linkReaches (s : State) (n dev : Nat) : Bool := s.inService n && bit (SMap.get 0 (s.link n).reach (dev / 128)) (dev % 128)

/-- A flow-control entry (R262, R263). -/
def State.fcEntry (s : State) (v : Nat) : State :=
  if !bit v 31 then s
  else
    let i := bits v 0 10 * 32 + bits v 10 5
    if bit v 30 then (s.arm .fcTimeout i (s.rfp TM_FLINK.FC_CTRL.FC_TIMEOUT 0 0 * cyUs)).workEnds (.voq (bits v 0 10) (bits v 10 5))
    else s.disarm .fcTimeout i

/-- FC_TIMEOUT_EXPIRE (R263). -/
def State.fcExpire (s : State) (dev pg : Nat) : State :=
  match s.expire .fcTimeout (dev * 32 + pg) with
  | none => s
  | some s => s.sat1 TM_FLINK.FC_EXPIRED.COUNT

def execFcTimeoutExpire (dev pg : Nat) (s : State) : Host.Outcome State Fault Refusal :=
  .next (s.onTm (fun s => if pg < 32 then s.fcExpire dev pg else s))

/-- What a good overhead brings beyond alignment. -/
def State.ohUse (s : State) (n : Nat) (b : Bytes) : State :=
  let mfi := (b.getD 8 0).toNat
  let s := s.mfiCheck n mfi
  let s := s.traceByte n mfi (b.getD 10 0).toNat
  let s := s.statusRx n (b.getD 11 0).toNat
  let s := if s.flb TM_FLINK.LINK_STATUS.LOM n then s else s.reachRx n mfi (beNat ((b.drop 12).take 16))
  let s := s.linkEval n
  if s.inService n then
    (List.range 4).foldl (fun s e => s.fcEntry (beNat ((b.drop (28 + 4 * e)).take 4))) s
  else s

/-- OVERHEAD_RX (R247): the 64 bytes of a frame overhead as the lane brings them; `marked` that a bit of an uncorrectable
codeword lies in them. -/
def State.overheadRx (s : State) (n : Nat) (raw : Bytes) (marked : Bool) : State :=
  if !s.flEnabled n then s
  else
    let b := raw.take 8 ++ scramble 8 (raw.drop 8)
    let good := ohGood b marked
    let al := s.fl TM_FLINK.LINK_STATUS.ALIGN n
    if al = alCheck then
      if good then
        if (s.link n).steps = 0 then
          let mfi := (b.getD 8 0).toNat
          (s.updLink n (fun l => { l with steps := 1, lastMfi := some mfi })).traceByte n mfi (b.getD 10 0).toNat
        else
          let s := (s.setFl TM_FLINK.LINK_STATUS.ALIGN n alInFrame).setFl TM_FLINK.LINK_STATUS.LOF n 0
          (s.setFl TM_FLINK.LINK_STATUS.LOM n 1).ohUse n b
      else
        let p := (s.link n).cand
        let s := (s.flSat TM_FLINK.CNT.OH_CRC_ERR n 1).flSat TM_FLINK.CNT.FALSE_LOCK n 1
        (s.hunt n (p + 1)).flRaise Ev.TM_FLINK.FALSE_LOCK n none (some p)
    else if al = alInFrame then
      if good then s.ohUse n b
      else
        (s.flSat TM_FLINK.CNT.OH_CRC_ERR n 1).updLink n
          (fun l => { l with expect := (l.expect + 1) % 256, lastMfi := none, cur := [] })
    else s

/-- OVERHEAD_RX; a lane in NEAR_LOOPBACK hears itself alone (R238). -/
def execOverheadRx (link : Nat) (bytes : Bytes) (marked : Bool) (s : State) : Host.Outcome State Fault Refusal :=
  .next (s.onTm (fun s => if s.flLooped link then s else s.overheadRx link bytes marked))

/-! ### LINK_CFG (R259, R266) -/

/-- Training is awaited for 500 ms (R266). -/
def State.trainArm (s : State) (n : Nat) : State :=
  if s.flb TM_FLINK.LINK_CFG.LT_EN n then s.arm .flinkTrain n (500 * cyMs) else s.disarm .flinkTrain n

/-- LINK_CFG takes a value: ENABLE turning 1 starts the link afresh, ENABLE turning 0 withdraws it and powers its lane down. TIM is
1 with TIM_EN until the first accepted trace (R256); LT_EN changed before codeword lock starts training or ends it (R266). -/
def State.linkCfgSet (s : State) (n v : Nat) : State :=
  let was := s.flb TM_FLINK.LINK_CFG.ENABLE n
  let hadLt := s.flb TM_FLINK.LINK_CFG.LT_EN n
  let s := [(TM_FLINK.LINK_CFG.LT_EN, 1, 1), (TM_FLINK.LINK_CFG.TIM_EN, 2, 1), (TM_FLINK.LINK_CFG.TIM_DEV, 3, 1),
      (TM_FLINK.LINK_CFG.TIM_LINK, 4, 1), (TM_FLINK.LINK_CFG.TIM_PLANE, 5, 1), (TM_FLINK.LINK_CFG.TIM_OPER, 6, 1),
      (TM_FLINK.LINK_CFG.FORCE_OUT, 7, 1), (TM_FLINK.LINK_CFG.REACT, 8, 5)].foldl
    (fun (s : State) (f : Fld × Nat × Nat) => s.setFl f.1 n (bits v f.2.1 f.2.2)) s
  let s :=
    if !s.flb TM_FLINK.LINK_CFG.TIM_EN n then s.setFl TM_FLINK.LINK_STATUS.TIM n 0
    else if was && (s.link n).accepted.isNone then s.setFl TM_FLINK.LINK_STATUS.TIM n 1 else s
  if bit v 0 && !was then
    let s := (s.setFl TM_FLINK.LINK_CFG.ENABLE n 1).hunt n 0
    let s := ((s.setFl TM_FLINK.LINK_STATUS.STATE n lsWithdrawn).setFl TM_FLINK.LINK_STATUS.LOM n 1).setFl
      TM_FLINK.LINK_STATUS.TIM n (bits v 2 1)
    let s := (s.setFl TM_FLINK.LINK_STATUS.DEG n 0).updLink n
      (fun l => { l with seenUp := false, accepted := none, bad := 0, good := 0 })
    let s : State := { s with fab := { s.fab with away := if s.fab.away.contains n then s.fab.away else s.fab.away ++ [n] } }
    (s.trainArm n).linkEval n
  else if !bit v 0 && was then
    let s := if s.inService n then s.linkWithdraw n none else s
    let s := ((s.setFl TM_FLINK.LINK_CFG.ENABLE n 0).hunt n 0).setFl TM_FLINK.LINK_STATUS.STATE n lsWithdrawn
    let s := (s.setFl TM_FLINK.LINK_STATUS.CW_LOCK n 0).setFl TM_FLINK.LINK_STATUS.LOS n 1
    (s.disarm .flinkWtr n).disarm .flinkTrain n
  else
    let s := if was && hadLt != s.flb TM_FLINK.LINK_CFG.LT_EN n && !s.flb TM_FLINK.LINK_STATUS.CW_LOCK n then s.trainArm n else s
    s.linkEval n

/-- A write of LINK_CFG. (DEDUCED, log entry 18.) -/
def State.linkCfg (s : State) (n v : Nat) : State :=
  if 320 ≤ n || !s.blockOpen (flPage n) then s else s.linkCfgSet n v

/-- FLINK_ENABLE (R253, R259): a write of LINK_CFG with ENABLE = 1. -/
def execFlinkEnable (link cfg : Nat) (s : State) : Host.Outcome State Fault Refusal :=
  .next (s.onTm (fun s => s.linkCfg link (setBit (cfg % 2 ^ 32) 0 true)))
/-- FLINK_DISABLE (R260): a write of LINK_CFG with ENABLE = 0. -/
def execFlinkDisable (link cfg : Nat) (s : State) : Host.Outcome State Fault Refusal :=
  .next (s.onTm (fun s => s.linkCfg link (setBit (cfg % 2 ^ 32) 0 false)))

/-- LINK_CFG of a link as it stands. -/
def State.linkCfgWord (s : State) (n : Nat) : Nat :=
  s.fl TM_FLINK.LINK_CFG.ENABLE n + s.fl TM_FLINK.LINK_CFG.LT_EN n * 2 + s.fl TM_FLINK.LINK_CFG.TIM_EN n * 4 +
    s.fl TM_FLINK.LINK_CFG.TIM_DEV n * 8 + s.fl TM_FLINK.LINK_CFG.TIM_LINK n * 16 + s.fl TM_FLINK.LINK_CFG.TIM_PLANE n * 32 +
    s.fl TM_FLINK.LINK_CFG.TIM_OPER n * 64 + s.fl TM_FLINK.LINK_CFG.FORCE_OUT n * 128 + s.fl TM_FLINK.LINK_CFG.REACT n * 256

/-- FLINK_FORCE_OUT (R259): a write of LINK_CFG that changes FORCE_OUT alone. -/
def execFlinkForceOut (link : Nat) (on : Bool) (s : State) : Host.Outcome State Fault Refusal :=
  .next (s.onTm (fun s => s.linkCfg link (setBit (s.linkCfgWord link) 7 on)))

/-- TRAIN_FAIL_TIMEOUT (R266): training has not ended 500 ms after it began; it is tried again. -/
def State.trainFail (s : State) (n : Nat) : State :=
  match s.expire .flinkTrain n with
  | none => s
  | some s => (s.flRaise Ev.TM_FLINK.TRAIN_FAIL n none (some n)).trainArm n

def execTrainFailTimeout (link : Nat) (s : State) : Host.Outcome State Fault Refusal :=
  .next (s.onTm (fun s => s.trainFail link))

/-! ### DEG (R221, R257) -/

/-- Bit errors of a 1 ms interval at the PRBS checker of a fabric lane, when it is on (R238, R265). -/
def State.flinkPrbs (s : State) (n errs : Nat) : State :=
  if s.rfp TM_SDF.LANE_CFG.PRBS_CHK (n / 16) (n % 16) = 0 || !s.operating (sdfPage n) then s
  else s.inc TM_SDF.PRBS_ERR.COUNT (n / 16) (n % 16) errs

/-- A fabric link's 1 ms interval (R221), judged while IN_FRAME; `prbs` is what its lane's checker found in it. -/
def State.flinkDeg (s : State) (n corr unc prbs : Nat) : State :=
  if !s.flEnabled n then s
  else
    let s := s.flinkPrbs n prbs
    let s := (s.flInc TM_FLINK.CNT.FEC_CORR_SYM n corr).flSat TM_FLINK.CNT.FEC_UNCORR_CW n unc
    if s.fl TM_FLINK.LINK_STATUS.ALIGN n ≠ alInFrame then s
    else
      let c := corr + 16 * unc
      let m := orWhenZero (s.fl TM_FLINK.DEG_CFG.DEG_M n) 1
      let isBad := decide (s.fl TM_FLINK.DEG_CFG.DEG_THR n < c)
      let s := s.updLink n (fun x => { x with bad := if isBad then x.bad + 1 else 0, good := if isBad then 0 else x.good + 1 })
      let x := s.link n
      if m ≤ x.bad && !s.flb TM_FLINK.LINK_STATUS.DEG n then
        ((s.setFl TM_FLINK.LINK_STATUS.DEG n 1).flRaise Ev.TM_FLINK.DEG_SET n none (some c)).linkEval n
      else if m ≤ x.good && s.flb TM_FLINK.LINK_STATUS.DEG n then
        ((s.setFl TM_FLINK.LINK_STATUS.DEG n 0).flRaise Ev.TM_FLINK.DEG_CLEAR n none (some 0)).linkEval n
      else s

/-- DEG_INTERVAL_END (R221): the interval of a network port, or of a fabric link. -/
def execDegIntervalEnd (lane : LaneRef) (corr unc : Nat) (s : State) (prbs : List Nat := []) : Host.Outcome State Fault Refusal :=
  .next (match lane with
    | .port p => s.onFe (fun s => s.degInterval p corr unc prbs)
    | .link n => s.onTm (fun s => s.flinkDeg n corr unc (prbs.getD 0 0)))

/-! ### TRACE_SEL (R266) -/

/-- TRACE_SEL of a page takes the value written; ERR is the outcome of this GO. -/
def State.traceSel (s : State) (k v : Nat) (err : Bool) : State :=
  (((s.wfp TM_FLINK.TRACE_SEL.LINK k 0 (bits v 0 5)).wfp TM_FLINK.TRACE_SEL.SIDE k 0 (bits v 5 3)).wfp
    TM_FLINK.TRACE_SEL.OP k 0 (bits v 8 1)).wfp TM_FLINK.TRACE_SEL.ERR k 0 (b2n err)

/-- TRACE_DATA of a page takes 64 bytes. -/
def State.traceData (s : State) (k : Nat) (b : Bytes) : State :=
  (List.range 16).foldl (fun s w => s.wfp TM_FLINK.TRACE_DATA.DATA k w (le32 b (4 * w))) s

/-- Sixteen words the spec leaves open: no trace has been accepted yet. (DESIGN CHOICE, log entry 7.) -/
def State.traceFree (s : State) (k : Nat) : State :=
  (List.range 16).foldl (fun s w => let (v, s) := s.freeVal; s.wfp TM_FLINK.TRACE_DATA.DATA k w v) s

/-- TRACE_SEL_READ. -/
def State.traceRead (s : State) (k v : Nat) : State :=
  if 10 ≤ k || !s.blockOpen (4136 + k) then s
  else
    let n := 32 * k + bits v 0 5
    let l := s.link n
    let side := bits v 5 3
    if 5 ≤ side then s.traceSel k v true
    else
      let s := s.traceSel k v false
      match side with
      | 0 => s.traceData k (s.txTrace n)
      | 1 => s.traceData k ((List.range 64).map (fun i => BitVec.ofNat 8 (SMap.get 0 l.expTrace i)))
      | 2 => match l.accepted with
        | some t => s.traceData k t
        | none => s.traceFree k
      | _ => s.traceData k ((List.range 4).flatMap (fun b => toLe 16 (SMap.get 0 l.reach ((side - 3) * 4 + b))))

def execTraceSelRead (page sel : Nat) (s : State) : Host.Outcome State Fault Refusal :=
  .next (s.onTm (fun s => s.traceRead page (setBit (sel % 2 ^ 32) 8 false)))

/-- TRACE_SEL_WRITE: SIDE 0 takes the host's bytes only (R255). -/
def State.traceWrite (s : State) (k v : Nat) : State :=
  if 10 ≤ k || !s.blockOpen (4136 + k) then s
  else
    let n := 32 * k + bits v 0 5
    let side := bits v 5 3
    let byte := fun i => bits (s.rfp TM_FLINK.TRACE_DATA.DATA k (i / 4)) (8 * (i % 4)) 8
    if 2 ≤ side then s.traceSel k v true
    else if side = 0 then
      (s.traceSel k v false).updLink n (fun l => { l with
        txTrace := (List.range 19).foldl (fun m j =>
          let i := 11 + j
          SMap.put 0 m i (if i = 28 then byte i % 4 else byte i)) l.txTrace })
    else
      (s.traceSel k v false).updLink n (fun l => { l with
        expTrace := (List.range 64).foldl (fun m i => SMap.put 0 m i (byte i)) l.expTrace })

def execTraceSelWrite (page sel : Nat) (s : State) : Host.Outcome State Fault Refusal :=
  .next (s.onTm (fun s => s.traceWrite page (setBit (sel % 2 ^ 32) 8 true)))

end Sys2Proof.Machine
end

