-- ==== Sys2Proof/Machine/Image.lean ====
section
/-! DEFINITION. The Almanac container and the loader's checks (R76 to R83, R114, R116, R135, R139, R143, R179, R181, R271,
R275, R325, R354, R515, R517). -/

namespace Sys2Proof.Machine

/-- A loader failure (R83): its code, the die it falls on, the section table index where one is at fault, and the byte offset of the
failing record in that section where the check is of a record (R103). -/
structure LoadErr where
  code : Nat
  tm : Bool
  sec : Option Nat
  off : Option Nat
  deriving DecidableEq, Repr

/-- The first failure of a list of checks, in the order of the list: the spec gives no order. (DESIGN CHOICE, log entry 10.) -/
def firstErr (l : List (Option LoadErr)) : Option LoadErr := (l.filterMap id).head?

/-- A failure with a code on a die and section when the condition holds. -/
def errIf (c : Bool) (code : Nat) (tm : Bool) (sec : Option Nat) : Option LoadErr := if c then some ⟨code, tm, sec, none⟩ else none

/-- A section table entry (R77). -/
structure SecEntry where
  typ : Nat
  die : Nat
  strip : Nat
  off : Nat
  len : Nat
  digest : Nat
  deriving DecidableEq, Repr

/-- The header as one number of 2,048 bits (R76). -/
def imgHdr (b : Bytes) : Nat := leAt b 0 256
def imgSecs (b : Bytes) : Nat := bits (imgHdr b) 48 16
def imgLen (b : Bytes) : Nat := bits (imgHdr b) 64 32

/-- Section table entry `k`. -/
def imgEntry (b : Bytes) (k : Nat) : SecEntry :=
  let e := leAt b (256 + 64 * k) 64
  ⟨bits e 0 16, bits e 16 1, bits e 24 8, bits e 32 32, bits e 64 32, bits e 128 384⟩

/-- The section table. -/
def imgEntries (b : Bytes) : List SecEntry := (List.range (imgSecs b)).map (imgEntry b)

/-- The content of a section. -/
def imgData (b : Bytes) (e : SecEntry) : Bytes := (b.drop e.off).take e.len

/-- The signed message: header and section table (R80). -/
def imgMessage (b : Bytes) : Bytes := b.take (256 + 64 * imgSecs b)
/-- The signature: r and s (R80). -/
def imgSignature (b : Bytes) : Bytes := (b.drop (256 + 64 * imgSecs b)).take 96

/-- The section types of R78: type, die (2: either), least and greatest count. -/
def secTypes : List (Nat × Nat × Nat × Nat) :=
  [(0x0001, 0, 16, 16), (0x0002, 0, 1, 1), (0x0010, 0, 1, 1), (0x0011, 0, 1, 1), (0x0012, 0, 0, 1), (0x0020, 0, 1, 1),
   (0x0040, 1, 1, 1), (0x0041, 1, 1, 1), (0x0050, 1, 1, 1), (0x0051, 1, 1, 1), (0x0060, 2, 0, 2)]

/-- The section's length is one its format refuses outright with BAD_SECTION_TABLE (R79, R116, R135, R179, R325, R354,
R517). -/
def badLength (b : Bytes) (e : SecEntry) : Bool :=
  let d := imgData b e
  if e.typ = 0x0002 || e.typ = 0x0050 || e.typ = 0x0051 then decide (e.len ≠ 64)
  else if e.typ = 0x0060 then decide (e.len % 8 ≠ 0)
  else if e.typ = 0x0012 then decide (e.len % 64 ≠ 0)
  else if e.typ = 0x0020 then decide (e.len ≠ 64 * (1 + byteAt d 0))
  else if e.typ = 0x0010 then decide (e.len ≠ 64 * (1 + bits (leAt d 0 2) 0 7 + bits (leAt d 0 2) 8 7))
  else false

/-- Step 1 of R81: the container. (DESIGN CHOICE, log entry 10.) -/
def checkContainer (b : Bytes) (bufLen : Nat) : Option LoadErr :=
  let h := imgHdr b
  let n := imgSecs b
  let top := 256 + 64 * n + 128
  let es := imgEntries b
  let idx := List.range n
  let one := fun (p : SecEntry → Bool) (code : Nat) =>
    (idx.find? (fun k => p (imgEntry b k))).map (fun k => (⟨code, true, some k, none⟩ : LoadErr))
  firstErr [
    errIf (bits h 0 32 ≠ 0x434D4C41) 0x0101 true none,
    errIf (bits h 32 16 ≠ 1) 0x0102 true none,
    errIf (bits h 96 16 ≠ 0x5120 || 0xB0 < bits h 112 8) 0x0103 true none,
    errIf (67108864 < imgLen b || bufLen < imgLen b) 0x0104 true none,
    errIf (n = 0 || 255 < n) 0x0105 true none,
    errIf (imgLen b < top) 0x0104 true none,
    one (fun e => !secTypes.any (fun t => decide (t.1 = e.typ) && (decide (t.2.1 = 2) || decide (t.2.1 = e.die)))) 0x0105,
    one (fun e => if e.typ = 0x0001 then decide (15 < e.strip) else decide (e.strip ≠ 0xFF)) 0x0105,
    one (fun e => decide (e.off % 64 ≠ 0) || decide (e.len = 0) || decide (e.off < top) || decide (imgLen b < e.off + e.len)) 0x0105,
    (idx.find? (fun k => idx.any (fun j => decide (j < k) && decide ((imgEntry b j).off < (imgEntry b k).off + (imgEntry b k).len) &&
      decide ((imgEntry b k).off < (imgEntry b j).off + (imgEntry b j).len)))).map (fun k => ⟨0x0105, true, some k, none⟩),
    one (badLength b) 0x0105,
    errIf (secTypes.any (fun t => decide ((es.filter (fun e => decide (e.typ = t.1))).length < t.2.2.1))) 0x0106 true none,
    (idx.find? (fun k => idx.any (fun j => decide (j < k) && decide ((imgEntry b j).typ = (imgEntry b k).typ) &&
      (if (imgEntry b k).typ = 0x0001 then decide ((imgEntry b j).strip = (imgEntry b k).strip)
       else if (imgEntry b k).typ = 0x0060 then decide ((imgEntry b j).die = (imgEntry b k).die) else true)))).map
      (fun k => ⟨0x0107, true, some k, none⟩)]

/-- The key a SIGNER names, where the lifecycle state accepts it (R83, R430, R436). -/
def State.signerKey (s : State) (signer : Nat) : Option Bytes :=
  let lc := s.otp.lifecycle
  if signer = 0 then
    if lc = 3 || (lc = 1 && s.otp.ownerOnly) then none else some Config.vendorKey
  else if signer ≤ 4 && lc ≤ 1 then
    match s.otp.slots[signer - 1]? with
    | some o => if o.st = 1 then some o.key else none
    | none => none
  else none

/-- Step 2 of R81: signature and BUILD_SEQ. -/
def State.checkSignature (s : State) (b : Bytes) : Option LoadErr :=
  match s.signerKey (bits (imgHdr b) 120 8) with
  | none => some ⟨0x0202, true, none, none⟩
  | some k =>
    if !Config.verifies k (Config.sha384 (imgMessage b)) (imgSignature b) then some ⟨0x0201, true, none, none⟩
    else errIf (bits (imgHdr b) 192 32 < s.rf TM_ALM.MIN_BUILD.SEQ) 0x0204 true none

/-! ### Slot programs (R114) -/

/-- The words of a strip, all pairs (position, word); none for a malformed section. -/
def stripWords (b : Bank) (st : Nat) : Option (List (Nat × Nat)) :=
  (parseSlots (b.strip st).length (b.strip st)).map (fun rs => rs.flatMap (fun (p, ws) => ws.map (fun w => (p, w))))

/-- The lane bits a word writes: lane and mask, for a MOVE of OP 1 or 2 the table of its lookup in that cell. -/
def wordWrites (ws : List (Nat × Nat)) (cell w : Nat) : Option (Nat × Nat × Option Nat) :=
  let d := bits w 36 8
  if 176 ≤ d then none
  else if swClass w = 5 then some (d, 2 ^ 32 - 1, none)
  else if swClass w = 6 then
    let n := if swOp w = 2 then 1 else min (bits w 13 5 + 1) (32 - bits w 23 5)
    let lo := bits w 18 5
    let m := ((2 ^ n - 1) * 2 ^ lo) % 2 ^ 32
    let t := if swOp w = 0 then none else
      ((ws.find? (fun e => decide (e.1 = cell) && decide (swClass e.2 = 4) && decide (swStage e.2 + 1 = swStage w) &&
        decide (swPipe e.2 = swPipe w))).map (fun e => bits e.2 36 8))
    some (d, m, t)
  else none

/-- BUS_CONFLICT of one bank and strip. -/
def busConflict (ws : List (Nat × Nat)) : Bool :=
  let wr := ws.filterMap (fun e => (wordWrites ws e.1 e.2).map (fun x => (e.1, swStage e.2, swPipe e.2, x)))
  let clash := fun (a b : Nat × Nat × Nat × Nat × Nat × Option Nat) =>
    decide (a.2.1 = b.2.1) && decide (a.2.2.1 &&& b.2.2.1 ≠ 0) && decide (a.2.2.2.1 = b.2.2.2.1) &&
      decide (a.2.2.2.2.1 &&& b.2.2.2.2.1 ≠ 0) &&
      !(decide (a.1 ≠ b.1) && a.2.2.2.2.2.isSome && decide (a.2.2.2.2.2 = b.2.2.2.2.2))
  let rec pairs : List (Nat × Nat × Nat × Nat × Nat × Option Nat) → Bool
    | [] => false
    | a :: l => l.any (clash a) || pairs l
  pairs wr || wr.any (fun a => decide (a.2.1 = 24) && decide (a.2.2.1 ≠ 0) && decide (128 ≤ a.2.2.2.1) && decide (a.2.2.2.1 < 144))

/-- A cell has two lookups on one read port in a bank (R114). -/
def twoLookups (ws : List (Nat × Nat)) : Bool :=
  let rd := ws.filter (fun e => decide (swClass e.2 = 3))
  let rec pairs : List (Nat × Nat) → Bool
    | [] => false
    | a :: l => l.any (fun b => decide (a.1 = b.1) && decide (swPipe a.2 &&& swPipe b.2 ≠ 0)) || pairs l
  pairs rd

/-- A chain breaks the spacing of R113. A chain without a KEY word breaks none, and is accepted. (DESIGN CHOICE, log entry 23.) -/
def chainBroken (ws : List (Nat × Nat)) : Bool :=
  let ws := ws.filter (fun e => decide (swPipe e.2 ≠ 0))
  let has := fun (cell cls stage pipe : Nat) (id : Option Nat) =>
    ws.any (fun e => decide (e.1 = cell) && decide (swClass e.2 = cls) && decide (swStage e.2 = stage) && decide (swPipe e.2 = pipe) &&
      (match id with | some i => decide (bits e.2 36 8 = i) | none => true))
  ws.any (fun e =>
    let c := swClass e.2
    let k := swStage e.2
    let p := swPipe e.2
    let id := some (bits e.2 36 8)
    if c = 1 then !has e.1 2 (k + 1) p none
    else if c = 2 then !has e.1 3 (k + 1) p id
    else if c = 3 then decide (k = 0) || !has e.1 2 (k - 1) p id || !has e.1 4 (k + 2) p id
    else if c = 4 then decide (k < 2) || !has e.1 3 (k - 2) p id
    else if c = 6 && swOp e.2 ≠ 0 then decide (k = 0) || !has e.1 4 (k - 1) p none
    else false)

/-- Between the banks, a cell reads one port at different stages. -/
def portMoved (ws act : List (Nat × Nat)) : Bool :=
  ws.any (fun a => decide (swClass a.2 = 3) && act.any (fun b => decide (swClass b.2 = 3) && decide (a.1 = b.1) &&
    decide (swPipe a.2 &&& swPipe b.2 ≠ 0) && decide (swStage a.2 ≠ swStage b.2)))

/-- The section table index of a section of the image. -/
def secIdx (b : Bytes) (typ : Nat) (strip : Option Nat) : Option Nat :=
  firstIdx (fun e => decide (e.typ = typ) && (match strip with | some s => decide (e.strip = s) | none => true)) (imgEntries b)

/-- The checks of R114 on the slot programs of the staged bank, against the active one where a bank is active; of several that fail, the
first in the order written here is reported. (DESIGN CHOICE, log entry 10.) -/
def checkSlots (b : Bytes) (st act : Bank) (hasAct : Bool) : Option LoadErr :=
  let strips := List.range 16
  let sec := fun s => secIdx b 0x0001 (some s)
  let per := fun (p : Nat → List (Nat × Nat) → Bool) (code : Nat) =>
    (strips.find? (fun s => p s ((stripWords st s).getD []))).map (fun s => (⟨code, false, sec s, none⟩ : LoadErr))
  let depth := fun s => if s < 8 then st.depthI else st.depthE
  let dirMax := fun (d : Nat) =>
    let ws := (strips.filter (fun s => decide (s / 8 = d))).flatMap (fun s => (stripWords st s).getD [])
    if ws.isEmpty then none else some (maxN (ws.map (fun e => swStage e.2)))
  firstErr [
    (strips.find? (fun s => (stripWords st s).isNone)).map (fun s => ⟨0x0304, false, sec s, none⟩),
    per (fun _ ws => ws.any (fun e => decide (128 ≤ e.1))) 0x030A,
    per (fun _ ws => (List.range 128).any (fun p => decide (128 < (ws.filter (fun e => decide (e.1 = p))).length))) 0x0304,
    per (fun _ ws => ws.any (fun e => !swKnown e.2)) 0x0305,
    per (fun s ws => ws.any (fun e => decide (depth s < swStage e.2 + 9))) 0x0303,
    errIf ((dirMax 0).any (fun m => decide (m + 9 ≠ st.depthI)) || (dirMax 1).any (fun m => decide (m + 9 ≠ st.depthE))) 0x0303 false none,
    per (fun _ ws => busConflict ws) 0x0301,
    per (fun s ws => twoLookups ws || chainBroken ws || (hasAct && portMoved ws (act.slotWords s))) 0x0306]

/-! ### Parse graph (R139) -/

/-- The targets of a parse state: DEFAULT, and the NEXT of each VALID transition when SEL_EN is 1. -/
def parseTargets (r : Nat) : List Nat :=
  bits r 56 7 :: (if bit r 38 then
    (((List.range 8).map (fun j => bits r (192 + 40 * j) 40)).filter (fun t => bit t 39)).map (fun t => bits t 32 7) else [])

/-- The counted length of a state on a shortest path. -/
def countedLen (r : Nat) : Nat := bits r 0 8 + b2n (bit r 14)

/-- Rounds of removal of states that lead to no remaining state; what remains holds a loop. -/
def loopRest (edges : List (Nat × Nat)) : Nat → List Nat → List Nat
  | 0, l => l
  | n + 1, l => loopRest edges n (l.filter (fun u => edges.any (fun e => decide (e.1 = u) && l.contains e.2)))

/-- Shortest-path distances from state 0 by rounds of relaxation. -/
def relax (edges : List (Nat × Nat)) (len : Nat → Nat) : Nat → List (Option Nat) → List (Option Nat)
  | 0, d => d
  | n + 1, d =>
    relax edges len n (edges.foldl (fun d e =>
      match d.getD e.1 none with
      | none => d
      | some x =>
        match d.getD e.2 none with
        | some y => if x + len e.1 < y then listSet d e.2 (some (x + len e.1)) else d
        | none => listSet d e.2 (some (x + len e.1))) d)

/-- R139 for one direction with `n` states. -/
def parseBad (b : Bank) (egr : Bool) (n : Nat) : Bool :=
  let st := fun k => b.parseState egr k
  let all := List.range n
  let edges := all.flatMap (fun u => ((parseTargets (st u)).filter (fun v => decide (v < 64))).map (fun v => (u, v)))
  let loopEdges := edges.filter (fun e => decide (e.1 ≠ e.2) && !(bit (st e.1) 55 && bit (st e.2) 55))
  let dist := relax edges (fun u => countedLen (st u)) n (some 0 :: List.replicate (n - 1) none)
  n = 0 || 64 < n ||
  all.any (fun k =>
    let r := st k
    let ly := bits r 48 4
    (decide (8 ≤ ly) && decide (ly ≤ 14)) || decide (bits r 44 4 = 0) || decide (11 < bits r 44 4) ||
      (bits r 56 7 :: (((List.range 8).map (fun j => bits r (192 + 40 * j) 40)).filter (fun t => bit t 39)).map
        (fun t => bits t 32 7)).any (fun t => decide (65 < t) || (decide (t < 64) && decide (n ≤ t)))) ||
  !(loopRest loopEdges n all).isEmpty ||
  all.any (fun k =>
    match dist.getD k none with
    | none => false
    | some d =>
      let r := st k
      (bit r 38 && decide (510 < d + bits r 32 6)) || (bit r 14 && decide (511 < d + bits r 8 6)) ||
        (List.range 4).any (fun j =>
          let x := bits r (64 + 32 * j) 32
          bit x 29 && decide (511 < d + bits x 0 6 + (bits x 6 3 + bits x 9 5) / 8)) ||
        decide (512 < d + countedLen r))

/-! ### Classifier chain (R143) -/

/-- CHAIN_LIMIT of the staged chain. -/
def chainBad (st : Bank) : Bool :=
  let d := st.sec 0x0011
  let n := st.chainLen
  let ts := (List.range n).map st.chainTbl
  decide (12 < n) || decide (d.length < 64 * (n + 1)) ||
  ts.any (fun c =>
    (!c.masked && decide (c.groups ≠ 1)) || (c.missPunt && decide (c.missReason < 16)) ||
      (decide (c.dataLane ≠ 0) && (decide (c.dataLane < 128) || decide (158 < c.dataLane))) ||
      (c.masked && decide (d.length < c.maskOff + 32 * c.groups)) ||
      (List.range c.groups).any (fun g =>
        !st.tbls.any (fun t => decide (t.id = c.firstId + g) && decide (t.kind = kRule) && decide (t.dir = 0)))) ||
  (List.range n).any (fun i => (List.range i).any (fun j =>
    let a := st.chainTbl i
    let b := st.chainTbl j
    decide (a.firstId < b.firstId + b.groups) && decide (b.firstId < a.firstId + a.groups)))

/-! ### Table layout (R179 to R183, R515) -/

/-- The records of a TABLE_LAYOUT section. -/
def layoutRecords (d : Bytes) : List Tbl := (List.range (byteAt d 0)).map (fun k => Tbl.ofBits (leAt d (64 * (k + 1)) 64))

/-- LINES raised to the minimum of the kind for a used region (R157). -/
def raiseLines (t : Tbl) (r : Bool) (l : Nat) : Nat := if (t.region r).used then max l t.minLines else l

/-- A record as the staged bank takes it: the live region carried over from an active table with both regions unchanged,
the record's own otherwise, LINES raised to their minimum (R157, R183): of a table carried over, the record's LIVE, SEED, MULT and LINES
are ignored. -/
def resolveTbl (act : Option Tbl) (t : Tbl) : Tbl :=
  let t := { t with lines0 := raiseLines t false t.lines0, lines1 := raiseLines t true t.lines1 }
  let t := { t with lines := if t.live then t.lines1 else t.lines0 }
  match act with
  | some a =>
    if a.reg0 = t.reg0 && a.reg1 = t.reg1 then
      { t with liveBit := a.liveBit, seed0 := a.seed0, mult0 := a.mult0, lines0 := a.lines0, seed1 := a.seed1, mult1 := a.mult1,
               lines1 := a.lines1, live := a.live, seed := a.seed, mult := a.mult, lines := a.lines }
    else t
  | none => t

/-- TABLE_PARAM of one record against its direction's others (R181). -/
def tblBad (all : List Tbl) (act : Bank) (hasAct : Bool) (raw : Tbl) : Bool :=
  let a := if hasAct then act.tblDir raw.dir raw.id else none
  let carried := match a with | some x => decide (x.reg0 = raw.reg0) && decide (x.reg1 = raw.reg1) | none => false
  let sizeOk :=
    if raw.kind = kFilter4 || raw.kind = kFilter6 || raw.kind = kClass4 then decide (raw.size = 1)
    else if raw.kind = kHead6 || raw.kind = kExact then decide (raw.size = 2)
    else if raw.kind = kTail6 then decide (raw.size = 0)
    else if raw.kind = kRule then decide (raw.size = 3)
    else true
  let hashed := [kFilter4, kFilter6, kClass4, kHead6, kExact, kRule].contains raw.kind
  let regBad := fun (r : Bool) =>
    let g := raw.region r
    let m := if r then raw.mult1 else raw.mult0
    let l := if r then raw.lines1 else raw.lines0
    g.used && (decide (128 < g.firstCell + g.cells) || decide (g.lpc = 0) || decide (49152 < g.firstLine + g.lpc) ||
      decide (g.cells % raw.width ≠ 0) || (hashed && decide (m % 2 = 0)) || decide (l = 0) || decide (raw.capacity r < l) ||
      decide (raw.capacity r < raw.minLines))
  -- the line count of a tail array is that of its heads' slots (R157)
  let tailBad := decide (raw.kind = kTail6) && all.any (fun h =>
    decide (h.kind = kHead6) && decide (h.cls = raw.cls) && decide (h.dir = raw.dir) &&
      [false, true].any (fun r => (raw.region r).used && (h.region r).used &&
        decide (raw.capacity r < ceilDiv (2 * raiseLines h r (if r then h.lines1 else h.lines0)) 8)))
  decide (7 < raw.kind) || decide (7 < raw.role) || decide (4 < raw.size) || !sizeOk ||
    (decide (raw.kind = kExact) && !(decide (raw.role = 1) || decide (raw.role = 2))) ||
    (decide (raw.role = 6) && decide (raw.size ≠ 4)) ||
    decide (raw.id = 255) || decide (raw.load = 0) || decide (1000 < raw.load) ||
    decide (1 < (all.filter (fun t => decide (t.dir = raw.dir) && (decide (t.id = raw.id) || decide (t.learnId = raw.id)))).length) ||
    (decide (raw.learnId ≠ 255) && decide (raw.learnId = raw.id)) || tailBad ||
    (decide (raw.learnId ≠ 255) && decide (1 < (all.filter (fun t => decide (t.dir = raw.dir) && decide (t.learnId = raw.learnId))).length)) ||
    regBad false || regBad true || (!carried && !(raw.region raw.liveBit).used)

/-- The non-empty regions of a layout with their tables. -/
def Bank.regions (b : Bank) : List (Nat × Nat × Region) :=
  b.tbls.flatMap (fun t => [(t.dir, t.id, t.reg0), (t.dir, t.id, t.reg1)]) |>.filter (fun x => x.2.2.used)

/-- TABLE_OVER_STRIP of a direction (R515). -/
def overStrip (st act : Bank) (d : Nat) : Bool :=
  let foot := fun (l : List (Nat × Nat × Region)) => sumN (l.map (fun x => x.2.2.cells * x.2.2.lpc * 32))
  let a := st.regions.filter (fun x => decide (x.1 = d))
  let b := act.regions.filter (fun x => decide (x.1 = d) && !a.contains x)
  decide (201326592 < foot a + foot b)

/-- TABLE_OVERLAP (R515). -/
def tblOverlap (st act : Bank) : Bool :=
  let rec pairs : List (Nat × Nat × Region) → Bool
    | [] => false
    | a :: l => l.any (fun b => decide (a.1 = b.1) && a.2.2.meets b.2.2) || pairs l
  pairs st.regions || st.regions.any (fun a => act.regions.any (fun b => decide (a.1 = b.1) && a.2.2.meets b.2.2 && !decide (a = b)))

/-! ### Switch core, spray, calendar (R271, R275, R325) -/

/-- PATTERN of a SWITCH_PATTERN section. -/
def switchBad (d : Bytes) : Bool :=
  let at_ := fun (row k : Nat) => byteAt d (64 * row + k)
  decide (d.length ≠ 8192) ||
  (List.range 128).any (fun row =>
    let bs := (List.range 48).map (at_ row)
    bs.any (fun x => decide (63 < x)) || !decide (bs.Nodup)) ||
  (List.range 2).any (fun h => (List.range 48).any (fun k => !decide (((List.range 64).map (fun t => at_ (64 * h + t) k)).Nodup)))

/-- The slot entry of link `n` and slot `j` (R274, R275). -/
def slotEntry (d : Bytes) (n j : Nat) : Nat := leAt d (2112 + 2 * (320 * j + n)) 2
/-- The spread list of a reach class (R275). -/
def spreadList (d : Bytes) (r : Nat) : List Nat :=
  ((List.range 64).map (fun k => byteAt d (1088 + 64 * r + k))).takeWhile (fun x => decide (x ≠ 255))
/-- DEV_RCLASS of a destination device (R275): VALID and reach class. -/
def devRclass (d : Bytes) (dev : Nat) : Option Nat :=
  let v := byteAt d (64 + dev)
  if bit v 7 then some (bits v 0 4) else none

/-- The checks of R275 on a spray image with the given geometry; the number of the first that fails: 1 null slot, 2
EXPRESS count, 3 alternate, 4 spread group, 5 group without NORMAL slot, 6 empty spread list. -/
def sprayFault (d : Bytes) (len exp : Nat) : Option Nat :=
  let links := List.range 320
  let slots := List.range len
  let kind := fun n j => bits (slotEntry d n j) 0 2
  if slots.any (fun j => decide (j % 125 = 124) && links.any (fun n => decide (kind n j ≠ 0))) then some 1
  else if links.any (fun n => decide ((slots.filter (fun j => decide (kind n j = 2))).length ≠ exp)) then some 2
  else if links.any (fun n => slots.any (fun j =>
      let e := slotEntry d n j
      let a := bits e 6 4
      (decide (kind n j = 1) || decide (kind n j = 2)) &&
        (decide (a = n % 10) || decide (9 < a) || decide (kind (n / 10 * 10 + a) j ≠ 3)))) then some 3
  else if (List.range 16).any (fun r => (spreadList d r).any (fun g => decide (31 < g))) then some 4
  else if (List.range 16).any (fun r => (spreadList d r).any (fun g =>
      !(List.range 10).any (fun l => slots.any (fun j =>
        decide (kind (10 * g + l) j = 1) && decide (bits (slotEntry d (10 * g + l) j) 2 4 = r))))) then some 5
  else if (List.range 1024).any (fun dev => match devRclass d dev with | some r => (spreadList d r).isEmpty | none => false) then some 6
  else none

/-- PATTERN of a SPRAY_PATTERN section (R83, R275). -/
def sprayBad (d : Bytes) : Bool :=
  decide (6 < sprayLog d) || decide (d.length ≠ 2112 + 640 * sprayLen d) || decide (sprayExp d = 0) ||
    decide (sprayLen d ≤ sprayExp d) || (sprayFault d (sprayLen d) (sprayExp d)).isSome

/-- CALENDAR counts (R325). -/
def calCounts (d : Bytes) : Nat × Nat × Nat := let v := leAt d 0 8; (bits v 0 13, bits v 16 15, bits v 32 17)

/-- CALENDAR of a section. -/
def calendarBad (d : Bytes) : Bool :=
  let (a, b, c) := calCounts d
  decide (4096 < a) || decide (16384 < b) || decide (65536 < c) || decide (49152 < a + b + c)

/-! ### RWE_INIT (R79) -/

/-- The RWE fields of a register offset as (field, element). -/
def rweAt (off : Nat) : List (Fld × Nat) :=
  rweFields.flatMap (fun f => ((List.range f.cnt).filter (fun i =>
    decide (f.page * 4096 + f.off + f.stride * (i / f.per) = off))).map (fun i => (f, i)))

/-- The records of an RWE_INIT section as (offset, value). -/
def rweRecords (d : Bytes) : List (Nat × Nat) := (List.range (d.length / 8)).map (fun k => (leAt d (8 * k) 4, leAt d (8 * k + 4) 4))

/-- The field values of an RWE_INIT section by field key, in list order. -/
def rweInits (d : Bytes) : List (Nat × Nat) :=
  (rweRecords d).flatMap (fun (o, v) => (rweAt o).map (fun (f, i) => (f.key 0 i, bits v (f.lo + f.bs * (i % f.per)) f.w)))

/-! ### The staged bank -/

/-- The bank an image describes (R71, R76 to R79), its layout resolved against the active one. -/
def bankOf (b : Bytes) (act : Bank) (hasAct : Bool) : Bank :=
  let es := imgEntries b
  let secs := es.map (fun e => (⟨e.typ, e.die, e.strip, imgData b e⟩ : Section))
  let lay := ((secs.find? (fun x => decide (x.typ = 0x0020))).map (·.data)).getD []
  { present := true, almId := bits (imgHdr b) 128 64, build := bits (imgHdr b) 192 32,
    digest := toBe 48 (Config.sha384 (imgMessage b)).toNat,
    depthI := bits (imgHdr b) 224 16, depthE := bits (imgHdr b) 240 16,
    rwe := (secs.filter (fun x => decide (x.typ = 0x0060))).flatMap (fun x => rweInits x.data),
    secs := secs,
    tbls := (Bank.tailLines { Bank.empty with
      tbls := (layoutRecords lay).map (fun t => resolveTbl (if hasAct then act.tblDir t.dir t.id else none) t) }).tbls }

/-- Step 4 of R81: the static checks; of several that fail, the first in the order written here is reported.
(DESIGN CHOICE, log entry 10.) -/
def checkStatic (b : Bytes) (st act : Bank) (hasAct : Bool) : Option LoadErr :=
  let pt := leAt (st.sec 0x0002) 0 4
  let raw := layoutRecords (st.sec 0x0020)
  let idx := fun t => secIdx b t none
  let range := fun n => decide (n < 256) || decide (1024 < n)
  let (ni, ne) := st.parseCounts
  let noAct : Bank := { act with tbls := [] }
  let act' := if hasAct then act else noAct
  firstErr [
    errIf (range st.depthI || range st.depthE) 0x0302 false none,
    errIf (bits pt 0 16 ≠ st.depthI || bits pt 16 16 ≠ st.depthE) 0x0303 false (idx 0x0002),
    checkSlots b st act hasAct,
    errIf (byteAt (st.sec 0x0020) 0 = 0 || raw.any (tblBad raw act hasAct)) 0x030D false (idx 0x0020),
    errIf (overStrip st act' 0 || overStrip st act' 1) 0x0307 false (idx 0x0020),
    errIf (tblOverlap st act') 0x0308 false (idx 0x0020),
    errIf (parseBad st false ni || parseBad st true ne) 0x030B false (idx 0x0010),
    errIf (chainBad st) 0x030C false (idx 0x0011),
    errIf (switchBad (st.sec 0x0040)) 0x030E true (idx 0x0040),
    errIf (sprayBad (st.sec 0x0041)) 0x030E true (idx 0x0041),
    errIf (calendarBad (st.sec 0x0050)) 0x030F true (idx 0x0050),
    (List.range (imgSecs b)).findSome? (fun k =>
      let e := imgEntry b k
      if e.typ = 0x0060 then
        (firstIdx (fun r => (rweAt r.1).isEmpty) (rweRecords (imgData b e))).map
          (fun i => (⟨0x0310, decide (e.die = 1), some k, some (8 * i)⟩ : LoadErr))
      else none)]

end Sys2Proof.Machine
end

