-- ==== Sys2Proof/Machine/Cutter.lean ====
section
/-! DEFINITION. From TM ingress to the switch core: stream pointers and transmit groups (R276), multicast groups, records and
residue (R283 to R287), the cutting of packets into cells (R11, R250, R251, R272), VOQ selection (R318, R321), arrival and
policing (R300, R326), and injects (R65 to R67). -/

namespace Sys2Proof.Machine

def State.setFab (s : State) (f : Fabric → Fabric) : State := { s with fab := f s.fab }

/-! ### Staging, groups and pointers (R270, R275, R276) -/

/-- The staged cells of a source. -/
def State.staged (s : State) (src : Nat) : List Cell := SMap.get [] s.fab.staging src
def State.setStaged (s : State) (src : Nat) (l : List Cell) : State :=
  s.setFab (fun f => { f with staging := SMap.put [] f.staging src l })

/-- Keys of a bank's queue toward a destination, and of a transmit group's queue of a reach class; `e` 1 for class 7. -/
def bankKey (b d e : Nat) : Nat := (b * 48 + d) * 2 + e
def txKey (g r e : Nat) : Nat := (g * 16 + r) * 2 + e

/-- The cells of a group, from their assignment until they are sent: TXQ_DEPTH (R276). -/
def State.groupCells (s : State) (g : Nat) : Nat :=
  let n := fun (l : List Cell) => (l.filter (fun c => match c.tx with | some (x, _) => decide (x = g) | none => false)).length
  sumN (s.fab.staging.map (fun e => n e.2)) + sumN (s.fab.banks.map (fun e => n e.2)) + sumN (s.fab.txq.map (fun e => n e.2))

/-- The SPRAY_PATTERN section of a bank; empty in NO_EPOCH. -/
def State.sprayOf (s : State) (b : Bool) : Bytes := if s.noEpoch then [] else (s.bank b).sec 0x0041

/-- The SPRAY_PATTERN section of the active bank. -/
def State.sprayNow (s : State) : Bytes := s.sprayOf s.activeBank

/-- The reach class of a destination device that is served, in the bank a packet is stamped with (R71, R279). -/
def State.reachClass (s : State) (b : Bool) (dev : Nat) : Option Nat := devRclass (s.sprayOf b) dev

/-- The entry of a stream's pointer in the spread list of a class (R276). -/
def State.ptrIdx (s : State) (st r len : Nat) : Nat :=
  let v := SMap.get 0 s.fab.ptr (st * 16 + r)
  if v = 0 then st % max len 1 else (v - 1) % max len 1

/-- The pointer's first entry, from where it stands, whose group is below the threshold of the class (R276). -/
def State.ptrFind (s : State) (b : Bool) (st r cls : Nat) : Option Nat :=
  let l := spreadList (s.sprayOf b) r
  let lim := if cls = 7 then s.rf TM_SPRAY.TXQ_XOFF.EXP else s.rf TM_SPRAY.TXQ_XOFF.NORM
  let i := s.ptrIdx st r l.length
  ((List.range l.length).map (fun k => (i + k) % l.length)).find? (fun k => decide (s.groupCells (l.getD k 0) < lim))

/-- A stream may start a packet of a bank toward `dev`: the device is served, this one included, and the stream's pointer finds a
group below the threshold (R276, R279, R284). (DEDUCED, log entry 17.) -/
def State.canStart (s : State) (b : Bool) (st dev cls : Nat) : Bool :=
  match s.reachClass b dev with
  | some r => (s.ptrFind b st r cls).isSome
  | none => false

/-! ### Multicast records (R283) -/

def grpIng (v : Nat) : Nat := bits v 0 21
def grpEgr (v : Nat) : Nat := bits v 21 21
def grpValid (v : Nat) : Bool := bit v 42
def recNext (v : Nat) : Nat := bits v 16 21
def recDrops (v : Nat) : Nat := bits v 64 16

def State.group (s : State) (g : Nat) : Nat := SMap.get 0 s.fab.groups g
def State.record (s : State) (r : Nat) : Nat := SMap.get 0 s.fab.recs r

/-- A replication record without the bits that R283 assigns to neither kind of record: they read as zero (R4). -/
def recKnown (v : Nat) : Nat := setBits (setBits (setBits v 10 6 0) 56 8 0) 80 16 0

/-- The multicast group of a packet with MCAST = 1 (R12). -/
def Pkt.group (p : Pkt) : Nat := p.handle % 65536

/-- DROPS of a record rises, saturating. -/
def State.recDrop (s : State) (r : Nat) : State :=
  s.setFab (fun f => { f with recs := SMap.upd 0 f.recs r (fun v => setBits v 64 16 (satAdd 16 (recDrops v) 1)) })

/-- The destination port group of a packet's cells (R284, R301). -/
def Pkt.cellPg (p : Pkt) : Nat := if p.mcast then p.flowHash % 32 else p.destPg

/-- The branches in residue whose original is still there (R286). -/
def State.branches (s : State) (egr : Bool) : List Branch :=
  s.fab.residue.filter (fun b => decide (b.egr = egr) && (s.pktById b.pkt).isSome)

/-- A record has a branch in residue. -/
def State.recWaits (s : State) (egr : Bool) (r : Nat) : Bool := (s.branches egr).any (fun b => decide (b.rec_ = r))

/-- RETRY in core cycles. -/
def State.retryCycles (s : State) : Nat := orWhenZero (s.rf TM_MCAST.RETRY.US) 1 * cyUs

/-- A branch joins residue, or is dropped when its residue is full (R286). (DEDUCED, log entry 18.) -/
def State.residueJoin (s : State) (b : Branch) : State :=
  if 32768 ≤ (s.branches b.egr).length then
    ((s.recDrop b.rec_).sat1 TM_MCAST.RESIDUE_FULL.COUNT).raise Ev.TM_MCAST.RESIDUE_FULL 0 (b2n b.egr) b.group b.rec_
  else
    let s := s.setFab (fun f => { f with residue := f.residue ++ [b] })
    if s.armed .residueRetry 0 then s else s.arm .residueRetry 0 s.retryCycles

/-- Originals whose last branch has been served or dropped are released (R286): a branch at ingress is served when its copy has been
cut. -/
def State.mcastSweep (s : State) : State :=
  (s.at_ .residue).foldl (fun s p =>
    let waits := s.fab.residue.any (fun b => decide (b.pkt = p.id))
    let copies := s.pkts.any (fun q => decide (q.share = p.id) && !q.egr && (match q.loc with
      | .cutq _ | .cut _ => true
      | _ => false))
    if waits || copies then s else (s.traceHalf p true p.egr false false).departPkt p) s

/-- A copy of a packet of the list, toward the given place. -/
def State.copyPkt (s : State) (p : Pkt) (l : Loc) (f : Pkt → Pkt) : Nat × State :=
  let q : Pkt := f { p with loc := l, share := p.family, dieUnits := 0, ddr := [], inj := none, begun := false, passed := false }
  let (id, s) := s.newPkt q
  (id, s.stampCount p.bank)

/-! ### Ingress replication (R284) -/

/-- A branch toward a device is ready (R284, R286). -/
def State.ingReady (s : State) (p : Pkt) (dev : Nat) : Bool := s.canStart p.bank p.stream dev p.cls

/-- A copy toward a device is made and waits for its stream's cutter. -/
def State.ingCopy (s : State) (p : Pkt) (dev : Nat) : State :=
  ((s.copyPkt p (.cutq p.stream) (fun q => { q with dest := dev })).2).inc1 TM_MCAST.ING_COPIES.COUNT

/-- One device record of a replication. -/
def State.ingBranch (s : State) (p : Pkt) (r : Nat) : State :=
  let dev := bits (s.record r) 0 10
  if !s.recWaits false r && s.ingReady p dev then s.ingCopy p dev
  else s.residueJoin ⟨false, p.group, r, p.id, s.cycle⟩

/-- The device records of a group, from `r` on. -/
def State.ingWalk : Nat → State → Pkt → Nat → State
  | 0, s, _, _ => s
  | n + 1, s, p, r => if 2 ^ 20 ≤ r then s else let nx := recNext (s.record r); State.ingWalk n (s.ingBranch p r) p nx

/-- A multicast packet held at ingress is replicated (R283, R284). -/
def State.ingReplicate (s : State) (p : Pkt) : State :=
  let g := s.group p.group
  if !grpValid g then (s.sat1 TM_MCAST.NO_GROUP.COUNT).dropPkt p
  else (State.ingWalk (2 ^ 20) s p (grpIng g)).mcastSweep

/-! ### Egress replication (R285) -/

/-- What a port record makes of a branch: stale, not ready, or ready with its queue. -/
inductive EgrBranch where
  | stale
  | notReady
  | ready (q : Nat) (copy : Pkt)

/-- A branch toward a port: a stale handle drops it; it is ready when admission would accept it at once and its port is not
held down. -/
def State.egrBranchOf (s : State) (p : Pkt) (v : Nat) : EgrBranch :=
  let h := bits v 96 32
  let q := (p.mdSet 175 9 (bits v 0 9)).mdSet 84 19 (bits v 37 19)
  if (s.handleChan h).isNone then .stale
  else
    match s.admitCheck q h true false with
    | .refused _ => .notReady
    | .queue k =>
      let held := s.tmPort (s.chan (h % 65536)).outPort
      let shared := s.pkts.any (fun r => decide (r.family = p.family) && r.holds && r.egr && (decide (r.dieUnits ≠ 0) || !r.ddr.isEmpty))
      let room := shared || ((s.place p.family p.cls p.length (s.bytesAt (.queue k)) (profWord (s.queueProf k) 3)).1).isSome
      if held ≠ tmUp || !room || s.buffersReset then .notReady else .ready k q

/-- A ready branch is served: its copy enters its queue. -/
def State.egrCopy (s : State) (p q : Pkt) (k : Nat) (hold : Bool) : State :=
  let (id, s) := s.copyPkt p .reasm (fun x => { x with md := q.md, hold := hold })
  let s := s.inc1 TM_MCAST.EGR_COPIES.COUNT
  match s.pktById id with
  | some c =>
    match s.enqueue c k with
    | (true, s) => s
    | (false, s) => s.dropPkt c
  | none => s

/-- A branch with a stale handle is dropped. -/
def State.staleBranch (s : State) (g r : Nat) : State :=
  ((s.recDrop r).sat1 TM_MCAST.STALE_DROP.COUNT).raise Ev.TM_MCAST.STALE_BRANCH 0 0 g r

/-- The original of egress branches takes its family's units, if no copy holds them yet; one that finds no room waits without them.
(DEDUCED, log entry 17.) -/
def State.egrHold (s : State) (p : Pkt) : State :=
  if s.pkts.any (fun r => decide (r.family = p.family) && r.holds && r.egr && (decide (r.dieUnits ≠ 0) || !r.ddr.isEmpty)) then s
  else
    match s.place p.family p.cls p.length 0 (s.rf TM_BUF.SPILL_MCAST.UNITS) with
    | (none, _) => s
    | (some (d, u), s) => s.putPkt { p with dieUnits := d, ddr := u }

/-- A branch that is not ready joins residue (R286). -/
def State.egrWait (s : State) (p : Pkt) (r : Nat) : State := (s.egrHold p).residueJoin ⟨true, p.group, r, p.id, s.cycle⟩

/-- One port record of a replication. -/
def State.egrBranch (s : State) (p : Pkt) (r : Nat) : State :=
  let v := s.record r
  match s.egrBranchOf p v with
  | .stale => s.staleBranch p.group r
  | .notReady => s.egrWait p r
  | .ready k q => if s.recWaits true r then s.egrWait p r else s.egrCopy p q k p.hold

/-- The port records of a group, from `r` on. -/
def State.egrWalk : Nat → State → Nat → Nat → State
  | 0, s, _, _ => s
  | n + 1, s, id, r =>
    if 2 ^ 20 ≤ r then s
    else
      match s.pktById id with
      | none => s
      | some p => let nx := recNext (s.record r); State.egrWalk n (s.egrBranch p r) id nx

/-- A multicast packet at the egress side is replicated (R283, R285). -/
def State.egrReplicate (s : State) (p : Pkt) : State :=
  let g := s.group p.group
  if !grpValid g then (s.sat1 TM_MCAST.NO_GROUP.COUNT).dropPkt p
  else (State.egrWalk (2 ^ 20) (s.movePkt { p with egr := true } .residue) p.id (grpEgr g)).mcastSweep

/-! ### Residue (R286) -/

/-- A branch leaves residue. -/
def State.residueOut (s : State) (b : Branch) : State := s.setFab (fun f => { f with residue := f.residue.filter (fun x => !decide (x = b)) })

/-- One branch of a retry; `seen` holds the records that keep an earlier branch. -/
def State.retryOne (s : State) (seen : List (Bool × Nat)) (b : Branch) : List (Bool × Nat) × State :=
  match s.pktById b.pkt with
  | none => (seen, s.residueOut b)
  | some p =>
    let keep := ((b.egr, b.rec_) :: seen, s)
    if seen.contains (b.egr, b.rec_) then (seen, s)
    else if b.egr then
      match s.egrBranchOf p (s.record b.rec_) with
      | .stale => (seen, (s.residueOut b).staleBranch b.group b.rec_)
      | .notReady => keep
      | .ready k q => (seen, (s.residueOut b).egrCopy p q k true)
    else
      let dev := bits (s.record b.rec_) 0 10
      if s.ingReady p dev then (seen, (s.residueOut b).ingCopy p dev) else keep

/-- RESIDUE_RETRY (R286): residue is gone through in the order the branches entered it. -/
def State.residueRetry (s : State) : State :=
  match s.expire .residueRetry 0 with
  | none => s
  | some s =>
    if !s.operating 4155 then s.arm .residueRetry 0 s.retryCycles
    else
      let s : State := (s.fab.residue.foldl (fun (a : List (Bool × Nat) × State) b => a.2.retryOne a.1 b) ([], s)).2
      let s := s.mcastSweep
      if s.fab.residue.isEmpty then s else s.arm .residueRetry 0 s.retryCycles

def execResidueRetry (s : State) : Host.Outcome State Fault Refusal := .next (s.onTm (fun s => s.residueRetry))

/-- RESIDUE_TIMEOUT (R286): the oldest branch of a record's side has waited its time. -/
def State.residueExpire (s : State) (egr : Bool) (r : Nat) : State :=
  match s.fab.residue.find? (fun b => decide (b.egr = egr) && decide (b.rec_ = r)) with
  | none => s
  | some b =>
    let s := s.advanceTo (b.born + orWhenZero (s.rf TM_MCAST.RESIDUE_TIMEOUT.MS) 1 * cyMs)
    let s := ((s.residueOut b).recDrop r).sat1 TM_MCAST.RESIDUE_TIMEOUT_DROP.COUNT
    (s.raise Ev.TM_MCAST.RESIDUE_TIMEOUT 0 0 b.group r).mcastSweep

def execResidueTimeout (egress : Bool) (rec : Nat) (s : State) : Host.Outcome State Fault Refusal :=
  .next (s.onTm (fun s => s.residueExpire egress rec))

/-! ### Group and record access (R287, R290) -/

/-- MCAST_GROUP_READ. -/
def State.groupRead (s : State) (v : Nat) : State :=
  if !s.blockOpen 4155 then s
  else
    let s := (s.wf TM_MCAST.GROUP_SEL.GROUP (bits v 0 16)).wf TM_MCAST.GROUP_SEL.OP (bits v 16 1)
    (List.range 2).foldl (fun s k => s.wfi TM_MCAST.GROUP_DATA.DATA k (bits (s.group (bits v 0 16)) (32 * k) 32)) s

def execMcastGroupRead (sel : Nat) (s : State) : Host.Outcome State Fault Refusal :=
  .next (s.onTm (fun s => s.groupRead (setBit (sel % 2 ^ 32) 16 false)))

/-- MCAST_GROUP_WRITE: reserved bits are not kept. -/
def State.groupWrite (s : State) (v : Nat) : State :=
  if !s.blockOpen 4155 then s
  else
    let s := (s.wf TM_MCAST.GROUP_SEL.GROUP (bits v 0 16)).wf TM_MCAST.GROUP_SEL.OP (bits v 16 1)
    let w := (s.rfi TM_MCAST.GROUP_DATA.DATA 0 + s.rfi TM_MCAST.GROUP_DATA.DATA 1 * 2 ^ 32) % 2 ^ 43
    s.setFab (fun f => { f with groups := SMap.put 0 f.groups (bits v 0 16) w })

def execMcastGroupWrite (sel : Nat) (s : State) : Host.Outcome State Fault Refusal :=
  .next (s.onTm (fun s => s.groupWrite (setBit (sel % 2 ^ 32) 16 true)))

/-- MCAST_RECORD_READ. -/
def State.recordRead (s : State) (v : Nat) : State :=
  if !s.blockOpen 4155 then s
  else
    let s := (s.wf TM_MCAST.REC_SEL.RECORD (bits v 0 20)).wf TM_MCAST.REC_SEL.OP (bits v 20 1)
    (List.range 4).foldl (fun s k => s.wfi TM_MCAST.REC_DATA.DATA k (bits (s.record (bits v 0 20)) (32 * k) 32)) s

def execMcastRecordRead (sel : Nat) (s : State) : Host.Outcome State Fault Refusal :=
  .next (s.onTm (fun s => s.recordRead (setBit (sel % 2 ^ 32) 20 false)))

/-- MCAST_RECORD_WRITE: DROPS keeps its value. -/
def State.recordWrite (s : State) (v : Nat) : State :=
  if !s.blockOpen 4155 then s
  else
    let r := bits v 0 20
    let s := (s.wf TM_MCAST.REC_SEL.RECORD r).wf TM_MCAST.REC_SEL.OP (bits v 20 1)
    let w := recKnown (sumN ((List.range 4).map (fun k => s.rfi TM_MCAST.REC_DATA.DATA k * 2 ^ (32 * k))))
    s.setFab (fun f => { f with recs := SMap.upd 0 f.recs r (fun old => setBits w 64 16 (recDrops old)) })

def execMcastRecordWrite (sel : Nat) (s : State) : Host.Outcome State Fault Refusal :=
  .next (s.onTm (fun s => s.recordWrite (setBit (sel % 2 ^ 32) 20 true)))

/-- WALK_DRAIN_SET (R287): the replications that have started are watched until they have finished. -/
def State.walkDrain (s : State) : State :=
  if !s.blockOpen 4155 then s
  else (s.setFab (fun f => { f with walk := (s.at_ .residue).map (·.id) })).wf TM_MCAST.WALK_DRAIN.DRAIN 1

def execWalkDrainSet (s : State) : Host.Outcome State Fault Refusal := .next (s.onTm (fun s => s.walkDrain))

/-- WALK_DRAIN_DONE (R287): DRAIN clears once every watched replication has finished. -/
def State.walkDone (s : State) : State :=
  if s.fab.walk.any (fun id => (s.pktById id).isSome) then s
  else (s.setFab (fun f => { f with walk := [] })).wf TM_MCAST.WALK_DRAIN.DRAIN 0

def execWalkDrainDone (s : State) : Host.Outcome State Fault Refusal := .next (s.onTm (fun s => s.walkDone))

/-! ### Cutting (R11, R250, R251, R272) -/

/-- Cells of a packet of LENGTH `n`. -/
def cellCount (n : Nat) : Nat := 1 + ceilDiv (n - 176) 240

/-- The LENGTH bytes a packet's cells carry: the frame and its FCS. -/
def Pkt.cellBytes (p : Pkt) (fcs : Bytes) : Bytes := p.data ++ fcs

/-- Payload of cell `k` of the bytes `b`: metadata and 176 bytes in the first, 240 bytes in the others. -/
def Pkt.cellData (p : Pkt) (b : Bytes) (k : Nat) : Bytes :=
  if k = 0 then toLe 64 p.md.toNat ++ b.take 176 else (b.drop (176 + 240 * (k - 1))).take 240

/-- `n` bytes the spec leaves open. (DESIGN CHOICE, log entry 7.) -/
def State.freeBytes : Nat → State → Bytes × State
  | 0, s => ([], s)
  | n + 1, s =>
    let (v, s) := s.freeVal
    let (bs, s) := State.freeBytes n s
    (BitVec.ofNat 8 v :: bs, s)

/-- The FCS that the cells of a packet carry: of a packet found bad, four bytes the spec leaves open. (DESIGN CHOICE, log entry 7.) -/
def State.cellFcs (s : State) (p : Pkt) : Bytes × State :=
  if p.bad then State.freeBytes 4 s else (toLe 4 (crc32 p.data), s)

/-- Cell `k` of a packet with its FCS, its SEQ and its transmit group. -/
def State.mkCell (s : State) (p : Pkt) (fcs : Bytes) (k seq : Nat) (tx : Option (Nat × Nat)) : Cell :=
  let b := p.cellBytes fcs
  let last := decide (k + 1 = cellCount b.length)
  let d := p.cellData b k
  { first := decide (k = 0), last := last, bad := last && p.bad, epoch := p.bank, destDev := p.dest, destPg := p.cellPg,
    cls := p.cls, srcDev := s.fabId, lastLen := if last then d.length else 0, seq := seq, data := d, own := true, pkt := p.id,
    tx := tx, since := 0, ns := 0 }

/-- The buffer units of a packet's family on its side. -/
def State.famDdr (s : State) (p : Pkt) : List Nat :=
  (s.pkts.filter (fun q => decide (q.family = p.family) && decide (q.egr = p.egr))).flatMap (fun q => q.ddr)

/-- The queues of one side that hold packets, rising. -/
def State.busyQueues (s : State) (egr : Bool) : List Nat :=
  sortN (s.pkts.filterMap (fun p => match p.loc with | .queue q => if p.egr = egr then some q else none | _ => none)).dedup

/-- Up to `n` packets that GDDR7 has lost are discarded by their descriptors as they reach the head of queue `q` (R369). -/
def State.lostHeads : Nat → Nat → State → State
  | 0, _, s => s
  | n + 1, q, s =>
    match s.queueHead q with
    | some p => if !(s.famDdr p).isEmpty && s.ddrLost p then State.lostHeads n q ((s.dropPkt p).sat1 TM_DMC.DDR_UNC_DROP.COUNT) else s
    | none => s

/-- Queues whose heads GDDR7 has lost discard them (R369). -/
def State.lostSweep (s : State) (qs : List Nat) : State :=
  if s.dm.lost.isEmpty then s else (qs.foldl (fun (s : State) q => State.lostHeads (s.at_ (.queue q)).length q s) s).mcastSweep.flowSweep

/-- A packet begins to be cut: units in GDDR7 are read first. -/
def State.cutStart (s : State) (p : Pkt) (st : Nat) : State :=
  let us := s.famDdr p
  let s := s.movePkt (p.point 5 s.nowNs) (.cut st)
  (s.setFab (fun f => { f with cut := SMap.put 0 f.cut st 0 })).startReads { p with ddr := us }

/-- The last cell of a packet is cut: its units are free and it stands in the switch core until its last cell has left. -/
def State.cutEnd (s : State) (id st : Nat) : State :=
  let s := s.setFab (fun f => { f with cut := SMap.put 0 f.cut st 0 })
  match s.pktById id with
  | none => s
  | some p =>
    let s := s.movePkt p .core
    let s := if p.share = 0 then s.unitsOff { p with loc := .core } else s
    s.mcastSweep

/-- The transmit group of the next cell of a packet, and the pointer entry behind it (R276): none while its destination is not
served. -/
def State.assign (s : State) (p : Pkt) (st k : Nat) : Option (Nat × Nat × Nat) :=
  match s.reachClass p.bank p.dest with
  | none => none
  | some r =>
    let l := spreadList (s.sprayOf p.bank) r
    if l.isEmpty then none
    else
      let here := s.ptrIdx st r l.length
      let i := if k = 0 then (s.ptrFind p.bank st r p.cls).getD here else here
      some (l.getD i 0, r, (i + 1) % l.length)

/-- One cell of a stream's packet is cut: false when it must wait. -/
def State.cutOne (s : State) (p : Pkt) (st : Nat) : Bool × State :=
  let k := SMap.get 0 s.fab.cut st
  let own := decide (p.dest = s.fabId)
  let a := s.assign p st k
  if !own && a.isNone then (false, s)
  else
    let sp := p.dest * 2 + spaceOf p.cls
    let seq := SMap.get 0 s.fab.seqs sp
    let s := s.setFab (fun f => { f with seqs := SMap.put 0 f.seqs sp ((seq + 1) % 2 ^ 32), cut := SMap.put 0 f.cut st (k + 1) })
    let (tx, s) := match own, a with
      | false, some (g, r, nx) => (some (g, r), s.setFab (fun f => { f with ptr := SMap.put 0 f.ptr (st * 16 + r) (nx + 1) }))
      | _, _ => ((none : Option (Nat × Nat)), s)
    let (fcs, s) := s.cellFcs p
    let c := s.mkCell p fcs k seq tx
    let full := match tx with
      | some (g, _) => decide (4096 ≤ s.groupCells g)
      | none => false
    let s := if full then
        let s := s.putPkt { p with bad := true }
        (s.sat1 TM_SPRAY.TXQ_OVF.COUNT).raise Ev.TM_SPRAY.CORE_DROP 0 0 ((tx.map (·.1)).getD 0) 0
      else s.setStaged st (s.staged st ++ [c])
    let s := if c.last then s.cutEnd p.id st else s
    (true, if c.last && full then (match s.pktById p.id with
      | some q => s.departPkt q
      | none => s) else s)

/-- A packet is being cut toward the same device, port group and sequence space (R272). -/
def State.cutTaken (s : State) (p : Pkt) : Bool :=
  s.pkts.any (fun q => (match q.loc with | .cut _ => true | _ => false) && decide (q.dest = p.dest) &&
    decide (q.cellPg = p.cellPg) && decide (spaceOf q.cls = spaceOf p.cls))

/-- A stream cuts while its staging buffer has room; a multicast copy that waits starts when nothing else is cut, under the test of R276
again. -/
def State.cutStream : Nat → State → Nat → State
  | 0, s, _ => s
  | n + 1, s, st =>
    match s.headAt (.cut st) with
    | some p =>
      if s.reading p.id || 256 ≤ (s.staged st).length then s
      else
        match s.cutOne p st with
        | (true, s) => State.cutStream n s st
        | (false, s) => s
    | none =>
      match s.headAt (.cutq st) with
      | some p => if s.cutTaken p || !s.canStart p.bank st p.dest p.cls then s else State.cutStream n (s.cutStart p st) st
      | none => s

/-- Every ingress stream cuts, in ascending order, while TM.SPRAY operates. -/
def State.cutAll (s : State) : State :=
  if s.operating 4146 then (List.range 16).foldl (fun s st => State.cutStream 400 s st) s else s

/-! ### VOQ selection (R318, R321) -/

/-- A stream has a packet to cut. -/
def State.streamBusy (s : State) (st : Nat) : Bool :=
  s.pkts.any (fun q => match q.loc with | .cut x | .cutq x => decide (x = st) | _ => false)

/-- A VOQ is servable (R263, R272, R276, R279, R316, R318). -/
def State.voqServable (s : State) (q : Nat) : Bool :=
  match s.queueHead q with
  | none => false
  | some p =>
    !p.egr && s.pathOk (q / 8) && (decide (p.cls = 7) || !s.xoffBit p.dest p.cellPg) && s.canStart p.bank p.stream p.dest p.cls &&
      !s.streamBusy p.stream && !s.cutTaken p

/-- The servable VOQs. -/
def State.voqQueues (s : State) : List Nat := (s.busyQueues false).filter s.voqServable

/-- The rounds below node 257 are brought up to date. -/
def State.voqSync (s : State) : State := s.syncRounds (fun k => decide (k = 257)) s.voqQueues

/-- One selection at node 257; false when there is nothing to select. -/
def State.voqOne (s : State) : Bool × State :=
  let s := (s.lostSweep (s.busyQueues false)).voqSync
  match State.selectFrom (s.workOf s.voqQueues) true 4 s (nodeKey 0 257) [] with
  | (none, _) => (false, s)
  | (some (q, e, path), t) =>
    match t.queueHead q with
    | none => (false, s)
    | some p => (true, (((t.served 257 path e p.length).dequeueSample p q).cutStart p p.stream).voqSync)

/-- Up to `n` selections. -/
def State.voqMany : Nat → State → State
  | 0, s => s
  | n + 1, s =>
    match s.voqOne with
    | (true, s) => State.voqMany n s
    | (false, s) => s

/-- A word of a packet's on-die buffer units has an uncorrectable error (R16, R305): the packet and the copies that share its units are
bad at their tails. The unit number, which no rule gives the layout of, is free. (DESIGN CHOICE, log entry 7.) -/
def State.dieError (s : State) (id : Nat) : State :=
  match s.pktById id with
  | none => s
  | some p =>
    if p.dieUnits = 0 then s
    else
      let (u, s) := s.freeVal
      let s : State := { s with pkts := s.pkts.map (fun q => if q.family = p.family && q.egr = p.egr then { q with bad := true } else q) }
      (s.sat1 TM_BUF.DIE_UNC.COUNT).raise Ev.TM_BUF.DIE_UNCORRECTABLE 0 0 (u % 786432) 0

/-- VOQ_SELECT (R321): up to 16 selections of one core cycle, and the cutting they begin; `unc` are the packets in whose on-die units
the reads of this cycle meet an uncorrectable word. -/
def State.voqSelect (s : State) (unc : List Nat) : State :=
  if !s.operating 4151 || !s.operating 4146 || !(s.hdr 4149).enable || s.buffersReset then s
  else ((State.voqMany 16 (unc.foldl State.dieError s)).cutAll).flowSweep

def execVoqSelect (s : State) (unc : List Nat := []) : Host.Outcome State Fault Refusal := .next (s.onTm (fun s => s.voqSelect unc))

/-! ### Arrival at TM ingress (R300, R326) -/

/-- A multicast packet is stored once at ingress and replicated (R284, R300, R304). (DEDUCED, log entry 17.) -/
def State.mcastIn (s : State) (p : Pkt) : State :=
  let held := s.mcastIngBytes
  if s.buffersReset then (s.flushLater 1).dropPkt p
  else if s.rf TM_QUEUE.MCAST_ING_LIMIT.UNITS * 256 < held + p.length then (s.sat1 TM_QUEUE.MCAST_ING_DROP.COUNT).dropPkt p
  else
    match s.place p.id p.cls p.length held (s.rf TM_BUF.SPILL_MCAST.UNITS) with
    | (none, s) => ((s.sat1 TM_BUF.BUF_DROP.COUNT).raiseO Ev.TM_BUF.BUF_DROP 0 (some p.cls) none (some (unitsOf p.length))).dropPkt p
    | (some (d, u), s) =>
      let p : Pkt := { p with dieUnits := d, ddr := u, since := s.time }
      let s := (s.movePkt p .residue).expShort p
      match s.pktById p.id with
      | some p => s.ingReplicate p
      | none => s

/-- The packet is the first on the bridge: packets cross it in the order in which they left their strips, those of one cycle in
ascending pipeline (R326). -/
def State.arriveTurn (s : State) (p : Pkt) : Bool :=
  ((s.pkts.find? (fun x => match x.loc with
    | .tmArrive i => decide (i < 16)
    | _ => false)).map (·.id)) = some p.id

/-- TM_INGRESS_ARRIVAL (R300, R326): the oldest packet of a pipeline that has crossed the bridge is policed and admitted. -/
def State.tmArrival (s : State) (i : Nat) : State :=
  if !([4148, 4149, 4150, 4153].all (fun P => (s.hdr P).enable)) then s
  else
    match s.headAt (.tmArrive i) with
    | none => s
    | some p =>
      let p := { p with loc := .tmArrive i }.point 4 s.nowNs
      if !s.arriveTurn p then s
      else
      match s.policeStep p with
      | (false, p, s) => (s.putPkt p).dropPkt p
      | (true, p, s) =>
        match s.expressStep p i with
        | (false, s) => (s.putPkt p).dropPkt p
        | (true, s) =>
          let s := s.putPkt p
          if p.mcast then s.mcastIn p else s.admitTo p p.handle false

def execTmIngressArrival (pipe : Nat) (s : State) : Host.Outcome State Fault Refusal :=
  .next (s.onTm (fun s => s.tmArrival pipe))

/-! ### Injects (R65 to R67) -/

/-- The next descriptor of an inject ring: the ring is used, not stopped, and its tail lies ahead. -/
def State.injWaits (s : State) (c : Nat) : Bool :=
  decide (c < 64) && s.operating 4106 && !s.hc.d3hot && s.hc.bme && s.rfb TM_PCIE.LINK_STATUS.LINK_UP &&
    decide (s.rfi TM_HPKT.INJ_CTRL.ENABLE c = 1) && !SMap.get false s.hp.stopped (64 + c) &&
    decide (s.rfi TM_HPKT.INJ_STATUS.HEAD c ≠ SMap.get 0 s.hp.injTail c)

/-- A failed fetch stops the ring (R46, R61). -/
def State.injStop (s : State) (c : Nat) : State :=
  ({ s with hp := { s.hp with stopped := SMap.put false s.hp.stopped (64 + c) true } }).raiseO Ev.TM_HPKT.FETCH_ERR 0 (some 1) none none

/-- The packet of a MODE 1 inject; what no rule gives it (ingress port, rate code, stream) is free. -/
def State.injPkt (s : State) (m : Nat) (data : Bytes) (bad : Bool) : Pkt × State :=
  let (v, s) := s.freeVal
  let p := s.freshPkt (.tmArrive 16) data (v % 512) (v / 512 % 8) bad
  let p := ((p.mdSet 10 3 (bits m 11 3)).mdSet 13 2 (bits m 14 2)).mdSet 15 1 (bits m 16 1)
  let p := ((p.mdSet 32 32 (bits m 32 32)).mdSet 84 19 (bits m 64 19)).mdSet 128 32 (bits m 96 32)
  ({ p with stream := v / 4096 % 16 }, s)

/-- A fetched inject: its metadata `m` and frame, its descriptor's address and phase. Where several rules of R67 refuse it, BAD_LEN goes
before BAD_MODE, BAD_PORT and DROPPED (DESIGN CHOICE, log entry 31). -/
def State.injTake (s : State) (c addr ph m len : Nat) (data : Bytes) (bad : Bool) : State :=
  let mode := bits m 0 2
  let port := bits m 2 9
  if len < 92 || 15996 + 32 < len then s.injBack c addr ph 1
  else if 2 ≤ mode then s.injBack c addr ph 3
  else if mode = 0 && 256 ≤ port then s.injBack c addr ph 2
  else if s.noEpoch then s.injBack c addr ph 4
  else if mode = 0 then
    let p := (s.freshPkt (.injectIn (port / 16)) data port (s.pg FE_PG.PORT_CFG.SPEED port) bad).mdSet 15 1 (bits m 16 1)
    (s.newPkt { p with inj := some (c, addr, ph) }).2
  else
    let (p, s) := s.injPkt m data bad
    let (id, s) := s.newPkt { p with inj := some (c, addr, ph) }
    let p := { p with inj := some (c, addr, ph), id := id }.point 4 s.nowNs
    let voq := match s.handleChan p.handle with
      | some x => !(s.chan x).egress
      | none => false
    if voq then
      match s.expressStep p 0x1F with
      | (false, s) => s.injRefuse p 8
      | (true, s) => s.injAdmit p p.handle
    else s.injAdmit p p.handle

/-- INJECT_FETCH (R61, R65 to R67): the next descriptor of an inject ring is fetched, and the buffer it names; `bad` that a
word of the frame met an uncorrectable error (R16). (DEDUCED, log entry 8.) -/
def State.injFetch (s : State) (c : Nat) (desc buf : ReadResult) (bad : Bool) : State :=
  if s.fetchStopped || !s.injWaits c then s
  else
    let h := s.rfi TM_HPKT.INJ_STATUS.HEAD c
    let addr := s.rfi TM_HPKT.INJ_BASE_HI.ADDR c * 2 ^ 32 + s.rfi TM_HPKT.INJ_BASE_LO.ADDR c * 2 ^ 12 + 16 * h
    let s := s.emit (.hostRead addr 16)
    match desc with
    | .fail => s.injStop c
    | .data d =>
      let len := leNat ((d.drop 8).take 2)
      let s := s.emit (.hostRead (le64 d 0) len)
      match buf with
      | .fail => s.injStop c
      | .data b =>
        let ph := s.rfi TM_HPKT.INJ_STATUS.PHASE c
        let n := (h + 1) % 2 ^ s.rfi TM_HPKT.INJ_CTRL.LOG2_SIZE c
        let s := s.wfi TM_HPKT.INJ_STATUS.HEAD c n
        let s := if n = 0 then s.wfi TM_HPKT.INJ_STATUS.PHASE c (1 - ph) else s
        s.injTake c addr ph (leNat (b.take 32)) len ((b.drop 32).take (len - 32)) bad

def execInjectFetch (chan : Nat) (desc buf : ReadResult) (bad : Bool) (s : State) : Host.Outcome State Fault Refusal :=
  .next (s.onTm (fun s => s.injFetch chan desc buf bad))

end Sys2Proof.Machine
end

