-- ==== Sys2Proof/Machine/Fabric.lean ====
section
/-! DEFINITION. The switch core (R269 to R271), reorder and reassembly (R280 to R282), the transmit frame and the spray
pattern (R243 to R252, R273 to R278), and the installing of patterns (R279, R288). -/

namespace Sys2Proof.Machine

/-! ### Reassembly (R282) -/

/-- Key of a reorder context and of a packet context. -/
def ctxKey (src sp : Nat) : Nat := src * 2 + sp
def rasKey (src pg sp : Nat) : Nat := (src * 32 + pg) * 2 + sp

/-- Packets handed to the bridge before their last byte had come give their units back once it has (R305). -/
def State.tailUnits (s : State) : State :=
  (s.pkts.filter (fun p => p.sending && p.whole && (decide (p.dieUnits ≠ 0) || !p.ddr.isEmpty))).foldl (fun s p =>
    match s.pktById p.id with
    | some q => s.unitsOff q
    | none => s) s

/-- Every packet of a family on the egress side, changed by what a cell brings. -/
def State.mapFamily (s : State) (id : Nat) (f : Pkt → Pkt) : State :=
  ({ s with pkts := s.pkts.map (fun (p : Pkt) => if p.family = id && p.egr then f p else p) } : State).tailUnits

/-- The frame in the cells received so far: the last one ends with the FCS (R11). -/
def cellFrame (last : Bool) (b : Bytes) : Bytes := if last then b.take (b.length - 4) else b

/-- An open packet ends bad: it is found bad at its tail and counted in REORD_LOSS. -/
def State.rasBad (s : State) (k : Nat) : State :=
  let id := SMap.get 0 s.fab.ras k
  if id = 0 then s
  else
    let s := s.setFab (fun f => { f with ras := SMap.put 0 f.ras k 0 })
    (s.mapFamily id (fun p => { p with whole := true, bad := true })).sat1 TM_REORD.REORD_LOSS.COUNT

/-- Packets of this device in the switch core toward a packet context, before packet `id`, have passed: a packet whose FIRST
cell was lost departs. -/
def State.ownOver (s : State) (dest pg sp id : Nat) : State :=
  let ps := (s.at_ .core).filter (fun p => decide (p.dest = dest) && decide (p.cellPg = pg) && decide (spaceOf p.cls = sp))
  (ps.takeWhile (fun p => decide (p.id ≠ id))).foldl (fun s p => s.departPkt p) s

/-- The last cell of a packet of this device has entered reassembly: its ingress part is over (R306, R423). -/
def State.ownEnd (s : State) (id : Nat) : State :=
  match s.pktById id with
  | none => s
  | some p =>
    let p := p.point 6 s.nowNs
    (s.traceHalf p true false false false).departPkt p

/-- The egress part of a packet whose FIRST cell is released: a packet of this device keeps its stamp, a packet from another
device is stamped (R72, R75, R282). The EPOCH bit it came with is in no field of a trace record, whose bit 101 is this device's stamp
(R425). (DESIGN CHOICE, log entry 5.) -/
def State.rasOpen (s : State) (c : Cell) : Option Pkt × State :=
  let md := BitVec.ofNat 512 (leNat (c.data.take 64))
  let data := cellFrame c.last (c.data.drop 64)
  if c.own then
    match s.pktById c.pkt with
    | none => (none, s)
    | some q =>
      let s := s.putPkt { q with passed := true }
      let r : Pkt := { q with
        loc := .reasm, md := md, data := data, bad := c.bad, whole := c.last, begun := false, dieUnits := 0, ddr := [],
        times := [], inj := none, egr := true, share := 0, hold := false, passed := false }
      (some (r.point 7 c.ns), s)
  else if s.noEpoch then (none, s)
  else
    let p := s.freshPkt .reasm data 0 0 c.bad
    let r : Pkt := { p with md := md, whole := c.last, egr := true, src := c.srcDev, dest := s.fabId }
    let r := if s.rfb FE_TRACE.CTRL.KEEP_REMOTE then r else r.mdSet 15 1 0
    let b := s.activeBank
    (some ((r.mdSet 9 1 (b2n b)).point 7 c.ns), s.stampCount b)

/-- A packet at egress reassembly goes on toward its queue (R282, R285, R300). -/
def State.rasRoute (s : State) (p : Pkt) : State :=
  if p.mcast then s.egrReplicate p
  else s.admitTo p (if p.outPort < 257 then s.rfi TM_CHAN.PORT_CHAN.HANDLE p.outPort else 0) true

/-- A released cell enters reassembly (R282). -/
def State.reassemble (s : State) (c : Cell) : State :=
  let sp := spaceOf c.cls
  let k := rasKey c.srcDev c.destPg sp
  if c.first then
    let s := s.rasBad k
    let s := if c.own then s.ownOver c.destDev c.destPg sp c.pkt else s
    match s.rasOpen c with
    | (none, s) => s
    | (some p, s) =>
      let p := if c.last then p.point 8 s.nowNs else p
      let (id, s) := s.newPkt p
      let s := if c.last then s else s.setFab (fun f => { f with ras := SMap.put 0 f.ras k id })
      let s := s.rasRoute { p with id := id }
      if c.last && c.own then s.ownEnd c.pkt else s
  else
    let id := SMap.get 0 s.fab.ras k
    if id = 0 then
      let s := s.sat1 TM_REORD.REORD_LOSS.COUNT
      if c.last && c.own then s.ownEnd c.pkt else s
    else
      let s := s.mapFamily id (fun p =>
        let p : Pkt := { p with data := cellFrame c.last (p.data ++ c.data), whole := c.last, bad := p.bad || c.bad }
        if c.last then p.point 8 s.nowNs else p)
      let s := if c.last then s.setFab (fun f => { f with ras := SMap.put 0 f.ras k 0 }) else s
      if c.last && c.own then s.ownEnd c.pkt else s

/-! ### Reorder (R280, R281) -/

def Reord.empty : Reord := ⟨none, []⟩
def State.ctx (s : State) (k : Nat) : Reord := SMap.get Reord.empty s.fab.ctxs k
def State.setCtx (s : State) (k : Nat) (r : Reord) : State := s.setFab (fun f => { f with ctxs := SMap.put Reord.empty f.ctxs k r })

/-- Position of a SEQ from another, as a signed 32-bit value. -/
def seqDiff (a b : Nat) : Int := toSigned 32 ((a + 2 ^ 32 - b % 2 ^ 32) % 2 ^ 32)

/-- W of a space in core cycles (R280). -/
def State.reordWindow (s : State) (sp : Nat) : Nat :=
  cyNs (orWhenZero (s.rfBank (if sp = 1 then TM_REORD.WINDOW_EXP.NS else TM_REORD.WINDOW_NORM.NS) s.activeBank 0) 1)

/-- Cells a space holds. -/
def State.heldCells (s : State) (sp : Nat) : Nat :=
  sumN ((s.fab.ctxs.filter (fun e => decide (e.1 % 2 = sp))).map (fun e => e.2.held.length))

/-- The arrival of the oldest held cell of a context. -/
def Reord.oldest (r : Reord) : Nat := r.held.foldl (fun m e => min m e.2) ((r.held.head?.map (·.2)).getD 0)

/-- The gap timer of a context follows its oldest held cell. -/
def State.gapTimer (s : State) (k : Nat) : State :=
  let r := s.ctx k
  if r.next.isNone || r.held.isEmpty then s.disarm .reordGap k
  else s.armAt .reordGap k (r.oldest + s.reordWindow (k % 2))

/-- The held cell with SEQ `n` and those behind it without a gap are released. -/
def State.releaseRun : Nat → State → Nat → State
  | 0, s, _ => s
  | fuel + 1, s, k =>
    let r := s.ctx k
    match r.next with
    | none => s
    | some n =>
      match r.held.find? (fun e => decide (e.1.seq = n)) with
      | none => s
      | some (c, _) =>
        let late := r.held.filter (fun e => decide (e.1.seq = n))
        let s := s.setCtx k ⟨some ((n + 1) % 2 ^ 32), r.held.filter (fun e => decide (e.1.seq ≠ n))⟩
        let s := (s.inc1 TM_REORD.RELEASED.COUNT).sat TM_REORD.LATE_DROP.COUNT 0 0 (late.length - 1)
        State.releaseRun fuel (s.reassemble c) k

/-- Numbers of a context are declared lost: every open packet of its source and space ends bad (R282).
(DEDUCED, log entry 18.) -/
def State.declareLost (s : State) (k n : Nat) : State :=
  let s := s.sat TM_REORD.LOST_CELLS.COUNT 0 0 n
  let s := s.raise Ev.TM_REORD.CELL_LOST 0 0 (k / 2 + k % 2 * 2 ^ 16) n
  (List.range 32).foldl (fun s pg => s.rasBad (rasKey (k / 2) pg (k % 2))) s

/-- The lowest held SEQ of a context counted from `base`. (DEDUCED, log entry 18.) -/
def Reord.lowest (r : Reord) (base : Nat) : Nat :=
  match r.held with
  | [] => base
  | e :: es => es.foldl (fun m x => if seqDiff x.1.seq base < seqDiff m base then x.1.seq else m) e.1.seq

/-- Held cells behind NEXT are discarded as late (R280). -/
def State.dropLate (s : State) (k : Nat) : State :=
  let r := s.ctx k
  match r.next with
  | none => s
  | some n =>
    let late := r.held.filter (fun e => decide (seqDiff e.1.seq n < 0))
    let s := (s.setCtx k { r with held := r.held.filter (fun e => decide (0 ≤ seqDiff e.1.seq n)) }).sat
      TM_REORD.LATE_DROP.COUNT 0 0 late.length
    late.foldl (fun s e => if e.1.own && e.1.last then s.ownEnd e.1.pkt else s) s

/-- The gap of a context expires (R280), and those behind it whose wait is over too. -/
def State.gapOver : Nat → State → Nat → State
  | 0, s, _ => s
  | fuel + 1, s, k =>
    let s := s.dropLate k
    let r := s.ctx k
    if r.held.isEmpty then s
    else
      let base := r.next.getD ((r.held.head?.map (·.1.seq)).getD 0)
      let lo := r.lowest base
      let lost := match r.next with
        | some n => (seqDiff lo n).toNat
        | none => 0
      let s := if lost = 0 then s else s.declareLost k lost
      let s := s.setCtx k ⟨some lo, r.held⟩
      let s := State.releaseRun (r.held.length + 1) s k
      let r := s.ctx k
      if r.held.isEmpty || s.cycle < r.oldest + s.reordWindow (k % 2) then s else State.gapOver fuel s k

/-- A full share makes room: the context of the space whose oldest held cell came first skips its gap (R281). -/
def State.forcedSkip (s : State) (sp : Nat) : State :=
  let cs := s.fab.ctxs.filter (fun e => decide (e.1 % 2 = sp) && !e.2.held.isEmpty)
  match cs with
  | [] => s
  | e :: es =>
    let k := (es.foldl (fun (m : Nat × Reord) x => if x.2.oldest < m.2.oldest then x else m) e).1
    let n := (s.ctx k).held.length
    let s := (s.sat1 TM_REORD.FORCED_SKIP.COUNT).raise Ev.TM_REORD.FORCED_SKIP 0 0 (k / 2 + k % 2 * 2 ^ 16) n
    ((State.gapOver (n + 1) s k).disarm .reordCollect k).gapTimer k

/-- Share of a space (R281). -/
def reordShare (sp : Nat) : Nat := if sp = 1 then 4096 else 65536 - 4096

/-- A cell reaches reorder (R280, R281). -/
def State.reordArrive (s : State) (c : Cell) : State :=
  let sp := spaceOf c.cls
  let k := ctxKey c.srcDev sp
  if !s.operating 4147 then (if c.own && c.last then s.ownEnd c.pkt else s)
  else
    let s := s.arm .reordIdle k (orWhenZero (s.rf TM_REORD.CTX_IDLE.MS) 1 * cyMs)
    let hold := fun (s : State) =>
      let s := if reordShare sp ≤ s.heldCells sp then s.forcedSkip sp else s
      let r := s.ctx k
      let s := s.setCtx k { r with held := r.held ++ [(c, c.since)] }
      match r.next with
      | none => if s.armed .reordCollect k then s else s.armAt .reordCollect k (c.since + s.reordWindow sp)
      | some _ => (State.releaseRun (r.held.length + 2) s k).gapTimer k
    match (s.ctx k).next with
    | none => hold s
    | some n =>
      let d := seqDiff c.seq n
      if d < 0 then
        let s := s.sat1 TM_REORD.LATE_DROP.COUNT
        if c.own && c.last then s.ownEnd c.pkt else s
      else if d = 0 then
        let r := s.ctx k
        let s := s.setCtx k ⟨some ((n + 1) % 2 ^ 32), r.held⟩
        let s := (s.inc1 TM_REORD.RELEASED.COUNT).reassemble c
        (State.releaseRun (r.held.length + 1) s k).gapTimer k
      else hold s

/-- A context that no cell has reached for CTX_IDLE is new once it holds none (R280). -/
def State.ctxRest (s : State) (k : Nat) : State :=
  if !s.armed .reordIdle k && (s.ctx k).held.isEmpty then s.setCtx k Reord.empty else s

/-- REORDER_COLLECTION_EXPIRE (R280): NEXT becomes the lowest SEQ held, and release begins. -/
def State.collectOver (s : State) (src sp : Nat) : State :=
  let k := ctxKey src sp
  match s.expire .reordCollect k with
  | none => s
  | some s =>
    let r := s.ctx k
    let lo := r.lowest ((r.held.head?.map (·.1.seq)).getD 0)
    let s := (s.setCtx k ⟨some lo, r.held⟩).dropLate k
    ((State.releaseRun (r.held.length + 1) s k).gapTimer k).ctxRest k

def execReorderCollectionExpire (src : Nat) (express : Bool) (s : State) : Host.Outcome State Fault Refusal :=
  .next (s.onTm (fun s => s.collectOver src (b2n express)))

/-- REORDER_GAP_EXPIRE (R280). -/
def State.gapExpire (s : State) (src sp : Nat) : State :=
  let k := ctxKey src sp
  match s.expire .reordGap k with
  | none => s
  | some s => ((State.gapOver ((s.ctx k).held.length + 1) s k).gapTimer k).ctxRest k

def execReorderGapExpire (src : Nat) (express : Bool) (s : State) : Host.Outcome State Fault Refusal :=
  .next (s.onTm (fun s => s.gapExpire src (b2n express)))

/-- REORDER_CTX_IDLE (R280): a context no cell has reached for CTX_IDLE is new; cells it still holds are released at the end of their
window, and a cell that comes before joins their collection. (DEDUCED, log entry 18.) -/
def State.ctxIdle (s : State) (src sp : Nat) : State :=
  let k := ctxKey src sp
  match s.expire .reordIdle k with
  | none => s
  | some s =>
    let r := s.ctx k
    if r.held.isEmpty then s.setCtx k Reord.empty
    else ((s.setCtx k { r with next := none }).disarm .reordGap k).armAt .reordCollect k (r.oldest + s.reordWindow sp)

def execReorderCtxIdle (src : Nat) (express : Bool) (s : State) : Host.Outcome State Fault Refusal :=
  .next (s.onTm (fun s => s.ctxIdle src (b2n express)))

/-! ### The switch core (R269, R270) -/

/-- The destination of a cell: a transmit group, or 32 + its reassembly unit. -/
def Cell.dst (c : Cell) : Nat := match c.tx with | some (g, _) => g | none => 32 + c.destPg / 2
def Cell.exp (c : Cell) : Nat := spaceOf c.cls

/-- The stage tables of an epoch bank: the switch-core bank of source `k` (row t), and of destination `k` (row 64 + t). -/
def State.stageBank (s : State) (b : Bool) (row k : Nat) : Nat := byteAt ((s.bank b).sec 0x0040) (64 * row + k)

/-- The epoch bank whose pattern carries a cell (R71): its packet's stamp; a received cell is not stamped yet. (DEDUCED, log entry
18.) -/
def State.cellBank (s : State) (c : Cell) : Bool := if c.own then c.epoch else s.activeBank

/-- A cell leaves the switch core at its destination: into its transmit group, or into reorder. -/
def State.coreOut (s : State) (c : Cell) : State :=
  match c.tx with
  | some (g, r) =>
    let s := s.setFab (fun f => { f with txq := SMap.upd [] f.txq (txKey g r c.exp) (· ++ [c]) })
    if !c.last then s
    else
      match s.pktById c.pkt with
      | some p =>
        let p := p.point 6 s.nowNs
        (s.putPkt p).traceHalf p true false false false
      | none => s
  | none => s.reordArrive c

/-- The head cell of a bank's queue for a destination, when the pattern of its epoch bank connects the two at row `t`. -/
def State.coreHead (s : State) (t d e b : Nat) : Option (Nat × Cell) :=
  ((SMap.get [] s.fab.banks (bankKey b d e)).head?).bind (fun c =>
    if s.stageBank (s.cellBank c) (64 + t) d = b then some (bankKey b d e, c) else none)

/-- The cell a destination takes next: class 7 first, and of two banks the active epoch bank's pattern first (DESIGN CHOICE, log
entry 18). (DEDUCED, log entry 18.) -/
def State.corePick (s : State) (t d : Nat) : Option (Nat × Cell) :=
  let x := s.stageBank s.activeBank (64 + t) d
  let y := s.stageBank (!s.activeBank) (64 + t) d
  ((s.coreHead t d 1 x).orElse (fun _ => s.coreHead t d 1 y)).orElse (fun _ => (s.coreHead t d 0 x).orElse (fun _ => s.coreHead t d 0 y))

/-- Up to `n` cells for a destination. -/
def State.coreTake : Nat → State → Nat → Nat → State
  | 0, s, _, _ => s
  | n + 1, s, t, d =>
    match s.corePick t d with
    | none => s
    | some (k, c) => State.coreTake n ((s.setFab (fun f => { f with banks := SMap.upd [] f.banks k (·.drop 1) })).coreOut c) t d

/-- Up to `n` of a source's oldest staged cells whose bank queue has room go to the bank its pattern connects it to. -/
def State.corePut : Nat → State → Nat → Nat → State
  | 0, s, _, _ => s
  | n + 1, s, t, src =>
    let dest := fun (c : Cell) => bankKey (s.stageBank (s.cellBank c) t src) c.dst c.exp
    let room := fun (c : Cell) => decide ((SMap.get [] s.fab.banks (dest c)).length < 24)
    let l := s.staged src
    match firstIdx room l with
    | none => s
    | some i =>
      match l[i]? with
      | none => s
      | some c =>
        let k := dest c
        let c : Cell := { c with since := s.cycle, ns := s.nowNs }
        let s := s.setStaged src (l.take i ++ l.drop (i + 1))
        State.corePut n (s.setFab (fun f => { f with banks := SMap.upd [] f.banks k (· ++ [c]) })) t src

/-- SWITCH_CORE_STEP (R270): one core cycle of the switch core; the streams then go on cutting. (DEDUCED, log entry 18.) -/
def State.coreStep (s : State) : State :=
  if s.noEpoch || !s.operating 4146 then s.advance 1
  else
    let t := s.cycle % 64
    let s := (List.range 48).foldl (fun s d => State.coreTake 2 s t d) s
    let s := (List.range 48).foldl (fun s k => State.corePut 2 s t k) s
    (s.advance 1).cutAll

def execSwitchCoreStep (s : State) : Host.Outcome State Fault Refusal := .next (s.onTm (fun s => s.coreStep))

/-! ### Cells received (R250, R252) -/

/-- Bits of a 16-byte cell header, bit 127 first. -/
def hdrBits (h : Bytes) (lo w : Nat) : Nat := bits (beNat h) lo w

/-- FABRIC_CELL_RX (R252, R270): the 256 bytes of cell position `pos` of a frame as the lane brings them; `marked` that a bit of
an uncorrectable codeword lies in them. -/
def State.cellRx (s : State) (n pos : Nat) (raw : Bytes) (marked : Bool) : State :=
  if !s.flEnabled n || s.fl TM_FLINK.LINK_STATUS.ALIGN n ≠ alInFrame || 31 ≤ pos then s
  else
    let b := scramble (64 + 256 * pos) (raw.take 256)
    let h := b.take 16
    if marked then s.flSat TM_FLINK.CNT.RX_DISCARD n 1
    else if hdrBits h 0 16 ≠ crc16 (h.take 14) then s.flSat TM_FLINK.CNT.HCRC_ERR n 1
    else if hdrBits h 126 2 = 0 then s
    else if !s.inService n || hdrBits h 126 2 ≠ 1 || hdrBits h 112 10 ≠ s.fabId || s.noEpoch || s.inReset 4146 then
      s.flSat TM_FLINK.CNT.RX_DISCARD n 1
    else
      let s := s.flInc TM_FLINK.CNT.CELLS_RX n 1
      if s.admitStopped then s.doldDrop 1 else
      let src := 16 + n / 10
      if 256 ≤ (s.staged src).length then
        (s.sat1 TM_SPRAY.CORE_DROP.COUNT).raise Ev.TM_SPRAY.CORE_DROP 0 0 src 0
      else
        let last := decide (hdrBits h 124 1 = 1)
        let len := if last then hdrBits h 80 8 else 240
        let c : Cell :=
          { first := decide (hdrBits h 125 1 = 1), last := last, bad := decide (hdrBits h 123 1 = 1),
            epoch := decide (hdrBits h 122 1 = 1), destDev := hdrBits h 112 10, destPg := hdrBits h 107 5, cls := hdrBits h 104 3,
            srcDev := hdrBits h 94 10, lastLen := hdrBits h 80 8, seq := hdrBits h 48 32, data := (b.drop 16).take len, own := false,
            pkt := 0, tx := none, since := 0, ns := 0 }
        s.setStaged src (s.staged src ++ [c])

/-- FABRIC_CELL_RX; a lane in NEAR_LOOPBACK hears itself alone (R238). -/
def execFabricCellRx (link pos : Nat) (bytes : Bytes) (marked : Bool) (s : State) : Host.Outcome State Fault Refusal :=
  .next (s.onTm (fun s => if s.flLooped link then s else s.cellRx link pos bytes marked))

/-! ### Cells sent (R250, R277, R278) -/

/-- The header of a DATA cell. -/
def Cell.header (c : Cell) : Bytes :=
  let v := 1 * 2 ^ 126 + b2n c.first * 2 ^ 125 + b2n c.last * 2 ^ 124 + b2n c.bad * 2 ^ 123 + b2n c.epoch * 2 ^ 122 +
    c.destDev % 1024 * 2 ^ 112 + c.destPg % 32 * 2 ^ 107 + c.cls % 8 * 2 ^ 104 + c.srcDev % 1024 * 2 ^ 94 +
    c.lastLen % 256 * 2 ^ 80 + c.seq % 2 ^ 32 * 2 ^ 48
  let h := (toBe 16 v).take 14
  h ++ toBe 2 (crc16 h)

/-- An idle cell (R250). -/
def idleCell : Bytes := let h : Bytes := List.replicate 14 0; h ++ toBe 2 (crc16 h) ++ List.replicate 240 0

/-- The 256 bytes of a cell position are put on the lane, and come back to a lane in NEAR_LOOPBACK. -/
def State.cellOut (s : State) (n : Nat) (b : Bytes) : State :=
  let s' := s.flOut n (.cell n (b.take 16) (b.drop 16))
  if s.flLooped n && !s.flMuted n then s'.cellRx n s.fab.pos b false else s'

/-- A cell goes out at the present position of a link's frame; unused payload bytes are free. -/
def State.sendCell (s : State) (n : Nat) (c : Option Cell) : State :=
  let off := 64 + 256 * s.fab.pos
  match c with
  | none => s.cellOut n (scramble off idleCell)
  | some c =>
    let (pad, s) := State.freeBytes (240 - c.data.length) s
    let s := (s.cellOut n (scramble off (c.header ++ c.data ++ pad))).flInc TM_FLINK.CNT.CELLS_TX n 1
    match c.own, c.last, s.pktById c.pkt with
    | true, true, some p => s.departPkt p
    | true, false, some p => if c.first then s.putPkt { p with begun := true } else s
    | _, _, _ => s

/-- A DATA cell that can reach no device is dropped (R278); its packet's last cell takes the packet with it. -/
def State.noReach (s : State) (n : Nat) (c : Cell) : State :=
  let s := (s.sat1 TM_SPRAY.NO_REACH_DROP.COUNT).raise Ev.TM_SPRAY.NO_REACH_DROP 0 0 n c.destDev
  match c.last, s.pktById c.pkt with
  | true, some p => s.departPkt p
  | _, _ => s

/-- The bank whose pattern runs, and its section. -/
def State.patSec (s : State) : Bytes := match s.fab.patBank with | some b => (s.bank b).sec 0x0041 | none => []

/-- The slot of the frame position (R273): frame `mfi` of a pattern of the given PAT_LOG. -/
def slotIdx (log mfi pos : Nat) : Nat :=
  let f := mfi % (4 * 2 ^ log)
  f / 4 * 125 + f % 4 * 31 + pos

/-- The queue a slot entry serves first: its key, when it holds a cell (R277). -/
def State.slotHead (s : State) (g e : Nat) : Option (Nat × Cell) :=
  let r := bits e 2 4
  let at_ := fun x => ((SMap.get [] s.fab.txq (txKey g r x)).head?).map (fun c => (txKey g r x, c))
  if bits e 0 2 = 2 then (match at_ 1 with | some x => some x | none => at_ 0)
  else if bits e 0 2 = 1 then at_ 0 else none

/-- The head of a group's queue leaves it. -/
def State.txPop (s : State) (k : Nat) : State := s.setFab (fun f => { f with txq := SMap.upd [] f.txq k (·.drop 1) })

/-- What the slots of a group do at one position: the cell each link sends so far (none: idle), and the links claimed as
alternates. -/
structure SlotRun where
  sends : List (Nat × Cell)
  claimed : List Nat

/-- The slot of one link (R277, R278). -/
def State.slotLink (s : State) (sec : Bytes) (j g l : Nat) (x : SlotRun) : SlotRun × State :=
  let n := 10 * g + l
  let e := slotEntry sec n j
  let kind := bits e 0 2
  if kind ≠ 1 && kind ≠ 2 then (x, s)
  else
    let a := 10 * g + bits e 6 4
    let own := s.inService n && !s.fab.away.contains n
    let free := s.inService a && !x.claimed.contains a
    if own then
      match s.slotHead g e with
      | none => (x, s)
      | some (k, c) =>
        let s := s.txPop k
        if s.linkReaches n c.destDev then ({ x with sends := (n, c) :: x.sends }, s)
        else if free && s.linkReaches a c.destDev then
          ({ sends := (a, c) :: x.sends, claimed := a :: x.claimed }, s.inc1 TM_SPRAY.ALT_USED.COUNT)
        else (x, s.noReach n c)
    else if !free then (x, s.sat1 TM_SPRAY.SLOT_LOST.COUNT)
    else
      let x : SlotRun := { x with claimed := a :: x.claimed }
      match s.slotHead g e with
      | none => (x, s)
      | some (k, c) =>
        let s := s.txPop k
        if s.linkReaches a c.destDev then ({ x with sends := (a, c) :: x.sends }, s.inc1 TM_SPRAY.ALT_USED.COUNT)
        else (x, s.noReach a c)

/-- SPRAY_SLOT_SEND (R243, R277): the next cell position of the transmit frame on every link. -/
def State.spraySlot (s : State) : State :=
  if 31 ≤ s.fab.pos then s
  else
    let sec := s.patSec
    let j := slotIdx (sprayLog sec) s.fab.mfi s.fab.pos
    let s := (List.range 32).foldl (fun (s : State) g =>
      let (x, s) := if s.fab.patBank.isSome && s.operating 4146 then
          (List.range 10).foldl (fun (a : SlotRun × State) l => a.2.slotLink sec j g l a.1) ((⟨[], []⟩ : SlotRun), s)
        else ((⟨[], []⟩ : SlotRun), s)
      (List.range 10).foldl (fun (s : State) l =>
        let n := 10 * g + l
        if s.flTx n then s.sendCell n ((x.sends.find? (fun e => decide (e.1 = n))).map (·.2)) else s) s) s
    s.setFab (fun f => { f with pos := f.pos + 1 })

def execSpraySlotSend (s : State) : Host.Outcome State Fault Refusal := .next (s.onTm (fun s => s.spraySlot))

/-! ### Frames (R243, R246, R249, R258, R261, R262) -/

/-- The STATUS byte a link sends (R258). -/
def State.statusTx (s : State) (n : Nat) : Nat :=
  let r := s.fl TM_FLINK.LINK_CFG.REACT n
  let on := fun (f : Fld) (b : Nat) => s.flb f n && bit r b
  let rdi := on TM_FLINK.LINK_STATUS.LOF 0 || on TM_FLINK.LINK_STATUS.LOM 1 || on TM_FLINK.LINK_STATUS.TIM 2 ||
    on TM_FLINK.LINK_STATUS.MODE_MISMATCH 2 || on TM_FLINK.LINK_STATUS.DEG 3 || s.flb TM_FLINK.LINK_CFG.FORCE_OUT n
  b2n rdi * 128 + b2n (!s.inService n) * 64 + s.rfp TM_FLINK.FAB_CTRL.BTB (n / 32) 0 * 32

/-- A flow-control entry of a local port group (R262). -/
def State.fcEntryTx (s : State) (g : Nat) (xoff : Bool) : Nat := 2 ^ 31 + b2n xoff * 2 ^ 30 + g % 32 * 2 ^ 10 + s.fabId

/-- The four entries of a frame: changes first, then refreshes in turn. -/
def State.fcFrame (s : State) : List Nat × State :=
  let ch := s.fab.fcQ.take 4
  let m := 4 - ch.length
  let re := (List.range m).map (fun i => (s.fab.fcNext + i) % 32)
  (ch.map (fun e => s.fcEntryTx e.1 e.2) ++ re.map (fun g => s.fcEntryTx g (bit s.fab.pgXoff g)),
    s.setFab (fun f => { f with fcQ := f.fcQ.drop 4, fcNext := (f.fcNext + m) % 32 }))

/-- The overhead of a link's frame, scrambled. -/
def State.overheadTx (s : State) (n mfi : Nat) (fc : List Nat) : Bytes :=
  let own := s.fabId
  let adv := decide (s.rfp TM_FLINK.FAB_CTRL.ADVERTISE (n / 32) 0 = 1) && decide (own / 128 = mfi % 8)
  let b := faw ++ [BitVec.ofNat 8 mfi, BitVec.ofNat 8 (255 - mfi), (s.txTrace n).getD (mfi % 64) 0, BitVec.ofNat 8 (s.statusTx n)] ++
    toBe 16 (if adv then 2 ^ (own % 128) else 0) ++ fc.flatMap (toBe 4) ++ List.replicate 16 0
  faw ++ scramble 8 ((b ++ toLe 4 (crc32 b)).drop 8)

/-- A frame overhead is put on the lane, and comes back to a lane in NEAR_LOOPBACK. -/
def State.overheadOut (s : State) (n : Nat) (b : Bytes) : State :=
  let s' := s.flOut n (.overhead n b)
  if s.flLooped n && !s.flMuted n then s'.overheadRx n b false else s'

/-- TX_FRAME_START (R243): once every position of a frame has been sent, the next frame starts on every link. -/
def State.frameStart (s : State) : State :=
  if s.fab.pos < 31 then s
  else
    let mfi := (s.fab.mfi + 1) % 256
    let (fc, s) := s.fcFrame
    let s := s.setFab (fun f => { f with mfi := mfi, pos := 0 })
    (List.range 320).foldl (fun (s : State) n => if s.flTx n then s.overheadOut n (s.overheadTx n mfi fc) else s) s

def execTxFrameStart (s : State) : Host.Outcome State Fault Refusal := .next (s.onTm (fun s => s.frameStart))

/-- The present frame start is a pattern boundary of the active geometry (R273). -/
def State.atBoundary (s : State) : Bool :=
  !s.noEpoch && decide (s.fab.pos = 0) && decide (s.fab.mfi % (4 * 2 ^ sprayLog s.sprayNow) = 0)

/-- PATTERN_BOUNDARY (R273, R278): the active bank's geometry is in force, and links back in IN_SERVICE take their slots.
(DEDUCED, log entry 18.) -/
def State.patternBoundary (s : State) : State :=
  if s.atBoundary then
    let out := s.fab.away.filter (fun n => !s.inService n)
    s.setFab (fun f => { f with patBank := some s.activeBank, away := out })
  else s

def execPatternBoundary (s : State) : Host.Outcome State Fault Refusal := .next (s.onTm (fun s => s.patternBoundary))

/-! ### Installing a pattern (R279, R288) -/

/-- Words of the pending image. -/
def State.pendWords (s : State) : Nat := (s.sprayNow.length - 64) / 4

/-- SPRAY_COPY_ACTIVE (R279). -/
def State.copyActive (s : State) : State :=
  if !s.blockOpen 4146 || s.rfb TM_SPRAY.INSTALL.PENDING then s
  else
    let d := s.sprayNow
    let ws := ((List.range s.pendWords).map (fun w => (w, leAt d (64 + 4 * w) 4))).filter (fun e => decide (e.2 ≠ 0))
    s.setFab (fun f => { f with pend := ws })

def execSprayCopyActive (s : State) : Host.Outcome State Fault Refusal := .next (s.onTm (fun s => s.copyActive))

/-- A read or write of PEND_DATA: the word at PEND_ADDR, which then advances; writes while PENDING are discarded. -/
def State.pendAccess (s : State) (w : Option Nat) : State :=
  if !s.blockOpen 4146 then s
  else
    let a := s.rf TM_SPRAY.PEND_ADDR.WORD
    let s := match w with
      | some v => if s.rfb TM_SPRAY.INSTALL.PENDING then s
        else s.setFab (fun f => { f with pend := SMap.put 0 f.pend a (v % 2 ^ 32) })
      | none => s.emit (.readData (SMap.get 0 s.fab.pend a))
    s.wf TM_SPRAY.PEND_ADDR.WORD (a + 1)

def execPendDataAccess (write : Option Nat) (s : State) : Host.Outcome State Fault Refusal :=
  .next (s.onTm (fun s => s.pendAccess write))

/-- The section an image of words makes under the active header. -/
def State.pendSec (s : State) (n : Nat) : Bytes :=
  let hdr := if s.sprayNow.isEmpty then List.replicate 64 0 else s.sprayNow.take 64
  hdr ++ (List.range n).flatMap (fun w => toLe 4 (SMap.get 0 s.fab.pend w))

/-- INSTALL.CAUSE of an image that fails R275, and its first failing word where one word fails. (DEDUCED, log entry 18.) -/
def installCause (d : Bytes) (len exp : Nat) : Option (Nat × Option Nat) :=
  let word := fun (o : Nat) => (o - 64) / 4
  let slots := (List.range len).flatMap (fun j => (List.range 320).map (fun n => (n, j)))
  let at_ := fun (e : Nat × Nat) => 2112 + 2 * (320 * e.2 + e.1)
  let first := fun (bad : Nat × Nat → Bool) => (slots.find? bad).map (fun e => word (at_ e))
  let entry := fun (e : Nat × Nat) => slotEntry d e.1 e.2
  let used := fun (e : Nat × Nat) => decide (bits (entry e) 0 2 = 1) || decide (bits (entry e) 0 2 = 2)
  let listByte := fun (bad : Nat → Nat → Bool) =>
    ((List.range 1024).find? (fun k => decide (k % 64 < (spreadList d (k / 64)).length) && bad (k / 64) (byteAt d (1088 + k)))).map
      (fun k => word (1088 + k))
  match sprayFault d len exp with
  | none => none
  | some 1 => some (3, first (fun e => decide (e.2 % 125 = 124) && decide (bits (entry e) 0 2 ≠ 0)))
  | some 2 => some (1, none)
  | some 3 =>
    match first (fun e => used e && decide (9 < bits (entry e) 6 4)) with
    | some w => some (6, some w)
    | none => some (2, first (fun e =>
        let a := bits (entry e) 6 4
        used e && (decide (a = e.1 % 10) || decide (bits (slotEntry d (e.1 / 10 * 10 + a) e.2) 0 2 ≠ 3))))
  | some 4 => some (6, listByte (fun _ g => decide (31 < g)))
  | some 5 => some (4, listByte (fun r g => !(List.range 10).any (fun l => (List.range len).any (fun j =>
      decide (bits (slotEntry d (10 * g + l) j) 0 2 = 1) && decide (bits (slotEntry d (10 * g + l) j) 2 4 = r)))))
  | some _ => some (5, ((List.range 1024).find? (fun dev => match devRclass d dev with
      | some r => (spreadList d r).isEmpty
      | none => false)).map (fun dev => word (64 + dev)))

/-- INSTALL takes a cause and ERR. -/
def State.installErr (s : State) (cause : Nat) : State := (s.wf TM_SPRAY.INSTALL.ERR (b2n (cause ≠ 0))).wf TM_SPRAY.INSTALL.CAUSE cause

/-- SPRAY_INSTALL_GO (R279). -/
def State.installGo (s : State) : State :=
  if !s.blockOpen 4146 then s
  else if s.rfb TM_SPRAY.INSTALL.PENDING then (s.installErr 7).raiseO Ev.TM_SPRAY.INSTALL_REFUSED 0 (some 7) none (some 0)
  else
    let d := s.sprayNow
    match installCause (s.pendSec s.pendWords) (if d.isEmpty then 0 else sprayLen d) (sprayExp d) with
    | some (c, w) => (s.installErr c).raiseO Ev.TM_SPRAY.INSTALL_REFUSED 0 (some c) w (some 0)
    | none => (s.installErr 0).wf TM_SPRAY.INSTALL.PENDING 1

def execSprayInstallGo (s : State) : Host.Outcome State Fault Refusal := .next (s.onTm (fun s => s.installGo))

/-- A bank with its SPRAY_PATTERN replaced. -/
def Bank.setSpray (b : Bank) (d : Bytes) : Bank :=
  { b with secs := b.secs.map (fun x => if x.typ = 0x0041 then { x with data := d } else x) }

/-- SPRAY_INSTALL_APPLY (R279): at a pattern boundary at which the epoch state is IDLE, the image is written into both banks;
pointers whose list changed restart. -/
def State.installApply (s : State) : State :=
  if !s.rfb TM_SPRAY.INSTALL.PENDING || s.epochState ≠ esIdle || !s.atBoundary then s
  else
    let old := s.sprayNow
    let was := s.expOver
    let d := s.pendSec s.pendWords
    let s : State := { s with bankA := s.bankA.setSpray d, bankB := s.bankB.setSpray d }
    let s := s.setFab (fun f => { f with ptr := SMap.drop (fun k => decide (spreadList old (k % 16) ≠ spreadList d (k % 16))) f.ptr })
    let s := (s.wf TM_SPRAY.INSTALL.PENDING 0).inc1 TM_SPRAY.INSTALL_COUNT.COUNT
    (s.showExpress.raise Ev.TM_SPRAY.INSTALLED 0 0 (s.rf TM_SPRAY.INSTALL_COUNT.COUNT) s.fab.mfi).capCheck was

def execSprayInstallApply (s : State) : Host.Outcome State Fault Refusal := .next (s.onTm (fun s => s.installApply))

end Sys2Proof.Machine
end

