-- ==== Sys2Proof/Machine/Egress.lean ====
section
/-! DEFINITION. The egress side (R10, R15 to R17, R148, R218, R220, R227, R231, R318, R321, R333, R348, R349): selection at the
egress pipelines, emission, protection copies, and the MACs. -/

namespace Sys2Proof.Machine

/-! ### What an egress queue offers (R15, R318) -/

/-- The packet is held whole at the egress TM (R15). -/
def State.mustHold (s : State) (p : Pkt) (port : Nat) : Bool :=
  p.hold || !(s.famDdr p).isEmpty ||
    (decide (port < 256) && (s.pgb FE_PG.PORT_CFG.SF port || (decide (p.inRate ≠ 5) && decide (p.inRate < s.pg FE_PG.PORT_CFG.SPEED port))))

/-- Enough of the packet has come: all of it, or its header window where it need not be held. -/
def State.egrReady (s : State) (p : Pkt) (port : Nat) : Bool :=
  p.whole || (!s.mustHold p port && decide (512 ≤ p.data.length) && decide (600 < p.length))

/-- An egress queue is servable (R316, R318). -/
def State.egrServable (s : State) (q : Nat) : Bool :=
  match s.queueHead q with
  | none => false
  | some p =>
    let o := (s.chan (q / 8)).outPort
    p.egr && s.pathOk (q / 8) && decide (s.tmPort o = tmUp) && (decide (256 ≤ o) || !s.paused o p.cls) && s.gateOpen o p.cls p.length &&
      s.egrReady p o

/-- The servable egress queues of a set of ports. -/
def State.egrQueues (s : State) (ports : List Nat) : List Nat :=
  (s.busyQueues true).filter (fun q => ports.contains (s.chan (q / 8)).outPort && s.egrServable q)

/-- The heads of the ports' queues that GDDR7 has lost are discarded (R369), and those whose frame no open window can hold (R333). -/
def State.oversizeSweep (s : State) (ports : List Nat) : State :=
  let s := s.lostSweep ((s.busyQueues true).filter (fun q => ports.contains (s.chan (q / 8)).outPort))
  (s.busyQueues true).foldl (fun s q =>
    let o := (s.chan (q / 8)).outPort
    match s.queueHead q with
    | some p =>
      if p.egr && ports.contains o && s.gateNever o p.cls p.length then
        let s := (s.dropPkt p).sat TM_GATE.GATE_OVERSIZE.COUNT 0 0 1
        (s.raise Ev.TM_GATE.GATE_OVERSIZE 0 0 o p.length).flowSweep
      else s
    | none => s) s

/-! ### MAC buffers (R321, R348) -/

/-- Bytes on their way to a MAC buffer of a port, and in it: class 7 in the express buffer, the others in the transmit
buffer. -/
def State.macBytes (s : State) (port : Nat) (exp : Bool) : Nat :=
  sumN ((s.pkts.filter (fun p => match p.loc with
    | .mac x b => decide (x = port) && decide (b = if exp then 1 else 0)
    | .estrip _ | .eread _ => decide (p.outPort = port) && (decide (p.cls = 7) == exp)
    | _ => false)).map (fun p => max p.length (p.data.length + 4)))

/-- The MAC buffer of a packet's class has room for it. -/
def State.macRoom (s : State) (port : Nat) (p : Pkt) : Bool :=
  decide (s.macBytes port (decide (p.cls = 7)) + p.length ≤ if p.cls = 7 then 32768 else 36864)

/-! ### Selection (R319, R321, R349) -/

/-- The selection a port node would make: its queue, whether as EXPRESS work, the path, and the scheduler after it. -/
def State.portTrial (s : State) (w : Work) (port : Nat) (exp : Bool) : Option (Nat × Bool × List Nat × State) :=
  match State.selectFrom w exp 4 s (nodeKey 0 port) [] with
  | (some (q, e, path), t) =>
    match s.queueHead q with
    | some p => if e = exp && (decide (256 ≤ port) || s.macRoom port p) then some (q, e, path, t) else none
    | none => none
  | _ => none

/-- The candidate an egress pipeline serves: EXPRESS selections in ascending port number, then the others in round robin
behind the port served last, the loopback FIFO (number 16i + 16) behind port 16i + 15. -/
def State.egrCandidate (s : State) (w : Work) (i : Nat) : Option (Nat × Option (Nat × Bool × List Nat × State)) :=
  let ports := (List.range 16).map (16 * i + ·)
  let xs := ports.filterMap (fun p =>
    if (w.expAt 0).contains p && !s.armed .pacer p then (s.portTrial w p true).map (fun t => (p, some t)) else none)
  match xs with
  | x :: _ => some x
  | [] =>
    let last := SMap.get 0 s.sc.rr i
    let order := (List.range 17).map (fun k => 16 * i + (last + k) % 17)
    (order.filterMap (fun p =>
      if p = 16 * i + 16 then
        match s.headAt (.loopFifo i) with
        | some x => if s.reading x.id || (s.headAt (.loopIn i)).isSome then none else some (p, none)
        | none => none
      else if (w.normAt 0).contains p then (s.portTrial w p false).map (fun t => (p, some t)) else none)).head?

/-- A packet is handed to the bridge and enters its egress strip; one that finds the bridge down is dropped (R107, R397). A packet
handed on before its tail has come is marked CUT_THROUGH (R12, R15) and keeps its units until then (R305). The handoff is the
dequeue (R336). (DESIGN CHOICE, log entry 5.) -/
def State.handoff (s : State) (p : Pkt) (i : Nat) : State :=
  let s := if s.bridgeUp then s.dequeueSample p p.due else s
  let p := (if p.whole then p else p.mdSet 31 1 1).point 10 s.nowNs
  let s := s.traceHalf p true true false false
  let s := if p.whole then s.unitsOff p else s.putPkt p
  let p : Pkt := if p.whole then { p with dieUnits := 0, ddr := [] } else p
  if !s.bridgeUp then (s.dropPkt p).flowSweep
  else
    let s := s.movePkt { p with due := s.cycle + s.depthOf p.bank true } (.estrip i)
    (s.inc FE_PIPEE.PKT.COUNT 0 i 1).flowSweep

/-- A packet selected from queue `q` leaves it: through GDDR7 when its units stand there (R15, R369). -/
def State.egrTake (s : State) (p : Pkt) (q i : Nat) (via : Loc) : State :=
  let us := s.famDdr p
  let p : Pkt := { p with due := q }
  if us.isEmpty then (if via = .eread i then s.handoff p i else s.movePkt p via)
  else (s.movePkt p via).startReads { p with ddr := us }

/-- The TM may hand packets to egress pipeline `i`. -/
def State.egrTurn (s : State) (i : Nat) : Bool :=
  decide (i < 16) && s.operating 4151 && (s.hdr 4149).enable && !s.buffersReset && s.operating 74

/-- The egress pipeline admits packets: outside the gap of a flip, and while its strip is in RUN (R107, R110, R122). -/
def State.egrOpen (s : State) (i : Nat) : Bool := decide (s.stripState (outStrip i) = stripRun) && !s.armed .depthGap 1

/-- The packet for pipeline `i` whose parts have all been read back. -/
def State.egrRead (s : State) (i : Nat) : Option Pkt := (s.at_ (.eread i)).find? (fun p => !s.reading p.id)

/-- A cycle in which pipeline `i` admits nothing while a packet for it waits in the TM (R132). -/
def State.egrHeld (s : State) (i : Nat) : State :=
  if (s.egrRead i).isSome || !(s.egrQueues ((List.range 16).map (16 * i + ·))).isEmpty || (s.headAt (.loopFifo i)).isSome then
    s.sat FE_PIPEE.OVERRUN_DROP.COUNT 0 i 1
  else s

/-- One selection of egress pipeline `i`. (DEDUCED, log entry 19.) -/
def State.egressPick (s : State) (i : Nat) : State :=
    let ports := (List.range 16).map (16 * i + ·)
    let mine := fun (k : Nat) => ports.contains k
    let s := s.oversizeSweep ports
    let w := s.workOf (s.egrQueues ports)
    let s := s.syncRounds mine (s.egrQueues ports)
    match s.egrCandidate w i with
    | none => s
    | some (n, none) =>
      let s : State := { s with sc := { s.sc with rr := SMap.put 0 s.sc.rr i (n - 16 * i + 1) } }
      match s.headAt (.loopFifo i) with
      | some p => s.handoff p i
      | none => s
    | some (port, some (q, e, path, t)) =>
      match s.queueHead q with
      | none => s
      | some p =>
        let s := t.served port path e p.length
        let s : State := if e then s else { s with sc := { s.sc with rr := SMap.put 0 s.sc.rr i (port - 16 * i + 1) } }
        let s := if p.cls = 7 then s.armAt .pacer port (s.cycle + s.bitCycles port (8 * (p.length + 20))) else s
        let s := s.egrTake p q i (.eread i)
        s.syncRounds mine (s.egrQueues ports)

/-- EGRESS_SELECT (R321): egress pipeline `i` takes one packet, one that GDDR7 held back first; `unc` are the packets in whose on-die
units the reads of this cycle meet an uncorrectable word. (DEDUCED, log entry 19.) -/
def State.egressSelect (s : State) (i : Nat) (unc : List Nat) : State :=
  if !s.egrTurn i then s
  else if !s.egrOpen i then s.egrHeld i
  else
    let s := unc.foldl State.dieError s
    match s.egrRead i with
    | some p => s.handoff p i
    | none => s.egressPick i

def execEgressSelect (pipe : Nat) (s : State) (unc : List Nat := []) : Host.Outcome State Fault Refusal :=
  .next (s.onTm (fun s => s.egressSelect pipe unc))

/-- The loopback path of pipeline `i` takes a packet: its FIFO has room and nothing waits for a free slot (R10, R321). While it does
not, the packet that node 256 would select waits in its queue. -/
def State.loopOpen (s : State) (i : Nat) : Bool := decide ((s.at_ (.loopFifo i)).length < 16) && (s.headAt (.loopIn i)).isNone

/-- LOOPBACK_SELECT (R10, R321): port node 256 selects one packet, no faster than 3.2 Tbit/s, into a loopback FIFO with room. -/
def State.loopSelect (s : State) : State :=
  if !s.operating 4151 || !(s.hdr 4149).enable || s.buffersReset || s.cycle * 250 < s.sc.loopNext then s
  else
    let mine := fun (k : Nat) => decide (k = 256)
    let s := s.oversizeSweep [256]
    let w := s.workOf (s.egrQueues [256])
    let s := s.syncRounds mine (s.egrQueues [256])
    match (s.portTrial w 256 true).orElse (fun _ => s.portTrial w 256 false) with
    | none => s
    | some (q, e, path, t) =>
      match s.queueHead q with
      | none => s
      | some p =>
        let i := p.flowHash % 16
        if !s.loopOpen i then s
        else
        let s := t.served 256 path e p.length
        let s : State := { s with sc := { s.sc with loopNext := s.cycle * 250 + p.length } }
        let s := s.egrTake p q i (.loopFifo i)
        (s.syncRounds mine (s.egrQueues [256])).flowSweep

def execLoopbackSelect (s : State) : Host.Outcome State Fault Refusal := .next (s.onTm (fun s => s.loopSelect))

/-- EXPRESS_PACER_OPEN (R349): the express pacer of a port opens. -/
def execExpressPacerOpen (port : Nat) (s : State) : Host.Outcome State Fault Refusal :=
  .next (s.onTm (fun s => (s.expire .pacer port).getD s))

/-! ### Emission (R148, R218, R231) -/

/-- The frame a packet leaves its strip as, by carry lane 159; none when R148 drops it. The second part is that it was
padded. -/
def emitFrame (lanes : List Nat) (p : Pkt) : Option (Bytes × Bool) :=
  let v := laneGet lanes 159
  let new := bits v 0 10
  let cut := bits v 16 10
  let orig := if p.whole then p.data.length else p.length - 4
  let len := new + (orig - cut)
  if 512 < new || 512 < cut || orig < cut || 15996 < len then none
  else
    let d := lanesHead lanes new ++ p.data.drop cut
    if len < 60 then some (d ++ List.replicate (60 - d.length) 0, true) else some (d, false)

/-- The length of a frame under emission, without FCS, once all of it has come. -/
def Pkt.frameLen (p : Pkt) (orig : Nat) (d : Bytes) : Nat := if p.whole then d.length else d.length + (orig - p.data.length)

/-- A frame of LENGTH `len` with FCS enters a MAC buffer of a port, or is dropped as oversize (R218). -/
def State.toMac (s : State) (p : Pkt) (port buf len : Nat) : State :=
  if s.maxFrame port < len then (s.dropPkt p).pgSat FE_PG.CNT.TX_OVERSIZE port 1 else s.movePkt p (.mac port buf)

/-- The MAC buffer of a class. -/
def macBuf (cls : Nat) : Nat := if cls = 7 then 1 else 0

/-- The copy FIFO of port `o` takes a copy (R231). -/
def State.protCopy (s : State) (p : Pkt) (o len : Nat) : State :=
  if !s.protIsIn o then s.sat1 FE_PROT.SUPPRESSED.COUNT
  else if 65536 < sumN ((s.at_ (.mac o 2)).map (fun x => x.data.length + 4)) + len then
    (s.sat1 FE_PROT.COPY_DROP.COUNT).raiseO Ev.FE_PROT.COPY_DROP 0 none (some p.protStream) (some o)
  else if s.maxFrame o < len then s.pgSat FE_PG.CNT.TX_OVERSIZE o 1
  else ((s.copyPkt p (.mac o 2) id).2).shCharge (nodeKey 0 o) len

/-- Sending on two ports (R231): `len` is the frame's length without FCS; the bits of `ts` above 27 hold what an R-TAG adds to
TS_OFF (R227). -/
def State.protSend (s : State) (p : Pkt) (port len : Nat) : State :=
  let k := p.protStream
  let r := s.txRec k
  if !r.valid || (port ≠ r.portA && port ≠ r.portB) then
    ((s.dropPkt p).sat1 FE_PROT.NO_STREAM.COUNT).raiseO Ev.FE_PROT.NO_STREAM 0 none (some k) (some port)
  else
    let s := s.setTxRec k { r with seq := (r.seq + 1) % 65536 }
    if len < r.off || 15996 < len + 6 then (s.dropPkt p).sat1 FE_PROT.RTAG_DROP.COUNT
    else
      let tag := toBe 2 0xF1C1 ++ toBe 2 0 ++ toBe 2 r.seq
      let off := bits p.ts 2 10
      let p : Pkt := { p with
        data := p.data.take r.off ++ tag ++ p.data.drop r.off
        ts := if r.off ≤ off then p.ts + 6 * 2 ^ 28 else p.ts }
      let s := s.putPkt p
      let o := if port = r.portA then r.portB else r.portA
      let s := s.protCopy p o (len + 10)
      if s.protIsIn port then s.toMac p port (macBuf p.cls) (len + 10)
      else (s.dropPkt p).sat1 FE_PROT.SUPPRESSED.COUNT

/-- What the strip of pipeline `i` makes of packet `p`, as `q`, when no fault of its walk takes it (R148): a punt, or a frame for its port
or the loopback path. -/
def State.egressEmit (s : State) (i : Nat) (p q : Pkt) (x : Strip) : State :=
  let port := p.outPort
  if q.punt then ((s.traceHalf q false true false true).putPkt q).puntMeter q
  else
    match emitFrame x.lanes p with
    | none =>
      let v := laneGet x.lanes 159
      (((s.putPkt q).dropPkt q).sat1 FE_PARSE.EMIT_DROP.COUNT).raiseO Ev.FE_PARSE.EMIT_DROP 0 none (some i)
        (some (bits v 0 10 + bits v 16 10 * 2 ^ 16))
    | some (d, pad) =>
      let s := if pad then s.inc1 FE_PARSE.EMIT_PAD.COUNT else s
      let orig := p.length - 4
      let len := p.frameLen orig d
      let q : Pkt := { q with data := d, ts := laneGet x.lanes 158 % 2 ^ 28 }
      if 256 ≤ port then
        let s := s.traceHalf q false true false false
        let q := (q.mdSet 0 9 256).mdSet 184 3 5
        (s.movePkt q (.loopIn i)).inc FE_PIPEE.LOOP.COUNT 0 i 1
      else
        let q := q.mdSet 175 9 port
        let s := s.putPkt q
        if q.prot && s.rfb FE_PROT.CTRL.TX_ENABLE && s.operating 75 then s.protSend q port len
        else s.toMac q port (macBuf q.cls) (len + 4)

/-- What becomes of packet `p`, as `q`, that leaves the strip of pipeline `i` with its walk and its cells' state: a fault of its walk drops
or punts it (R142), else it is emitted. -/
def State.egressFate (s : State) (i : Nat) (p q : Pkt) (pw : Walk) (x : Strip) : State :=
  let r := s.failApply true i pw.fail pw.state q
  match r.1 with
  | none => (r.2.putPkt q).dropPkt q
  | some q => r.2.egressEmit i p q x

/-- EGRESS_STRIP_EXIT (R10, R142, R148, R149, R227, R231): the oldest packet of egress pipeline `i` leaves its strip. -/
def State.egressExit (s : State) (i : Nat) : State :=
  match s.headAt (.estrip i) with
  | none => s
  | some p =>
    if !s.exitTurn p then s
    else
    let s := s.advanceTo p.due
    let st := outStrip i
    let (pw, x) := s.runStrip st i p .none
    let s := { s with freeCtr := s.freeCtr + 1 }.applyNotes x.notes
    let q : Pkt := { p with md := p.exitMd (lanesMd x.lanes), fail := pw.fail }
    let q := (fixReason q).point 11 s.nowNs
    s.egressFate i p q pw x

def execEgressStripExit (pipe : Nat) (s : State) : Host.Outcome State Fault Refusal :=
  .next (s.onFe (fun s => s.egressExit pipe))

/-! ### The MAC (R16, R17, R220, R227, R348) -/

/-- The wire of a port is free for the frame the MAC would send: nothing is on it, or preemption lets a class 7 frame cut in, a
scheduled one or a copy (R224, R231, R348). -/
def State.wireFree (s : State) (port : Nat) : Bool :=
  (s.at_ (.wire port)).isEmpty || (s.mayCut port &&
    ((s.headAt (.mac port 1)).isSome || ((s.headAt (.mac port 2)).map (fun p => decide (p.cls = 7))).getD false))

/-- The frame a MAC takes next (R231, R348). (DEDUCED, log entry 19.) -/
def State.macChoice (s : State) (port : Nat) : Option Pkt :=
  match s.headAt (.mac port 1) with
  | some p => some p
  | none =>
    match s.headAt (.mac port 2), s.headAt (.mac port 0) with
    | some c, some p => if p.cls < c.cls then some c else some p
    | some c, none => some c
    | none, o => o

/-- MAC_FRAME_BOUNDARY (R16, R17, R218, R220, R228, R231, R348): the MAC of a port takes its next frame, after the PFC frames that
wait. -/
def State.macBoundary (s : State) (port : Nat) : State :=
  if 256 ≤ port || !s.portEnabled port || !s.operating (pgPage port) || !s.wireFree port then s
  else
    let s := s.pfcFlush port
    match s.macChoice port with
    | none => s
    | some p =>
      if !s.linkUp port then
        if !s.pgb FE_PG.PORT_CFG.PROT_MEMBER port then s
        else if p.prot then s.dropPkt p
        else (s.dropPkt p).pgSat FE_PG.CNT.LINK_DOWN_DROP port 1
      else if p.bad && p.whole then (s.dropPkt p).pgSat FE_PG.CNT.TX_TAIL_BAD_DROP port 1
      else
        let sent := if (s.at_ (.wire port)).isEmpty then 0 else s.sentBytes port
        let s := s.updNetPort port (fun x => { x with fragAt := s.cycle, fragSent := sent })
        let s := s.movePkt { p with begun := true, since := s.time } (.wire port)
        if bits p.ts 0 2 = 3 then s.tsCapture port (bits p.ts 12 16) else s

def execMacFrameBoundary (port : Nat) (s : State) : Host.Outcome State Fault Refusal :=
  .next (s.onFe (fun s => s.macBoundary port))

/-- One-step timestamping of a frame at its transmit time (R227): the frame, and whether its field passes the end.
(DEDUCED, log entry 19.) -/
def stampFrame (p : Pkt) : Bytes × Bool :=
  let off := bits p.ts 2 10 + p.ts / 2 ^ 28
  let mode := bits p.ts 0 2
  let t := p.since
  if mode = 1 then
    if p.data.length < off + 10 then (p.data, true)
    else (p.data.take off ++ toBe 6 (t / secUnits) ++ toBe 4 (t / 2 ^ 32 % 1000000000) ++ p.data.drop (off + 10), false)
  else if mode = 2 then
    if p.data.length < off + 8 then (p.data, true)
    else
      let base := p.timestamp / 2 ^ 32 * 1000000000 + p.timestamp % 2 ^ 32
      let add := ofSigned 64 (((t : Int) - (base * 2 ^ 32 : Nat)) / 65536)
      (p.data.take off ++ toBe 8 ((beNat ((p.data.drop off).take 8) + add) % 2 ^ 64) ++ p.data.drop (off + 8), false)
  else (p.data, false)

/-- FRAME_TX_END (R16, R92): the last bit of the frame on the wire of a port leaves; a class 7 frame that cut in ends first, and the
frame it cut goes on with a new fragment. A port with looped lanes receives what it sent (R238). -/
def State.frameTxEnd (s : State) (port : Nat) : State :=
  match (s.at_ (.wire port)).getLast? with
  | none => s
  | some p =>
    if !p.whole then s
    else
      let (d, err) := stampFrame p
      let s := if err then s.sat FE_PG.TS_ERR.COUNT (port / 8) 0 1 else s
      let s := if p.bad then s.pgSat FE_PG.CNT.TX_STOMPED port 1 else s
      let s := (s.pgInc FE_PG.CNT.TX_FRAMES port 1).pgInc FE_PG.CNT.TX_BYTES port (d.length + 4)
      let p := p.point 12 s.nowNs
      let s := s.traceHalf p false true false false
      let s := (s.departPkt p).wireOut port (.frame port d p.bad)
      let s := s.updNetPort port (fun x => { x with fragAt := s.cycle })
      let s := s.pfcFlush port
      if s.loopedLanes port && !s.txMuted port then s.frameRx port d (if p.bad then .fcsError else .good) else s

def execFrameTxEnd (port : Nat) (s : State) : Host.Outcome State Fault Refusal := .next (s.onFe (fun s => s.frameTxEnd port))

end Sys2Proof.Machine
end

