-- ==== Sys2Proof/Machine/Dmc.lean ====
section
/-! DEFINITION. The GDDR7 controllers (R356 to R377): training, service, activates and their timing, refresh, throttling,
frequency change, accesses and their errors, the counter region, the memory window and the export. -/

namespace Sys2Proof.Machine

/-! ### Controllers going in and out of service (R357 to R359, R371) -/

def State.setDmc (s : State) (f : Dmc → Dmc) : State := { s with dm := f s.dm }

/-- STATE of a controller takes a value. -/
def State.setDmcState (s : State) (c v : Nat) : State := (s.wfp TM_DMC.STATUS.STATE c 0 v).showDdr

/-- Training starts (R359 step 2): at most 50 ms. -/
def State.trainStart (s : State) (c : Nat) : State := (s.setDmcState c dmcTraining).arm .dmcTrain c (50 * cyMs)

/-- A controller becomes DOWN (R371). -/
def State.dmcGoDown (s : State) (c : Nat) : State :=
  let before := s.rfp TM_DMC.STATUS.STATE c 0
  (s.setDmcState c dmcDown).raise Ev.TM_DMC.CTRL_DOWN c 0 c before

/-- Training of a controller fails with what it was doing, where that is known (R359 step 4): both events of one core cycle. -/
def State.dmcTrainFail (s : State) (c : Nat) (d1 : Option Nat) : State :=
  let before := s.rfp TM_DMC.STATUS.STATE c 0
  ((s.disarm .dmcTrain c).setDmcState c dmcDown).raiseBatch (4160 + c)
    [(Ev.TM_DMC.TRAIN_FAIL, some 0, some c, d1), (Ev.TM_DMC.CTRL_DOWN, some 0, some c, some before)]

/-- The intervals of R362 run from now. -/
def State.refreshFrom (s : State) (c : Nat) : State := s.setDmc (fun d => { d with refAt := SMap.put 0 d.refAt c s.cycle })

/-- DMC_TRAINING_DONE (R359): training ends well, or fails in a channel and sequence. -/
def State.trainingDone (s : State) (c : Nat) (failed : Option (Nat × Nat)) : State :=
  if 16 ≤ c || s.dmcState c ≠ dmcTraining then s
  else
    match failed with
    | some (ch, sq) => s.dmcTrainFail c (some (ch % 4 + sq % 16 * 16))
    | none => ((s.disarm .dmcTrain c).setDmcState c dmcReady).refreshFrom c

def execDmcTrainingDone (ctl : Nat) (failed : Option (Nat × Nat)) (s : State) : Host.Outcome State Fault Refusal :=
  .next (s.onTm (fun s => s.trainingDone ctl failed))

/-- DMC_TRAIN_TIMEOUT (R359): training has taken 50 ms. -/
def State.trainTimeout (s : State) (c : Nat) : State :=
  match s.expire .dmcTrain c with
  | none => s
  | some s => if s.dmcState c = dmcTraining then s.dmcTrainFail c none else s

def execDmcTrainTimeout (ctl : Nat) (s : State) : Host.Outcome State Fault Refusal :=
  .next (s.onTm (fun s => s.trainTimeout ctl))

/-- DENSITY of a controller. -/
def State.density (s : State) (c : Nat) : Nat := s.rfp TM_DMC.CFG.DENSITY c 0

/-- The first controller that keeps GDDR7 out of service (R357). -/
def State.ddrObstacle (s : State) : Option Nat :=
  (List.range 16).find? (fun c => decide (s.dmcState c ≠ dmcReady) || decide (s.density c = 0) || decide (s.density c ≠ s.density 0))

/-- DDR_ENABLE (R357): a write of ENABLE = 1. -/
def State.ddrEnable (s : State) : State :=
  if !s.blockOpen 4160 || s.rfb TM_DMC.DDR_CTRL.ENABLE then s
  else
    match s.ddrObstacle with
    | some c => s.raise Ev.TM_DMC.DDR_REFUSED 0 0 c 0
    | none =>
      let s := s.wf TM_DMC.DDR_CTRL.ENABLE 1
      (s.wf TM_BUF.DDR_TOTAL.UNITS (fittedUnits (s.density 0) - s.ctrUnits)).showDdr

def execDdrEnable (s : State) : Host.Outcome State Fault Refusal :=
  .next (s.onTm (fun s => if s.blockOpen 4160 then s.rwlWrite TM_DMC.DDR_CTRL.ENABLE 1 1 (fun s => s.ddrEnable) else s))

/-- DDR_DISABLE (R358): a write of ENABLE = 0. -/
def State.ddrDisable (s : State) : State := if s.blockOpen 4160 then (s.wf TM_DMC.DDR_CTRL.ENABLE 0).showDdr else s

def execDdrDisable (s : State) : Host.Outcome State Fault Refusal :=
  .next (s.onTm (fun s => if s.blockOpen 4160 then s.rwlWrite TM_DMC.DDR_CTRL.ENABLE 0 0 (fun s => s.ddrDisable) else s))

/-- WCK_REALIGN (R359): a channel issues no access for 200 ns. -/
def State.wckRealign (s : State) (c ch : Nat) : State :=
  if c < 16 && ch < 4 && s.dmcState c = dmcReady then s.arm .wck (c * 4 + ch) (cyNs 200) else s

def execWckRealign (ctl chan : Nat) (s : State) : Host.Outcome State Fault Refusal :=
  .next (s.onTm (fun s => s.wckRealign ctl chan))

/-! ### Timing sets -/

/-- A field of the active timing set of a controller. -/
def State.tset (s : State) (f : Fld) (c : Nat) : Nat := s.rfp f c (s.rfp TM_DMC.STATUS.TSET c 0)

/-- Units of 0.5 ns in core cycles. -/
def halfNs (v : Nat) : Nat := ceilDiv (v * 4) 5

/-- POSTPONE_MAX in force (R362). -/
def State.postponeMax (s : State) (c : Nat) : Nat := min (max (s.tset TM_DMC.TSETk_C.POSTPONE_MAX c) 1) 8

/-! ### Refresh (R362, R363) -/

def State.owed (s : State) (bank : Nat) : Nat := SMap.get 0 s.dm.owed bank

/-- The channel of a bank, and its controller. -/
def bankChan (bank : Nat) : Nat := bank / 16
def bankCtl (bank : Nat) : Nat := bank / 64

/-- Requests of a bank, oldest first. -/
def State.bankReqs (s : State) (bank : Nat) : List DReq := s.dm.reqs.filter (fun r => decide (unitBank r.unit_ = bank))

/-- An access of the bank is in progress. -/
def State.bankBusy (s : State) (bank : Nat) : Bool := (s.bankReqs bank).any (fun r => r.active)

/-- A bank is refreshed: it owes one less, and is busy for tRFCPB after tRP. -/
def State.refreshBank (s : State) (bank : Nat) : State :=
  let c := bankCtl bank
  let t := halfNs (s.tset TM_DMC.TSETk_A.TRP c) + cyNs (s.tset TM_DMC.TSETk_B.TRFCPB c)
  s.setDmc (fun d => { d with owed := SMap.put 0 d.owed bank (s.owed bank - 1), bankFree := SMap.put 0 d.bankFree bank (s.cycle + t) })

/-- A bank whose count has reached POSTPONE_MAX is refreshed as soon as no access is in progress. -/
def State.forceRefresh (s : State) (bank : Nat) : State :=
  if s.postponeMax (bankCtl bank) ≤ s.owed bank && !s.bankBusy bank then s.refreshBank bank else s

/-- The refresh of one channel at a tREFIPB: bank `b` comes to owe one more, and the first idle bank that owes one is
refreshed. A bank that stands at POSTPONE_MAX then is forced, and counted. -/
def State.refreshChan (s : State) (ch b : Nat) : State :=
  let c := ch / 4
  let k := ch * 16 + b
  let n := s.owed k + 1
  let s := s.setDmc (fun d => { d with owed := SMap.put 0 d.owed k n })
  let last := SMap.get 0 s.dm.refPtr ch
  let cand := ((List.range 16).map (fun i => (last + i) % 16)).find? (fun x =>
    decide (0 < s.owed (ch * 16 + x)) && (s.bankReqs (ch * 16 + x)).isEmpty)
  let s := match cand with
    | some x => (s.refreshBank (ch * 16 + x)).setDmc (fun d => { d with refPtr := SMap.put 0 d.refPtr ch ((x + 1) % 16) })
    | none => s
  let s := if s.owed k = s.postponeMax c then s.sat TM_DMC.REF_FORCED.COUNT c 0 1 else s
  s.forceRefresh k

/-- The interval of R362 in core cycles: half of it while the device calls for more frequent refresh (R363). -/
def State.refreshTime (s : State) (c : Nat) : Nat := cyNs (s.tset TM_DMC.TSETk_C.TREFIPB c) / (if s.dm.hot.contains c then 2 else 1)

/-- REFRESH_INTERVAL (R362): one interval of a READY controller has passed since its last. (DEDUCED, log entry 19.) -/
def State.refreshInterval (s : State) (c : Nat) : State :=
  if 16 ≤ c || s.dmcState c ≠ dmcReady then s
  else
    let s := (s.advanceTo (SMap.get 0 s.dm.refAt c + s.refreshTime c)).refreshFrom c
    let n := SMap.get 0 s.dm.refN c
    let s := s.setDmc (fun d => { d with refN := SMap.put 0 d.refN c ((n + 1) % 16) })
    (List.range 4).foldl (fun s ch => s.refreshChan (c * 4 + ch) (n % 16)) s

def execRefreshInterval (ctl : Nat) (s : State) : Host.Outcome State Fault Refusal :=
  .next (s.onTm (fun s => s.refreshInterval ctl))

/-- DMC_TEMP_READ (R363): the device reports its temperature, and whether it calls for more frequent refresh. -/
def State.tempRead (s : State) (c t : Nat) (hot : Bool) : State :=
  if 16 ≤ c || s.dmcState c ≠ dmcReady then s
  else
    let s := s.wfp TM_DMC.STATUS.TEMP c 0 t
    let was := s.dm.hot.contains c
    let s := s.setDmc (fun d => { d with hot := if hot then (if was then d.hot else d.hot ++ [c]) else d.hot.filter (fun x => decide (x ≠ c)) })
    if hot && !was then s.raise Ev.TM_DMC.TEMP_HIGH c 0 c (t % 256) else s

def execDmcTempRead (ctl temp : Nat) (hot : Bool) (s : State) : Host.Outcome State Fault Refusal :=
  .next (s.onTm (fun s => s.tempRead ctl temp hot))

/-! ### Activates (R361, R364, R365) -/

/-- THROTTLED shows the requesters throttled on some bank of the controller. -/
def State.showThrottled (s : State) (c : Nat) : State :=
  let on := fun r => (List.range 64).any (fun b => s.armed .throttle ((c * 64 + b) * 4 + r))
  s.wfp TM_DMC.THROTTLED.REQ c 0 (sumN ((List.range 4).map (fun r => if on r then 2 ^ r else 0)))

/-- An activate of a row in a bank's table: the table after it and the row's count. -/
def countRow (t : List (Nat × Nat)) (row : Nat) : List (Nat × Nat) × Nat :=
  match t.find? (fun e => decide (e.1 = row)) with
  | some (_, n) => (t.map (fun e => if e.1 = row then (row, n + 1) else e), n + 1)
  | none =>
    if t.length < 32 then (t ++ [(row, 1)], 1)
    else
      let low := t.foldl (fun m e => min m e.2) ((t.head?.map (·.2)).getD 0)
      let i := (firstIdx (fun (e : Nat × Nat) => decide (e.2 = low)) t).getD 0
      (listSet t i (row, low + 1), low + 1)

/-- The activate of a request counts for its row, and throttles the requester at ACT_THR (R364, R365). -/
def State.actCount (s : State) (r : DReq) : State :=
  let bank := unitBank r.unit_
  let c := bankCtl bank
  let row := unitRow r.unit_
  let (t, n) := countRow (SMap.get [] s.dm.rows bank) row
  let hit := decide (orWhenZero (s.rfp TM_DMC.ACT_CTRL.ACT_THR c 0) 1 ≤ n)
  let t := if hit then t.map (fun e => if e.1 = row then (row, 0) else e) else t
  let s := s.setDmc (fun d => { d with rows := SMap.put [] d.rows bank t })
  if hit then
    let s := s.arm .throttle (bank * 4 + r.who) (orWhenZero (s.rfp TM_DMC.ACT_CTRL.THROTTLE_US c 0) 1 * cyUs)
    let s := (s.sat TM_DMC.THROTTLES.COUNT c 0 1).showThrottled c
    s.raise Ev.TM_DMC.ROW_THROTTLE c r.who row (bankChan bank % 4 + bank % 16 * 16)
  else s

/-- A read waits for every earlier write of its unit (R361). -/
def readBlocked (before : List DReq) (r : DReq) : Bool := !r.write && before.any (fun w => w.write && decide (w.unit_ = r.unit_))

/-- The requests of a channel that stand in a bank queue and are not in progress, each with its index in the request list, but for
reads that wait for a write and requests of a throttled requester. -/
def State.chanReady (s : State) (ch : Nat) : List (Nat × DReq) :=
  let step := fun (a : List (Nat × DReq) × List DReq × Nat) (e : DReq × Bool) =>
    let (out, before, k) := a
    let (r, waits) := e
    let ok := decide (unitChan r.unit_ = ch) && !r.active && !waits && !readBlocked before r &&
      !s.armed .throttle (unitBank r.unit_ * 4 + r.who)
    ((if ok then out ++ [(k, r)] else out), before ++ [r], k + 1)
  (s.reqWaits.foldl step (([] : List (Nat × DReq)), ([] : List DReq), 0)).1

/-- Read or write mode of a channel (R361): true for write mode. A read that must wait does not keep writes from issuing. (DEDUCED,
log entry 19.) -/
def State.writeMode (s : State) (ch : Nat) (ready : List (Nat × DReq)) : Bool :=
  let ws := (s.reqWaits.filter (fun e => !e.2 && e.1.write && !e.1.active && decide (unitChan e.1.unit_ = ch))).length
  let reads := ready.any (fun e => !e.2.write)
  if ws = 0 then false
  else if !reads then true
  else if SMap.get false s.dm.wmode ch then decide (8 < ws) else decide (32 ≤ ws)

/-- The timing set allows an activate of the bank now (R361, R362). -/
def State.bankAllows (s : State) (bank : Nat) : Bool :=
  let c := bankCtl bank
  let last := SMap.get [] s.dm.lastAct (bankChan bank)
  let rrd := match last.head? with
    | some t => decide (t + halfNs (s.tset TM_DMC.TSETk_B.TRRD c) ≤ s.cycle)
    | none => true
  let faw := match last[3]? with
    | some t => decide (t + halfNs (s.tset TM_DMC.TSETk_B.TFAW c) ≤ s.cycle)
    | none => true
  rrd && faw && decide (SMap.get 0 s.dm.bankFree bank ≤ s.cycle) && !s.bankBusy bank && decide (s.owed bank < s.postponeMax c)

/-- DMC_ACTIVATE (R361): a channel issues the activate of its next eligible bank's oldest request. -/
def State.dmcActivate (s : State) (c ch : Nat) : State :=
  let k := c * 4 + ch
  let aligning := match s.timerAt .wck k with
    | some d => decide (s.cycle < d)
    | none => false
  if 16 ≤ c || 4 ≤ ch || s.dmcState c ≠ dmcReady || aligning then s
  else
    let ready := s.chanReady k
    let w := s.writeMode k ready
    let s := s.setDmc (fun d => { d with wmode := SMap.put false d.wmode k w })
    let mine := ready.filter (fun e => e.2.write == w)
    let at0 := SMap.get 0 s.dm.ptr k
    let banks := (List.range 16).map (fun i => (at0 + i) % 16)
    match banks.find? (fun b => mine.any (fun e => decide (unitBank e.2.unit_ = k * 16 + b)) && s.bankAllows (k * 16 + b)) with
    | none => s
    | some b =>
      match mine.find? (fun e => decide (unitBank e.2.unit_ = k * 16 + b)) with
      | none => s
      | some (i, r) =>
        let s := s.setDmc (fun d => { d with
          reqs := listSet d.reqs i { r with active := true }, ptr := SMap.put 0 d.ptr k ((b + 1) % 16),
          lastAct := SMap.put [] d.lastAct k ((s.cycle :: SMap.get [] d.lastAct k).take 4) })
        s.actCount r

def execDmcActivate (ctl chan : Nat) (s : State) : Host.Outcome State Fault Refusal :=
  .next (s.onTm (fun s => s.dmcActivate ctl chan))

/-- ACT_TABLE_CLEAR (R364): every activation table is cleared. -/
def execActTableClear (s : State) : Host.Outcome State Fault Refusal :=
  .next (s.onTm (fun s => s.setDmc (fun d => { d with rows := [] })))

/-- THROTTLE_EXPIRE (R365): a throttle ends. -/
def State.throttleExpire (s : State) (bank who : Nat) : State :=
  match s.expire .throttle (bank * 4 + who) with
  | some s => s.showThrottled (bankCtl bank)
  | none => s

def execThrottleExpire (bank who : Nat) (s : State) : Host.Outcome State Fault Refusal :=
  .next (s.onTm (fun s => s.throttleExpire bank who))

/-! ### Frequency change (R366, R367) -/

/-- RATE of a controller's other timing set. -/
def State.otherRate (s : State) (c : Nat) : Nat := s.rfp TM_DMC.TSETk_A.RATE c (1 - s.rfp TM_DMC.STATUS.TSET c 0)

/-- FREQ_GO (R366, R367): a write of FREQ.GO = 1. -/
def State.freqGo (s : State) : State :=
  if !s.blockOpen 4160 then s
  else if s.rfb TM_DMC.FREQ.BUSY then s.raiseO Ev.TM_DMC.FREQ_FAIL 0 (some 3) none none
  else
    let cs := (List.range 16).filter (fun c => decide (s.dmcState c = dmcReady))
    match cs.find? (fun c => decide (s.otherRate c < 16) || decide (40 < s.otherRate c)) with
    | some c => s.raiseO Ev.TM_DMC.FREQ_FAIL 0 (some 4) (some c) none
    | none =>
      if cs.isEmpty then s
      else
        let s : State := cs.foldl (fun s c => s.setDmcState c dmcFreq) s
        (s.wf TM_DMC.FREQ.BUSY 1).setDmc (fun d => { d with
          freq := cs.map (fun c => (⟨c, false, 0⟩ : Freq)), freqAt := s.cycle, freqBad := false })

def execFreqGo (s : State) : Host.Outcome State Fault Refusal := .next (s.onTm (fun s => s.freqGo))

/-- A controller's requests resume (R366 step 7): staged writes first in staging order, then the queues, its owed refreshes having
been issued. -/
def State.freqResume (s : State) (c : Nat) : State :=
  let staged := fun (e : DReq × Bool) => isStaged e && decide (unitCtl e.1.unit_ = c)
  let out := fun (l : List (DReq × Bool)) =>
    l.map (fun (e : DReq × Bool) => ({ e.1 with paused := e.1.paused && decide (unitCtl e.1.unit_ ≠ c) } : DReq))
  (s.setDmc (fun d => { d with
    reqs := out (s.reqWaits.filter staged) ++ out (s.reqWaits.filter (fun e => !staged e)),
    owed := SMap.drop (fun b => decide (bankCtl b = c)) d.owed })).refreshFrom c

/-- A controller's part of a change is over; the last one ends it. -/
def State.freqLeave (s : State) (c : Nat) : State :=
  let s := s.setDmc (fun d => { d with freq := d.freq.filter (fun f => decide (f.ctl ≠ c)) })
  if s.dm.freq.isEmpty then
    let s := s.wf TM_DMC.FREQ.BUSY 0
    if s.dm.freqBad then s
    else s.raise Ev.TM_DMC.FREQ_DONE 0 0 (s.tset TM_DMC.TSETk_A.RATE c) ((s.cycle - s.dm.freqAt) * 5 / 8)
  else s

/-- Step `step` of a controller's change fails: the previous set is tried, and after that the controller is DOWN. -/
def State.freqFail (s : State) (f : Freq) (step : Nat) : State :=
  if !f.again then
    s.setDmc (fun d => { d with freqBad := true, freq := d.freq.map (fun x => if x.ctl = f.ctl then ⟨f.ctl, true, step⟩ else x) })
  else
    let s := s.setDmc (fun d => { d with freqBad := true })
    let s := if f.ctl = 0 then
        (s.setDmcState 0 dmcDown).raiseBatch 4160
          [(Ev.TM_DMC.CTRL_DOWN, some 0, some 0, some (s.rfp TM_DMC.STATUS.STATE 0 0)), (Ev.TM_DMC.FREQ_FAIL, some 2, some 0, some step)]
      else (s.dmcGoDown f.ctl).raise Ev.TM_DMC.FREQ_FAIL 0 2 f.ctl step
    s.freqLeave f.ctl

/-- FREQ_CHANGE_DONE (R366, R367): a controller ends its steps, its accesses having finished, or fails step 4 or 6. -/
def State.freqDone (s : State) (c : Nat) (ok : Bool) (step : Nat) : State :=
  match s.dm.freq.find? (fun f => decide (f.ctl = c)) with
  | none => s
  | some f =>
    if !ok then s.freqFail f step
    else if s.dm.reqs.any (fun r => r.active && decide (unitCtl r.unit_ = c)) then s
    else
      let s := if f.again then s.raise Ev.TM_DMC.FREQ_FAIL 0 1 c f.step
        else s.wfp TM_DMC.STATUS.TSET c 0 (1 - s.rfp TM_DMC.STATUS.TSET c 0)
      ((s.setDmcState c dmcReady).freqResume c).freqLeave c

def execFreqChangeDone (ctl : Nat) (ok : Bool) (step : Nat) (s : State) : Host.Outcome State Fault Refusal :=
  .next (s.onTm (fun s => s.freqDone ctl ok step))

/-- The time from GO by which a step ends, in ns (R366). -/
def freqLimit (step : Nat) : Nat := [0, 0, 2000, 2500, 8000, 9000, 19000, 20000].getD step 20000

/-- FREQ_STEP_TIMEOUT (R367): a step passes its limit. -/
def State.freqTimeout (s : State) (c step : Nat) : State :=
  match s.dm.freq.find? (fun f => decide (f.ctl = c)) with
  | none => s
  | some f => if 1 ≤ step && step ≤ 7 then (s.advanceTo (s.dm.freqAt + cyNs (freqLimit step))).freqFail f step else s

def execFreqStepTimeout (ctl step : Nat) (s : State) : Host.Outcome State Fault Refusal :=
  .next (s.onTm (fun s => s.freqTimeout ctl step))

/-! ### Contents of the counter region and the window (R373, R374) -/

/-- The 32 bytes of a part as a number; what nothing has written is free, and stays as it was read. (DEDUCED, log entry 25.) -/
def State.memPart (s : State) (k : Nat) : Nat × State :=
  let v := SMap.get 0 s.dm.mem k
  if v ≠ 0 then (v - 1, s)
  else
    let (x, s) := (List.range 8).foldl (fun (a : Nat × State) i => let (w, s) := a.2.freeVal; (a.1 + w * 2 ^ (32 * i), s)) (0, s)
    (x, s.setDmc (fun d => { d with mem := SMap.put 0 d.mem k (x + 1) }))

def State.setMemPart (s : State) (k v : Nat) : State := s.setDmc (fun d => { d with mem := SMap.put 0 d.mem k (v % 2 ^ 256 + 1) })

/-- A unit of the counter region (R373). -/
def State.inCtrRegion (s : State) (u : Nat) : Bool := decide (s.ctrUnits ≠ 0) && decide (s.ctrBase ≤ u) && decide (u < s.ctrBase + 65536)

/-- The part that holds the record of a queue. -/
def State.ctrPart (s : State) (q : Nat) : Nat := s.ctrBase * 8 + q

/-- A record with increments added (R373). -/
def addInc (v : Nat) (i : QInc) : Nat :=
  let f := fun lo w n => (bits v lo w + n) % 2 ^ w * 2 ^ lo
  f 0 63 i.deqP + bits v 63 1 * 2 ^ 63 + f 64 64 i.deqB + f 128 64 i.dropP + f 192 64 i.dropB

/-- What a record holds beyond an older one, as increments. -/
def recDiff (v old : Nat) : QInc :=
  let f := fun lo w => (bits v lo w + 2 ^ w - bits old lo w) % 2 ^ w
  ⟨f 0 63, f 64 64, f 128 64, f 192 64⟩

/-- A record that says its counts were lost, with the given increments. -/
def invalidRec (i : QInc) : Nat := addInc (2 ^ 63) i

/-- The counter engine asks for the write of a record. (DEDUCED, log entry 19.) -/
def State.ctrWrite (s : State) (q v : Nat) : State := s.ddrAsk ⟨2, true, s.ctrPart q / 8, q, s.ctrPart q % 8, v, 0, false, false⟩

/-- The counter engine's read of a record ends: the pending increments go into the record that is written back (R369, R373).
(DEDUCED, log entry 19.) -/
def State.ctrRead (s : State) (q : Nat) (ok : Bool) : State :=
  let i := SMap.get QInc.zero s.dm.pend q
  let s := s.setDmc (fun d => { d with pend := SMap.put QInc.zero d.pend q QInc.zero })
  if ok then
    let (v, s) := s.memPart (s.ctrPart q)
    s.ctrWrite q (addInc v i)
  else (s.setMemPart (s.ctrPart q) (2 ^ 63)).ctrWrite q (invalidRec i)

/-- COUNTER_WRITEBACK (R373): the record of a queue with pending increments is read, to be written back. -/
def State.counterWriteback (s : State) (q : Nat) : State :=
  if s.ctrUnits = 0 || 524288 ≤ q || SMap.get QInc.zero s.dm.pend q = QInc.zero ||
      s.dm.reqs.any (fun r => decide (r.who = 2) && decide (r.ref = q)) then s
  else s.ddrAsk ⟨2, false, s.ctrPart q / 8, q, s.ctrPart q % 8, 0, 0, false, false⟩

def execCounterWriteback (queue : Nat) (s : State) : Host.Outcome State Fault Refusal :=
  .next (s.onTm (fun s => s.counterWriteback queue))

/-- The window's access ends with a status (R374). -/
def State.memEnd (s : State) (status : Nat) : State := (s.wf TM_DMC.MEM.BUSY 0).wf TM_DMC.MEM.STATUS status

/-- MEM written with GO: one 32-byte access of the window; a GO while BUSY does nothing. (DEDUCED, log entry 19.) -/
def State.memGo (s : State) (write : Bool) : State :=
  if !s.blockOpen 4160 || s.rfb TM_DMC.MEM.BUSY then s
  else
    let s := s.wf TM_DMC.MEM.OP (b2n write)
    let u := s.rf TM_DMC.MEM_ADDR.UNIT
    if write && !s.inCtrRegion u && s.rfb TM_DMC.DDR_CTRL.ENABLE then s.memEnd stDenied
    else
      let v := sumN ((List.range 8).map (fun k => s.rfi TM_DMC.MEM_DATA.DATA k * 2 ^ (32 * k)))
      (s.wf TM_DMC.MEM.BUSY 1).ddrAsk ⟨3, write, u, 0, s.rf TM_DMC.MEM_ADDR.PART, v, 0, false, false⟩

def execMemWindowRead (s : State) : Host.Outcome State Fault Refusal := .next (s.onTm (fun s => s.memGo false))
def execMemWindowWrite (s : State) : Host.Outcome State Fault Refusal := .next (s.onTm (fun s => s.memGo true))

/-! ### Completion and errors (R368 to R372) -/

/-- A good access serves its requester. -/
def State.accessGood (s : State) (r : DReq) : State :=
  let c := unitCtl r.unit_
  let s := if r.write then s.inc TM_DMC.WRITES.COUNT c 0 1 else s.inc TM_DMC.READS.COUNT c 0 1
  match r.who with
  | 0 => s
  | 1 =>
    if s.reading r.ref then s
    else
      match s.pktById r.ref with
      | none => s
      | some p =>
        match p.loc with
        | .eread i => if s.egrTurn i && s.egrOpen i then s.handoff p i else s
        | .cut _ => s.cutAll
        | _ => s
  | 2 => if r.write then s.setMemPart (r.unit_ * 8 + r.part) r.value else s.ctrRead r.ref true
  | _ =>
    if r.write then (s.setMemPart (r.unit_ * 8 + r.part) r.value).memEnd stOK
    else
      let (v, s) := s.memPart (r.unit_ * 8 + r.part)
      ((List.range 8).foldl (fun s k => s.wfi TM_DMC.MEM_DATA.DATA k (bits v (32 * k) 32)) s).memEnd stOK

/-- A requester meets an error response (R369). -/
def State.accessError (s : State) (r : DReq) : State :=
  match r.who with
  | 0 =>
    let qs := s.pkts.filterMap (fun p => if p.family = r.ref then (match p.loc with | .queue q => some q | _ => none) else none)
    if s.pkts.any (fun p => decide (p.family = r.ref)) then (s.setDmc (fun d => { d with lost := (d.lost ++ [r.ref]).dedup })).lostSweep qs
    else s
  | 1 =>
    match s.pktById r.ref with
    | none => s
    | some p =>
      let s := s.setDmc (fun d => { d with reqs := d.reqs.filter (fun x => !(decide (x.who = 1) && decide (x.ref = r.ref) && !x.active)) })
      let s := match p.loc with
        | .cut st => s.setFab (fun f => { f with cut := SMap.put 0 f.cut st 0 })
        | _ => s
      (((s.dropPkt p).sat1 TM_DMC.DDR_UNC_DROP.COUNT).mcastSweep).flowSweep
  | 2 =>
    if r.write then
      let (old, s) := s.memPart (r.unit_ * 8 + r.part)
      s.ctrWrite r.ref (invalidRec (recDiff r.value old))
    else s.ctrRead r.ref false
  | _ => s.memEnd stEccFail

/-- An uncorrectable access is counted, logged and raised, and its unit is marked for retirement (R369, R370, R372). -/
def State.accessUnc (s : State) (r : DReq) (odecc : Bool) : State :=
  let u := r.unit_
  let c := unitCtl u
  let slot := s.rfp TM_DMC.ERR_NEXT.SLOT c 0
  let retire := !s.inCtrRegion u && decide (s.rfp TM_DMC.RETIRED.UNITS c 0 < 4096)
  let s := s.sat TM_DMC.UNC.COUNT c 0 1
  let w0 := u % 2 ^ 28 + r.who * 2 ^ 28 + b2n r.write * 2 ^ 30 + b2n odecc * 2 ^ 31
  let w1 := unitChan u % 4 + unitBank u % 16 * 2 ^ 2 + r.tries * 2 ^ 6 + unitRow u * 2 ^ 8 + b2n retire * 2 ^ 23
  let s := (s.wfp TM_DMC.ERR_LOG.W0 c slot w0).wfp TM_DMC.ERR_LOG.W1 c slot w1
  let s := (s.wfp TM_DMC.ERR_LOG.W2 c slot s.timeNs).wfp TM_DMC.ERR_LOG.W3 c slot s.timeSec
  let s := s.wfp TM_DMC.ERR_NEXT.SLOT c 0 ((slot + 1) % 16)
  let s := if s.inCtrRegion u then s else s.setDmc (fun d => { d with unc := (d.unc ++ [u]).dedup })
  s.raise Ev.TM_DMC.UNCORRECTABLE c r.who u slot

/-- DMC_ACCESS_COMPLETE (R368, R369, R371): the access in progress of a unit ends; a request toward a controller that is DOWN or
absent receives an error response. (DEDUCED, log entry 19.) -/
def State.accessComplete (s : State) (u : Nat) (write : Bool) (o : AccessOutcome) : State :=
  let c := unitCtl u
  let dead := decide (s.dmcState c = dmcDown) || decide (s.dmcState c = dmcOff)
  match firstIdx (fun (r : DReq) => decide (r.unit_ = u) && (r.write == write) && (r.active || dead)) s.dm.reqs with
  | none => s
  | some i =>
    match s.dm.reqs[i]? with
    | none => s
    | some r =>
      let out := fun (s : State) => s.setDmc (fun d => { d with reqs := d.reqs.take i ++ d.reqs.drop (i + 1) })
      if dead then (out s).accessError r
      else
        let bank := unitBank u
        let s := s.setDmc (fun d => { d with bankFree := SMap.put 0 d.bankFree bank (s.cycle + halfNs (s.tset TM_DMC.TSETk_A.TRP c)) })
        match o with
        | .good => ((out s).accessGood r).forceRefresh bank
        | .corrected =>
          let s := if write then s else s.sat TM_DMC.ODECC_CORR.COUNT c 0 1
          ((out s).accessGood r).forceRefresh bank
        | .crcError =>
          if r.tries < 2 then
            let s := s.sat TM_DMC.CRC_RETRY.COUNT c 0 1
            (s.setDmc (fun d => { d with reqs := listSet d.reqs i { r with tries := r.tries + 1, active := false } })).forceRefresh bank
          else (((out s).accessUnc r false).accessError r).forceRefresh bank
        | .uncorrectable => (((out s).accessUnc r true).accessError r).forceRefresh bank

def execDmcAccessComplete (unit : Nat) (write : Bool) (outcome : AccessOutcome) (s : State) : Host.Outcome State Fault Refusal :=
  .next (s.onTm (fun s => s.accessComplete unit write outcome))

/-! ### Export (R374) -/

/-- COUNTER_EXPORT (R374): a write of EXPORT.GO = 1, discarded while BUSY or without a counter region. -/
def State.exportGo (s : State) : State :=
  if !s.blockOpen 4160 || s.rfb TM_DMC.EXPORT.BUSY || s.ctrUnits = 0 then s
  else (s.wf TM_DMC.EXPORT.BUSY 1).wf TM_DMC.EXPORT.ERR 0

def execCounterExport (s : State) : Host.Outcome State Fault Refusal := .next (s.onTm (fun s => s.exportGo))

/-- COUNTER_EXPORT_DONE (R374, R514): the copy ends; `bad` lists the queues whose record met an uncorrectable read. -/
def State.exportDone (s : State) (bad : List Nat) : State :=
  if !s.rfb TM_DMC.EXPORT.BUSY then s
  else
    let base := s.rf TM_DMC.EXPORT_BASE_HI.ADDR * 2 ^ 32 + s.rf TM_DMC.EXPORT_BASE_LO.ADDR * 2 ^ 12
    let s := (List.range 524288).foldl (fun (s : State) q =>
      let isBad := bad.contains q
      let (v, s) := if isBad then
          (List.range 8).foldl (fun (a : Nat × State) i => let (w, s) := a.2.freeVal; (a.1 + w * 2 ^ (32 * i), s)) (0, s)
        else s.memPart (s.ctrPart q)
      let (ok, s) := s.post false (base + 32 * q) (toLe 32 v)
      if ok && !isBad then s else s.wf TM_DMC.EXPORT.ERR 1) s
    s.wf TM_DMC.EXPORT.BUSY 0

def execCounterExportDone (bad : List Nat) (s : State) : Host.Outcome State Fault Refusal :=
  .next (s.onTm (fun s => s.exportDone bad))

end Sys2Proof.Machine
end

