-- ==== Sys2Proof/Machine/Faults.lean ====
section
/-! DEFINITION. Fault collection (R383 to R403): forwarding and export of log records, Squall, ALIVE and the heartbeat, and the
die-to-die bridge. -/

namespace Sys2Proof.Machine

/-- Events to be raised, one after the other. -/
def State.raiseAll (s : State) (rs : List Raise) : State := rs.foldl (fun s e => s.raiseDepth 4 e.page false [e]) s

/-! ### Records on their way (R383 to R390) -/

/-- A record is lost without an event; the page's lost count says so (R385). -/
def State.loseRec (s : State) (P : Nat) : State := (s.updHdr P PageHdr.loseEvent).perf P 6 1

/-- FE_RECORD_FORWARD (R383, R385, R397): the oldest record of the forwarding buffer crosses the bridge; `bad` that its slot in the
buffer is uncorrectable. -/
def State.recordForward (s : State) (bad : Bool) : State :=
  match s.log.fwd with
  | [] => s
  | r :: rs =>
    if !s.bridgeUp then s
    else
      let s : State := { s with log := { s.log with fwd := rs } }
      if bad then s.loseRec 79
      else
        let (s, nest) := s.admitRec r
        s.raiseAll nest

def execFeRecordForward (bad : Bool) (s : State) : Host.Outcome State Fault Refusal :=
  .next (s.onFe (fun s => s.recordForward bad))

/-- LOG_EXPORT (R385, R390, R514): the oldest record of the device ring goes to the host ring; `slotBad` that its slot is
uncorrectable, `writeBad` that an error is found on its way out. -/
def State.logExport (s : State) (slotBad writeBad : Bool) : State :=
  match s.log.ring with
  | [] => s
  | r :: rs =>
    if !s.operating 4177 || !s.rfb TM_LOG.RING_CTRL.ENABLE || s.rfb TM_LOG.RING_STATUS.ERROR || s.recFull logRing then s
    else
      let out := fun (s : State) => ({ s with log := { s.log with ring := rs } } : State)
      if slotBad then (out s).loseRec 4177
      else
        match s.recWrite logRing writeBad r.word with
        | (true, s) => (out s).inc1 TM_LOG.EXPORTED.COUNT
        | (false, s) =>
          (s.wf TM_LOG.RING_STATUS.ERROR 1).raise Ev.TM_LOG.EXPORT_ERR 0 0 (s.rf TM_LOG.RING_STATUS.TAIL) (s.rf TM_LOG.RING_HEAD.HEAD)

def execLogExport (slotBad writeBad : Bool) (s : State) : Host.Outcome State Fault Refusal :=
  .next (s.onTm (fun s => s.logExport slotBad writeBad))

/-! ### Squall (R391) -/

/-- One SUMMARY record at the end of a window, while the ring has room for ordinary records. -/
def State.summary (s : State) (k : Nat) (c : SumCtr) : State :=
  if 7680 ≤ s.log.ring.length then s
  else
    let P := k / 32
    let h := s.hdr P
    let r : LogRec := ⟨P, k % 32, h.sevOf (k % 32), h.actOf (k % 32), c.lastCause, .summary, false, 0, c.firstTime, c.count,
      c.lastTime % 2 ^ 32⟩
    let s := s.ringPush r
    { s with log := { s.log with sums := SMap.put SumCtr.zero s.log.sums k SumCtr.zero } }

/-- SQUALL_WINDOW_END (R391): the summaries of the window; the episode ends, or a new window starts. -/
def State.squallEnd (s : State) : State :=
  match s.expire .squall 0 with
  | none => s
  | some s =>
    let s := s.wf TM_LOG.SQUALL_STATUS.WINDOWS (satAdd 16 (s.rf TM_LOG.SQUALL_STATUS.WINDOWS) 1)
    let s : State := s.log.sums.foldl (fun s e => s.summary e.1 e.2) s
    if s.log.ring.length ≤ s.squallExitThr && s.log.sums.isEmpty then
      let n := s.log.episode
      let w := s.rf TM_LOG.SQUALL_STATUS.WINDOWS
      let h := s.hdr 4177
      let s := s.wf TM_LOG.SQUALL_STATUS.ACTIVE 0
      let s := s.ringPush ⟨4177, 1, h.sevOf 1, h.actOf 1, 0, .squallEnd, false, 0, s.time80, n, w⟩
      s.raise Ev.TM_LOG.SQUALL_EXIT 0 0 n w
    else s.arm .squall 0 (orWhenZero (s.rf TM_LOG.SQUALL_WINDOW.MS) 1 * cyMs)

def execSquallWindowEnd (s : State) : Host.Outcome State Fault Refusal := .next (s.onTm (fun s => s.squallEnd))

/-- SUMMARY_COUNT_LOAD (R401): SUM_SEL written with GO. -/
def State.sumLoad (s : State) (v : Nat) : State :=
  if !s.blockOpen 4176 then s
  else
    let s := ((s.wf TM_FAULT.SUM_SEL.PAGE (bits v 0 12)).wf TM_FAULT.SUM_SEL.DIE (bits v 12 1)).wf TM_FAULT.SUM_SEL.SOURCE (bits v 13 5)
    let k := (bits v 12 1 * 4096 + bits v 0 12) * 32 + bits v 13 5
    s.setCnt TM_FAULT.SUM_COUNT.COUNT 0 (SMap.get SumCtr.zero s.log.sums k).count

def execSummaryCountLoad (sel : Nat) (s : State) : Host.Outcome State Fault Refusal :=
  .next (s.onTm (fun s => s.sumLoad sel))

/-! ### ALIVE and the heartbeat (R392 to R394) -/

/-- ALIVE stops, with its event. -/
def State.aliveHalt (s : State) (cause : Nat) : State :=
  let (s, rs) := s.aliveStop cause
  s.raiseAll rs

/-- HEARTBEAT (R392, R393): Helri's heartbeat; the first one after a reset starts ALIVE. It ends a hold.
(DEDUCED, log entry 26.) -/
def State.heartbeat (s : State) : State :=
  if !s.blockOpen 4176 then s
  else
    let s := if s.rf TM_FAULT.ALIVE_STATUS.STATE = 0 then s.wf TM_FAULT.ALIVE_STATUS.STATE 1 else s
    (s.disarm .hbHold 0).arm .heartbeat 0 (100 * cyMs)

def execHeartbeat (s : State) : Host.Outcome State Fault Refusal := .next (s.onTm (fun s => s.heartbeat))

/-- HB_HOLD_WRITE (R393): the check is suspended for up to 3,000 ms. (DEDUCED, log entry 26.) -/
def State.hbHold (s : State) (v : Nat) : State :=
  if !s.blockOpen 4176 then s
  else
    let ms := v % 2 ^ 12
    (s.wf TM_FAULT.HB_HOLD.MS ms).arm .hbHold 0 (min ms 3000 * cyMs)

def execHbHoldWrite (ms : Nat) (s : State) : Host.Outcome State Fault Refusal := .next (s.onTm (fun s => s.hbHold ms))

/-- An enabled CRITICAL source has its latch set, BRIDGE_DOWN of FE.D2D through BD_LATCH (R394, R398). -/
def State.criticalLatched (s : State) : Bool :=
  s.hdrs.any (fun e => (List.range 32).any (fun n => bit e.2.latch n && bit e.2.evtEn n && decide (e.2.sevOf n = 3))) ||
    (s.rfb TM_FAULT.STATUS.BD_LATCH && bit (s.hdr 78).evtEn 4 && decide ((s.hdr 78).sevOf 4 = 3))

/-- A heartbeat has arrived in the last 100 ms. -/
def State.beating (s : State) : Bool :=
  match s.timerAt .heartbeat 0 with
  | some d => decide (s.cycle ≤ d)
  | none => false

/-- ALIVE_RESTART (R394). (DEDUCED, log entry 24.) -/
def State.aliveRestart (s : State) : State :=
  if !s.blockOpen 4176 then s
  else if s.criticalLatched || !s.beating then s.wf TM_FAULT.ALIVE_STATUS.RESTART_REFUSED 1
  else (s.wf TM_FAULT.ALIVE_STATUS.STATE 1).wf TM_FAULT.ALIVE_STATUS.RESTART_REFUSED 0

def execAliveRestart (s : State) : Host.Outcome State Fault Refusal := .next (s.onTm (fun s => s.aliveRestart))

/-- ALIVE_STOP (R392). -/
def execAliveStop (s : State) : Host.Outcome State Fault Refusal :=
  .next (s.onTm (fun s => if s.blockOpen 4176 then s.aliveHalt 3 else s))

/-! ### The bridge (R396 to R398) -/

/-- BRIDGE_LANE_INTERVAL (R396): a lane of a bundle ends an interval with `corr` corrected bits. -/
def State.bridgeLane (s : State) (b lane corr : Nat) : State :=
  if 128 ≤ b || !s.bridgeUp then s
  else
    let s := s.sat FE_D2D.CORR.COUNT 0 0 corr
    let s := (List.range corr).foldl (fun s _ => s.raise Ev.FE_D2D.CORRECTED 0 0 b lane) s
    let left := s.rfi FE_D2D.SPARES.SPARES b
    if s.rfb FE_D2D.CTRL.AUTO_REPAIR && orWhenZero (s.rf FE_D2D.CTRL.REPAIR_THR) 1 < corr && 0 < left then
      let s := (s.wfi FE_D2D.SPARES.SPARES b (left - 1)).sat1 FE_D2D.REPAIRS.COUNT
      s.raiseBatch 78 ((Ev.FE_D2D.LANE_REPAIRED, some 0, some b, some lane) ::
        (if left = 1 then [(Ev.FE_D2D.SPARES_EXHAUSTED, some 0, some b, some 0)] else []))
    else s

def execBridgeLaneInterval (bundle lane corr : Nat) (s : State) : Host.Outcome State Fault Refusal :=
  .next (s.onTm (fun s => s.bridgeLane bundle lane corr))

/-- The packet whose words cross the bridge for a pipeline: the latest one handed over. -/
def State.crossing (s : State) (b pipe : Nat) : Option Pkt :=
  (s.at_ (if b < 64 then .tmArrive pipe else .estrip pipe)).getLast?

/-- BRIDGE_WORD_UNCORRECTABLE (R385, R396). One in a register access spoils the next access to an FE page. (DEDUCED, log entry 24.) -/
def State.bridgeWord (s : State) (b : Nat) (w : BridgeWord) : State :=
  if 128 ≤ b || !s.bridgeUp then s
  else
    let note := fun (s : State) (c : Nat) => (s.sat1 FE_D2D.UNC.COUNT).raise Ev.FE_D2D.UNCORRECTABLE 0 c b 0
    match w with
    | .packet i =>
      match s.crossing b i with
      | some p => (note s 1).putPkt { p with bad := true }
      | none => s
    | .metadata i =>
      match s.crossing b i with
      | some p => ((note s 2).dropPkt p).sat1 FE_D2D.META_DROP.COUNT
      | none => s
    | .register => note { s with log := { s.log with accessBad := some b } } 3
    | .record =>
      match s.log.fwd with
      | [] => s
      | _ :: rs => note (({ s with log := { s.log with fwd := rs } } : State).loseRec 79) 4

def execBridgeWordUncorrectable (bundle : Nat) (what : BridgeWord) (s : State) : Host.Outcome State Fault Refusal :=
  .next (s.onTm (fun s => s.bridgeWord bundle what))

/-- The BRIDGE_DOWN event that the TM makes for FE.D2D (R398): record, latch, the action of the copy, and ALIVE.
(DEDUCED, log entry 20.) (DEDUCED, log entry 28.) -/
def State.bridgeDownEvent (s : State) (b : Nat) : State :=
  let h := s.hdr 78
  let s := s.wf TM_FAULT.STATUS.BD_LATCH 1
  if !bit h.evtEn 4 then s
  else
    let s := s.inc TM_FAULT.SEV_CNT.COUNT 0 (h.sevOf 4) 1
    let (s, nest) := s.admitRec ⟨78, 4, h.sevOf 4, h.actOf 4, 0, .event, false, 0, s.time80, b, 0⟩
    let s := s.raiseAll nest
    let a := h.actOf 4 % 8
    let s := if a = 2 then s.nmi 78 4
      else if a = 5 then
        let s := ((s.wf TM_FAULT.LAST_CHIP_RESET.PAGE 78).wf TM_FAULT.LAST_CHIP_RESET.DIE 0).wf TM_FAULT.LAST_CHIP_RESET.SOURCE 4
        { (s.wf TM_FAULT.LAST_CHIP_RESET.VALID 1) with chipReq := true }
      else if a = 0 then s
      else s.causeFire (256 + 78)
    if h.sevOf 4 = 3 then s.aliveHalt 1 else s

/-- BRIDGE_DOWN (R397, R398): a bundle loses alignment. -/
def State.bridgeDown (s : State) (b : Nat) : State :=
  if 128 ≤ b || !s.bridgeUp then s
  else
    let s := ((s.wf FE_D2D.STATUS.UP 0).wf FE_D2D.STATUS.DOWN_BUNDLE b).wf TM_FAULT.STATUS.BRIDGE_UP 0
    s.bridgeDownEvent b

def execBridgeDown (bundle : Nat) (s : State) : Host.Outcome State Fault Refusal :=
  .next (s.onTm (fun s => s.bridgeDown bundle))

end Sys2Proof.Machine
end

