-- ==== Sys2Proof/Machine/Perf.lean ====
section
/-! DEFINITION. Freezing the page counters, snapshots of all counters, and the export of trace records (R417 to R420, R426). -/

namespace Sys2Proof.Machine

/-! ### Freeze (R417) -/

/-- The core cycle of the first TICK at least 64 TICKs away. -/
def State.tickAhead (s : State) : Nat := (s.cycle + 129) / 2 * 2

/-- FREEZE_WRITE (R417): the change takes effect at TICK T; a later write replaces an earlier one. -/
def State.freezeWrite (s : State) (v : Nat) : State :=
  if s.blockOpen 4178 then (s.wf TM_PERF.FREEZE.FREEZE (v % 2)).armAt .freeze 0 s.tickAhead else s

def execFreezeWrite (v : Nat) (s : State) : Host.Outcome State Fault Refusal := .next (s.onTm (fun s => s.freezeWrite v))

/-- FREEZE_APPLY (R417): TICK T is reached. -/
def State.freezeApply (s : State) : State :=
  match s.expire .freeze 0 with
  | some s => s.wf TM_PERF.FREEZE.FROZEN (s.rf TM_PERF.FREEZE.FREEZE)
  | none => s

def execFreezeApply (s : State) : Host.Outcome State Fault Refusal := .next (s.onTm (fun s => s.freezeApply))

/-! ### Snapshots (R418 to R420) -/

/-- The assigned pages: those of the FE, then those of the TM, in ascending page number. -/
def allPages : List Nat := pageKinds.flatMap (fun k => (List.range k.2.1).map (k.1 + ·))

/-- The counter fields of a page instance, each with its element (R415, R420): registers of TM.DMC0 alone do not stand on the
other controllers (R376). -/
def pageCounters (P : Nat) : List (Fld × Nat) :=
  match pageKind P with
  | none => []
  | some k =>
    (k.2.2.2.filter (fun f => decide (k.1 ≠ 4160) || decide (P = 4160) || decide (f.off < 0x400))).flatMap (fun f =>
      (List.range f.cnt).map (fun i => (f, i)))

/-- SNAP_LEN (R420): the length of an image in bytes. -/
def snapLen : Nat := 64 + sumN (allPages.map (fun P => 8 + 8 * (4 + (pageCounters P).length)))

/-- The entry of a page (R420). -/
def State.pageEntry (s : State) (P : Nat) : Bytes :=
  let h := s.hdr P
  let cs := pageCounters P
  let zero := h.fenced || h.inReset
  toLe 8 (P % 4096 + P / 4096 * 2 ^ 12 + b2n zero * 2 ^ 13 + cs.length * 2 ^ 16) ++
    toLe 8 h.perf0.count ++ toLe 8 h.perf1.count ++ toLe 8 h.perf2.count ++ toLe 8 h.perf3.count ++
    cs.flatMap (fun e => toLe 8 (if zero then 0 else s.rfp e.1 (P - pageBase P) e.2))

/-- The snapshot image as the counters stand now (R420). -/
def State.snapImage (s : State) (seq : Nat) : Bytes :=
  toLe 64 (s.time80 + seq * 2 ^ 96 + s.tick * 2 ^ 128 + allPages.length * 2 ^ 192 + s.rf TM_PERF.FREEZE.FROZEN * 2 ^ 208) ++
    allPages.flatMap s.pageEntry

/-- The snapshot in execution ends with a status. -/
def State.snapEnd (s : State) (status result : Nat) (bufs : List (Nat × Bytes)) : State :=
  match s.snap with
  | none => s
  | some x =>
    let s : State := { s with snap := none }
    ((s.wf TM_PERF.SNAP_STATUS.BUSY 0).disarm .snapshot 0).finish x.cmd status 0 result bufs

/-- SNAPSHOT (R418, R419): the checks, and the choice of T; one snapshot executes at a time, in the order in which they came. -/
def State.snapshot (s : State) (id : Nat) : State :=
  match s.startable id (fun op => decide (op = 0x50)) with
  | none => s
  | some c =>
    if s.snap.isSome || s.hc.cmds.any (fun d => decide (d.opcode = 0x50) && decide (d.id < id) && s.mayStart d) then s
    else if c.bits 128 6 ≠ 0 || c.bits 192 32 < snapLen then s.finishR id stInvalid 20 snapLen
    else if !s.bridgeUp then s.finishR id stTimeout 0 0
    else
      let s : State := { s.begin id with snap := some ⟨id, none⟩ }
      (s.wf TM_PERF.SNAP_STATUS.BUSY 1).armAt .snapshot 0 s.tickAhead

def execSnapshot (id : Nat) (s : State) : Host.Outcome State Fault Refusal := .next (s.onTm (fun s => s.snapshot id))

/-- Every PERF_CNT of both dies is 0 (R418). -/
def PageHdr.clearPerf (h : PageHdr) : PageHdr :=
  { h with perf0 := { h.perf0 with count := 0 }, perf1 := { h.perf1 with count := 0 }, perf2 := { h.perf2 with count := 0 },
           perf3 := { h.perf3 with count := 0 } }

/-- SNAPSHOT_LATCH (R419): at T every counter is latched. -/
def State.snapLatch (s : State) : State :=
  match s.expire .snapshot 0 with
  | none => s
  | some s =>
    match s.snap with
    | none => s
    | some x =>
      if !s.bridgeUp then s.snapEnd stTimeout 0 []
      else
        let seq := (s.rf TM_PERF.SNAP_SEQ.SEQ + 1) % 2 ^ 32
        let img := s.snapImage seq
        let clear := match s.cmd x.cmd with
          | some c => decide (c.bits 224 1 = 1)
          | none => false
        let s := s.wf TM_PERF.SNAP_SEQ.SEQ seq
        let s := (s.wf TM_PERF.SNAP_TIME_NS.NS s.timeNs).wf TM_PERF.SNAP_TIME_SEC_LO.SEC (s.timeSec % 2 ^ 32)
        let s := s.wf TM_PERF.SNAP_TIME_SEC_HI.SEC (s.timeSec / 2 ^ 32)
        let s : State := { s.tookEffect x.cmd with snap := some { x with image := some (img, s.time80) } }
        if clear then { s with hdrs := s.hdrs.map (fun e => (e.1, e.2.clearPerf)) } else s

def execSnapshotLatch (s : State) : Host.Outcome State Fault Refusal := .next (s.onTm (fun s => s.snapLatch))

/-- SNAPSHOT_COPY_DONE (R419): the image goes to host memory ahead of the completion (R51). -/
def State.snapCopied (s : State) : State :=
  match s.snap with
  | some ⟨id, some (img, t)⟩ =>
    if !s.bridgeUp then s.snapEnd stTimeout 0 []
    else
      match s.cmd id with
      | none => s.snapEnd stOK 0 []
      | some c =>
        s.snapEnd stOK (img.length + t * 2 ^ 32 + s.rf TM_PERF.SNAP_SEQ.SEQ * 2 ^ 112) [(c.bits 128 64, img)]
  | _ => s

def execSnapshotCopyDone (s : State) : Host.Outcome State Fault Refusal := .next (s.onTm (fun s => s.snapCopied))

/-! ### Trace export (R426) -/

/-- TRACE_EXPORT (R338, R390, R426, R514): the oldest record of a die's device ring goes to its host ring.
(DEDUCED, log entry 24.) -/
def State.traceExport (s : State) (tm bad : Bool) : State :=
  let r := if tm then tmTraceRing else feTraceRing
  let err := if tm then TM_PERF.RING_STATUS.ERROR else FE_TRACE.RING_STATUS.ERROR
  match (if tm then s.tr.tm else s.tr.fe) with
  | [] => s
  | v :: vs =>
    if !s.operating (if tm then 4178 else 77) || s.rf r.enable = 0 || s.rfb err || s.recFull r || (!tm && !s.bridgeUp) then s
    else
      match s.recWrite r bad v with
      | (true, s) => if tm then { s with tr := { s.tr with tm := vs } } else { s with tr := { s.tr with fe := vs } }
      | (false, s) => s.wf err 1

def execTraceExport (tm bad : Bool) (s : State) : Host.Outcome State Fault Refusal :=
  .next (if tm then s.onTm (fun s => s.traceExport true bad) else s.onFe (fun s => s.traceExport false bad))

end Sys2Proof.Machine
end

