-- ==== Sys2Proof/Machine/Stage.lean ====
section
/-! DEFINITION. Staging: classifier rules (R84 to R86, R144, R517) and the two kinds of EPOCH_STAGE (R81, R82, R88, R98,
R516). -/

namespace Sys2Proof.Machine

/-! ### Rule records -/

/-- Why a rule record fails: a loader code, or no room in a table. -/
inductive RuleErr where
  | code (c : Nat)
  | full (table : Nat)
  deriving DecidableEq, Repr

/-- The visibility bit of a bank in a rule entry (R144). -/
def visBit (b : Bool) : Nat := if b then 262 else 261

/-- The slot of a rule visible in bank `x`, by MASK_ID and KEY. -/
def State.ruleSlot (s : State) (x : Bool) (t : Tbl) (l key : Nat) : Option Nat :=
  (t.lineSlots l).find? (fun sl =>
    bit (s.slotOf t sl) (visBit x) && decide (t.keyField (s.slotOf t sl) = key) && !s.slotWordsGone t sl 0 9)

/-- A rule entry is malformed for its chain table (R144). -/
def ruleMalformed (b : Bank) (c : ChainTbl) (e : Nat) : Bool :=
  let g := bits e 256 5
  let k := bits e 0 256
  decide (c.groups ≤ g) || decide (bits e 283 2 = 3) || decide (2 ^ (32 * c.keyLen) ≤ k) ||
    decide (k &&& b.groupMask c g ≠ k)

/-- The visible entry of slot `sl` loses its bit of bank `x`; an entry that no bank sees is free at once only when the
group itself had added it, and is freed at retirement otherwise. -/
def State.ruleHide (s : State) (x : Bool) (t : Tbl) (sl : Nat) : State :=
  let s := s.writeEntry t t.live sl (setBit (s.slotOf t sl) (visBit x) false)
  { s with ep := { s.ep with changes := s.ep.changes ++ [(t.dir, t.id, sl)] } }

/-- A new rule entry with IN_x = 1 and the other bit 0 in a free slot of its line. -/
def State.rulePut (s : State) (x : Bool) (t : Tbl) (l e : Nat) : Option State :=
  match s.freeSlot t l with
  | none => none
  | some sl =>
    let e := setBit (setBit (bits e 0 384) (visBit x) true) (visBit (!x)) false
    let s := s.writeEntry t t.live sl e
    some { s with ep := { s.ep with changes := s.ep.changes ++ [(t.dir, t.id, sl)] } }

/-- One record of R85 applied to bank `x` (R86). `counted` tells whether it counts toward the 16,384 changes. -/
def State.ruleApply (s : State) (x addOnly : Bool) (r : Nat) : Except RuleErr State :=
  let b := s.bank x
  let op := bits r 0 8
  let t := bits r 8 4
  let e := bits r 128 384
  if 2 < op || (addOnly && op ≠ 0) then .error (.code 0x0505)
  else if b.chainLen ≤ t then .error (.code 0x0501)
  else
    let c := b.chainTbl t
    if ruleMalformed b c e then .error (.code 0x0505)
    else
      match b.tblDir 0 (c.firstId + bits e 256 5) with
      | none => .error (.code 0x0501)
      | some tb =>
        let counts := !addOnly || (s.bank (!x)).tbls.any (fun a => decide (a.dir = 0) && decide (a.id = tb.id) &&
          (decide (a.reg0 = tb.liveReg) || decide (a.reg1 = tb.liveReg)))
        let n := s.rf TM_EPOCH.RULE_CHANGES.COUNT
        if counts && 16384 ≤ n then .error (.code 0x0504)
        else
          let k := bits e 0 261
          let (l, _) := tb.hash c.keyLen (bits e 0 256)
          let s' := if counts then s.setCnt TM_EPOCH.RULE_CHANGES.COUNT 0 (n + 1) else s
          let put := fun (s : State) => match s.rulePut x tb l e with
            | some s => Except.ok s
            | none => .error (.full tb.id)
          match s.ruleSlot x tb l k with
          | some sl =>
            if op = 0 then .error (.code 0x0502)
            else if op = 1 then .ok (s'.ruleHide x tb sl)
            else put (s'.ruleHide x tb sl)
          | none => if op = 0 then put s' else .error (.code 0x0503)

/-- Records applied in list order; the index of the one that fails comes with the failure. -/
def State.rulesApply (s : State) (x addOnly : Bool) : Nat → List Nat → Except (Nat × RuleErr) State
  | _, [] => .ok s
  | i, r :: rs =>
    match s.ruleApply x addOnly r with
    | .error e => .error (i, e)
    | .ok s => s.rulesApply x addOnly (i + 1) rs

/-- The records before the one that fails, applied: what a failed CLASS_RULES section leaves in the tables. -/
def State.rulesUpTo (s : State) (x addOnly : Bool) : List Nat → State
  | [] => s
  | r :: rs =>
    match s.ruleApply x addOnly r with
    | .error _ => s
    | .ok s => s.rulesUpTo x addOnly rs

/-- The 64-byte records of a buffer. -/
def ruleRecords (bs : Bytes) (n : Nat) : List Nat := (List.range n).map (fun k => leAt bs (64 * k) 64)

/-! ### Outcomes of a stage -/

/-- The loader registers of a die that failed (R82, R103): the code, its section, and the byte offset of the failing record in that
section; a check that is of no record leaves the offset open. PHASE shows 0 IDLE. (DESIGN CHOICE, log entry 10.) -/
def State.loadFail (s : State) (e : LoadErr) : State :=
  let (off, s) := s.orFree e.off
  let s := (s.wf TM_ALM.LOAD_STATUS.ERR_CODE e.code).wf TM_ALM.ERR_SECTION.INDEX (e.sec.getD 0)
  let s := (s.wf TM_ALM.ERR_OFFSET.OFFSET off).loaderPhase 0
  if e.tm then
    (s.wf TM_ALM.LOAD_STATUS.ERROR 1).raiseO Ev.TM_ALM.LOAD_FAIL 0 (some (e.code % 256)) (some e.code) none
  else
    let s := (s.wf FE_ALM.LOAD_STATUS.ERROR 1).wf FE_ALM.LOAD_STATUS.ERR_CODE e.code
    let s := (s.wf FE_ALM.ERR_SECTION.INDEX (e.sec.getD 0)).wf FE_ALM.ERR_OFFSET.OFFSET off
    s.raiseO Ev.FE_ALM.LOAD_FAIL 0 (some (e.code % 256)) (some e.code) none

/-- STATUS of a loader code (R82). -/
def loadStatus (code : Nat) : Nat := if 0x0201 ≤ code && code ≤ 0x0204 then stDenied else stInvalid

/-- The stage of command `id` is over: no timer, no stage in progress. -/
def State.stageOver (s : State) : State :=
  let s := s.disarm .stage 0
  { s with ep := { s.ep with stage := none, stageStep := 0, head := [] } }

/-- 512 free bits, from free value `n` on. -/
def freeWide (n : Nat) : Nat := sumN ((List.range 16).map (fun i => (Config.freeWord (n + i)).toNat * 2 ^ (32 * i)))

/-- What a failure from step 3 on leaves in the staged bank (R81, R87): an undefined image, so its identity, depths, layout, RWE_INIT
values and the bytes of its sections are free values (log entry 7). A section holds at most 2^26 bytes (R81) and a layout at most 255
records. -/
def Bank.undefined (k : Bank) (n : Nat) : Bank :=
  let w := fun i => (Config.freeWord (n + i)).toNat
  let m := n + 16 + k.secs.length * 2 ^ 26
  { k with
    almId := w 0, build := w 1, depthI := w 2 % 2 ^ 11, depthE := w 3 % 2 ^ 11,
    digest := toLe 48 (sumN ((List.range 12).map (fun i => w (4 + i) * 2 ^ (32 * i)))),
    rwe := (rweFields.flatMap (fun f => (List.range f.cnt).map (fun i => f.key 0 i))).mapIdx
      (fun i key => (key, (Config.freeWord (m + 4096 + i)).toNat)),
    tbls := (List.range ((Config.freeWord m).toNat % 256)).map (fun i => Tbl.ofBits (freeWide (m + 1 + 16 * i))),
    secs := (List.range k.secs.length).map (fun j =>
      let c := k.secs.getD j ⟨0, 0, 0, []⟩
      { c with data := (List.range c.data.length).map (fun i => (Config.freeWord (n + 16 + j * 2 ^ 26 + i)).setWidth 8) }) }

/-- The visibility in bank `x` of every rule entry that the group has changed is a free value. -/
def State.visUndefined (s : State) (x : Bool) (k : Bank) : State :=
  s.ep.changes.foldl (fun s c =>
    match k.tblDir c.1 c.2.1 with
    | none => s
    | some t =>
      let (v, s) := s.freeVal
      s.writeEntry t t.live c.2.2 (setBit (s.slotOf t c.2.2) (visBit x) (bit v 0))) s

/-- The staged bank is undefined (R81, R87): its image, its rule visibility and its RWE fields are free values.
(DESIGN CHOICE, log entry 10.) -/
def State.stagedUndefined (s : State) : State :=
  let x := s.stagedBank
  let k := s.bank x
  let s := (s.visUndefined x k).setBank x (k.undefined s.freeCtr)
  let s : State := { s with freeCtr := s.freeCtr + 16 + k.secs.length * 2 ^ 26 + 2 ^ 17 }
  rweFields.foldl (fun s f => (List.range f.cnt).foldl (fun s i =>
    let (v, s) := s.freeVal
    s.wfBank f x i v) s) s

/-- The epoch machine after a stage that failed in a step of R81: FAILED with its staged bank undefined from step 3 on, the starting
state before it. The bounds of R355 count the larger bank values from then on. (DESIGN CHOICE, log entry 10.) -/
def State.stageFailed (s : State) (prev step : Nat) : State :=
  if 3 ≤ step then (s.stagedUndefined.setEpochState esFailed).latchBounds else s.setEpochState prev

/-- An ALMANAC stage fails in a step: FAILED from step 3 on, the starting state before it (R81). -/
def State.stageFail (s : State) (id prev step : Nat) (e : LoadErr) : State :=
  let s := s.stageOver.loadFail e
  let s := s.stageFailed prev step
  s.finishR id (loadStatus e.code) e.code 0

/-- NEED_REHASH of a rule table without room, counted in FE.TCMD.REHASH (R82, R86, R209). (DESIGN CHOICE, log entry 10.) -/
def State.countRehash (s : State) (table : Nat) : State :=
  (s.sat FE_TCMD.REHASH.COUNT 0 0 1).wf FE_TCMD.REHASH.LAST_TABLE table

/-- The regions of a staged layout that the active one does not hold are cleared (R516). -/
def State.clearRegions (s : State) (st act : Bank) : State :=
  let news := st.tbls.flatMap (fun t => [(t, t.reg0), (t, t.reg1)]) |>.filter (fun x => x.2.used &&
    !act.tbls.any (fun a => decide (a.dir = x.1.dir) && decide (a.id = x.1.id) && (decide (a.reg0 = x.2) || decide (a.reg1 = x.2))))
  news.foldl (fun s x =>
    let d := x.1.dir
    let g := x.2
    let inside := fun k => decide (k / 49152 / 128 = d) && g.holds (k / 49152 % 128) (k % 49152)
    let cell := fun k => decide (k / 128 / 8 = d) && decide (g.firstCell ≤ k % 128) && decide (k % 128 < g.firstCell + g.cells)
    let lineIn := fun w => decide (g.firstLine ≤ w / 8) && decide (w / 8 < g.firstLine + g.lpc)
    let fix := fun (e : Ecc) =>
      if e.all then
        { e with flips := (e.flips.filter (fun w => !lineIn w)) ++ (List.range (g.lpc * 8)).map (fun w => g.firstLine * 8 + w) }
      else { e with flips := e.flips.filter (fun w => !lineIn w) }
    { s with tm := { s.tm with
        fills := ⟨d, g, decide (x.1.kind = kFilter4) || decide (x.1.kind = kFilter6)⟩ :: s.tm.fills,
        sram := SMap.drop inside s.tm.sram,
        ecc := (s.tm.ecc.map (fun (e : Nat × Ecc) => if cell e.1 then (e.1, fix e.2) else e)).filter (fun e => !decide (e.2 = Ecc.clean)) } }) s

/-- Loader writes of slot memory renew the slot image store's words of that bank (R117). -/
def State.storeRenew (s : State) (b : Bool) : State :=
  { s with ca := { s.ca with storeLost := SMap.drop (fun k => decide (k % 256 / 128 = b2n b)) s.ca.storeLost } }

/-- BYTES_LOADED of both dies after the first `n` sections of the table (R103). -/
def State.setLoaded (s : State) (b : Bytes) (n : Nat) : State :=
  let bytes := fun d => sumN (((imgEntries b).take n).filter (fun e => decide (e.die = d)) |>.map (fun e => e.len))
  (s.wf TM_ALM.BYTES_LOADED.BYTES (bytes 1)).wf FE_ALM.BYTES_LOADED.BYTES (bytes 0)

/-- A section whose fetch failed has been loaded in an open part. -/
def State.partLoaded (s : State) (e : SecEntry) : State :=
  let (v, s) := s.freeVal
  let f := if e.die = 1 then TM_ALM.BYTES_LOADED.BYTES else FE_ALM.BYTES_LOADED.BYTES
  s.wf f (s.rf f + v % max e.len 1)

/-- The first section in table order whose fetch or digest fails, and the loader code (R81 step 3). -/
def sectionFault (b : Bytes) (img : StageFetch) : Option (Nat × Nat) :=
  (List.range (imgSecs b)).findSome? (fun k =>
    if img.failAt = some (k + 1) then some (k, 0x0108)
    else if leNat (toBe 48 (Config.sha384 (imgData b (imgEntry b k))).toNat) ≠ (imgEntry b k).digest then some (k, 0x0203)
    else none)

/-- The staged bank `x` takes the RWE fields its image sets (R79). -/
def State.loadRwe (s : State) (x : Bool) (st : Bank) : State :=
  st.rwe.foldl (fun s (k, v) =>
    rweFields.foldl (fun s f => (List.range f.cnt).foldl (fun s i => if f.key 0 i = k then s.wfBank f x i v else s) s) s) s

/-- Step 3 of R81: the sections in table order, then the rules of CLASS_RULES (R516, R517). It answers what has been written, and the
failure if there is one. A section that fails leaves what its forerunners brought. (DESIGN CHOICE, log entry 10.) -/
def State.stageLoad (s : State) (b : Bytes) (img : StageFetch) : Option (LoadErr ⊕ Nat) × State :=
  let x := s.stagedBank
  let hasAct := !s.ep.fromNone
  let act := s.bank (!x)
  let st := bankOf b act hasAct
  let bad := sectionFault b img
  let loaded := fun typ => match bad, secIdx b typ none with
    | some (k, code), some i => decide (i < k) || (decide (i = k) && decide (code = 0x0203))
    | _, some _ => true
    | _, none => false
  let s := ((s.setBank x st).storeRenew x).loadRwe x st
  let s := match bad with
    | none => s.setLoaded b (imgSecs b)
    | some (k, code) => if code = 0x0203 then s.setLoaded b (k + 1) else (s.setLoaded b k).partLoaded (imgEntry b k)
  let s := if loaded 0x0020 then s.clearRegions st (if hasAct then act else { act with tbls := [] }) else s
  let cr := if loaded 0x0020 && loaded 0x0011 && loaded 0x0012 then st.sec 0x0012 else []
  let recs := ruleRecords cr (cr.length / 64)
  let sec := secIdx b 0x0012 none
  match s.rulesApply x true 0 recs with
  | .error (i, .code c) => (some (.inl ⟨c, false, sec, some (64 * i)⟩), s.rulesUpTo x true recs)
  | .error (_, .full t) => (some (.inr t), s.rulesUpTo x true recs)
  | .ok s =>
    match bad with
    | some (k, code) => (some (.inl ⟨code, decide ((imgEntry b k).die = 1), some k, none⟩), s)
    | none => (none, s)

/-- The stage passes: STAGED, with the registers of R103 and the RESULT of R98. -/
def State.stageDone (s : State) (id : Nat) (b : Bytes) : State :=
  let k := s.bank s.stagedBank
  let s := (s.stageOver.setEpochState esStaged).loaderPhase 3
  let s := (s.wf TM_ALM.STAGED_ID.ID k.almId).wf TM_ALM.STAGED_BUILD.SEQ k.build
  let s := (List.range 12).foldl (fun s j => s.wfi TM_ALM.STAGED_DIGEST.DIGEST j (le32 k.digest (4 * j))) s
  s.latchBounds.finishR id stOK 0 (k.almId + k.build * 2 ^ 64 + imgSecs b * 2 ^ 96)

/-- A stage stands in step `k` of R81 with what it has fetched and checked. -/
def State.stageHold (s : State) (k : Nat) (head : Bytes) : State := { s with ep := { s.ep with stageStep := k, head := head } }

/-- A rule table without room ends the stage in step 3 (R82). -/
def State.stageFull (s : State) (id table : Nat) : State :=
  (((s.stageOver.countRehash table).stageFailed esStaging 3).loadFail ⟨0, false, none, none⟩).finishR id stNeedRehash table 0

/-- Steps 4 and 5 of R81 on a staged bank that has been loaded, from step `k` on. -/
def State.stageVerify (s : State) (id prev k : Nat) (b : Bytes) (img : StageFetch) : State :=
  let x := s.stagedBank
  let s := s.loaderPhase 2
  let check := if k ≤ 4 then checkStatic b (s.bank x) (s.bank (!x)) (!s.ep.fromNone) else none
  if img.stall = some 4 && decide (k ≤ 4) then s.stageHold 4 b
  else
    match check with
    | some e => s.stageFail id prev 4 e
    | none =>
      if img.stall = some 5 then s.stageHold 5 b
      else
        match img.badReadback with
        | some i => s.stageFail id prev 5 ⟨0x0401, decide ((imgEntry b i).die = 1), some i, none⟩
        | none => s.stageDone id b

/-- A remap copy runs in a strip: the loader holds its writes to it until the copy ends (R97, R125). -/
def State.loaderHeld (s : State) : Bool := (List.range 16).any (fun st => (s.remapNow st).isSome)

/-- Step 3 of R81 and what follows it. -/
def State.stageFrom3 (s : State) (id prev : Nat) (b : Bytes) (img : StageFetch) : State :=
  let s := s.loaderPhase 1
  if s.loaderHeld || img.stall = some 3 then s.stageHold 3 (b.take (256 + 64 * imgSecs b + 128))
  else
    match s.stageLoad b img with
    | (some (.inl e), s) => s.stageFail id prev 3 e
    | (some (.inr t), s) => s.stageFull id t
    | (none, s) => s.stageVerify id prev 4 b img

/-- The run of an ALMANAC stage that has begun from state `prev` (R81), from the step it has reached: what it has fetched in earlier
deliveries of the command stands, and `img` gives the rest. A stage that stalls in a step stays STAGING. -/
def State.stageRun (s : State) (id prev bufLen : Nat) (img : StageFetch) : State :=
  let b := s.ep.head ++ img.bytes.drop s.ep.head.length
  let k := s.ep.stageStep
  if 4 ≤ k then s.stageVerify id prev k b img
  else if k = 3 then s.stageFrom3 id prev b img
  else if img.failAt = some 0 && decide (k ≤ 1) then s.stageFail id prev 1 ⟨0x0108, true, none, none⟩
  else if img.stall = some 1 && decide (k ≤ 1) then s.stageHold 1 []
  else
    match checkContainer b bufLen with
    | some e => s.stageFail id prev 1 e
    | none =>
      let s := s.wf TM_ALM.LOAD_STATUS.PHASE 2
      if img.stall = some 2 then s.stageHold 2 (b.take (256 + 64 * imgSecs b + 128))
      else
        match s.checkSignature b with
        | some e => s.stageFail id prev 2 e
        | none => s.stageFrom3 id prev b img

/-- A stage starts from state `prev` (R87): STAGING, its limit of 2 s running, the errors of the last stage cleared. -/
def State.stageStart (s : State) (id prev : Nat) : State :=
  let s := (s.begin id).setEpochState esStaging
  let ch := if prev = esStaged then s.ep.changes else []
  let none_ := if prev = esStaged then s.ep.fromNone else decide (prev = esNoEpoch)
  let s := { s with ep := { s.ep with stage := some (id, prev), stageStep := 1, head := [], fromNone := none_, changes := ch } }
  let s := if prev = esStaged then s else s.wf TM_EPOCH.RULE_CHANGES.COUNT 0
  let s := (s.wf TM_ALM.LOAD_STATUS.ERROR 0).wf FE_ALM.LOAD_STATUS.ERROR 0
  (s.wf TM_ALM.BYTES_LOADED.BYTES 0).wf FE_ALM.BYTES_LOADED.BYTES 0

/-- EPOCH_STAGE of kind ALMANAC (R81, R88, R98), or with a KIND that is none (R83 BAD_KIND). (DESIGN CHOICE, log entry 10.) -/
def State.stageAlmanac (s : State) (id : Nat) (img : StageFetch) : State :=
  match s.cmd id with
  | none => s
  | some c =>
    if c.opcode ≠ 0x30 || c.bits 64 4 = 2 then s
    else
      let len := c.bits 192 32
      match s.ep.stage with
      | some (k, prev) =>
        if k = id && c.phase = .begun then s.stageRun id prev len img
        else if s.mayStart c then s.finishR id stEpochBusy 0 0 else s
      | none =>
        if !s.mayStart c || s.epochState = esRetiring || s.ep.remirror then s
        else if c.bits 64 4 ≠ 1 then s.finishR id stInvalid 0x0601 0
        else if s.epochState ≠ esNoEpoch && s.epochState ≠ esIdle then s.finishR id stEpochBusy 0 0
        else if len = 0 then s.finishR id stInvalid 0x0605 0
        else
          let prev := s.epochState
          let s := (s.stageStart id prev).arm .stage 0 (2 * cySec)
          (s.wf TM_ALM.LOAD_STATUS.PHASE 1).stageRun id prev len img

def execEpochStageAlmanac (id : Nat) (img : StageFetch) (s : State) : Host.Outcome State Fault Refusal :=
  .next (s.onTm (fun s => s.stageAlmanac id img))

/-- STAGE_TIMEOUT (R81, R82): an ALMANAC stage has not finished 2 s after it started. -/
def State.stageTimeout (s : State) : State :=
  match s.expire .stage 0 with
  | none => s
  | some s =>
    match s.ep.stage with
    | none => s
    | some (id, prev) =>
      let step := s.ep.stageStep
      let s := s.stageOver.loadFail ⟨0, true, none, none⟩
      (s.stageFailed prev step).finishR id stTimeout 0 0

def execStageTimeout (s : State) : Host.Outcome State Fault Refusal := .next (s.onTm (fun s => s.stageTimeout))

/-- A RULES stage that has started from state `prev` runs (R85, R86): all records or none. (DESIGN CHOICE, log entry 10.) -/
def State.rulesRun (s : State) (id prev len : Nat) (recs : ReadResult) : State :=
  let failed := s.stageOver.setEpochState prev
  match recs with
  | .fail => (failed.loadFail ⟨0x0108, false, none, none⟩).finishR id stInvalid 0x0108 0
  | .data bs =>
    match s.rulesApply s.stagedBank false 0 (ruleRecords bs (len / 64)) with
    | .ok s =>
      let s := s.stageOver.setEpochState esStaged
      s.finishR id stOK 0 (s.rf TM_EPOCH.RULE_CHANGES.COUNT)
    | .error (i, .code k) => (failed.loadFail ⟨k, false, none, some (64 * i)⟩).finishR id stInvalid k 0
    | .error (i, .full t) => ((failed.countRehash t).loadFail ⟨0, false, none, some (64 * i)⟩).finishR id stNeedRehash t 0

/-- EPOCH_STAGE of kind RULES (R85, R86, R88, R98). While a remap copy runs, the loader's writes wait in STAGING and the command goes
on when it comes again (R97). (DESIGN CHOICE, log entry 10.) -/
def State.stageRules (s : State) (id : Nat) (recs : ReadResult) : State :=
  match s.cmd id with
  | none => s
  | some c =>
    let e := s.epochState
    let len := c.bits 192 32
    if c.opcode ≠ 0x30 || c.bits 64 4 ≠ 2 then s
    else if s.ep.stage.map Prod.fst = some id && decide (c.phase = CmdPhase.begun) then
      if s.loaderHeld then s else s.rulesRun id ((s.ep.stage.map Prod.snd).getD e) len recs
    else if !s.mayStart c || e = esRetiring || s.ep.remirror then s
    else if e = esNoEpoch then s.finishR id stInvalid 0x0603 0
    else if e ≠ esIdle && e ≠ esStaged then s.finishR id stEpochBusy 0 0
    else if len = 0 || len % 64 ≠ 0 then s.finishR id stInvalid 0x0605 0
    else
      let s := s.stageStart id e
      if s.loaderHeld then s else s.rulesRun id e len recs

def execEpochStageRules (id : Nat) (recs : ReadResult) (s : State) : Host.Outcome State Fault Refusal :=
  .next (s.onTm (fun s => s.stageRules id recs))

end Sys2Proof.Machine
end

