-- ==== Sys2Proof/Machine/Epoch.lean ====
section
/-! DEFINITION. Commit, flip, drain and retirement of an epoch (R87 to R95, R98), and the depth gap of a flip (R110). -/

namespace Sys2Proof.Machine

/-! ### Rule entries (R87, R95) -/

/-- The rule entries of the group settle: the bit of the bank that is not active follows the active one, and an entry with both
bits 0 is freed. -/
def State.settleRules (s : State) : State :=
  let a := s.activeBank
  let s : State := s.ep.changes.foldl (fun s c =>
    match (s.bank a).tblDir c.1 c.2.1 with
    | none => s
    | some t =>
      let v := s.slotOf t c.2.2
      if bit v (visBit a) then s.writeEntry t t.live c.2.2 (setBit v (visBit (!a)) true)
      else s.writeEntry t t.live c.2.2 t.emptySlot) s
  let s : State := { s with ep := { s.ep with changes := [] } }
  s.wf TM_EPOCH.RULE_CHANGES.COUNT 0

/-! ### Commit (R90) -/

/-- A locked segment of a region of the staged layout. -/
def State.commitLocked (s : State) : Option Nat :=
  let ts := (s.bank s.stagedBank).tbls
  (s.tm.locks.find? (fun k => ts.any (fun t => decide (t.dir = k.dir) && (decide (t.reg0 = k.reg) || decide (t.reg1 = k.reg))))).map
    (fun k => k.seg)

/-- 160 ns of device time. -/
def nearFlip : Nat := 160 * 2 ^ 32

/-- EPOCH_COMMIT in STAGED: the checks of R90 in order, then the state is ARMED. -/
def State.commitStaged (s : State) (c : Cmd) : State :=
  let t := (c.bits 160 48 * 1000000000 + c.bits 128 32) * 2 ^ 32
  match s.commitLocked with
  | some seg => s.finishR c.id stLocked seg 0
  | none =>
    if c.bits 224 32 ≠ 0 && c.bits 224 32 ≠ s.rf TM_EPOCH.EPOCH_SEQ.SEQ then s.finishR c.id stCasFail 0 0
    else if s.time + 10 * secUnits < t then s.finishR c.id stInvalid 0x0604 0
    else
      let s := (s.begin c.id).setEpochState esArmed
      let at_ := if t < s.time + nearFlip then 0 else t
      let s : State := { s with ep := { s.ep with commit := some (c.id, decide (c.bits 208 1 = 1)), flipTime := at_, rolled := false } }
      if at_ = 0 then s.arm .flip 0 256 else s

/-- EPOCH_COMMIT (R88, R90, R98): a command that meets RETIRING or a re-mirror waits. -/
def State.epochCommit (s : State) (id : Nat) : State :=
  match s.startable id (fun op => decide (op = 0x31)) with
  | none => s
  | some c =>
    let e := s.epochState
    if e = esRetiring || s.ep.remirror then s
    else if e = esNoEpoch || e = esIdle then s.finishR id stInvalid 0x0602 0
    else if e ≠ esStaged then s.finishR id stEpochBusy 0 0
    else s.commitStaged c

def execEpochCommit (id : Nat) (s : State) : Host.Outcome State Fault Refusal := .next (s.onTm (fun s => s.epochCommit id))

/-! ### The flip (R89 to R91) -/

/-- The flip cycle F of the armed commit as device time now advances (R90). -/
def State.flipCycle (s : State) : Option Nat :=
  if s.epochState ≠ esArmed then none
  else if s.ep.flipTime ≠ 0 then some (s.cycleOfTime s.ep.flipTime)
  else s.timerAt .flip 0

/-- The calendar geometry of a layout (R325), where its Almanac gives one. -/
def State.flipCalendar (s : State) (b : Bool) : State :=
  let d := (s.bank b).sec 0x0050
  if d.isEmpty then s
  else
    let n := calCounts d
    s.newCalendar n.1 n.2.1 n.2.2

/-- DEPTH_CYCLES and the admission gap of a direction after a flip from bank `old` (R110). -/
def State.flipDepth (s : State) (egr : Bool) (old : Option Bool) : State :=
  let fld := if egr then FE_PIPEE.DEPTH_CYCLES.CYCLES else FE_PIPEI.DEPTH_CYCLES.CYCLES
  let cnt := if egr then FE_PIPEE.GAP_CYCLES.COUNT else FE_PIPEI.GAP_CYCLES.COUNT
  let now := s.depthOf s.activeBank egr
  let s := s.wf fld now
  match old with
  | none => s
  | some b =>
    let was := s.depthOf b egr
    if now < was then
      (List.range 16).foldl (fun s i => s.sat cnt 0 i (was - now)) (s.arm .depthGap (b2n egr) (was - now))
    else s

/-- The entry counts of the tables of the new layout: a table whose live region goes on keeps its count, any other has the entries
its region holds, and a table the layout does not have has none (R176, R177). -/
def State.flipCounts (s : State) (old : Option Bool) : State :=
  let act := s.layout
  let was := match old with
    | some b => (s.bank b).tbls
    | none => []
  let flds : List (Fld × Nat) := [(FE_LPM.FILTER4_CNT.COUNT, 0), (FE_LPM.FILTER6_CNT.COUNT, 0), (FE_EXM.MPLS_CNT.COUNT, 0), (FE_EXM.MAC_CNT.COUNT, 0)] ++
    (List.range 4).flatMap (fun c => [(FE_LPM.CLASS4_CNT.COUNT, c), (FE_LPM.CLASS6_CNT.COUNT, c)])
  flds.foldl (fun s f =>
    match act.tbls.find? (fun t => decide (t.cntFld = some f)) with
    | none => s.setCnt f.1 f.2 0
    | some t =>
      if was.any (fun a => decide (a.dir = t.dir) && decide (a.id = t.id) && decide (a.liveReg = t.liveReg)) then s
      else s.setCnt f.1 f.2 ((List.range t.slots).filter (fun k => t.occupied (s.slotOf t k))).length) s

/-- What follows the new active bank at a flip; `old` is the bank active before it. -/
def State.afterFlip (s : State) (old : Option Bool) : State :=
  let was := s.expOver
  let s := (s.showImages none).flipCounts old
  let s := (s.showLayout.flipDepth false old).flipDepth true old
  let s := (s.flipCalendar s.activeBank).showExpress
  (s.latchBounds).capCheck was

/-- Several sources of TM.EPOCH raise in one core cycle; their details are open. -/
def State.raiseEpoch (s : State) (es : List Evt) : State :=
  let x := es.foldl (fun (a : List Raise × State) e =>
    let (c, s) := a.2.freeVal
    let (d0, s) := s.freeVal
    let (d1, s) := s.freeVal
    (a.1 ++ [(⟨4099, e.src, c, d0, d1⟩ : Raise)], s)) ([], s)
  x.2.raiseDepth 4 4099 false x.1

/-- The armed EPOCH_COMMIT completes (R91, R98). -/
def State.commitDone (s : State) (drop : Bool) : State :=
  match s.ep.commit with
  | none => s
  | some (id, _) =>
    let s : State := { s with ep := { s.ep with commit := none } }
    s.finishR id stOK 0 (s.rf TM_EPOCH.FLIP_CYCLE.CYCLE + (if drop then s.rf TM_EPOCH.DROP_LAST.COUNT * 2 ^ 64 else 0))

/-- EPOCH_FLIP (R90, R91): cycle F. -/
def State.epochFlip (s : State) : State :=
  match s.flipCycle with
  | none => s
  | some f =>
    let s := (s.advanceTo f).disarm .flip 0
    let none_ := s.ep.fromNone
    let new := s.stagedBank
    let old := if none_ then none else some s.activeBank
    let s : State := { s with ep := { s.ep with flipTime := 0 } }
    let s := (s.flipTo new).wf TM_EPOCH.STATE.ROLLBACK 0
    let s := match s.ep.commit with
      | some (id, _) => s.tookEffect id
      | none => s
    let s : State := { s with ep := { s.ep with fromNone := false } }
    let s := if none_ then s.setEpochState esRetiring else s.startDrain
    let s := (s.afterFlip old).raiseEpoch [Ev.TM_EPOCH.FLIPPED]
    match s.ep.commit with
    | some (_, false) => s.commitDone false
    | _ => s

def execEpochFlip (s : State) : Host.Outcome State Fault Refusal := .next (s.onTm (fun s => s.epochFlip))

/-- SELECTOR_LANE (R89): the three lanes of the selector are read; one faulty lane is outvoted. -/
def State.selectorLane (s : State) (lanes : Nat) : State :=
  let l := lanes % 8
  let maj := decide (2 ≤ popCount 3 l)
  let s := s.wf FE_EPOCH.SELECTOR.LANES l
  let s := if maj ≠ s.feBank then (s.wf FE_EPOCH.SELECTOR.BANK (b2n maj)).wf FE_EPOCH.FLIP_CYCLE.CYCLE s.cycle else s
  if l = 0 || l = 7 then s
  else (s.sat1 FE_EPOCH.LANE_ERR.COUNT).raiseO Ev.FE_EPOCH.SELECTOR_LANE 0 none none none

def execSelectorLane (lanes : Nat) (s : State) : Host.Outcome State Fault Refusal := .next (s.onFe (fun s => s.selectorLane lanes))

/-- DEPTH_GAP_END (R110): the pipelines of a direction admit again. -/
def State.depthGapEnd (s : State) (egr : Bool) : State := (s.expire .depthGap (b2n egr)).getD s

def execDepthGapEnd (egress : Bool) (s : State) : Host.Outcome State Fault Refusal := .next (s.onFe (fun s => s.depthGapEnd egress))

/-! ### Drain and retirement (R92, R93, R95) -/

/-- The old bank has drained: the state is RETIRING. -/
def State.retire (s : State) : State := (s.setEpochState esRetiring).disarm .retire 0

/-- DRAIN_SETTLED (R92): the old bank's count has stayed at 0 for 128 core cycles. An armed rollback goes before it.
(DEDUCED, log entry 9.) -/
def State.drainSettled (s : State) : State :=
  if s.epochState ≠ esDraining || s.ep.rollbackArmed then s
  else
    match s.expire .settle 0 with
    | none => s
    | some s => s.retire

def execDrainSettled (s : State) : Host.Outcome State Fault Refusal := .next (s.onTm (fun s => s.drainSettled))

/-- RETIRE_TIMEOUT (R93): the marker, EXPIRED and the purge. (DEDUCED, log entry 9.) -/
def State.retireTimeout (s : State) : State :=
  if s.epochState ≠ esDraining || s.ep.rollbackArmed then s
  else
    match s.expire .retire 0 with
    | none => s
    | some s =>
      let s := (s.raiseEpoch [Ev.TM_EPOCH.RETIRE_TIMEOUT]).setEpochState esExpired
      s.purge

def execRetireTimeout (s : State) : Host.Outcome State Fault Refusal := .next (s.onTm (fun s => s.retireTimeout))

/-- PURGE_DONE (R87, R92, R93): the old bank's count has settled at 0 in EXPIRED. -/
def State.purgeDone (s : State) : State :=
  if s.epochState ≠ esExpired then s
  else
    match s.expire .settle 0 with
    | none => s
    | some s => s.retire

def execPurgeDone (s : State) : Host.Outcome State Fault Refusal := .next (s.onTm (fun s => s.purgeDone))

/-- Locks of regions that no layout holds any more end with it (R187). -/
def State.dropLocks (s : State) : State :=
  let ts := s.layout.tbls
  let keep := fun (k : SegLock) => ts.any (fun t => decide (t.dir = k.dir) && (decide (t.reg0 = k.reg) || decide (t.reg1 = k.reg)))
  ({ s with tm := { s.tm with locks := s.tm.locks.filter keep } } : State).showLocks

/-- RETIRE_MIRROR_DONE (R95): the old bank mirrors the active one, its slot words also in the image store (R117), and the state is
IDLE. DRAIN_US counts from the latest flip, after a rollback from the rollback's (DESIGN CHOICE, log entry 10). -/
def State.mirrorDone (s : State) : State :=
  if s.epochState ≠ esRetiring then s
  else
    let s := ((s.settleRules.mirrorBank.storeRenew (!s.activeBank)).dropLocks).setEpochState esIdle
    let us := (s.cycle - s.ep.flipAt) / cyUs
    let s := (s.wf TM_EPOCH.DRAIN_US.US (min us (2 ^ 32 - 1))).wf TM_EPOCH.STATE.ROLLBACK 0
    let s := (s.latchBounds).raiseEpoch [Ev.TM_EPOCH.RETIRED]
    s.commitDone true

def execRetireMirrorDone (s : State) : Host.Outcome State Fault Refusal := .next (s.onTm (fun s => s.mirrorDone))

/-! ### Abort and rollback (R87, R88, R94) -/

/-- The RESULT of EPOCH_ABORT: the state reached (R98). -/
def State.abortDone (s : State) (id : Nat) : State := s.finishR id stOK 0 s.epochState

/-- The flip is cancelled: STAGED, and the armed commit ends ABORTED, which no reset caused (R88). -/
def State.cancelFlip (s : State) : State :=
  let s := (s.setEpochState esStaged).disarm .flip 0
  let c := s.ep.commit
  let s : State := { s with ep := { s.ep with commit := none, flipTime := 0 } }
  match c with
  | some (k, _) => s.finishR k stAborted 0 0
  | none => s

/-- EPOCH_ABORT with ROLLBACK 0 (R88, R98). -/
def State.epochAbort (s : State) (id : Nat) : State :=
  match s.startable id (fun op => decide (op = 0x32)) with
  | none => s
  | some c =>
    let e := s.epochState
    if c.bits 128 1 = 1 || e = esRetiring || s.ep.remirror then s
    else if e = esNoEpoch || e = esIdle then s.abortDone id
    else if e = esStaging || e = esStaged || e = esFailed then
      let s := match s.ep.stage with
        | some (k, _) => s.finishR k stAborted 0 0
        | none => s
      s.abandonTo.abortDone id
    else if e = esArmed && (s.flipCycle.map (fun f => decide (s.cycle < f))).getD false then s.cancelFlip.abortDone id
    else s.finishR id stEpochBusy 0 0

def execEpochAbort (id : Nat) (s : State) : Host.Outcome State Fault Refusal := .next (s.onTm (fun s => s.epochAbort id))

/-- Cycle F of the armed commit has come: the flip takes place. -/
def State.flipDue (s : State) : State :=
  if (s.flipCycle.map (fun f => decide (f ≤ s.cycle))).getD false then s.epochFlip else s

/-- EPOCH_ABORT with ROLLBACK 1 (R88, R94): the first of a commit in DRAINING arms the rollback flip; its completion follows it. In
ARMED at or after cycle F the flip has taken place first. -/
def State.epochRollback (s : State) (id : Nat) : State :=
  match s.startable id (fun op => decide (op = 0x32)) with
  | none => s
  | some c =>
    if c.bits 128 1 = 0 then s
    else
      let s := s.flipDue
      let e := s.epochState
      if e = esRetiring || s.ep.remirror then s
      else if e ≠ esDraining || s.ep.rolled then s.finishR id stEpochBusy 0 0
      else
        let s := (s.begin id).arm .flip 0 256
        { s with ep := { s.ep with rolled := true, rollbackArmed := true, rollbackCmd := some id } }

def execEpochRollback (id : Nat) (s : State) : Host.Outcome State Fault Refusal := .next (s.onTm (fun s => s.epochRollback id))

/-- ROLLBACK_FLIP (R94): the old bank is active again and the rejected one drains, its timeout measured from here.
(DEDUCED, log entry 9.) -/
def State.rollbackFlip (s : State) : State :=
  if !s.ep.rollbackArmed then s
  else
    match s.expire .flip 0 with
    | none => s
    | some s =>
      let cmd := s.ep.rollbackCmd
      let bad := s.activeBank
      let s : State := { s with ep := { s.ep with rollbackArmed := false, rollbackCmd := none } }
      let s := (s.flipTo (!bad)).wf TM_EPOCH.STATE.ROLLBACK 1
      let s := (s.startDrain.afterFlip (some bad)).raiseEpoch [Ev.TM_EPOCH.FLIPPED, Ev.TM_EPOCH.ROLLBACK]
      match cmd with
      | some id => s.abortDone id
      | none => s

def execRollbackFlip (s : State) : Host.Outcome State Fault Refusal := .next (s.onTm (fun s => s.rollbackFlip))

/-- REMIRROR_DONE (R87): the inactive bank is the active one's mirror again, its slot words also in the image store (R117); from
NO_EPOCH bank A is cleared to reset values. -/
def State.remirrorDone (s : State) : State :=
  if !s.ep.remirror then s
  else
    let s := if s.epochState = esNoEpoch then
        let s : State := { s with bankA := Bank.empty, ep := { s.ep with changes := [] } }
        (rweFields.foldl (fun s f => s.resetRwe f false) (s.wf TM_EPOCH.RULE_CHANGES.COUNT 0)).storeRenew false
      else s.settleRules.mirrorBank.storeRenew (!s.activeBank)
    { s with ep := { s.ep with remirror := false, fromNone := false } }

def execRemirrorDone (s : State) : Host.Outcome State Fault Refusal := .next (s.onTm (fun s => s.remirrorDone))

/-- EPOCH_STATUS (R88, R98). -/
def State.epochStatus (s : State) (id : Nat) : State :=
  match s.startable id (fun op => decide (op = 0x33)) with
  | none => s
  | some _ =>
    s.finishR id stOK 0 (s.epochState + s.rf TM_EPOCH.STATE.ACTIVE_BANK * 2 ^ 4 + s.rf TM_EPOCH.STATE.ROLLBACK * 2 ^ 5 +
      s.bankCount (!s.activeBank) * 2 ^ 32 + s.rf TM_EPOCH.BANK_SEQ_A.SEQ * 2 ^ 64 + s.rf TM_EPOCH.BANK_SEQ_B.SEQ * 2 ^ 96)

def execEpochStatus (id : Nat) (s : State) : Host.Outcome State Fault Refusal := .next (s.onTm (fun s => s.epochStatus id))

end Sys2Proof.Machine
end

