-- ==== Sys2Proof/Machine/Boot.lean ====
section
/-! DEFINITION. OTP as the registers show it, the end of a debug unlock, the boot ROM and the start of Helri (R430 to R435, R444,
R475 to R482). -/

namespace Sys2Proof.Machine

/-! ### OTP (R430 to R438) -/

/-- One bit for each owner slot in a state. -/
def Otp.slotBits (o : Otp) (st : Nat) : Nat :=
  sumN ((List.range 4).map (fun k => match o.slots[k]? with
    | some x => if x.st = st then 2 ^ k else 0
    | none => 0))

/-- The fields of TM.SEC that OTP gives (R446). -/
def State.showOtp (s : State) : State :=
  let o := s.otp
  let s := (s.wf TM_SEC.LIFECYCLE.STATE o.lifecycle).wf TM_SEC.LIFECYCLE.OWNER_ONLY (b2n o.ownerOnly)
  let s := (s.wf TM_SEC.LIFECYCLE.ERASED (b2n o.erased)).wf TM_SEC.LIFECYCLE.OWNER_VALID (o.slotBits 1)
  let s := (s.wf TM_SEC.LIFECYCLE.OWNER_REVOKED (o.slotBits 2)).wf TM_SEC.SVN.HELRI_SVN o.helriSvn
  (s.wf TM_SEC.SVN.ALM_SVN o.almSvn).wf TM_SEC.DEVICE_ID.ID o.deviceId

/-- A random value of the device. (DESIGN CHOICE, log entry 7.) -/
def State.random (s : State) : Nat × State := ((Config.random s.freeCtr).toNat, { s with freeCtr := s.freeCtr + 1 })

/-- PROV_NONCE takes a fresh random value (R440). -/
def State.freshNonce (s : State) : State :=
  let (r, s) := s.random
  (List.range 8).foldl (fun s k => s.wfi TM_SEC.PROV_NONCE.NONCE k (bits r (32 * k) 32)) s

/-- The debug unlock ends (R444): LOCKED, IDCODE in the instruction register. -/
def State.endUnlock (s : State) : State :=
  let s := ((s.wf TM_SEC.DEBUG.LEVEL 0).wf TM_SEC.DEBUG.KEY 0).wf TM_SEC.DEBUG.MIN_LEFT 0
  let s := s.disarm .unlock 0
  { s with jt := { s.jt with ir := 1, extest := false } }

/-! ### Helri images (R433, R434) -/

/-- The image a flash slot holds: 0 A, 1 B. (DEDUCED, log entry 21.) -/
def State.slotImage (s : State) (i : Nat) : Bytes :=
  let b := SMap.get [] s.flash.slots i
  if b.isEmpty then Config.flashImage i else b

/-- The body of an image. -/
def imageBody (b : Bytes) : Bytes := (b.drop 192).take (le32 b 12)

/-- The first check of R434 step 2 that an image fails; `readErr` that the flash cannot be read. -/
def imageCheck (b : Bytes) (readErr : Bool) (svn : Nat) : Option Nat :=
  let len := le32 b 12
  let body := imageBody b
  if le32 b 0 ≠ 0x524C4548 || leAt b 4 2 ≠ 1 then some 1
  else if len = 0 || 3145728 < len then some 2
  else if readErr then some 3
  else if toBe 48 (Config.sha384 body).toNat ≠ (b.drop 16).take 48 then some 4
  else if !Config.verifies Config.vendorKey (Config.sha384 (b.take 64 ++ body)) ((b.drop 64).take 96) then some 5
  else if byteAt b 6 < svn then some 6
  else none

/-- The check of a flash slot at boot. -/
def State.slotCheck (s : State) (i : Nat) : Option Nat × State :=
  (imageCheck (s.slotImage i) (Config.flashError s.freeCtr) s.otp.helriSvn, { s with freeCtr := s.freeCtr + 1 })

/-- Slot `i` has passed (R434 step 3): its measurement, BOOTED_SLOT and IMAGE_SVN. -/
def State.booted (s : State) (i : Nat) (fallback : Bool) : State :=
  let b := s.slotImage i
  let m := toBe 48 (Config.sha384 (b.take 192 ++ imageBody b)).toNat
  let s := (s.wf TM_SEC.BOOT.BOOTED_SLOT i).wf TM_SEC.BOOT.FALLBACK (b2n fallback)
  let s := (s.wf TM_SEC.BOOT.IMAGE_SVN (byteAt b 6)).wf TM_SEC.BOOT.STATE 1
  (List.range 12).foldl (fun s k => s.wfi TM_SEC.HELRI_MEAS.MEAS k (le32 m (4 * k))) s

/-- Helri reads the board area (R39, R477, R509): the subsystem IDs, 0 where bytes 0 to 3 are all ones. -/
def State.readBoard (s : State) : State :=
  let v := le32 Config.boardArea 0
  { s with hc := { s.hc with pci := { s.hc.pci with subsys := if v = 0xFFFFFFFF then 0 else v, boardRead := true } } }

/-- Helri of the booted slot runs (R380, R431, R435, R479, R482): MIN_BUILD and its floor, the locks, the outcome of a firmware
update, and what waited for it. (DEDUCED, log entry 15.) -/
def State.helriStart (s : State) : State :=
  let s := (s.wf TM_MC.STATUS.INIT_STAGE 1).readBoard
  let s := s.wf TM_ALM.MIN_BUILD.SEQ (s.otp.almSvn * 2 ^ 24)
  let s := (s.updHdr 4100 (fun h => { h with lock := true })).updHdr 4101 (fun h => { h with lock := true })
  let s := s.wf TM_SEC.LIFECYCLE.CHAIN_BAD (b2n (decide (toBe 48 (Config.sha384 Config.deviceCert).toNat ≠ s.otp.certHash)))
  let slot := s.rf TM_SEC.BOOT.BOOTED_SLOT
  let trying := s.mc.update || s.rfb TM_MC.STATUS.TRIAL
  let bad := s.mc.update && decide (slot ≠ s.rf TM_SEC.BOOT.NEXT_SLOT)
  let s := if bad then s.wf TM_SEC.BOOT.NEXT_SLOT slot else s
  let s := s.wf TM_MC.STATUS.TRIAL (b2n (trying && decide (slot ≠ s.flash.record)))
  let s : State := if s.mc.update then { s with mc := { s.mc with trialAt := (s.cycle : Int) } } else s
  let fails := s.mc.fails ++ (if bad then [2] else [])
  let nmis := s.mc.nmis
  let s : State := { s with mc := { s.mc with update := false, fails := [], nmis := [], halted := false } }
  let s : State := nmis.foldl (fun s n => s.emit (.nmi n.1 n.2)) s
  fails.foldl (fun s c => s.raise Ev.TM_MC.FW_UPDATE_FAIL 0 c (1 - s.flash.record) 0) s

/-- The boot ROM (R434): the named slot first, the other one on failure. (DEDUCED, log entry 15.) -/
def State.bootRom (s : State) (first : Nat) : State :=
  let s := (s.showOtp.wf TM_SEC.BOOT.STATE 0).wf TM_MC.STATUS.INIT_STAGE 0
  let other := 1 - first
  match s.slotCheck first with
  | (none, s) => (s.booted first false).helriStart
  | (some c0, s) =>
    match s.slotCheck other with
    | (none, s) =>
      let s := s.booted other true
      (s.raise Ev.TM_SEC.BOOT_FALLBACK 0 c0 other (s.rf TM_SEC.BOOT.IMAGE_SVN)).helriStart
    | (some c1, s) =>
      let s := s.wf TM_SEC.BOOT.STATE 2
      let (ca, cb) := if first = 0 then (c0, c1) else (c1, c0)
      s.raiseO Ev.TM_SEC.BOOT_FAIL 0 none (some ca) (some cb)

/-! ### MC reset (R475, R479) -/

/-- A staging of a firmware image is abandoned (R479): the slot it was written into fails its checks until staged again. -/
def State.fwAbandon (s : State) : State :=
  if s.rfb TM_MC.FW_CTRL.BUSY then
    { s with flash := { s.flash with slots := SMap.put [] s.flash.slots (1 - s.rf TM_SEC.BOOT.BOOTED_SLOT) [0] },
             mc := { s.mc with fails := s.mc.fails ++ [4] } }
  else s

/-- The fields of TM.MC that an MC reset keeps (R410, R479). -/
def mcKeep : List Nat := [TM_MC.RESTARTS.COUNT.key 0 0, TM_MC.STATUS.TRIAL.key 0 0]

/-- An MC reset starts (R59, R440, R474, R475): only the management controller is reset, and it boots from `slot`.
(DEDUCED, log entry 15.) -/
def State.mcReset (s : State) (slot : Nat) : State :=
  if s.inReset 4102 then s
  else
    let s := (if s.mc.update then s else s.fwAbandon).abortBlock 4102
    let s := s.updHdr 4102 (fun h => { h with inReset := true, fenced := false })
    let s := s.resetBlockRegs 4102 mcKeep.contains
    let s := (s.sat1 TM_MC.RESTARTS.COUNT).wf TM_MC.STATUS.RESET_CAUSE 2
    let s : State := { s with mc := { s.mc with resetAt := s.cycle, sram := [], trialAt := if s.rfb TM_MC.STATUS.TRIAL then (s.cycle : Int) else s.mc.trialAt } }
    s.freshNonce.bootRom slot

/-- The MC reset of the watchdog (R478): during a trial the slot not booted, else NEXT_SLOT. -/
def State.watchdogReset (s : State) : State :=
  s.mcReset (if s.rfb TM_MC.STATUS.TRIAL then 1 - s.rf TM_SEC.BOOT.BOOTED_SLOT else s.rf TM_SEC.BOOT.NEXT_SLOT)

/-- MC_RESET (R473, R475). -/
def execMcReset (s : State) : Host.Outcome State Fault Refusal :=
  .next (s.onTm (fun s => s.mcReset (s.rf TM_SEC.BOOT.NEXT_SLOT)))

/-- HEARTBEAT_GAP (R392, R393, R478): more than 100 ms have passed without a heartbeat in ACTIVE, outside a hold. -/
def State.heartbeatGap (s : State) : State :=
  match s.timerAt .heartbeat 0 with
  | none => s
  | some d =>
    if s.rf TM_PWR.STATE.STATE ≠ 0 then s
    else
      let s := (s.advanceTo (max d ((s.timerAt .hbHold 0).getD 0) + 1)).disarm .hbHold 0
      let ms := (s.cycle - (d - 100 * cyMs)) / cyMs
      let (c, s) := (s.disarm .heartbeat 0).freeVal
      let (s, rs) := s.aliveStop 2
      let s := s.raiseDepth 4 4176 false (⟨4176, 0, c, ms, 0⟩ :: rs)
      if s.rfb TM_MC.WATCHDOG.EN then s.watchdogReset else s

def execHeartbeatGap (s : State) : Host.Outcome State Fault Refusal := .next (s.onTm (fun s => s.heartbeatGap))

end Sys2Proof.Machine
end

