-- ==== Sys2Proof/Machine/Host.lean ====
section
/-! DEFINITION. The host interface: PCI Express, BAR4 doorbells, command rings, the direct slot, completions, MSI-X and
the punt rings (R39 to R70, R514). -/

namespace Sys2Proof.Machine

/-! ### PCI Express and MSI-X -/

/-- The messages of the causes in `ns` that are pending and no longer held back are sent; a cause disabled meanwhile sends none and is
pending no more (R70). -/
def State.sendHeld (s : State) (ns : List Nat) : State :=
  ns.foldl (fun s n =>
    let v := s.rfi TM_MSIX.CAUSE_MAP.VECTOR n
    if s.rfi TM_MSIX.CAUSE_MAP.PEND n = 1 && !s.irqBlocked v then
      (if s.rfi TM_MSIX.CAUSE_MAP.ENABLE n = 1 then (s.wfi TM_MSIX.CAUSE_MAP.PEND n 0).emit (.msix v)
       else s.wfi TM_MSIX.CAUSE_MAP.PEND n 0)
    else s) s

/-- The vectors' pending bits after some of the held messages have gone: those of vectors no cause still waits for drop. -/
def State.settlePba (s : State) : State :=
  let held := fun v => (List.range 768).any (fun n =>
    decide (s.rfi TM_MSIX.CAUSE_MAP.PEND n = 1) && decide (s.rfi TM_MSIX.CAUSE_MAP.VECTOR n = v))
  let vs := s.irq.vecs.map (fun e => (e.1, { e.2 with pba := e.2.pba && held e.1 }))
  { s with irq := { s.irq with vecs := vs.filter (fun e => !decide (e.2 = MsixVec.reset)) } }

/-- The messages that became free to go: every pending cause whose block has ended sends its message, and the PBA bit of
a vector without a pending cause clears (R70). -/
def State.sendPending (s : State) : State := (s.sendHeld (List.range 768)).settlePba

/-- CAUSE_MAP of cause `n` has been written (R70): a message that waits is sent once its vector is not blocked; else the vector's PBA bit
stands for it. -/
def State.causeMoved (s : State) (n : Nat) : State :=
  let v := s.rfi TM_MSIX.CAUSE_MAP.VECTOR n
  let s : State := if s.rfi TM_MSIX.CAUSE_MAP.PEND n = 1 && s.irqBlocked v then
      { s with irq := { s.irq with vecs := SMap.upd MsixVec.reset s.irq.vecs v (fun x => { x with pba := true }) } }
    else s
  (s.sendHeld [n]).settlePba

/-- The link trained below what LINK_EXPECT asks for (R41). -/
def State.linkBelow (s : State) : Bool :=
  decide (s.rf TM_PCIE.LINK_STATUS.SPEED < s.rf TM_PCIE.LINK_EXPECT.MIN_SPEED) ||
    decide (s.rf TM_PCIE.LINK_STATUS.WIDTH < s.rf TM_PCIE.LINK_EXPECT.MIN_WIDTH)

/-- PCIE_LINK_TRAINED (R41): LINK_STATUS takes speed and width; below LINK_EXPECT, LINK_DEGRADED is raised once. -/
def State.pcieLinkTrained (s : State) (speed width : Nat) (flit : Bool) : State :=
  if 1 ≤ speed && speed ≤ 6 && [1, 2, 4, 8, 16].contains width then
    let s := (s.wf TM_PCIE.LINK_STATUS.SPEED speed).wf TM_PCIE.LINK_STATUS.WIDTH width
    let s := (s.wf TM_PCIE.LINK_STATUS.FLIT (b2n flit)).wf TM_PCIE.LINK_STATUS.LINK_UP 1
    if s.linkBelow then s.raiseO Ev.TM_PCIE.LINK_DEGRADED 0 none none none else s
  else s

def execPcieLinkTrained (speed width : Nat) (flit : Bool) (s : State) : Host.Outcome State Fault Refusal :=
  .next (s.onPhy (fun s => s.pcieLinkTrained speed width flit))

/-- The data link layer goes down: LINK_STATUS reads link down (R41); writes in flight to the host fail from then on
(R514). -/
def State.pcieLinkDown (s : State) : State :=
  let s := (s.wf TM_PCIE.LINK_STATUS.SPEED 0).wf TM_PCIE.LINK_STATUS.WIDTH 0
  (s.wf TM_PCIE.LINK_STATUS.FLIT 0).wf TM_PCIE.LINK_STATUS.LINK_UP 0

def execPcieLinkDown (s : State) : Host.Outcome State Fault Refusal := .next (s.onPhy (fun s => s.pcieLinkDown))

/-- PCIE_POWER_STATE (R40): D0 or D3hot, with Bus Master Enable of the Command register (R514); on leaving D3hot the
messages it held back are sent (R70). -/
def execPciePowerState (d3hot bme : Bool) (s : State) : Host.Outcome State Fault Refusal :=
  .next (s.onPhy (fun s => ({ s with hc := { s.hc with d3hot := d3hot, bme := bme } }).sendPending))

/-- MSIX_UNBLOCK (R70): a write of the MSI-X controls, after which pending messages that nothing blocks are sent. -/
def execMsixUnblock (ctl : MsixCtl) (s : State) : Host.Outcome State Fault Refusal :=
  if !s.tmOn then .next s else
  match ctl with
  | .control en fm => .next ({ s with irq := { s.irq with enable := en, fnMask := fm } }).sendPending
  | .vector v a d m =>
    if v < 2048 then
      .next ({ s with irq := { s.irq with vecs := SMap.upd MsixVec.reset s.irq.vecs v (fun x =>
        { x with addr := a % 2 ^ 64, data := d % 2 ^ 32, masked := m }) } }).sendPending
    else .next s

/-- COAL_TIMER_EXPIRE (R45, R70): the coalescing timer of a ring cause ends and the cause fires. -/
def execCoalTimerExpire (cause : Nat) (s : State) : Host.Outcome State Fault Refusal :=
  if !s.tmOn then .next s else
  match s.expire .coal cause with
  | none => .next s
  | some s => .next (({ s with irq := { s.irq with coal := SMap.put 0 s.irq.coal cause 0 } } : State).causeFire cause)

/-! ### Command rings -/

/-- SQ_TAIL of ring `n` is written (R44, R47). -/
def State.sqTailWrite (s : State) (n width v : Nat) : State :=
  if 64 ≤ n || s.inReset 4105 then s
  else if width < 4 then s.accessErr 4105 1 (n * 0x1000) v
  else
    let t := v % 2 ^ 16
    if tailInRange (s.rfi TM_HCMD.RING_CTRL.LOG2_SIZE n) t then
      { s with hc := { s.hc with sqTail := SMap.put 0 s.hc.sqTail n t } }
    else s.raiseO Ev.TM_HCMD.DOORBELL_ERR 0 (some 1) none none

def execSqTailDoorbell (ring width v : Nat) (s : State) : Host.Outcome State Fault Refusal :=
  .next (s.onTm (fun s => s.sqTailWrite ring width v))

/-- CQ_HEAD of ring `n` is written (R44, R51). -/
def State.cqHeadWrite (s : State) (n width v : Nat) : State :=
  if 64 ≤ n || s.inReset 4105 then s
  else if width < 4 then s.accessErr 4105 1 (n * 0x1000 + 4) v
  else
    let h := v % 2 ^ 16
    if headOk (s.ringSize n) (s.cqHead n) (s.rfi TM_HCMD.CQ_STATUS.CQ_TAIL n) h then
      { s with hc := { s.hc with cqHead := SMap.put 0 s.hc.cqHead n h } }
    else s.raiseO Ev.TM_HCMD.DOORBELL_ERR 0 (some 2) none none

def execCqHeadDoorbell (ring width v : Nat) (s : State) : Host.Outcome State Fault Refusal :=
  .next (s.onTm (fun s => s.cqHeadWrite ring width v))

/-- PUNT_TAIL of channel `c` is written (R44, R61). -/
def State.puntTailWrite (s : State) (c width v : Nat) : State :=
  if 64 ≤ c || s.inReset 4106 then s
  else if width < 4 then s.accessErr 4106 1 (0x40000 + c * 0x1000) v
  else
    let t := v % 2 ^ 16
    if tailInRange (s.rfi TM_HPKT.PUNT_CTRL.LOG2_SIZE c) t then
      { s with hp := { s.hp with puntTail := SMap.put 0 s.hp.puntTail c t } }
    else s.raiseO Ev.TM_HPKT.DOORBELL_ERR 0 (some 1) none none

def execPuntTailDoorbell (chan width v : Nat) (s : State) : Host.Outcome State Fault Refusal :=
  .next (s.onTm (fun s => s.puntTailWrite chan width v))

/-- INJECT_TAIL of channel `c` is written (R44, R61). -/
def State.injTailWrite (s : State) (c width v : Nat) : State :=
  if 64 ≤ c || s.inReset 4106 then s
  else if width < 4 then s.accessErr 4106 1 (0x40000 + c * 0x1000 + 4) v
  else
    let t := v % 2 ^ 16
    if tailInRange (s.rfi TM_HPKT.INJ_CTRL.LOG2_SIZE c) t then
      { s with hp := { s.hp with injTail := SMap.put 0 s.hp.injTail c t } }
    else s.raiseO Ev.TM_HPKT.DOORBELL_ERR 0 (some 1) none none

def execInjectTailDoorbell (chan width v : Nat) (s : State) : Host.Outcome State Fault Refusal :=
  .next (s.onTm (fun s => s.injTailWrite chan width v))

/-- A write of RING_CTRL of ring `n` (R46). A write of ENABLE = 1 to an active ring is refused with BAD_CONFIG; one already enabled
keeps running (DEDUCED: "ENABLE stays 0" speaks of a ring that is not enabled). LOG2_SIZE of an active ring is kept, and a changed one
raises BAD_CONFIG. (DEDUCED, log entry 8.) -/
def State.ringCtrlWrite (s : State) (n v : Nat) : State :=
  if !s.blockOpen 4105 || 64 ≤ n then s
  else
    let log2 := bits v 0 4
    let en := bit v 4
    let mx := bits v 8 12
    let active := s.ringActive n
    let badLog := active && decide (log2 ≠ s.rfi TM_HCMD.RING_CTRL.LOG2_SIZE n)
    let s := if active then s else s.wfi TM_HCMD.RING_CTRL.LOG2_SIZE n log2
    let s := s.wfi TM_HCMD.RING_CTRL.MAX_INFLIGHT n mx
    let s := if badLog then s.raiseO Ev.TM_HCMD.BAD_CONFIG 0 none none none else s
    if !en then s.wfi TM_HCMD.RING_CTRL.ENABLE n 0
    else if active || log2 < 6 || 12 < log2 || mx = 0 || 2048 < mx then
      if badLog then s else s.raiseO Ev.TM_HCMD.BAD_CONFIG 0 none none none
    else
      let s := (s.wfi TM_HCMD.RING_STATUS.SQ_HEAD n 0).wfi TM_HCMD.CQ_STATUS.CQ_TAIL n 0
      let s := (s.wfi TM_HCMD.CQ_STATUS.CQ_PHASE n 1).wfi TM_HCMD.RING_STATUS.ERROR n 0
      let s := { s with hc := { s.hc with sqTail := SMap.put 0 s.hc.sqTail n 0, cqHead := SMap.put 0 s.hc.cqHead n 0 } }
      s.wfi TM_HCMD.RING_CTRL.ENABLE n 1

/-- Inject packets of channel `c` whose descriptor is not yet written back. -/
def State.injInflight (s : State) (c : Nat) : Bool :=
  s.pkts.any (fun p => match p.inj with | some (d, _, _) => decide (d = c) | none => false)

/-- A write of PUNT_CTRL (`inj` false) or INJ_CTRL (true) of channel `c` (R46, R61); ENABLE = 1 is refused on an active ring. -/
def State.chanCtrlWrite (s : State) (inj : Bool) (c v : Nat) : State :=
  if !s.blockOpen 4106 || 64 ≤ c then s
  else
    let fLog := if inj then TM_HPKT.INJ_CTRL.LOG2_SIZE else TM_HPKT.PUNT_CTRL.LOG2_SIZE
    let fEn := if inj then TM_HPKT.INJ_CTRL.ENABLE else TM_HPKT.PUNT_CTRL.ENABLE
    let log2 := bits v 0 4
    let en := bit v 4
    let was := decide (s.rfi fEn c = 1)
    let active := was || (inj && s.injInflight c)
    let badLog := active && decide (log2 ≠ s.rfi fLog c)
    let s := if active then s else s.wfi fLog c log2
    let s := s.wfi (if inj then TM_HPKT.INJ_CTRL.COAL_COUNT else TM_HPKT.PUNT_CTRL.COAL_COUNT) c (bits v 8 8)
    let s := s.wfi (if inj then TM_HPKT.INJ_CTRL.COAL_TIME_US else TM_HPKT.PUNT_CTRL.COAL_TIME_US) c (bits v 16 16)
    let s := if badLog then s.raiseO Ev.TM_HPKT.BAD_CONFIG 0 none none none else s
    if !en then s.wfi fEn c 0
    else if active || log2 < 6 || 12 < log2 then
      if badLog then s else s.raiseO Ev.TM_HPKT.BAD_CONFIG 0 none none none
    else
      let s := s.wfi (if inj then TM_HPKT.INJ_STATUS.HEAD else TM_HPKT.PUNT_STATUS.HEAD) c 0
      let s := s.wfi (if inj then TM_HPKT.INJ_STATUS.PHASE else TM_HPKT.PUNT_STATUS.PHASE) c 1
      let hp := s.hp
      let hp := if inj then { hp with injTail := SMap.put 0 hp.injTail c 0 } else { hp with puntTail := SMap.put 0 hp.puntTail c 0 }
      let hp := { hp with stopped := SMap.put false hp.stopped (if inj then 64 + c else c) false }
      ({ s with hp := hp }).wfi fEn c 1

/-- A write of a ring's control register. -/
def State.anyRingCtrl (s : State) (r : RingId) (v : Nat) : State :=
  match r with
  | .cmd n => s.ringCtrlWrite n v
  | .punt c => s.chanCtrlWrite false c v
  | .inject c => s.chanCtrlWrite true c v

/-- RING_ENABLE (R46, R61): a write of the control register with ENABLE = 1. -/
def execRingEnable (ring : RingId) (ctrl : Nat) (s : State) : Host.Outcome State Fault Refusal :=
  .next (s.onTm (fun s => s.anyRingCtrl ring (setBit ctrl 4 true)))

/-- RING_DISABLE (R46, R61): a write of the control register with ENABLE = 0. -/
def execRingDisable (ring : RingId) (ctrl : Nat) (s : State) : Host.Outcome State Fault Refusal :=
  .next (s.onTm (fun s => s.anyRingCtrl ring (setBit ctrl 4 false)))

/-- Ring `n` may fetch now (R46 to R48, R39, R40): enabled, not stopped, commands pending, below both limits, and below 768 reads
outstanding. -/
def State.canFetch (s : State) (n : Nat) : Bool :=
  decide (s.rfi TM_HCMD.RING_CTRL.ENABLE n = 1) && decide (s.rfi TM_HCMD.RING_STATUS.ERROR n = 0) &&
    decide (s.rfi TM_HCMD.RING_STATUS.SQ_HEAD n ≠ s.sqTail n) &&
    decide (s.inflight n < s.rfi TM_HCMD.RING_CTRL.MAX_INFLIGHT n) && decide (s.inflightAll < 2048) &&
    decide ((s.hc.cmds.filter (fun c => decide (c.phase = .fetching))).length < 768) &&
    !s.hc.d3hot && s.canPost && s.operating 4105

/-- The ring whose turn it is (R48): the next ring with commands to fetch from the turn pointer on. -/
def State.fetchTurn (s : State) : Option Nat :=
  ((List.range 64).map (fun k => (s.hc.turn + k) % 64)).find? s.canFetch

/-- COMMAND_FETCH (R47, R48): one command of the ring in turn is read from its slot. (DEDUCED, log entry 8.) -/
def State.commandFetch (s : State) : State :=
  if s.fetchStopped then s else
  match s.fetchTurn with
  | none => s
  | some n =>
    let h := s.rfi TM_HCMD.RING_STATUS.SQ_HEAD n
    let addr := s.rfi TM_HCMD.SQ_BASE_HI.ADDR n * 2 ^ 32 + s.rfi TM_HCMD.SQ_BASE_LO.ADDR n * 2 ^ 12 + h * 64
    let c : Cmd := ⟨s.hc.nextId, some n, addr, 0, .fetching, 0, 0, 0, 0, [], 0, false, false, none⟩
    let s := s.wfi TM_HCMD.RING_STATUS.SQ_HEAD n ((h + 1) % s.ringSize n)
    let s := { s with hc := { s.hc with cmds := s.hc.cmds ++ [c], nextId := s.hc.nextId + 1, turn := (n + 1) % 64 } }
    s.emit (.hostRead addr 64)

def execCommandFetch (s : State) : Host.Outcome State Fault Refusal := .next (s.onTm (fun s => s.commandFetch))

/-- FETCH_READ_DONE (R46): the fetch read of a command returns its 64 bytes, or fails: the ring stops with FETCH_ERR.
(DESIGN CHOICE, log entry 27.) -/
def State.fetchReadDone (s : State) (id : Nat) (r : ReadResult) : State :=
  match s.cmd id with
  | none => s
  | some c =>
    if c.phase ≠ .fetching then s
    else
      match r with
      | .data bs => s.updCmd id (fun c => { c with phase := .fetched, record := BitVec.ofNat 512 (leNat (bs.take 64)) })
      | .fail =>
        let s := s.dropCmd id
        match c.ring with
        | none => s
        | some n => (s.wfi TM_HCMD.RING_STATUS.ERROR n 1).raiseO Ev.TM_HCMD.FETCH_ERR 0 (some 1) none none

def execFetchReadDone (id : Nat) (r : ReadResult) (s : State) : Host.Outcome State Fault Refusal :=
  .next (s.onTm (fun s => s.fetchReadDone id r))

/-- The finished command of ring `n` that finished first (R51, R52). -/
def State.oldestFinished (s : State) (n : Nat) : Option Cmd :=
  (s.hc.cmds.filter (fun c => decide (c.ring = some n) && decide (c.phase = .finished))).foldl
    (fun b c => match b with
      | none => some c
      | some d => if c.finSeq < d.finSeq then some c else some d) none

/-- COMPLETION_WRITE (R50 to R52, R514): the oldest held completion of ring `n` is written once an entry is free: result
buffers, bytes 4 to 31, bytes 0 to 3. One ABORTED by a reset aborts what R411 puts behind it. -/
def State.completionWrite (s : State) (n : Nat) (bad : Bool) : State :=
  if !s.operating 4105 then s
  else
  match s.oldestFinished n with
  | none => s
  | some c =>
    if s.cqFull n then s
    else
      let t := s.rfi TM_HCMD.CQ_STATUS.CQ_TAIL n
      let ph := s.rfi TM_HCMD.CQ_STATUS.CQ_PHASE n
      let addr := s.rfi TM_HCMD.CQ_BASE_HI.ADDR n * 2 ^ 32 + s.rfi TM_HCMD.CQ_BASE_LO.ADDR n * 2 ^ 12 + t * 32
      let w := toLe 32 (completionWord (c.bits 16 16) c.status ph (s.rfi TM_HCMD.RING_STATUS.SQ_HEAD n) c.detail c.epochSeq c.result)
      let s := if c.byReset then (s.abortFollowers c).foldl (fun s k => s.finishR k stAborted 0 0) s else s
      let (ok, s) := s.postAll bad (c.bufs ++ [(addr + 4, w.drop 4), (addr, w.take 4)])
      let s := s.dropCmd c.id
      if ok then
        let t' := (t + 1) % s.ringSize n
        let s := s.wfi TM_HCMD.CQ_STATUS.CQ_TAIL n t'
        let s := if t' = 0 then s.wfi TM_HCMD.CQ_STATUS.CQ_PHASE n (1 - ph) else s
        s.coalesce n (s.rfi TM_HCMD.IRQ_COAL.COUNT n) (s.rfi TM_HCMD.IRQ_COAL.TIME_US n)
      else
        (s.loseCpl.wfi TM_HCMD.RING_STATUS.ERROR n 1).raiseO Ev.TM_HCMD.FETCH_ERR 0 (some 2) none none

def execCompletionWrite (ring : Nat) (bad : Bool) (s : State) : Host.Outcome State Fault Refusal :=
  .next (s.onTm (fun s => s.completionWrite ring bad))

/-- FENCE (R54): opcode 0x01 starts after every earlier command of its ring and does nothing else. -/
def execFence (id : Nat) (s : State) : Host.Outcome State Fault Refusal :=
  if !s.tmOn then .next s else
  match s.startable id (fun op => decide (op = 0x01)) with
  | none => .next s
  | some c => .next (s.finishR c.id stOK 0 0)

/-- UNKNOWN_OPCODE (R58): an opcode not in the table completes INVALID, DETAIL 1, without effect. -/
def execUnknownOpcode (id : Nat) (s : State) : Host.Outcome State Fault Refusal :=
  if !s.tmOn then .next s else
  match s.startable id (fun op => !opcodeKnown op) with
  | none => .next s
  | some c => .next (s.finishR c.id stInvalid 1 0)

/-! ### The direct slot -/

/-- DCMD_GO (R60): the 64 bytes of DCMD become the direct command, or DCMD_BUSY is raised while BUSY or VALID is 1. With 2,048
commands in flight (R2, R48) the GO is taken as one that finds the slot busy. (DEDUCED, log entry 8.) -/
def State.dcmdGo (s : State) : State :=
  if !s.blockOpen 4105 then s
  else if s.rfb TM_HCMD.DRES_CTRL.BUSY || s.rfb TM_HCMD.DRES_CTRL.VALID || decide (2048 ≤ s.inflightAll) then s.raiseO Ev.TM_HCMD.DCMD_BUSY 0 none none none
  else
    let rec_ := (List.range 16).foldl (fun a k => a + s.rfi TM_HCMD.DCMD.WORD k * 2 ^ (32 * k)) 0
    let c : Cmd := ⟨s.hc.nextId, none, 0, BitVec.ofNat 512 rec_, .fetched, 0, 0, 0, 0, [], 0, false, false, none⟩
    ({ s with hc := { s.hc with cmds := s.hc.cmds ++ [c], nextId := s.hc.nextId + 1 } }).wf TM_HCMD.DRES_CTRL.BUSY 1

def execDcmdGo (s : State) : Host.Outcome State Fault Refusal := .next (s.onTm (fun s => s.dcmdGo))

/-- DRES_RESULT_ACK (R60): VALID clears. -/
def State.dresAck (s : State) : State := if s.blockOpen 4105 then s.wf TM_HCMD.DRES_CTRL.VALID 0 else s

def execDresResultAck (s : State) : Host.Outcome State Fault Refusal := .next (s.onTm (fun s => s.dresAck))

/-! ### Effects of R42 -/

/-- The commands of a reset host interface (R42): begun ones go on as orphans whose completion is lost, fetched ones are
discarded; each counts in LOST_CPL. -/
def State.loseCommands (s : State) : State :=
  let lost := (s.hc.cmds.filter (fun c => !c.orphan)).length
  let cs := (s.hc.cmds.filter (fun c => decide (c.phase = .begun))).map (fun c => { c with orphan := true })
  let s := { s with hc := { s.hc with cmds := cs, turn := 0, sqTail := [], cqHead := [] } }
  s.sat TM_HCMD.HCMD_STATUS.LOST_CPL 0 0 lost

/-- The packets toward host channels of a reset host interface are dropped and counted per channel, in SEQ too (R63); descriptors not
yet fetched are ignored (R42). That SEQ itself goes on over the reset is a DESIGN CHOICE (log entry 31). -/
def State.dropHostQueues (s : State) : State :=
  let s : State := (List.range 64).foldl (fun (s : State) c =>
    let ps := s.at_ (.hostq c)
    (s.sat TM_HPKT.PUNT_DROP.COUNT 0 c ps.length).dropAll ps) s
  let s := { s with pkts := s.pkts.map (fun (p : Pkt) => { p with inj := none }) }
  { s with hp := ⟨[], [], s.hp.puntSeq, []⟩ }

/-- The interrupt state after a reset of the MSI-X routing: nothing pending, no coalescing under way (R42). -/
def State.clearIrq (s : State) : State :=
  let s := s.disarmAll .coal
  let vs := s.irq.vecs.map (fun e => (e.1, { e.2 with pba := false }))
  { s with irq := { s.irq with coal := [], vecs := vs.filter (fun e => !decide (e.2 = MsixVec.reset)) } }

/-- HOST_INTERFACE_RESET (R42): PERST_N, a hot reset or a function-level reset resets the PCI Express controller, HCMD,
HPKT and MSIX, and nothing else; only the function-level reset leaves the link up. (DEDUCED, log entry 8.) -/
def State.hostInterfaceReset (s : State) (k : HostResetKind) : State :=
  let keep := fun key => decide (key = TM_HCMD.HCMD_STATUS.LOST_CPL.key 0 0)
  let link := (s.rf TM_PCIE.LINK_STATUS.SPEED, s.rf TM_PCIE.LINK_STATUS.WIDTH, s.rf TM_PCIE.LINK_STATUS.FLIT,
    s.rf TM_PCIE.LINK_STATUS.LINK_UP)
  let s : State := [4104, 4105, 4106, 4107].foldl (fun s P => s.resetBlockRegs P keep) s
  let s := ((s.loseCommands).dropHostQueues).clearIrq
  let pci := { PciFn.reset with subsys := s.hc.pci.subsys, boardRead := s.hc.pci.boardRead }
  let s := { s with irq := Irq.mk false false [] [], tm := { s.tm with dmaHeld := [] }, hc := { s.hc with bme := false, d3hot := false, pci := pci } }
  if k = .flr then
    (((s.wf TM_PCIE.LINK_STATUS.SPEED link.1).wf TM_PCIE.LINK_STATUS.WIDTH link.2.1).wf
      TM_PCIE.LINK_STATUS.FLIT link.2.2.1).wf TM_PCIE.LINK_STATUS.LINK_UP link.2.2.2
  else s

def execHostInterfaceReset (kind : HostResetKind) (s : State) : Host.Outcome State Fault Refusal :=
  .next (s.onPhy (fun s => s.hostInterfaceReset kind))

/-! ### Punt rings -/

/-- The punt metadata of a packet (R63) with its channel's count and the truncation flag. -/
def puntMeta (p : Pkt) (seq epochSeq : Nat) (trunc : Bool) : Nat :=
  p.inPort + p.puntReason * 2 ^ 9 + b2n p.egr * 2 ^ 15 + p.cls * 2 ^ 16 + p.mdGet 13 2 * 2 ^ 19 + b2n trunc * 2 ^ 21 +
    b2n p.trace * 2 ^ 22 + (if p.egr then p.outPort else 0) * 2 ^ 23 + p.data.length % 2 ^ 14 * 2 ^ 32 +
    p.vrf % 2 ^ 12 * 2 ^ 48 + p.timestamp * 2 ^ 64 + p.flowHash * 2 ^ 144 + p.nextHop * 2 ^ 176 + seq * 2 ^ 208 +
    epochSeq * 2 ^ 224

/-- BANK_SEQ of a bank: the EPOCH_SEQ under which it became active (R74). -/
def State.bankSeq (s : State) (b : Bool) : Nat :=
  if b then s.rf TM_EPOCH.BANK_SEQ_B.SEQ else s.rf TM_EPOCH.BANK_SEQ_A.SEQ

/-- The packet that heads the host queue of channel `c` is dropped and counted (R64). -/
def State.puntDrop (s : State) (c : Nat) (p : Pkt) : State := (s.sat TM_HPKT.PUNT_DROP.COUNT 0 c 1).dropPkt p

/-- The descriptor of a punt ring in turn is written back and passed (R62): DATA_LEN, STATUS and PHASE at bytes 10 to
15. True when it was sent. -/
def State.puntWriteBack (s : State) (c len status : Nat) (bad : Bool) : Bool × State :=
  let h := s.rfi TM_HPKT.PUNT_STATUS.HEAD c
  let ph := s.rfi TM_HPKT.PUNT_STATUS.PHASE c
  let addr := s.rfi TM_HPKT.PUNT_BASE_HI.ADDR c * 2 ^ 32 + s.rfi TM_HPKT.PUNT_BASE_LO.ADDR c * 2 ^ 12 + h * 16
  let (ok, s) := s.post bad (addr + 10) (toLe 6 (len % 2 ^ 16 + status * 2 ^ 16 + ph * 2 ^ 47))
  if ok then
    let h' := (h + 1) % 2 ^ s.rfi TM_HPKT.PUNT_CTRL.LOG2_SIZE c
    let s := s.wfi TM_HPKT.PUNT_STATUS.HEAD c h'
    let s := if h' = 0 then s.wfi TM_HPKT.PUNT_STATUS.PHASE c (1 - ph) else s
    (true, s.coalesce (64 + c) (s.rfi TM_HPKT.PUNT_CTRL.COAL_COUNT c) (s.rfi TM_HPKT.PUNT_CTRL.COAL_TIME_US c))
  else (false, s)

/-- PUNT_DELIVER (R62 to R64, R46, R514): the oldest packet of the channel's host queue takes the next descriptor; `bad` that the
data to its buffer meets an uncorrectable error, `badBack` that the descriptor's write-back does. A descriptor whose writes fail is not
passed: HEAD stays (DESIGN CHOICE, log entry 31). (DEDUCED, log entry 8.) -/
def State.puntDeliver (s : State) (c : Nat) (desc : ReadResult) (bad badBack : Bool) : State :=
  if 64 ≤ c || s.hc.d3hot || s.fetchStopped || !s.operating 4106 then s
  else
  match s.headAt (.hostq c) with
  | none => s
  | some p =>
    if !p.whole then s
    else
      -- the packet's own number is the count of those directed to the channel before it
      let q := SMap.get 0 s.hp.puntSeq c
      let none_ := decide (s.rfi TM_HPKT.PUNT_CTRL.ENABLE c = 0) || SMap.get false s.hp.stopped c ||
        decide (s.rfi TM_HPKT.PUNT_STATUS.HEAD c = SMap.get 0 s.hp.puntTail c)
      if p.bad || none_ then s.puntDrop c p
      else
        match desc with
        | .fail =>
          let s := { s with hp := { s.hp with stopped := SMap.put false s.hp.stopped c true } }
          (s.raiseO Ev.TM_HPKT.FETCH_ERR 0 (some 1) none none).puntDrop c p
        | .data d =>
          let size := leNat ((d.drop 8).take 2)
          if size < 256 || 16384 < size || size % 64 ≠ 0 then
            let (ok, s) := s.puntWriteBack c 0 2 (bad || badBack)
            if ok then s else s.sat TM_HPKT.PUNT_DROP.COUNT 0 c 1
          else
            let trunc := decide (size < p.data.length + 32)
            let m := toLe 32 (puntMeta p q (s.bankSeq p.bank) trunc)
            let body := (m ++ p.data).take size
            let buf := le64 d 0 / 64 * 64
            let (ok, s) := s.postPkt bad buf body
            if !ok then s.puntDrop c p
            else
              let (ok, s) := s.puntWriteBack c body.length (if trunc then 1 else 0) badBack
              if ok then ((s.puntCount c 1).traceHalf p true false false true).departPkt p else s.puntDrop c p

def execPuntDeliver (chan : Nat) (desc : ReadResult) (bad : Bool) (s : State) (badBack : Bool := false) : Host.Outcome State Fault Refusal :=
  .next (s.onTm (fun s => s.puntDeliver chan desc bad badBack))

end Sys2Proof.Machine
end

