-- ==== Sys2Proof/Machine/Blocks.lean ====
section
/-! DEFINITION. Pages as blocks (R28 to R38): enable, BLOCK resets with their markers and effects (R30, R406 to R411), the event
registers of the header, and the page counters. -/

namespace Sys2Proof.Machine

/-! ### What a BLOCK reset keeps (R410) -/

/-- The bits of an element of field `f` of page instance `p` contain bit address `k`. -/
def Fld.has (f : Fld) (p k : Nat) : Bool := (List.range f.cnt).any (fun i => decide (f.key p i = k))

/-- The fields of the page kind of `P` that a BLOCK reset leaves: those of R410, and those that show state which is no block
register and which R409 keeps. (DEDUCED, log entry 20.) -/
def keptFields (P : Nat) : List Fld :=
  let b := pageBase P
  if b = 16 then [FE_PG.PORT_STATUS.PROT_STATE]
  else if b = 66 then [FE_LPM.FILTER4_CNT.COUNT, FE_LPM.FILTER6_CNT.COUNT, FE_LPM.CLASS4_CNT.COUNT, FE_LPM.CLASS6_CNT.COUNT]
  else if b = 67 then [FE_EXM.MPLS_CNT.COUNT, FE_EXM.MAC_CNT.COUNT]
  else if b = 72 then
    [FE_CELLS.FAULT_TOTAL.COUNT, FE_CELLS.REMAP_TOTAL.COUNT, FE_CELLS.STRIP_STATUS.STATE, FE_CELLS.STRIP_STATUS.SPARES,
     FE_CELLS.STRIP_STATUS.WAITING, FE_CELLS.STRIP_STATUS.SOURCE, FE_CELLS.CELL_STATE.STATE, FE_CELLS.LOGICAL_MAP.POSITION]
  else if b = 75 then [FE_PROT.NOT_IN.PORT]
  else if b = 76 then [FE_PTP.TIME_CTRL.TIME_VALID]
  else if b = 78 then [FE_D2D.STATUS.UP, FE_D2D.STATUS.DOWN_BUNDLE, FE_D2D.REPAIRS.COUNT, FE_D2D.SPARES.SPARES]
  else if b = 80 then [FE_THERM.TEMP.NOW, FE_THERM.TEMP.MAX, FE_THERM.TRIP.ASSERTED, FE_THERM.EXCLUDED.COUNT]
  else if b = 4102 then [TM_MC.RESTARTS.COUNT, TM_MC.STATUS.TRIAL]
  else if b = 4104 then
    [TM_PCIE.LINK_STATUS.SPEED, TM_PCIE.LINK_STATUS.WIDTH, TM_PCIE.LINK_STATUS.FLIT, TM_PCIE.LINK_STATUS.LINK_UP]
  else if b = 4105 then [TM_HCMD.HCMD_STATUS.LOST_CPL]
  else if b = 4146 then [TM_SPRAY.FAB_ID.ID]
  else if b = 4148 then [TM_CHAN.PORT_CHAN.HANDLE, TM_CHAN.CHAN_COUNT.COUNT]
  else if b = 4149 then [TM_QUEUE.PORT_STATE.STATE]
  else if b = 4150 then [TM_BUF.DIE_FREE.UNITS, TM_BUF.DDR_TOTAL.UNITS, TM_BUF.DDR_FREE.UNITS]
  else if b = 4152 then [TM_SHAPE.CAL_INFO0.N1, TM_SHAPE.CAL_INFO0.N2, TM_SHAPE.CAL_INFO1.N3]
  else if b = 4160 then
    [TM_DMC.CFG.DENSITY, TM_DMC.STATUS.STATE, TM_DMC.STATUS.TSET, TM_DMC.TSETk_A.TRCD, TM_DMC.TSETk_A.TRP, TM_DMC.TSETk_A.TRAS,
     TM_DMC.TSETk_A.RATE, TM_DMC.TSETk_B.TRRD, TM_DMC.TSETk_B.TFAW, TM_DMC.TSETk_B.TWR, TM_DMC.TSETk_B.TRFCPB, TM_DMC.TSETk_C.TREFIPB,
     TM_DMC.TSETk_C.POSTPONE_MAX]
  else if b = 4176 then
    [TM_FAULT.LAST_CHIP_RESET.PAGE, TM_FAULT.LAST_CHIP_RESET.DIE, TM_FAULT.LAST_CHIP_RESET.SOURCE, TM_FAULT.LAST_CHIP_RESET.VALID,
     TM_FAULT.STATUS.BRIDGE_UP, TM_FAULT.ALIVE_STATUS.STATE, TM_FAULT.ALIVE_STATUS.CAUSE]
  else if b = 4177 then [TM_LOG.SEQ_NEXT.SEQ, TM_LOG.SQUALL_STATUS.ACTIVE, TM_LOG.SQUALL_STATUS.WINDOWS]
  else if b = 4178 then [TM_PERF.SNAP_SEQ.SEQ]
  else if b = 4179 then
    [TM_THERM.TEMP.NOW, TM_THERM.TEMP.MAX, TM_THERM.TRIP.ASSERTED, TM_THERM.EXCLUDED.COUNT, TM_THERM.LIFE_HOURS.HOURS,
     TM_THERM.TJ_AVG.DECI_C, TM_THERM.CYCLES.THERMAL, TM_THERM.CYCLES.POWER]
  else []

/-- The bit addresses that a BLOCK reset of `P` leaves. (DEDUCED, log entry 20.) -/
def blockKeep (P k : Nat) : Bool := (keptFields P).any (fun f => f.has (P - pageBase P) k)

/-! ### Effects of a BLOCK reset (R409) -/

/-- The packets of a strip side are dropped and counted in FAULT_DROP; for a reset of the pipelines' own page once IN_RESET clears. -/
def State.stripsDrop (s : State) (egr : Bool) : State :=
  (List.range 16).foldl (fun s i =>
    let ps := s.at_ (stripLoc egr i)
    (s.dropAll ps).satLater (faultDropFld egr) 0 i ps.length) s

/-- The cells in the switch core, in transmit groups and held for reorder. -/
def State.cellsHeld (s : State) : List Cell :=
  s.fab.staging.flatMap (·.2) ++ s.fab.banks.flatMap (·.2) ++ s.fab.txq.flatMap (·.2) ++
    s.fab.ctxs.flatMap (fun e => e.2.held.map (·.1))

/-- Packets cut whole of which no cell is left depart (R92). -/
def State.coreSweep (s : State) : State :=
  ((s.at_ .core).filter (fun p => !s.cellsHeld.any (fun c => c.own && decide (c.pkt = p.id)))).foldl (fun s p => s.departPkt p) s

/-- TM.SPRAY: staging and transmit groups are emptied. -/
def State.sprayReset (s : State) : State :=
  (s.setFab (fun f => { f with staging := [], txq := [], pend := [] })).coreSweep

/-- TM.REORD: every context becomes new and open packets end bad. -/
def State.reordReset (s : State) : State :=
  let s : State := s.fab.ras.foldl (fun s e => s.rasBad e.1) s
  let s := ((s.disarmAll .reordCollect).disarmAll .reordGap).disarmAll .reordIdle
  (s.setFab (fun f => { f with ctxs := [], ras := [] })).coreSweep

/-- The packet is held in a TM queue or in residue. -/
def Pkt.queued (p : Pkt) : Bool :=
  match p.loc with
  | .queue _ | .cutq _ | .residue => true
  | _ => false

/-- TM.QUEUE and TM.BUF: every packet held in TM queues and every residue branch is discarded, and counted in FLUSH_DROP once
IN_RESET clears. -/
def State.queuesReset (s : State) : State :=
  let ps := s.pkts.filter Pkt.queued
  let s := (s.setFab (fun f => { f with residue := [] })).disarm .residueRetry 0
  let s := s.dropAll ps
  (s.flushLater ps.length).flowSweep

/-- TM.CHAN: commands in execution complete ABORTED, and so does a CHAN_DESTROY that could start and has not reached its step 1
(R298). -/
def State.chanReset (s : State) : State :=
  let ids := (s.hc.cmds.filter (fun c => decide (c.opcode = 0x21) && s.mayStart c)).map (·.id)
  (ids.foldl (fun s id => s.abortCmd id) s).abortBlock 4148

/-- TM.MCAST: residue is emptied, and each branch counts in its record's DROPS. -/
def State.mcastReset (s : State) : State :=
  let bs := s.fab.residue
  let s := (s.setFab (fun f => { f with residue := [], walk := [] })).disarm .residueRetry 0
  (bs.foldl (fun s b => s.recDrop b.rec_) s).mcastSweep

/-- TM.GATE: EN returns to 0 on every port; the lists are kept and a pending switch is gone with its request. -/
def State.gatesReset (s : State) : State :=
  { s with sc := { s.sc with gates := s.sc.gates.map (fun e => (e.1, { e.2 with en := false, pending := false, result := 0, cause := 0 })) } }

/-- TM.POLICE: the buckets of every policer record are full. -/
def State.policersFull (s : State) : State :=
  { s with sc := { s.sc with pols := s.sc.pols.map (fun e =>
      let v := s.pProf e.2.profile
      (e.1, { e.2 with tc := ⟨ppCbs v * 65536, 0⟩, te := ⟨ppEbs v * 65536, 0⟩, cyc := s.cycle, force := v })) } }

/-- TM.DMC n: the controller is DOWN (R371); its retirements and error marks are cleared (R370). -/
def State.dmcReset (s : State) (c : Nat) : State :=
  let s := (s.disarm .dmcTrain c).setDmc (fun d => { d with
    retired := d.retired.filter (fun u => decide (unitCtl u ≠ c)), full := d.full.filter (· ≠ c),
    freq := d.freq.filter (fun f => decide (f.ctl ≠ c)), hot := d.hot.filter (· ≠ c),
    reqs := d.reqs.map (fun r => if unitCtl r.unit_ = c then { r with active := false, paused := false } else r),
    owed := SMap.drop (fun b => decide (bankCtl b = c)) d.owed, refN := SMap.put 0 d.refN c 0,
    rows := SMap.drop (fun b => decide (bankCtl b = c)) d.rows, bankFree := SMap.drop (fun b => decide (bankCtl b = c)) d.bankFree,
    ptr := SMap.drop (fun k => decide (k / 4 = c)) d.ptr, wmode := SMap.drop (fun k => decide (k / 4 = c)) d.wmode,
    refPtr := SMap.drop (fun k => decide (k / 4 = c)) d.refPtr, lastAct := SMap.drop (fun k => decide (k / 4 = c)) d.lastAct })
  let s : State := { s with timers := s.timers.filter (fun t =>
    !(decide (t.kind = .throttle) && decide (bankCtl (t.idx / 4) = c)) && !(decide (t.kind = .wck) && decide (t.idx / 4 = c))) }
  let s := if s.dm.freq.isEmpty then s.wf TM_DMC.FREQ.BUSY 0 else s
  s.dmcGoDown c

/-- PORT_CFG of a port at its reset value. -/
def portCfgReset : Nat := 16000 * 2 ^ 16
/-- LINK_CFG of a link at its reset value. -/
def linkCfgReset : Nat := 31 * 2 ^ 8

/-- The effect on traffic, commands and engines (R409) before the registers return to reset. (DEDUCED, log entry 20.) -/
def State.resetEffect (s : State) (P : Nat) : State :=
  if P = 4 || P = 4100 then s.abandonStaging
  else if 16 ≤ P && P < 48 then
    let s : State := (List.range 8).foldl (fun s k => s.portStop ((P - 16) * 8 + k) portCfgReset) s
    let mine := fun (i : Nat) => decide (i / 64 = P - 16)
    let s : State := { s with timers := s.timers.filter (fun t =>
      !((decide (t.kind = .pfcPause) || decide (t.kind = .pfcRefresh)) && mine t.idx) && !(decide (t.kind = .preempt) && decide (t.idx / 8 = P - 16))) }
    let s : State := (List.range 8).foldl (fun s k => s.updNetPort ((P - 16) * 8 + k) (fun _ => NetPort.zero)) s
    s.setTs (P - 16) []
  else if 48 ≤ P && P < 64 then (List.range 16).foldl (fun s k => s.portStop ((P - 48) * 16 + k) portCfgReset) s
  else if P = 65 then { s with meters := [] }
  else if P = 68 then { s.abortBlock 68 with tm := { s.tm with wq := [], switches := [] } }
  else if P = 69 then { s with tm := { s.tm with locks := [], dmaHeld := [] } }
  else if P = 70 then
    let n := s.ln.queue.length
    let s : State := { s with ln := { s.ln with queue := [] } }
    { s with later := SMap.upd 0 s.later (FE_LEARN.QUEUE_DROP.COUNT.key 0 0) (· + n) }
  else if P = 71 then { s with ln := { s.ln with walk := none } }
  else if P = 72 then s.cellsReset
  else if P = 75 then
    let s : State := (List.range 8).foldl (fun s k => s.protForceOut k 0) s
    { s with net := { s.net with rx := (List.range 16384).map (fun k => (k, { s.rxRec k with takeAny := true })) } }
  else if P = 76 then
    let s := (((s.disarm .ppsWidth 0).disarm .ppsMissing 0).disarm .todSend 0)
    { s with addend := addendReset, ptp := ⟨[], false, s.ptp.ppsSec⟩ }
  else if P = 77 then { s with tr := { s.tr with fe := [], feArm := true } }
  else if P = 79 then
    let n := s.log.fwd.length
    let s : State := { s with log := { s.log with fwd := [] } }
    (List.range n).foldl (fun s _ => s.loseRec 79) s
  else if P = 4105 then s.loseCommands
  else if P = 4107 then s.clearIrq
  else if 4112 ≤ P && P < 4146 then
    let s : State := (pageLinks P).foldl (fun s n => s.linkCfgSet n linkCfgReset) s
    if 4136 ≤ P then { s with links := SMap.drop (fun n => decide (n / 32 = P - 4136)) s.links } else s
  else if P = 4146 then s.sprayReset
  else if P = 4147 then s.reordReset
  else if P = 4148 then
    { s.chanReset with chans := s.chans.map (fun e => (e.1, { e.2 with cmd := none })) }
  else if P = 4149 || P = 4150 then s.queuesReset
  else if P = 4151 then { s with sc := { s.sc with deficit := [], express := Sched.reset.express, expressCyc := s.cycle } }
  else if P = 4152 then { s with sc := { s.sc with shapers := [], cal := [] } }
  else if P = 4153 then s.policersFull
  else if P = 4154 then s.gatesReset
  else if P = 4155 then s.mcastReset
  else if P = 4156 then { s with sc := { s.sc with sampleArm := true } }
  else if 4160 ≤ P && P < 4176 then s.dmcReset (P - 4160)
  else if P = 4176 then s.disarm .hbHold 0
  else if P = 4178 then
    let s := ((s.abortBlock 4178).disarm .snapshot 0).disarm .freeze 0
    { s with snap := none, tr := { s.tr with tm := [], tmArm := true } }
  else s

/-- What follows once the registers are at their reset values. -/
def State.resetAfter (s : State) (P : Nat) : State :=
  if ingressPages.contains P then
    let s := if P = 64 then s.resetRwe FE_PARSE.FAIL_ACT.ACT false |>.resetRwe FE_PARSE.FAIL_ACT.ACT true
      else if P = 66 then
        let s := (s.resetRwe FE_LPM.VRF_NH_BASE4.BASE false).resetRwe FE_LPM.VRF_NH_BASE4.BASE true
        ((s.resetRwe FE_LPM.VRF_NH_BASE6.BASE false).resetRwe FE_LPM.VRF_NH_BASE6.BASE true).showLayout
      else if P = 67 then s.showLayout
      else if P = 73 then s.wf FE_PIPEI.DEPTH_CYCLES.CYCLES (if s.noEpoch then 0 else s.depthOf s.activeBank false)
      else s
    s.stripsDrop false
  else if P = 74 then (s.wf FE_PIPEE.DEPTH_CYCLES.CYCLES (if s.noEpoch then 0 else s.depthOf s.activeBank true)).stripsDrop true
  else if P = 68 then s.showLayout
  else if P = 69 then s.showLocks
  else if P = 4100 then s.showImages none
  else if P = 4106 then s.dropHostQueues
  else if P = 4147 then
    let s := (s.resetRwe TM_REORD.WINDOW_EXP.NS false).resetRwe TM_REORD.WINDOW_EXP.NS true
    (s.resetRwe TM_REORD.WINDOW_NORM.NS false).resetRwe TM_REORD.WINDOW_NORM.NS true
  else if P = 4154 then (List.range 256).foldl (fun s p => s.showGmax p) s
  else if 4160 ≤ P && P < 4176 then
    if s.density (P - 4160) = 0 then s.setDmcState (P - 4160) dmcOff else s.trainStart (P - 4160)
  else s.showDdr

/-- A BLOCK reset of `P` starts (R30, R409): IN_RESET sets, FENCED clears, the block registers return to reset values. -/
def State.blockReset (s : State) (P : Nat) : State :=
  if P = 4102 then s.mcReset (s.rf TM_SEC.BOOT.NEXT_SLOT)
  else
    let was := s.expOver
    let s := (s.updHdr P (fun h => { h with fenced := false })).resetEffect P
    let s := s.updHdr P (fun h => { h with inReset := true, fenced := false })
    let s := s.resetBlockRegs P (blockKeep P)
    let s := (s.resetAfter P).arm .blockReset P (if P = 4149 || P = 4150 then 2 * cyMs else 100 * cyUs)
    (s.latchBounds).capCheck was

/-! ### The order-break marker and its action (R406, R407) -/

/-- The marker of a write of SOFT_RESET (R406). -/
def State.resetMarker (s : State) (P : Nat) : LogRec :=
  ⟨P, 0, 1, 4, 1, .orderBreak, false, 0, s.time80, s.rf TM_EPOCH.EPOCH_SEQ.SEQ, s.resetMask P⟩

/-- A write of 1 to SOFT_RESET (R30, R406, R407): the reset waits for its marker; a write while an earlier reset waits is discarded. -/
def State.softReset (s : State) (P : Nat) : State :=
  if !pageAssigned P then s.unassigned P 8 2
  else if softResetDiscarded P || s.inReset P || s.actWaits P false then s
  else
    let s : State := { s with acts := s.acts ++ [⟨false, P, false, s.cycle + 5 * cyUs⟩] }
    let (s, nest) := s.sendRec (s.resetMarker P)
    s.raiseAll nest

/-- An action of a page starts: its reset, or its fence. -/
def State.actStart (s : State) (a : PendAct) : State :=
  let s : State := { s with acts := s.acts.filter (fun x => !(decide (x.page = a.page) && decide (x.fence = a.fence))) }
  if a.fence then s.fenceStart a.page else s.blockReset a.page

/-- The die of a page runs. -/
def State.dieOn (s : State) (P : Nat) : Bool := if P < 4096 then s.feOn else s.tmOn

/-- A write of a page's header: it also has to reach the page (R397). -/
def State.onBus (s : State) (P : Nat) (f : State → State) : State := if s.tmOn && s.dieOn P && s.reachable P then f s else s

/-- A command of a page's header or block: nothing happens while the page's die does not run. -/
def State.onDie (s : State) (P : Nat) (f : State → State) : State := if s.dieOn P then f s else s

def execSoftReset (_who : Agent) (page : Nat) (s : State) : Host.Outcome State Fault Refusal :=
  .next (s.onBus page (fun s => s.softReset page))

/-- MARKER_ACTION_START (R407): the marker of a page's action has been admitted. -/
def State.markerStart (s : State) (P : Nat) : State :=
  match s.acts.find? (fun a => decide (a.page = P) && a.admitted) with
  | some a => s.actStart a
  | none => s

def execMarkerActionStart (page : Nat) (s : State) : Host.Outcome State Fault Refusal :=
  .next (s.onDie page (fun s => s.markerStart page))

/-- MARKER_WAIT_LIMIT (R407): the action has waited 5 us since its event or write. -/
def State.markerLimit (s : State) (P : Nat) : State :=
  match s.acts.find? (fun a => decide (a.page = P)) with
  | some a => (s.advanceTo a.limit).actStart a
  | none => s

def execMarkerWaitLimit (page : Nat) (s : State) : Host.Outcome State Fault Refusal :=
  .next (s.onDie page (fun s => s.markerLimit page))

/-- The counts that a reset of page `P` held back are made (R409): its own, and for the resets of TM.QUEUE and TM.BUF those of FLUSH_DROP
once both are over. (DEDUCED, log entry 20.) -/
def State.countLater (s : State) (P : Nat) : State :=
  let flush := TM_QUEUE.FLUSH_DROP.COUNT.key 0 0
  let held := s.later.filter (fun e => e.1 = flush)
  let s := if (P = 4149 || P = 4150) && !s.buffersReset then
      held.foldl (fun (s : State) e => s.sat TM_QUEUE.FLUSH_DROP.COUNT 0 0 e.2) { s with later := SMap.drop (fun k => decide (k = flush)) s.later }
    else s
  let mine := fun (k : Nat) => decide (k / 32768 = P) && decide (k ≠ flush)
  let es := s.later.filter (fun e => mine e.1)
  let s : State := { s with later := SMap.drop mine s.later }
  let fs := ((pageKind P).map (fun k => k.2.2.2)).getD []
  es.foldl (fun s e =>
    match fs.findSome? (fun f => ((List.range f.cnt).find? (fun i => decide (f.key (P - pageBase P) i = e.1))).map (fun i => (f, i))) with
    | some (f, i) => s.sat f (P - pageBase P) i e.2
    | none => s) s

/-- BLOCK_RESET_DONE (R30, R409): the block is ready again. A controller in training is not; the management controller is ready
at HELRI_READY. -/
def State.resetDone (s : State) (P : Nat) : State :=
  if 4160 ≤ P && P < 4176 && decide (s.dmcState (P - 4160) = dmcTraining) then s
  else
    match s.expire .blockReset P with
    | none => s
    | some s => (s.updHdr P (fun h => { h with inReset := false })).countLater P

def execBlockResetDone (page : Nat) (s : State) : Host.Outcome State Fault Refusal :=
  .next (s.onDie page (fun s => s.resetDone page))

/-! ### PAGE_CTRL.ENABLE (R29, R359) -/

/-- A write of PAGE_CTRL with SOFT_RESET 0 (R29); on a DMC page in OFF with a density, training starts. -/
def State.pageEnable (s : State) (P : Nat) (en : Bool) : State :=
  if 8192 ≤ P then s
  else if !pageAssigned P then s.unassigned P 8 (b2n en)
  else
    let s := s.updHdr P (fun h => { h with enable := en })
    let s := if en && 4160 ≤ P && P < 4176 && s.blockOpen P && decide (s.dmcState (P - 4160) = dmcOff) &&
        decide (s.density (P - 4160) ≠ 0) then s.trainStart (P - 4160) else s
    if en && 4136 ≤ P && P < 4146 then (pageLinks P).foldl (fun s n => s.linkEval n) s else s

def execPageEnable (_who : Agent) (page : Nat) (en : Bool) (s : State) : Host.Outcome State Fault Refusal :=
  .next (s.onBus page (fun s => s.pageEnable page en))

/-! ### Event registers (R31 to R33) -/

/-- Some port of a port group. -/
def State.pgAny (s : State) (P : Nat) (q : Nat → Bool) : Bool := (List.range 8).any (fun k => q ((P - 16) * 8 + k)) && s.blockOpen P

/-- Some enabled link of a FLINK page. -/
def State.flAny (s : State) (P : Nat) (q : Nat → Bool) : Bool := (pageLinks P).any (fun n => s.flEnabled n && q n)

/-- EVT_RAW (R31): the present level of a source's condition. Sources whose condition is an instant, not a state, show 0.
(DEDUCED, log entry 20.) -/
def State.evtRaw (s : State) (P n : Nat) : Bool :=
  let b := pageBase P
  let fl := fun (f : Fld) => s.flAny P (fun l => s.flb f l)
  match b, n with
  | 16, 0 => s.pgAny P (fun p => s.portEnabled p && !s.pgb FE_PG.PORT_STATUS.LINK_UP p)
  | 16, 2 => s.pgAny P (fun p => s.pgb FE_PG.PORT_STATUS.DEG p)
  | 72, 2 => (List.range 16).any (fun st => decide (s.stripState st = stripDown))
  | 73, 0 => (List.range 8).any (fun st => decide (s.stripState st ≠ stripRun))
  | 74, 0 => (List.range 8).any (fun st => decide (s.stripState (8 + st) ≠ stripRun))
  | 78, 4 => !s.bridgeUp
  | 1, 0 => !s.rfb FE_CLK.STATUS.ROOT_LOCK
  | 80, 0 => decide (SMap.get 0 s.th.warned 0 ≠ 0)
  | 80, 1 => s.rfb FE_THERM.TRIP.ASSERTED
  | 80, 3 => (List.range 64).any (fun k => !s.th.excluded.contains k && decide (SMap.get 0 s.th.same k ≠ 0) &&
      decide (toSigned 16 (SMap.get 0 s.th.margins k) < toSigned 16 (s.rf TM_THERM.AVS_MARGIN.LOW_PS)))
  | 4097, 0 => !s.rfb TM_CLK.STATUS.ROOT_LOCK
  | 4097, 1 => !s.rfb TM_CLK.STATUS.REFCLK_OK
  | 4097, 2 => !s.rfb TM_CLK.STATUS.AON_OSC_OK
  | 4098, 2 => s.rfb TM_PWR.WAKE_N_CTRL.ASSERTED
  | 4098, 3 => s.rfb TM_PWR.STATE.WAKE_FAIL
  | 4098, 4 => s.rfb TM_PWR.STATE.BROWNOUT
  | 4099, 2 => decide (s.epochState = esExpired)
  | 4101, 0 => decide (s.rf TM_SEC.DEBUG.LEVEL ≠ 0)
  | 4101, 3 => s.rfb TM_SEC.BOOT.FALLBACK
  | 4101, 4 => decide (s.rf TM_SEC.BOOT.STATE = 2)
  | 4104, 0 => s.rfb TM_PCIE.LINK_STATUS.LINK_UP && s.linkBelow
  | 4105, 1 => (List.range 64).any (fun n => decide (s.rfi TM_HCMD.RING_STATUS.ERROR n = 1))
  | 4106, 1 => (List.range 128).any (fun n => SMap.get false s.hp.stopped n)
  | 4136, 0 => fl TM_FLINK.LINK_STATUS.LOF
  | 4136, 1 => fl TM_FLINK.LINK_STATUS.LOM
  | 4136, 2 => fl TM_FLINK.LINK_STATUS.TIM
  | 4136, 3 => fl TM_FLINK.LINK_STATUS.DEG
  | 4136, 5 => fl TM_FLINK.LINK_STATUS.RDI_RX
  | 4136, 6 => s.flAny P (fun l => !s.inService l)
  | 4136, 19 => fl TM_FLINK.LINK_STATUS.MODE_MISMATCH
  | 4149, 0 => (List.range 256).any (fun p => decide (s.tmPort p = tmHold))
  | 4151, 2 => s.expOver
  | 4160, 3 => s.dm.hot.contains (P - 4160)
  | 4160, 4 => decide (s.dmcState (P - 4160) = dmcDown)
  | 4160, 5 => s.dm.full.contains (P - 4160)
  | 4176, 1 => decide (s.rf TM_FAULT.ALIVE_STATUS.STATE = 2)
  | 4177, 0 => s.rfb TM_LOG.SQUALL_STATUS.ACTIVE
  | 4177, 2 => s.rfb TM_LOG.RING_STATUS.ERROR
  | 4179, 0 => decide (SMap.get 0 s.th.warned 1 ≠ 0)
  | 4179, 1 => s.rfb TM_THERM.TRIP.ASSERTED
  | 4179, 3 => s.th.exhausted
  | _, _ => false

/-- EVT_LATCH_CLEAR (R31): bits written 1 clear, and read 1 again at once while the condition stands. -/
def State.latchClear (s : State) (P mask : Nat) : State :=
  if !pageAssigned P then s.unassigned P 0x14 mask
  else
    let h := s.hdr P
    let v := sumN ((List.range 32).map (fun n =>
      if bit h.latch n && (!bit mask n || s.evtRaw P n) then 2 ^ n else 0))
    s.updHdr P (fun h => { h with latch := v })

def execEvtLatchClear (page mask : Nat) (s : State) : Host.Outcome State Fault Refusal :=
  .next (s.onBus page (fun s => s.latchClear page mask))

/-- EVT_FORCE (R31): the sources written 1 are raised once, with FORCED; the spec states no cause or detail for them. -/
def State.evtForce (s : State) (P mask : Nat) : State :=
  if !pageAssigned P then s.unassigned P 0x1C mask
  else
    let ns := (List.range 32).filter (fun n => bit mask n && srcImplemented P n)
    let x := ns.foldl (fun (a : List Raise × State) n =>
      let (c, s) := a.2.freeVal
      let (d0, s) := s.freeVal
      let (d1, s) := s.freeVal
      (a.1 ++ [(⟨P, n, c, d0, d1⟩ : Raise)], s)) (([], s) : List Raise × State)
    if ns.isEmpty then s else x.2.raiseDepth 4 P true x.1

def execEvtForce (page mask : Nat) (s : State) : Host.Outcome State Fault Refusal :=
  .next (s.onBus page (fun s => s.evtForce page mask))

/-- EVT_CAPTURE_RELEASE (R32): the four capture words are released. (DEDUCED, log entry 20.) -/
def State.captureRelease (s : State) (P : Nat) : State :=
  if !pageAssigned P then s.unassigned P 0x38 (2 ^ 31)
  else s.updHdr P (fun h => { h with capValid := false, capSource := 0, capCause := 0, capForced := false, capTime := 0, capD0 := 0,
                                     capD1 := 0 })

def execEvtCaptureRelease (page : Nat) (s : State) : Host.Outcome State Fault Refusal :=
  .next (s.onBus page (fun s => s.captureRelease page))

/-- EVT_LOST_CLEAR (R33). -/
def State.lostClear (s : State) (P : Nat) : State :=
  if pageAssigned P then s.updHdr P (fun h => { h with lostCount := 0, lostOvf := false }) else s.unassigned P 0x48 (2 ^ 30)

def execEvtLostClear (page : Nat) (s : State) : Host.Outcome State Fault Refusal :=
  .next (s.onBus page (fun s => s.lostClear page))

/-- PAGE_LOCK_WRITE (R36): anyone sets the lock; only the management controller clears it. (DEDUCED, log entry 26.) -/
def State.lockWrite (s : State) (who : Agent) (P : Nat) (lock : Bool) : State :=
  if !pageAssigned P then s.unassigned P 0x4C (b2n lock)
  else if lock then s.updHdr P (fun h => { h with lock := true })
  else if who = .mc then s.updHdr P (fun h => { h with lock := false })
  else s

def execPageLockWrite (who : Agent) (page : Nat) (lock : Bool) (s : State) : Host.Outcome State Fault Refusal :=
  .next (s.onBus page (fun s => s.lockWrite who page lock))

/-! ### Page counters (R37, R38) -/

/-- The counter `k` of a page replaced. -/
def PageHdr.updPerf (h : PageHdr) (k : Nat) (f : PerfCtr → PerfCtr) : PageHdr :=
  match k with
  | 0 => { h with perf0 := f h.perf0 }
  | 1 => { h with perf1 := f h.perf1 }
  | 2 => { h with perf2 := f h.perf2 }
  | 3 => { h with perf3 := f h.perf3 }
  | _ => h

/-- PERF_CNT_PRESET (R38): a write presets the addressed half of the 48-bit count. -/
def State.perfPreset (s : State) (P k : Nat) (hi : Bool) (v : Nat) : State :=
  if !pageAssigned P then s.unassigned P (0x60 + 8 * k + 4 * b2n hi) v
  else s.updHdr P (fun h => h.updPerf k (fun c =>
    { c with count := if hi then setBits c.count 32 16 v else setBits c.count 0 32 v }))

def execPerfCntPreset (page k : Nat) (hi : Bool) (v : Nat) (s : State) : Host.Outcome State Fault Refusal :=
  .next (s.onBus page (fun s => s.perfPreset page k hi v))

end Sys2Proof.Machine
end

