-- ==== Sys2Proof/Machine/PciCfg.lean ====
section
/-! DEFINITION. BAR4 as the locations of R43 and R44, and the configuration space of the function (R21, R39, R40, R477, R513). -/

namespace Sys2Proof.Machine

/-! ### BAR4 (R43, R44) -/

/-- What stands at a 4-byte aligned offset of BAR4 (R43). -/
inductive Bar4 where
  | sqTail (n : Nat)
  | cqHead (n : Nat)
  | puntTail (c : Nat)
  | injTail (c : Nat)
  | msix (v word : Nat)
  | pba (word : Nat)
  | reserved
  deriving DecidableEq, Repr

/-- The layout of R43. -/
def bar4Of (off : Nat) : Bar4 :=
  if off < 0x40000 then
    (if off % 4096 = 0 then .sqTail (off / 4096) else if off % 4096 = 4 then .cqHead (off / 4096) else .reserved)
  else if off < 0x80000 then
    let c := (off - 0x40000) / 4096
    if off % 4096 = 0 then .puntTail c else if off % 4096 = 4 then .injTail c else .reserved
  else if off < 0x88000 then .msix ((off - 0x80000) / 16) (off % 16 / 4)
  else if off < 0x88100 then .pba ((off - 0x88000) / 4)
  else .reserved

/-- An MSI-X vector of the table. -/
def State.vec (s : State) (v : Nat) : MsixVec := SMap.get MsixVec.reset s.irq.vecs v

/-- Word `k` of the table entry of vector `v`: address, address above, data, and the mask bit of vector control. -/
def State.vecWord (s : State) (v k : Nat) : Nat :=
  let x := s.vec v
  match k with
  | 0 => x.addr % 2 ^ 32
  | 1 => x.addr / 2 ^ 32 % 2 ^ 32
  | 2 => x.data
  | _ => b2n x.masked

/-- A word of BAR4 as a read returns it (R44): the index in force of a doorbell, the MSI-X table, the PBA, 0 where reserved. -/
def State.bar4Word (s : State) (off : Nat) : Nat :=
  match bar4Of off with
  | .sqTail n => s.sqTail n
  | .cqHead n => s.cqHead n
  | .puntTail c => SMap.get 0 s.hp.puntTail c
  | .injTail c => SMap.get 0 s.hp.injTail c
  | .msix v k => s.vecWord v k
  | .pba k => sumN ((List.range 32).map (fun i => b2n (s.vec (k * 32 + i)).pba * 2 ^ i))
  | .reserved => 0

/-- Word `k` of the table entry of vector `v` is written; what is no longer held back is sent (R70). -/
def State.vecWrite (s : State) (v k data : Nat) : State :=
  let f := fun (x : MsixVec) =>
    match k with
    | 0 => { x with addr := x.addr / 2 ^ 32 * 2 ^ 32 + data % 2 ^ 32 }
    | 1 => { x with addr := x.addr % 2 ^ 32 + data % 2 ^ 32 * 2 ^ 32 }
    | 2 => { x with data := data % 2 ^ 32 }
    | _ => { x with masked := bit data 0 }
  ({ s with irq := { s.irq with vecs := SMap.upd MsixVec.reset s.irq.vecs v f } } : State).sendPending

/-- A write of `width` bytes within one word of BAR4 (R44): a doorbell takes 32 bits, the PBA none, and a reserved offset raises
RESERVED on TM.HCMD. A table entry written in less than a word keeps its other bytes. -/
def State.bar4Store (s : State) (off width data : Nat) : State :=
  let o := off / 4 * 4
  match bar4Of o with
  | .sqTail n => s.sqTailWrite n width data
  | .cqHead n => s.cqHeadWrite n width data
  | .puntTail c => s.puntTailWrite c width data
  | .injTail c => s.injTailWrite c width data
  | .msix v k => s.vecWrite v k (setBits (s.vecWord v k) (8 * (off % 4)) (8 * width) data)
  | .pba _ => s
  | .reserved => s.accessErr 4105 2 off data

/-! ### Accesses in words (R22) -/

/-- A write of `width` bytes cut at the 4-byte boundaries it crosses: offset, width and data of each part, the lowest first. -/
def busParts (off width data : Nat) : List (Nat × Nat × Nat) :=
  (List.range ((off % 4 + width + 3) / 4)).map (fun k =>
    let a := max off (off / 4 * 4 + 4 * k)
    let b := min (off + width) (off / 4 * 4 + 4 * k + 4)
    (a, b - a, bits data (8 * (a - off)) (8 * (b - a))))

/-- The `width` bytes at an offset out of the words that hold them, read in ascending order by `word` (R22). -/
def readParts (word : State → Nat → Nat × State) (s : State) (off width : Nat) : Nat × State :=
  let ws := (List.range ((off % 4 + width + 3) / 4)).foldl (fun (a : List Nat × State) k =>
    let (v, s) := word a.2 (off / 4 * 4 + 4 * k)
    (a.1 ++ [v], s)) (([], s) : List Nat × State)
  (leWords ws.1 / 2 ^ (8 * (off % 4)) % 2 ^ (8 * width), ws.2)

/-- A write to BAR4. -/
def State.bar4Write (s : State) (off width data : Nat) : State :=
  (busParts (off % 2 ^ 20) width data).foldl (fun (s : State) e => s.bar4Store e.1 e.2.1 e.2.2) s

/-! ### Configuration space (R21, R39, R40) -/

/-- A base address register pair: 64-bit, not prefetchable, of a BAR of `2^n` bytes (R21). -/
def barReg (n base : Nat) : Nat := base / 2 ^ n * 2 ^ n + 4

/-- The header of an extended capability. -/
def extCap (id next : Nat) : Nat := id + 1 * 2 ^ 16 + next * 2 ^ 20

/-- A word of configuration space (R39, R40, R513): the identity, the Command register, the base addresses, and the capabilities of
R39 and no other. Where a capability lies is the model's DESIGN CHOICE; words that the PCI Express specification fills and the spec does
not are open constants. (PRESUMED, log entry 30.) -/
def State.cfgWord (s : State) (o : Nat) : Nat :=
  let c := s.hc.pci
  match o with
  | 0x00 => 0x1F7B + 0x5120 * 2 ^ 16
  | 0x04 => b2n c.memEn * 2 + b2n s.hc.bme * 4 + 0x10 * 2 ^ 16
  | 0x08 => 0xB0 + 0x028000 * 2 ^ 8
  | 0x0C => 0
  | 0x10 => barReg 25 c.bar0 % 2 ^ 32
  | 0x14 => barReg 25 c.bar0 / 2 ^ 32
  | 0x18 => barReg 32 c.bar2 % 2 ^ 32
  | 0x1C => barReg 32 c.bar2 / 2 ^ 32
  | 0x20 => barReg 20 c.bar4 % 2 ^ 32
  | 0x24 => barReg 20 c.bar4 / 2 ^ 32
  | 0x28 | 0x30 | 0x38 | 0x3C => 0
  | 0x2C => c.subsys
  | 0x34 => 0x40
  -- Power Management: D0 and D3hot
  | 0x40 => 0x01 + 0x50 * 2 ^ 8 + 3 * 2 ^ 16
  | 0x44 => (if s.hc.d3hot then 3 else 0) + 2 ^ 3
  -- MSI-X: 2,048 vectors, table and PBA in BAR4
  | 0x50 => 0x11 + 0x70 * 2 ^ 8 + 2047 * 2 ^ 16 + b2n s.irq.fnMask * 2 ^ 30 + b2n s.irq.enable * 2 ^ 31
  | 0x54 => 0x80000 + 4
  | 0x58 => 0x88000 + 4
  -- PCI Express: an Endpoint with Max Payload 512 and function-level reset
  | 0x70 => 0x10 + 2 * 2 ^ 16
  | 0x74 => 2 + 2 ^ 5 + 2 ^ 15 + 2 ^ 28
  | 0x78 => c.devCtl
  | 0x7C => 6 + 16 * 2 ^ 4
  | 0x80 => (s.rf TM_PCIE.LINK_STATUS.SPEED + s.rf TM_PCIE.LINK_STATUS.WIDTH * 2 ^ 4) * 2 ^ 16
  | 0x98 => c.devCtl2
  | 0x100 => extCap 0x0001 0x140
  | 0x118 => 2 ^ 5 + b2n c.ecrcGen * 2 ^ 6 + 2 ^ 7 + b2n c.ecrcChk * 2 ^ 8
  | 0x140 => extCap 0x0003 0x150
  | 0x150 => extCap 0x0025 0x160
  | 0x160 => extCap 0x0026 0x190
  | 0x190 => extCap 0x0027 0x200
  | 0x200 => extCap 0x002A 0x230
  | 0x230 => extCap 0x0031 0x260
  | 0x260 => extCap 0x0032 0
  | _ => (Config.cfgRest o).toNat

/-- Configuration space answers (R477): Helri has read the board area, or both slots have failed. (PRESUMED, log entry 30.) -/
def State.cfgServes (s : State) : Bool := s.hc.pci.boardRead || decide (s.rf TM_SEC.BOOT.STATE = 2)

/-- A configuration register after a write of its word. Initiate Function Level Reset of Device Control resets the function (R42);
PowerState takes D0 and D3hot (R40). (PRESUMED, log entry 30.) -/
def State.cfgPut (s : State) (o v : Nat) : State :=
  let c := s.hc.pci
  let set := fun (c : PciFn) => ({ s with hc := { s.hc with pci := c } } : State)
  let lo := fun (old : Nat) => old / 2 ^ 32 * 2 ^ 32 + v % 2 ^ 32
  let hi := fun (old : Nat) => old % 2 ^ 32 + v % 2 ^ 32 * 2 ^ 32
  match o with
  | 0x04 => ({ s with hc := { s.hc with bme := bit v 2, pci := { c with memEn := bit v 1 } } } : State)
  | 0x10 => set { c with bar0 := lo c.bar0 / 2 ^ 25 * 2 ^ 25 }
  | 0x14 => set { c with bar0 := hi c.bar0 }
  | 0x18 => set { c with bar2 := lo c.bar2 / 2 ^ 32 * 2 ^ 32 }
  | 0x1C => set { c with bar2 := hi c.bar2 }
  | 0x20 => set { c with bar4 := lo c.bar4 / 2 ^ 20 * 2 ^ 20 }
  | 0x24 => set { c with bar4 := hi c.bar4 }
  | 0x44 => if v % 4 = 0 || v % 4 = 3 then ({ s with hc := { s.hc with d3hot := decide (v % 4 = 3) } } : State).sendPending else s
  | 0x50 => ({ s with irq := { s.irq with enable := bit v 31, fnMask := bit v 30 } } : State).sendPending
  | 0x78 =>
    let s := set { c with devCtl := v % 2 ^ 15 }
    if bit v 15 then s.hostInterfaceReset .flr else s
  | 0x98 => set { c with devCtl2 := v % 2 ^ 16 }
  | 0x118 => set { c with ecrcGen := bit v 6, ecrcChk := bit v 8 }
  | _ => s

/-- A configuration write of `width` bytes within a word. -/
def State.cfgStore (s : State) (off width data : Nat) : State :=
  let o := off / 4 * 4
  s.cfgPut o (setBits (s.cfgWord o) (8 * (off % 4)) (8 * width) data)

/-- A configuration write (R39, R477). -/
def State.cfgWrite (s : State) (off width data : Nat) : State :=
  if s.cfgServes then (busParts (off % 4096) width data).foldl (fun (s : State) e => s.cfgStore e.1 e.2.1 e.2.2) s
  else s.emit .cfgRetry

/-- A read of BAR4 (R44). -/
def State.bar4Read (s : State) (off width : Nat) : State :=
  s.emit (.readData (readParts (fun s o => (s.bar4Word o, s)) s (off % 2 ^ 20) width).1)

/-- A configuration read (R39, R477). -/
def State.cfgRead (s : State) (off width : Nat) : State :=
  if s.cfgServes then s.emit (.readData (readParts (fun s o => (s.cfgWord o, s)) s (off % 4096) width).1)
  else s.emit .cfgRetry

end Sys2Proof.Machine
end

