-- ==== Sys2Proof/Machine/Resets.lean ====
section
/-! DEFINITION. What POR, CHIP reset and the loss of the main rails clear (R473, R474, R456, R412), the cold start from its OTP
step (R476), what Helri does in it (R435, R477, R509), and firmware updates (R481, R482). -/

namespace Sys2Proof.Machine

/-! ### Events of the always-on domain (R464) -/

/-- An event is raised; while the clocks of the TM die stand still it is held until its page is out of reset. -/
def State.raiseAon (s : State) (e : Evt) (cause d0 d1 : Nat) : State :=
  if s.tmOn then s.raise e 0 cause d0 d1
  else { s with pw := { s.pw with held := s.pw.held ++ [(⟨e.page, e.src, cause, d0, d1⟩ : Raise)] } }

/-- The held events are raised. -/
def State.flushHeld (s : State) : State :=
  let rs := s.pw.held
  let s : State := { s with pw := { s.pw with held := [] } }
  s.raiseAll rs

/-- TM.PWR.STATE takes a value; a change raises STATE_CHANGED (R472). -/
def State.setPwr (s : State) (v : Nat) : State :=
  let old := s.rf TM_PWR.STATE.STATE
  if old = v then s
  else (s.wf TM_PWR.STATE.STATE v).raiseAon Ev.TM_PWR.STATE_CHANGED v old (s.rf TM_PWR.STATE.WAKE_CAUSE)

/-! ### What a reset keeps -/

/-- The registers a reset keeps: those whose bit address satisfies `keep`. -/
def State.keepRegs (s : State) (keep : Nat → Bool) : SMap Nat := s.regs.filter (fun e => keep e.1)

/-- Failures to report once Helri runs: a staging that a reset abandons is one (R479). -/
def State.failsKept (s : State) : List Nat :=
  s.mc.fails ++ (if s.rfb TM_MC.FW_CTRL.BUSY && !s.mc.update then [4] else [])

/-- The flash as a reset leaves it: a slot that was being staged fails its checks (R479). -/
def State.flashKept (s : State) : Flash := if s.mc.update then s.flash else s.fwAbandon.flash

/-- POR_N low (R473): everything but OTP and flash is cleared. -/
def State.porClear (s : State) : State :=
  { State.reset with
    otp := s.otp, flash := s.flashKept, freeCtr := s.freeCtr, out := s.out, pending := s.pending
    mc := { State.reset.mc with fails := s.failsKept }
    pw := { Power.por with sysLow := s.pw.sysLow } }

/-- The fields a CHIP reset keeps (R443, R473, R485, R489). (DEDUCED, log entry 21.) -/
def chipKept : List Fld :=
  [FE_CLK.STATUS.ROOT_LOCK, TM_CLK.STATUS.ROOT_LOCK, TM_PWR.STATE.BROWNOUT, TM_EPOCH.EPOCH_SEQ.SEQ, TM_EPOCH.BANK_SEQ_A.SEQ,
   TM_EPOCH.BANK_SEQ_B.SEQ, TM_SEC.BOOT.NEXT_SLOT,
   TM_MC.STATUS.TRIAL, TM_LOG.SEQ_NEXT.SEQ, TM_PCIE.LINK_STATUS.SPEED, TM_PCIE.LINK_STATUS.WIDTH, TM_PCIE.LINK_STATUS.FLIT,
   TM_PCIE.LINK_STATUS.LINK_UP, TM_FAULT.LAST_CHIP_RESET.PAGE, TM_FAULT.LAST_CHIP_RESET.DIE, TM_FAULT.LAST_CHIP_RESET.SOURCE,
   TM_FAULT.LAST_CHIP_RESET.VALID, FE_THERM.TRIP.ASSERTED, TM_THERM.TRIP.ASSERTED]

/-- A CHIP reset clears (R412, R473): packets, commands, tables, banks, channels, registers. -/
def State.chipClear (s : State) (pin : Bool) : State :=
  { State.reset with
    otp := s.otp, flash := s.flashKept, freeCtr := s.freeCtr, out := s.out, pending := s.pending
    cycle := s.cycle
    timers := s.timers.filter (fun t => decide (t.kind = .lockout))
    regs := s.keepRegs (fun k => chipKept.any (fun f => decide (f.key 0 0 = k)))
    log := { State.reset.log with ring := s.log.ring }
    hc := { State.reset.hc with bme := s.hc.bme, d3hot := s.hc.d3hot, pci := { s.hc.pci with boardRead := false } }
    irq := { State.reset.irq with enable := s.irq.enable, fnMask := s.irq.fnMask,
                                  vecs := (s.irq.vecs.map (fun e => (e.1, { e.2 with pba := false }))).filter
                                    (fun e => decide (e.2 ≠ MsixVec.reset)) }
    mc := { State.reset.mc with update := s.mc.update, trialAt := s.mc.trialAt, fails := s.failsKept }
    jt := { State.reset.jt with ir := s.jt.ir, fails := s.jt.fails }
    pw := { Power.por with rst := if pin then 2 else 0, pwrEn := s.pw.pwrEn, cause := 1, sysLow := s.pw.sysLow } }

/-- The fields outside TM.PWR and TM.MGMT that DOLDRUMS_C keeps, with those that show pins until POR (R456, R485). -/
def sleepKept : List Fld :=
  [FE_CLK.STATUS.ROOT_LOCK, TM_CLK.STATUS.ROOT_LOCK, TM_FAULT.ALIVE_STATUS.STATE, TM_FAULT.ALIVE_STATUS.CAUSE,
   TM_FAULT.ALIVE_STATUS.SLOW, FE_THERM.TRIP.ASSERTED, TM_THERM.TRIP.ASSERTED]

/-- The page of a bit address is TM.PWR or TM.MGMT. -/
def aonKey (k : Nat) : Bool := decide (k / 32768 = 4098) || decide (k / 32768 = 4108)

/-- What the rails took with them before a cold start from DOLDRUMS_C (R456): everything but the always-on domain's state.
(DEDUCED, log entry 21.) -/
def State.sleepClear (s : State) : State :=
  { State.reset with
    otp := s.otp, flash := s.flashKept, freeCtr := s.freeCtr, out := s.out, pending := s.pending
    cycle := s.cycle
    hdrs := s.hdrs.filter (fun e => decide (e.1 = 4098) || decide (e.1 = 4108))
    regs := s.keepRegs (fun k => aonKey k || sleepKept.any (fun f => decide (f.key 0 0 = k)))
    mc := { State.reset.mc with fails := s.failsKept }
    pw := s.pw }

/-! ### Helri in a cold start (R359, R477, R509) -/

/-- The timing sets and DENSITY of a controller from the board area; 0xFF means absent (R509). -/
def State.boardDmc (s : State) (c : Nat) : State :=
  let b := Config.boardArea
  let s := (List.range 2).foldl (fun s k =>
    let w := fun (o : Nat) => leAt b (16 + 12 * k + 4 * o) 4
    let put := fun (o : Nat) (s : State) (f : Fld) => s.wfp f c k (bits (w o) f.lo f.w)
    let s := [TM_DMC.TSETk_A.RATE, TM_DMC.TSETk_A.TRCD, TM_DMC.TSETk_A.TRP, TM_DMC.TSETk_A.TRAS].foldl (put 0) s
    let s := [TM_DMC.TSETk_B.TRRD, TM_DMC.TSETk_B.TFAW, TM_DMC.TSETk_B.TWR, TM_DMC.TSETk_B.TRFCPB].foldl (put 1) s
    [TM_DMC.TSETk_C.TREFIPB, TM_DMC.TSETk_C.POSTPONE_MAX].foldl (put 2) s) s
  s.wfp TM_DMC.CFG.DENSITY c 0 (if byteAt b 40 = 0xFF then 0 else byteAt b 40)

/-- Pages Helri enables first, in the order of R477: 1 to 3, and the controllers of 4. -/
def enableFirst : List Nat := [78, 79, 4176, 4177, 80, 4179, 76, 4178, 77, 4156] ++ (List.range 16).map (· + 4160)

/-- The pages of 5 to 7, which follow the training. -/
def enableRest : List Nat :=
  let named := [4105, 4106, 4107, 3, 4099, 4, 4100]
  named ++ allPages.filter (fun P => !resetEnable P && !named.contains P && !enableFirst.contains P)

/-- Helri of a cold start before READY: the controllers' settings, and the pages that come first. A controller without a density
stays OFF. -/
def State.helriInit (s : State) : State :=
  let s := (List.range 16).foldl (fun s c => s.boardDmc c) s
  enableFirst.foldl (fun s P => s.pageEnable P true) s

/-- The steps of R434 in a cold start, and Helri's first work when a slot passes. -/
def State.coldBoot (s : State) : State :=
  let s := s.bootRom (s.rf TM_SEC.BOOT.NEXT_SLOT)
  if s.rf TM_SEC.BOOT.STATE = 1 then s.helriInit else s

/-- BOOT_RETRY (R434 step 5): a write of BOOT.RETRY in FAILED repeats the steps. -/
def State.bootRetry (s : State) : State :=
  if s.blockOpen 4101 && decide (s.rf TM_SEC.BOOT.STATE = 2) then
    if s.pw.wake = 4 then s.coldBoot else s.bootRom (s.rf TM_SEC.BOOT.NEXT_SLOT)
  else s

def execBootRetry (s : State) : Host.Outcome State Fault Refusal := .next (s.onTm (fun s => s.bootRetry))

/-! ### The cold start (R449, R451, R476) -/

/-- The counters of R449 start at 0; what was measured against them keeps its distance. -/
def State.restartCounters (s : State) : State :=
  { s with
    cycle := 0, time := 0, timeRun := true
    timers := s.timers.map (fun t => { t with deadline := t.deadline - s.cycle })
    mc := { s.mc with trialAt := s.mc.trialAt - (s.cycle : Int), resetAt := 0 } }

/-- The life record as the registers show it, and the start voltage (R484, R487, R490). -/
def State.showLife (s : State) : State :=
  let f := s.flash
  let s := (s.wf TM_THERM.LIFE_HOURS.HOURS f.hours).wf TM_THERM.TJ_AVG.DECI_C f.tj
  (s.wf TM_THERM.CYCLES.THERMAL f.thermal).wf TM_THERM.CYCLES.POWER f.power

/-- Every page but TM.MC's leaves reset (R84, R407). (DEDUCED, log entry 15.) -/
def State.pagesOutOfReset (s : State) : State :=
  allPages.foldl (fun s P => if P = 4102 then s else s.updHdr P (fun h => { h with inReset := false })) s

/-- The cold start from its OTP step, with the root PLLs locked: pages leave reset but for TM.MC, the bridge is up, and the boot ROM
runs. `pw.cause` tells what it follows: 0 POR, 1 CHIP, 3 DOLDRUMS_C. (DESIGN CHOICE, log entry 14.) -/
def State.coldStart (s : State) : State :=
  let cause := s.pw.cause
  let s := (if cause = 3 then s.sleepClear else s).restartCounters
  let s : State := { s with pw := { s.pw with rst := 0, entry := 0, abort := false, wake := 4, left := 3, pwrEn := true } }
  let s : State := s.disarm .wakeStep 0
  let s : State := s.pagesOutOfReset
  let s := ((s.wf FE_D2D.STATUS.UP 1).wf TM_FAULT.STATUS.BRIDGE_UP 1).wf TM_CLK.STATUS.REFCLK_OK 1
  let s := (s.wf FE_PWR.STATUS.SWITCH_OK 1).wf TM_MC.STATUS.RESET_CAUSE cause
  let s : State := if cause = 0 then { s with flash := { s.flash with power := satAdd 16 s.flash.power 1 } } else s
  let s := if cause = 1 then s else s.wf TM_SEC.BOOT.NEXT_SLOT s.flash.record
  let s := s.showOtp.freshNonce.showLife
  let s := match s.flash.volt with
    | some v => s.wf TM_THERM.AVS_START.START_MV v
    | none => s
  (s.setPwr 4).flushHeld.coldBoot

/-! ### Firmware (R481, R482) -/

/-- A request of FW_CTRL fails at once. -/
def State.fwErr (s : State) (cause : Nat) : State := (s.wf TM_MC.FW_CTRL.ERR 1).wf TM_MC.FW_CTRL.CAUSE cause

/-- A request of FW_CTRL is taken up. -/
def State.fwOk (s : State) : State := (s.wf TM_MC.FW_CTRL.ERR 0).wf TM_MC.FW_CTRL.CAUSE 0

/-- A command on FW_CTRL: Helri runs. (DEDUCED, log entry 21.) -/
def State.onFw (s : State) (f : State → State) : State := s.onTm (fun s => if s.blockOpen 4102 then f s else s)

/-- FW_STAGE (R481): the image is read from host memory. -/
def State.fwStage (s : State) : State :=
  if s.rfb TM_MC.FW_CTRL.BUSY then s.fwErr 1
  else
    let s := (s.fwOk.wf TM_MC.FW_CTRL.STAGED 0).wf TM_MC.FW_CTRL.BUSY 1
    s.emit (.hostRead (s.rf TM_MC.FW_BUF_HI.ADDR * 2 ^ 32 + s.rf TM_MC.FW_BUF_LO.ADDR * 64) (s.rf TM_MC.FW_LEN.BYTES))

def execFwStage (s : State) : Host.Outcome State Fault Refusal := .next (s.onFw (fun s => s.fwStage))

/-- The slot that is not booted. -/
def State.otherSlot (s : State) : Nat := 1 - s.rf TM_SEC.BOOT.BOOTED_SLOT

/-- Staging ends with a failure. -/
def State.fwFail (s : State) (cause : Nat) : State :=
  ((s.wf TM_MC.FW_CTRL.BUSY 0).fwErr cause).raise Ev.TM_MC.FW_UPDATE_FAIL 0 cause s.otherSlot 0

/-- A flash slot takes new content. -/
def State.writeSlotImage (s : State) (i : Nat) (b : Bytes) : State :=
  { s with flash := { s.flash with slots := SMap.put [] s.flash.slots i b } }

/-- FW_STAGE_DONE (R481): the image has been read, or its read failed; `good` that the slot read back as written. -/
def State.fwStageDone (s : State) (image : ReadResult) (good : Bool) : State :=
  if !s.rfb TM_MC.FW_CTRL.BUSY || s.mc.update || s.mc.halted then s
  else
    match image with
    | .fail => s.fwFail 2
    | .data d =>
      let b := d.take (s.rf TM_MC.FW_LEN.BYTES)
      if (imageCheck b false s.otp.helriSvn).isSome then s.fwFail 2
      else if !good then (s.writeSlotImage s.otherSlot [0]).fwFail 5
      else
        let s := s.writeSlotImage s.otherSlot b
        let s := (s.wf TM_MC.FW_CTRL.BUSY 0).wf TM_MC.FW_CTRL.STAGED 1
        s.raise Ev.TM_MC.FW_UPDATE_DONE 0 1 s.otherSlot (le32 b 8)

def execFwStageDone (image : ReadResult) (good : Bool) (s : State) : Host.Outcome State Fault Refusal :=
  .next (s.onFw (fun s => s.fwStageDone image good))

/-- FW_SWITCH (R481 step 3): the hold, NEXT_SLOT, and an MC reset behind its marker. -/
def State.fwSwitch (s : State) : State :=
  if s.rfb TM_MC.FW_CTRL.BUSY then s.fwErr 1
  else if !s.rfb TM_MC.FW_CTRL.STAGED then s.fwErr 6
  else
    let s := (s.fwOk.wf TM_MC.FW_CTRL.BUSY 1).hbHold 3000
    let s := s.wf TM_SEC.BOOT.NEXT_SLOT s.otherSlot
    ({ s with mc := { s.mc with update := true } } : State).softReset 4102

def execFwSwitch (s : State) : Host.Outcome State Fault Refusal := .next (s.onFw (fun s => s.fwSwitch))

/-- FW_CONFIRM (R482): the slot record takes the new slot. -/
def State.fwConfirm (s : State) : State :=
  if !s.rfb TM_MC.STATUS.TRIAL then s.fwErr 7
  else
    let slot := s.rf TM_SEC.BOOT.BOOTED_SLOT
    let s : State := { s.fwOk with flash := { s.flash with record := slot } }
    (s.wf TM_MC.STATUS.TRIAL 0).raise Ev.TM_MC.FW_UPDATE_DONE 0 2 slot (le32 (s.slotImage slot) 8)

def execFwConfirm (s : State) : Host.Outcome State Fault Refusal := .next (s.onFw (fun s => s.fwConfirm))

/-- FW_TRIAL_TIMEOUT (R482): CONFIRM_S seconds have passed; the old slot boots. -/
def State.fwTrialTimeout (s : State) : State :=
  if !s.rfb TM_MC.STATUS.TRIAL || s.inReset 4102 || s.mc.halted then s
  else
    let d := (s.mc.trialAt + ((orWhenZero (s.rf TM_MC.CONFIRM_S.S) 1 * cySec : Nat) : Int)).toNat
    let s := (s.advanceTo d).wf TM_SEC.BOOT.NEXT_SLOT s.flash.record
    ({ s with mc := { s.mc with fails := s.mc.fails ++ [3] } } : State).mcReset s.flash.record

def execFwTrialTimeout (s : State) : Host.Outcome State Fault Refusal := .next (s.onTm (fun s => s.fwTrialTimeout))

end Sys2Proof.Machine
end

