-- ==== Sys2Proof/Machine/Power.lean ====
section
/-! DEFINITION. Power states (R456 to R466): requests, entry into Doldrums, watching in it, waking, and the management serial
interface; the resets a pin holds, their release, and READY (R473 to R477). -/

namespace Sys2Proof.Machine

def psActive : Nat := 0
def psEntering : Nat := 1
def psW : Nat := 2
def psC : Nat := 3
def psWaking : Nat := 4

/-- TM.PWR.STATE.STATE. -/
def State.pwr (s : State) : Nat := s.rf TM_PWR.STATE.STATE

/-- The device is in a Doldrums state. -/
def State.inDoldrums (s : State) : Bool := decide (s.pwr = psW) || decide (s.pwr = psC)

def State.setPw (s : State) (f : Power → Power) : State := { s with pw := f s.pw }

/-- A wake is in progress, or one of its retries waits (R465). -/
def State.waking (s : State) : Bool := decide (s.pw.wake ≠ 0) || s.armed .wakeRetry 0

/-! ### Watching (R460) -/

/-- The sampling loop starts with its count at 0. -/
def State.watch (s : State) : State :=
  let p := s.rf TM_PWR.DOLD_CFG.PERIOD_MS
  (s.setPw (fun w => { w with run := 0 })).arm .doldSample 0 (min (orWhenZero p 1) 1000 * cyMs)

/-! ### Starting a wake (R461, R464) -/

/-- The timeout of a wake step, in core cycles. -/
def wakeLimit (left step : Nat) : Nat :=
  if left = 2 then [20 * cyMs, 2 * cyMs, cyMs / 2, 60 * cyMs].getD (step - 1) 0
  else [2 * cyMs, 20 * cyMs, cyMs / 2].getD (step - 1) 0

/-- Step `step` of the wake from `left` begins. -/
def State.wakeStep (s : State) (left step : Nat) : State :=
  let en := if left = 3 then s.pw.pwrEn || decide (step = 2) else true
  let s := (s.setPwr psWaking).disarm .doldSample 0
  (s.setPw (fun w => { w with wake := step, left := left, pwrEn := en })).arm .wakeStep 0 (wakeLimit left step)

/-- A wake starts with fresh retries: WAKE_CAUSE is set and WAKE_N released. -/
def State.startWake (s : State) (left step cause : Nat) : State :=
  let s := (s.wf TM_PWR.STATE.WAKE_CAUSE cause).wf TM_PWR.WAKE_N_CTRL.ASSERTED 0
  let s := s.setPw (fun w => { w with entry := 0, abort := false, fails := 0, cause := 3 })
  s.wakeStep left step

/-! ### Requests (R457) -/

/-- A request is discarded with a cause. -/
def State.reqDiscard (s : State) (cause target : Nat) : State := s.raiseAon Ev.TM_PWR.REQ_DISCARDED cause target s.pwr

/-- A request goes into the PENDING slot. -/
def State.pend (s : State) (t : Nat) : State :=
  let old := s.rf TM_PWR.STATE.PENDING
  (if old = 3 then s else s.reqDiscard 1 old).wf TM_PWR.STATE.PENDING t

/-- The target of the state that the present transition, or the present state, will reach. -/
def State.powerGoal (s : State) : Nat :=
  if s.waking then 0
  else if s.pw.entry ≠ 0 then (if s.pw.abort then 0 else s.pw.target)
  else if s.pwr = psW then 1
  else if s.pwr = psC then 2
  else 0

/-- An entry into Doldrums starts (R458 step 1): debug unlock and staging end. -/
def State.startEntry (s : State) (t : Nat) : State :=
  let s := s.setPw (fun w => { w with entry := 1, target := t, abort := false })
  (s.setPwr psEntering).endUnlock.abandonStaging

/-- A power request (R457); `cause` is the WAKE_CAUSE of a wake it starts. (DEDUCED, log entry 21.) -/
def State.powerReq (s : State) (t cause : Nat) : State :=
  if 3 ≤ t || (t = 1 && s.pwr = psC) then s.reqDiscard 3 t
  else if t = s.powerGoal then s.reqDiscard 2 t
  else if s.waking then s.pend t
  else if s.pw.entry ≠ 0 then
    if t = 0 then
      let old := s.rf TM_PWR.STATE.PENDING
      let s := if old = 3 then s else (s.reqDiscard 1 old).wf TM_PWR.STATE.PENDING 3
      s.setPw (fun w => { w with abort := true })
    else s.pend t
  else if s.pwr = psW && t = 2 then s.setPw (fun w => { w with entry := 6, target := 2, abort := false })
  else if s.pwr = psW then s.startWake 2 1 cause
  else if s.pwr = psC then s.startWake 3 1 cause
  else if s.inReset 4102 then s.pend t
  else s.startEntry t

/-- The pending request starts. -/
def State.startPending (s : State) : State :=
  let t := s.rf TM_PWR.STATE.PENDING
  if t = 3 then s else (s.wf TM_PWR.STATE.PENDING 3).powerReq t 1

/-- POWER_REQUEST: a write of TM.PWR.REQ. -/
def execPowerRequest (target : Nat) (s : State) : Host.Outcome State Fault Refusal :=
  .next (s.onTm (fun s => if s.blockOpen 4098 then s.powerReq (target % 4) 1 else s))

/-! ### Entry (R458, R459) -/

/-- The links are judged again, with or without the withdrawal of step 3. -/
def State.evalLinks (s : State) : State := (List.range 320).foldl (fun s n => s.linkEval n) s

/-- Nothing is left of the packets: none present, and no cell in the switch core. -/
def State.drained (s : State) : Bool := s.pkts.isEmpty && s.cellsHeld.isEmpty

/-- The wait of an entry step is over. -/
def State.entryWaitOver (s : State) : Bool :=
  match s.pw.entry with
  | 1 => (decide (s.epochState = esIdle) || decide (s.epochState = esNoEpoch)) && !s.ep.remirror && s.dm.freq.isEmpty
  | 2 => decide (s.inflightAll = 0)
  | 3 => s.drained
  | _ => true

/-- Cells and packets are gone with the on-die buffer and the contents of GDDR7 (R456). -/
def State.loseData (s : State) : State :=
  let s := s.dropAll s.pkts
  let s := s.setFab (fun f => { f with staging := [], banks := [], txq := [], cut := [], ctxs := [], ras := [], residue := [] })
  s.setDmc (fun d => { d with reqs := [], used := [], mem := [], pend := [], lost := [], rows := [], owed := [], freq := [] })

/-- The SerDes of a port goes off. -/
def State.portDark (s : State) (p : Nat) : State :=
  if !s.portEnabled p then s
  else
    let s := (s.setPg FE_PG.PORT_STATUS.LINK_UP p 0).setPg FE_PG.PORT_STATUS.LOS p 1
    let v := s.pg FE_PG.PORT_STATUS.PROT_STATE p
    let s := s.disarm .protWtr p
    if v = protForced then s else s.setProt p protWithdrawn

/-- The SerDes of a fabric link goes off. -/
def State.linkDark (s : State) (n : Nat) : State :=
  if !s.flEnabled n then s
  else (((s.setFl TM_FLINK.LINK_STATUS.LOS n 1).setFl TM_FLINK.LINK_STATUS.CW_LOCK n 0).hunt n 0)

/-- The end of step 5: everything but the always-on domain and the retained SRAM is off, and the device is in DOLDRUMS_W. -/
def State.powerDown (s : State) : State :=
  let s := s.loseData.pcieLinkDown
  let s : State := (List.range 256).foldl (fun s p => s.portDark p) s
  let s : State := (List.range 320).foldl (fun s n => s.linkDark n) s
  let s := (s.setPw (fun w => { w with cycleAt := s.cycle })).wf FE_PTP.TIME_CTRL.TIME_VALID 0
  let s : State := { s with timeRun := false, ptp := { s.ptp with adjs := [], ppsOut := false } }
  let s := (s.wf FE_PTP.TIME_CTRL.BUSY 0).wf FE_PWR.STATUS.SWITCH_OK 0
  let s := (s.wf TM_FAULT.ALIVE_STATUS.SLOW 1).wf FE_CLK.STATUS.CYCLE_SYNC 0
  let s := (s.wf FE_CLK.STATUS.ROOT_LOCK 0).wf TM_CLK.STATUS.ROOT_LOCK 0
  (s.setPwr psW).watch

/-- The end of step 6: the main rails are off. -/
def State.railsDown (s : State) : State :=
  ((s.setPw (fun w => { w with pwrEn := false, entry := 0 })).setPwr psC).watch

/-- Step 4 of a wake from DOLDRUMS_W: GDDR7 trains again (R359). -/
def State.retrain (s : State) : State :=
  (List.range 16).foldl (fun s c => if s.density c = 0 || s.fenced (4160 + c) then s else s.trainStart c) s

/-- The entry goes on from the end of its step. -/
def State.entryNext (s : State) : State :=
  match s.pw.entry with
  | 1 => s.setPw (fun w => { w with entry := 2 })
  | 2 =>
    let ms := orWhenZero (s.rf TM_PWR.DOLD_CFG.DRAIN_MS) 1
    ((s.setPw (fun w => { w with entry := 3 })).evalLinks).arm .doldDrain 0 (ms * cyMs)
  | 3 => (s.disarm .doldDrain 0).setPw (fun w => { w with entry := 4 })
  | 4 => if s.pw.abort then (s.startWake 2 4 1).retrain else s.setPw (fun w => { w with entry := 5 })
  | 5 =>
    let s := s.powerDown
    if s.pw.abort then s.startWake 2 1 1
    else if s.pw.target = 2 then s.setPw (fun w => { w with entry := 6 })
    else (s.setPw (fun w => { w with entry := 0 })).startPending
  | 6 =>
    let a := s.pw.abort
    let s := s.railsDown
    if a then s.startWake 3 1 1 else s.startPending
  | _ => s

/-- An entry is aborted within steps 1 to 3 (R459). -/
def State.entryAbort (s : State) : State :=
  let k := s.pw.entry
  let s := (s.disarm .doldDrain 0).setPw (fun w => { w with entry := 0, abort := false })
  let s := if k = 3 then s.evalLinks else s
  ((s.setPwr psActive).raiseAon Ev.TM_PWR.ENTRY_ABORTED 0 k 0).startPending

/-- ENTRY_SAFE_POINT (R458, R459): an abort takes effect, or a step whose wait is over ends. -/
def State.safePoint (s : State) : State :=
  if s.pw.entry = 0 then s
  else if s.pw.abort && decide (s.pw.entry ≤ 3) then s.entryAbort
  else if s.entryWaitOver then s.entryNext
  else s

/-- Something the always-on domain does: no pin holds a reset. -/
def State.onAon (s : State) (f : State → State) : State := if s.pw.rst = 0 then f s else s

def execEntrySafePoint (s : State) : Host.Outcome State Fault Refusal := .next (s.onAon (fun s => s.safePoint))

/-- DOLDRUMS_DRAIN_EXPIRE (R458 step 3): the rest is discarded, each packet and each cell of another device counted. -/
def State.drainExpire (s : State) : State :=
  match s.expire .doldDrain 0 with
  | none => s
  | some s =>
    let n := s.pkts.length + (s.cellsHeld.filter (fun c => !c.own)).length
    let s := s.dropAll s.pkts
    let s := s.setFab (fun f => { f with staging := [], banks := [], txq := [], cut := [], ctxs := [], ras := [], residue := [] })
    s.doldDrop n

def execDoldrumsDrainExpire (s : State) : Host.Outcome State Fault Refusal := .next (s.onTm (fun s => s.drainExpire))

/-! ### Sampling (R460, R461) -/

/-- A sample misses what LS_EXPECT asks for. -/
def State.lsMiss (s : State) (ls : Nat) : Bool :=
  (List.range 2).any (fun k =>
    decide ((bits ls (32 * k) 32 ^^^ s.rfi TM_PWR.LS_EXPECT.EXPECT k) &&& s.rfi TM_PWR.LS_MASK.MASK k ≠ 0))

/-- A temperature, in the 8 bits of a signed number, lies outside the limits. -/
def State.tempMiss (s : State) (t : Nat) : Bool :=
  s.rfb TM_PWR.DOLD_CFG.TEMP_EN &&
    (decide (toSigned 8 (s.rf TM_PWR.TEMP_THR.T_HIGH) < toSigned 8 t) || decide (toSigned 8 t < toSigned 8 (s.rf TM_PWR.TEMP_THR.T_LOW)))

/-- DOLDRUMS_SAMPLE (R460): one pass of the loop with the inputs and the temperature it reads. -/
def State.doldSample (s : State) (ls temp : Nat) : State :=
  if s.waking then s else
  match s.expire .doldSample 0 with
  | none => s
  | some s =>
    let run := s.pw.run
    let s := s.watch
    let s := (s.wfi TM_PWR.LS_LAST.LAST 0 (bits ls 0 32)).wfi TM_PWR.LS_LAST.LAST 1 (bits ls 32 32)
    let s := (s.wf TM_PWR.TEMP_THR.TEMP_LAST temp).inc1 TM_PWR.SAMPLES.COUNT
    let lm := s.lsMiss ls
    let run := if lm || s.tempMiss temp then run + 1 else 0
    let s := s.setPw (fun w => { w with run := run })
    if run < orWhenZero (s.rf TM_PWR.DOLD_CFG.DEBOUNCE) 1 || s.rfb TM_PWR.WAKE_N_CTRL.ASSERTED then s
    else if s.rfb TM_PWR.DOLD_CFG.SELF_WAKE && !s.rfb TM_PWR.STATE.WAKE_FAIL then s.powerReq 0 (if lm then 2 else 3)
    else
      (s.wf TM_PWR.WAKE_N_CTRL.ASSERTED 1).raiseAon Ev.TM_PWR.WAKE_N_ASSERTED 0 (bits ls 0 32) (temp % 256)

def execDoldrumsSample (ls temp : Nat) (s : State) : Host.Outcome State Fault Refusal := .next (s.onAon (fun s => s.doldSample ls temp))

/-- WAKE_N_RELEASE (R461): a write of WAKE_N_CTRL.RELEASE. -/
def execWakeNRelease (s : State) : Host.Outcome State Fault Refusal :=
  .next (s.onTm (fun s => if s.blockOpen 4098 then s.wf TM_PWR.WAKE_N_CTRL.ASSERTED 0 else s))

/-! ### Waking (R464, R465) -/

/-- ACTIVE is reached: WAKE_FAIL clears, ALIVE is back to 1 kHz, and a pending request starts; SYS_RST_N low begins a CHIP reset then (R500). -/
def State.reachActive (s : State) : State :=
  let s := (s.disarm .wakeStep 0).setPw (fun w => { w with wake := 0, entry := 0, abort := false, fails := 0 })
  let s := (s.wf TM_PWR.STATE.WAKE_FAIL 0).wf TM_FAULT.ALIVE_STATUS.SLOW 0
  let s := s.setPwr psActive
  if s.pw.sysLow then s.chipClear true else s.startPending

/-- The root PLLs lock in a wake from DOLDRUMS_W: the counters go on from their values at entry, device time starts at 0, and held
events are raised. -/
def State.clocksBack (s : State) : State :=
  let s := (s.wf FE_CLK.STATUS.ROOT_LOCK 1).wf TM_CLK.STATUS.ROOT_LOCK 1
  let s : State := { (s.disarm .wakeStep 0) with cycle := s.pw.cycleAt, time := 0, timeRun := true }
  s.flushHeld

/-- WAKE_STEP_DONE (R464): the step in progress has done what it waits for. -/
def State.wakeStepDone (s : State) : State :=
  if s.pw.left = 2 then
    match s.pw.wake with
    | 1 => s.wakeStep 2 2
    | 2 => ((s.wf FE_PWR.STATUS.SWITCH_OK 1).wf FE_PWR.STATUS.RETAINED 1).wakeStep 2 3
    | 3 => (s.clocksBack.retrain).wakeStep 2 4
    | 4 =>
      if (List.range 16).any (fun c => decide (s.dmcState c = dmcTraining)) then s
      else
        let beat := s.armed .heartbeat 0
        let s := s.reachActive
        let s := if beat && s.pwr = psActive then s.arm .heartbeat 0 (100 * cyMs) else s
        s.evalLinks
    | _ => s
  else
    match s.pw.wake with
    | 1 => s.wakeStep 3 2
    | 2 => s.wakeStep 3 3
    | 3 => ((s.wf FE_CLK.STATUS.ROOT_LOCK 1).wf TM_CLK.STATUS.ROOT_LOCK 1).coldStart
    | _ => s

def execWakeStepDone (s : State) : Host.Outcome State Fault Refusal := .next (s.onAon (fun s => s.wakeStepDone))

/-- FAIL_STEP of a step that missed its timeout (R469); the spec names none for step 4. -/
def State.failStep (s : State) : Nat × State :=
  match s.pw.left, s.pw.wake with
  | 2, 1 => (1, s)
  | 2, 2 => (2, s)
  | 3, 1 => (2, s)
  | 3, 2 => (1, s)
  | _, 3 => (3, s)
  | _, _ =>
    let (v, s) := s.freeVal
    (v % 4, s)

/-- WAKE_STEP_TIMEOUT (R465): back to the Doldrums state, then a retry, or WAKE_FAIL after the third failure; `switch` is the FE core
power switch that did not close in step 2. -/
def State.wakeTimeout (s : State) (switch : Option Nat) : State :=
  match s.expire .wakeStep 0 with
  | none => s
  | some s =>
    let (k, s) := s.failStep
    let left := s.pw.left
    let s := match switch with
      | some n => if left = 2 && s.pw.wake = 2 then s.raiseAon Ev.FE_PWR.SWITCH_FAULT 0 n 0 else s
      | none => s
    let s := s.wf TM_PWR.STATE.FAIL_STEP k
    let s := if s.tmOn then
        ((s.setPw (fun w => { w with cycleAt := s.cycle })).wf FE_CLK.STATUS.ROOT_LOCK 0).wf TM_CLK.STATUS.ROOT_LOCK 0 else s
    let s := (s.setPw (fun w => { w with wake := 0, fails := w.fails + 1, pwrEn := decide (left = 2) && decide (k ≠ 1) })).setPwr left
    if s.pw.fails < 3 then s.arm .wakeRetry 0 ((if k = 1 then 10 else 1) * cyMs)
    else
      let s := s.setPw (fun w => { w with pwrEn := decide (left = 2) })
      ((s.wf TM_PWR.STATE.WAKE_FAIL 1).raiseAon Ev.TM_PWR.WAKE_FAIL 0 k s.pw.fails).watch

def execWakeStepTimeout (switch : Option Nat) (s : State) : Host.Outcome State Fault Refusal :=
  .next (s.onAon (fun s => s.wakeTimeout switch))

/-- WAKE_RETRY (R465): the wake starts again from its first step. -/
def State.wakeAgain (s : State) : State :=
  match s.expire .wakeRetry 0 with
  | none => s
  | some s => s.wakeStep s.pw.left 1

def execWakeRetry (s : State) : Host.Outcome State Fault Refusal := .next (s.onAon (fun s => s.wakeAgain))

/-- PWR_GOOD_FALL (R464, R504): in DOLDRUMS_W the rails are given up; in ACTIVE, ENTERING and WAKING the device takes no action. -/
def State.pwrGoodFall (s : State) : State :=
  if s.pwr ≠ psW then s
  else
    let s := (s.raiseAon Ev.FE_PWR.RETENTION_FAULT 0 0 0).wf FE_PWR.STATUS.RETAINED 0
    s.setPw (fun w => { w with left := 3, cause := 3 }) |>.railsDown

def execPwrGoodFall (s : State) : Host.Outcome State Fault Refusal := .next (s.onAon (fun s => s.pwrGoodFall))

/-- AON_BROWNOUT (R466): the always-on domain loses its state in DOLDRUMS_C and restarts. (DEDUCED, log entry 24.) -/
def State.brownout (s : State) : State :=
  if s.pwr ≠ psC then s
  else
    let s : State := { s with
      hdrs := s.hdrs.filter (fun e => !(decide (e.1 = 4098) || decide (e.1 = 4108)))
      regs := s.regs.filter (fun e => !aonKey e.1)
      pw := { Power.por with rst := 0, left := 3, cause := 3, sysLow := s.pw.sysLow } }
    let s := (s.disarm .wakeRetry 0).wf TM_PWR.STATE.STATE psC
    let s := ((s.wf TM_FAULT.ALIVE_STATUS.STATE 0).wf TM_FAULT.ALIVE_STATUS.CAUSE 0).wf TM_PWR.STATE.BROWNOUT 1
    ((s.wf TM_PWR.WAKE_N_CTRL.ASSERTED 1).raiseAon Ev.TM_PWR.BROWNOUT 0 0 0).watch

def execAonBrownout (s : State) : Host.Outcome State Fault Refusal := .next (s.onAon (fun s => s.brownout))

/-! ### The management serial interface (R462, R463, R507) -/

/-- MGMT_ADDRESS_MATCH (R462): in Doldrums a matched address starts a wake when it may. -/
def State.mgmtMatch (s : State) : State :=
  if !s.inDoldrums || s.waking || !s.rfb TM_PWR.DOLD_CFG.MGMT_WAKE_EN || s.rfb TM_PWR.STATE.WAKE_FAIL then s
  else (s.raiseAon Ev.TM_MGMT.ADDR_WAKE 0 0 0).powerReq 0 4

def execMgmtAddressMatch (s : State) : Host.Outcome State Fault Refusal := .next (s.onAon (fun s => s.mgmtMatch))

/-- The eight bytes of STATUS. -/
def State.mgmtStatus (s : State) : Bytes :=
  let flags := b2n (s.rfb TM_PWR.STATE.WAKE_FAIL) + b2n (s.rfb TM_PWR.STATE.BROWNOUT) * 2 +
    b2n (decide (s.rf TM_FAULT.ALIVE_STATUS.STATE = 2)) * 4 + b2n s.errN * 8 + b2n (s.rfb TM_PWR.WAKE_N_CTRL.ASSERTED) * 16 +
    b2n (s.rfb FE_PTP.TIME_CTRL.TIME_VALID) * 32
  [s.pwr, flags, s.rf TM_PWR.STATE.WAKE_CAUSE, s.rf TM_PWR.TEMP_THR.TEMP_LAST, s.rf TM_PWR.STATE.PENDING, 0, 0, 0].map (BitVec.ofNat 8)

def execMgmtStatus (s : State) : Host.Outcome State Fault Refusal := .next (s.onAon (fun s => s.emit (.mgmt s.mgmtStatus)))

/-- A command or transfer is NACKed. -/
def State.mgmtNack (s : State) : State := s.sat1 TM_MGMT.NACKS.COUNT

/-- A write command, with or without a valid PEC: without one it is discarded while PEC is required (R463). -/
def State.mgmtWrite (s : State) (code : Nat) (pec : Bool) (f : State → State) : State :=
  if s.rfb TM_MGMT.CFG.PEC_REQ && !pec then (s.sat1 TM_MGMT.PEC_ERR.COUNT).raiseAon Ev.TM_MGMT.PEC_ERR 0 code 0 else f s

def execMgmtPowerReq (target : Nat) (pec : Bool) (s : State) : Host.Outcome State Fault Refusal :=
  .next (s.onAon (fun s => s.mgmtWrite 0x02 pec (fun s => s.powerReq target 1)))

/-- CLEAR: bit 0 releases WAKE_N, bit 1 clears WAKE_FAIL, bit 2 clears BROWNOUT. -/
def State.mgmtClear (s : State) (v : Nat) : State :=
  let s := if bit v 0 then s.wf TM_PWR.WAKE_N_CTRL.ASSERTED 0 else s
  let s := if bit v 1 then s.wf TM_PWR.STATE.WAKE_FAIL 0 else s
  if bit v 2 then s.wf TM_PWR.STATE.BROWNOUT 0 else s

def execMgmtClear (v : Nat) (pec : Bool) (s : State) : Host.Outcome State Fault Refusal :=
  .next (s.onAon (fun s => s.mgmtWrite 0x03 pec (fun s => s.mgmtClear v)))

/-- The register commands are served: ACTIVE, REG_EN, and TM.MC out of reset (R463, R475). -/
def State.mgmtServes (s : State) : Bool := decide (s.pwr = psActive) && s.tmOn && s.rfb TM_MGMT.CFG.REG_EN && !s.inReset 4102

/-- A register command, or its NACK. -/
def State.onMgmtReg (s : State) (f : State → State) : State := s.onAon (fun s => if s.mgmtServes then f s else s.mgmtNack)

def execMgmtRegAddr (off : Nat) (pec : Bool) (s : State) : Host.Outcome State Fault Refusal :=
  .next (s.onMgmtReg (fun s => s.mgmtWrite 0x10 pec (fun s => s.setPw (fun w => { w with regAddr := off % 2 ^ 32 }))))

/-- MGMT_TIMEOUT (R507): a transfer cut by tTIMEOUT. -/
def execMgmtTimeout (s : State) : Host.Outcome State Fault Refusal := .next (s.onAon (fun s => s.mgmtNack))

/-! ### Resets of the device (R412, R449, R473 to R476) -/

/-- POR_N falls. -/
def execPor (s : State) : Host.Outcome State Fault Refusal := .next s.porClear

/-- POR_N rises (R476): WAKING; PWR_EN_OUT within 1 ms, then 20 ms for PWR_GOOD_IN.
(DESIGN CHOICE, log entry 14.) (DEDUCED, log entry 21.) -/
def State.porRelease (s : State) : State :=
  if s.pw.rst ≠ 1 then s
  else
    let s := (s.wf TM_PWR.STATE.STATE psWaking).setPw (fun w =>
      { w with rst := 0, wake := 2, left := 3, fails := 0, cause := 0, pwrEn := true })
    s.arm .wakeStep 0 (21 * cyMs)

def execPorNRelease (s : State) : Host.Outcome State Fault Refusal := .next s.porRelease

/-- A CHIP reset ends: while SYS_RST_N is low the device stays in it (R474); else the cold start runs from the OTP step, after the
rails and the PLLs are there. (DEDUCED, log entry 21.) -/
def State.chipRelease (s : State) : State :=
  if s.pw.sysLow then s.setPw (fun w => { w with rst := 2 })
  else
    let s := (s.wf TM_PWR.STATE.STATE psWaking).setPw (fun w => { w with rst := 0 })
    if s.rfb FE_CLK.STATUS.ROOT_LOCK && s.rfb TM_CLK.STATUS.ROOT_LOCK then s.coldStart
    else s.wakeStep 3 (if s.pw.pwrEn then 2 else 1)

/-- SYS_RST_N is not sampled: in Doldrums, in a wake from it, and before the rails of a cold start are up (R500).
(DEDUCED, log entry 21.) -/
def State.sysBlind (s : State) : Bool := s.inDoldrums || (s.waking && (decide (s.pw.cause = 3) || decide (s.pw.wake ≠ 4)))

/-- CHIP_RESET (R412, R473, R474, R500): SYS_RST_N falls, or the CHIP reset that a reaction asked for takes place.
(DEDUCED, log entry 20.) -/
def State.chipReset (s : State) (pin : Bool) : State :=
  let s := if pin then s.setPw (fun w => { w with sysLow := true }) else s
  if s.pw.rst ≠ 0 then s
  else if pin then (if s.sysBlind then s else s.chipClear true)
  else if s.chipReq then (s.chipClear false).chipRelease
  else s

def execChipReset (pin : Bool) (s : State) : Host.Outcome State Fault Refusal := .next (s.chipReset pin)

/-- SYS_RST_N rises. -/
def State.sysRelease (s : State) : State :=
  let s := s.setPw (fun w => { w with sysLow := false })
  if s.pw.rst = 2 then s.chipRelease else s

def execSysRstNRelease (s : State) : Host.Outcome State Fault Refusal := .next s.sysRelease

/-- RESET_REQ (R489): a write of TM.MC.RESET_REQ. -/
def State.resetReq (s : State) (v : Nat) : State :=
  if s.blockOpen 4102 && bit v 0 && decide (bits v 16 16 = 0xC41B) then (s.chipClear false).chipRelease else s

def execResetReq (v : Nat) (s : State) : Host.Outcome State Fault Refusal := .next (s.onTm (fun s => s.resetReq v))

/-! ### READY (R475 to R477) -/

/-- Helri replays one entry of the fault record (R477): a mapped position is remapped while a spare is left for it, a spare one tested. -/
def State.replayFault (s : State) (n : Nat) : State :=
  let st := n / 132
  if n % 132 < 128 then
    let waits := ((s.stripRec st).remaps.filter (fun m => !m.active && !m.done)).length
    if s.cellState n = csMapped && waits < (s.cellsIn st csSpare).length then s.fenceMapped n 5 none none else s
  else if s.cellState n = csSpare then
    let s := s.setCell n csTesting
    let s : State := { s with ca := { s.ca with tests := s.ca.tests ++ [(⟨n, csSpare, none⟩ : CellTest)] } }
    s.arm .cellTest n cyMs
  else s

/-- The end of a cold start: GDDR7 into service, the remaining pages, the fault record, ACTIVE. -/
def State.coldReady (s : State) : State :=
  let s := if s.ddrObstacle.isNone then s.ddrEnable else s
  let s : State := enableRest.foldl (fun s P => s.pageEnable P true) s
  let s : State := s.flash.faults.foldl (fun s n => s.replayFault n) s
  s.reachActive

/-- HELRI_READY (R475, R476): INIT_STAGE READY, TM.MC leaves reset, MC_RESTARTED. A cold start waits for the training of GDDR7.
(DEDUCED, log entry 21.) -/
def State.helriReady (s : State) : State :=
  let cold := decide (s.pw.wake = 4) && decide (s.pw.left = 3)
  if !s.inReset 4102 || s.rf TM_SEC.BOOT.STATE ≠ 1 || s.mc.halted ||
      (cold && (List.range 16).any (fun c => decide (s.dmcState c = dmcTraining))) then s
  else
    let slot := s.rf TM_SEC.BOOT.BOOTED_SLOT
    let ms := (s.cycle - s.mc.resetAt) / cyMs
    let s := (s.wf TM_MC.STATUS.INIT_STAGE 2).updHdr 4102 (fun h => { h with inReset := false })
    let s := (s.countLater 4102).raise Ev.TM_MC.MC_RESTARTED 0 (s.rf TM_MC.STATUS.RESET_CAUSE) slot ms
    if cold then s.coldReady
    else if s.pwr = psActive && s.pw.entry = 0 then s.startPending
    else s

def execHelriReady (s : State) : Host.Outcome State Fault Refusal := .next (s.onTm (fun s => s.helriReady))

end Sys2Proof.Machine
end

