-- ==== Sys2Proof/Machine/Security.lean ====
section
/-! DEFINITION. Provisioning records and quotes (R436 to R441), the JTAG port, debug unlock (R442 to R445). -/

namespace Sys2Proof.Machine

/-! ### Keys and lifecycle (R430, R436) -/

def lcManufacture : Nat := 0
def lcDeployed : Nat := 1
def lcReturned : Nat := 2
def lcRetired : Nat := 3

/-- Owner slot `k` (1 to 4) is in a state: 0 EMPTY, 1 VALID, 2 REVOKED. -/
def Otp.slotIs (o : Otp) (k v : Nat) : Bool :=
  decide (1 ≤ k) && ((o.slots[k - 1]?).map (fun x => decide (x.st = v))).getD false

/-- The owner slots that are VALID. -/
def Otp.valid (o : Otp) : List Nat := [1, 2, 3, 4].filter (fun k => o.slotIs k 1)

/-- The public key a signer byte names: 0 vendor, 1 to 4 an owner slot. -/
def Otp.key (o : Otp) (k : Nat) : Bytes :=
  if k = 0 then Config.vendorKey else ((o.slots[k - 1]?).map (·.key)).getD []

/-- The key may unlock a level (R436). -/
def Otp.mayUnlock (o : Otp) (key level : Nat) : Bool :=
  if level = 1 then
    if o.lifecycle = lcDeployed then o.slotIs key 1 || (decide (key = 0) && !o.ownerOnly)
    else decide (key = 0) && decide (o.lifecycle ≠ lcRetired)
  else if level = 2 then decide (key = 0) && (decide (o.lifecycle = lcManufacture) || decide (o.lifecycle = lcReturned))
  else false

/-! ### Provisioning records (R437 to R440) -/

def opAddOwner : Nat := 1
def opRevokeOwner : Nat := 2
def opLifecycle : Nat := 3
def opAdvanceSvn : Nat := 4
def opOwnerOnly : Nat := 5

/-- OP, SLOT and ARG of a KEY_PROVISION command (R439). -/
def Cmd.kpOp (c : Cmd) : Nat := c.bits 128 4
def Cmd.kpSlot (c : Cmd) : Nat := c.bits 132 3
def Cmd.kpArg (c : Cmd) : Nat := c.bits 136 16

/-- The record is well formed and names this command and device (R440, first check). -/
def State.recordOk (s : State) (c : Cmd) (b : Bytes) : Bool :=
  decide (c.bits 256 32 = 320) && decide (le32 b 0 = 0x5652504B) && decide (byteAt b 4 = c.kpOp) &&
    decide (byteAt b 5 = c.kpSlot) && decide (leAt b 6 2 = c.kpArg) && decide (le64 b 8 = s.otp.deviceId) &&
    ((b.drop 99).take 29).all (fun x => decide (x = 0)) && (decide (c.kpOp = opAddOwner) || ((b.drop 48).take 49).all (fun x => decide (x = 0)))

/-- PROV_NONCE as bytes (R446). -/
def State.provNonce (s : State) : Bytes := (List.range 8).flatMap (fun k => toLe 4 (s.rfi TM_SEC.PROV_NONCE.NONCE k))

/-- The lifecycle transition exists (R437). -/
def transition (a b : Nat) : Bool :=
  [(lcManufacture, lcDeployed), (lcManufacture, lcRetired), (lcDeployed, lcReturned), (lcDeployed, lcRetired), (lcReturned, lcRetired)].contains (a, b)

/-- A signer that an operation accepts in the present state (R437, R439). (DEDUCED, log entry 21.) -/
def Otp.accepts (o : Otp) (op arg k : Nat) : Bool :=
  let owner := o.slotIs k 1
  let vendor := decide (k = 0)
  if op = opAddOwner then
    if o.lifecycle = lcManufacture then vendor else owner || (vendor && o.valid.isEmpty)
  else if op = opRevokeOwner then owner
  else if op = opLifecycle then
    if o.lifecycle = lcRetired then false
    else if o.lifecycle = lcDeployed then
      if arg % 4 = lcRetired then owner || (vendor && !o.ownerOnly) else owner || vendor
    else vendor
  else if op = opAdvanceSvn then owner || (vendor && !o.ownerOnly)
  else if op = opOwnerOnly then owner
  else false

/-- Both signer bytes are accepted; the return of a device takes the vendor and, while a slot is VALID, an owner. -/
def Otp.signersOk (o : Otp) (op arg k1 k2 : Nat) : Bool :=
  let one := o.accepts op arg k1 && (decide (k2 = 0xFF) || o.accepts op arg k2)
  if op = opLifecycle && o.lifecycle = lcDeployed && arg % 4 = lcReturned then
    decide (k1 = 0) && (if o.valid.isEmpty then decide (k2 = 0xFF) || decide (k2 = 0) else o.slotIs k2 1)
  else one

/-- The signatures of a record verify. -/
def Otp.signed (o : Otp) (b : Bytes) : Bool :=
  let d := Config.sha384 (b.take 128)
  let k2 := byteAt b 98
  Config.verifies (o.key (byteAt b 97)) d ((b.drop 128).take 96) &&
    (decide (k2 = 0xFF) || Config.verifies (o.key k2) d ((b.drop 224).take 96))

/-- The new value of ADVANCE_SVN is allowed (R440, last check). (DEDUCED, log entry 21.) -/
def State.svnOk (s : State) (arg : Nat) : Bool :=
  let v := bits arg 8 8
  if arg % 256 = 0 then decide (s.otp.helriSvn < v) && decide (v ≤ s.rf TM_SEC.BOOT.IMAGE_SVN)
  else if arg % 256 = 1 then
    decide (s.otp.almSvn < v) && (s.noEpoch || decide (v ≤ s.rf TM_ALM.ACTIVE_BUILD.SEQ / 2 ^ 24))
  else false

/-- The first check of R440 that a record fails: STATUS and DETAIL. -/
def State.kpCheck (s : State) (c : Cmd) (b : Bytes) : Option (Nat × Nat) :=
  let o := s.otp
  let op := c.kpOp
  let normal := decide (o.lifecycle = lcManufacture) || decide (o.lifecycle = lcDeployed)
  if !s.recordOk c b then some (stInvalid, 21)
  else if (b.drop 16).take 32 ≠ s.provNonce then some (stInvalid, 22)
  else if !(1 ≤ op && op ≤ 5 && (normal || op = opLifecycle)) then some (stDenied, 3)
  else if !o.signersOk op c.kpArg (byteAt b 97) (byteAt b 98) then some (stDenied, 2)
  else if !o.signed b then some (stDenied, 1)
  else if op = opAddOwner && !o.slotIs c.kpSlot 0 then some (stInvalid, 23)
  else if op = opRevokeOwner && !(o.slotIs c.kpSlot 1 && decide (2 ≤ o.valid.length)) then some (stInvalid, 23)
  else if op = opLifecycle && !transition o.lifecycle (c.kpArg % 4) then some (stInvalid, 24)
  else if op = opAdvanceSvn && !s.svnOk c.kpArg then some (stInvalid, 25)
  else none

/-- OTP takes a change. (DEDUCED, log entry 15.) -/
def State.burn (s : State) (f : Otp → Otp) : State := ({ s with otp := f s.otp } : State).showOtp

/-- An owner slot takes a content. -/
def Otp.setSlot (o : Otp) (k : Nat) (x : OwnerSlot) : Otp := { o with slots := listSet o.slots (k - 1) x }

/-- The one command the management controller is at work on (R440): it executes ATTEST_QUOTE and KEY_PROVISION one at a time, in order. -/
def State.mcTurn (s : State) (id : Nat) : Bool :=
  decide ((s.hc.cmds.find? (fun c => (decide (c.opcode = 0x60) || decide (c.opcode = 0x61)) &&
    (decide (c.phase = .begun) || s.mayStart c))).map (·.id) = some id)

/-- What the registers show of OTP that reads new while an erase of R438 is unfinished: the lifecycle word is burned, the slots and ERASED are not.
(DEDUCED, log entry 15.) -/
def Otp.torn (old new : Otp) : Otp := if new.erased then { new with slots := old.slots, erased := old.erased } else new

/-- A burn that something stops after `copies` of the three copies of its words (R432, R438, R440): two copies read as the new value,
fewer as the old one; `after` is what else the change does once OTP reads new. The command stays in execution until a reset aborts it. What
is left of an erase the boot ROM does before Helri runs, so nothing but the registers of TM.SEC ever tells it from a whole one.
(DESIGN CHOICE, log entry 15.) -/
def State.stopBurn (s : State) (id copies : Nat) (f : Otp → Otp) (after : State → State) : State :=
  let s := s.begin id
  if copies < 2 then s
  else
    let old := s.otp
    let new := f old
    after { ({ s with otp := old.torn new } : State).showOtp with otp := new }

/-- A KEY_PROVISION of an operation is executed: the record is read, checked, and the change `f` burned, of which `copies` copies are done
when the step ends; whole, `after` and the completion follow, and a fresh nonce (R440). -/
def State.keyProvision (s : State) (id : Nat) (mine : Nat → Bool) (record : ReadResult) (copies : Nat) (f : Cmd → Bytes → Otp → Otp)
    (after : Cmd → Bytes → Otp → State → State) : State :=
  match s.startable id (fun o => decide (o = 0x61)) with
  | none => s
  | some c =>
    if !mine c.kpOp || s.mc.halted || !s.mcTurn id then s
    else if c.bits 256 32 ≠ 320 then (s.finishR id stInvalid 21 0).freshNonce
    else
      let s := s.emit (.hostRead (c.bits 192 64) 320)
      match record with
      | .fail => (s.finishR id stInvalid 26 0).freshNonce
      | .data d =>
        let b := d.take 320
        match s.kpCheck c b with
        | some (st, det) => (s.finishR id st det 0).freshNonce
        | none =>
          let after := after c b s.otp
          if copies < 3 then s.stopBurn id copies (f c b) after
          else ((after (s.burn (f c b))).finishR id stOK 0 0).freshNonce

/-- ADD_OWNER, and commands whose OP names no operation, which fail their checks. -/
def execAddOwner (id : Nat) (record : ReadResult) (s : State) (copies : Nat := 3) : Host.Outcome State Fault Refusal :=
  .next (s.onTm (fun s => s.keyProvision id (fun op => decide (op = opAddOwner) || decide (op = 0) || decide (5 < op)) record copies
    (fun c b o => o.setSlot c.kpSlot ⟨1, (b.drop 48).take 49⟩) (fun _ _ _ s => s)))

/-- A slot's key is kept when it is revoked. -/
def Otp.revoke (o : Otp) (k : Nat) : Otp :=
  match o.slots[k - 1]? with
  | some x => o.setSlot k { x with st := 2 }
  | none => o

def execRevokeOwner (id : Nat) (record : ReadResult) (s : State) (copies : Nat := 3) : Host.Outcome State Fault Refusal :=
  .next (s.onTm (fun s => s.keyProvision id (fun op => decide (op = opRevokeOwner)) record copies (fun c _ o => o.revoke c.kpSlot) (fun _ _ _ s => s)))

/-- The erase of R438: every bit of the owner slots is 1. -/
def Otp.erase (o : Otp) : Otp := { o with slots := List.replicate 4 ⟨3, List.replicate 49 0xFF⟩, erased := true }

/-- OTP after a lifecycle transition (R437, R438). -/
def Otp.enter (o : Otp) (new : Nat) : Otp :=
  let o := { o with lifecycle := new }
  if new = lcRetired then o.erase
  else if new = lcReturned then o.valid.foldl (fun o k => o.revoke k) o
  else o

/-- What a lifecycle transition from `old` does besides its burn (R437): it ends a debug unlock and raises its event. -/
def State.lifecycle (s : State) (old new signers : Nat) : State :=
  s.endUnlock.raise Ev.TM_SEC.LIFECYCLE_CHANGED 0 new signers old

def execLifecycle (id : Nat) (record : ReadResult) (s : State) (copies : Nat := 3) : Host.Outcome State Fault Refusal :=
  .next (s.onTm (fun s => s.keyProvision id (fun op => decide (op = opLifecycle)) record copies (fun c _ o => o.enter (c.kpArg % 4))
    (fun c b o s => s.lifecycle o.lifecycle (c.kpArg % 4) (byteAt b 97 + byteAt b 98 * 256))))

/-- OTP after ADVANCE_SVN (R435, R439). -/
def Otp.advance (o : Otp) (arg : Nat) : Otp := if arg % 256 = 0 then { o with helriSvn := bits arg 8 8 } else { o with almSvn := bits arg 8 8 }

def execAdvanceSvn (id : Nat) (record : ReadResult) (s : State) (copies : Nat := 3) : Host.Outcome State Fault Refusal :=
  .next (s.onTm (fun s => s.keyProvision id (fun op => decide (op = opAdvanceSvn)) record copies (fun c _ o => o.advance c.kpArg) (fun _ _ _ s => s)))

def execOwnerOnly (id : Nat) (record : ReadResult) (s : State) (copies : Nat := 3) : Host.Outcome State Fault Refusal :=
  .next (s.onTm (fun s => s.keyProvision id (fun op => decide (op = opOwnerOnly)) record copies (fun _ _ o => { o with ownerOnly := true })
    (fun _ _ _ s => s)))

/-! ### Quotes (R441) -/

/-- Bytes 0 to 191 of the quote. -/
def State.quoteBody (s : State) (nonce : Nat) : Bytes :=
  let o := s.otp
  let words := fun (f : Fld) => (List.range 12).flatMap (fun k => toLe 4 (s.rfi f k))
  toLe 4 0x544F5551 ++ toLe 2 1 ++ toLe 1 o.lifecycle ++ toLe 1 (s.rf TM_SEC.DEBUG.LEVEL) ++ toLe 8 o.deviceId ++
    toLe 4 (s.rf TM_EPOCH.EPOCH_SEQ.SEQ) ++ toLe 1 o.helriSvn ++ toLe 1 o.almSvn ++
    toLe 1 (s.rf TM_SEC.BOOT.BOOTED_SLOT + s.rf TM_SEC.BOOT.FALLBACK * 2) ++ toLe 1 (o.slotBits 1 + o.slotBits 2 * 16) ++
    toBe 6 s.timeSec ++ toBe 4 s.timeNs ++ List.replicate 14 0 ++ words TM_SEC.HELRI_MEAS.MEAS ++
    (if s.noEpoch then List.replicate 48 0 else words TM_ALM.ACTIVE_DIGEST.DIGEST) ++ toLe 32 nonce ++ List.replicate 16 0

/-- A signature in its 96 bytes. -/
def sigBytes (d : BitVec 384) : Bytes := (Config.deviceSign d ++ List.replicate 96 0).take 96

/-- ATTEST_QUOTE (R441). -/
def State.attestQuote (s : State) (id : Nat) : State :=
  match s.startable id (fun o => decide (o = 0x60)) with
  | none => s
  | some c =>
    if s.mc.halted || !s.mcTurn id then s
    else if s.otp.lifecycle = lcRetired then s.finishR id stDenied 3 0
    else
      let chain := if c.bits 480 1 = 1 && !s.rfb TM_SEC.LIFECYCLE.CHAIN_BAD then toLe 4 Config.certChain.length ++ Config.certChain else []
      let need := 288 + chain.length
      if c.bits 448 32 < need then s.finishR id stInvalid 21 need
      else
        let body := s.quoteBody (c.bits 128 256)
        s.finish id stOK 0 need [(c.bits 384 64 / 64 * 64, body ++ sigBytes (Config.sha384 body) ++ chain)]

def execAttestQuote (id : Nat) (s : State) : Host.Outcome State Fault Refusal := .next (s.onTm (fun s => s.attestQuote id))

/-! ### JTAG (R442 to R445) -/

def State.setJt (s : State) (f : Jtag → Jtag) : State := { s with jt := f s.jt }

/-- The TAP answers: POR_N is high. -/
def State.onTap (s : State) (f : State → State) : State := if s.pw.rst = 1 then s else f s

/-- The instruction register takes a code; EXTEST's drive ends with another instruction. -/
def State.jtagIr (s : State) (code : Nat) : State := s.setJt (fun j => { j with ir := code % 256, extest := decide (code % 256 = 0) && j.extest })

/-- The level an instruction asks for: none for codes the table does not list, and 0 for those of every level. -/
def jtagLevel (code : Nat) : Option Nat :=
  if [0x01, 0xFF, 0x10, 0x11, 0x12].contains code then some 0
  else if [0x02, 0x20].contains code then some 1
  else if [0x00, 0x21, 0x22, 0x23].contains code then some 2
  else none

/-- The device is in ACTIVE with its TM die running. -/
def State.fullyActive (s : State) : Bool := decide (s.pwr = psActive) && s.tmOn

/-- The instruction may act (R442, R445). -/
def State.jtagAllows (s : State) (code : Nat) : Bool :=
  if code = 0x01 || code = 0xFF then true
  else match jtagLevel code with
    | some l => s.fullyActive && decide (l ≤ s.rf TM_SEC.DEBUG.LEVEL)
    | none => false

/-- The BYPASS register: one bit, 0. -/
def State.bypass (s : State) : State := s.emit (.tdo [0])

/-- An instruction: what it does when allowed, else BYPASS, counted in DBG_DENIED. -/
def State.jtag (s : State) (code : Nat) (f : State → State) : State :=
  s.onTap (fun s =>
    let s := s.jtagIr code
    if s.jtagAllows code then f s else s.bypass.sat1 TM_SEC.DBG_DENIED.COUNT)

def execJtagIdcode (s : State) : Host.Outcome State Fault Refusal := .next (s.jtag 0x01 (fun s => s.emit (.tdo (toLe 4 0xB51203D7))))

/-- JTAG_BYPASS: an instruction register that holds BYPASS, a code the table does not list, or an instruction the level refuses.
(DEDUCED, log entry 21.) -/
def State.jtagBypass (s : State) (code : Nat) : State :=
  s.onTap (fun s =>
    let c := code % 256
    if c = 0xFF || jtagLevel c = none then (s.jtagIr c).bypass
    else if s.jtagAllows c then s
    else ((s.jtagIr c).bypass).sat1 TM_SEC.DBG_DENIED.COUNT)

def execJtagBypass (code : Nat) (s : State) : Host.Outcome State Fault Refusal := .next (s.jtagBypass code)

/-- JTAG_TAP_RESET: the TAP is reset, the level not. -/
def execJtagTapReset (s : State) : Host.Outcome State Fault Refusal :=
  .next (s.onTap (fun s => s.setJt (fun j => { j with ir := 1, extest := false })))

/-- SEC_CHALLENGE (R443): a new challenge replaces an earlier one. -/
def State.secChallenge (s : State) : State :=
  let (r, s) := s.random
  let b : Bytes := toLe 32 r ++ toLe 8 s.otp.deviceId ++ toLe 1 s.otp.lifecycle ++ toLe 1 (s.rf TM_SEC.DEBUG.LEVEL) ++ List.replicate 22 0
  (s.setJt (fun j => { j with challenge := some (b, s.cycle) })).emit (.tdo b)

def execSecChallenge (s : State) : Host.Outcome State Fault Refusal := .next (s.jtag 0x10 (fun s => s.secChallenge))

/-- The response is accepted (R443 step 3). -/
def State.responseOk (s : State) (b : Bytes) : Bool :=
  match s.jt.challenge with
  | none => false
  | some (c, at_) =>
    let key := byteAt b 1
    decide (s.cycle < at_ + 60 * cySec) && !s.armed .lockout 0 && decide (s.pw.entry = 0) && s.otp.mayUnlock key (byteAt b 0) &&
      Config.verifies (s.otp.key key) (Config.sha384 (c ++ b.take 8)) ((b.drop 8).take 96)

/-- SEC_RESPONSE (R443). (DEDUCED, log entry 21.) -/
def State.secResponse (s : State) (b : Bytes) : State :=
  let ok := s.responseOk b
  let level := byteAt b 0
  let key := byteAt b 1
  let s := s.setJt (fun j => { j with challenge := none })
  if ok then
    let m := leAt b 2 2
    let s := s.setJt (fun j => { j with fails := 0 })
    let s := ((s.wf TM_SEC.DEBUG.LEVEL level).wf TM_SEC.DEBUG.KEY key).wf TM_SEC.DEBUG.MIN_LEFT (if m = 0 then 0xFFFF else m)
    let s := if m = 0 then s.disarm .unlock 0 else s.arm .unlock 0 (m * 60 * cySec)
    s.raise Ev.TM_SEC.DEBUG_UNLOCKED 0 level m key
  else
    let n := s.jt.fails + 1
    let s := s.setJt (fun j => { j with fails := n })
    let s := if 4 ≤ n && !s.armed .lockout 0 then s.arm .lockout 0 (60 * cySec) else s
    (s.sat1 TM_SEC.UNLOCK_FAIL.COUNT).raise Ev.TM_SEC.UNLOCK_FAIL 0 0 n key

def execSecResponse (resp : Bytes) (s : State) : Host.Outcome State Fault Refusal := .next (s.jtag 0x11 (fun s => s.secResponse resp))

/-- MIN_LEFT now: minutes begun that are left, 0xFFFF without a limit. -/
def State.minLeft (s : State) : Nat :=
  match s.timerAt .unlock 0 with
  | some d => ceilDiv (d - s.cycle) (60 * cySec)
  | none => s.rf TM_SEC.DEBUG.MIN_LEFT

/-- TM.SEC.DEBUG as one number. -/
def State.debugWord (s : State) : Nat := s.rf TM_SEC.DEBUG.LEVEL + s.rf TM_SEC.DEBUG.KEY * 256 + s.minLeft * 65536

def execSecStatus (s : State) : Host.Outcome State Fault Refusal := .next (s.jtag 0x12 (fun s => s.emit (.tdo (toLe 4 s.debugWord))))

/-- SAMPLE/PRELOAD: the pins are sampled, and the boundary-scan register is loaded. -/
def execSamplePreload (pins load : Bytes) (s : State) : Host.Outcome State Fault Refusal :=
  .next (s.jtag 0x02 (fun s => (s.setJt (fun j => { j with scan := load })).emit (.tdo pins)))

/-- EXTEST: the pins are captured, and driven from the boundary-scan register. -/
def execExtest (pins load : Bytes) (s : State) : Host.Outcome State Fault Refusal :=
  .next (s.jtag 0x00 (fun s => (s.setJt (fun j => { j with scan := load, extest := true })).emit (.tdo pins)))

/-- MEM_ACCESS (R442): a word of the management controller's SRAM of 4 MiB (R2), or of a line of table SRAM; the spec gives other arrays no address
form: their reads are open, and a write of them shows nowhere. A line's word is written in the strips of its direction alike.
(DEDUCED, log entry 21.) (DEDUCED, log entry 25.) -/
def State.memAccess (s : State) (m : MemRef) (write : Option Nat) : State :=
  match m, write with
  | .mc a, some v => if a < 2 ^ 20 then { s with mc := { s.mc with sram := SMap.put 0 s.mc.sram a (v % 2 ^ 32 + 1) } } else s
  | .mc a, none =>
    let k := SMap.get 0 s.mc.sram a
    if k = 0 then
      let (v, s) := s.freeVal
      s.emit (.tdo (toLe 4 v))
    else s.emit (.tdo (toLe 4 (k - 1)))
  | .table dir pos line w, some v =>
    if dir < 2 && pos < 128 && line < 49152 && w < 8 then s.writeLine dir pos line (32 * w) 32 v else s
  | .table dir pos line w, none =>
    if dir < 2 && pos < 128 && line < 49152 && w < 8 then s.emit (.tdo (toLe 4 (bits (s.line dir pos line) (32 * w) 32)))
    else
      let (v, s) := s.freeVal
      s.emit (.tdo (toLe 4 v))
  | .other _, some _ => s
  | .other _, none =>
    let (v, s) := s.freeVal
    s.emit (.tdo (toLe 4 v))

def execMemAccess (mem : MemRef) (write : Option Nat) (s : State) : Host.Outcome State Fault Refusal :=
  .next (s.jtag 0x22 (fun s => s.memAccess mem write))

/-- MC_DEBUG: the management controller halts, steps or resumes. -/
def execMcDebug (op : McOp) (s : State) : Host.Outcome State Fault Refusal :=
  .next (s.jtag 0x23 (fun s =>
    { s with mc := { s.mc with halted := match op with
      | .halt => true
      | .step => s.mc.halted
      | .resume => false } }))

/-- DEBUG_UNLOCK_EXPIRE (R444): MINUTES are over. -/
def execDebugUnlockExpire (s : State) : Host.Outcome State Fault Refusal :=
  .next (s.onTm (fun s => match s.expire .unlock 0 with
    | some s => s.endUnlock
    | none => s))

/-- DEBUG_RELOCK (R444): a write of DEBUG.RELOCK. -/
def execDebugRelock (s : State) : Host.Outcome State Fault Refusal :=
  .next (s.onTm (fun s => if s.blockOpen 4101 then s.endUnlock else s))

/-- UNLOCK_LOCKOUT_EXPIRE (R443): the 60 s are over. -/
def execUnlockLockoutExpire (s : State) : Host.Outcome State Fault Refusal :=
  .next (s.onTm (fun s => (s.expire .lockout 0).getD s))

end Sys2Proof.Machine
end

