-- ==== Sys2Proof/Machine/Therm.lean ====
section
/-! DEFINITION. Canaries, the adaptive-voltage loop, temperature and the life record (R483 to R487). -/

namespace Sys2Proof.Machine

def State.setTh (s : State) (f : Therm → Therm) : State := { s with th := f s.th }

/-- Each die's THERM registers that both have: MARGIN_PS and INDEX of CANARY_MIN, EXCLUDED, and the TEMP fields. -/
structure ThermFlds where
  min : Fld
  minIdx : Fld
  excl : Fld
  now : Fld
  max : Fld
  warn : Fld
  trip : Fld
  warnEvt : Evt
  tripEvt : Evt

/-- The THERM registers of a die. -/
def thermFlds (tm : Bool) : ThermFlds :=
  if tm then ⟨TM_THERM.CANARY_MIN.MARGIN_PS, TM_THERM.CANARY_MIN.INDEX, TM_THERM.EXCLUDED.COUNT, TM_THERM.TEMP.NOW,
    TM_THERM.TEMP.MAX, TM_THERM.TEMP.WARN_C, TM_THERM.TRIP.ASSERTED, Ev.TM_THERM.TEMP_WARN, Ev.TM_THERM.THERM_TRIP⟩
  else ⟨FE_THERM.CANARY_MIN.MARGIN_PS, FE_THERM.CANARY_MIN.INDEX, FE_THERM.EXCLUDED.COUNT, FE_THERM.TEMP.NOW,
    FE_THERM.TEMP.MAX, FE_THERM.TEMP.WARN_C, FE_THERM.TRIP.ASSERTED, Ev.FE_THERM.TEMP_WARN, Ev.FE_THERM.THERM_TRIP⟩

/-! ### Canaries (R483) -/

/-- The latest margin of canary `k` (die * 64 + index), as 16 bits. -/
def State.margin (s : State) (k : Nat) : Nat := SMap.get 0 s.th.margins k

/-- The canary is excluded. -/
def State.canaryOut (s : State) (k : Nat) : Bool := s.th.excluded.contains k

/-- The canaries of a die that are not excluded. -/
def State.canaries (s : State) (tm : Bool) : List Nat := ((List.range 64).map (fun i => b2n tm * 64 + i)).filter (fun k => !s.canaryOut k)

/-- The canary with the smallest margin of a list, the first on equal ones. -/
def State.lowest (s : State) (ks : List Nat) : Option Nat :=
  ks.foldl (fun (a : Option Nat) k => match a with
    | none => some k
    | some b => if toSigned 16 (s.margin k) < toSigned 16 (s.margin b) then some k else some b) none

/-- AVS_FAULT with TARGET and READBACK. -/
def State.avsFault (s : State) (cause : Nat) : State :=
  s.raise Ev.TM_THERM.AVS_FAULT 0 cause (s.rf TM_THERM.AVS_STATE.TARGET) (s.rf TM_THERM.AVS_STATE.READBACK)

/-- A canary is excluded until CHIP reset. -/
def State.exclude (s : State) (k : Nat) : State :=
  let tm := decide (64 ≤ k)
  let s := s.setTh (fun t => { t with excluded := t.excluded ++ [k] })
  let s := s.wf (thermFlds tm).excl (s.th.excluded.filter (fun x => decide (decide (64 ≤ x) = tm))).length
  if tm then s.avsFault 2 else s.raise Ev.FE_THERM.CANARY_FAULT 0 0 k (s.margin k)

/-- LOW_PS and HIGH_PS, signed as MARGIN is. -/
def State.lowPs (s : State) : Int := toSigned 16 (s.rf TM_THERM.AVS_MARGIN.LOW_PS)
def State.highPs (s : State) : Int := toSigned 16 (s.rf TM_THERM.AVS_MARGIN.HIGH_PS)

/-- A canary reports its margin. -/
def State.report (s : State) (k m : Nat) : State :=
  let v := m % 2 ^ 16
  let was := SMap.get 0 s.th.margins k
  -- the count of consecutive periods without a change; the first report begins at 1
  let seen := SMap.get 0 s.th.same k
  let n := if seen ≠ 0 && v = was then seen + 1 else 1
  let fell := decide (toSigned 16 v < s.lowPs) && (decide (seen = 0) || decide (s.lowPs ≤ toSigned 16 was))
  let s := s.setTh (fun t => { t with margins := SMap.put 0 t.margins k v, same := SMap.put 0 t.same k n })
  let s := if k < 64 && fell && !s.canaryOut k then s.raise Ev.FE_THERM.CANARY_LOW 0 0 k v else s
  if s.canaryOut k then s
  else if toSigned 16 v < -200 || 500 < toSigned 16 v || 1000 < n then s.exclude k
  else s

/-- CANARY_MIN of a die shows the smallest margin of the canaries in use. -/
def State.showMin (s : State) (tm : Bool) : State :=
  match s.lowest (s.canaries tm) with
  | some k => (s.wf (thermFlds tm).min (s.margin k)).wf (thermFlds tm).minIdx (k % 64)
  | none => s

/-! ### The voltage loop (R484) -/

/-- V_MAX and V_MIN in force. -/
def State.vMax (s : State) : Nat := min (s.rf TM_THERM.AVS_VOLT.V_MAX) 800
def State.vMin (s : State) : Nat := min (max (s.rf TM_THERM.AVS_VOLT.V_MIN) 650) s.vMax

/-- A target is written to the rail and read back; an unacknowledged write keeps the previous target. -/
def State.avsWrite (s : State) (v : Nat) (back : Option Nat) : State :=
  match back with
  | none => s.avsFault 1
  | some r =>
    let steps := v ≠ s.rf TM_THERM.AVS_STATE.TARGET
    let s := (s.emit (.avs v)).wf TM_THERM.AVS_STATE.TARGET v
    let s := (s.wf TM_THERM.AVS_STATE.READBACK r).wf TM_THERM.AVS_STATE.AT_MAX (b2n (decide (v = s.vMax)))
    if steps then s.inc1 TM_THERM.AVS_STEPS.COUNT else s

/-- One pass of the loop; `m` is the smallest margin. -/
def State.avsLoop (s : State) (m : Nat) (back : Option Nat) : State :=
  let v := s.rf TM_THERM.AVS_STATE.TARGET
  let x := toSigned 16 m
  if x < s.lowPs then
    let s := s.setTh (fun t => { t with run := 0 })
    if v < s.vMax then s.avsWrite (min (v + 5) s.vMax) back
    else
      let s := if s.th.exhausted then s
        else (s.setTh (fun t => { t with exhausted := true })).raise Ev.TM_THERM.MARGIN_EXHAUSTED 0 0 m s.vMax
      s.avsWrite v back
  else if s.highPs < x then
    let s := s.setTh (fun t => { t with exhausted := false, run := t.run + 1 })
    if 60 ≤ s.th.run && s.vMin < v then (s.setTh (fun t => { t with run := 0 })).avsWrite (max (v - 5) s.vMin) back
    else s.avsWrite v back
  else (s.setTh (fun t => { t with exhausted := false, run := 0 })).avsWrite v back

/-- AVS_PERIOD (R483, R484): the canaries of both dies report (canary, margin), and the loop runs; `back` is the regulator's readback,
none when the bus fails three times. (DEDUCED, log entry 21.) -/
def State.avsPeriod (s : State) (reports : List (Nat × Nat)) (back : Option Nat) : State :=
  let s : State := reports.foldl (fun s r => if r.1 < 128 then s.report r.1 r.2 else s) s
  let s := (s.showMin false).showMin true
  if !s.rfb TM_THERM.AVS_CTRL.AVS_EN then s
  else if 16 < s.th.excluded.length then s.avsFault 3
  else
    match s.lowest (s.canaries false ++ s.canaries true) with
    | some k => s.avsLoop (s.margin k) back
    | none => s

def execAvsPeriod (reports : List (Nat × Nat)) (back : Option Nat) (s : State) : Host.Outcome State Fault Refusal :=
  .next (s.onTm (fun s => if s.operating 4179 then s.avsPeriod reports back else s))

/-- A write of AVS_CTRL: from AVS_EN 0 to 1, v is START_MV and run is 0. -/
def State.avsCtrl (s : State) (v : Nat) : State :=
  let was := s.rfb TM_THERM.AVS_CTRL.AVS_EN
  let s := (s.wf TM_THERM.AVS_CTRL.AVS_EN v).wf TM_THERM.AVS_CTRL.PERIOD_MS (v / 2 ^ 8)
  if bit v 0 && !was then
    let s := (s.setTh (fun t => { t with run := 0 })).wf TM_THERM.AVS_STATE.TARGET (s.rf TM_THERM.AVS_START.START_MV)
    s.wf TM_THERM.AVS_STATE.AT_MAX (b2n (decide (s.rf TM_THERM.AVS_START.START_MV = s.vMax)))
  else s

/-- AVS_ENABLE (R484): AVS_EN is written 1 with PERIOD_MS as it stands. -/
def execAvsEnable (s : State) : Host.Outcome State Fault Refusal :=
  .next (s.onTm (fun s =>
    let v := 1 + s.rf TM_THERM.AVS_CTRL.PERIOD_MS * 2 ^ 8
    if s.blockOpen 4179 then s.rwlWrite TM_THERM.AVS_CTRL.AVS_EN v 1 (fun s => s.avsCtrl v) else s))

/-! ### Temperature (R485) -/

/-- The hottest sensor of a die reads a temperature: NOW and MAX. -/
def State.tempNow (s : State) (tm : Bool) (t : Nat) : State :=
  let f := thermFlds tm
  let s := s.wf f.now t
  if toSigned 8 (s.rf f.max) < toSigned 8 t then s.wf f.max t else s

/-- TEMP_WARN (R485): the sensors of a die read (sensor, temperature), the hottest first; the warning comes when the hottest passes
WARN_C, and again only after the sensor has fallen 5 degrees below it. -/
def State.tempWarn (s : State) (tm : Bool) (sensors : List (Nat × Nat)) : State :=
  let f := thermFlds tm
  let d := b2n tm
  let warn := toSigned 8 (s.rf f.warn)
  let held := SMap.get 0 s.th.warned d
  let s := if held ≠ 0 && sensors.any (fun e => decide (e.1 + 1 = held) && decide (toSigned 8 e.2 ≤ warn - 5)) then
      s.setTh (fun t => { t with warned := SMap.put 0 t.warned d 0 }) else s
  match sensors with
  | [] => s
  | (k, t) :: _ =>
    let s := s.tempNow tm t
    if warn < toSigned 8 t && SMap.get 0 s.th.warned d = 0 then
      (s.setTh (fun x => { x with warned := SMap.put 0 x.warned d (k + 1) })).raise f.warnEvt 0 0 k (t % 256)
    else s

def execTempWarn (tm : Bool) (sensors : List (Nat × Nat)) (s : State) : Host.Outcome State Fault Refusal :=
  .next (if tm then s.onTm (fun s => s.tempWarn true sensors) else s.onFe (fun s => s.tempWarn false sensors))

/-- THERM_TRIP (R485): a sensor reaches 125 degrees; THERM_TRIP_N stays low until POR. -/
def State.thermTrip (s : State) (tm : Bool) (sensor temp : Nat) : State :=
  if toSigned 8 temp < 125 then s
  else
    let f := thermFlds tm
    ((s.tempNow tm temp).wf f.trip 1).raise f.tripEvt 0 0 sensor (temp % 256)

def execThermTrip (tm : Bool) (sensor temp : Nat) (s : State) : Host.Outcome State Fault Refusal :=
  .next (if tm then s.onTm (fun s => s.thermTrip true sensor temp) else s.onFe (fun s => s.thermTrip false sensor temp))

/-! ### The life record (R484, R487) -/

/-- LIFE_RECORD_UPDATE (R487): an hour later; the average Tj and the thermal cycles are Helri's, v is the loop's.
(DEDUCED, log entry 21.) -/
def State.lifeUpdate (s : State) (tj thermal : Nat) : State :=
  if s.inReset 4102 || s.mc.halted then s
  else
    let v := if s.rfb TM_THERM.AVS_CTRL.AVS_EN then some (s.rf TM_THERM.AVS_STATE.TARGET) else s.flash.volt
    let s : State := { s with flash := { s.flash with
      hours := satAdd 32 s.flash.hours 1, tj := tj % 2 ^ 16, thermal := thermal % 2 ^ 16, volt := v } }
    s.showLife

def execLifeRecordUpdate (tj thermal : Nat) (s : State) : Host.Outcome State Fault Refusal :=
  .next (s.onTm (fun s => s.lifeUpdate tj thermal))

end Sys2Proof.Machine
end

