-- ==== Sys2Proof/Machine/Time.lean ====
section
/-! DEFINITION. Clock faults (R449, R450) and device time: adjustments, PPS and the time-of-day UART (R451 to R455). -/

namespace Sys2Proof.Machine

/-! ### Clocks -/

/-- PLL_UNLOCK (R450): the root PLL of a die loses lock, and its clocks stop. -/
def State.pllUnlock (s : State) (tm : Bool) : State :=
  if tm then (s.raise Ev.TM_CLK.PLL_UNLOCK 0 0 0 0).wf TM_CLK.STATUS.ROOT_LOCK 0
  else (s.raise Ev.FE_CLK.PLL_UNLOCK 0 0 0 0).wf FE_CLK.STATUS.ROOT_LOCK 0

def execPllUnlock (tm : Bool) (s : State) : Host.Outcome State Fault Refusal :=
  .next (if tm then s.onTm (fun s => s.pllUnlock true) else s.onFe (fun s => s.pllUnlock false))

/-- REFCLK_LOSS (R450): REFCLK_CORE has been missing for 10 us. -/
def execRefclkLoss (s : State) : Host.Outcome State Fault Refusal :=
  .next (s.onTm (fun s => (s.wf TM_CLK.STATUS.REFCLK_OK 0).raise Ev.TM_CLK.REFCLK_LOSS 0 0 0 0))

/-- AON_OSC_CHECK (R450): the frequency measured in kHz; the oscillator is a 25 MHz one within 5 %. -/
def State.aonCheck (s : State) (khz : Nat) : State :=
  if s.rf TM_PWR.STATE.STATE ≠ 0 then s
  else
    let k := khz % 65536
    let ok := decide (23750 ≤ k) && decide (k ≤ 26250)
    let s := (s.wf TM_CLK.AON_FREQ.KHZ k).wf TM_CLK.STATUS.AON_OSC_OK (b2n ok)
    if ok then s else s.raise Ev.TM_CLK.AON_OSC_FAULT 0 0 k 0

def execAonOscCheck (khz : Nat) (s : State) : Host.Outcome State Fault Refusal := .next (s.onTm (fun s => s.aonCheck khz))

/-- CYCLE_CHECK_MARKER (R449): the next marker of the TM reaches the FE, whose counter stands at `fe` then. -/
def State.cycleMarker (s : State) (fe : Nat) : State :=
  let s := s.advanceTo ((s.cycle / 2 ^ 20 + 1) * 2 ^ 20)
  if fe % 2 ^ 64 = s.cycle then s.wf FE_CLK.STATUS.CYCLE_SYNC 1
  else
    let s := (s.wf FE_CLK.STATUS.CYCLE_SYNC 0).sat1 FE_CLK.SKEW_CNT.COUNT
    s.raise Ev.FE_CLK.CYCLE_SKEW 0 0 (fe % 2 ^ 32) (s.cycle % 2 ^ 32)

def execCycleCheckMarker (fe : Nat) (s : State) : Host.Outcome State Fault Refusal :=
  .next (s.onTm (fun s => s.onFe (fun s => s.cycleMarker fe)))

/-! ### Adjustments (R451, R452) -/

/-- A write of a FE.PTP register. -/
def State.onPtp (s : State) (f : State → State) : State := s.onFe (fun s => if s.blockOpen 76 then f s else s)

/-- An adjustment waits for its TICK T. -/
def State.adjust (s : State) (a : TimeAdj) : State :=
  ({ s with ptp := { s.ptp with adjs := s.ptp.adjs ++ [(s.tickAhead, a)] } } : State).wf FE_PTP.TIME_CTRL.BUSY 1

/-- TIME_STEP_WRITE (R452, R468): a write of 1 to STEP, discarded while BUSY. -/
def State.timeStep (s : State) : State :=
  if s.rfb FE_PTP.TIME_CTRL.BUSY then s
  else
    s.adjust (.step (s.rf FE_PTP.SET_SEC_HI.SEC * 2 ^ 32 + s.rf FE_PTP.SET_SEC_LO.SEC) (min (s.rf FE_PTP.SET_NS.NS) 999999999))

def execTimeStepWrite (s : State) : Host.Outcome State Fault Refusal := .next (s.onPtp (fun s => s.timeStep))

/-- TIME_OFFSET_WRITE (R452): a write of 1 to OFFSET, discarded while BUSY. -/
def State.timeOffset (s : State) : State :=
  if s.rfb FE_PTP.TIME_CTRL.BUSY then s else s.adjust (.offset (s.rf FE_PTP.OFFSET_NS.NS))

def execTimeOffsetWrite (s : State) : Host.Outcome State Fault Refusal := .next (s.onPtp (fun s => s.timeOffset))

/-- The addend in force for a written one (R451). -/
def clampAddend (v : Nat) : Nat := max (2 ^ 32) (min v (3 * 2 ^ 31))

/-- ADDEND_WRITE (R452): a write of ADDEND_NS applies both parts at T. -/
def State.addendWrite (s : State) (v : Nat) : State :=
  let s := s.wf FE_PTP.ADDEND_NS.NS v
  s.adjust (.addend (v % 2 * 2 ^ 32 + s.rf FE_PTP.ADDEND_FRAC.FRAC))

def execAddendWrite (v : Nat) (s : State) : Host.Outcome State Fault Refusal := .next (s.onPtp (fun s => s.addendWrite v))

/-- A signed number saturated to 32 bits, as its bits. -/
def sat32 (x : Int) : Nat := ofSigned 32 (max (-2147483648) (min x 2147483647))

/-- Device time changes by a step or offset, with its event (R452). -/
def State.setTime (s : State) (t : Nat) : State :=
  let d := ((t : Int) - (s.time : Int)) / (2 ^ 32 : Int)
  let s : State := ({ s with time := t } : State).gateCatchUp
  s.raise Ev.FE_PTP.TIME_STEP 0 0 (sat32 d) 0

/-- One adjustment takes effect, whose TICK lies at core cycle `t`, not after now. -/
def State.adjApply (s : State) (t : Nat) (a : TimeAdj) : State :=
  let since := (s.cycle / 2 - t / 2) * s.addend
  match a with
  | .step sec ns => (s.setTime ((sec * 1000000000 + ns) * 2 ^ 32 + since)).wf FE_PTP.TIME_CTRL.TIME_VALID 1
  | .offset ns => s.setTime (((s.time : Int) - (since : Int) + toSigned 32 ns * 2 ^ 32).toNat + since)
  | .addend v => { s with addend := clampAddend v }

/-- TIME_ADJUST_APPLY (R452): TICK T of the first adjustment is reached. (DEDUCED, log entry 21.) -/
def State.timeApply (s : State) : State :=
  match s.ptp.adjs with
  | [] => s
  | (t, a) :: rest =>
    let s : State := { (s.advanceTo t) with ptp := { s.ptp with adjs := rest } }
    let s := if rest.isEmpty then s.wf FE_PTP.TIME_CTRL.BUSY 0 else s
    s.adjApply t a

def execTimeAdjustApply (s : State) : Host.Outcome State Fault Refusal := .next (s.onFe (fun s => s.timeApply))

/-! ### PPS (R454) -/

/-- PPS_OUT_EDGE: the nanoseconds carry into the next second. -/
def State.ppsOut (s : State) : State :=
  if !s.rfb FE_PTP.PPS_CTRL.OUT_EN || !s.timeRun then s
  else
    let s := s.advanceTo (s.cycleOfTime ((s.time / secUnits + 1) * secUnits))
    let s : State := { s with ptp := { s.ptp with ppsOut := true, ppsSec := s.timeSec } }
    let s := s.arm .ppsWidth 0 (orWhenZero (s.rf FE_PTP.PPS_CTRL.WIDTH_MS) 1 * cyMs)
    if s.rfb FE_PTP.TOD_CTRL.TX_EN then s.arm .todSend 0 (s.rf FE_PTP.TOD_CTRL.TX_DELAY_MS * cyMs) else s

def execPpsOutEdge (s : State) : Host.Outcome State Fault Refusal := .next (s.onFe (fun s => s.ppsOut))

/-- PPS_OUT_PULSE_END: WIDTH_MS after its edge. -/
def State.ppsFall (s : State) : State :=
  match s.expire .ppsWidth 0 with
  | none => s
  | some s => { s with ptp := { s.ptp with ppsOut := false } }

def execPpsOutPulseEnd (s : State) : Host.Outcome State Fault Refusal := .next (s.onFe (fun s => s.ppsFall))

/-- 1.1 s in core cycles. -/
def ppsGap : Nat := 1760000000

/-- PPS_IN_EDGE: an edge on PPS_IN; the selected one latches device time less the board delay, or is missed. A capture before the zero of
device time reads 0. (DEDUCED, log entry 21.) -/
def State.ppsIn (s : State) (falling : Bool) : State :=
  if !s.rfb FE_PTP.PPS_CTRL.IN_EN || falling ≠ s.rfb FE_PTP.PPS_CTRL.IN_FALLING then s
  else
    let s := s.arm .ppsMissing 0 ppsGap
    if s.rfb FE_PTP.PPS_CAP_CTRL.VALID then s.sat1 FE_PTP.PPS_CAP_CTRL.MISSED
    else
      let t := s.time - s.rf FE_PTP.PPS_CTRL.IN_DELAY_NS * 2 ^ 32
      let sec := t / secUnits
      let s := (s.wf FE_PTP.PPS_CAP_NS.NS (t / 2 ^ 32 % 1000000000)).wf FE_PTP.PPS_CAP_SEC_LO.SEC sec
      (s.wf FE_PTP.PPS_CAP_SEC_HI.SEC (sec / 2 ^ 32)).wf FE_PTP.PPS_CAP_CTRL.VALID 1

def execPpsInEdge (falling : Bool) (s : State) : Host.Outcome State Fault Refusal := .next (s.onFe (fun s => s.ppsIn falling))

/-- PPS_IN_MISSING: 1.1 s without an edge, raised once until one arrives. -/
def State.ppsMissing (s : State) : State :=
  match s.expire .ppsMissing 0 with
  | none => s
  | some s => if s.rfb FE_PTP.PPS_CTRL.IN_EN then s.raise Ev.FE_PTP.PPS_IN_MISSING 0 0 0 0 else s

def execPpsInMissing (s : State) : Host.Outcome State Fault Refusal := .next (s.onFe (fun s => s.ppsMissing))

def execPpsCapAck (s : State) : Host.Outcome State Fault Refusal := .next (s.onPtp (fun s => s.wf FE_PTP.PPS_CAP_CTRL.VALID 0))

/-- A write of PPS_CTRL: PPS_OUT is driven only while enabled, and the gap of PPS_IN counts from its enable. -/
def State.ppsCtrl (s : State) (v : Nat) : State :=
  let was := s.rfb FE_PTP.PPS_CTRL.IN_EN
  let s := ((s.wf FE_PTP.PPS_CTRL.OUT_EN v).wf FE_PTP.PPS_CTRL.IN_EN (v / 2)).wf FE_PTP.PPS_CTRL.IN_FALLING (v / 4)
  let s := (s.wf FE_PTP.PPS_CTRL.WIDTH_MS (v / 2 ^ 8)).wf FE_PTP.PPS_CTRL.IN_DELAY_NS (v / 2 ^ 16)
  let s : State := if bit v 0 then s else { (s.disarm .ppsWidth 0) with ptp := { s.ptp with ppsOut := false } }
  if !bit v 1 then s.disarm .ppsMissing 0 else if was then s else s.arm .ppsMissing 0 ppsGap

/-! ### The time-of-day UART (R455) -/

/-- CHECK: the XOR of bytes 1 to 14. -/
def todCheck (b : Bytes) : Byte := ((b.drop 1).take 14).foldl (· ^^^ ·) 0

/-- A message to send: the seconds of the edge, and TIME_VALID. -/
def todMessage (sec : Nat) (valid : Bool) : Bytes :=
  let b : Bytes := [0x5A, 0x01] ++ toBe 6 sec ++ [BitVec.ofNat 8 (b2n valid)] ++ List.replicate 6 0
  b ++ [todCheck b]

/-- TOD_TX_SEND: TX_DELAY_MS after an edge of PPS_OUT. -/
def State.todSend (s : State) : State :=
  match s.expire .todSend 0 with
  | none => s
  | some s =>
    if s.rfb FE_PTP.TOD_CTRL.TX_EN then s.emit (.tod (todMessage s.ptp.ppsSec (s.rfb FE_PTP.TIME_CTRL.TIME_VALID))) else s

def execTodTxSend (s : State) : Host.Outcome State Fault Refusal := .next (s.onFe (fun s => s.todSend))

/-- The byte at which a message fails: SYNC, TYPE, CHECK, or the byte where it breaks off. -/
def todFault (b : Bytes) (cut : Option Nat) : Option Nat :=
  match cut with
  | some k => some k
  | none =>
    if byteAt b 0 ≠ 0x5A then some 0
    else if byteAt b 1 ≠ 0x01 then some 1
    else if b.length < 16 then some b.length
    else if byteAt b 15 ≠ (todCheck b).toNat then some 15
    else none

/-- TOD_RX_MESSAGE: a message of 16 bytes; `cut` is the byte of a framing error or behind a gap. (DEDUCED, log entry 21.) -/
def State.todRx (s : State) (b : Bytes) (cut : Option Nat) : State :=
  if !s.rfb FE_PTP.TOD_CTRL.RX_EN then s
  else
    match todFault b cut with
    | some k => (s.sat1 FE_PTP.TOD_ERR.COUNT).raiseO Ev.FE_PTP.TOD_ERR 0 (some 0) (some k) ((b[k]?).map (·.toNat))
    | none =>
      if s.rfb FE_PTP.TOD_RX_CTRL.VALID then s
      else
        let sec := beNat ((b.drop 2).take 6)
        let s := (s.wf FE_PTP.TOD_RX_SEC_LO.SEC sec).wf FE_PTP.TOD_RX_SEC_HI.SEC (sec / 2 ^ 32)
        (s.wf FE_PTP.TOD_RX_SEC_HI.STATUS (byteAt b 8)).wf FE_PTP.TOD_RX_CTRL.VALID 1

def execTodRxMessage (bytes : Bytes) (cut : Option Nat) (s : State) : Host.Outcome State Fault Refusal :=
  .next (s.onFe (fun s => s.todRx bytes cut))

def execTodRxAck (s : State) : Host.Outcome State Fault Refusal := .next (s.onPtp (fun s => s.wf FE_PTP.TOD_RX_CTRL.VALID 0))

end Sys2Proof.Machine
end

