-- ==== Sys2Proof/Machine/BusRead.lean ====
section
/-! DEFINITION. Reads of BAR0 (R22, R23, R27 to R38): how the fields of a page lie in its words, the values that are worked out when
they are read, and what a read changes: the HI latches of R38, the seconds latch of R468, PEND_ADDR of R288, and the re-arming of
a drop event (R301, R338, R426). -/

namespace Sys2Proof.Machine

/-! ### Fields in words -/

/-- An element of a field as it stands in a word: its lowest bit there, and whether the word is the HI half of a field of more than 32 bits. -/
structure Place where
  fld : Fld
  idx : Nat
  lo : Nat
  hi : Bool
  deriving DecidableEq, Repr

/-- Bits of the element that the word holds. -/
def Place.width (pl : Place) : Nat := if pl.hi then pl.fld.w - 32 else min pl.fld.w 32

/-- The number of the word of the field's array that lies at offset `off`. -/
def Fld.row (f : Fld) (off : Nat) : Option Nat :=
  if off = f.off then some 0
  else if off < f.off || f.stride = 0 || (off - f.off) % f.stride ≠ 0 then none
  else some ((off - f.off) / f.stride)

/-- The elements of a field in the word at `off`. -/
def Fld.places (f : Fld) (off : Nat) : List Place :=
  let at_ := fun (o : Nat) (hi : Bool) => match f.row o with
    | some j => ((List.range f.per).map (j * f.per + ·)).filterMap (fun i =>
        if i < f.cnt then some (⟨f, i, f.lo + f.bs * (i % f.per), hi⟩ : Place) else none)
    | none => []
  if 32 < f.w then at_ off false ++ (if 4 ≤ off then at_ (off - 4) true else []) else at_ off false

/-- The places of the word at block offset `off` of page `P`; the registers from 0x400 exist on DMC0 alone (R375). -/
def pagePlaces (P off : Nat) : List Place :=
  if 4160 < P && P < 4176 && 0x400 ≤ off then []
  else ((pageKind P).map (fun k => k.2.2.1.flatMap (fun f => f.places off))).getD []

/-! ### Values worked out at the read -/

/-- The fields of a field list's values that are derived, FE pages: the value of element `i` of field `f`.
(DEDUCED, log entry 3.) (DEDUCED, log entry 28.) -/
def State.derivedFe (s : State) (f : Fld) (p i : Nat) : Option Nat :=
  let other := fun (egr : Bool) (now : Fld) =>
    if s.epochState = esIdle || s.epochState = esNoEpoch then s.rf now else s.depthOf s.stagedBank egr
  let left := fun (k : TimerKind) (n unit : Nat) => ((s.timerAt k n).map (fun d => ceilDiv (d - s.cycle) unit)).getD 0
  match f.page with
  | 16 =>
    let port := p * 8 + i
    if f = FE_PG.PORT_STATUS.WTR_LEFT then some (if s.shadowedPort port then 0 else left .protWtr port cySec)
    -- R215: port numbers inside another port's lanes read 0
    else if s.shadowedPort port && f.cnt = 8 && (f.off < 0x140 || 0x400 ≤ f.off) then some 0
    else none
  | 64 =>
    let (ni, ne) := if s.noEpoch then (0, 0) else (s.bank s.activeBank).parseCounts
    if f = FE_PARSE.STATES.NI then some ni else if f = FE_PARSE.STATES.NE then some ne else none
  | 65 =>
    if f = FE_CLASS.CHAIN_INFO.TABLES then some (if s.noEpoch then 0 else (s.bank s.activeBank).chainLen) else none
  | 69 => if f = FE_TDMA.LOCK_MAP.LOCKED then some (s.showLocks.rfi f i) else none
  | 73 => if f = FE_PIPEI.DEPTH_OTHER.CYCLES then some (other false FE_PIPEI.DEPTH_CYCLES.CYCLES) else none
  | 74 => if f = FE_PIPEE.DEPTH_OTHER.CYCLES then some (other true FE_PIPEE.DEPTH_CYCLES.CYCLES) else none
  | 76 =>
    if f = FE_PTP.TIME_NS.NS then some s.timeNs
    else if f = FE_PTP.TIME_SEC_LO.SEC || f = FE_PTP.TIME_SEC_HI.SEC then some (SMap.get 0 s.hiLatch (f.key 0 0))
    else none
  | 79 => if f = FE_FAULT.FWD.DEPTH then some s.log.fwd.length else none
  | 80 =>
    let k := s.rf FE_THERM.CANARY_SEL.INDEX
    if f = FE_THERM.CANARY_DATA.MARGIN_PS then some (s.margin k)
    else if f = FE_THERM.CANARY_DATA.EXCLUDED then some (b2n (s.canaryOut k))
    else none
  | _ => none

/-- The derived values of the TM pages. (DEDUCED, log entry 3.) (DEDUCED, log entry 13.) (DEDUCED, log entry 28.) -/
def State.derivedTm (s : State) (f : Fld) (p i : Nat) : Option Nat :=
  match f.page with
  | 4096 =>
    if f = TM_GLOBAL.D_TM_IG.NS then some (s.dTmIg i)
    else if f = TM_GLOBAL.L_IG.NS then some (s.lIg i)
    else if f = TM_GLOBAL.L_EG.NS then some (s.lEg i)
    else none
  | 4099 => if f = TM_EPOCH.NOW_CYCLE.CYCLE then some s.cycle else none
  | 4101 => if f = TM_SEC.DEBUG.MIN_LEFT then some s.minLeft else none
  | 4105 =>
    if f = TM_HCMD.RING_STATUS.INFLIGHT then some (s.inflight i)
    else if f = TM_HCMD.RING_STATUS.ACTIVE then some (b2n (s.ringActive i))
    else if f = TM_HCMD.RING_STATUS.CQ_FULL then
      some (b2n (s.cqFull i && s.hc.cmds.any (fun c => decide (c.ring = some i) && decide (c.phase = .finished))))
    else if f = TM_HCMD.HCMD_STATUS.INFLIGHT then some s.inflightAll
    else none
  | 4108 => if f = TM_MGMT.ADDR.ADDR then some (0x58 + Config.mgmtPins.toNat) else none
  | 4112 =>
    let n := p * 16 + i
    if f = TM_SDF.LANE_STATUS.RATE then some (if s.flb TM_FLINK.LINK_CFG.ENABLE n then 3 else 0)
    else if f = TM_SDF.LANE_STATUS.SIGNAL then
      some (b2n (s.flb TM_FLINK.LINK_CFG.ENABLE n && !s.flb TM_FLINK.LINK_STATUS.LOS n))
    else if f = TM_SDF.LANE_STATUS.CDR_LOCK || f = TM_SDF.LANE_STATUS.ADAPT_DONE then some (s.fl TM_FLINK.LINK_STATUS.CW_LOCK n)
    else none
  | 4136 =>
    if f = TM_FLINK.LINK_STATUS.WTR_LEFT then
      some (((s.timerAt .flinkWtr (p * 32 + i)).map (fun d => ceilDiv (d - s.cycle) cyMs)).getD 0)
    else if f = TM_FLINK.FC_CTRL.FC_TIMEOUT && p ≠ 0 then some 0
    else none
  | 4146 =>
    if f = TM_SPRAY.PAT_INFO.PAT_LEN then some (if s.noEpoch then 0 else sprayLen s.sprayNow)
    else if f = TM_SPRAY.PAT_INFO.EXP_SLOTS then some (if s.noEpoch then 0 else sprayExp s.sprayNow)
    else if f = TM_SPRAY.TXQ_DEPTH.CELLS then some (s.groupCells i)
    else none
  | 4147 => if f = TM_REORD.HELD.CELLS then some (s.heldCells 0 + s.heldCells 1) else none
  | 4149 =>
    if f = TM_QUEUE.EXP_VOQ_BYTES.BYTES then some s.expVoqBytes
    else if f = TM_QUEUE.EXP_PORT_BYTES.BYTES then some (s.expPortBytes i)
    else none
  | 4150 => if f = TM_BUF.DDR_FREE.UNITS then some s.ddrFreeN else none
  | 4151 => if f = TM_SCHED.R_FAB_EXP.MBPS then some s.rFabExp else none
  | 4155 =>
    if f = TM_MCAST.RESIDUE.ING then some (s.fab.residue.filter (fun b => !b.egr)).length
    else if f = TM_MCAST.RESIDUE.EGR then some (s.fab.residue.filter (fun b => b.egr)).length
    else none
  | 4176 => if f = TM_FAULT.ERR_CTRL.ASSERTED then some (b2n s.errN) else none
  | 4177 =>
    if f = TM_LOG.OCC.TOTAL then some s.log.ring.length
    else if f = TM_LOG.OCC.PROTECTED then some (s.log.ring.filter (fun r => r.isProtected)).length
    else none
  | 4178 => if f = TM_PERF.SNAP_LEN.BYTES then some snapLen else none
  | 4179 =>
    let k := 64 + s.rf TM_THERM.CANARY_SEL.INDEX
    if f = TM_THERM.CANARY_DATA.MARGIN_PS then some (s.margin k)
    else if f = TM_THERM.CANARY_DATA.EXCLUDED then some (b2n (s.canaryOut k))
    else none
  | _ => none

/-- The bank of an RWE read (R34). -/
def State.viewBank (s : State) : Bool := if s.rfb TM_GLOBAL.RWE_VIEW.STAGED then s.stagedBank else s.activeBank

/-- The value of a place of page `P` as a read shows it (R6, R34, R38). -/
def State.placeVal (s : State) (P : Nat) (pl : Place) : Nat :=
  let f := pl.fld
  let p := P - pageBase P
  if f.acc = .wo then 0
  else
    let v :=
      if f.acc = .rwe then s.rfBank f s.viewBank pl.idx
      else ((if P < 4096 then s.derivedFe f p pl.idx else s.derivedTm f p pl.idx)).getD (s.rfp f p pl.idx)
    if 32 < f.w then
      if pl.hi then (if f.lat then SMap.get 0 s.hiLatch (f.key p pl.idx) else bits v 32 (f.w - 32)) else bits v 0 32
    else v % 2 ^ f.w

/-- What a read of a word changes: the HI words its LO words latch (R38), and the seconds (R468). -/
def State.readLatch (s : State) (P : Nat) (pl : Place) : State :=
  let f := pl.fld
  let p := P - pageBase P
  if f.lat && !pl.hi then
    let v := ((if P < 4096 then s.derivedFe f p pl.idx else s.derivedTm f p pl.idx)).getD (s.rfp f p pl.idx)
    { s with hiLatch := SMap.put 0 s.hiLatch (f.key p pl.idx) (bits v 32 32) }
  else if f = FE_PTP.TIME_NS.NS then
    let lo := SMap.put 0 s.hiLatch (FE_PTP.TIME_SEC_LO.SEC.key 0 0) (s.timeSec % 2 ^ 32)
    { s with hiLatch := SMap.put 0 lo (FE_PTP.TIME_SEC_HI.SEC.key 0 0) (s.timeSec / 2 ^ 32) }
  else s

/-- A read of a drop counter re-arms its event (R301, R338, R426). -/
def State.rearm (s : State) (P o : Nat) : State :=
  if P = 4156 && o = 0x120 then { s with sc := { s.sc with sampleArm := true } }
  else if P = 4148 && o = TM_CHAN.STALE_DROP.COUNT.off then { s with sc := { s.sc with staleArm := true } }
  else if P = 77 && o = FE_TRACE.TRACE_DROP.COUNT.off then { s with tr := { s.tr with feArm := true } }
  else if P = 4178 && o = TM_PERF.TRACE_DROP.COUNT.off then { s with tr := { s.tr with tmArm := true } }
  else s

/-! ### The header (R27 to R38) -/

/-- Counter `k` of a page. -/
def PageHdr.perfAt (h : PageHdr) (k : Nat) : PerfCtr :=
  match k with
  | 0 => h.perf0
  | 1 => h.perf1
  | 2 => h.perf2
  | _ => h.perf3

/-- A word of the header of page `P`. (DEDUCED, log entry 4.) -/
def State.hdrRead (s : State) (P o : Nat) : Nat × State :=
  let h := s.hdr P
  if o = 0x000 then (P % 4096 + P / 4096 * 4096 + (P / 4096 * 0x1000 + pageBase P % 4096) * 2 ^ 16, s)
  else if o = 0x004 then (0x0100, s)
  else if o = 0x008 then (b2n h.enable, s)
  else if o = 0x00C then (b2n (s.blockReady P) + b2n h.fenced * 2 + b2n (s.blockBusy P) * 4 + b2n h.inReset * 8, s)
  else if o = 0x010 then (sumN ((List.range 32).map (fun n => b2n (srcImplemented P n && s.evtRaw P n) * 2 ^ n)), s)
  else if o = 0x014 then (h.latch, s)
  else if o = 0x018 then (h.evtEn, s)
  else if o = 0x01C then (0, s)
  else if o = 0x020 then (h.sev % 2 ^ 32, s)
  else if o = 0x024 then (h.sev / 2 ^ 32, s)
  else if o < 0x038 then (bits h.act (8 * (o - 0x028)) 32, s)
  else if o = 0x038 then (h.capSource + h.capCause * 2 ^ 8 + b2n h.capForced * 2 ^ 16 + b2n h.capValid * 2 ^ 31, s)
  else if o = 0x03C then (h.capTime, s)
  else if o = 0x040 then (h.capD0, s)
  else if o = 0x044 then (h.capD1, s)
  else if o = 0x048 then (h.lostCount + b2n h.lostOvf * 2 ^ 31, s)
  else if o = 0x04C then (b2n h.lock, s)
  else if o < 0x060 then
    let c := h.perfAt ((o - 0x050) / 4)
    (c.event + b2n c.enable * 2 ^ 8, s)
  else
    let k := (o - 0x060) / 8
    let c := h.perfAt k
    if o % 8 = 0 then (c.count % 2 ^ 32, s.updHdr P (fun h => h.updPerf k (fun c => { c with hiLatch := c.count / 2 ^ 32 })))
    else (c.hiLatch, s)

/-! ### A read -/

/-- A block register word of page `P` that answers (R23). (DEDUCED, log entry 4.) -/
def State.blockRead (s : State) (P o : Nat) : Nat × State :=
  let ps := pagePlaces P o
  if ps.isEmpty then (0, s.accessErr P 2 (P * 4096 + o) 0)
  else if P = 4154 && 0x110 ≤ o then (s.gateReg (s.rf TM_GATE.GATE_SEL.PORT) o, s)
  else if P = 4146 && o = 0x114 then
    let a := s.rf TM_SPRAY.PEND_ADDR.WORD
    (SMap.get 0 s.fab.pend a, s.wf TM_SPRAY.PEND_ADDR.WORD (a + 1))
  else
    let v := sumN (ps.map (fun pl => s.placeVal P pl * 2 ^ pl.lo))
    (v, (ps.foldl (fun (s : State) pl => s.readLatch P pl) s).rearm P o)

/-- A read of a word of a page that can be reached (R23), which the page counts when the host makes it (R414). -/
def State.wordRead (s : State) (who : Agent) (P o : Nat) : Nat × State :=
  if !pageAssigned P then (0, s.unassigned P o 0)
  else
    let s := s.hostAccess who P
    if o < 0x080 then s.hdrRead P o
    else if o < 0x100 then (0, s.accessErr P 2 (P * 4096 + o) 0)
    else if !s.blockOpen P then (0, s)
    else s.blockRead P o

/-- A read of the 32-bit word at an offset of BAR0 (R22, R23, R397). One of an FE page that meets an uncorrectable word on the bridge
answers all ones, and when that is on its way there (bundles 64 to 127) the page is not read (R396, R399). -/
def State.busWord (s : State) (who : Agent) (off : Nat) : Nat × State :=
  let P := off / 4096 % 8192
  let o := off % 4096 / 4 * 4
  if !s.tmOn || !s.dieOn P || !s.reachable P then (0, s)
  else
    match (if P < 4096 then s.log.accessBad else none) with
    | none => s.wordRead who P o
    | some b =>
      let s : State := { s with log := { s.log with accessBad := none } }
      (2 ^ 32 - 1, if b < 64 then (s.wordRead who P o).2 else s)

/-- A read of `width` bytes at any offset of BAR0 (R22): each word it touches is read once, the lower first, and gives its bytes. A
64-bit read of a PERF_CNT pair is one value, for its first half latches its second. (DEDUCED, log entry 4.) -/
def State.busRead (s : State) (who : Agent) (off width : Nat) : Nat × State :=
  readParts (fun s o => s.busWord who o) s off width

/-- A host read of BAR0: the value is answered on PCI Express. -/
def State.hostRead (s : State) (off width : Nat) : State :=
  let (v, s) := s.busRead .host off width
  s.emit (.readData v)

/-- A host read of a space of the function. -/
def State.spaceRead (s : State) (space : Space) (off width : Nat) : State :=
  match space with
  | .bar0 => s.hostRead off width
  | .bar4 => s.bar4Read off width
  | .config => s.cfgRead off width

/-- COUNTER_LO_READ_LATCH (R38): a read of a LO counter word, and any other read that has no row of its own (R22, R44). -/
def execCounterLoReadLatch (off : Nat) (s : State) (space : Space := .bar0) (width : Nat := 4) : Host.Outcome State Fault Refusal :=
  .next (s.onTm (fun s => s.spaceRead space off width))

/-- COUNTER_READ_REARM (R301, R338, R426): a read of a drop counter. -/
def execCounterReadRearm (off : Nat) (s : State) (width : Nat := 4) : Host.Outcome State Fault Refusal :=
  .next (s.onTm (fun s => s.hostRead off width))

/-- JTAG_REG_READ (R442): a BAR0 read with the effect of a host read. -/
def execJtagRegRead (off : Nat) (s : State) : Host.Outcome State Fault Refusal :=
  .next (s.jtag 0x20 (fun s => let (v, s) := s.busRead .mc off 4; s.emit (.tdo (toLe 4 v))))

/-- MGMT_REG_READ (R463): the register at REG_ADDR. -/
def execMgmtRegRead (s : State) : Host.Outcome State Fault Refusal :=
  .next (s.onMgmtReg (fun s => let (v, s) := s.busRead .host s.pw.regAddr 4; s.emit (.mgmt (toLe 4 v))))

end Sys2Proof.Machine
end

