-- ==== Sys2Proof/Machine/Bus.lean ====
section
/-! DEFINITION. Writes of BAR0 (R6, R22, R23, R27 to R38): the header, the plain fields of a word by their access types, and the
words whose write does something, which come down to the same operations as the commands that have rows of their own. -/

namespace Sys2Proof.Machine

/-! ### The header -/

/-- Implemented sources of a page as a mask of `w` bits each. -/
def srcMask (P w : Nat) : Nat := sumN (((List.range 32).filter (srcImplemented P)).map (fun n => (2 ^ w - 1) * 2 ^ (w * n)))

/-- A write of a lockable header field (R36): `old` its value, `new` what the write would make of it. -/
def State.hdrRwl (s : State) (P o data old new : Nat) (f : PageHdr → PageHdr) : State :=
  if (s.hdr P).lock then (if new ≠ old then s.accessErr P 4 (P * 4096 + o) data else s) else s.updHdr P f

/-- A write of a word of the header of page `P` (R27 to R38). (DEDUCED, log entry 4.) -/
def State.hdrWrite (s : State) (who : Agent) (P o v : Nat) : State :=
  let h := s.hdr P
  if o = 0x008 then
    let s := s.pageEnable P (bit v 0)
    if bit v 1 then s.softReset P else s
  else if o = 0x014 then s.latchClear P v
  else if o = 0x018 then
    let n := v &&& srcMask P 1
    s.hdrRwl P o v h.evtEn n (fun h => { h with evtEn := n })
  else if o = 0x01C then s.evtForce P v
  else if o = 0x020 || o = 0x024 then
    let n := setBits h.sev (8 * (o - 0x020)) 32 v &&& srcMask P 2
    s.hdrRwl P o v h.sev n (fun h => { h with sev := n })
  else if 0x028 ≤ o && o < 0x038 then
    let n := setBits h.act (8 * (o - 0x028)) 32 v &&& srcMask P 4
    s.hdrRwl P o v h.act n (fun h => { h with act := n })
  else if o = 0x038 then (if bit v 31 then s.captureRelease P else s)
  else if o = 0x048 then (if bit v 30 then s.lostClear P else s)
  else if o = 0x04C then s.lockWrite who P (bit v 0)
  else if 0x050 ≤ o && o < 0x060 then
    s.updHdr P (fun h => h.updPerf ((o - 0x050) / 4) (fun c => { c with event := bits v 0 8, enable := bit v 8 }))
  else if 0x060 ≤ o then s.perfPreset P ((o - 0x060) / 8) (decide (o % 8 ≠ 0)) v
  else s

/-! ### Plain fields -/

/-- One place of a word takes its part of the value written, by its access type (R6), a field named COUNT counting its rise (R415);
lock and bank use are met already. -/
def State.placeWrite (s : State) (P v : Nat) (pl : Place) : State :=
  let f := pl.fld
  let p := P - pageBase P
  let n := bits v pl.lo pl.width
  let old := s.rfp f p pl.idx
  match f.acc with
  | .rw | .rwl => (s.wfp f p pl.idx n).perfFld f p (n - old)
  | .rwe => if s.bankInUse then s else s.wfBank f s.stagedBank pl.idx n
  | .w1c => s.wfp f p pl.idx (old - (old &&& n))
  | .w1s => s.wfp f p pl.idx (old ||| n)
  | .ro | .wo => s

/-- The plain fields of a word. (DEDUCED, log entry 4.) -/
def State.plainWrite (s : State) (P o v : Nat) : State := (pagePlaces P o).foldl (fun (s : State) pl => s.placeWrite P v pl) s

/-! ### Words whose write acts -/

/-- A selection register: with GO set the operation, else the plain fields alone. -/
def goOp (v go op : Nat) (read write : State → Nat → State) (s : State) : Option State :=
  if bit v go then some (if bit v op then write s v else read s v) else none

/-- Words of the FE pages; `none` where the plain fields are all. -/
def State.actFe (s : State) (P o v : Nat) : Option State :=
  match pageBase P with
  | 16 =>
    let port := fun (base : Nat) => (P - 16) * 8 + (o - base) / 4
    if 0x100 ≤ o && o < 0x120 then some (if bit v 0 then s.portEnable (port 0x100) v else s.portDisable (port 0x100) v)
    else if 0x1A0 ≤ o && o < 0x1C0 then some (s.preemptCfg (port 0x1A0) v)
    else if o = 0x20C then
      some (if bit v 4 && s.rfp FE_PG.TS_CTRL.TS_VALID (P - 16) 0 = 1 then s.setTs (P - 16) ((s.tsFifo (P - 16)).drop 1) else s)
    else none
  | 65 =>
    if 0x200 ≤ o && o < 0x400 then
      let r := (o - 0x200) / 8
      -- the bucket is filled at the old rate, and cut to its new BURST (R150)
      some (((s.meterTouch r).plainWrite P o v).meterTouch r)
    else none
  | 68 => if o = 0x100 then some (s.holdWrite v) else none
  | 72 => if o = 0x100 then some ((List.range 256).foldl (fun s p => s.rfUpdate p) (s.plainWrite P o v)) else none
  | 69 => if o = 0x100 then some (s.lockCtrl v) else none
  | 70 =>
    if o = 0x168 then some (s.recRingCtrl .notify v) else if o = 0x170 then some (s.recRingHead .notify v) else none
  | 75 =>
    if 0x110 ≤ o && o < 0x130 then some (s.protForceOut ((o - 0x110) / 4) v)
    else if o = 0x180 then goOp v 18 17 State.protRead State.protWrite s
    else none
  | 76 =>
    if o = 0x110 then some (s.addendWrite v)
    else if o = 0x124 then
      let s := if bit v 0 then s.timeStep else s
      some (if bit v 1 then s.timeOffset else s)
    else if o = 0x128 then some (s.ppsCtrl v)
    else if o = 0x138 then some (if bit v 1 then s.wf FE_PTP.PPS_CAP_CTRL.VALID 0 else s)
    else if o = 0x14C then some (if bit v 1 then s.wf FE_PTP.TOD_RX_CTRL.VALID 0 else s)
    else none
  | 77 =>
    if o = 0x108 then some (s.recRingCtrl .feTrace v)
    else if o = 0x110 then some (s.recRingHead .feTrace v)
    else if o = 0x118 then some (s.traceSeed v)
    else none
  | _ => none

/-- Words of the power, security, management-controller and host pages. -/
def State.actHost (s : State) (P o v : Nat) : Option State :=
  match P with
  | 4098 =>
    if o = 0x104 then some (s.powerReq (v % 4) 1)
    else if o = 0x130 then some (if bit v 1 then s.wf TM_PWR.WAKE_N_CTRL.ASSERTED 0 else s)
    else none
  | 4101 =>
    if o = 0x104 then some (if bit v 2 then s.endUnlock else s)
    else if o = 0x108 then
      let s := s.plainWrite P o v
      some (if bit v 3 then s.bootRetry else s)
    else none
  | 4102 =>
    if o = 0x104 then some (s.resetReq v)
    else if o = 0x114 then
      let s := if bit v 0 then s.fwStage else s
      let s := if bit v 1 then s.fwSwitch else s
      some (if bit v 2 then s.fwConfirm else s)
    else none
  | 4105 =>
    if 0x100 ≤ o && o < 0x900 then
      let n := (o - 0x100) / 0x20
      let r := o % 0x20
      if r = 0x10 then some (s.ringCtrlWrite n v)
      -- R46: the base registers of an active ring are not written
      else if r < 0x10 && s.ringActive n then some (s.raiseO Ev.TM_HCMD.BAD_CONFIG 0 none none none)
      else none
    else if o = 0xA40 then some (if bit v 0 then s.dcmdGo else s)
    else if o = 0xAA0 then some (if bit v 1 then s.dresAck else s)
    else none
  | 4107 => if 0x100 ≤ o && o < 0xD00 then some ((s.plainWrite P o v).causeMoved ((o - 0x100) / 4)) else none
  | 4106 =>
    if 0x100 ≤ o && o < 0x900 then
      let c := (o - 0x100) / 0x20
      let r := o % 0x20
      let inj := decide (0x10 ≤ r)
      let active := decide (s.rfi (if inj then TM_HPKT.INJ_CTRL.ENABLE else TM_HPKT.PUNT_CTRL.ENABLE) c = 1) || (inj && s.injInflight c)
      if r % 0x10 = 8 then some (s.chanCtrlWrite inj c v)
      else if r % 0x10 < 8 && active then some (s.raiseO Ev.TM_HPKT.BAD_CONFIG 0 none none none)
      else none
    else none
  | _ => none

/-- Words of the fabric, switch-core and channel pages. -/
def State.actFabric (s : State) (P o v : Nat) : Option State :=
  match pageBase P with
  | 4136 =>
    let k := P - 4136
    if 0x100 ≤ o && o < 0x180 then some (s.linkCfg (32 * k + (o - 0x100) / 4) v)
    else if o = 0x288 then (if k = 0 then none else some s)
    else if o = 0x300 then goOp v 9 8 (fun s v => s.traceRead k v) (fun s v => s.traceWrite k v) s
    else none
  | 4146 =>
    if o = 0x114 then some (s.pendAccess (some v))
    else if o = 0x118 then
      let s := if bit v 2 then s.copyActive else s
      some (if bit v 0 then s.installGo else s)
    else none
  | 4149 =>
    if o = 0x120 then goOp v 9 8 State.qprofRead State.qprofWrite s
    else if o = 0x140 then (if bit v 19 then some (s.queueStats v) else none)
    else none
  | 4151 =>
    -- the express bucket is filled at the old rate, and cut to its new burst (R326)
    if o = 0x104 || o = 0x108 then some ((s.expressNow.plainWrite P o v).expressNow)
    else if o = 0x110 then goOp v 19 18 State.nodeRead State.nodeWrite s
    else if o = 0x120 then goOp v 7 6 State.clsprofRead State.clsprofWrite s
    else none
  | 4152 =>
    if o = 0x110 then goOp v 13 12 State.shprofRead State.shprofWrite s
    else if o = 0x120 then (if bit v 18 then some (s.shaperLoad v) else none)
    else none
  | 4153 =>
    if o = 0x100 then goOp v 13 12 State.pprofRead State.pprofWrite s
    else if o = 0x120 then goOp v 19 18 State.policerRead State.policerWrite s
    else none
  | 4154 =>
    if o = 0x100 then goOp v 20 19 State.gateRead State.gateWrite s
    else if o = 0x110 then some (s.portCtrlWrite (v % 16))
    else if 0x114 ≤ o && o ≤ 0x124 then some (s.gatePendWrite o v)
    else none
  | 4155 =>
    if o = 0x100 then goOp v 17 16 State.groupRead State.groupWrite s
    else if o = 0x110 then goOp v 21 20 State.recordRead State.recordWrite s
    else if o = 0x138 then some (if bit v 0 then s.walkDrain else s)
    else none
  | 4156 =>
    if o = 0x108 then some (s.recRingCtrl .sample v)
    else if o = 0x110 then some (s.recRingHead .sample v)
    else if o = 0x114 then some (s.sampleN v)
    else if o = 0x118 then some ((s.plainWrite P o v).depthArm)
    else none
  | _ => none

/-- Words of the GDDR7, fault, log, counter and voltage pages. (DEDUCED, log entry 26.) -/
def State.actSupport (s : State) (who : Agent) (P o v : Nat) : Option State :=
  match pageBase P with
  | 4160 =>
    let c := P - 4160
    -- R375: DENSITY only in OFF or DOWN; R367: the active timing set is not written
    if o = 0x100 then (if s.dmcState c = dmcOff || s.dmcState c = dmcDown then none else some s)
    else if 0x110 ≤ o && o < 0x130 then
      (if (o - 0x110) / 0x10 = s.rfp TM_DMC.STATUS.TSET c 0 then some s else none)
    else if o = 0x400 then some (if bit v 0 then s.ddrEnable else s.ddrDisable)
    else if o = 0x404 then (if s.rfb TM_DMC.DDR_CTRL.ENABLE then some s else none)
    else if o = 0x408 then some (if bit v 0 then s.freqGo else s)
    else if o = 0x414 then (if bit v 1 then some (s.memGo (bit v 0)) else none)
    else if o = 0x448 then some (if bit v 0 then s.exportGo else s)
    else none
  | 4176 =>
    -- R393: host writes of HEARTBEAT and HB_HOLD are discarded
    if o = 0x100 then some (if bit v 0 && decide (who = .mc) then s.heartbeat else s)
    else if o = 0x104 then some (if who = .mc then s.hbHold v else s)
    else if o = 0x10C then
      let s := if bit v 0 then s.aliveRestart else s
      some (if bit v 1 then s.aliveHalt 3 else s)
    else if o = 0x140 then (if bit v 18 then some (s.sumLoad v) else none)
    else none
  | 4177 => if o = 0x108 then some (s.recRingCtrl .log v) else if o = 0x110 then some (s.recRingHead .log v) else none
  | 4178 =>
    if o = 0x100 then some (s.freezeWrite v)
    else if o = 0x208 then some (s.recRingCtrl .tmTrace v)
    else if o = 0x210 then some (s.recRingHead .tmTrace v)
    else none
  | 4179 => if o = 0x140 then some (s.avsCtrl v) else none
  | _ => none

/-- The write of a word that acts; `none` where its plain fields are all there is. (DEDUCED, log entry 4.) -/
def State.actWrite (s : State) (who : Agent) (P o v : Nat) : Option State :=
  if P < 4096 then s.actFe P o v
  else if P < 4136 then s.actHost P o v
  else if P < 4160 then s.actFabric P o v
  else s.actSupport who P o v

/-! ### A write -/

/-- A write of a block register word (R6, R23, R35, R36): locked RWL fields keep their values, and RWE fields in use theirs, with an
event only where the value written differs. -/
def State.blockWrite (s : State) (who : Agent) (P o v : Nat) : State :=
  let ps := pagePlaces P o
  if ps.isEmpty then s.accessErr P 2 (P * 4096 + o) v
  else
    let p := P - pageBase P
    let locked := (s.hdr P).lock
    let cur := fun (pl : Place) => s.rfp pl.fld p pl.idx
    let new := fun (pl : Place) => bits v pl.lo pl.width
    let isRwl := fun (pl : Place) => decide (pl.fld.acc = .rwl)
    let lockHit := locked && ps.any (fun pl => isRwl pl && decide (new pl ≠ cur pl))
    let busyHit := s.bankInUse && ps.any (fun pl =>
      decide (pl.fld.acc = .rwe) && decide (new pl ≠ s.rfBank pl.fld s.stagedBank pl.idx))
    let ve := if locked then ps.foldl (fun v pl => if isRwl pl then setBits v pl.lo pl.width (cur pl) else v) v else v
    let was := s.expOver
    let s := (s.actWrite who P o ve).getD (s.plainWrite P o ve)
    let s := if (P = 4149 && (o = 0x100 || o = 0x104)) || (P = 4150 && o = 0x108) then s.reserveCheck else s
    let s := (s.capCheck was).latchBounds
    let s := if lockHit then s.accessErr P 4 (P * 4096 + o) v else s
    if busyHit then s.accessErr P 5 (P * 4096 + o) v else s

/-- A write of a word of an assigned page (R22, R23). -/
def State.wordStore (s : State) (who : Agent) (P o v : Nat) (narrow : Bool) : State :=
  if narrow then s.accessErr P 1 (P * 4096 + o) v
  else if o < 0x080 then s.hdrWrite who P o v
  else if o < 0x100 then s.accessErr P 2 (P * 4096 + o) v
  else if !s.blockOpen P then s
  else s.blockWrite who P o v

/-- A write of an FE page meets an uncorrectable word on its way across the bridge (R396, R399). -/
def State.writeSpoilt (s : State) (P : Nat) : Bool :=
  match s.log.accessBad with
  | some b => decide (P < 4096) && decide (64 ≤ b)
  | none => false

/-- A write of the 32-bit word at an offset of BAR0 (R22, R23, R397), which a page counts when the host makes it (R414); `narrow` that
it is narrower than 32 bits. (DEDUCED, log entry 4.) -/
def State.busStore (s : State) (who : Agent) (off v : Nat) (narrow : Bool) : State :=
  let P := off / 4096 % 8192
  let o := off % 4096
  if !s.tmOn || !s.dieOn P || !s.reachable P then s
  else if s.writeSpoilt P then { s with log := { s.log with accessBad := none } }
  else if !pageAssigned P then s.unassigned P o v
  else (s.hostAccess who P).wordStore who P o v narrow

/-- A write of `width` bytes (R22): cut at 4-byte boundaries, the lower part first; a part narrower than 32 bits is discarded. So an
aligned 64-bit write is two words. (DEDUCED, log entry 4.) -/
def State.busWrite (s : State) (who : Agent) (off width data : Nat) : State :=
  (busParts off width data).foldl (fun (s : State) e => s.busStore who e.1 e.2.2 (decide (e.2.1 < 4))) s

/-- A write to a space of the function. -/
def State.spaceWrite (s : State) (who : Agent) (space : Space) (off width data : Nat) : State :=
  match space with
  | .bar0 => s.busWrite who off width data
  | .bar4 => s.bar4Write off width data
  | .config => s.cfgWrite off width data

/-- REGISTER_WRITE (R6). -/
def execRegisterWrite (who : Agent) (off width data : Nat) (s : State) (space : Space := .bar0) : Host.Outcome State Fault Refusal :=
  .next (s.onTm (fun s => s.spaceWrite who space off width data))

/-- JTAG_REG_WRITE (R442): a BAR0 write with the effect of a write of the management controller. -/
def execJtagRegWrite (off data : Nat) (s : State) : Host.Outcome State Fault Refusal :=
  .next (s.jtag 0x21 (fun s => s.busWrite .mc off 4 data))

/-- MGMT_REG_WRITE (R463): the register at REG_ADDR, with the effect of a host write. -/
def execMgmtRegWrite (data : Nat) (pec : Bool) (s : State) : Host.Outcome State Fault Refusal :=
  .next (s.onMgmtReg (fun s => s.mgmtWrite 0x12 pec (fun s => s.busWrite .host s.pw.regAddr 4 data)))

end Sys2Proof.Machine
end

