-- ==== Sys2Proof/Machine/Dispatch.lean ====
section
/-! DEFINITION. One arm per command of the table: each a direct call of the command's meaning. -/

namespace Sys2Proof.Machine

/-- The effect of a command on everything but the queue. (DESIGN CHOICE, log entry 2.) -/
def exec (i : Instr) (s : State) : Host.Outcome State Fault Refusal :=
  match i with
  | .registerWrite a b c d e => Sys2Proof.Machine.execRegisterWrite a b c d s e
  | .pageEnable a b c => Sys2Proof.Machine.execPageEnable a b c s
  | .softReset a b => Sys2Proof.Machine.execSoftReset a b s
  | .markerActionStart a => Sys2Proof.Machine.execMarkerActionStart a s
  | .markerWaitLimit a => Sys2Proof.Machine.execMarkerWaitLimit a s
  | .blockResetDone a => Sys2Proof.Machine.execBlockResetDone a s
  | .evtLatchClear a b => Sys2Proof.Machine.execEvtLatchClear a b s
  | .evtForce a b => Sys2Proof.Machine.execEvtForce a b s
  | .evtCaptureRelease a => Sys2Proof.Machine.execEvtCaptureRelease a s
  | .evtLostClear a => Sys2Proof.Machine.execEvtLostClear a s
  | .pageLockWrite a b c => Sys2Proof.Machine.execPageLockWrite a b c s
  | .perfCntPreset a b c d => Sys2Proof.Machine.execPerfCntPreset a b c d s
  | .counterLoReadLatch a b c => Sys2Proof.Machine.execCounterLoReadLatch a s b c
  | .counterReadRearm a b => Sys2Proof.Machine.execCounterReadRearm a s b
  | .pcieLinkTrained a b c => Sys2Proof.Machine.execPcieLinkTrained a b c s
  | .hostInterfaceReset a => Sys2Proof.Machine.execHostInterfaceReset a s
  | .pciePowerState a b => Sys2Proof.Machine.execPciePowerState a b s
  | .sqTailDoorbell a b c => Sys2Proof.Machine.execSqTailDoorbell a b c s
  | .cqHeadDoorbell a b c => Sys2Proof.Machine.execCqHeadDoorbell a b c s
  | .puntTailDoorbell a b c => Sys2Proof.Machine.execPuntTailDoorbell a b c s
  | .injectTailDoorbell a b c => Sys2Proof.Machine.execInjectTailDoorbell a b c s
  | .ringEnable a b => Sys2Proof.Machine.execRingEnable a b s
  | .ringDisable a b => Sys2Proof.Machine.execRingDisable a b s
  | .commandFetch => Sys2Proof.Machine.execCommandFetch s
  | .fetchReadDone a b => Sys2Proof.Machine.execFetchReadDone a b s
  | .completionWrite a b => Sys2Proof.Machine.execCompletionWrite a b s
  | .coalTimerExpire a => Sys2Proof.Machine.execCoalTimerExpire a s
  | .msixUnblock a => Sys2Proof.Machine.execMsixUnblock a s
  | .fence a => Sys2Proof.Machine.execFence a s
  | .unknownOpcode a => Sys2Proof.Machine.execUnknownOpcode a s
  | .dcmdGo => Sys2Proof.Machine.execDcmdGo s
  | .dresResultAck => Sys2Proof.Machine.execDresResultAck s
  | .puntDeliver a b c d => Sys2Proof.Machine.execPuntDeliver a b c s d
  | .injectFetch a b c d => Sys2Proof.Machine.execInjectFetch a b c d s
  | .epochStageAlmanac a b => Sys2Proof.Machine.execEpochStageAlmanac a b s
  | .stageTimeout => Sys2Proof.Machine.execStageTimeout s
  | .epochStageRules a b => Sys2Proof.Machine.execEpochStageRules a b s
  | .epochCommit a => Sys2Proof.Machine.execEpochCommit a s
  | .epochFlip => Sys2Proof.Machine.execEpochFlip s
  | .selectorLane a => Sys2Proof.Machine.execSelectorLane a s
  | .depthGapEnd a => Sys2Proof.Machine.execDepthGapEnd a s
  | .drainSettled => Sys2Proof.Machine.execDrainSettled s
  | .retireTimeout => Sys2Proof.Machine.execRetireTimeout s
  | .purgeDone => Sys2Proof.Machine.execPurgeDone s
  | .retireMirrorDone => Sys2Proof.Machine.execRetireMirrorDone s
  | .epochAbort a => Sys2Proof.Machine.execEpochAbort a s
  | .epochRollback a => Sys2Proof.Machine.execEpochRollback a s
  | .rollbackFlip => Sys2Proof.Machine.execRollbackFlip s
  | .remirrorDone => Sys2Proof.Machine.execRemirrorDone s
  | .epochStatus a => Sys2Proof.Machine.execEpochStatus a s
  | .cellCheckError a b c => Sys2Proof.Machine.execCellCheckError a b c s
  | .slotScrub a => Sys2Proof.Machine.execSlotScrub a s
  | .slotStoreScrub a => Sys2Proof.Machine.execSlotStoreScrub a s
  | .remapDone a b => Sys2Proof.Machine.execRemapDone a b s
  | .fencedCellActivity a => Sys2Proof.Machine.execFencedCellActivity a s
  | .cellRemap a => Sys2Proof.Machine.execCellRemap a s
  | .cellTest a => Sys2Proof.Machine.execCellTest a s
  | .cellTestDone a b => Sys2Proof.Machine.execCellTestDone a b s
  | .cellUnfence a => Sys2Proof.Machine.execCellUnfence a s
  | .frameRx a b c => Sys2Proof.Machine.execFrameRx a b c s
  | .pipelineInputAdmit a => Sys2Proof.Machine.execPipelineInputAdmit a s
  | .stripExit a b => Sys2Proof.Machine.execStripExit a b s
  | .tmIngressArrival a => Sys2Proof.Machine.execTmIngressArrival a s
  | .voqSelect a => Sys2Proof.Machine.execVoqSelect s a
  | .switchCoreStep => Sys2Proof.Machine.execSwitchCoreStep s
  | .spraySlotSend => Sys2Proof.Machine.execSpraySlotSend s
  | .txFrameStart => Sys2Proof.Machine.execTxFrameStart s
  | .patternBoundary => Sys2Proof.Machine.execPatternBoundary s
  | .fabricCellRx a b c d => Sys2Proof.Machine.execFabricCellRx a b c d s
  | .reorderCollectionExpire a b => Sys2Proof.Machine.execReorderCollectionExpire a b s
  | .reorderGapExpire a b => Sys2Proof.Machine.execReorderGapExpire a b s
  | .reorderCtxIdle a b => Sys2Proof.Machine.execReorderCtxIdle a b s
  | .residueRetry => Sys2Proof.Machine.execResidueRetry s
  | .residueTimeout a b => Sys2Proof.Machine.execResidueTimeout a b s
  | .egressSelect a b => Sys2Proof.Machine.execEgressSelect a s b
  | .loopbackSelect => Sys2Proof.Machine.execLoopbackSelect s
  | .expressPacerOpen a => Sys2Proof.Machine.execExpressPacerOpen a s
  | .egressStripExit a => Sys2Proof.Machine.execEgressStripExit a s
  | .macFrameBoundary a => Sys2Proof.Machine.execMacFrameBoundary a s
  | .frameTxEnd a => Sys2Proof.Machine.execFrameTxEnd a s
  | .tblInsert a => Sys2Proof.Machine.execTblInsert a s
  | .tblDelete a => Sys2Proof.Machine.execTblDelete a s
  | .tblModify a b => Sys2Proof.Machine.execTblModify a b s
  | .tblLookup a => Sys2Proof.Machine.execTblLookup a s
  | .tblReadIndex a => Sys2Proof.Machine.execTblReadIndex a s
  | .tblCas a => Sys2Proof.Machine.execTblCas a s
  | .tblAgeDelete a => Sys2Proof.Machine.execTblAgeDelete a s
  | .tblSwitchRegion a => Sys2Proof.Machine.execTblSwitchRegion a s
  | .regionSwitchApply a => Sys2Proof.Machine.execRegionSwitchApply a s
  | .tableWriteSlot => Sys2Proof.Machine.execTableWriteSlot s
  | .bar2Write a b c => Sys2Proof.Machine.execBar2Write a b c s
  | .bar2Read a => Sys2Proof.Machine.execBar2Read a s
  | .tdmaLock a => Sys2Proof.Machine.execTdmaLock a s
  | .tdmaUnlock a => Sys2Proof.Machine.execTdmaUnlock a s
  | .holdWrite a => Sys2Proof.Machine.execHoldWrite a s
  | .holdDrained => Sys2Proof.Machine.execHoldDrained s
  | .tableScrub a b c d e f => Sys2Proof.Machine.execTableScrub a b c d e f s
  | .learnEventProcess => Sys2Proof.Machine.execLearnEventProcess s
  | .dampWindowExpire a => Sys2Proof.Machine.execDampWindowExpire a s
  | .hitSetWrite => Sys2Proof.Machine.execHitSetWrite s
  | .ageTick => Sys2Proof.Machine.execAgeTick s
  | .ageWalkLine => Sys2Proof.Machine.execAgeWalkLine s
  | .ageDeletion => Sys2Proof.Machine.execAgeDeletion s
  | .portEnable a b => Sys2Proof.Machine.execPortEnable a b s
  | .portDisable a b => Sys2Proof.Machine.execPortDisable a b s
  | .linkUp a => Sys2Proof.Machine.execLinkUp a s
  | .linkDown a b => Sys2Proof.Machine.execLinkDown a b s
  | .anFail a b => Sys2Proof.Machine.execAnFail a b s
  | .degIntervalEnd a b c d => Sys2Proof.Machine.execDegIntervalEnd a b c s d
  | .pfcFrameRx a b c => Sys2Proof.Machine.execPfcFrameRx a b c s
  | .pfcPauseExpire a b => Sys2Proof.Machine.execPfcPauseExpire a b s
  | .pfcRefreshTimer a b => Sys2Proof.Machine.execPfcRefreshTimer a b s
  | .preemptEnable a b => Sys2Proof.Machine.execPreemptEnable a b s
  | .preemptVerifyTimer a b => Sys2Proof.Machine.execPreemptVerifyTimer a b s
  | .tsAck a => Sys2Proof.Machine.execTsAck a s
  | .protRecordRead a => Sys2Proof.Machine.execProtRecordRead a s
  | .protRecordWrite a => Sys2Proof.Machine.execProtRecordWrite a s
  | .rcvyResetExpire a => Sys2Proof.Machine.execRcvyResetExpire a s
  | .protWtrExpire a => Sys2Proof.Machine.execProtWtrExpire a s
  | .protForceOut a b => Sys2Proof.Machine.execProtForceOut a b s
  | .codewordLock a => Sys2Proof.Machine.execCodewordLock a s
  | .flinkLos a b => Sys2Proof.Machine.execFlinkLos a b s
  | .fawCheck a b c d => Sys2Proof.Machine.execFawCheck a b c s d
  | .overheadRx a b c => Sys2Proof.Machine.execOverheadRx a b c s
  | .fcTimeoutExpire a b => Sys2Proof.Machine.execFcTimeoutExpire a b s
  | .flinkEnable a b => Sys2Proof.Machine.execFlinkEnable a b s
  | .flinkDisable a b => Sys2Proof.Machine.execFlinkDisable a b s
  | .flinkForceOut a b => Sys2Proof.Machine.execFlinkForceOut a b s
  | .flinkWtrExpire a => Sys2Proof.Machine.execFlinkWtrExpire a s
  | .trainFailTimeout a => Sys2Proof.Machine.execTrainFailTimeout a s
  | .traceSelRead a b => Sys2Proof.Machine.execTraceSelRead a b s
  | .traceSelWrite a b => Sys2Proof.Machine.execTraceSelWrite a b s
  | .sprayCopyActive => Sys2Proof.Machine.execSprayCopyActive s
  | .pendDataAccess a => Sys2Proof.Machine.execPendDataAccess a s
  | .sprayInstallGo => Sys2Proof.Machine.execSprayInstallGo s
  | .sprayInstallApply => Sys2Proof.Machine.execSprayInstallApply s
  | .mcastGroupRead a => Sys2Proof.Machine.execMcastGroupRead a s
  | .mcastGroupWrite a => Sys2Proof.Machine.execMcastGroupWrite a s
  | .mcastRecordRead a => Sys2Proof.Machine.execMcastRecordRead a s
  | .mcastRecordWrite a => Sys2Proof.Machine.execMcastRecordWrite a s
  | .walkDrainSet => Sys2Proof.Machine.execWalkDrainSet s
  | .walkDrainDone => Sys2Proof.Machine.execWalkDrainDone s
  | .chanCreate a => Sys2Proof.Machine.execChanCreate a s
  | .chanModify a => Sys2Proof.Machine.execChanModify a s
  | .chanDestroy a => Sys2Proof.Machine.execChanDestroy a s
  | .chanDestroyDrained a => Sys2Proof.Machine.execChanDestroyDrained a s
  | .destroyTimeout a => Sys2Proof.Machine.execDestroyTimeout a s
  | .chanQuery a => Sys2Proof.Machine.execChanQuery a s
  | .tmPortDown a => Sys2Proof.Machine.execTmPortDown a s
  | .portHoldExpire a => Sys2Proof.Machine.execPortHoldExpire a s
  | .tmPortUp a => Sys2Proof.Machine.execTmPortUp a s
  | .qprofRead a => Sys2Proof.Machine.execQprofRead a s
  | .qprofWrite a => Sys2Proof.Machine.execQprofWrite a s
  | .queueStatsLoad a => Sys2Proof.Machine.execQueueStatsLoad a s
  | .nodeRead a => Sys2Proof.Machine.execNodeRead a s
  | .nodeWrite a => Sys2Proof.Machine.execNodeWrite a s
  | .clsprofRead a => Sys2Proof.Machine.execClsprofRead a s
  | .clsprofWrite a => Sys2Proof.Machine.execClsprofWrite a s
  | .shprofRead a => Sys2Proof.Machine.execShprofRead a s
  | .shprofWrite a => Sys2Proof.Machine.execShprofWrite a s
  | .shaperLoad a => Sys2Proof.Machine.execShaperLoad a s
  | .calendarFineSlot => Sys2Proof.Machine.execCalendarFineSlot s
  | .calendarCoarseSlot => Sys2Proof.Machine.execCalendarCoarseSlot s
  | .pprofRead a => Sys2Proof.Machine.execPprofRead a s
  | .pprofWrite a => Sys2Proof.Machine.execPprofWrite a s
  | .policerRead a => Sys2Proof.Machine.execPolicerRead a s
  | .policerWrite a => Sys2Proof.Machine.execPolicerWrite a s
  | .gateEntryRead a => Sys2Proof.Machine.execGateEntryRead a s
  | .gateEntryWrite a => Sys2Proof.Machine.execGateEntryWrite a s
  | .gateEn a => Sys2Proof.Machine.execGateEn a s
  | .gateSwitchRequest a => Sys2Proof.Machine.execGateSwitchRequest a s
  | .gateAbort a => Sys2Proof.Machine.execGateAbort a s
  | .gateSwitchApply a => Sys2Proof.Machine.execGateSwitchApply a s
  | .gateEntryChange a => Sys2Proof.Machine.execGateEntryChange a s
  | .depthSample => Sys2Proof.Machine.execDepthSample s
  | .sampleNWrite a => Sys2Proof.Machine.execSampleNWrite a s
  | .recordRingEnable a b => Sys2Proof.Machine.execRecordRingEnable a b s
  | .recordRingHeadWrite a b => Sys2Proof.Machine.execRecordRingHeadWrite a b s
  | .dmcTrainingDone a b => Sys2Proof.Machine.execDmcTrainingDone a b s
  | .dmcTrainTimeout a => Sys2Proof.Machine.execDmcTrainTimeout a s
  | .ddrEnable => Sys2Proof.Machine.execDdrEnable s
  | .ddrDisable => Sys2Proof.Machine.execDdrDisable s
  | .wckRealign a b => Sys2Proof.Machine.execWckRealign a b s
  | .dmcActivate a b => Sys2Proof.Machine.execDmcActivate a b s
  | .refreshInterval a => Sys2Proof.Machine.execRefreshInterval a s
  | .dmcTempRead a b c => Sys2Proof.Machine.execDmcTempRead a b c s
  | .actTableClear => Sys2Proof.Machine.execActTableClear s
  | .throttleExpire a b => Sys2Proof.Machine.execThrottleExpire a b s
  | .freqGo => Sys2Proof.Machine.execFreqGo s
  | .freqChangeDone a b c => Sys2Proof.Machine.execFreqChangeDone a b c s
  | .freqStepTimeout a b => Sys2Proof.Machine.execFreqStepTimeout a b s
  | .dmcAccessComplete a b c => Sys2Proof.Machine.execDmcAccessComplete a b c s
  | .counterWriteback a => Sys2Proof.Machine.execCounterWriteback a s
  | .memWindowRead => Sys2Proof.Machine.execMemWindowRead s
  | .memWindowWrite => Sys2Proof.Machine.execMemWindowWrite s
  | .counterExport => Sys2Proof.Machine.execCounterExport s
  | .counterExportDone a => Sys2Proof.Machine.execCounterExportDone a s
  | .feRecordForward a => Sys2Proof.Machine.execFeRecordForward a s
  | .squallWindowEnd => Sys2Proof.Machine.execSquallWindowEnd s
  | .logExport a b => Sys2Proof.Machine.execLogExport a b s
  | .heartbeat => Sys2Proof.Machine.execHeartbeat s
  | .hbHoldWrite a => Sys2Proof.Machine.execHbHoldWrite a s
  | .heartbeatGap => Sys2Proof.Machine.execHeartbeatGap s
  | .aliveRestart => Sys2Proof.Machine.execAliveRestart s
  | .aliveStop => Sys2Proof.Machine.execAliveStop s
  | .bridgeLaneInterval a b c => Sys2Proof.Machine.execBridgeLaneInterval a b c s
  | .bridgeWordUncorrectable a b => Sys2Proof.Machine.execBridgeWordUncorrectable a b s
  | .bridgeDown a => Sys2Proof.Machine.execBridgeDown a s
  | .summaryCountLoad a => Sys2Proof.Machine.execSummaryCountLoad a s
  | .freezeWrite a => Sys2Proof.Machine.execFreezeWrite a s
  | .freezeApply => Sys2Proof.Machine.execFreezeApply s
  | .snapshot a => Sys2Proof.Machine.execSnapshot a s
  | .snapshotLatch => Sys2Proof.Machine.execSnapshotLatch s
  | .snapshotCopyDone => Sys2Proof.Machine.execSnapshotCopyDone s
  | .traceSeedWrite a => Sys2Proof.Machine.execTraceSeedWrite a s
  | .traceExport a b => Sys2Proof.Machine.execTraceExport a b s
  | .attestQuote a => Sys2Proof.Machine.execAttestQuote a s
  | .addOwner a b c => Sys2Proof.Machine.execAddOwner a b s c
  | .revokeOwner a b c => Sys2Proof.Machine.execRevokeOwner a b s c
  | .lifecycle a b c => Sys2Proof.Machine.execLifecycle a b s c
  | .advanceSvn a b c => Sys2Proof.Machine.execAdvanceSvn a b s c
  | .ownerOnly a b c => Sys2Proof.Machine.execOwnerOnly a b s c
  | .bootRetry => Sys2Proof.Machine.execBootRetry s
  | .jtagIdcode => Sys2Proof.Machine.execJtagIdcode s
  | .jtagBypass a => Sys2Proof.Machine.execJtagBypass a s
  | .secChallenge => Sys2Proof.Machine.execSecChallenge s
  | .secResponse a => Sys2Proof.Machine.execSecResponse a s
  | .secStatus => Sys2Proof.Machine.execSecStatus s
  | .samplePreload a b => Sys2Proof.Machine.execSamplePreload a b s
  | .extest a b => Sys2Proof.Machine.execExtest a b s
  | .jtagRegRead a => Sys2Proof.Machine.execJtagRegRead a s
  | .jtagRegWrite a b => Sys2Proof.Machine.execJtagRegWrite a b s
  | .memAccess a b => Sys2Proof.Machine.execMemAccess a b s
  | .mcDebug a => Sys2Proof.Machine.execMcDebug a s
  | .jtagTapReset => Sys2Proof.Machine.execJtagTapReset s
  | .debugUnlockExpire => Sys2Proof.Machine.execDebugUnlockExpire s
  | .debugRelock => Sys2Proof.Machine.execDebugRelock s
  | .unlockLockoutExpire => Sys2Proof.Machine.execUnlockLockoutExpire s
  | .pllUnlock a => Sys2Proof.Machine.execPllUnlock a s
  | .refclkLoss => Sys2Proof.Machine.execRefclkLoss s
  | .aonOscCheck a => Sys2Proof.Machine.execAonOscCheck a s
  | .cycleCheckMarker a => Sys2Proof.Machine.execCycleCheckMarker a s
  | .timeStepWrite => Sys2Proof.Machine.execTimeStepWrite s
  | .timeOffsetWrite => Sys2Proof.Machine.execTimeOffsetWrite s
  | .addendWrite a => Sys2Proof.Machine.execAddendWrite a s
  | .timeAdjustApply => Sys2Proof.Machine.execTimeAdjustApply s
  | .ppsOutEdge => Sys2Proof.Machine.execPpsOutEdge s
  | .ppsInEdge a => Sys2Proof.Machine.execPpsInEdge a s
  | .ppsInMissing => Sys2Proof.Machine.execPpsInMissing s
  | .ppsCapAck => Sys2Proof.Machine.execPpsCapAck s
  | .todTxSend => Sys2Proof.Machine.execTodTxSend s
  | .todRxMessage a b => Sys2Proof.Machine.execTodRxMessage a b s
  | .todRxAck => Sys2Proof.Machine.execTodRxAck s
  | .powerRequest a => Sys2Proof.Machine.execPowerRequest a s
  | .entrySafePoint => Sys2Proof.Machine.execEntrySafePoint s
  | .doldrumsDrainExpire => Sys2Proof.Machine.execDoldrumsDrainExpire s
  | .doldrumsSample a b => Sys2Proof.Machine.execDoldrumsSample a b s
  | .wakeNRelease => Sys2Proof.Machine.execWakeNRelease s
  | .mgmtAddressMatch => Sys2Proof.Machine.execMgmtAddressMatch s
  | .mgmtStatus => Sys2Proof.Machine.execMgmtStatus s
  | .mgmtPowerReq a b => Sys2Proof.Machine.execMgmtPowerReq a b s
  | .mgmtClear a b => Sys2Proof.Machine.execMgmtClear a b s
  | .mgmtRegAddr a b => Sys2Proof.Machine.execMgmtRegAddr a b s
  | .mgmtRegRead => Sys2Proof.Machine.execMgmtRegRead s
  | .mgmtRegWrite a b => Sys2Proof.Machine.execMgmtRegWrite a b s
  | .mgmtTimeout => Sys2Proof.Machine.execMgmtTimeout s
  | .wakeStepDone => Sys2Proof.Machine.execWakeStepDone s
  | .wakeStepTimeout a => Sys2Proof.Machine.execWakeStepTimeout a s
  | .pwrGoodFall => Sys2Proof.Machine.execPwrGoodFall s
  | .aonBrownout => Sys2Proof.Machine.execAonBrownout s
  | .por => Sys2Proof.Machine.execPor s
  | .chipReset a => Sys2Proof.Machine.execChipReset a s
  | .resetReq a => Sys2Proof.Machine.execResetReq a s
  | .mcReset => Sys2Proof.Machine.execMcReset s
  | .helriReady => Sys2Proof.Machine.execHelriReady s
  | .fwStage => Sys2Proof.Machine.execFwStage s
  | .fwStageDone a b => Sys2Proof.Machine.execFwStageDone a b s
  | .fwSwitch => Sys2Proof.Machine.execFwSwitch s
  | .fwConfirm => Sys2Proof.Machine.execFwConfirm s
  | .fwTrialTimeout => Sys2Proof.Machine.execFwTrialTimeout s
  | .avsEnable => Sys2Proof.Machine.execAvsEnable s
  | .avsPeriod a b => Sys2Proof.Machine.execAvsPeriod a b s
  | .tempWarn a b => Sys2Proof.Machine.execTempWarn a b s
  | .thermTrip a b c => Sys2Proof.Machine.execThermTrip a b c s
  | .lifeRecordUpdate a b => Sys2Proof.Machine.execLifeRecordUpdate a b s
  | .pcieLinkDown => Sys2Proof.Machine.execPcieLinkDown s
  | .porNRelease => Sys2Proof.Machine.execPorNRelease s
  | .sysRstNRelease => Sys2Proof.Machine.execSysRstNRelease s
  | .ppsOutPulseEnd => Sys2Proof.Machine.execPpsOutPulseEnd s
  | .wakeRetry => Sys2Proof.Machine.execWakeRetry s

end Sys2Proof.Machine
end

