-- ==== Sys2Proof/Machine/Step.lean ====
section
/-! DEFINITION. One step of the block: the command at the front of the queue runs on the state with the queue's rest; on
an empty queue one core cycle passes. -/

namespace Sys2Proof.Machine

/-- The step (DESIGN CHOICE for the empty queue: one core cycle passes, R5). -/
def step (s : State) : Host.Outcome State Fault Refusal :=
  match s.pending with
  | [] => .next (s.advance 1)
  | c :: rest => exec c { s with pending := rest }

/-- The state with the command that a word spells put at the front of the queue. The opcode table gives no row any bits,
so no word spells a command and the state is unchanged. (DESIGN CHOICE, log entry 14.) -/
def State.withFetchWord (s : State) (nbits w : Nat) : State :=
  match decodeTableWord nbits w with
  | some c => { s with pending := c :: s.pending }
  | none => s

end Sys2Proof.Machine
end

