-- ==== Sys2Proof/Safety.lean ====
section
/-! DEFINITION. What counts as a good state and a safe run, in the terms the statements use: the conditions under which a
command has its own effect, the invariant of the one-time-programmable memory, and the order in which that memory may move. -/

namespace Sys2Proof.Machine

/-! ### Where a command acts -/

/-- A write reaches the header of page `P` (R23, R397): the TM die and the page's die run, the page is within reach and
assigned. -/
def State.headerOpen (s : State) (P : Nat) : Bool :=
  s.tmOn && s.dieOn P && s.reachable P && pageAssigned P && decide (P < 8192)

/-- A command of the FE stack acts on the block of page `P`: the stack runs and the block registers answer (R23). -/
def State.feOpen (s : State) (P : Nat) : Bool := s.feOn && s.blockOpen P

/-- A command of the TM die acts on the block of page `P`. -/
def State.tmOpen (s : State) (P : Nat) : Bool := s.tmOn && s.blockOpen P

/-- Pages whose block registers hold settings and status alone: no write of one of their words starts anything (R23 to R25). -/
def plainPage (P : Nat) : Bool :=
  [1, 3, 48, 64, 66, 67, 71, 73, 74, 78, 79, 80, 4096, 4097, 4099, 4104, 4108, 4112, 4147].contains (pageBase P)

/-- What a timer leaves when it expires at `d`: the clock at `d` or later, the timer stopped. -/
def State.expired (s : State) (k : TimerKind) (i d : Nat) : State := (s.advanceTo d).disarm k i

/-! ### The one-time-programmable memory (R430 to R438) -/

/-- The OTP holds what R430, R435, R436 and R438 allow: four owner slots, each in one of its states; a lifecycle of 0 to 3; security
versions of 0 to 255; and in RETIRED, and only there, the erase with every bit of the owner slots burned to 1. -/
def Otp.legal (o : Otp) : Prop :=
  o.slots.length = 4 ∧ (∀ x ∈ o.slots, x.st ≤ 3) ∧ o.lifecycle ≤ 3 ∧ o.helriSvn < 256 ∧ o.almSvn < 256 ∧
    (o.erased = true ↔ o.lifecycle = 3) ∧
    (o.erased = true → o.slots = List.replicate 4 ⟨3, List.replicate 49 0xFF⟩)

/-- OTP `b` can follow `a`: the identity stands, the lifecycle and the security versions never go back, OWNER_ONLY and the erase
are never undone (R431, R435 to R438). -/
def Otp.follows (a b : Otp) : Prop :=
  b.deviceId = a.deviceId ∧ b.certHash = a.certHash ∧ a.lifecycle ≤ b.lifecycle ∧ a.helriSvn ≤ b.helriSvn ∧
    a.almSvn ≤ b.almSvn ∧ (a.ownerOnly = true → b.ownerOnly = true) ∧ (a.erased = true → b.erased = true)

/-- The invariant that every step keeps. -/
def State.otpLegal (s : State) : Prop := s.otp.legal

end Sys2Proof.Machine
end

