-- ==== Sys2Proof/Certificates/Slice0/Obligations.lean ====
section
/-! DEFINITION. The statements about the model, one definition each. Where a statement covers several groups of commands, its
parts stand before it as propositions of their own. -/

open Sys2Proof Sys2Proof.Machine

/-- Writes of a page's header (R29, R31, R32, R33, R36, R38). -/
def Sys2Proof.Claims.PageHeaderCommands : Prop :=
  ∀ (s : State) (P : Nat) (who : Agent), s.headerOpen P = true →
    exec (.pageEnable who P false) s = .next (s.updHdr P (fun h => { h with enable := false })) ∧
    (P < 4136 ∨ 4146 ≤ P ∧ P < 4160 ∨ 4176 ≤ P →
      exec (.pageEnable who P true) s = .next (s.updHdr P (fun h => { h with enable := true }))) ∧
    (4136 ≤ P ∧ P < 4146 → exec (.pageEnable who P true) s =
      .next ((pageLinks P).foldl (fun s n => s.linkEval n) (s.updHdr P (fun h => { h with enable := true })))) ∧
    (4160 ≤ P ∧ P < 4176 → s.blockOpen P = true → s.dmcState (P - 4160) = dmcOff → s.density (P - 4160) ≠ 0 →
      exec (.pageEnable who P true) s = .next ((s.updHdr P (fun h => { h with enable := true })).trainStart (P - 4160))) ∧
    (4160 ≤ P ∧ P < 4176 → s.blockOpen P = false ∨ s.dmcState (P - 4160) ≠ dmcOff ∨ s.density (P - 4160) = 0 →
      exec (.pageEnable who P true) s = .next (s.updHdr P (fun h => { h with enable := true }))) ∧
    (∀ mask, ∃ t, exec (.evtLatchClear P mask) s = .next t ∧ t = { s with hdrs := t.hdrs } ∧
      (∀ Q, Q ≠ P → t.hdr Q = s.hdr Q) ∧ t.hdr P = { s.hdr P with latch := (t.hdr P).latch } ∧
      ∀ n, n < 32 → bit (t.hdr P).latch n = (bit (s.hdr P).latch n && (!bit mask n || s.evtRaw P n))) ∧
    exec (.evtCaptureRelease P) s = .next (s.updHdr P (fun h =>
      { h with capValid := false, capSource := 0, capCause := 0, capForced := false, capTime := 0, capD0 := 0, capD1 := 0 })) ∧
    exec (.evtLostClear P) s = .next (s.updHdr P (fun h => { h with lostCount := 0, lostOvf := false })) ∧
    exec (.pageLockWrite who P true) s = .next (s.updHdr P (fun h => { h with lock := true })) ∧
    exec (.pageLockWrite .mc P false) s = .next (s.updHdr P (fun h => { h with lock := false })) ∧
    exec (.pageLockWrite .host P false) s = .next s ∧
    ∀ k v, k < 4 →
      exec (.perfCntPreset P k false v) s =
        .next (s.updHdr P (fun h => h.updPerf k (fun c => { c with count := setBits c.count 0 32 v }))) ∧
      exec (.perfCntPreset P k true v) s =
        .next (s.updHdr P (fun h => h.updPerf k (fun c => { c with count := setBits c.count 32 16 v })))

/-- EVT_FORCE raises every implemented source written 1, once, with FORCED (R31). -/
def Sys2Proof.Claims.EventForce : Prop :=
  ∀ (s : State) (P mask : Nat), s.headerOpen P = true →
    (∃ n, n < 32 ∧ bit mask n = true ∧ srcImplemented P n = true) →
    ∃ evs : List Raise,
      exec (.evtForce P mask) s = .next (({ s with freeCtr := s.freeCtr + 3 * evs.length } : State).raiseDepth 4 P true evs) ∧
      evs.map (·.src) = (List.range 32).filter (fun n => bit mask n && srcImplemented P n) ∧ ∀ e ∈ evs, e.page = P

/-- The statement over its parts: PageHeaderCommands, EventForce. -/
def Obligations.PageCommands : Prop :=
  Claims.PageHeaderCommands ∧ Claims.EventForce

/-- A write of 1 to SOFT_RESET enters the marker and starts the wait (R30, R406); the marker's admission, or 5 us, starts the
action (R407); IN_RESET clears when the block is ready again (R30, R409). -/
def Obligations.BlockResetCommands : Prop :=
  ∀ (s : State) (P : Nat) (who : Agent),
    (s.headerOpen P = true → softResetDiscarded P = false → s.inReset P = false → (∀ a ∈ s.acts, a.page = P → a.fence = true) →
      ∃ t nest, ({ s with acts := s.acts ++ [⟨false, P, false, s.cycle + 5 * cyUs⟩] } : State).sendRec
          ⟨P, 0, 1, 4, 1, .orderBreak, false, 0, s.time80, s.rf TM_EPOCH.EPOCH_SEQ.SEQ, s.resetMask P⟩ = (t, nest) ∧
        exec (.softReset who P) s = .next (t.raiseAll nest)) ∧
    (s.headerOpen P = true → softResetDiscarded P = true ∨ s.inReset P = true ∨ (∃ a ∈ s.acts, a.page = P ∧ a.fence = false) →
      exec (.softReset who P) s = .next s) ∧
    (s.dieOn P = true → ∀ a, s.acts.find? (fun a => decide (a.page = P)) = some a →
      (a.admitted = true → exec (.markerActionStart P) s = .next (s.actStart a)) ∧
      exec (.markerWaitLimit P) s = .next ((s.advanceTo a.limit).actStart a)) ∧
    (s.dieOn P = true → ¬(4160 ≤ P ∧ P < 4176 ∧ s.dmcState (P - 4160) = dmcTraining) →
      ∀ d, s.timerAt .blockReset P = some d →
        exec (.blockResetDone P) s =
          .next (((s.expired .blockReset P d).updHdr P (fun h => { h with inReset := false })).countLater P))

/-- A full-word write of a block register whose words only hold plain fields, while none is locked and no RWE bank is in use, gives
every field its part of the value by its access type and changes nothing else but what follows from the new settings (R6, R22); the
page counts the access (R414). -/
def Sys2Proof.Claims.RegisterWrites : Prop :=
  ∀ (s : State) (who : Agent) (P o v : Nat), s.headerOpen P = true → s.blockOpen P = true → 0x100 ≤ o → o < 4096 → o % 4 = 0 →
    v < 2 ^ 32 → pagePlaces P o ≠ [] → (s.hdr P).lock = false → s.bankInUse = false → (P < 4096 → s.log.accessBad = none) →
    ¬(P = 4149 ∧ (o = 0x100 ∨ o = 0x104)) → ¬(P = 4150 ∧ o = 0x108) →
      let u := s.hostAccess who P
      u.actWrite who P o v = none →
      exec (.registerWrite who (P * 4096 + o) 4 v .bar0) s = .next (((u.plainWrite P o v).capCheck u.expOver).latchBounds)

/-- REGISTER_WRITE of a page whose registers do nothing but hold settings completes, whatever the page holds: each RW and unlocked RWL
field of the word takes its bits, its W1C fields clear their ones, and no other field changes but the two that say a bound is exceeded
(R6, R22, R23). -/
def Sys2Proof.Claims.RegisterStores : Prop :=
  ∀ (s : State) (who : Agent) (P o v : Nat), s.headerOpen P = true → s.blockOpen P = true → plainPage P = true → 0x100 ≤ o → o < 4096 →
    o % 4 = 0 → v < 2 ^ 32 → pagePlaces P o ≠ [] → (s.hdr P).lock = false → s.bankInUse = false →
    (P < 4096 → s.log.accessBad = none) →
    let p := P - pageBase P
    ∃ t, exec (.registerWrite who (P * 4096 + o) 4 v .bar0) s = .next t ∧
      (∀ pl ∈ pagePlaces P o, pl.fld.w ≤ 32 →
        (pl.fld.acc = .rw ∨ pl.fld.acc = .rwl → t.rfp pl.fld p pl.idx = bits v pl.lo pl.fld.w) ∧
        (pl.fld.acc = .w1c → P ≠ 4096 → s.rfp pl.fld p pl.idx < 2 ^ pl.fld.w →
          t.rfp pl.fld p pl.idx = s.rfp pl.fld p pl.idx - (s.rfp pl.fld p pl.idx &&& bits v pl.lo pl.fld.w))) ∧
      (∀ g q j, (∀ pl ∈ pagePlaces P o, g.key q j ≠ pl.fld.key p pl.idx ∧ g.key q j ≠ pl.fld.key 0 pl.idx) →
        g.key q j ≠ TM_GLOBAL.BOUND_STATUS.IG_OVER.key 0 0 → g.key q j ≠ TM_GLOBAL.BOUND_STATUS.EG_OVER.key 0 0 →
        t.rfp g q j = s.rfp g q j) ∧
      (∀ Q, Q ≠ P → t.hdr Q = s.hdr Q) ∧ t = { s with regs := t.regs, regsB := t.regsB, hdrs := t.hdrs }

/-- The statement over its parts: RegisterWrites, RegisterStores. -/
def Obligations.RegisterWrite : Prop :=
  Claims.RegisterWrites ∧ Claims.RegisterStores

/-- What each access type makes of the part of a written word (R6): RW and unlocked RWL take it, W1C clears its ones, W1S sets
them, RO and WO keep nothing of it; an RWE field takes it in the staged bank unless that bank is in use (R34, R35). -/
def Obligations.AccessTypes : Prop :=
  ∀ (s : State) (P v i lo : Nat) (f : Fld), f.w ≤ 32 →
    let p := P - pageBase P
    let n := bits v lo f.w
    let t := s.placeWrite P v ⟨f, i, lo, false⟩
    (f.acc = .rw ∨ f.acc = .rwl → t.rfp f p i = n) ∧
    (f.acc = .w1c → s.rfp f p i < 2 ^ f.w → t.rfp f p i = s.rfp f p i - (s.rfp f p i &&& n)) ∧
    (f.acc = .w1s → s.rfp f p i < 2 ^ f.w → t.rfp f p i = s.rfp f p i ||| n) ∧
    (f.acc = .ro ∨ f.acc = .wo → t = s) ∧
    (f.acc = .rwe → s.bankInUse = false → t.rfBank f s.stagedBank i = n ∧ t.rfBank f (!s.stagedBank) i = s.rfBank f (!s.stagedBank) i) ∧
    (f.acc = .rwe → s.bankInUse = true → t = s) ∧
    ∀ g q j, g.key q j ≠ f.key p i → g.key q j ≠ f.key 0 i → t.rfp g q j = s.rfp g q j

/-- Accesses that are not answered as asked (R22, R23): a narrow write of an assigned page, an undefined offset and an unassigned
page raise ACCESS_ERR and write nothing; a fenced or resetting block discards block writes in silence. An access to an assigned page
that the host makes is counted by the page (R414). -/
def Sys2Proof.Claims.AccessErrors : Prop :=
  ∀ (s : State) (who : Agent) (P o v : Nat), s.tmOn = true → s.dieOn P = true → s.reachable P = true → P < 8192 → o < 4096 →
    o % 4 = 0 → v < 2 ^ 32 → (P < 4096 → s.log.accessBad = none) →
    let u := s.hostAccess who P
    let off := P * 4096 + o
    (pageAssigned P = true → v < 2 ^ 16 → exec (.registerWrite who off 2 v .bar0) s = .next (u.accessErr P 1 off v)) ∧
    (pageAssigned P = true → 0x80 ≤ o → o < 0x100 → exec (.registerWrite who off 4 v .bar0) s = .next (u.accessErr P 2 off v)) ∧
    (pageAssigned P = true → s.blockOpen P = true → 0x100 ≤ o → pagePlaces P o = [] →
      exec (.registerWrite who off 4 v .bar0) s = .next (u.accessErr P 2 off v)) ∧
    (pageAssigned P = true → s.blockOpen P = false → 0x100 ≤ o → exec (.registerWrite who off 4 v .bar0) s = .next u) ∧
    (pageAssigned P = false → exec (.registerWrite who off 4 v .bar0) s = .next (s.accessErr (globalPage P) 3 off v))

/-- Reads that change something: the LO word of a 64-bit counter answers its low half and latches the high half (R38); a read of a
drop counter re-arms its event (R301, R338, R426). The page counts the host's access (R414). -/
def Sys2Proof.Claims.CounterReads : Prop :=
  ∀ (s : State), s.tmOn = true →
    (∀ (P o i : Nat) (f : Fld), s.headerOpen P = true → s.blockOpen P = true → 0x100 ≤ o → o < 4096 → o % 4 = 0 → P ≠ 4154 → P ≠ 4146 →
      (P < 4096 → s.log.accessBad = none) →
      pagePlaces P o = [⟨f, i, 0, false⟩] → f.lat = true → f.w = 64 → f.acc = .ro →
      let u := s.hostAccess .host P
      u.derivedFe f (P - pageBase P) i = none → u.derivedTm f (P - pageBase P) i = none →
      ∃ t, exec (.counterLoReadLatch (P * 4096 + o) .bar0 4) s = .next t ∧
        t.out = .readData (s.rfp f (P - pageBase P) i % 2 ^ 32) :: s.out ∧
        SMap.get 0 t.hiLatch (f.key (P - pageBase P) i) = bits (s.rfp f (P - pageBase P) i) 32 32 ∧
        t = { s with out := t.out, hiLatch := t.hiLatch, sc := t.sc, tr := t.tr, hdrs := t.hdrs }) ∧
    (s.blockOpen 4156 = true → ∃ t, exec (.counterReadRearm (4156 * 4096 + 0x120) 4) s = .next t ∧ t.sc.sampleArm = true ∧
      t.out = .readData (s.rf TM_SAMPLE.SAMPLE_DROP.COUNT % 2 ^ 32) :: s.out ∧
      t = { s with out := t.out, hiLatch := t.hiLatch, hdrs := t.hdrs, sc := { s.sc with sampleArm := true } }) ∧
    (s.blockOpen 4148 = true → ∃ t, exec (.counterReadRearm (4148 * 4096 + TM_CHAN.STALE_DROP.COUNT.off) 4) s = .next t ∧
      t.sc.staleArm = true ∧ t.out = .readData (s.rf TM_CHAN.STALE_DROP.COUNT % 2 ^ 32) :: s.out ∧
      t = { s with out := t.out, hiLatch := t.hiLatch, hdrs := t.hdrs, sc := { s.sc with staleArm := true } }) ∧
    (s.feOn = true → s.blockOpen 77 = true → s.log.accessBad = none →
      ∃ t, exec (.counterReadRearm (77 * 4096 + FE_TRACE.TRACE_DROP.COUNT.off) 4) s = .next t ∧ t.tr.feArm = true ∧
      t.out = .readData (s.rf FE_TRACE.TRACE_DROP.COUNT % 2 ^ 32) :: s.out ∧
      t = { s with out := t.out, hiLatch := t.hiLatch, hdrs := t.hdrs, tr := { s.tr with feArm := true } }) ∧
    (s.blockOpen 4178 = true → ∃ t, exec (.counterReadRearm (4178 * 4096 + TM_PERF.TRACE_DROP.COUNT.off) 4) s = .next t ∧
      t.tr.tmArm = true ∧ t.out = .readData (s.rf TM_PERF.TRACE_DROP.COUNT % 2 ^ 32) :: s.out ∧
      t = { s with out := t.out, hiLatch := t.hiLatch, hdrs := t.hdrs, tr := { s.tr with tmArm := true } })

/-- BAR4 and configuration space: a doorbell reads as its index in force, a reserved offset reads 0 and its write raises RESERVED on
TM.HCMD (R43, R44); until Helri has read the board area or both slots have failed, configuration space asks for a retry
(R477); then it answers the identity of R39 and the revision of R513. -/
def Sys2Proof.Claims.OtherSpaces : Prop :=
  ∀ (s : State) (who : Agent), s.tmOn = true →
    (∀ n, n < 64 → exec (.counterLoReadLatch (n * 0x1000) .bar4 4) s = .next (s.emit (.readData (s.sqTail n % 2 ^ 32))) ∧
      exec (.counterLoReadLatch (n * 0x1000 + 4) .bar4 4) s = .next (s.emit (.readData (s.cqHead n % 2 ^ 32)))) ∧
    (∀ off v, 0x88100 ≤ off → off < 2 ^ 20 → off % 4 = 0 → v < 2 ^ 32 →
      exec (.counterLoReadLatch off .bar4 4) s = .next (s.emit (.readData 0)) ∧
      exec (.registerWrite who off 4 v .bar4) s = .next (s.accessErr 4105 2 off v)) ∧
    (s.cfgServes = true → exec (.counterLoReadLatch 0 .config 2) s = .next (s.emit (.readData 0x1F7B)) ∧
      exec (.counterLoReadLatch 2 .config 2) s = .next (s.emit (.readData 0x5120)) ∧
      exec (.counterLoReadLatch 8 .config 1) s = .next (s.emit (.readData 0xB0))) ∧
    (s.cfgServes = false → ∀ off width v, exec (.counterLoReadLatch off .config width) s = .next (s.emit .cfgRetry) ∧
      exec (.registerWrite who off width v .config) s = .next (s.emit .cfgRetry))

/-- Register commands of the management interface (R463): served, they act as a host access at REG_ADDR; otherwise they are NACKed and
counted, and a write without the PEC that is required is discarded. -/
def Sys2Proof.Claims.MgmtRegisters : Prop :=
  ∀ (s : State), s.pw.rst = 0 →
    (s.mgmtServes = false → ∀ v pec, exec (.mgmtRegWrite v pec) s = .next (s.sat1 TM_MGMT.NACKS.COUNT) ∧
      exec .mgmtRegRead s = .next (s.sat1 TM_MGMT.NACKS.COUNT)) ∧
    (s.mgmtServes = true → exec .mgmtRegRead s =
      .next ((s.busRead .host s.pw.regAddr 4).2.emit (.mgmt (toLe 4 (s.busRead .host s.pw.regAddr 4).1)))) ∧
    (s.mgmtServes = true → ∀ v pec, s.rfb TM_MGMT.CFG.PEC_REQ = false ∨ pec = true →
      exec (.mgmtRegWrite v pec) s = .next (s.busWrite .host s.pw.regAddr 4 v)) ∧
    (s.mgmtServes = true → ∀ v, s.rfb TM_MGMT.CFG.PEC_REQ = true →
      exec (.mgmtRegWrite v false) s = .next ((s.sat1 TM_MGMT.PEC_ERR.COUNT).raiseAon Ev.TM_MGMT.PEC_ERR 0 0x12 0))

/-- The statement over its parts: AccessErrors, CounterReads, OtherSpaces, MgmtRegisters. -/
def Obligations.RegisterAccess : Prop :=
  Claims.AccessErrors ∧ Claims.CounterReads ∧ Claims.OtherSpaces ∧ Claims.MgmtRegisters

/-- The PCI Express link: what training, a link down and a reset of the host interface leave (R40, R41, R42). -/
def Sys2Proof.Claims.HostLink : Prop :=
  ∀ (s : State), s.phyOn = true →
    (∀ speed width flit, 1 ≤ speed → speed ≤ 6 → width ∈ [1, 2, 4, 8, 16] → ∃ u,
      u = (((s.wf TM_PCIE.LINK_STATUS.SPEED speed).wf TM_PCIE.LINK_STATUS.WIDTH width).wf TM_PCIE.LINK_STATUS.FLIT (b2n flit)).wf
        TM_PCIE.LINK_STATUS.LINK_UP 1 ∧
      exec (.pcieLinkTrained speed width flit) s =
        .next (if u.linkBelow then u.raiseO Ev.TM_PCIE.LINK_DEGRADED 0 none none none else u)) ∧
    (∃ t, exec .pcieLinkDown s = .next t ∧ t = { s with regs := t.regs } ∧ t.rf TM_PCIE.LINK_STATUS.SPEED = 0 ∧
      t.rf TM_PCIE.LINK_STATUS.WIDTH = 0 ∧ t.rf TM_PCIE.LINK_STATUS.FLIT = 0 ∧ t.rf TM_PCIE.LINK_STATUS.LINK_UP = 0 ∧
      t.canPost = false) ∧
    (∀ kind, ∃ t, exec (.hostInterfaceReset kind) s = .next t ∧ t.hc.bme = false ∧ t.hc.d3hot = false ∧
      t.irq = ⟨false, false, [], []⟩ ∧ t.tm.dmaHeld = [] ∧
      t.hc.pci = { PciFn.reset with subsys := s.hc.pci.subsys, boardRead := s.hc.pci.boardRead } ∧ t.hc.sqTail = [] ∧ t.hc.cqHead = [] ∧
      (∀ c ∈ t.hc.cmds, c.orphan = true ∧ c.phase = .begun) ∧ t.hp.puntTail = [] ∧ t.hp.injTail = [] ∧
      (kind = .flr → t.rf TM_PCIE.LINK_STATUS.LINK_UP = s.rf TM_PCIE.LINK_STATUS.LINK_UP % 2))

/-- PCI Express power states and the MSI-X controls: every cause in PEND whose vector nothing blocks any more sends its message, in
ascending order, unless it has been disabled meanwhile, and its PEND bit clears; every other PEND bit stands (R40, R70). -/
def Sys2Proof.Claims.Interrupts : Prop :=
  ∀ (s : State),
    let free := fun (u : State) (n : Nat) => decide (s.rfi TM_MSIX.CAUSE_MAP.PEND n = 1) && !u.irqBlocked (s.rfi TM_MSIX.CAUSE_MAP.VECTOR n)
    let sent := fun (u t : State) => t = { u with irq := t.irq, regs := t.regs, out := t.out } ∧ t.irq.enable = u.irq.enable ∧
      t.irq.fnMask = u.irq.fnMask ∧ t.irq.coal = u.irq.coal ∧
      (∀ n, n < 768 → t.rfi TM_MSIX.CAUSE_MAP.PEND n = if free u n then 0 else s.rfi TM_MSIX.CAUSE_MAP.PEND n) ∧
      t.out = (((List.range 768).filter (fun n => free u n && decide (s.rfi TM_MSIX.CAUSE_MAP.ENABLE n = 1))).map
        (fun n => Out.msix (s.rfi TM_MSIX.CAUSE_MAP.VECTOR n))).reverse ++ s.out
    (s.phyOn = true → ∀ d3 bme, ∃ t, exec (.pciePowerState d3 bme) s = .next t ∧ t.hc.d3hot = d3 ∧ t.hc.bme = bme ∧
      sent { s with hc := { s.hc with d3hot := d3, bme := bme } } t) ∧
    (s.tmOn = true → ∀ en fm, ∃ t, exec (.msixUnblock (.control en fm)) s = .next t ∧ t.irq.enable = en ∧ t.irq.fnMask = fm ∧
      sent { s with irq := { s.irq with enable := en, fnMask := fm } } t) ∧
    (s.tmOn = true → ∀ v a d m, v < 2048 → ∃ t, exec (.msixUnblock (.vector v a d m)) s = .next t ∧
      sent { s with irq := { s.irq with vecs := SMap.upd MsixVec.reset s.irq.vecs v (fun x =>
        { x with addr := a % 2 ^ 64, data := d % 2 ^ 32, masked := m }) } } t)

/-- A cause that fires sends its message, or waits in PEND while something blocks it; one that waits already merges, and a cause not
enabled does nothing (R70). A coalescing timer that expires fires its cause and its count starts again (R45). -/
def Sys2Proof.Claims.CauseFires : Prop :=
  ∀ (s : State) (n : Nat),
    (s.rfi TM_MSIX.CAUSE_MAP.ENABLE n = 0 ∨ s.rfi TM_MSIX.CAUSE_MAP.PEND n = 1 → s.causeFire n = s) ∧
    (s.rfi TM_MSIX.CAUSE_MAP.ENABLE n ≠ 0 → s.rfi TM_MSIX.CAUSE_MAP.PEND n ≠ 1 →
      (s.irqBlocked (s.rfi TM_MSIX.CAUSE_MAP.VECTOR n) = false →
        s.causeFire n = s.emit (.msix (s.rfi TM_MSIX.CAUSE_MAP.VECTOR n))) ∧
      (s.irqBlocked (s.rfi TM_MSIX.CAUSE_MAP.VECTOR n) = true →
        (s.causeFire n).rfi TM_MSIX.CAUSE_MAP.PEND n = 1 ∧ (s.causeFire n).out = s.out ∧
          (SMap.get MsixVec.reset (s.causeFire n).irq.vecs (s.rfi TM_MSIX.CAUSE_MAP.VECTOR n)).pba = true)) ∧
    ∀ d, s.tmOn = true → s.timerAt .coal n = some d →
      exec (.coalTimerExpire n) s = .next
        (({ (s.expired .coal n d) with irq := { (s.expired .coal n d).irq with coal := SMap.put 0 (s.expired .coal n d).irq.coal n 0 } }
          : State).causeFire n)

/-- The statement over its parts: HostLink, Interrupts, CauseFires. -/
def Obligations.HostInterrupts : Prop :=
  Claims.HostLink ∧ Claims.Interrupts ∧ Claims.CauseFires

/-- Doorbells (R44, R47, R51, R61): a value in range is taken; one out of range raises DOORBELL_ERR and a narrow write ACCESS_ERR, and
neither changes the tail or head in force. -/
def Sys2Proof.Claims.Doorbells : Prop :=
  ∀ (s : State) (n width v : Nat), s.tmOn = true → n < 64 → 4 ≤ width →
    (s.inReset 4105 = false → v % 2 ^ 16 < 2 ^ s.rfi TM_HCMD.RING_CTRL.LOG2_SIZE n →
      exec (.sqTailDoorbell n width v) s = .next { s with hc := { s.hc with sqTail := SMap.put 0 s.hc.sqTail n (v % 2 ^ 16) } }) ∧
    (s.inReset 4105 = false → ¬ v % 2 ^ 16 < 2 ^ s.rfi TM_HCMD.RING_CTRL.LOG2_SIZE n →
      exec (.sqTailDoorbell n width v) s = .next (s.raiseO Ev.TM_HCMD.DOORBELL_ERR 0 (some 1) none none)) ∧
    (s.inReset 4105 = false → headOk (s.ringSize n) (s.cqHead n) (s.rfi TM_HCMD.CQ_STATUS.CQ_TAIL n) (v % 2 ^ 16) = true →
      exec (.cqHeadDoorbell n width v) s = .next { s with hc := { s.hc with cqHead := SMap.put 0 s.hc.cqHead n (v % 2 ^ 16) } }) ∧
    (s.inReset 4105 = false → headOk (s.ringSize n) (s.cqHead n) (s.rfi TM_HCMD.CQ_STATUS.CQ_TAIL n) (v % 2 ^ 16) = false →
      exec (.cqHeadDoorbell n width v) s = .next (s.raiseO Ev.TM_HCMD.DOORBELL_ERR 0 (some 2) none none)) ∧
    (s.inReset 4106 = false → v % 2 ^ 16 < 2 ^ s.rfi TM_HPKT.PUNT_CTRL.LOG2_SIZE n →
      exec (.puntTailDoorbell n width v) s = .next { s with hp := { s.hp with puntTail := SMap.put 0 s.hp.puntTail n (v % 2 ^ 16) } }) ∧
    (s.inReset 4106 = false → ¬ v % 2 ^ 16 < 2 ^ s.rfi TM_HPKT.PUNT_CTRL.LOG2_SIZE n →
      exec (.puntTailDoorbell n width v) s = .next (s.raiseO Ev.TM_HPKT.DOORBELL_ERR 0 (some 1) none none)) ∧
    (s.inReset 4106 = false → v % 2 ^ 16 < 2 ^ s.rfi TM_HPKT.INJ_CTRL.LOG2_SIZE n →
      exec (.injectTailDoorbell n width v) s = .next { s with hp := { s.hp with injTail := SMap.put 0 s.hp.injTail n (v % 2 ^ 16) } }) ∧
    (s.inReset 4106 = false → ¬ v % 2 ^ 16 < 2 ^ s.rfi TM_HPKT.INJ_CTRL.LOG2_SIZE n →
      exec (.injectTailDoorbell n width v) s = .next (s.raiseO Ev.TM_HPKT.DOORBELL_ERR 0 (some 1) none none)) ∧
    ∀ w, w < 4 →
      (s.inReset 4105 = false → exec (.sqTailDoorbell n w v) s = .next (s.accessErr 4105 1 (n * 0x1000) v) ∧
        exec (.cqHeadDoorbell n w v) s = .next (s.accessErr 4105 1 (n * 0x1000 + 4) v)) ∧
      (s.inReset 4106 = false → exec (.puntTailDoorbell n w v) s = .next (s.accessErr 4106 1 (0x40000 + n * 0x1000) v) ∧
        exec (.injectTailDoorbell n w v) s = .next (s.accessErr 4106 1 (0x40000 + n * 0x1000 + 4) v))

/-- Command, punt and inject rings (R46, R61): an idle ring of a legal size is enabled empty, at entry 0 and phase 1; ENABLE = 1 for an
active ring or with an illegal size or limit is refused with BAD_CONFIG; a disabled ring has ENABLE 0. Nothing but the ring's own registers
and doorbells changes where nothing is refused. -/
def Sys2Proof.Claims.RingControl : Prop :=
  ∀ (s : State) (n ctrl : Nat), s.tmOn = true → n < 64 →
    (s.blockOpen 4105 = true → s.ringActive n = false → 6 ≤ bits ctrl 0 4 → bits ctrl 0 4 ≤ 12 → 1 ≤ bits ctrl 8 12 → bits ctrl 8 12 ≤ 2048 →
      ∃ t, exec (.ringEnable (.cmd n) ctrl) s = .next t ∧ t.rfi TM_HCMD.RING_CTRL.ENABLE n = 1 ∧
        t.rfi TM_HCMD.RING_CTRL.LOG2_SIZE n = bits ctrl 0 4 ∧ t.rfi TM_HCMD.RING_CTRL.MAX_INFLIGHT n = bits ctrl 8 12 ∧
        t.rfi TM_HCMD.RING_STATUS.SQ_HEAD n = 0 ∧ t.rfi TM_HCMD.CQ_STATUS.CQ_TAIL n = 0 ∧ t.rfi TM_HCMD.CQ_STATUS.CQ_PHASE n = 1 ∧
        t.rfi TM_HCMD.RING_STATUS.ERROR n = 0 ∧ t.sqTail n = 0 ∧ t.cqHead n = 0 ∧ t = { s with regs := t.regs, hc := t.hc } ∧
        t.hc.cmds = s.hc.cmds) ∧
    (s.blockOpen 4105 = true → let log := bits ctrl 0 4
      let mx := bits ctrl 8 12
      s.ringActive n = true ∨ log < 6 ∨ 12 < log ∨ mx = 0 ∨ 2048 < mx →
      exec (.ringEnable (.cmd n) ctrl) s = .next (((if s.ringActive n then s else s.wfi TM_HCMD.RING_CTRL.LOG2_SIZE n log).wfi
        TM_HCMD.RING_CTRL.MAX_INFLIGHT n mx).raiseO Ev.TM_HCMD.BAD_CONFIG 0 none none none)) ∧
    (s.blockOpen 4106 = true → let log := bits ctrl 0 4
      (s.rfi TM_HPKT.PUNT_CTRL.ENABLE n = 1 ∨ log < 6 ∨ 12 < log → exec (.ringEnable (.punt n) ctrl) s =
        .next ((((if s.rfi TM_HPKT.PUNT_CTRL.ENABLE n = 1 then s else s.wfi TM_HPKT.PUNT_CTRL.LOG2_SIZE n log).wfi
          TM_HPKT.PUNT_CTRL.COAL_COUNT n (bits ctrl 8 8)).wfi TM_HPKT.PUNT_CTRL.COAL_TIME_US n (bits ctrl 16 16)).raiseO
          Ev.TM_HPKT.BAD_CONFIG 0 none none none)) ∧
      (s.rfi TM_HPKT.INJ_CTRL.ENABLE n = 1 ∨ s.injInflight n = true ∨ log < 6 ∨ 12 < log → exec (.ringEnable (.inject n) ctrl) s =
        .next ((((if s.rfi TM_HPKT.INJ_CTRL.ENABLE n = 1 ∨ s.injInflight n = true then s else s.wfi TM_HPKT.INJ_CTRL.LOG2_SIZE n log).wfi
          TM_HPKT.INJ_CTRL.COAL_COUNT n (bits ctrl 8 8)).wfi TM_HPKT.INJ_CTRL.COAL_TIME_US n (bits ctrl 16 16)).raiseO
          Ev.TM_HPKT.BAD_CONFIG 0 none none none))) ∧
    (s.blockOpen 4106 = true → s.rfi TM_HPKT.PUNT_CTRL.ENABLE n ≠ 1 → 6 ≤ bits ctrl 0 4 → bits ctrl 0 4 ≤ 12 →
      ∃ t, exec (.ringEnable (.punt n) ctrl) s = .next t ∧ t.rfi TM_HPKT.PUNT_CTRL.ENABLE n = 1 ∧
        t.rfi TM_HPKT.PUNT_CTRL.LOG2_SIZE n = bits ctrl 0 4 ∧ t.rfi TM_HPKT.PUNT_STATUS.HEAD n = 0 ∧
        t.rfi TM_HPKT.PUNT_STATUS.PHASE n = 1 ∧ SMap.get 0 t.hp.puntTail n = 0 ∧ t = { s with regs := t.regs, hp := t.hp }) ∧
    (s.blockOpen 4106 = true → s.rfi TM_HPKT.INJ_CTRL.ENABLE n ≠ 1 → s.injInflight n = false →
      6 ≤ bits ctrl 0 4 → bits ctrl 0 4 ≤ 12 →
      ∃ t, exec (.ringEnable (.inject n) ctrl) s = .next t ∧ t.rfi TM_HPKT.INJ_CTRL.ENABLE n = 1 ∧
        t.rfi TM_HPKT.INJ_CTRL.LOG2_SIZE n = bits ctrl 0 4 ∧ t.rfi TM_HPKT.INJ_STATUS.HEAD n = 0 ∧
        t.rfi TM_HPKT.INJ_STATUS.PHASE n = 1 ∧ SMap.get 0 t.hp.injTail n = 0 ∧ t = { s with regs := t.regs, hp := t.hp }) ∧
    (s.blockOpen 4105 = true → (s.ringActive n = true → bits ctrl 0 4 = s.rfi TM_HCMD.RING_CTRL.LOG2_SIZE n) →
      ∃ t, exec (.ringDisable (.cmd n) ctrl) s = .next t ∧ t.rfi TM_HCMD.RING_CTRL.ENABLE n = 0 ∧ t = { s with regs := t.regs }) ∧
    (s.blockOpen 4106 = true → (s.rfi TM_HPKT.PUNT_CTRL.ENABLE n = 1 → bits ctrl 0 4 = s.rfi TM_HPKT.PUNT_CTRL.LOG2_SIZE n) →
      ∃ t, exec (.ringDisable (.punt n) ctrl) s = .next t ∧ t.rfi TM_HPKT.PUNT_CTRL.ENABLE n = 0 ∧ t = { s with regs := t.regs }) ∧
    (s.blockOpen 4106 = true →
      (s.rfi TM_HPKT.INJ_CTRL.ENABLE n = 1 ∨ s.injInflight n = true → bits ctrl 0 4 = s.rfi TM_HPKT.INJ_CTRL.LOG2_SIZE n) →
      ∃ t, exec (.ringDisable (.inject n) ctrl) s = .next t ∧ t.rfi TM_HPKT.INJ_CTRL.ENABLE n = 0 ∧ t = { s with regs := t.regs })

/-- PUNT_DELIVER (R62 to R64): a whole packet at the head of a channel's host queue is written behind its metadata to the next
buffer, its descriptor is written back, and the packet departs; without a buffer it is dropped and counted, and so it is when the
descriptor read fails, which stops the ring (R46, R61). -/
def Sys2Proof.Claims.PuntDelivery : Prop :=
  ∀ (s : State) (c : Nat) (p : Pkt), s.tmOn = true → c < 64 → s.hc.d3hot = false → s.fetchStopped = false → s.operating 4106 = true →
    s.headAt (.hostq c) = some p → p.whole = true →
    let q := SMap.get 0 s.hp.puntSeq c
    let usable := s.rfi TM_HPKT.PUNT_CTRL.ENABLE c ≠ 0 ∧ SMap.get false s.hp.stopped c = false ∧
      s.rfi TM_HPKT.PUNT_STATUS.HEAD c ≠ SMap.get 0 s.hp.puntTail c
    let drop := fun (u : State) => (u.sat TM_HPKT.PUNT_DROP.COUNT 0 c 1).dropPkt p
    (∀ d, p.bad = false → usable → s.canPost = true →
      256 ≤ leNat ((d.drop 8).take 2) → leNat ((d.drop 8).take 2) ≤ 16384 → leNat ((d.drop 8).take 2) % 64 = 0 →
      let size := leNat ((d.drop 8).take 2)
      let trunc := decide (size < p.data.length + 32)
      let body := (toLe 32 (puntMeta p q (s.bankSeq p.bank) trunc) ++ p.data).take size
      let u := ((s.emit (.packetWrite (le64 d 0 / 64 * 64) body (bit s.hc.pci.devCtl 4) (bit s.hc.pci.devCtl 11))).puntWriteBack c body.length
        (if trunc then 1 else 0) false).2
      exec (.puntDeliver c (.data d) false false) s = .next (((u.puntCount c 1).traceHalf p true false false true).departPkt p)) ∧
    (∀ bad back, p.bad = false → usable → exec (.puntDeliver c .fail bad back) s = .next (drop
      (({ s with hp := { s.hp with stopped := SMap.put false s.hp.stopped c true } } : State).raiseO Ev.TM_HPKT.FETCH_ERR 0 (some 1) none none))) ∧
    (∀ desc bad back, p.bad = true ∨ s.rfi TM_HPKT.PUNT_CTRL.ENABLE c = 0 ∨ SMap.get false s.hp.stopped c = true ∨
        s.rfi TM_HPKT.PUNT_STATUS.HEAD c = SMap.get 0 s.hp.puntTail c →
      exec (.puntDeliver c desc bad back) s = .next (drop s))

/-- The statement over its parts: Doorbells, RingControl, PuntDelivery. -/
def Obligations.HostRings : Prop :=
  Claims.Doorbells ∧ Claims.RingControl ∧ Claims.PuntDelivery

/-- The life of a command (R46 to R60): its fetch, the read's answer, its completion entry, and the direct slot. -/
def Sys2Proof.Claims.CommandFlow : Prop :=
  ∀ (s : State), s.tmOn = true →
    (∀ n, s.fetchStopped = false → s.fetchTurn = some n →
      let h := s.rfi TM_HCMD.RING_STATUS.SQ_HEAD n
      let addr := s.rfi TM_HCMD.SQ_BASE_HI.ADDR n * 2 ^ 32 + s.rfi TM_HCMD.SQ_BASE_LO.ADDR n * 2 ^ 12 + h * 64
      let u := s.wfi TM_HCMD.RING_STATUS.SQ_HEAD n ((h + 1) % s.ringSize n)
      exec .commandFetch s = .next (({ u with hc := { s.hc with
        cmds := s.hc.cmds ++ [⟨s.hc.nextId, some n, addr, 0, .fetching, 0, 0, 0, 0, [], 0, false, false, none⟩],
        nextId := s.hc.nextId + 1, turn := (n + 1) % 64 } } : State).emit (.hostRead addr 64))) ∧
    (∀ id c bs, s.cmd id = some c → c.phase = .fetching →
      exec (.fetchReadDone id (.data bs)) s = .next
        (s.updCmd id (fun c => { c with phase := .fetched, record := BitVec.ofNat 512 (leNat (bs.take 64)) })) ∧
      ∀ n, c.ring = some n → exec (.fetchReadDone id .fail) s = .next
        (((s.dropCmd id).wfi TM_HCMD.RING_STATUS.ERROR n 1).raiseO Ev.TM_HCMD.FETCH_ERR 0 (some 1) none none)) ∧
    (∀ n c, s.operating 4105 = true → s.oldestFinished n = some c → s.cqFull n = false → c.byReset = false →
      let t := s.rfi TM_HCMD.CQ_STATUS.CQ_TAIL n
      let ph := s.rfi TM_HCMD.CQ_STATUS.CQ_PHASE n
      let addr := s.rfi TM_HCMD.CQ_BASE_HI.ADDR n * 2 ^ 32 + s.rfi TM_HCMD.CQ_BASE_LO.ADDR n * 2 ^ 12 + t * 32
      let w := toLe 32 (completionWord (c.bits 16 16) c.status ph (s.rfi TM_HCMD.RING_STATUS.SQ_HEAD n) c.detail c.epochSeq c.result)
      let sent := ((c.bufs ++ [(addr + 4, w.drop 4), (addr, w.take 4)]).foldl (fun (s : State) e => s.emit (.hostWrite e.1 e.2)) s).dropCmd c.id
      let moved := sent.wfi TM_HCMD.CQ_STATUS.CQ_TAIL n ((t + 1) % s.ringSize n)
      let u := if (t + 1) % s.ringSize n = 0 then moved.wfi TM_HCMD.CQ_STATUS.CQ_PHASE n (1 - ph) else moved
      (s.canPost = true → exec (.completionWrite n false) s =
        .next (u.coalesce n (u.rfi TM_HCMD.IRQ_COAL.COUNT n) (u.rfi TM_HCMD.IRQ_COAL.TIME_US n))) ∧
      exec (.completionWrite n true) s = .next
        (((s.dropCmd c.id).loseCpl.wfi TM_HCMD.RING_STATUS.ERROR n 1).raiseO Ev.TM_HCMD.FETCH_ERR 0 (some 2) none none)) ∧
    (∀ id c, s.cmd id = some c → s.mayStart c = true → c.opcode = 1 → exec (.fence id) s = .next (s.finishR c.id stOK 0 0)) ∧
    (∀ id c, s.cmd id = some c → s.mayStart c = true → opcodeKnown c.opcode = false →
      exec (.unknownOpcode id) s = .next (s.finishR c.id stInvalid 1 0)) ∧
    (s.blockOpen 4105 = true →
      exec .dresResultAck s = .next (s.wf TM_HCMD.DRES_CTRL.VALID 0) ∧
      (s.rfb TM_HCMD.DRES_CTRL.BUSY = false → s.rfb TM_HCMD.DRES_CTRL.VALID = false → s.inflightAll < 2048 →
        ∃ c t, exec .dcmdGo s = .next t ∧ c.id = s.hc.nextId ∧ c.ring = none ∧ c.phase = .fetched ∧
          c.record = BitVec.ofNat 512 ((List.range 16).foldl (fun a k => a + s.rfi TM_HCMD.DCMD.WORD k * 2 ^ (32 * k)) 0) ∧
          t.hc = { s.hc with cmds := s.hc.cmds ++ [c], nextId := s.hc.nextId + 1 } ∧ t.rfb TM_HCMD.DRES_CTRL.BUSY = true ∧
          t = { s with regs := t.regs, hc := t.hc }) ∧
      (s.rfb TM_HCMD.DRES_CTRL.BUSY = true ∨ s.rfb TM_HCMD.DRES_CTRL.VALID = true ∨ 2048 ≤ s.inflightAll →
        exec .dcmdGo s = .next (s.raiseO Ev.TM_HCMD.DCMD_BUSY 0 none none none)))

/-- What finishing a command leaves (R42, R50, R51, R60): a ring command holds its completion, stamped with the EPOCH_SEQ under which its
effect took hold, until it is written; the direct command's completion stands in DRES with VALID 1 and BUSY 0; an orphan's is lost. -/
def Sys2Proof.Claims.CommandFinishes : Prop :=
  ∀ (s : State) (id status detail result : Nat) (c : Cmd), s.cmd id = some c →
    let seq := c.effSeq.getD (s.rf TM_EPOCH.EPOCH_SEQ.SEQ)
    (c.orphan = true → s.finishR id status detail result = s.dropCmd id) ∧
    (c.orphan = false → c.ring.isSome = true → ∃ t, s.finishR id status detail result = t ∧
      t.cmd id = some { c with phase := .finished, status := status, detail := detail, result := result, bufs := [],
                               epochSeq := seq, finSeq := s.hc.nextFin } ∧
      t = { s with hc := t.hc } ∧ t.hc.nextFin = s.hc.nextFin + 1) ∧
    (c.orphan = false → c.ring = none → ∃ t, s.finishR id status detail result = t ∧ t.cmd id = none ∧
      t.rf TM_HCMD.DRES_CTRL.VALID = 1 ∧ t.rf TM_HCMD.DRES_CTRL.BUSY = 0 ∧
      (∀ k, k < 8 → t.rfi TM_HCMD.DRES.WORD k =
        bits (completionWord (c.bits 16 16) status 1 0 detail seq result) (32 * k) 32) ∧
      t = { s with regs := t.regs, hc := t.hc })

/-- The statement over its parts: CommandFlow, CommandFinishes. -/
def Obligations.CommandLife : Prop :=
  Claims.CommandFlow ∧ Claims.CommandFinishes

/-- EPOCH commands (R85 to R88, R90, R94, R98): what each leaves where the state of R87 admits it, and EPOCH_BUSY or INVALID where
it does not. -/
def Sys2Proof.Claims.EpochCommands : Prop :=
  ∀ (s : State) (id : Nat) (c : Cmd), s.tmOn = true → s.cmd id = some c → s.mayStart c = true → s.ep.remirror = false →
    s.epochState ≠ esRetiring →
    (c.opcode = 0x30 → c.bits 64 4 = 1 → s.ep.stage = none → s.epochState = esNoEpoch ∨ s.epochState = esIdle → c.bits 192 32 ≠ 0 →
      ∀ img, let u := ((s.stageStart id s.epochState).arm .stage 0 (2 * cySec)).wf TM_ALM.LOAD_STATUS.PHASE 1
        u.epochState = esStaging ∧ u.ep.stage = some (id, s.epochState) ∧ u.armed .stage 0 = true ∧
        exec (.epochStageAlmanac id img) s = .next (u.stageRun id s.epochState (c.bits 192 32) img)) ∧
    (c.opcode = 0x30 → c.bits 64 4 = 2 → s.epochState = esIdle ∨ s.epochState = esStaged → c.bits 192 32 ≠ 0 → c.bits 192 32 % 64 = 0 →
      let u := s.stageStart id s.epochState
      let failed := u.stageOver.setEpochState s.epochState
      u.epochState = esStaging ∧ (s.loaderHeld = true → ∀ r, exec (.epochStageRules id r) s = .next u) ∧
      (s.loaderHeld = false → ∀ bs, exec (.epochStageRules id (.data bs)) s = .next
        (match u.rulesApply u.stagedBank false 0 (ruleRecords bs (c.bits 192 32 / 64)) with
         | .ok t => (t.stageOver.setEpochState esStaged).finishR id stOK 0
             ((t.stageOver.setEpochState esStaged).rf TM_EPOCH.RULE_CHANGES.COUNT)
         | .error (i, .code k) => (failed.loadFail ⟨k, false, none, some (64 * i)⟩).finishR id stInvalid k 0
         | .error (i, .full t) => ((failed.countRehash t).loadFail ⟨0, false, none, some (64 * i)⟩).finishR id stNeedRehash t 0)) ∧
      (s.loaderHeld = false → exec (.epochStageRules id .fail) s =
        .next ((failed.loadFail ⟨0x0108, false, none, none⟩).finishR id stInvalid 0x0108 0))) ∧
    (c.opcode = 0x30 → c.bits 64 4 = 2 → s.epochState = esNoEpoch → ∀ r,
      exec (.epochStageRules id r) s = .next (s.finishR id stInvalid 0x0603 0)) ∧
    (c.opcode = 0x31 → s.epochState = esStaged → s.commitLocked = none →
      (c.bits 224 32 = 0 ∨ c.bits 224 32 = s.rf TM_EPOCH.EPOCH_SEQ.SEQ) →
      let at_ := (c.bits 160 48 * 1000000000 + c.bits 128 32) * 2 ^ 32
      at_ ≤ s.time + 10 * secUnits →
      ∃ t, exec (.epochCommit id) s = .next t ∧ t.epochState = esArmed ∧ t.ep.commit = some (id, decide (c.bits 208 1 = 1)) ∧
        t.ep.rolled = false ∧ t = { s with regs := t.regs, ep := t.ep, hc := t.hc, timers := t.timers } ∧
        (at_ < s.time + nearFlip → t.ep.flipTime = 0 ∧ t.timerAt .flip 0 = some (s.cycle + 256)) ∧
        (¬ at_ < s.time + nearFlip → t.ep.flipTime = at_ ∧ t.timers = s.timers)) ∧
    (c.opcode = 0x31 → s.epochState = esNoEpoch ∨ s.epochState = esIdle →
      exec (.epochCommit id) s = .next (s.finishR id stInvalid 0x0602 0)) ∧
    (c.opcode = 0x31 → s.epochState ≠ esNoEpoch → s.epochState ≠ esIdle → s.epochState ≠ esStaged →
      exec (.epochCommit id) s = .next (s.finishR id stEpochBusy 0 0)) ∧
    (c.opcode = 0x32 → c.bits 128 1 = 0 →
      (s.epochState = esNoEpoch ∨ s.epochState = esIdle → exec (.epochAbort id) s = .next (s.finishR id stOK 0 s.epochState)) ∧
      (s.epochState = esStaged ∨ s.epochState = esFailed → s.ep.stage = none →
        let u := s.abandonTo
        u.epochState = s.restState ∧ u.ep.remirror = true ∧ exec (.epochAbort id) s = .next (u.finishR id stOK 0 s.restState)) ∧
      (s.epochState = esStaging → ∀ k prev, s.ep.stage = some (k, prev) →
        exec (.epochAbort id) s = .next ((s.finishR k stAborted 0 0).abandonTo.abortDone id)) ∧
      (s.epochState = esArmed → ∀ f, s.flipCycle = some f → s.cycle < f → ∀ k d, s.ep.commit = some (k, d) →
        exec (.epochAbort id) s = .next
          ((({ (s.setEpochState esStaged).disarm .flip 0 with ep := { s.ep with commit := none, flipTime := 0 } } : State).finishR k
            stAborted 0 0).abortDone id)) ∧
      (s.epochState = esDraining ∨ s.epochState = esExpired → exec (.epochAbort id) s = .next (s.finishR id stEpochBusy 0 0))) ∧
    (c.opcode = 0x32 → c.bits 128 1 = 1 →
      (s.epochState = esDraining → s.ep.rolled = false →
        ∃ t, exec (.epochRollback id) s = .next t ∧ t.timerAt .flip 0 = some (s.cycle + 256) ∧
          t.ep = { s.ep with rolled := true, rollbackArmed := true, rollbackCmd := some id } ∧
          t = { s with ep := t.ep, hc := t.hc, timers := t.timers }) ∧
      (∀ f, s.flipCycle = some f → f ≤ s.cycle → s.epochFlip.epochState = esDraining → s.epochFlip.ep.rolled = false →
        ∃ t, exec (.epochRollback id) s = .next t ∧ t.timerAt .flip 0 = some (s.epochFlip.cycle + 256) ∧
          t.ep = { s.epochFlip.ep with rolled := true, rollbackArmed := true, rollbackCmd := some id } ∧
          t = { s.epochFlip with ep := t.ep, hc := t.hc, timers := t.timers }) ∧
      (s.epochState ≠ esDraining ∨ s.ep.rolled = true → (∀ f, s.flipCycle = some f → s.cycle < f) →
        exec (.epochRollback id) s = .next (s.finishR id stEpochBusy 0 0)))

/-- The transitions of the epoch machine that no command makes (R87, R89 to R95, R110). -/
def Sys2Proof.Claims.EpochTransitions : Prop :=
  ∀ (s : State),
    (s.tmOn = true → ∀ f, s.flipCycle = some f →
      let u := (s.advanceTo f).disarm .flip 0
      let old := if s.ep.fromNone then none else some u.activeBank
      let v := (({ u with ep := { s.ep with flipTime := 0 } } : State).flipTo u.stagedBank).wf TM_EPOCH.STATE.ROLLBACK 0
      let e := match s.ep.commit with
        | some (id, _) => v.tookEffect id
        | none => v
      let w : State := { e with ep := { e.ep with fromNone := false } }
      let x := ((if s.ep.fromNone then w.setEpochState esRetiring else w.startDrain).afterFlip old).raiseEpoch [Ev.TM_EPOCH.FLIPPED]
      exec .epochFlip s = .next (match x.ep.commit with
        | some (_, false) => x.commitDone false
        | _ => x)) ∧
    (s.tmOn = true → s.epochState = esDraining → s.ep.rollbackArmed = false →
      (∀ d, s.timerAt .settle 0 = some d →
        exec .drainSettled s = .next (((s.expired .settle 0 d).setEpochState esRetiring).disarm .retire 0)) ∧
      (∀ d, s.timerAt .retire 0 = some d →
        exec .retireTimeout s =
          .next ((((s.expired .retire 0 d).raiseEpoch [Ev.TM_EPOCH.RETIRE_TIMEOUT]).setEpochState esExpired).purge))) ∧
    (s.tmOn = true → s.epochState = esExpired → ∀ d, s.timerAt .settle 0 = some d →
      exec .purgeDone s = .next (((s.expired .settle 0 d).setEpochState esRetiring).disarm .retire 0)) ∧
    (s.tmOn = true → s.epochState = esRetiring →
      let u := ((s.settleRules.mirrorBank.storeRenew (!s.activeBank)).dropLocks).setEpochState esIdle
      let v := (u.wf TM_EPOCH.DRAIN_US.US (min ((u.cycle - u.ep.flipAt) / cyUs) (2 ^ 32 - 1))).wf TM_EPOCH.STATE.ROLLBACK 0
      exec .retireMirrorDone s = .next ((v.latchBounds.raiseEpoch [Ev.TM_EPOCH.RETIRED]).commitDone true)) ∧
    (s.tmOn = true → s.ep.rollbackArmed = true → ∀ d id, s.timerAt .flip 0 = some d → s.ep.rollbackCmd = some id →
      let u := s.expired .flip 0 d
      let v := (({ u with ep := { s.ep with rollbackArmed := false, rollbackCmd := none } } : State).flipTo (!u.activeBank)).wf
        TM_EPOCH.STATE.ROLLBACK 1
      exec .rollbackFlip s = .next (((v.startDrain.afterFlip (some u.activeBank)).raiseEpoch
        [Ev.TM_EPOCH.FLIPPED, Ev.TM_EPOCH.ROLLBACK]).abortDone id)) ∧
    (s.tmOn = true → s.ep.remirror = true →
      let x := if s.epochState = esNoEpoch then
          (rweFields.foldl (fun s f => s.resetRwe f false)
            (({ s with bankA := Bank.empty, ep := { s.ep with changes := [] } } : State).wf TM_EPOCH.RULE_CHANGES.COUNT 0)).storeRenew false
        else s.settleRules.mirrorBank.storeRenew (!s.activeBank)
      exec .remirrorDone s = .next { x with ep := { x.ep with remirror := false, fromNone := false } }) ∧
    (s.feOn = true → ∀ lanes,
      let l := lanes % 8
      let maj := decide (2 ≤ popCount 3 l)
      let u := s.wf FE_EPOCH.SELECTOR.LANES l
      let v := if maj ≠ u.feBank then (u.wf FE_EPOCH.SELECTOR.BANK (b2n maj)).wf FE_EPOCH.FLIP_CYCLE.CYCLE s.cycle else u
      exec (.selectorLane lanes) s = .next
        (if l = 0 ∨ l = 7 then v else (v.sat1 FE_EPOCH.LANE_ERR.COUNT).raiseO Ev.FE_EPOCH.SELECTOR_LANE 0 none none none)) ∧
    (s.feOn = true → ∀ egr d, s.timerAt .depthGap (b2n egr) = some d →
      exec (.depthGapEnd egr) s = .next (s.expired .depthGap (b2n egr) d))

/-- The statement over its parts: EpochCommands, EpochTransitions. -/
def Obligations.EpochChanges : Prop :=
  Claims.EpochCommands ∧ Claims.EpochTransitions

/-- EPOCH_STATUS (R88, R98) answers in every state what the registers of R101 and R102 show, and STAGE_TIMEOUT (R81, R82) ends a stage
of 2 s: in the state it started from before step 3, FAILED from there on. -/
def Sys2Proof.Claims.EpochStatus : Prop :=
  ∀ (s : State), s.tmOn = true →
    (∀ id c, s.cmd id = some c → s.mayStart c = true → c.opcode = 0x33 →
      exec (.epochStatus id) s = .next (s.finishR id stOK 0 (s.epochState + s.rf TM_EPOCH.STATE.ACTIVE_BANK * 2 ^ 4 +
        s.rf TM_EPOCH.STATE.ROLLBACK * 2 ^ 5 + s.bankCount (!s.activeBank) * 2 ^ 32 + s.rf TM_EPOCH.BANK_SEQ_A.SEQ * 2 ^ 64 +
        s.rf TM_EPOCH.BANK_SEQ_B.SEQ * 2 ^ 96))) ∧
    (∀ d id prev, s.timerAt .stage 0 = some d → s.ep.stage = some (id, prev) →
      exec .stageTimeout s = .next ((((s.expired .stage 0 d).stageOver.loadFail ⟨0, true, none, none⟩).stageFailed prev
        s.ep.stageStep).finishR id stTimeout 0 0)) ∧
    (∀ (u : State) (prev step : Nat), (3 ≤ step → (u.stageFailed prev step).epochState = esFailed) ∧
      (step < 3 → u.stageFailed prev step = u.setEpochState prev))

/-- A flip (R74, R89, R90): EPOCH_SEQ steps, skipping 0; the new bank carries the new number and is the active one; the selector of the
FE shows it on all lanes; the cycle and the time of the flip stand in their registers. -/
def Sys2Proof.Claims.FlipRegisters : Prop :=
  ∀ (s : State) (b : Bool), s.rf TM_EPOCH.EPOCH_SEQ.SEQ < 2 ^ 32 →
    let t := s.flipTo b
    let q := if s.rf TM_EPOCH.EPOCH_SEQ.SEQ = 2 ^ 32 - 1 then 1 else s.rf TM_EPOCH.EPOCH_SEQ.SEQ + 1
    t.rf TM_EPOCH.EPOCH_SEQ.SEQ = q ∧ t.bankSeq b = q ∧ t.bankSeq (!b) = s.bankSeq (!b) ∧ t.activeBank = b ∧ t.feBank = b ∧
      t.rf FE_EPOCH.SELECTOR.LANES = 7 * b2n b ∧ t.rf TM_EPOCH.FLIP_CYCLE.CYCLE = s.cycle % 2 ^ 64 ∧
      t.rf FE_EPOCH.FLIP_CYCLE.CYCLE = s.cycle % 2 ^ 64 ∧ t.rf TM_EPOCH.FLIP_TIME_NS.NS = s.timeNs ∧
      t.epochState = s.epochState ∧ t = { s with regs := t.regs, ep := { s.ep with flipAt := s.cycle } }

/-- The statement over its parts: EpochStatus, FlipRegisters. -/
def Obligations.EpochRegisters : Prop :=
  Claims.EpochStatus ∧ Claims.FlipRegisters

/-- Errors of cells (R117, R120, R121, R124, R128, R130): what a finding does to the cell in each of its states, and what the scrubs and a fenced
cell that drives an output leave. BAR2 writes that a remap copy held back go on where one has ended (R185). -/
def Sys2Proof.Claims.CellFindings : Prop :=
  ∀ (s : State) (n unit : Nat) (f : CellFinding), s.feOn = true →
    (n < 2112 → s.inReset 72 = false →
      (∀ c l, fenceCause f = some c → s.cellState n = csMapped → s.logicalOf n = some l → s.stripState (n / 132) = stripRun →
        let st := n / 132
        let r := s.stripRec st
        let u := s.setStripRec st { r with remaps := r.remaps ++
          [⟨l, s.cycle, none, none, 0, none, s.rfb FE_CELLS.CTRL.AUTO_REMAP, false, false⟩] }
        let v := (u.fenceNote n c (some (st * 128 + l))).sourceLost st l
        exec (.cellCheckError n f unit) s = .next
          (((((v.wfi FE_CELLS.STRIP_STATUS.STATE st stripRemap).dropStrip st).faultWindow st (st * 128 + l)).remapNext st
            (st * 128 + l)).dmaDrain)) ∧
      (∀ c, fenceCause f = some c → s.cellState n = csSpare ∨ s.cellState n = csTestedOk →
        exec (.cellCheckError n f unit) s = .next (s.fenceNote n c none).dmaDrain) ∧
      (∀ c, fenceCause f = some c → s.cellState n = csFenced → exec (.cellCheckError n f unit) s = .next s.dmaDrain) ∧
      (∀ c, fenceCause f = some c → s.cellState n = csRebuilding → exec (.cellCheckError n f unit) s = .next (s.fenceRebuilding n c).dmaDrain) ∧
      (∀ w, f = .slotCorrected w → s.cellState n = csMapped → w < 256 → exec (.cellCheckError n f unit) s = .next
        ((s.sat1 FE_CELLS.SLOT_CORR.COUNT).raise Ev.FE_CELLS.SLOT_CORRECTED 0 0 n w).dmaDrain)) ∧
    (∀ errs, exec (.slotScrub errs) s = .next (errs.foldl (fun (s : State) e =>
      if e.1 < 2112 ∧ e.2 < 256 ∧ s.cellState e.1 = csMapped ∧ e.2 / 128 = b2n (!s.activeBank) then
        (s.sat1 FE_CELLS.SLOT_CORR.COUNT).raise Ev.FE_CELLS.SLOT_CORRECTED 0 0 e.1 e.2
      else s) s)) ∧
    (∀ l w, l < 2048 → w < 256 →
      exec (.slotStoreScrub [(l, w, true)]) s = .next (({ s with ca := { s.ca with
        storeLost := SMap.put false s.ca.storeLost (l * 256 + w) true } } : State).raise Ev.FE_CELLS.STORE_LOST 0 0 l w) ∧
      exec (.slotStoreScrub [(l, w, false)]) s = .next s) ∧
    (n < 2112 → s.cellState n = csFenced →
      (s.ca.spoke.contains n = true →
        exec (.fencedCellActivity n) s = .next (s.sat1 FE_CELLS.FENCED_ACTIVITY.COUNT)) ∧
      (s.ca.spoke.contains n = false →
        ∃ u, u = s.sat1 FE_CELLS.FENCED_ACTIVITY.COUNT ∧ exec (.fencedCellActivity n) s = .next
          (({ u with ca := { u.ca with spoke := u.ca.spoke ++ [n] } } : State).raise Ev.FE_CELLS.FENCED_CELL_ACTIVITY 0 0 n 0)))

/-- Cell commands and tests (R128, R129, R130). -/
def Sys2Proof.Claims.CellCommands : Prop :=
  ∀ (s : State) (id : Nat) (c : Cmd), s.feOn = true → s.cmd id = some c → s.mayStart c = true →
    (c.opcode = 0x40 → ∀ st l, c.bits 64 11 = st * 128 + l → l < 128 → s.stripState st ≠ stripRemap → s.slotStoreLost (c.bits 64 11) = false →
      ∀ want, (c.bits 128 8 = 0xFF ∧ want = none ∨ c.bits 128 8 < 132 ∧ want = some (c.bits 128 8)) →
        (∀ x, s.spareFor st want = some x → s.cellState (s.physOf st l) = csMapped →
          exec (.cellRemap id) s = .next ((s.begin id).fenceMapped (s.physOf st l) 5 (some id) want)) ∧
        (∀ x, s.spareFor st want = some x → s.cellState (s.physOf st l) ≠ csMapped →
          let u := (s.begin id).updRemap st l (fun m => { m with cmd := some id, want := want, auto := true })
          u.spareFor st want = some x → exec (.cellRemap id) s = .next (u.remapTake st l x)) ∧
        (s.spareFor st want = none → exec (.cellRemap id) s = .next (s.finishR id stNotFound 0 0))) ∧
    (c.opcode = 0x42 → c.bits 64 12 < 2112 →
      let n := c.bits 64 12
      (s.cellState n = csFenced ∨ s.cellState n = csSpare ∨ s.cellState n = csTestedOk →
        ∃ t, exec (.cellTest id) s = .next t ∧ t.cellState n = csTesting ∧ t.timerAt .cellTest n = some (s.cycle + cyMs) ∧
          t.ca = { s.ca with tests := s.ca.tests ++ [⟨n, s.cellState n, some id⟩] } ∧
          t = { s with regs := t.regs, ca := t.ca, hc := t.hc, timers := t.timers }) ∧
      (s.cellState n = csMapped ∨ s.cellState n = csRebuilding ∨ s.cellState n = csTesting →
        exec (.cellTest id) s = .next (s.finishR id stInvalid 4 0))) ∧
    (c.opcode = 0x41 → c.bits 64 12 < 2112 →
      let n := c.bits 64 12
      (s.cellState n = csTestedOk → s.stripState (n / 132) ≠ stripDown →
        ∃ u, u = s.setCell n csSpare ∧ (u.stripState (n / 132) = s.stripState (n / 132)) ∧ u.cellState n = csSpare ∧
          exec (.cellUnfence id) s = .next
            (({ u with flash := { u.flash with faults := u.flash.faults.filter (fun x => !decide (x = n)) } } : State).finishR id stOK 0 0)) ∧
      (s.cellState n = csFenced → exec (.cellUnfence id) s = .next (s.finishR id stInvalid 3 0))) ∧
    ((c.opcode = 0x41 ∨ c.opcode = 0x42) → 2112 ≤ c.bits 64 12 →
      exec (if c.opcode = 0x41 then .cellUnfence id else .cellTest id) s = .next (s.finishR id stInvalid 2 0))

/-- The statement over its parts: CellFindings, CellCommands. -/
def Obligations.CellEvents : Prop :=
  Claims.CellFindings ∧ Claims.CellCommands

/-- The ends of a test and of a remap's copy (R122, R124, R129). -/
def Obligations.CellEngines : Prop :=
  ∀ (s : State), s.feOn = true →
    (∀ n tst, s.ca.tests.find? (fun t => decide (t.phys = n)) = some tst →
      let u : State := { s with ca := { s.ca with tests := s.ca.tests.filter (fun t => !decide (t.phys = n)) } }
      exec (.cellTestDone n .pass) s = .next
        (((u.disarm .cellTest n).setCell n (if tst.from_ = csSpare then csSpare else csTestedOk)).finishO tst.cmd stOK 0 1) ∧
      (∀ unit line, exec (.cellTestDone n (.fail unit line)) s = .next
        (((u.disarm .cellTest n).fenceNote n 6 none).finishO tst.cmd stOK 0 (unit % 8 * 2 + line % 2 ^ 32 * 2 ^ 32))) ∧
      ∀ d, s.timerAt .cellTest n = some d →
        let v := s.expired .cellTest n d
        exec (.cellTestDone n .timeout) s = .next
          ((({ v with ca := { v.ca with tests := v.ca.tests.filter (fun t => !decide (t.phys = n)) } } : State).setCell n tst.from_).finishO
            tst.cmd stTimeout 0 0)) ∧
    (∀ st extra d m src, s.timerAt .remap st = some d → s.remapNow st = some m → m.src = some src →
      let lg := st * 128 + m.logical
      let u := (s.advanceTo (d + extra)).disarm .remap st
      let e := u.copyEcc st m.logical
      let v := u.setEcc st m.logical e
      let w := if e = Ecc.clean then v else e.badLines.foldl (fun s ln => s.raise Ev.FE_CELLS.COPY_UNCORRECTABLE 0 0 lg ln) v
      let x := ((w.wfi FE_CELLS.LOGICAL_MAP.POSITION lg (m.phys % 132)).setCell m.phys csMapped).updRemap st m.logical
        (fun m => { m with active := false, done := true })
      exec (.remapDone st extra) s = .next
        (if (x.stripRec st).remaps.all (fun m => m.done) then x.stripResume st else x.remapNext st lg).dmaDrain)

/-- FRAME_RX (R75, R109, R217): a good frame of legal length that is no MAC control frame counts and waits whole at its port group's
input; in NO_EPOCH it only counts. -/
def Sys2Proof.Claims.FrameReceive : Prop :=
  ∀ (s : State) (p : Nat) (data : Bytes), s.feOn = true → p < 256 → s.linkUp p = true → 60 ≤ data.length → isMacCtrl data = false →
    let u := (s.pgInc FE_PG.CNT.RX_FRAMES p 1).pgInc FE_PG.CNT.RX_BYTES p (data.length + 4)
    data.length + 4 ≤ u.maxFrame p →
    (u.noEpoch = true → exec (.frameRx p data .good) s = .next u) ∧
    (u.noEpoch = false → u.admitStopped = false → u.bytesAt (.input (p / 8)) + data.length + 4 ≤ 131072 →
      ∃ t q, exec (.frameRx p data .good) s = .next t ∧ t = { u with pkts := u.pkts ++ [q], nextPkt := u.nextPkt + 1 } ∧
        q.id = s.nextPkt ∧ q.loc = .input (p / 8) ∧ q.data = data ∧ q.bad = false ∧ q.inPort = p ∧ q.since = s.cycle) ∧
    (u.noEpoch = false → u.admitStopped = false → 131072 < u.bytesAt (.input (p / 8)) + data.length + 4 →
      exec (.frameRx p data .good) s = .next
        ((u.sat FE_PIPEI.OVERRUN_DROP.COUNT 0 (p / 8 / 2) 1).raiseO Ev.FE_PIPEI.OVERRUN 0 none (some (p / 8)) (some 0)))

/-- PIPELINE_INPUT_ADMIT (R89, R109, R110): the input admits the packet it chooses into its strip, to leave after the depth of the
packet's bank; a frame is stamped with the bank of the FE's selector, a looped packet keeps its stamp. -/
def Sys2Proof.Claims.PipelineAdmit : Prop :=
  ∀ (s : State) (i : Nat) (p : Pkt), s.feOn = true → i < 16 → s.noEpoch = false → s.armed .depthGap 0 = false →
    ((72 :: ingressPages).all (fun P => (s.hdr P).enable)) = true → s.inputChoice i = some p → (s.admitStopped = false ∨ p.injected = false) →
    s.stripState (inStrip i) = stripRun → ingressPages.any (fun P => s.inReset P) = false →
    ∃ (t u : State) (q : Pkt), exec (.pipelineInputAdmit i) s = .next t ∧ t = u.movePkt q (.strip i) ∧ q.id = p.id ∧ q.data = p.data ∧ q.egr = false ∧
      q.stream = i ∧ q.due = s.cycle + u.depthOf q.bank false ∧ (p.looped = false → q.bank = s.feBank) ∧ (p.looped = true → q.bank = p.bank) ∧
      t.cycle = s.cycle

/-- The statement over its parts: FrameReceive, PipelineAdmit. -/
def Obligations.IngressCommands : Prop :=
  Claims.FrameReceive ∧ Claims.PipelineAdmit

/-- STRIP_EXIT (R107, R142, R149, R150, R199): the oldest packet of an ingress strip leaves it at the cycle it is due, with the metadata
its program left. A fault whose FAIL_ACT is DROP drops it, one whose FAIL_ACT is PUNT sets PUNT with the cause as reason; a packet of
no protection stream then goes through the punt meter, when its PUNT bit is set, or over the bridge to the TM. -/
def Sys2Proof.Claims.IngressExit : Prop :=
  ∀ (s : State) (i : Nat) (ask : RouteAsk) (p : Pkt), s.feOn = true → s.headAt (.strip i) = some p → s.exitTurn p = true →
    let u := s.advanceTo p.due
    let r := u.runStrip (inStrip i) i p ask
    let v := ({ u with freeCtr := u.freeCtr + 1 } : State).applyNotes r.2.notes
    let q := ((fixReason { p with md := p.exitMd (lanesMd r.2.lanes), fail := r.1.fail, vrf := askVrf ask % 4096 }).mdSet 31 1
      (b2n (v.cutsThrough p))).point 3 v.nowNs
    let w := v.sat FE_PARSE.FAIL_CNT_I.COUNT 0 r.1.fail 1
    let sent := fun (x : State) (q : Pkt) =>
      let x := match r.2.src with
        | some k => x.learnFrom i q k
        | none => x
      if q.punt then (x.traceHalf q false false false true).puntMeter q
      else
        let x := x.traceHalf q false false false false
        if x.bridgeUp then x.movePkt q (.tmArrive i) else x.departPkt q
    (r.1.fail ≠ 0 → w.failAct p.bank r.1.fail = 2 → exec (.stripExit i ask) s =
      .next (((((w.sat1 FE_PARSE.FAIL_DROP_I.COUNT).raise Ev.FE_PARSE.FAIL_DROP 0 r.1.fail i r.1.state)).putPkt q).dropPkt q)) ∧
    (q.prot = false →
      (r.1.fail = 0 → exec (.stripExit i ask) s = .next (sent v q)) ∧
      (r.1.fail ≠ 0 → w.failAct p.bank r.1.fail = 0 → exec (.stripExit i ask) s = .next (sent w q)) ∧
      (r.1.fail ≠ 0 → w.failAct p.bank r.1.fail = 1 →
        exec (.stripExit i ask) s = .next (sent w ((q.mdSet 127 1 1).mdSet 121 6 r.1.fail))))

/-- EGRESS_STRIP_EXIT (R107, R142, R148, R149, R218): the oldest packet of an egress strip leaves it at the cycle it is due. Without a
fault and without PUNT, the frame of R148 waits in the MAC buffer of its port when MAX_FRAME admits it, a packet that R148 drops counts in
EMIT_DROP, and one for port 256 goes to the loopback input of its pipeline; a punt goes through the meter. -/
def Sys2Proof.Claims.EgressExit : Prop :=
  ∀ (s : State) (i : Nat) (p : Pkt), s.feOn = true → s.headAt (.estrip i) = some p → s.exitTurn p = true →
    let u := s.advanceTo p.due
    let r := u.runStrip (outStrip i) i p .none
    let v := ({ u with freeCtr := u.freeCtr + 1 } : State).applyNotes r.2.notes
    let q := (fixReason { p with md := p.exitMd (lanesMd r.2.lanes), fail := r.1.fail }).point 11 v.nowNs
    let w := v.sat FE_PARSE.FAIL_CNT_E.COUNT 0 r.1.fail 1
    (r.1.fail ≠ 0 → w.failAct p.bank r.1.fail = 2 → exec (.egressStripExit i) s =
      .next (((((w.sat1 FE_PARSE.FAIL_DROP_E.COUNT).raise Ev.FE_PARSE.FAIL_DROP 0 r.1.fail (i + 16) r.1.state)).putPkt q).dropPkt q)) ∧
    (r.1.fail ≠ 0 → w.failAct p.bank r.1.fail = 1 → exec (.egressStripExit i) s =
      .next (w.egressEmit i p ((q.mdSet 127 1 1).mdSet 121 6 r.1.fail) r.2)) ∧
    (r.1.fail ≠ 0 → w.failAct p.bank r.1.fail = 0 → exec (.egressStripExit i) s = .next (w.egressEmit i p q r.2)) ∧
    (r.1.fail = 0 → q.punt = true →
      exec (.egressStripExit i) s = .next (((v.traceHalf q false true false true).putPkt q).puntMeter q)) ∧
    (r.1.fail = 0 → q.punt = false → emitFrame r.2.lanes p = none → exec (.egressStripExit i) s =
      .next ((((v.putPkt q).dropPkt q).sat1 FE_PARSE.EMIT_DROP.COUNT).raiseO Ev.FE_PARSE.EMIT_DROP 0 none (some i)
        (some (bits (laneGet r.2.lanes 159) 0 10 + bits (laneGet r.2.lanes 159) 16 10 * 2 ^ 16)))) ∧
    ∀ d pad, r.1.fail = 0 → q.punt = false → emitFrame r.2.lanes p = some (d, pad) →
      let x := if pad then v.inc1 FE_PARSE.EMIT_PAD.COUNT else v
      let len := p.frameLen (p.length - 4) d
      let f : Pkt := { q with data := d, ts := laneGet r.2.lanes 158 % 2 ^ 28 }
      let g := f.mdSet 175 9 p.outPort
      (256 ≤ p.outPort → exec (.egressStripExit i) s = .next
        (((x.traceHalf f false true false false).movePkt ((f.mdSet 0 9 256).mdSet 184 3 5) (.loopIn i)).inc FE_PIPEE.LOOP.COUNT 0 i 1)) ∧
      (p.outPort < 256 → g.prot = false → len + 4 ≤ x.maxFrame p.outPort →
        exec (.egressStripExit i) s = .next ((x.putPkt g).movePkt g (.mac p.outPort (if g.cls = 7 then 1 else 0)))) ∧
      (p.outPort < 256 → g.prot = false → x.maxFrame p.outPort < len + 4 →
        exec (.egressStripExit i) s = .next (((x.putPkt g).dropPkt g).pgSat FE_PG.CNT.TX_OVERSIZE p.outPort 1))

/-- The statement over its parts: IngressExit, EgressExit. -/
def Obligations.StripExits : Prop :=
  Claims.IngressExit ∧ Claims.EgressExit

/-- The egress side of a port (R10, R16, R222, R227, R305, R319, R321, R349): what an egress selection, a loopback selection, the pacer, a
frame's start at the MAC and its end do. -/
def Obligations.EgressCommands : Prop :=
  ∀ (s : State),
    (s.tmOn = true → ∀ i unc, s.egrTurn i = true →
      let ports := (List.range 16).map (16 * i + ·)
      let mine := fun (k : Nat) => ports.contains k
      let b := unc.foldl State.dieError s
      let u := b.oversizeSweep ports
      let w := u.workOf (u.egrQueues ports)
      let v := u.syncRounds mine (u.egrQueues ports)
      (s.egrOpen i = false → exec (.egressSelect i unc) s = .next (s.egrHeld i)) ∧
      (s.egrOpen i = true → ∀ p, b.egrRead i = some p → exec (.egressSelect i unc) s = .next (b.handoff p i)) ∧
      (s.egrOpen i = true → b.egrRead i = none →
        (v.egrCandidate w i = none → exec (.egressSelect i unc) s = .next v) ∧
        (∀ n p, v.egrCandidate w i = some (n, none) → v.headAt (.loopFifo i) = some p →
          exec (.egressSelect i unc) s = .next
            (({ v with sc := { v.sc with rr := SMap.put 0 v.sc.rr i (n - 16 * i + 1) } } : State).handoff p i)) ∧
        (∀ port q e path x p, v.egrCandidate w i = some (port, some (q, e, path, x)) → v.queueHead q = some p →
          let a := x.served port path e p.length
          let c : State := if e then a else { a with sc := { a.sc with rr := SMap.put 0 a.sc.rr i (port - 16 * i + 1) } }
          let d := if p.cls = 7 then c.armAt .pacer port (c.cycle + c.bitCycles port (8 * (p.length + 20))) else c
          let y := d.egrTake p q i (.eread i)
          exec (.egressSelect i unc) s = .next (y.syncRounds mine (y.egrQueues ports))))) ∧
    (s.tmOn = true → s.operating 4151 = true → (s.hdr 4149).enable = true → s.buffersReset = false → s.sc.loopNext ≤ s.cycle * 250 →
      let mine := fun (k : Nat) => decide (k = 256)
      let u := s.oversizeSweep [256]
      let w := u.workOf (u.egrQueues [256])
      let v := u.syncRounds mine (u.egrQueues [256])
      ∀ q e path x p, (v.portTrial w 256 true).orElse (fun _ => v.portTrial w 256 false) = some (q, e, path, x) →
        v.queueHead q = some p →
        let i := p.flowHash % 16
        (v.loopOpen i = false → exec .loopbackSelect s = .next v) ∧
        (v.loopOpen i = true →
          let a := x.served 256 path e p.length
          let y := ({ a with sc := { a.sc with loopNext := a.cycle * 250 + p.length } } : State).egrTake p q i (.loopFifo i)
          exec .loopbackSelect s = .next ((y.syncRounds mine (y.egrQueues [256])).flowSweep))) ∧
    (s.tmOn = true → ∀ port d, s.timerAt .pacer port = some d → exec (.expressPacerOpen port) s = .next (s.expired .pacer port d)) ∧
    (s.feOn = true → ∀ port p, port < 256 → s.portEnabled port = true → s.operating (pgPage port) = true → s.wireFree port = true →
      let f := s.pfcFlush port
      f.macChoice port = some p →
      (f.linkUp port = true → ¬(p.bad = true ∧ p.whole = true) →
        let g := f.updNetPort port (fun x => { x with
          fragAt := s.cycle, fragSent := if (f.at_ (.wire port)).isEmpty then 0 else f.sentBytes port })
        let u := g.movePkt { p with begun := true, since := s.time } (.wire port)
        exec (.macFrameBoundary port) s = .next (if bits p.ts 0 2 = 3 then u.tsCapture port (bits p.ts 12 16) else u)) ∧
      (f.linkUp port = true → p.bad = true → p.whole = true →
        exec (.macFrameBoundary port) s = .next ((f.dropPkt p).pgSat FE_PG.CNT.TX_TAIL_BAD_DROP port 1)) ∧
      (f.linkUp port = false → f.pgb FE_PG.PORT_CFG.PROT_MEMBER port = false → exec (.macFrameBoundary port) s = .next f) ∧
      (f.linkUp port = false → f.pgb FE_PG.PORT_CFG.PROT_MEMBER port = true → p.prot = false →
        exec (.macFrameBoundary port) s = .next ((f.dropPkt p).pgSat FE_PG.CNT.LINK_DOWN_DROP port 1))) ∧
    (s.feOn = true → ∀ port p, (s.at_ (.wire port)).getLast? = some p → p.whole = true →
      let u := if (stampFrame p).2 then s.sat FE_PG.TS_ERR.COUNT (port / 8) 0 1 else s
      let v := if p.bad then u.pgSat FE_PG.CNT.TX_STOMPED port 1 else u
      let w := (v.pgInc FE_PG.CNT.TX_FRAMES port 1).pgInc FE_PG.CNT.TX_BYTES port ((stampFrame p).1.length + 4)
      let q := p.point 12 w.nowNs
      let x := ((w.traceHalf q false true false false).departPkt q).wireOut port (.frame port (stampFrame p).1 p.bad)
      let y := (x.updNetPort port (fun x => { x with fragAt := s.cycle })).pfcFlush port
      exec (.frameTxEnd port) s = .next (if y.loopedLanes port && !y.txMuted port then
        y.frameRx port (stampFrame p).1 (if p.bad then .fcsError else .good) else y))

/-- Arrival at the TM, VOQ selection and the inject fetch (R61, R65, R66, R300, R321, R326): the packet first on the bridge is policed and
meets the express bucket, and one that both let pass is replicated or admitted; up to 16 selections are followed by their cutting; an
inject descriptor and its buffer are read and the ring moves on. -/
def Sys2Proof.Claims.TmIngress : Prop :=
  ∀ (s : State), s.tmOn = true →
    (∀ i p, ([4148, 4149, 4150, 4153].all (fun P => (s.hdr P).enable)) = true → s.headAt (.tmArrive i) = some p → s.arriveTurn p = true →
      let r := s.policeStep (p.point 4 s.nowNs)
      let x := r.2.2.expressStep r.2.1 i
      (∃ t, exec (.tmIngressArrival i) s = .next t ∧ ∀ q ∈ t.pkts, q.id = p.id → q.loc ≠ .tmArrive i) ∧
      (r.1 = false → exec (.tmIngressArrival i) s = .next ((r.2.2.putPkt r.2.1).dropPkt r.2.1)) ∧
      (r.1 = true → x.1 = false → exec (.tmIngressArrival i) s = .next ((x.2.putPkt r.2.1).dropPkt r.2.1)) ∧
      (r.1 = true → x.1 = true → r.2.1.mcast = true → exec (.tmIngressArrival i) s = .next ((x.2.putPkt r.2.1).mcastIn r.2.1)) ∧
      (r.1 = true → x.1 = true → r.2.1.mcast = false →
        exec (.tmIngressArrival i) s = .next ((x.2.putPkt r.2.1).admitTo r.2.1 r.2.1.handle false))) ∧
    (s.operating 4151 = true → s.operating 4146 = true → (s.hdr 4149).enable = true → s.buffersReset = false → ∀ unc,
      exec (.voqSelect unc) s = .next (((State.voqMany 16 (unc.foldl State.dieError s)).cutAll).flowSweep)) ∧
    (∀ c d b bad, s.fetchStopped = false → s.injWaits c = true →
      let h := s.rfi TM_HPKT.INJ_STATUS.HEAD c
      let addr := s.rfi TM_HPKT.INJ_BASE_HI.ADDR c * 2 ^ 32 + s.rfi TM_HPKT.INJ_BASE_LO.ADDR c * 2 ^ 12 + 16 * h
      let len := leNat ((d.drop 8).take 2)
      let u := (s.emit (.hostRead addr 16)).emit (.hostRead (le64 d 0) len)
      let n := (h + 1) % 2 ^ s.rfi TM_HPKT.INJ_CTRL.LOG2_SIZE c
      let v := u.wfi TM_HPKT.INJ_STATUS.HEAD c n
      let w := if n = 0 then v.wfi TM_HPKT.INJ_STATUS.PHASE c (1 - s.rfi TM_HPKT.INJ_STATUS.PHASE c) else v
      exec (.injectFetch c (.data d) (.data b) bad) s = .next
        (w.injTake c addr (s.rfi TM_HPKT.INJ_STATUS.PHASE c) (leNat (b.take 32)) len ((b.drop 32).take (len - 32)) bad) ∧
      exec (.injectFetch c (.data d) .fail bad) s = .next (u.injStop c) ∧
      exec (.injectFetch c .fail .fail bad) s = .next ((s.emit (.hostRead addr 16)).injStop c))

/-- FABRIC_CELL_RX (R247 to R250, R263): a cell for this device on an in-service link, whose header checks, waits in its bundle's staging FIFO as
its header says; a header that fails its check, and a cell that cannot be accepted, are counted and discarded. -/
def Sys2Proof.Claims.CellReceive : Prop :=
  ∀ (s : State) (n pos : Nat) (raw : Bytes), s.tmOn = true → s.flEnabled n = true → s.fl TM_FLINK.LINK_STATUS.ALIGN n = alInFrame → pos < 31 → s.flLooped n = false →
    let b := scramble (64 + 256 * pos) (raw.take 256)
    let h := b.take 16
    exec (.fabricCellRx n pos raw true) s = .next (s.flSat TM_FLINK.CNT.RX_DISCARD n 1) ∧
    (hdrBits h 0 16 ≠ crc16 (h.take 14) → exec (.fabricCellRx n pos raw false) s = .next (s.flSat TM_FLINK.CNT.HCRC_ERR n 1)) ∧
    (hdrBits h 0 16 = crc16 (h.take 14) → hdrBits h 126 2 = 0 → exec (.fabricCellRx n pos raw false) s = .next s) ∧
    (hdrBits h 0 16 = crc16 (h.take 14) → hdrBits h 126 2 ≠ 0 →
      (s.inService n = false ∨ hdrBits h 126 2 ≠ 1 ∨ hdrBits h 112 10 ≠ s.fabId ∨ s.noEpoch = true) →
      exec (.fabricCellRx n pos raw false) s = .next (s.flSat TM_FLINK.CNT.RX_DISCARD n 1)) ∧
    (hdrBits h 0 16 = crc16 (h.take 14) → s.inService n = true → hdrBits h 126 2 = 1 → hdrBits h 112 10 = s.fabId → s.noEpoch = false →
      s.inReset 4146 = false → (s.flInc TM_FLINK.CNT.CELLS_RX n 1).admitStopped = false →
      ((s.flInc TM_FLINK.CNT.CELLS_RX n 1).staged (16 + n / 10)).length < 256 →
      ∃ (t u : State) (c : Cell), u = s.flInc TM_FLINK.CNT.CELLS_RX n 1 ∧ exec (.fabricCellRx n pos raw false) s = .next t ∧
        t = u.setStaged (16 + n / 10) (u.staged (16 + n / 10) ++ [c]) ∧ c.seq = hdrBits h 48 32 ∧ c.cls = hdrBits h 104 3 ∧
        c.srcDev = hdrBits h 94 10 ∧ c.destDev = s.fabId ∧ c.destPg = hdrBits h 107 5 ∧ c.first = decide (hdrBits h 125 1 = 1) ∧
        c.last = decide (hdrBits h 124 1 = 1) ∧ c.bad = decide (hdrBits h 123 1 = 1) ∧
        c.data = (b.drop 16).take (if hdrBits h 124 1 = 1 then hdrBits h 80 8 else 240))

/-- The statement over its parts: TmIngress, CellReceive. -/
def Obligations.TmCells : Prop :=
  Claims.TmIngress ∧ Claims.CellReceive

/-- The switch core (R269, R270): every core step takes one core cycle. In an epoch, while TM.SPRAY operates, each of the 48 destinations
takes up to two cells from the banks, each of the 48 sources then puts up to two cells into them, and the streams go on cutting. So a
lone staged cell goes to the bank that its source's row of the pattern names, and a lone cell in the bank that its transmit group's row
names goes to that group. -/
def Sys2Proof.Claims.SwitchCore : Prop :=
  ∀ (s : State), s.tmOn = true →
    (s.noEpoch = true ∨ s.operating 4146 = false → exec .switchCoreStep s = .next (s.advance 1)) ∧
    (s.noEpoch = false → s.operating 4146 = true →
      let t := s.cycle % 64
      let u := (List.range 48).foldl (fun (u : State) d => State.coreTake 2 u t d) s
      let v := (List.range 48).foldl (fun (v : State) k => State.corePut 2 v t k) u
      exec .switchCoreStep s = .next (v.advance 1).cutAll ∧
      (∀ src c, src < 48 → s.pkts = [] → s.fab.staging = [(src, [c])] → s.fab.banks = [] →
        exec .switchCoreStep s = .next ((s.setFab (fun f => { f with
          staging := [], banks := [(bankKey (s.stageBank (s.cellBank c) t src) c.dst c.exp, [{ c with since := s.cycle, ns := s.nowNs }])] })
          ).advance 1)) ∧
      (∀ c g r, g < 32 → c.tx = some (g, r) → s.pkts = [] → s.fab.staging = [] →
        s.fab.banks = [(bankKey (s.stageBank (s.cellBank c) (64 + t) g) g c.exp, [c])] →
        exec .switchCoreStep s = .next ((s.setFab (fun f => { f with
          banks := [], txq := SMap.upd [] f.txq (txKey g r c.exp) (· ++ [c]) })).advance 1)))

/-- The transmit slots and frames (R243, R249, R258, R261, R262, R273, R277): at each of the 31 positions of a frame every group's slots
are gone through in link order and each link whose transmit side runs sends the cell they gave it, or an idle cell; after the last
position the next frame starts, with MFI one higher, on all those links; a pattern boundary puts the active bank's pattern in force. -/
def Sys2Proof.Claims.TransmitFrames : Prop :=
  ∀ (s : State), s.tmOn = true →
    (s.fab.pos < 31 → exec .spraySlotSend s = .next (((List.range 32).foldl (fun (s' : State) g =>
      let (x, s') := if s'.fab.patBank.isSome && s'.operating 4146 then
          (List.range 10).foldl (fun (a : SlotRun × State) l =>
            a.2.slotLink s.patSec (slotIdx (sprayLog s.patSec) s.fab.mfi s.fab.pos) g l a.1) ((⟨[], []⟩ : SlotRun), s')
        else ((⟨[], []⟩ : SlotRun), s')
      (List.range 10).foldl (fun (s' : State) l =>
        let n := 10 * g + l
        if s'.flTx n then s'.sendCell n ((x.sends.find? (fun e => decide (e.1 = n))).map (·.2)) else s') s') s).setFab
          (fun f => { f with pos := f.pos + 1 }))) ∧
    (s.fab.pos < 31 → s.fab.patBank = none → (∀ n, n < 320 → s.flLooped n = false) →
      ∃ t, exec .spraySlotSend s = .next t ∧ t.fab.pos = s.fab.pos + 1 ∧ t = { s with fab := t.fab, out := t.out } ∧
        t.fab = { s.fab with pos := t.fab.pos } ∧
        t.out = (((List.range 320).filter (fun n => s.flTx n && !s.flMuted n)).map (fun n =>
          let b := scramble (64 + 256 * s.fab.pos) idleCell
          Out.cell n (b.take 16) (b.drop 16))).reverse ++ s.out) ∧
    (31 ≤ s.fab.pos →
      let m := (s.fab.mfi + 1) % 256
      exec .txFrameStart s = .next ((List.range 320).foldl (fun (u : State) n =>
        if u.flTx n then u.overheadOut n (u.overheadTx n m s.fcFrame.1) else u) (s.fcFrame.2.setFab (fun f => { f with mfi := m, pos := 0 }))) ∧
      ((∀ n, n < 320 → s.flLooped n = false) →
        ∃ t, exec .txFrameStart s = .next t ∧ t.fab = { s.fcFrame.2.fab with mfi := m, pos := 0 } ∧ t = { s with fab := t.fab, out := t.out } ∧
          t.out = (((List.range 320).filter (fun n => s.flTx n && !s.flMuted n)).map (fun n =>
            Out.overhead n (s.overheadTx n m s.fcFrame.1))).reverse ++ s.out)) ∧
    (s.atBoundary = true → exec .patternBoundary s = .next (s.setFab (fun f =>
      { f with patBank := some s.activeBank, away := s.fab.away.filter (fun n => !s.inService n) })))

/-- The timers of a reorder context (R280): at the end of a collection NEXT becomes the lowest SEQ held and release begins; at the end of a
gap's wait the missing cells are given up; a context that no cell has reached for CTX_IDLE is new, and cells it still holds are
collected anew. -/
def Sys2Proof.Claims.ReorderTimers : Prop :=
  ∀ (s : State), s.tmOn = true →
    (∀ src ex d, s.timerAt .reordCollect (ctxKey src (b2n ex)) = some d →
      let k := ctxKey src (b2n ex)
      let u := s.expired .reordCollect k d
      let r := u.ctx k
      let v := (u.setCtx k ⟨some (r.lowest ((r.held.head?.map (·.1.seq)).getD 0)), r.held⟩).dropLate k
      exec (.reorderCollectionExpire src ex) s = .next (((State.releaseRun (r.held.length + 1) v k).gapTimer k).ctxRest k)) ∧
    (∀ src ex d, s.timerAt .reordGap (ctxKey src (b2n ex)) = some d →
      let k := ctxKey src (b2n ex)
      let u := s.expired .reordGap k d
      exec (.reorderGapExpire src ex) s = .next (((State.gapOver ((u.ctx k).held.length + 1) u k).gapTimer k).ctxRest k)) ∧
    (∀ src ex d, s.timerAt .reordIdle (ctxKey src (b2n ex)) = some d →
      let k := ctxKey src (b2n ex)
      let u := s.expired .reordIdle k d
      ((u.ctx k).held.isEmpty = true → exec (.reorderCtxIdle src ex) s = .next (u.setCtx k Reord.empty)) ∧
      ((u.ctx k).held.isEmpty = false → exec (.reorderCtxIdle src ex) s = .next
        (((u.setCtx k { u.ctx k with next := none }).disarm .reordGap k).armAt .reordCollect k
          ((u.ctx k).oldest + u.reordWindow (b2n ex)))))

/-- The registers of the spray pattern and of multicast (R283, R284, R288 to R290): copies, accesses of the pending pattern, its installation, and
reads and writes of groups and records. -/
def Sys2Proof.Claims.MulticastRegisters : Prop :=
  ∀ (s : State), s.tmOn = true →
    (s.blockOpen 4146 = true → s.rfb TM_SPRAY.INSTALL.PENDING = false →
      (exec .sprayCopyActive s = .next (s.setFab (fun f => { f with
        pend := ((List.range s.pendWords).map (fun w => (w, leAt s.sprayNow (64 + 4 * w) 4))).filter (fun e => decide (e.2 ≠ 0)) }))) ∧
      (∀ v, exec (.pendDataAccess (some v)) s = .next ((s.setFab (fun f => { f with
        pend := SMap.put 0 f.pend (s.rf TM_SPRAY.PEND_ADDR.WORD) (v % 2 ^ 32) })).wf TM_SPRAY.PEND_ADDR.WORD (s.rf TM_SPRAY.PEND_ADDR.WORD + 1))) ∧
      (installCause (s.pendSec s.pendWords) (if s.sprayNow.isEmpty then 0 else sprayLen s.sprayNow) (sprayExp s.sprayNow) = none →
        exec .sprayInstallGo s = .next ((s.installErr 0).wf TM_SPRAY.INSTALL.PENDING 1)) ∧
      (∀ c w, installCause (s.pendSec s.pendWords) (if s.sprayNow.isEmpty then 0 else sprayLen s.sprayNow) (sprayExp s.sprayNow) = some (c, w) →
        exec .sprayInstallGo s = .next ((s.installErr c).raiseO Ev.TM_SPRAY.INSTALL_REFUSED 0 (some c) w (some 0)))) ∧
    (s.blockOpen 4146 = true → exec (.pendDataAccess none) s = .next
      ((s.emit (.readData (SMap.get 0 s.fab.pend (s.rf TM_SPRAY.PEND_ADDR.WORD)))).wf TM_SPRAY.PEND_ADDR.WORD
        (s.rf TM_SPRAY.PEND_ADDR.WORD + 1))) ∧
    (s.rfb TM_SPRAY.INSTALL.PENDING = true → s.epochState = esIdle → s.atBoundary = true →
      let d := s.pendSec s.pendWords
      let u := ({ s with bankA := s.bankA.setSpray d, bankB := s.bankB.setSpray d } : State).setFab (fun f => { f with
        ptr := SMap.drop (fun k => decide (spreadList s.sprayNow (k % 16) ≠ spreadList d (k % 16))) f.ptr })
      let v := (u.wf TM_SPRAY.INSTALL.PENDING 0).inc1 TM_SPRAY.INSTALL_COUNT.COUNT
      exec .sprayInstallApply s = .next
        ((v.showExpress.raise Ev.TM_SPRAY.INSTALLED 0 0 (v.rf TM_SPRAY.INSTALL_COUNT.COUNT) v.fab.mfi).capCheck s.expOver)) ∧
    (s.blockOpen 4155 = true → ∀ sel,
      (∃ t, exec (.mcastGroupRead sel) s = .next t ∧ t = { s with regs := t.regs } ∧
        (∀ k, k < 2 → t.rfi TM_MCAST.GROUP_DATA.DATA k = bits (s.group (bits sel 0 16)) (32 * k) 32)) ∧
      (∃ t, exec (.mcastGroupWrite sel) s = .next t ∧ t = { s with regs := t.regs, fab := t.fab } ∧
        t.group (bits sel 0 16) = (s.rfi TM_MCAST.GROUP_DATA.DATA 0 + s.rfi TM_MCAST.GROUP_DATA.DATA 1 * 2 ^ 32) % 2 ^ 43 ∧
        (∀ g, g ≠ bits sel 0 16 → t.group g = s.group g)) ∧
      (∃ t, exec (.mcastRecordRead sel) s = .next t ∧ t = { s with regs := t.regs } ∧
        (∀ k, k < 4 → t.rfi TM_MCAST.REC_DATA.DATA k = bits (s.record (bits sel 0 20)) (32 * k) 32)) ∧
      (∃ t, exec (.mcastRecordWrite sel) s = .next t ∧ t = { s with regs := t.regs, fab := t.fab } ∧
        t.record (bits sel 0 20) = setBits (recKnown (sumN ((List.range 4).map (fun k => s.rfi TM_MCAST.REC_DATA.DATA k * 2 ^ (32 * k))))) 64 16
          (recDrops (s.record (bits sel 0 20))) ∧
        (∀ r, r ≠ bits sel 0 20 → t.record r = s.record r)) ∧
      (∃ t, exec .walkDrainSet s = .next t ∧ t.fab.walk = (s.at_ .residue).map (·.id) ∧ t.rf TM_MCAST.WALK_DRAIN.DRAIN = 1 ∧
        t = { s with regs := t.regs, fab := t.fab })) ∧
    (s.fab.walk.any (fun id => (s.pktById id).isSome) = false →
      exec .walkDrainDone s = .next ((s.setFab (fun f => { f with walk := [] })).wf TM_MCAST.WALK_DRAIN.DRAIN 0)) ∧
    (∀ d, s.timerAt .residueRetry 0 = some d →
      let u := s.expired .residueRetry 0 d
      u.operating 4155 = true →
      let v := ((u.fab.residue.foldl (fun (a : List (Bool × Nat) × State) b => a.2.retryOne a.1 b) ([], u)).2).mcastSweep
      exec .residueRetry s = .next (if v.fab.residue.isEmpty then v else v.arm .residueRetry 0 v.retryCycles)) ∧
    (∀ egr r b, s.fab.residue.find? (fun b => decide (b.egr = egr) && decide (b.rec_ = r)) = some b →
      let u := s.advanceTo (b.born + orWhenZero (s.rf TM_MCAST.RESIDUE_TIMEOUT.MS) 1 * cyMs)
      let v := ((u.residueOut b).recDrop r).sat1 TM_MCAST.RESIDUE_TIMEOUT_DROP.COUNT
      exec (.residueTimeout egr r) s = .next ((v.raise Ev.TM_MCAST.RESIDUE_TIMEOUT 0 0 b.group r).mcastSweep))


/-- The statement over its parts: SwitchCore, TransmitFrames, ReorderTimers, MulticastRegisters. -/
def Obligations.FabricAndMulticast : Prop :=
  Claims.SwitchCore ∧ Claims.TransmitFrames ∧ Claims.ReorderTimers ∧ Claims.MulticastRegisters

/-- Table commands (R56, R180, R192 to R203): a command that passes its checks waits for the write slots, or is answered by a read; one that
does not completes with the status its check gives. -/
def Sys2Proof.Claims.TableCommands : Prop :=
  ∀ (s : State) (id : Nat) (c : Cmd), s.feOn = true → s.cmd id = some c → s.mayStart c = true →
    let accepted := fun (s : State) (fetched : Nat) => match s.tblCheck c fetched with
      | .error (st, d) => s.finishR id st d 0
      | .ok _ => ({ s.begin id with tm := { s.tm with wq := s.tm.wq ++ [(id, fetched)] } } : State)
    (c.opcode = opInsert → exec (.tblInsert id) s = .next (accepted s 0)) ∧
    (c.opcode = opDelete → exec (.tblDelete id) s = .next (accepted s 0)) ∧
    (c.opcode = opCas → exec (.tblCas id) s = .next (accepted s 0)) ∧
    (c.opcode = opAgeDelete → exec (.tblAgeDelete id) s = .next (accepted s 0)) ∧
    (c.opcode = opModify → ∀ bs,
      ((∀ t, s.tblOf c.tblId = some t → t.bytes ≠ 64) → exec (.tblModify id (.data bs)) s = .next (accepted s (leNat (bs.take 64)))) ∧
      (∀ t, s.tblOf c.tblId = some t → t.bytes = 64 →
        exec (.tblModify id (.data bs)) s = .next (accepted (s.emit (.hostRead (c.bits 128 64) 64)) (leNat (bs.take 64))) ∧
        exec (.tblModify id .fail) s = .next ((s.emit (.hostRead (c.bits 128 64) 64)).finishR id stInvalid 26 0))) ∧
    (∀ st d, s.tblCheck c 0 = .error (st, d) →
      (c.opcode = opLookup → exec (.tblLookup id) s = .next (s.finishR id st d 0)) ∧
      (c.opcode = opReadIndex → exec (.tblReadIndex id) s = .next (s.finishR id st d 0)) ∧
      (c.opcode = opSwitch → exec (.tblSwitchRegion id) s = .next (s.finishR id st d 0))) ∧
    (∀ t, s.tblCheck c 0 = .ok t →
      (∀ k, s.lockedSeg t (s.cmdLine c t) = some k →
        (c.opcode = opLookup → exec (.tblLookup id) s = .next (s.finishR id stLocked k 0)) ∧
        (c.opcode = opReadIndex → exec (.tblReadIndex id) s = .next (s.finishR id stLocked k 0))) ∧
      (c.opcode = opLookup → s.lockedSeg t (s.cmdLine c t) = none →
        exec (.tblLookup id) s = .next (match s.findSlot false t (s.cmdKey c t).1 (s.cmdKey c t).2 with
          | none => s.finishR id stNotFound 0 0
          | some sl => if s.entryLost t sl then s.finishR id stEccFail 0 0 else s.tblReturn c t sl stOK)) ∧
      (c.opcode = opReadIndex → s.lockedSeg t (s.cmdLine c t) = none → s.entryLost t c.index = false →
        (t.hashed = false ∨ t.occupied (s.slotOf t c.index) = true) →
        exec (.tblReadIndex id) s = .next (s.tblReturn c t c.index stOK)) ∧
      (c.opcode = opReadIndex → s.lockedSeg t (s.cmdLine c t) = none → s.entryLost t c.index = true →
        exec (.tblReadIndex id) s = .next (s.finishR id stEccFail 0 0)) ∧
      (c.opcode = opReadIndex → s.lockedSeg t (s.cmdLine c t) = none → s.entryLost t c.index = false → t.hashed = true →
        t.occupied (s.slotOf t c.index) = false → exec (.tblReadIndex id) s = .next (s.finishR id stNotFound 0 0)) ∧
      (c.opcode = opSwitch → (s.epochState = esStaging ∨ s.epochState = esStaged ∨ s.layoutMoving t = true) →
        exec (.tblSwitchRegion id) s = .next (s.finishR id stEpochBusy 0 0)) ∧
      (c.opcode = opSwitch → s.epochState ≠ esStaging → s.epochState ≠ esStaged → s.layoutMoving t = false →
        (t.region (!t.live)).used = true → c.bits 192 64 % 2 = 1 → c.bits 256 32 ≠ 0 → t.minLines ≤ c.bits 256 32 →
        c.bits 256 32 ≤ t.capacity (!t.live) →
        (s.tm.locks.filter (fun x => decide (x.dir = t.dir) && decide (x.table = t.id) && decide (x.reg = t.region (!t.live)))) = [] →
        exec (.tblSwitchRegion id) s = .next { s.begin id with tm := { s.tm with switches := s.tm.switches ++ [id] } }))

/-- Direct access to table memory (R184 to R188, R213, R214, R516): BAR2 words, segment locks, the hold of a table, and the scrub of a line. -/
def Sys2Proof.Claims.TableMemory : Prop :=
  ∀ (s : State), s.feOn = true →
    (∀ off v width, (s.dmaStops off = true ∨ s.tm.dmaHeld ≠ []) →
      exec (.bar2Write off width v) s = .next { s with tm := { s.tm with dmaHeld := s.tm.dmaHeld ++ [(off, width, v)] } }) ∧
    (∀ off v width, s.operating 69 = true → s.dmaStops off = false → s.tm.dmaHeld = [] →
      (off % 4 = 0 → width % 4 = 0 → 0 < width → exec (.bar2Write off width v) s =
        .next ((List.range (width / 4)).foldl (fun s k => s.bar2Word (off + 4 * k) (bits v (32 * k) 32)) s)) ∧
      (off % 4 ≠ 0 ∨ width % 4 ≠ 0 ∨ width = 0 → exec (.bar2Write off width v) s = .next (s.accessErr 69 1 off v)) ∧
      (off % 4 = 0 → v < 2 ^ 32 → (bar2Of off = none → exec (.bar2Write off 4 v) s = .next (s.accessErr 69 2 off v)) ∧
        ∀ d c ln w, bar2Of off = some (d, c, ln, w) →
          (s.lineLocked d c ln = true → exec (.bar2Write off 4 v) s =
            .next ((s.writeLine d c ln (32 * w) 32 v).inc FE_TDMA.DMA_WORDS.COUNT 0 0 1)) ∧
          (s.lineLocked d c ln = false → exec (.bar2Write off 4 v) s = .next
            (((s.sat1 FE_TDMA.DMA_UNLOCKED.COUNT).wf FE_TDMA.DMA_LAST_DISCARD.OFFSET off).raise Ev.FE_TDMA.DMA_UNLOCKED 0 0 off v)))) ∧
    (∀ off, (bar2Of off = none → exec (.bar2Read off) s = .next (s.emit (.readData 0))) ∧
      (∀ d c ln w, bar2Of off = some (d, c, ln, w) →
        (s.wordLost d c ln w = false → exec (.bar2Read off) s =
          .next (s.emit (.readData (bits (s.line d c ln) (32 * w) 32)))) ∧
        (s.wordLost d c ln w = true → exec (.bar2Read off) s = .next
          ((s.raise Ev.FE_TDMA.DMA_UNCORRECTABLE 0 0 (off / 4 * 4) 0).emit (.readData 0xFFFFFFFF))))) ∧
    (s.blockOpen 69 = true → ∀ ctrl,
      let put := fun (v : Nat) => ((((((s.wf FE_TDMA.LOCK_CTRL.TABLE_ID (bits v 0 8)).wf FE_TDMA.LOCK_CTRL.REGION (bits v 8 1)).wf
        FE_TDMA.LOCK_CTRL.STAGED (bits v 9 1)).wf FE_TDMA.LOCK_CTRL.OP (bits v 10 1)).wf FE_TDMA.LOCK_CTRL.FIRST_SEG (bits v 16 8)).wf
        FE_TDMA.LOCK_CTRL.LAST_SEG (bits v 24 8))
      let lock := setBit (setBit (ctrl % 2 ^ 32) 11 true) 10 true
      let free := setBit (setBit (ctrl % 2 ^ 32) 11 true) 10 false
      (∀ t r, (put lock).lockTarget = some (t, r) → bits ctrl 16 8 ≤ bits ctrl 24 8 →
        exec (.tdmaLock ctrl) s = .next (((put lock).setLocks t r (bits ctrl 16 8) (bits ctrl 24 8) true).showLocks)) ∧
      (∀ t r, (put free).lockTarget = some (t, r) → bits ctrl 16 8 ≤ bits ctrl 24 8 →
        exec (.tdmaUnlock ctrl) s = .next (((put free).setLocks t r (bits ctrl 16 8) (bits ctrl 24 8) false).showLocks)) ∧
      ((put lock).lockTarget = none ∨ bits ctrl 24 8 < bits ctrl 16 8 →
        exec (.tdmaLock ctrl) s = .next (((put lock).raise Ev.FE_TDMA.LOCK_REFUSED 0 0 lock 0).showLocks)) ∧
      ((put free).lockTarget = none ∨ bits ctrl 24 8 < bits ctrl 16 8 →
        exec (.tdmaUnlock ctrl) s = .next (((put free).raise Ev.FE_TDMA.LOCK_REFUSED 0 0 free 0).showLocks))) ∧
    (s.blockOpen 68 = true → ∀ v, ∃ t, exec (.holdWrite v) s = .next t ∧ t = { s with regs := t.regs } ∧
      t.rf FE_TCMD.HOLD.TABLE = v % 256 ∧ t.rf FE_TCMD.HOLD.ENABLE = v / 256 % 2 ∧
      (¬(v % 256 = s.rf FE_TCMD.HOLD.TABLE ∧ v / 256 % 2 = 1) → t.rf FE_TCMD.HOLD.ACTIVE = 0)) ∧
    (s.rfb FE_TCMD.HOLD.ENABLE = true → (∀ d ∈ s.ln.dels, d.1 ≠ s.rf FE_TCMD.HOLD.TABLE) →
      exec .holdDrained s = .next (s.wf FE_TCMD.HOLD.ACTIVE 1)) ∧
    (∀ st c ln single, st < 16 → c < 128 → ln < 49152 → s.cellMapped st c = true →
      (∀ x, x < 16 → s.remapNow x = none) → s.operating 68 = true →
      let bad := (List.range 8).filter (fun w => s.wordBad st c ln w)
      let n := (single.filter (fun w => decide (w < 8) && !s.wordBad st c ln w)).length
      let t := bad.foldl (fun u w => if s.wordLost (st / 8) c ln w then u.sat1 FE_TCMD.SCRUB_UNC.COUNT
        else (u.markWord st c ln w false).sat1 FE_TCMD.SCRUB_REPAIRED.COUNT) (s.sat FE_TCMD.SCRUB_CORR.COUNT 0 0 n)
      ((∀ w, w < 8 → s.wordLost (st / 8) c ln w = false) → exec (.tableScrub st c ln single [] false) s = .next t) ∧
      ((∃ w, w < 8 ∧ s.wordLost (st / 8) c ln w = true) → exec (.tableScrub st c ln single [] false) s =
        .next (((t.wf FE_TCMD.SCRUB_LAST.LOGICAL (st * 128 + c)).wf FE_TCMD.SCRUB_LAST.LINE ln).raise
          Ev.FE_TCMD.SCRUB_UNCORRECTABLE 0 0 (st * 128 + c) ln)))

/-- The statement over its parts: TableCommands, TableMemory. -/
def Obligations.TableAccess : Prop :=
  Claims.TableCommands ∧ Claims.TableMemory

/-- The write slots and what waits for them (R190 to R192, R204 to R212): each slot serves its owner, or the first of commands, learning, hits and
deletions that has work; a waiting region switch is applied to both banks at once. -/
def Sys2Proof.Claims.TableEngines : Prop :=
  ∀ (s : State), s.feOn = true →
    (let k := s.tm.slot
     let owner := if k < 4 then 0 else if k < 6 then 1 else if k < 7 then 2 else 3
     let u : State := { s with tm := { s.tm with slot := (k + 1) % 8 } }
     exec .tableWriteSlot s = .next (match (if s.slotWork owner then some owner else [0, 1, 2, 3].find? (fun j => s.slotWork j)) with
       | none => u
       | some 0 => u.cmdSlot
       | some 1 => u.learnProcess
       | some 2 => u.hitWrite
       | some _ => u.ageDeletion)) ∧
    (∀ id c t, s.cmd id = some c → s.tm.switches.contains id = true → c.phase = .begun → s.tblOf c.tblId = some t →
      s.tm.wq.any (fun e => match s.cmd e.1 with
        | some d => decide (d.phase = .begun) && decide (d.tblId = t.id)
        | none => false) = false →
      let u : State := { s with
        tm := { s.tm with switches := s.tm.switches.filter (fun k => !decide (k = id)) },
        bankA := s.bankA.switchTbl t (!t.live) (c.bits 128 64) (c.bits 192 64) (c.bits 256 32),
        bankB := s.bankB.switchTbl t (!t.live) (c.bits 128 64) (c.bits 192 64) (c.bits 256 32) }
      let v := match t.cntFld with
        | some (f, i) => u.setCnt f i (c.bits 288 32)
        | none => u
      exec (.regionSwitchApply id) s = .next
        ((v.showLayout.raise Ev.FE_TCMD.REGION_SWITCHED 0 0 t.id (b2n (!t.live))).finishR id stOK 0 (b2n (!t.live)))) ∧
    (∀ ev, s.learnHead = some (ev, none) → exec .learnEventProcess s = .next (s.setLearnQueue (s.ln.queue.drop 1))) ∧
    (∀ ev t sl, s.learnHead = some (ev, some t) →
      let u := s.setLearnQueue (s.ln.queue.drop 1)
      u.findSlot true t (t.hash 0 ev.key).1 ev.key = none → u.freeSlot t (t.hash 0 ev.key).1 = some sl →
      let v := (u.writeEntry t t.live sl (u.macEntry ev)).countEntry t true
      exec .learnEventProcess s = .next
        (((v.inc FE_TCMD.LEARN_WRITES.COUNT 0 0 1).inc FE_LEARN.INSERTED.COUNT 0 0 1).notify ev oInserted 0)) ∧
    (∀ ev t, s.learnHead = some (ev, some t) →
      let u := s.setLearnQueue (s.ln.queue.drop 1)
      let l := (t.hash 0 ev.key).1
      let d1 := ev.mac % 2 ^ 48 / 2 ^ 32 + ev.bd % 2 ^ 12 * 2 ^ 16
      (u.findSlot true t l ev.key = none → u.freeSlot t l = none → exec .learnEventProcess s = .next
        ((((u.rehashNote t.id).sat1 FE_LEARN.NO_ROOM.COUNT).raiseO Ev.FE_LEARN.LEARN_NO_ROOM 0 none (some t.id) (some l)).notify ev oNoRoom 0)) ∧
      ∀ sl, u.findSlot true t l ev.key = some sl →
        let e := u.slotOf t sl
        (bit e 61 = true → exec .learnEventProcess s = .next ((u.sat1 FE_LEARN.STATIC.COUNT).notify ev oStatic 0)) ∧
        (bit e 61 = false → bits e 84 9 = ev.port →
          exec .learnEventProcess s = .next ((u.sat1 FE_LEARN.DUPLICATE.COUNT).notify ev oDuplicate 0)) ∧
        (bit e 61 = false → bits e 84 9 ≠ ev.port → u.damped ev.key = true → exec .learnEventProcess s = .next
          (((u.sat1 FE_LEARN.DAMPED.COUNT).raise Ev.FE_LEARN.MAC_MOVE_DAMPED 0 ev.port (ev.mac % 2 ^ 32) d1).notify ev oDamped 0)) ∧
        (bit e 61 = false → bits e 84 9 ≠ ev.port → u.damped ev.key = false →
          let v := (u.dampMove ev.key).writeEntry t t.live sl (u.macEntry ev)
          let w := (v.inc FE_TCMD.LEARN_WRITES.COUNT 0 0 1).inc FE_LEARN.MOVED.COUNT 0 0 1
          exec .learnEventProcess s =
            .next ((w.raise Ev.FE_LEARN.MAC_MOVE 0 ev.port (ev.mac % 2 ^ 32) d1).notify ev oMoved (bits e 84 9)))) ∧
    (∀ h hs t, s.ln.hits = h :: hs →
      let u : State := { s with ln := { s.ln with hits := hs } }
      u.tblOf h.table = some t → (u.held t.id = true ∨ u.lockedSeg t (h.slot / t.perLine) ≠ none) →
      exec .hitSetWrite s = .next (u.hitLost t.id)) ∧
    (∀ h hs t, s.ln.hits = h :: hs →
      let u : State := { s with ln := { s.ln with hits := hs } }
      u.tblOf h.table = some t → u.held t.id = false → u.lockedSeg t (h.slot / t.perLine) = none →
      let v := u.inc FE_TCMD.HIT_WRITES.COUNT 0 0 1
      exec .hitSetWrite s = .next
        (if v.slotHolds t h.slot h.key then v.writeEntry t t.live h.slot (setBit (v.slotOf t h.slot) 62 true) else v)) ∧
    (∀ key d, s.ln.damps.find? (fun d => decide (d.key = key)) = some d →
      let u := s.advanceTo (d.opened + cySec)
      exec (.dampWindowExpire key) s = .next { u with ln := { s.ln with damps := s.ln.damps.filter (fun x => !decide (x.key = key)) } })

/-- The ager (R206, R207, R210 to R212): a tick starts the walk, or is an overrun while one runs; a line's entries are walked; the
ager's oldest write, a deletion or a refresh, is made unless its segment is locked or its layout moves. -/
def Sys2Proof.Claims.AgerCommands : Prop :=
  ∀ (s : State), s.feOn = true →
    (s.operating 71 = true → s.rfb FE_AGE.CTRL.ENABLE = true →
      let u := s.wf FE_AGE.NOW.TICKS (wrapAdd 16 (s.rf FE_AGE.NOW.TICKS) 1)
      (s.ln.walk = none → exec .ageTick s = .next { u with ln := { s.ln with walk := some ⟨u.agedTables, 0, s.cycle, false⟩ } }) ∧
      (∀ w, s.ln.walk = some w →
        let v := ({ u with ln := { s.ln with walk := some { w with again := true } } } : State).sat1 FE_AGE.WALK_OVERRUN.COUNT
        exec .ageTick s = .next (v.raise Ev.FE_AGE.WALK_OVERRUN 0 0 (v.rf FE_AGE.NOW.TICKS) (v.rf FE_AGE.LAST_WALK_US.US)))) ∧
    (∀ w, s.ln.walk = some w → s.operating 71 = true → s.rfb FE_AGE.CTRL.ENABLE = true →
      (w.tables = [] → exec .ageWalkLine s = .next (s.walkEnd w)) ∧
      (∀ id rest t, w.tables = id :: rest → s.tblOf id = some t → w.line < t.lines → s.held id = false → s.layoutMoving t = false →
        let u := if (s.lockedSeg t w.line).isSome then s else (t.lineSlots w.line).foldl (fun s sl => s.walkEntry t sl) s
        exec .ageWalkLine s = .next { u with ln := { u.ln with walk := some { w with line := w.line + 1 } } })) ∧
    (∀ id sl key refresh ds t, s.ln.dels = (id, sl, key, refresh) :: ds →
      let u : State := { s with ln := { s.ln with dels := ds } }
      u.tblOf id = some t →
      (u.lockedSeg t (t.hash 0 key).1 ≠ none ∨ u.layoutMoving t = true → exec .ageDeletion s = .next u) ∧
      (u.lockedSeg t (t.hash 0 key).1 = none → u.layoutMoving t = false →
        let v := u.inc FE_TCMD.AGER_WRITES.COUNT 0 0 1
        (refresh = false → exec .ageDeletion s = .next (v.ageDeleteAt t (v.findSlot true t (t.hash 0 key).1 key) true).1) ∧
        (refresh = true → v.slotHolds t sl key = true → exec .ageDeletion s = .next
          ((v.writeEntry t t.live sl (setBits (setBit (v.slotOf t sl) 62 false) 96 16 (v.rf FE_AGE.NOW.TICKS))).inc
            FE_AGE.REFRESHED.COUNT 0 0 1)) ∧
        (refresh = true → v.slotHolds t sl key = false → exec .ageDeletion s = .next v)))

/-- The statement over its parts: TableEngines, AgerCommands. -/
def Obligations.TableAutonomous : Prop :=
  Claims.TableEngines ∧ Claims.AgerCommands

/-- Ports come and go (R127, R215, R216, R219, R233): a port is enabled, refused or disabled, its link rises and falls, and
auto-negotiation fails. -/
def Sys2Proof.Claims.PortCommands : Prop :=
  ∀ (s : State) (p : Nat), s.feOn = true → p < 256 →
    (s.blockOpen (pgPage p) = true → ∀ cfg,
      let v := setBit (cfg % 2 ^ 32) 0 true
      let n := lanesOf (bits v 1 2)
      let refused := (s.cfgRefused p v).latchBounds
      (s.portEnabled p = false → laneRate (bits v 3 3) (bits v 1 2) = none → exec (.portEnable p cfg) s = .next refused) ∧
      (s.portEnabled p = false → p % n ≠ 0 ∨ s.lanesTaken p n = true → exec (.portEnable p cfg) s = .next refused) ∧
      (∀ r, s.portEnabled p = false → laneRate (bits v 3 3) (bits v 1 2) = some r → p % n = 0 → s.lanesTaken p n = false →
        let a := (((s.setPg FE_PG.PORT_CFG.WIDTH p (bits v 1 2)).setPg FE_PG.PORT_CFG.SPEED p (bits v 3 3)).setPg FE_PG.PORT_CFG.ENABLE p
          1).setPortCfg p v
        let b := (a.setPg FE_PG.PORT_STATUS.DEG p 0).updNetPort p (fun x => { x with bad := 0, good := 0, seenUp := false })
        let c := (b.setPg FE_PG.LAT.D_MAC_RX p (macLat (bits v 3 3)).1).setPg FE_PG.LAT.D_MAC_TX p (macLat (bits v 3 3)).2
        exec (.portEnable p cfg) s = .next ((c.setLanes (c.portLanes p) r).latchBounds)) ∧
      (s.portEnabled p = true →
        let same := bits v 1 2 = s.pg FE_PG.PORT_CFG.WIDTH p ∧ bits v 3 3 = s.pg FE_PG.PORT_CFG.SPEED p
        (same → exec (.portEnable p cfg) s = .next ((s.setPortCfg p v).latchBounds)) ∧
        (¬same → exec (.portEnable p cfg) s = .next (((s.setPortCfg p v).cfgRefused p v).latchBounds)))) ∧
    (s.blockOpen (pgPage p) = true → ∀ cfg,
      let v := setBit (cfg % 2 ^ 32) 0 false
      let wide := s.pg FE_PG.PORT_CFG.WIDTH p
      let fast := s.pg FE_PG.PORT_CFG.SPEED p
      let k := setBits (setBits v 1 2 wide) 3 3 fast
      let put := fun (u : State) (v : Nat) =>
        ((u.setPg FE_PG.PORT_CFG.WIDTH p (bits v 1 2)).setPg FE_PG.PORT_CFG.SPEED p (bits v 3 3)).setPortCfg p v
      let off := ((s.linkFall p 1).setPg FE_PG.PORT_CFG.ENABLE p 0).setLanes (s.portLanes p) 0
      (s.portEnabled p = false → exec (.portDisable p cfg) s = .next ((put (s.setPg FE_PG.PORT_CFG.ENABLE p 0) v).latchBounds)) ∧
      (s.portEnabled p = true → bits v 1 2 = wide ∧ bits v 3 3 = fast → exec (.portDisable p cfg) s = .next ((put off k).latchBounds)) ∧
      (s.portEnabled p = true → ¬(bits v 1 2 = wide ∧ bits v 3 3 = fast) →
        exec (.portDisable p cfg) s = .next (((put off k).cfgRefused p v).latchBounds))) ∧
    (s.portEnabled p = true → s.operating (pgPage p) = true → s.operating (sdnPage p) = true →
      s.pgb FE_PG.PORT_STATUS.LINK_UP p = false →
      let a := (s.setPg FE_PG.PORT_STATUS.LINK_UP p 1).setPg FE_PG.PORT_STATUS.LOS p 0
      let b := (a.setPg FE_PG.PORT_STATUS.LOCAL_FAULT p 0).setPg FE_PG.PORT_STATUS.REMOTE_FAULT p 0
      let c := (b.setPg FE_PG.PORT_STATUS.AN_DONE p (b.pg FE_PG.PORT_CFG.AN_EN p)).setPg FE_PG.PORT_STATUS.LT_DONE p (b.pg FE_PG.PORT_CFG.LT_EN p)
      let u := (c.portLanes p).foldl (fun (s : State) l =>
        let x := ((s.freeVal.2.wfp FE_SDN.LANE_STATUS.SIGNAL (l / 16) (l % 16) 1).wfp FE_SDN.LANE_STATUS.CDR_LOCK (l / 16) (l % 16) 1)
        let y := if x.rfp FE_SDN.LANE_CFG.ADAPT_FREEZE (l / 16) (l % 16) = 1 then x
          else x.wfp FE_SDN.LANE_STATUS.ADAPT_DONE (l / 16) (l % 16) 1
        (if y.pgb FE_PG.PORT_CFG.LT_EN p then y.trainLane l else y).wfp FE_SDN.LANE_STATUS.EYE_MARGIN (l / 16) (l % 16) s.freeVal.1) c
      let v := (u.rfUpdate p).raise Ev.FE_PG.LINK_UP (p / 8) 0 p 0
      exec (.linkUp p) s = .next (if (v.netPort p).seenUp then v.protHealth p
        else
          let w := v.updNetPort p (fun n => { n with seenUp := true })
          if w.pg FE_PG.PORT_STATUS.PROT_STATE p = protForced then w
          else if w.healthy p then (w.disarm .protWtr p).setProt p protIn else w)) ∧
    (s.portEnabled p = true → ∀ cause, 1 ≤ cause → cause ≤ 3 →
      let a := (s.setPg FE_PG.PORT_STATUS.LINK_UP p 0).setPg FE_PG.PORT_STATUS.LOS p (if cause = 1 then 1 else 0)
      let b := (a.setPg FE_PG.PORT_STATUS.LOCAL_FAULT p (if cause = 2 then 1 else 0)).setPg FE_PG.PORT_STATUS.REMOTE_FAULT p
        (if cause = 3 then 1 else 0)
      let c := if cause = 1 then (b.portLanes p).foldl (fun (s : State) l =>
        (s.wfp FE_SDN.LANE_STATUS.SIGNAL (l / 16) (l % 16) 0).wfp FE_SDN.LANE_STATUS.CDR_LOCK (l / 16) (l % 16) 0) b else b
      (s.pgb FE_PG.PORT_STATUS.LINK_UP p = true →
        let u := (c.cutTx p).rfUpdate p
        exec (.linkDown p cause) s = .next ((u.raise Ev.FE_PG.LINK_DOWN (p / 8) cause p (u.portStatus p)).protHealth p)) ∧
      (s.pgb FE_PG.PORT_STATUS.LINK_UP p = false → exec (.linkDown p cause) s = .next ((c.rfUpdate p).protHealth p))) ∧
    (s.portEnabled p = true → s.pgb FE_PG.PORT_CFG.AN_EN p = true → s.operating (pgPage p) = true → ∀ ability,
      exec (.anFail p ability) s =
        .next ((s.setPg FE_PG.PORT_STATUS.AN_DONE p 0).raiseO Ev.FE_PG.AN_FAIL (p / 8) none (some p) (some ability)))

/-- DEG_INTERVAL_END of a network port or a fabric link (R221, R238, R257): the interval's errors are counted, and a run of bad or good
intervals sets or clears DEG and raises its event. -/
def Sys2Proof.Claims.Degradation : Prop :=
  ∀ (s : State),
    (s.feOn = true → ∀ p corr unc prbs, p < 256 → s.portEnabled p = true → s.operating (pgPage p) = true →
      let u := ((s.prbsCount p prbs).pgInc FE_PG.CNT.FEC_CORR_SYM p corr).pgSat FE_PG.CNT.FEC_UNCORR_CW p unc
      (u.pgb FE_PG.PORT_STATUS.LINK_UP p = false → exec (.degIntervalEnd (.port p) corr unc prbs) s = .next u) ∧
      (u.pgb FE_PG.PORT_STATUS.LINK_UP p = true →
        let bad := decide (u.pg FE_PG.DEG_CFG.DEG_THR p < corr + 16 * unc)
        let v := u.updNetPort p (fun x => { x with bad := if bad then x.bad + 1 else 0, good := if bad then 0 else x.good + 1 })
        let m := orWhenZero (u.pg FE_PG.DEG_CFG.DEG_M p) 1
        (m ≤ (v.netPort p).bad → v.pgb FE_PG.PORT_STATUS.DEG p = false → exec (.degIntervalEnd (.port p) corr unc prbs) s = .next
          (((v.setPg FE_PG.PORT_STATUS.DEG p 1).raiseO Ev.FE_PG.DEG_SET (p / 8) none (some p) (some (corr + 16 * unc))).protHealth p)) ∧
        (m ≤ (v.netPort p).good → v.pgb FE_PG.PORT_STATUS.DEG p = true → exec (.degIntervalEnd (.port p) corr unc prbs) s = .next
          (((v.setPg FE_PG.PORT_STATUS.DEG p 0).raiseO Ev.FE_PG.DEG_CLEAR (p / 8) none (some p) (some 0)).protHealth p)) ∧
        ((v.netPort p).bad < m ∨ v.pgb FE_PG.PORT_STATUS.DEG p = true → (v.netPort p).good < m ∨ v.pgb FE_PG.PORT_STATUS.DEG p = false →
          exec (.degIntervalEnd (.port p) corr unc prbs) s = .next v))) ∧
    (s.tmOn = true → ∀ n corr unc prbs, s.flEnabled n = true →
      let u := ((s.flinkPrbs n (prbs.getD 0 0)).flInc TM_FLINK.CNT.FEC_CORR_SYM n corr).flSat TM_FLINK.CNT.FEC_UNCORR_CW n unc
      (u.fl TM_FLINK.LINK_STATUS.ALIGN n ≠ alInFrame → exec (.degIntervalEnd (.link n) corr unc prbs) s = .next u) ∧
      (u.fl TM_FLINK.LINK_STATUS.ALIGN n = alInFrame →
        let bad := decide (u.fl TM_FLINK.DEG_CFG.DEG_THR n < corr + 16 * unc)
        let v := u.updLink n (fun x => { x with bad := if bad then x.bad + 1 else 0, good := if bad then 0 else x.good + 1 })
        let m := orWhenZero (u.fl TM_FLINK.DEG_CFG.DEG_M n) 1
        (m ≤ (v.link n).bad → v.flb TM_FLINK.LINK_STATUS.DEG n = false → exec (.degIntervalEnd (.link n) corr unc prbs) s = .next
          (((v.setFl TM_FLINK.LINK_STATUS.DEG n 1).flRaise Ev.TM_FLINK.DEG_SET n none (some (corr + 16 * unc))).linkEval n)) ∧
        (m ≤ (v.link n).good → v.flb TM_FLINK.LINK_STATUS.DEG n = true → exec (.degIntervalEnd (.link n) corr unc prbs) s = .next
          (((v.setFl TM_FLINK.LINK_STATUS.DEG n 0).flRaise Ev.TM_FLINK.DEG_CLEAR n none (some 0)).linkEval n)) ∧
        ((v.link n).bad < m ∨ v.flb TM_FLINK.LINK_STATUS.DEG n = true → (v.link n).good < m ∨ v.flb TM_FLINK.LINK_STATUS.DEG n = false →
          exec (.degIntervalEnd (.link n) corr unc prbs) s = .next v)))

/-- The statement over its parts: PortCommands, Degradation. -/
def Obligations.PortStates : Prop :=
  Claims.PortCommands ∧ Claims.Degradation

/-- Priority flow control and preemption (R222, R224, R237): a PFC frame received counts and pauses or releases the enabled classes, the
pause and refresh timers run out, and PREEMPT_CFG starts verification, which succeeds or fails. -/
def Sys2Proof.Claims.PauseAndPreemption : Prop :=
  ∀ (s : State) (p : Nat), s.feOn = true → p < 256 →
    (s.linkUp p = true → s.loopedLanes p = false → ∀ vec quanta,
      let a := (s.pgInc FE_PG.CNT.RX_FRAMES p 1).pgInc FE_PG.CNT.RX_BYTES p 64
      exec (.pfcFrameRx p vec quanta) s = .next ((List.range 8).foldl (fun (s : State) c =>
        if bit vec c && bit (s.pg FE_PG.PFC_CFG.PFC_EN p) c then
          (if quanta.getD c 0 % 65536 = 0 then s.disarm .pfcPause (p * 8 + c)
           else (s.arm .pfcPause (p * 8 + c) (s.bitCycles p (512 * (quanta.getD c 0 % 65536)))).workEnds (.egr p c))
        else s) ((a.pgSat FE_PG.CNT.RX_MAC_CTRL p 1).pgInc FE_PG.CNT.PFC_RX p 1))) ∧
    (∀ c d, s.timerAt .pfcPause (p * 8 + c) = some d → exec (.pfcPauseExpire p c) s = .next (s.expired .pfcPause (p * 8 + c) d)) ∧
    (∀ c d, s.timerAt .pfcRefresh (p * 8 + c) = some d →
      let u := s.expired .pfcRefresh (p * 8 + c) d
      (bit (u.netPort p).xoff c = true → u.pg FE_PG.PFC_THR.PFC_XON p * 256 ≤ u.pfcBytes p c →
        exec (.pfcRefreshTimer p c) s = .next ((u.pfcSend p c (u.pg FE_PG.PFC_CFG.QUANTA p)).pfcArm p c)) ∧
      (bit (u.netPort p).xoff c = false ∨ u.pfcBytes p c < u.pg FE_PG.PFC_THR.PFC_XON p * 256 →
        exec (.pfcRefreshTimer p c) s = .next u)) ∧
    (s.blockOpen (pgPage p) = true → ∀ cfg,
      let v := setBit (cfg % 2 ^ 32) 0 true
      let a := (s.setPg FE_PG.PREEMPT_CFG.EN p (bits v 0 1)).setPg FE_PG.PREEMPT_CFG.ADD_FRAG_SIZE p (bits v 1 2)
      let b := ((a.setPg FE_PG.PREEMPT_CFG.VERIFY_DIS p (bits v 3 1)).setPg FE_PG.PREEMPT_CFG.VERIFY_MS p (bits v 4 8)).disarm .preempt p
      (bit cfg 3 = true → exec (.preemptEnable p cfg) s =
        .next (((b.setPg FE_PG.PORT_STATUS.PREEMPT_ACTIVE p 1).setPg FE_PG.PORT_STATUS.VERIFY p 0).showHold p)) ∧
      (bit cfg 3 = false →
        let c := (b.setPg FE_PG.PORT_STATUS.PREEMPT_ACTIVE p 0).setPg FE_PG.PORT_STATUS.VERIFY p 1
        exec (.preemptEnable p cfg) s = .next
          ((((c.updNetPort p (fun x => { x with attempts := 1 })).emit (.preemptVerify p)).arm .preempt p (c.verifyMs p * cyMs)).showHold p))) ∧
    (∀ d, s.timerAt .preempt p = some d →
      exec (.preemptVerifyTimer p true) s = .next
        ((((s.disarm .preempt p).setPg FE_PG.PORT_STATUS.PREEMPT_ACTIVE p 1).setPg FE_PG.PORT_STATUS.VERIFY p 2).showHold p) ∧
      (let u := s.expired .preempt p d
       exec (.preemptVerifyTimer p false) s = .next
        (if (u.netPort p).attempts < 3 then
          ((u.updNetPort p (fun x => { x with attempts := x.attempts + 1 })).emit (.preemptVerify p)).arm .preempt p (u.verifyMs p * cyMs)
         else (u.setPg FE_PG.PORT_STATUS.VERIFY p 3).raiseO Ev.FE_PG.PREEMPT_VERIFY_FAIL (p / 8) none (some p) (some 0))))

/-- The records of path protection read and written (R230), the recovery reset (R232), the states of protected ports (R233), and the
acknowledgement of a transmit time stamp (R228). -/
def Sys2Proof.Claims.ProtectionCommands : Prop :=
  ∀ (s : State), s.feOn = true →
    (s.blockOpen 75 = true → ∀ sel,
      let k := bits sel 0 14
      let d0 := s.rfi FE_PROT.DATA.DATA 0
      let d1 := s.rfi FE_PROT.DATA.DATA 1
      (∃ t, exec (.protRecordRead sel) s = .next t ∧ t = { s with regs := t.regs } ∧ t.rf FE_PROT.STREAM_SEL.STREAM = k ∧
        t.rf FE_PROT.STREAM_SEL.SIDE = bits sel 16 1 ∧ t.rf FE_PROT.STREAM_SEL.OP = 0 ∧ t.rfi FE_PROT.DATA.DATA 3 = 0 ∧
        (bit sel 16 = false → let r := s.txRec k
          t.rfi FE_PROT.DATA.DATA 0 = (r.portA + r.portB * 2 ^ 8 + (if r.valid then 2 ^ 16 else 0) + r.off * 2 ^ 17) % 2 ^ 32 ∧
          t.rfi FE_PROT.DATA.DATA 1 = r.seq % 2 ^ 32 ∧ t.rfi FE_PROT.DATA.DATA 2 = 0) ∧
        (bit sel 16 = true → let r := s.rxRec k
          t.rfi FE_PROT.DATA.DATA 0 = (r.seq + (if r.takeAny then 2 ^ 16 else 0) + (if r.valid then 2 ^ 17 else 0)) % 2 ^ 32 ∧
          t.rfi FE_PROT.DATA.DATA 1 = r.hist % 2 ^ 32 ∧ t.rfi FE_PROT.DATA.DATA 2 = r.hist / 2 ^ 32 % 2 ^ 32)) ∧
      (bit sel 16 = true → ∃ t, exec (.protRecordWrite sel) s = .next t ∧ t.rxRec k = ⟨bits d0 0 16, bit d0 16, bit d0 17, 0⟩ ∧
        (∀ j, j ≠ k → t.rxRec j = s.rxRec j) ∧ (∀ j, t.txRec j = s.txRec j) ∧ t.rf FE_PROT.STREAM_SEL.ERR = 0 ∧
        t.timerAt .rcvyReset k = (if bit d0 17 && !bit d0 16 then
          some (s.cycle + orWhenZero (s.rf FE_PROT.RCVY_RESET.MS) 1 * cyMs) else none) ∧
        t = { s with regs := t.regs, net := t.net, timers := t.timers }) ∧
      (bit sel 16 = false → bits d0 0 8 / 16 = bits d0 8 8 / 16 →
        ∃ t, exec (.protRecordWrite sel) s = .next t ∧ t.rf FE_PROT.STREAM_SEL.ERR = 0 ∧
        t.txRec k = ⟨bits d0 0 8, bits d0 8 8, bit d0 16, bits d0 17 7, bits d1 0 16⟩ ∧
        (∀ j, j ≠ k → t.txRec j = s.txRec j) ∧ (∀ j, t.rxRec j = s.rxRec j) ∧ t = { s with regs := t.regs, net := t.net }) ∧
      (bit sel 16 = false → bits d0 0 8 / 16 ≠ bits d0 8 8 / 16 →
        ∃ t, exec (.protRecordWrite sel) s = .next t ∧ t = { s with regs := t.regs } ∧ t.rf FE_PROT.STREAM_SEL.ERR = 1)) ∧
    (∀ k d, s.timerAt .rcvyReset k = some d →
      let u := s.expired .rcvyReset k d
      exec (.rcvyResetExpire k) s = .next ((u.setRxRec k { u.rxRec k with takeAny := true }).sat1 FE_PROT.RCVY_RESETS.COUNT)) ∧
    (∀ p d, s.timerAt .protWtr p = some d →
      let u := s.expired .protWtr p d
      (u.pg FE_PG.PORT_STATUS.PROT_STATE p = protWait → exec (.protWtrExpire p) s = .next
        ((u.setProt p protIn).raiseO Ev.FE_PG.PROT_REJOIN (p / 8) none (some p) (some 0))) ∧
      (u.pg FE_PG.PORT_STATUS.PROT_STATE p ≠ protWait → exec (.protWtrExpire p) s = .next u)) ∧
    (s.blockOpen 75 = true → ∀ k mask, k < 8 → mask < 2 ^ 32 → exec (.protForceOut k mask) s = .next
      ((List.range 32).foldl (fun (u : State) b =>
        let p := 32 * k + b
        if bit mask b && !bit (s.rfi FE_PROT.FORCE_OUT.PORT k) b then
          ((u.disarm .protWtr p).setProt p protForced).raise Ev.FE_PG.PROT_WITHDRAW (p / 8) 4 p 0
        else if !bit mask b && bit (s.rfi FE_PROT.FORCE_OUT.PORT k) b then
          (if u.healthy p then (u.setProt p protWait).arm .protWtr p u.protWtr else u.setProt p protWithdrawn)
        else u) (s.wfi FE_PROT.FORCE_OUT.PORT k mask))) ∧
    (∀ g, g < 32 → s.blockOpen (16 + g) = true → s.rfp FE_PG.TS_CTRL.TS_VALID g 0 = 1 →
      exec (.tsAck g) s = .next (s.setTs g ((s.tsFifo g).drop 1)))

/-- The statement over its parts: PauseAndPreemption, ProtectionCommands. -/
def Obligations.PortProtocols : Prop :=
  Claims.PauseAndPreemption ∧ Claims.ProtectionCommands

/-- A fabric link finds and loses its signal (R242, R253, R254, R259): codeword lock, loss of signal, and the FAW checks that take the
link from HUNT through PRESYNC to CHECK and, when they fail, back to HUNT. -/
def Sys2Proof.Claims.LinkAlignment : Prop :=
  ∀ (s : State) (n : Nat), s.tmOn = true → s.flEnabled n = true →
    (let a := (s.setFl TM_FLINK.LINK_STATUS.LOS n 0).setFl TM_FLINK.LINK_STATUS.CW_LOCK n 1
     ∃ eye, exec (.codewordLock n) s = .next (((({ a with freeCtr := a.freeCtr + 1 } : State).wfp TM_SDF.LANE_STATUS.EYE_MARGIN
        (n / 16) (n % 16) eye).disarm .flinkTrain n).linkEval n)) ∧
    (∀ signal, let a := (if signal then s.setFl TM_FLINK.LINK_STATUS.LOS n 1 else s).setFl TM_FLINK.LINK_STATUS.CW_LOCK n 0
      exec (.flinkLos n signal) s = .next (if s.fl TM_FLINK.LINK_STATUS.ALIGN n = alInFrame then
        ((a.hunt n 0).flRaise Ev.TM_FLINK.LOF n (some (if signal then 1 else 2)) (some 0)).linkEval n else (a.hunt n 0).linkEval n)) ∧
    (∀ phase diff exact, s.flb TM_FLINK.LINK_STATUS.CW_LOCK n = true → phase < 64000 →
      let seen := fun q => (q = phase ∧ diff = 0) ∨ (q ∈ exact ∧ q < 64000)
      (s.fl TM_FLINK.LINK_STATUS.ALIGN n = alHunt → (∀ q, ¬seen q) → exec (.fawCheck n phase diff exact) s = .next s) ∧
      (s.fl TM_FLINK.LINK_STATUS.ALIGN n = alHunt → (s.link n).start < 64000 → ∀ q, seen q →
        (∀ r, seen r → (q + 64000 - (s.link n).start) % 64000 ≤ (r + 64000 - (s.link n).start) % 64000) →
        exec (.fawCheck n phase diff exact) s = .next
          ((s.setFl TM_FLINK.LINK_STATUS.ALIGN n alPresync).updLink n (fun l => { l with cand := q, steps := 0 }))) ∧
      (s.fl TM_FLINK.LINK_STATUS.ALIGN n = alPresync → phase = (s.link n).cand → diff ≤ 3 →
        exec (.fawCheck n phase diff exact) s = .next (if (s.link n).steps = 2 then
          (s.setFl TM_FLINK.LINK_STATUS.ALIGN n alCheck).updLink n (fun l => { l with steps := 0, lastMfi := none, cur := [], prev := none })
          else s.updLink n (fun l => { l with steps := l.steps + 1 }))) ∧
      (s.fl TM_FLINK.LINK_STATUS.ALIGN n = alPresync → phase = (s.link n).cand → 3 < diff →
        exec (.fawCheck n phase diff exact) s = .next (s.hunt n (phase + 1))) ∧
      (s.fl TM_FLINK.LINK_STATUS.ALIGN n = alInFrame → phase = (s.link n).cand → diff ≤ 3 →
        exec (.fawCheck n phase diff exact) s = .next (s.updLink n (fun l => { l with faws := 0 }))) ∧
      (s.fl TM_FLINK.LINK_STATUS.ALIGN n = alInFrame → phase = (s.link n).cand → 3 < diff →
        exec (.fawCheck n phase diff exact) s = .next (if (s.link n).faws = 3 then
          ((s.hunt n phase).flRaise Ev.TM_FLINK.LOF n (some 3) (some 0)).linkEval n
          else s.updLink n (fun l => { l with faws := l.faws + 1 }))))

/-- A frame overhead (R246, R247, R254, R256): in CHECK the first good one stands and the second brings IN_FRAME with LOF 0; a bad one
is counted and raises FALSE_LOCK; IN_FRAME, a bad one only counts and the expected MFI moves on. -/
def Sys2Proof.Claims.OverheadReceive : Prop :=
  ∀ (s : State) (n : Nat) (raw : Bytes) (marked : Bool), s.tmOn = true → s.flEnabled n = true → s.flLooped n = false →
    let b := raw.take 8 ++ scramble 8 (raw.drop 8)
    let mfi := (b.getD 8 0).toNat
    (s.fl TM_FLINK.LINK_STATUS.ALIGN n = alCheck → ohGood b marked = true → (s.link n).steps = 0 →
      exec (.overheadRx n raw marked) s = .next ((s.updLink n (fun l => { l with steps := 1, lastMfi := some mfi })).traceByte n mfi
        (b.getD 10 0).toNat)) ∧
    (s.fl TM_FLINK.LINK_STATUS.ALIGN n = alCheck → ohGood b marked = true → (s.link n).steps ≠ 0 →
      exec (.overheadRx n raw marked) s = .next ((((s.setFl TM_FLINK.LINK_STATUS.ALIGN n alInFrame).setFl TM_FLINK.LINK_STATUS.LOF n 0).setFl
        TM_FLINK.LINK_STATUS.LOM n 1).ohUse n b)) ∧
    (s.fl TM_FLINK.LINK_STATUS.ALIGN n = alCheck → ohGood b marked = false →
      exec (.overheadRx n raw marked) s = .next ((((s.flSat TM_FLINK.CNT.OH_CRC_ERR n 1).flSat TM_FLINK.CNT.FALSE_LOCK n 1).hunt n
        ((s.link n).cand + 1)).flRaise Ev.TM_FLINK.FALSE_LOCK n none (some (s.link n).cand))) ∧
    (s.fl TM_FLINK.LINK_STATUS.ALIGN n = alInFrame → ohGood b marked = true → exec (.overheadRx n raw marked) s = .next (s.ohUse n b)) ∧
    (s.fl TM_FLINK.LINK_STATUS.ALIGN n = alInFrame → ohGood b marked = false →
      exec (.overheadRx n raw marked) s = .next ((s.flSat TM_FLINK.CNT.OH_CRC_ERR n 1).updLink n
        (fun l => { l with expect := (l.expect + 1) % 256, lastMfi := none, cur := [] })))

/-- The statement over its parts: LinkAlignment, OverheadReceive. -/
def Obligations.LinkReceive : Prop :=
  Claims.LinkAlignment ∧ Claims.OverheadReceive

/-- What the host and the timers do to a fabric link (R253, R255, R256, R259, R263, R266): LINK_CFG, which starts the link, stops it or
forces it out; its trace bytes; and the expiry of FAB_WTR, of training and of a stop of flow control. A write that finds the page fenced
changes nothing. -/
def Obligations.LinkControl : Prop :=
  ∀ (s : State), s.tmOn = true →
    (∀ n cfg, n < 320 → s.blockOpen (flPage n) = true → s.flb TM_FLINK.LINK_CFG.ENABLE n = true →
      let t := s.linkCfgSet n (setBit (cfg % 2 ^ 32) 0 false)
      exec (.flinkDisable n cfg) s = .next t ∧ t.timerAt .flinkWtr n = none ∧ t.timerAt .flinkTrain n = none ∧
      t.fl TM_FLINK.LINK_CFG.ENABLE n = 0 ∧ t.fl TM_FLINK.LINK_STATUS.STATE n = lsWithdrawn ∧ t.fl TM_FLINK.LINK_STATUS.ALIGN n = alHunt ∧
      t.fl TM_FLINK.LINK_STATUS.LOF n = 1 ∧ t.fl TM_FLINK.LINK_STATUS.CW_LOCK n = 0 ∧ t.fl TM_FLINK.LINK_STATUS.LOS n = 1) ∧
    (∀ n cfg, n < 320 → s.blockOpen (flPage n) = true →
      let t := s.linkCfgSet n (setBit (cfg % 2 ^ 32) 0 true)
      exec (.flinkEnable n cfg) s = .next t ∧ t.fl TM_FLINK.LINK_CFG.ENABLE n = 1 ∧
      t.fl TM_FLINK.LINK_CFG.LT_EN n = bits cfg 1 1 ∧ t.fl TM_FLINK.LINK_CFG.TIM_EN n = bits cfg 2 1 ∧
      t.fl TM_FLINK.LINK_CFG.TIM_DEV n = bits cfg 3 1 ∧ t.fl TM_FLINK.LINK_CFG.TIM_LINK n = bits cfg 4 1 ∧
      t.fl TM_FLINK.LINK_CFG.TIM_PLANE n = bits cfg 5 1 ∧ t.fl TM_FLINK.LINK_CFG.TIM_OPER n = bits cfg 6 1 ∧
      t.fl TM_FLINK.LINK_CFG.FORCE_OUT n = bits cfg 7 1 ∧ t.fl TM_FLINK.LINK_CFG.REACT n = bits cfg 8 5 ∧
      (s.flb TM_FLINK.LINK_CFG.ENABLE n = false → t.fl TM_FLINK.LINK_STATUS.ALIGN n = alHunt ∧ t.fl TM_FLINK.LINK_STATUS.LOF n = 1 ∧
        t.fl TM_FLINK.LINK_STATUS.LOM n = 1 ∧ t.fl TM_FLINK.LINK_STATUS.TIM n = bits cfg 2 1 ∧ t.fl TM_FLINK.LINK_STATUS.DEG n = 0 ∧
        (t.link n).accepted = none ∧
        t.timerAt .flinkTrain n = if bits cfg 1 1 = 1 then some (s.cycle + 500 * cyMs) else none) ∧
      ∀ on, let u := s.linkCfgSet n (setBit (s.linkCfgWord n) 7 on)
        exec (.flinkForceOut n on) s = .next u ∧ u.fl TM_FLINK.LINK_CFG.FORCE_OUT n = (if on then 1 else 0) ∧
        (s.flEnabled n = true → on = true → u.fl TM_FLINK.LINK_STATUS.STATE n = lsForcedOut ∧ u.timerAt .flinkWtr n = none)) ∧
    (∀ n cfg on, 320 ≤ n ∨ s.blockOpen (flPage n) = false → exec (.flinkEnable n cfg) s = .next s ∧
      exec (.flinkDisable n cfg) s = .next s ∧ exec (.flinkForceOut n on) s = .next s) ∧
    (∀ n d, s.timerAt .flinkWtr n = some d →
      let u := ((s.expired .flinkWtr n d).setFl TM_FLINK.LINK_STATUS.STATE n lsInService).updLink n (fun l => { l with seenUp := true })
      exec (.flinkWtrExpire n) s =
        .next ((u.inc TM_FLINK.LINKS_UP.COUNT (n / 32) 0 1).flRaise Ev.TM_FLINK.REJOIN n none (some 0))) ∧
    (∀ n d, s.timerAt .flinkTrain n = some d → exec (.trainFailTimeout n) s = .next
      (((s.expired .flinkTrain n d).flRaise Ev.TM_FLINK.TRAIN_FAIL n none (some n)).trainArm n)) ∧
    (∀ dev pg d, pg < 32 → s.timerAt .fcTimeout (dev * 32 + pg) = some d → exec (.fcTimeoutExpire dev pg) s = .next
      ((s.expired .fcTimeout (dev * 32 + pg) d).sat1 TM_FLINK.FC_EXPIRED.COUNT)) ∧
    ∀ k sel, k < 10 → s.blockOpen (4136 + k) = true →
      let n := 32 * k + bits sel 0 5
      let byte := fun i => bits (s.rfp TM_FLINK.TRACE_DATA.DATA k (i / 4)) (8 * (i % 4)) 8
      let r := setBit (sel % 2 ^ 32) 8 false
      let w := setBit (sel % 2 ^ 32) 8 true
      (bits sel 5 3 = 0 → exec (.traceSelRead k sel) s = .next ((s.traceSel k r false).traceData k ((s.traceSel k r false).txTrace n)) ∧
        ∃ t, exec (.traceSelWrite k sel) s = .next t ∧ t = (s.traceSel k w false).updLink n (fun l => { l with txTrace := (t.link n).txTrace }) ∧
          ∀ i, SMap.get 0 (t.link n).txTrace i = if 11 ≤ i ∧ i < 30 then (if i = 28 then byte i % 4 else byte i)
            else SMap.get 0 (s.link n).txTrace i) ∧
      (bits sel 5 3 = 1 → exec (.traceSelRead k sel) s = .next ((s.traceSel k r false).traceData k
          ((List.range 64).map (fun i => BitVec.ofNat 8 (SMap.get 0 (s.link n).expTrace i)))) ∧
        ∃ t, exec (.traceSelWrite k sel) s = .next t ∧ t = (s.traceSel k w false).updLink n (fun l => { l with expTrace := (t.link n).expTrace }) ∧
          ∀ i, SMap.get 0 (t.link n).expTrace i = if i < 64 then byte i else SMap.get 0 (s.link n).expTrace i) ∧
      (∀ b, bits sel 5 3 = 2 → (s.link n).accepted = some b →
        exec (.traceSelRead k sel) s = .next ((s.traceSel k r false).traceData k b)) ∧
      (bits sel 5 3 = 2 → (s.link n).accepted = none → exec (.traceSelRead k sel) s = .next ((s.traceSel k r false).traceFree k)) ∧
      (bits sel 5 3 = 3 ∨ bits sel 5 3 = 4 → exec (.traceSelRead k sel) s = .next ((s.traceSel k r false).traceData k
        ((List.range 4).flatMap (fun b => toLe 16 (SMap.get 0 (s.link n).reach ((bits sel 5 3 - 3) * 4 + b)))))) ∧
      (5 ≤ bits sel 5 3 → exec (.traceSelRead k sel) s = .next (s.traceSel k r true)) ∧
      (2 ≤ bits sel 5 3 → exec (.traceSelWrite k sel) s = .next (s.traceSel k w true))

/-- The channel commands (R293, R295 to R299): what CHAN_CREATE, CHAN_MODIFY, CHAN_DESTROY and CHAN_QUERY leave in the channel and
answer, for a legal record and for each refusal. -/
def Sys2Proof.Claims.ChannelCommands : Prop :=
  ∀ (s : State) (id : Nat) (c : Cmd), s.tmOn = true → s.cmd id = some c → s.mayStart c = true →
    let cause := fun (port : Nat) (voq : Bool) =>
      if 256 < port ∨ c.bits 129 1 = 1 ∧ voq = true then some 16 else if 16383 < c.bits 200 14 then some 17
      else if c.bits 192 8 = 0 then some 19 else none
    (c.opcode = 0x20 →
      (∀ d, cause (c.bits 160 9) (c.bits 128 1 != 1) = some d → exec (.chanCreate id) s = .next (s.finishR id stInvalid d 0)) ∧
      (cause (c.bits 160 9) (c.bits 128 1 != 1) = none → c.bits 130 1 ≠ 1 → (s.chan (c.bits 144 16)).used = true →
        exec (.chanCreate id) s = .next (s.finishR id stExists 0 0)) ∧
      (cause (c.bits 160 9) (c.bits 128 1 != 1) = none → c.bits 130 1 = 1 → (∀ x, x < 65536 → (s.chan x).used = true) →
        exec (.chanCreate id) s = .next (s.finishR id stInvalid 18 0)) ∧
      (cause (c.bits 160 9) (c.bits 128 1 != 1) = none → ∀ x, (s.chan x).used = false →
        (c.bits 130 1 ≠ 1 ∧ x = c.bits 144 16 ∨ c.bits 130 1 = 1 ∧ x < 65536 ∧ ∀ y, y < x → (s.chan y).used = true) →
        ∃ u : State, exec (.chanCreate id) s = .next (u.finishR id stOK 0 (s.handleOf x)) ∧
          u.chan x = { s.chan x with
            used := true, dying := false, egress := decide (c.bits 128 1 = 1), outPort := c.bits 160 9,
            destDev := c.bits 176 10, mask := c.bits 192 8, portDefault := decide (c.bits 129 1 = 1), parent := c.bits 200 14,
            profile := c.bits 256 64, cmd := none, drops := 0 } ∧
          (c.bits 129 1 = 1 → u.rfi TM_CHAN.PORT_CHAN.HANDLE (c.bits 160 9) = s.handleOf x % 2 ^ 32) ∧
          (∀ y, y ≠ x → (u.chan y).used = (s.chan y).used ∧ (u.chan y).gen = (s.chan y).gen) ∧
          (∀ Q, Q ≠ 4148 → u.hdr Q = s.hdr Q) ∧ u = { s with chans := u.chans, sc := u.sc, regs := u.regs, hdrs := u.hdrs })) ∧
    (s.cmdChan c = none →
      (c.opcode = 0x22 → exec (.chanModify id) s = .next (s.finishR id stStaleHandle 0 0)) ∧
      (c.opcode = 0x21 → exec (.chanDestroy id) s = .next (s.finishR id stStaleHandle 0 0)) ∧
      (c.opcode = 0x23 → exec (.chanQuery id) s = .next (s.finishR id stStaleHandle 0 0))) ∧
    ∀ x, s.cmdChan c = some x →
      (c.opcode = 0x22 →
        (∀ d, cause (s.chan x).outPort (!(s.chan x).egress) = some d → exec (.chanModify id) s = .next (s.finishR id stInvalid d 0)) ∧
        (cause (s.chan x).outPort (!(s.chan x).egress) = none →
          ∃ u : State, exec (.chanModify id) s = .next (u.finishR id stOK 0 (s.handleOf x)) ∧
            u.chan x = { s.chan x with
              mask := c.bits 192 8, portDefault := decide (c.bits 129 1 = 1), parent := c.bits 200 14,
              profile := c.bits 256 64 } ∧ u.pkts = s.pkts ∧ (∀ y, y ≠ x → (u.chan y).parent = (s.chan y).parent) ∧
            (c.bits 129 1 = 1 → u.rfi TM_CHAN.PORT_CHAN.HANDLE (s.chan x).outPort = s.handleOf x % 2 ^ 32) ∧
            (c.bits 129 1 ≠ 1 → s.rfi TM_CHAN.PORT_CHAN.HANDLE (s.chan x).outPort = s.handleOf x →
              u.rfi TM_CHAN.PORT_CHAN.HANDLE (s.chan x).outPort = 0))) ∧
      (c.opcode = 0x21 →
        let ch := s.chan x
        let a := (((s.begin id).tookEffect id).clearPortChan (s.handleOf x)).setChan x { ch with
          dying := true, gen := if ch.gen = 65535 then 1 else ch.gen + 1, cmd := some id, drops := 0, portDefault := false }
        let b := a.arm .destroy x (orWhenZero (a.rf TM_CHAN.DESTROY_TIMEOUT.MS) 1 * cyMs)
        let u := if c.bits 128 1 = 1 then (b.chanFlush x).2 else b
        ((u.chanPkts x).isEmpty = true → exec (.chanDestroy id) s = .next (u.chanFree x)) ∧
        ((u.chanPkts x).isEmpty = false → exec (.chanDestroy id) s = .next u)) ∧
      (c.opcode = 0x21 → (s.chanPkts x).isEmpty = false → c.bits 128 1 ≠ 1 →
        ∃ t, exec (.chanDestroy id) s = .next t ∧ t.chan x = { s.chan x with
            dying := true,
            gen := if (s.chan x).gen = 65535 then 1 else (s.chan x).gen + 1, cmd := some id, drops := 0, portDefault := false } ∧
          t.timerAt .destroy x = some (s.cycle + orWhenZero (s.rf TM_CHAN.DESTROY_TIMEOUT.MS) 1 * cyMs) ∧ t.handleChan (s.handleOf x) = none ∧
          (∀ p, p < 257 → t.rfi TM_CHAN.PORT_CHAN.HANDLE p ≠ s.handleOf x) ∧ t.pkts = s.pkts) ∧
      (c.opcode = 0x23 →
        let ch := s.chan x
        let ps := s.chanPkts x
        exec (.chanQuery id) s = .next (s.finishR id stOK 0 (b2n ch.egress + ch.outPort * 2 + ch.destDev * 2 ^ 10 + ch.mask * 2 ^ 20 +
          b2n ch.portDefault * 2 ^ 28 + ch.parent * 2 ^ 29 + sumN (ps.map Pkt.length) % 2 ^ 32 * 2 ^ 64 + ps.length % 2 ^ 32 * 2 ^ 96 +
          ddrUnits ps % 2 ^ 32 * 2 ^ 128)))

/-- The end of a destroy (R298): when its queues are empty, or at its time limit with what remains discarded and reported, the index is
free, its generation kept, and the command completes. -/
def Sys2Proof.Claims.ChannelDestroyEnds : Prop :=
  ∀ (s : State) (x : Nat), s.tmOn = true →
    ((s.chan x).dying = true → (s.chanPkts x).isEmpty = true → exec (.chanDestroyDrained x) s = .next (s.chanFree x)) ∧
    ((s.chan x).dying = true → (s.chanPkts x).isEmpty = false → exec (.chanDestroyDrained x) s = .next s) ∧
    (∀ d, s.timerAt .destroy x = some d → ((s.expired .destroy x d).chan x).dying = true →
      let u := s.expired .destroy x d
      let n := (u.chanPkts x).length
      let g := ((u.chan x).gen + 65534) % 65535
      exec (.destroyTimeout x) s = .next (((if n = 0 then (u.chanFlush x).2
        else (u.chanFlush x).2.raise Ev.TM_CHAN.DESTROY_TIMEOUT 0 0 ((if g = 0 then 65535 else g) * 65536 + x) n)).chanFree x)) ∧
    ∃ t : State, s.chanFree x = (match (s.chan x).cmd with | some id => t.finishR id stOK 0 (s.chan x).drops | none => t) ∧
      t.chan x = { Chan.free with gen := (s.chan x).gen } ∧ t.timerAt .destroy x = none ∧ t.pkts = s.pkts

/-- The statement over its parts: ChannelCommands, ChannelDestroyEnds. -/
def Obligations.Channels : Prop :=
  Claims.ChannelCommands ∧ Claims.ChannelDestroyEnds

/-- Ports down and up in the TM, and the registers that show queues and profiles (R302, R309, R312). -/
def Obligations.QueueCommands : Prop :=
  ∀ (s : State), s.tmOn = true →
    (∀ p, p < 256 → s.tmPort p = tmUp → s.tmPortDown p = true →
      let a := (List.range 8).foldl (fun (t : State) c => t.workEnds (.egr p c))
        ((s.wfi TM_QUEUE.PORT_STATE.STATE p tmHold).arm .portHold p s.holdCycles)
      let u : State := { a with sc := { a.sc with downAt := SMap.put 0 a.sc.downAt p s.cycle } }
      exec (.tmPortDown p) s = .next (u.raise Ev.TM_QUEUE.PORT_HOLD 0 0 p 0)) ∧
    (∀ e, s.workEnds e = { s with sc := { s.sc with ended := s.sc.ended.filter (fun x => !decide (x = e)) ++ [e] } }) ∧
    (∀ p, p < 256 → s.tmPort p ≠ tmUp → s.tmPortDown p = false →
      let a := (s.wfi TM_QUEUE.PORT_STATE.STATE p tmUp).disarm .portHold p
      let u : State := { a with sc := { a.sc with downAt := SMap.put 0 a.sc.downAt p 0 } }
      exec (.tmPortUp p) s = .next (u.raise Ev.TM_QUEUE.PORT_RESUMED 0 0 p ((s.cycle - SMap.get 0 s.sc.downAt p) / cyMs))) ∧
    (∀ p d, s.timerAt .portHold p = some d →
      let u := s.expired .portHold p d
      let n := (u.egressPkts p).length
      exec (.portHoldExpire p) s = .next (((((u.wfi TM_QUEUE.PORT_STATE.STATE p tmDown).dropAll (u.egressPkts p)).sat
        TM_QUEUE.FLUSH_DROP.COUNT 0 0 n).flowSweep).raise Ev.TM_QUEUE.PORT_FLUSHED 0 0 p n)) ∧
    (s.blockOpen 4149 = true → ∀ sel,
      (∃ t, exec (.qprofRead sel) s = .next t ∧ t = { s with regs := t.regs } ∧
        ∀ k, k < 4 → t.rfi TM_QUEUE.QPROF_DATA.DATA k = bits (s.qprof (bits sel 0 8)) (32 * k) 32) ∧
      (∃ t, exec (.qprofWrite sel) s = .next t ∧ t = { s with regs := t.regs, sc := t.sc } ∧
        (∀ i, i ≠ bits sel 0 8 → t.qprof i = s.qprof i) ∧
        bits (t.qprof (bits sel 0 8)) 96 29 = s.rfi TM_QUEUE.QPROF_DATA.DATA 3 % 2 ^ 29 ∧
        ∀ k, k < 3 → profWord (t.qprof (bits sel 0 8)) k = s.rfi TM_QUEUE.QPROF_DATA.DATA k % 2 ^ 28) ∧
      (∃ t, exec (.queueStatsLoad sel) s = .next t ∧ t = { s with regs := t.regs, hdrs := t.hdrs } ∧
        t.rf TM_QUEUE.Q_BYTES.COUNT = sumN ((s.at_ (.queue (bits sel 0 19))).map Pkt.length) % 2 ^ 32 ∧
        t.rf TM_QUEUE.Q_PKTS.COUNT = (s.at_ (.queue (bits sel 0 19))).length % 2 ^ 32 ∧
        t.rf TM_QUEUE.Q_DDR_UNITS.COUNT = ddrUnits (s.at_ (.queue (bits sel 0 19))) % 2 ^ 32))

/-- The indirect registers of the scheduler, the shapers and the policers (R317, R320, R322, R323, R327, R329, R339, R340, R341): a read shows
the record, a write stores it, and what does not exist sets ERR and changes nothing else. -/
def Sys2Proof.Claims.SchedulerRecords : Prop :=
  ∀ (s : State) (sel : Nat), s.tmOn = true →
    let w := sel % 2 ^ 32
    (s.blockOpen 4151 = true →
      (s.nodeAt (bits sel 0 2) (bits sel 2 16) = none →
        exec (.nodeRead sel) s = .next (s.nodeSel (setBit w 18 false) true) ∧ exec (.nodeWrite sel) s = .next (s.nodeSel (setBit w 18 true) true)) ∧
      (∀ k, s.nodeAt (bits sel 0 2) (bits sel 2 16) = some k →
        (∃ t, exec (.nodeRead sel) s = .next t ∧ t = { s with regs := t.regs } ∧ t.rf TM_SCHED.NODE_SEL.ERR = 0 ∧
          t.rf TM_SCHED.NODE_DATA1.SHPROF = (s.node k).shprof % 2 ^ TM_SCHED.NODE_DATA1.SHPROF.w ∧
          t.rf TM_SCHED.NODE_DATA0.WEIGHT = (s.node k).weight % 2 ^ TM_SCHED.NODE_DATA0.WEIGHT.w ∧
          t.rf TM_SCHED.NODE_DATA0.PRIO = (s.node k).prio % 2 ^ TM_SCHED.NODE_DATA0.PRIO.w ∧
          t.rf TM_SCHED.NODE_DATA0.PARENT = (if bits sel 0 2 = 0 then 0 else if bits sel 0 2 = 3 then (s.chan (k % 65536)).parent
            else (s.node k).parent) % 2 ^ TM_SCHED.NODE_DATA0.PARENT.w ∧
          t.rf TM_SCHED.NODE_DATA1.SHAPE_EN = (if (s.node k).shapeEn ∨ bits sel 0 2 = 0 then 1 else 0) ∧
          t.rf TM_SCHED.NODE_DATA1.CLS_PROF = (s.node k).clsProf % 2 ^ TM_SCHED.NODE_DATA1.CLS_PROF.w) ∧
        (bits sel 0 2 = 1 ∧ 257 < s.rf TM_SCHED.NODE_DATA0.PARENT ∨ bits sel 0 2 = 2 ∧ 4095 < s.rf TM_SCHED.NODE_DATA0.PARENT ∨
            bits sel 0 2 ≠ 0 ∧ s.rf TM_SCHED.NODE_DATA1.SHAPE_EN = 1 ∧ s.calLimit (bits sel 0 2) ≤ k % 65536 →
          exec (.nodeWrite sel) s = .next (s.nodeSel (setBit w 18 true) true)) ∧
        (¬(bits sel 0 2 = 1 ∧ 257 < s.rf TM_SCHED.NODE_DATA0.PARENT) → ¬(bits sel 0 2 = 2 ∧ 4095 < s.rf TM_SCHED.NODE_DATA0.PARENT) →
          ¬(bits sel 0 2 ≠ 0 ∧ s.rf TM_SCHED.NODE_DATA1.SHAPE_EN = 1 ∧ s.calLimit (bits sel 0 2) ≤ k % 65536) →
          ∃ u : State, u = { s with regs := u.regs, sc := u.sc, hdrs := u.hdrs } ∧
            u.node k = ⟨if bits sel 0 2 = 1 ∨ bits sel 0 2 = 2 then s.rf TM_SCHED.NODE_DATA0.PARENT else (s.node k).parent,
              s.rf TM_SCHED.NODE_DATA0.PRIO, s.rf TM_SCHED.NODE_DATA0.WEIGHT, s.rf TM_SCHED.NODE_DATA1.SHPROF,
              decide (s.rf TM_SCHED.NODE_DATA1.SHAPE_EN = 1 ∧ bits sel 0 2 ≠ 0),
              if bits sel 0 2 = 3 then s.rf TM_SCHED.NODE_DATA1.CLS_PROF else 0⟩ ∧
            (∀ j, j ≠ k → u.node j = s.node j) ∧
            exec (.nodeWrite sel) s = .next ((s.busyChans.filter s.pathOk).foldl (fun (u : State) x => u.orphanCheck x) u))) ∧
      (∃ t, exec (.clsprofRead sel) s = .next t ∧ t = { s with regs := t.regs } ∧
        ∀ k, k < 4 → t.rfi TM_SCHED.CLSPROF_DATA.DATA k = bits (s.clsProf (bits sel 0 6)) (32 * k) 32) ∧
      (∃ t, exec (.clsprofWrite sel) s = .next t ∧ t = { s with regs := t.regs, sc := t.sc } ∧
        (let d := sumN ((List.range 4).map (fun k => s.rfi TM_SCHED.CLSPROF_DATA.DATA k * 2 ^ (32 * k)))
         ∀ c, c < 7 → bits (t.clsProf (bits sel 0 6)) (16 * c) 10 = bits d (16 * c) 10 ∧
          bits (t.clsProf (bits sel 0 6)) (16 * c + 12) 3 = bits d (16 * c + 12) 3) ∧
        ∀ i, i ≠ bits sel 0 6 → t.clsProf i = s.clsProf i)) ∧
    (s.blockOpen 4152 = true →
      (∃ t, exec (.shprofRead sel) s = .next t ∧ t = { s with regs := t.regs } ∧
        ∀ k, k < 2 → t.rfi TM_SHAPE.SHPROF_DATA.DATA k = bits (s.shProf (bits sel 0 12)) (32 * k) 32) ∧
      (∃ t, exec (.shprofWrite sel) s = .next t ∧ t = { s with regs := t.regs, sc := t.sc } ∧
        t.shProf (bits sel 0 12) = s.rfi TM_SHAPE.SHPROF_DATA.DATA 0 + s.rfi TM_SHAPE.SHPROF_DATA.DATA 1 % 2 ^ 31 * 2 ^ 32 ∧
        ∀ i, i ≠ bits sel 0 12 → t.shProf i = s.shProf i) ∧
      (∃ t, exec (.shaperLoad sel) s = .next t ∧ t = { s with regs := t.regs } ∧
        (s.nodeAt (bits sel 0 2) (bits sel 2 16) = none → t.rf TM_SHAPE.SHAPER_SEL.ERR = 1) ∧
        ∀ k, s.nodeAt (bits sel 0 2) (bits sel 2 16) = some k →
          (s.shaped k = false → t.rf TM_SHAPE.SHAPER_SEL.ERR = 1) ∧
          (s.shaped k = true → t.rf TM_SHAPE.SHAPER_SEL.ERR = 0 ∧
            t.rf TM_SHAPE.SHAPER_CREDIT.BYTES = ofSigned 32 ((s.shaper k).credit / 65536) ∧
            (s.inCalendar k = false → t.rf TM_SHAPE.SHAPER_NEXT.NS = 0))))

/-- The policers' records (R327, R328, R329, R341): reads show them, writes store them, with INIT the buckets full, else the values written
but no more than the bursts. -/
def Sys2Proof.Claims.PolicerRecords : Prop :=
  ∀ (s : State) (sel : Nat), s.tmOn = true → s.blockOpen 4153 = true →
    let pr := s.rf TM_POLICE.POL_DATA0.PROFILE
    (∃ t, exec (.pprofRead sel) s = .next t ∧ t = { s with regs := t.regs } ∧
      ∀ k, k < 5 → t.rfi TM_POLICE.PPROF_DATA.DATA k = bits (s.pProf (bits sel 0 12)) (32 * k) 32) ∧
    (∃ t, exec (.pprofWrite sel) s = .next t ∧ t = { s with regs := t.regs, sc := t.sc } ∧
      (∀ i, i ≠ bits sel 0 12 → t.pProf i = s.pProf i) ∧ t.sc.pols = s.sc.pols ∧
      let v := t.pProf (bits sel 0 12)
      let d := fun k => s.rfi TM_POLICE.PPROF_DATA.DATA k
      v = d 0 + d 1 * 2 ^ 32 + d 2 % 2 ^ 28 * 2 ^ 64 + d 3 % 2 ^ 28 * 2 ^ 96 + d 4 % 2 ^ 11 * 2 ^ 128) ∧
    (∃ t, exec (.policerRead sel) s = .next t ∧ t = { s with regs := t.regs } ∧
      let r := s.policer (bits sel 0 18)
      t.rf TM_POLICE.POL_DATA0.PROFILE = r.profile % 2 ^ TM_POLICE.POL_DATA0.PROFILE.w ∧
      t.rf TM_POLICE.POL_DATA1.TC = r.tc.level / 65536 % 2 ^ TM_POLICE.POL_DATA1.TC.w ∧
      t.rf TM_POLICE.POL_DATA2.TE = r.te.level / 65536 % 2 ^ TM_POLICE.POL_DATA2.TE.w ∧ t.rf TM_POLICE.POL_DATA3.GREEN = r.green % 2 ^ 32 ∧
      t.rf TM_POLICE.POL_DATA4.YELLOW = r.yellow % 2 ^ 32 ∧ t.rf TM_POLICE.POL_DATA5.RED = r.red % 2 ^ 32) ∧
    ∃ t, exec (.policerWrite sel) s = .next t ∧ t = { s with regs := t.regs, sc := t.sc } ∧
      (∀ i, i ≠ bits sel 0 18 → t.policer i = s.policer i) ∧
      let r := t.policer (bits sel 0 18)
      r.profile = pr ∧ r.green = s.rf TM_POLICE.POL_DATA3.GREEN ∧ r.yellow = s.rf TM_POLICE.POL_DATA4.YELLOW ∧
      r.red = s.rf TM_POLICE.POL_DATA5.RED ∧ r.cyc = s.cycle ∧ r.force = s.pProf pr ∧
      (bit sel 20 = true → r.tc = ⟨ppCbs (s.pProf pr) * 65536, 0⟩ ∧ r.te = ⟨ppEbs (s.pProf pr) * 65536, 0⟩) ∧
      (bit sel 20 = false → r.tc = ⟨min (s.rf TM_POLICE.POL_DATA1.TC) (ppCbs (s.pProf pr)) * 65536, 0⟩ ∧
        r.te = ⟨min (s.rf TM_POLICE.POL_DATA2.TE) (ppEbs (s.pProf pr)) * 65536, 0⟩)

/-- The statement over its parts: SchedulerRecords, PolicerRecords. -/
def Obligations.SchedulingRecords : Prop :=
  Claims.SchedulerRecords ∧ Claims.PolicerRecords

/-- The calendar (R324): when a fine slot is reached up to 1,024 shapers leave it and the rest move to the next slot, counted; when a
coarse slot begins its shapers move into the fine wheel. A wheel that holds none does nothing. -/
def Sys2Proof.Claims.Calendar : Prop :=
  ∀ (s : State), s.tmOn = true →
    ((∀ e ∈ s.sc.cal, e.coarse = true) → exec .calendarFineSlot s = .next s) ∧
    ((∀ e ∈ s.sc.cal, e.coarse = false) → exec .calendarCoarseSlot s = .next s) ∧
    (∀ e ∈ s.sc.cal, e.coarse = false → (∀ x ∈ s.sc.cal, x.coarse = false → e.slot ≤ x.slot) →
      let u := s.advanceTo (s.cycleOfTime (e.slot * slot32))
      let due := s.sc.cal.filter (fun x => !x.coarse && decide (x.slot = e.slot))
      let late := (due.drop 1024).map (fun x => { x with slot := e.slot + 1 })
      let v := (due.take 1024).foldl (fun (u : State) x => u.calEnter x.node)
        (u.setCal (late ++ s.sc.cal.filter (fun x => x.coarse || decide (x.slot ≠ e.slot))))
      (due.length ≤ 1024 → exec .calendarFineSlot s = .next v) ∧
      (1024 < due.length → exec .calendarFineSlot s = .next
        ((v.sat TM_SHAPE.CAL_LATE.COUNT 0 0 late.length).raiseO Ev.TM_SHAPE.CAL_LATE 0 (some 0) none (some late.length)))) ∧
    ∀ e ∈ s.sc.cal, e.coarse = true → (∀ x ∈ s.sc.cal, x.coarse = true → e.slot / 65536 ≤ x.slot / 65536) →
      exec .calendarCoarseSlot s = .next ((s.advanceTo (s.cycleOfTime (e.slot / 65536 * 65536 * slot32))).setCal
        (s.sc.cal.filter (fun x => !(x.coarse && decide (x.slot / 65536 = e.slot / 65536))) ++
          (s.sc.cal.filter (fun x => x.coarse && decide (x.slot / 65536 = e.slot / 65536))).map (fun x => { x with coarse := false })))

/-- The samplers and the rings of records (R335, R336, R338): SAMPLE_N starts its count again; a depth walk takes the next queue and makes
its record; a ring is enabled empty, or refused for its size; its head is the host's. -/
def Sys2Proof.Claims.SamplesAndRings : Prop :=
  ∀ (s : State), s.tmOn = true →
    (s.blockOpen 4156 = true → ∀ v, ∃ t, exec (.sampleNWrite v) s = .next t ∧ t.rf TM_SAMPLE.SAMPLE_N.N = v % 2 ^ TM_SAMPLE.SAMPLE_N.N.w ∧
      t.sc.dequeues = 0 ∧ t = { s with regs := t.regs, sc := { s.sc with dequeues := 0 } }) ∧
    (∀ d, s.timerAt .depth 0 = some d →
      let u := s.expired .depth 0 d
      (u.operating 4156 = true → ∀ q, u.nextDepthQueue (u.rf TM_SAMPLE.DEPTH_POS.QUEUE) = some q →
        let ps := u.at_ (.queue q)
        exec .depthSample s = .next (((u.wf TM_SAMPLE.DEPTH_POS.QUEUE ((q + 1) % 524288)).sampleRecord
          (sampleWord 0 (u.chan (q / 8)).egress (decide (ddrUnits ps ≠ 0)) q 0 (sumN (ps.map Pkt.length)) ps.length (ddrUnits ps)
            u.time80)).depthArm)) ∧
      (u.operating 4156 = false ∨ u.nextDepthQueue (u.rf TM_SAMPLE.DEPTH_POS.QUEUE) = none → exec .depthSample s = .next u.depthArm)) ∧
    (s.timerAt .depth 0 = none → exec .depthSample s = .next s) ∧
    (∀ r ctrl, s.blockOpen (recRingOf r).1 = true → 6 ≤ bits ctrl 0 5 → bits ctrl 0 5 ≤ 16 →
      ∃ t, exec (.recordRingEnable r ctrl) s = .next t ∧ t.rf (recRingOf r).2.1.enable = 1 ∧ t.rf (recRingOf r).2.1.log2 = bits ctrl 0 5 ∧
        t.rf (recRingOf r).2.1.tail = 0 ∧ t.rf (recRingOf r).2.1.head = 0 ∧ t.rf (recRingOf r).2.1.phase = 1 ∧
        t.pkts = s.pkts ∧ t.hc = s.hc) ∧
    (∀ r ctrl, s.blockOpen (recRingOf r).1 = true → bits ctrl 0 5 < 6 ∨ 16 < bits ctrl 0 5 →
      let a := s.wf (recRingOf r).2.1.log2 (bits ctrl 0 5)
      let u := if r = .notify then a.wf FE_LEARN.NOTIFY_CTRL.OUTCOMES (bits ctrl 8 7)
        else (a.wf (recRingOf r).2.1.coalCount (bits ctrl 8 8)).wf (recRingOf r).2.1.coalUs (bits ctrl 16 16)
      exec (.recordRingEnable r ctrl) s = .next ((u.wf (recRingOf r).2.1.enable 0).raise (recRingOf r).2.2 0 1 (s.rf (recRingOf r).2.1.tail)
        (s.rf (recRingOf r).2.1.head))) ∧
    ∀ r v, s.blockOpen (recRingOf r).1 = true → exec (.recordRingHeadWrite r v) s = .next (s.wf (recRingOf r).2.1.head v)

/-- The statement over its parts: Calendar, SamplesAndRings. -/
def Obligations.CalendarAndSamples : Prop :=
  Claims.Calendar ∧ Claims.SamplesAndRings

/-- PORT_CTRL and the gate lists (R330 to R332, R342): EN, a request that is taken or refused with its cause, an abort, the entries and
their boundaries, and the switch at its time. -/
def Obligations.GateCommands : Prop :=
  ∀ (s : State), s.tmOn = true →
    (s.blockOpen 4154 = true → ∀ v,
      let p := s.rf TM_GATE.GATE_SEL.PORT
      let g := s.gate p
      let pend : GateList := { g.pend with guarded := bit v 1 }
      let set : GatePort := { g with en := bit v 0, pend := if g.pending then g.pend else pend }
      let a := if g.pending = true ∧ g.pend.guarded ≠ bit v 1 then s.wf TM_GATE.GATE_SEL.ERR 1 else s
      let u := ((a.setGate p set).showGmax p).gatesShut p
      exec (.gateEn v) s = .next u ∧
      exec (.gateAbort v) s = .next ((u.setGate p { set with pending := false }).showGmax p) ∧
      (∀ c, gateCause set = some c → exec (.gateSwitchRequest v) s =
        .next ((u.setGate p { set with result := stInvalid, cause := c }).raise Ev.TM_GATE.GATE_REFUSED 0 c p 0)) ∧
      (gateCause set = none → exec (.gateSwitchRequest v) s = .next ((u.setGate p
        { set with pending := true, sw := switchTime set.pend s.time, result := stOK, cause := 0 }).showGmax p))) ∧
    (s.blockOpen 4154 = true → ∀ sel,
      let g := s.gate (bits sel 0 8)
      (∃ t, exec (.gateEntryRead sel) s = .next t ∧ t = { s with regs := t.regs } ∧ ∀ k, k < 2 → t.rfi TM_GATE.GATE_DATA.DATA k =
        bits ((if bit sel 8 then g.pend else g.act).entry (bits sel 9 10)) (32 * k) 32) ∧
      (bit sel 8 = false ∨ g.pending = true → ∃ t, exec (.gateEntryWrite sel) s = .next t ∧ t = { s with regs := t.regs } ∧
        t.rf TM_GATE.GATE_SEL.ERR = 1) ∧
      (bit sel 8 = true → g.pending = false → ∃ t, exec (.gateEntryWrite sel) s = .next t ∧ t = { s with regs := t.regs, sc := t.sc } ∧
        t.rf TM_GATE.GATE_SEL.ERR = 0 ∧ (∀ p, p ≠ bits sel 0 8 → t.gate p = s.gate p) ∧
        t.gate (bits sel 0 8) = { g with pend := { g.pend with entries := (t.gate (bits sel 0 8)).pend.entries } } ∧
        ∀ k, (t.gate (bits sel 0 8)).pend.entry k = if k = bits sel 9 10 then
          s.rfi TM_GATE.GATE_DATA.DATA 0 + s.rfi TM_GATE.GATE_DATA.DATA 1 % 256 * 2 ^ 32 else g.pend.entry k)) ∧
    (∀ p, p < 256 → (s.gate p).pending = true →
      let u := s.advanceTo (s.cycleOfTime ((s.gate p).sw * ns32))
      exec (.gateSwitchApply p) s = .next ((((u.setGate p { (s.gate p) with
        act := (s.gate p).pend, pend := (s.gate p).act, pending := false }).showGmax p).raise Ev.TM_GATE.GATE_SWITCHED 0 0 p
        (s.gate p).pend.len).gatesShut p)) ∧
    (∀ p, (s.gate p).pending = false → exec (.gateSwitchApply p) s = .next s) ∧
    (∀ p d x rs, p < 256 → (s.gate p).en = true → ((s.gate p).listAt s.time).ahead s.time = (d, x) :: rs →
      exec (.gateEntryChange p) s = .next ((s.advanceTo (s.cycleOfTime (s.time + d))).gatesShut p)) ∧
    (∀ p, s.gatesShut p = (List.range 8).foldl (fun (s : State) c =>
      if bit ((s.gate p).now s.time).1 c then s else s.workEnds (.egr p c)) s) ∧
    ∀ p, (s.gate p).en = false → exec (.gateEntryChange p) s = .next s

/-- The switch time of a gate list (R332): it is no sooner than 1 us ahead, a whole number of cycles after BASE_TIME, and the first such
time. -/
def Obligations.GateSwitchTime : Prop :=
  ∀ (l : GateList) (time : Nat), 0 < l.cycleNs →
    time + 1000 * ns32 ≤ switchTime l time * ns32 ∧ (∃ n, switchTime l time = l.base + n * l.cycleNs) ∧
    ∀ n, time + 1000 * ns32 ≤ (l.base + n * l.cycleNs) * ns32 → switchTime l time ≤ l.base + n * l.cycleNs

/-- GDDR7 goes in and out of service (R36, R357, R358, R359, R363, R371): training and its limit, ENABLE, its refusals and its lock,
realignment, and the temperature a device reports. -/
def Sys2Proof.Claims.MemoryService : Prop :=
  ∀ (s : State) (c : Nat), s.tmOn = true → c < 16 →
    (s.dmcState c = dmcTraining →
      exec (.dmcTrainingDone c none) s = .next (((s.disarm .dmcTrain c).setDmcState c dmcReady).refreshFrom c) ∧
      ∀ ch sq, exec (.dmcTrainingDone c (some (ch, sq))) s = .next (((s.disarm .dmcTrain c).setDmcState c dmcDown).raiseBatch (4160 + c)
        [(Ev.TM_DMC.TRAIN_FAIL, some 0, some c, some (ch % 4 + sq % 16 * 16)),
         (Ev.TM_DMC.CTRL_DOWN, some 0, some c, some (s.rfp TM_DMC.STATUS.STATE c 0))])) ∧
    (s.dmcState c ≠ dmcTraining → ∀ f, exec (.dmcTrainingDone c f) s = .next s) ∧
    (∀ d, s.timerAt .dmcTrain c = some d →
      let u := s.expired .dmcTrain c d
      (u.dmcState c = dmcTraining → exec (.dmcTrainTimeout c) s = .next (((u.disarm .dmcTrain c).setDmcState c dmcDown).raiseBatch (4160 + c)
        [(Ev.TM_DMC.TRAIN_FAIL, some 0, some c, none), (Ev.TM_DMC.CTRL_DOWN, some 0, some c, some (u.rfp TM_DMC.STATUS.STATE c 0))])) ∧
      (u.dmcState c ≠ dmcTraining → exec (.dmcTrainTimeout c) s = .next u)) ∧
    (s.blockOpen 4160 = true → (s.hdr 4160).lock = true →
      exec .ddrEnable s = .next (if s.rf TM_DMC.DDR_CTRL.ENABLE = 1 then s else s.accessErr 4160 4 (4160 * 4096 + TM_DMC.DDR_CTRL.ENABLE.off) 1) ∧
      exec .ddrDisable s = .next (if s.rf TM_DMC.DDR_CTRL.ENABLE = 0 then s else s.accessErr 4160 4 (4160 * 4096 + TM_DMC.DDR_CTRL.ENABLE.off) 0)) ∧
    (s.blockOpen 4160 = true → (s.hdr 4160).lock = false → s.rfb TM_DMC.DDR_CTRL.ENABLE = true → exec .ddrEnable s = .next s) ∧
    (s.blockOpen 4160 = true → (s.hdr 4160).lock = false → s.rfb TM_DMC.DDR_CTRL.ENABLE = false →
      (s.ddrObstacle = none → exec .ddrEnable s = .next (((s.wf TM_DMC.DDR_CTRL.ENABLE 1).wf TM_BUF.DDR_TOTAL.UNITS
        (fittedUnits (s.density 0) - s.ctrUnits)).showDdr)) ∧
      ∀ k, s.ddrObstacle = some k → exec .ddrEnable s = .next (s.raise Ev.TM_DMC.DDR_REFUSED 0 0 k 0)) ∧
    (s.blockOpen 4160 = true → (s.hdr 4160).lock = false → exec .ddrDisable s = .next ((s.wf TM_DMC.DDR_CTRL.ENABLE 0).showDdr)) ∧
    (∀ ch, ch < 4 → s.dmcState c = dmcReady → exec (.wckRealign c ch) s = .next (s.arm .wck (c * 4 + ch) (cyNs 200))) ∧
    (∀ t, s.dmcState c = dmcReady →
      let u := s.wfp TM_DMC.STATUS.TEMP c 0 t
      let l := s.dm.hot
      exec (.dmcTempRead c t false) s = .next { u with dm := { s.dm with hot := l.filter (fun x => decide (x ≠ c)) } } ∧
      (c ∈ l → exec (.dmcTempRead c t true) s = .next u) ∧
      (c ∉ l → exec (.dmcTempRead c t true) s = .next
        (({ u with dm := { s.dm with hot := l ++ [c] } } : State).raise Ev.TM_DMC.TEMP_HIGH c 0 c (t % 256))))

/-- A change of the memory frequency (R366, R367): GO takes every READY controller into it, unless one is in progress or a rate is out of
range; each controller ends, or fails once back to its old set and a second time to DOWN. -/
def Sys2Proof.Claims.FrequencyChange : Prop :=
  ∀ (s : State), s.tmOn = true →
    (s.blockOpen 4160 = true →
      let cs := (List.range 16).filter (fun c => decide (s.dmcState c = dmcReady))
      (s.rfb TM_DMC.FREQ.BUSY = true → exec .freqGo s = .next (s.raiseO Ev.TM_DMC.FREQ_FAIL 0 (some 3) none none)) ∧
      (s.rfb TM_DMC.FREQ.BUSY = false → ∀ c, cs.find? (fun c => decide (s.otherRate c < 16) || decide (40 < s.otherRate c)) = some c →
        exec .freqGo s = .next (s.raiseO Ev.TM_DMC.FREQ_FAIL 0 (some 4) (some c) none)) ∧
      (s.rfb TM_DMC.FREQ.BUSY = false → (∀ c ∈ cs, 16 ≤ s.otherRate c ∧ s.otherRate c ≤ 40) → cs ≠ [] →
        ∃ t, exec .freqGo s = .next t ∧ t.rf TM_DMC.FREQ.BUSY = 1 ∧ (∀ c ∈ cs, t.dmcState c = dmcFreq) ∧
          t.dm = { s.dm with freq := cs.map (fun c => (⟨c, false, 0⟩ : Freq)), freqAt := s.cycle, freqBad := false } ∧
          t = { s with regs := t.regs, dm := t.dm })) ∧
    (∀ c f, s.dm.freq.find? (fun f => decide (f.ctl = c)) = some f →
      let again := fun (u : State) step => ({ u with dm := { u.dm with
        freqBad := true
        freq := u.dm.freq.map (fun x => if x.ctl = f.ctl then (⟨f.ctl, true, step⟩ : Freq) else x) } } : State)
      let down := fun (u : State) step =>
        let v : State := { u with dm := { u.dm with freqBad := true } }
        (if f.ctl = 0 then (v.setDmcState 0 dmcDown).raiseBatch 4160
            [(Ev.TM_DMC.CTRL_DOWN, some 0, some 0, some (v.rfp TM_DMC.STATUS.STATE 0 0)), (Ev.TM_DMC.FREQ_FAIL, some 2, some 0, some step)]
          else ((v.setDmcState f.ctl dmcDown).raise Ev.TM_DMC.CTRL_DOWN f.ctl 0 f.ctl (v.rfp TM_DMC.STATUS.STATE f.ctl 0)).raise
            Ev.TM_DMC.FREQ_FAIL 0 2 f.ctl step).freqLeave f.ctl
      let busy := s.dm.reqs.any (fun r => r.active && decide (unitCtl r.unit_ = c))
      let late := fun step => s.advanceTo (s.dm.freqAt + cyNs (freqLimit step))
      (busy = true → ∀ step, exec (.freqChangeDone c true step) s = .next s) ∧
      (busy = false → f.again = false → ∀ step, exec (.freqChangeDone c true step) s = .next
        ((((s.wfp TM_DMC.STATUS.TSET c 0 (1 - s.rfp TM_DMC.STATUS.TSET c 0)).setDmcState c dmcReady).freqResume c).freqLeave c)) ∧
      (busy = false → f.again = true → ∀ step, exec (.freqChangeDone c true step) s = .next
        ((((s.raise Ev.TM_DMC.FREQ_FAIL 0 1 c f.step).setDmcState c dmcReady).freqResume c).freqLeave c)) ∧
      (f.again = false → ∀ step, exec (.freqChangeDone c false step) s = .next (again s step)) ∧
      (f.again = true → ∀ step, exec (.freqChangeDone c false step) s = .next (down s step)) ∧
      (f.again = false → ∀ step, 1 ≤ step → step ≤ 7 → exec (.freqStepTimeout c step) s = .next (again (late step) step)) ∧
      (f.again = true → ∀ step, 1 ≤ step → step ≤ 7 → exec (.freqStepTimeout c step) s = .next (down (late step) step)))

/-- The counter region, the window and the export (R373, R374): their requests, what refuses them, and how the export ends. -/
def Sys2Proof.Claims.MemoryWindow : Prop :=
  ∀ (s : State), s.tmOn = true →
    (∀ q, q < 524288 → s.ctrUnits ≠ 0 → SMap.get QInc.zero s.dm.pend q ≠ QInc.zero → (∀ r ∈ s.dm.reqs, ¬(r.who = 2 ∧ r.ref = q)) →
      exec (.counterWriteback q) s = .next { s with dm := { s.dm with
        reqs := s.dm.reqs ++ [⟨2, false, s.ctrPart q / 8, q, s.ctrPart q % 8, 0, 0, false, false⟩] } }) ∧
    (∀ q, s.ctrUnits = 0 → exec (.counterWriteback q) s = .next s ∧ exec .counterExport s = .next s) ∧
    (s.blockOpen 4160 = true → s.rfb TM_DMC.MEM.BUSY = false →
      let u := s.rf TM_DMC.MEM_ADDR.UNIT
      let v := sumN ((List.range 8).map (fun k => s.rfi TM_DMC.MEM_DATA.DATA k * 2 ^ (32 * k)))
      (∃ t, exec .memWindowRead s = .next t ∧ t.rf TM_DMC.MEM.BUSY = 1 ∧ t.rf TM_DMC.MEM.OP = 0 ∧
        t = { s with regs := t.regs, dm := { s.dm with reqs := s.dm.reqs ++ [⟨3, false, u, 0, s.rf TM_DMC.MEM_ADDR.PART, v, 0, false, false⟩] } }) ∧
      (s.inCtrRegion u = true ∨ s.rfb TM_DMC.DDR_CTRL.ENABLE = false →
        ∃ t, exec .memWindowWrite s = .next t ∧ t.rf TM_DMC.MEM.BUSY = 1 ∧ t.rf TM_DMC.MEM.OP = 1 ∧
          t = { s with regs := t.regs, dm := { s.dm with reqs := s.dm.reqs ++ [⟨3, true, u, 0, s.rf TM_DMC.MEM_ADDR.PART, v, 0, false, false⟩] } }) ∧
      (s.inCtrRegion u = false → s.rfb TM_DMC.DDR_CTRL.ENABLE = true →
        ∃ t, exec .memWindowWrite s = .next t ∧ t.rf TM_DMC.MEM.BUSY = 0 ∧ t.rf TM_DMC.MEM.STATUS = stDenied ∧ t = { s with regs := t.regs })) ∧
    (s.rfb TM_DMC.MEM.BUSY = true → exec .memWindowRead s = .next s ∧ exec .memWindowWrite s = .next s) ∧
    (s.blockOpen 4160 = true → s.rfb TM_DMC.EXPORT.BUSY = false → s.ctrUnits ≠ 0 →
      exec .counterExport s = .next ((s.wf TM_DMC.EXPORT.BUSY 1).wf TM_DMC.EXPORT.ERR 0)) ∧
    (∀ bad, s.rfb TM_DMC.EXPORT.BUSY = false → exec (.counterExportDone bad) s = .next s) ∧
    (∀ bad, s.rfb TM_DMC.EXPORT.BUSY = true → ∃ t, exec (.counterExportDone bad) s = .next t ∧ t.rf TM_DMC.EXPORT.BUSY = 0 ∧
      ((∃ q ∈ bad, q < 524288) → t.rf TM_DMC.EXPORT.ERR = 1) ∧ t.pkts = s.pkts ∧ t.dm.reqs = s.dm.reqs)

/-- The statement over its parts: MemoryService, FrequencyChange, MemoryWindow. -/
def Obligations.MemoryControl : Prop :=
  Claims.MemoryService ∧ Claims.FrequencyChange ∧ Claims.MemoryWindow

/-- Activates, throttles and refresh (R361 to R365): the channel activates the oldest eligible request of the next bank, which then counts
for its row; a channel that is not ready or is realigning does nothing; a refresh interval takes the four channels in turn. -/
def Sys2Proof.Claims.MemoryActivates : Prop :=
  ∀ (s : State) (c : Nat), s.tmOn = true →
    (c < 16 → s.dmcState c = dmcReady → ∀ ch b e, ch < 4 → s.timerAt .wck (c * 4 + ch) = none →
      let k := c * 4 + ch
      let w := s.writeMode k (s.chanReady k)
      let u : State := { s with dm := { s.dm with wmode := SMap.put false s.dm.wmode k w } }
      let mine := (s.chanReady k).filter (fun x => x.2.write == w)
      let ok := fun i => mine.any (fun x => decide (unitBank x.2.unit_ = k * 16 + i)) && u.bankAllows (k * 16 + i)
      ((List.range 16).map (fun i => (SMap.get 0 s.dm.ptr k + i) % 16)).find? ok = some b →
      mine.find? (fun x => decide (unitBank x.2.unit_ = k * 16 + b)) = some e →
      exec (.dmcActivate c ch) s = .next (({ u with dm := { u.dm with
        reqs := listSet s.dm.reqs e.1 { e.2 with active := true }
        ptr := SMap.put 0 s.dm.ptr k ((b + 1) % 16)
        lastAct := SMap.put [] s.dm.lastAct k ((s.cycle :: SMap.get [] s.dm.lastAct k).take 4) } } : State).actCount e.2)) ∧
    (∀ ch, 16 ≤ c ∨ 4 ≤ ch ∨ s.dmcState c ≠ dmcReady ∨ (∃ d, s.timerAt .wck (c * 4 + ch) = some d ∧ s.cycle < d) →
      exec (.dmcActivate c ch) s = .next s) ∧
    exec .actTableClear s = .next { s with dm := { s.dm with rows := [] } } ∧
    (∀ bank who d, s.timerAt .throttle (bank * 4 + who) = some d → exec (.throttleExpire bank who) s =
      .next ((s.expired .throttle (bank * 4 + who) d).showThrottled (bankCtl bank))) ∧
    (c < 16 → s.dmcState c = dmcReady →
      let n := SMap.get 0 s.dm.refN c
      let u := s.advanceTo (SMap.get 0 s.dm.refAt c + s.refreshTime c)
      exec (.refreshInterval c) s = .next ((List.range 4).foldl (fun (s : State) ch => s.refreshChan (c * 4 + ch) (n % 16))
        { u with dm := { u.dm with refAt := SMap.put 0 u.dm.refAt c u.cycle, refN := SMap.put 0 u.dm.refN c ((n + 1) % 16) } })) ∧
    (16 ≤ c ∨ s.dmcState c ≠ dmcReady → exec (.refreshInterval c) s = .next s)

/-- An access ends (R361, R368, R369, R370, R371): good, it serves its requester; with a CRC error it is tried twice more; after that, and
with an uncorrectable error, it is logged and its requester meets an error response; a controller that is DOWN answers with that at
once. -/
def Sys2Proof.Claims.MemoryAccessEnds : Prop :=
  ∀ (s : State) (u i : Nat) (r : DReq) (write : Bool), s.tmOn = true →
    let c := unitCtl u
    let dead := decide (s.dmcState c = dmcDown) || decide (s.dmcState c = dmcOff)
    firstIdx (fun (r : DReq) => decide (r.unit_ = u) && (r.write == write) && (r.active || dead)) s.dm.reqs = some i → s.dm.reqs[i]? = some r →
    let out : State := { s with dm := { s.dm with reqs := s.dm.reqs.take i ++ s.dm.reqs.drop (i + 1) } }
    let free := SMap.put 0 s.dm.bankFree (unitBank u) (s.cycle + halfNs (s.tset TM_DMC.TSETk_A.TRP c))
    let outB : State := { out with dm := { out.dm with bankFree := free } }
    (dead = true → ∀ o, exec (.dmcAccessComplete u write o) s = .next (out.accessError r)) ∧
    (dead = false →
      exec (.dmcAccessComplete u write .good) s = .next ((outB.accessGood r).forceRefresh (unitBank u)) ∧
      (let v := if write then s else s.sat TM_DMC.ODECC_CORR.COUNT c 0 1
       exec (.dmcAccessComplete u write .corrected) s = .next
        ((({ v with dm := { s.dm with bankFree := free, reqs := s.dm.reqs.take i ++ s.dm.reqs.drop (i + 1) } } : State).accessGood r).forceRefresh
          (unitBank u))) ∧
      exec (.dmcAccessComplete u write .uncorrectable) s = .next (((outB.accessUnc r true).accessError r).forceRefresh (unitBank u)) ∧
      (2 ≤ r.tries → exec (.dmcAccessComplete u write .crcError) s = .next (((outB.accessUnc r false).accessError r).forceRefresh (unitBank u))) ∧
      (r.tries < 2 → ∃ v : State, exec (.dmcAccessComplete u write .crcError) s = .next (v.forceRefresh (unitBank u)) ∧
        v.rfp TM_DMC.CRC_RETRY.COUNT c 0 = satAdd TM_DMC.CRC_RETRY.COUNT.w (s.rfp TM_DMC.CRC_RETRY.COUNT c 0) 1 % 2 ^ TM_DMC.CRC_RETRY.COUNT.w ∧
        v.dm = { s.dm with bankFree := free, reqs := listSet s.dm.reqs i { r with tries := r.tries + 1, active := false } } ∧
        v.pkts = s.pkts))

/-- The statement over its parts: MemoryActivates, MemoryAccessEnds. -/
def Obligations.MemoryAccess : Prop :=
  Claims.MemoryActivates ∧ Claims.MemoryAccessEnds

/-- The activation tables (R364): as rows are activated from a cleared table on, a count never understates its row's activates, and a row
that a full table does not list has been activated no more often than the least count it holds. -/
def Obligations.ActivateCounts : Prop :=
  ∀ (acts : List Nat),
    let table := acts.foldl (fun t row => (countRow t row).1) ([] : List (Nat × Nat))
    table.length ≤ 32 ∧ (table.map Prod.fst).Nodup ∧
    (∀ row n, (row, n) ∈ table → acts.count row ≤ n) ∧
    ∀ row, (∀ n, (row, n) ∉ table) → 0 < acts.count row → table.length = 32 ∧ ∀ r n, (r, n) ∈ table → acts.count row ≤ n

/-- Fault records on their way, and Squall (R383, R385, R390, R391, R401): the oldest record crosses the bridge or goes to the host ring, or
is lost there and counted; a window's end writes the summaries and ends the episode or starts a new window. -/
def Sys2Proof.Claims.FaultRecords : Prop :=
  ∀ (s : State),
    (s.feOn = true → ∀ r rs, s.log.fwd = r :: rs →
      let u : State := { s with log := { s.log with fwd := rs } }
      (s.bridgeUp = true → exec (.feRecordForward true) s = .next (u.loseRec 79) ∧
        exec (.feRecordForward false) s = .next ((u.admitRec r).1.raiseAll (u.admitRec r).2)) ∧
      (s.bridgeUp = false → ∀ bad, exec (.feRecordForward bad) s = .next s)) ∧
    (s.tmOn = true → ∀ r rs, s.log.ring = r :: rs → s.operating 4177 = true → s.rfb TM_LOG.RING_CTRL.ENABLE = true →
      s.rfb TM_LOG.RING_STATUS.ERROR = false → s.recFull logRing = false →
      let out := fun (u : State) => ({ u with log := { u.log with ring := rs } } : State)
      (∀ w, exec (.logExport true w) s = .next ((out s).loseRec 4177)) ∧
      (∀ u, s.recWrite logRing false r.word = (true, u) → exec (.logExport false false) s = .next ((out u).inc1 TM_LOG.EXPORTED.COUNT)) ∧
      (∀ u bad, s.recWrite logRing bad r.word = (false, u) → exec (.logExport false bad) s = .next
        ((u.wf TM_LOG.RING_STATUS.ERROR 1).raise Ev.TM_LOG.EXPORT_ERR 0 0 (u.rf TM_LOG.RING_STATUS.TAIL) (u.rf TM_LOG.RING_HEAD.HEAD)))) ∧
    (s.tmOn = true → s.operating 4177 = false ∨ s.rfb TM_LOG.RING_STATUS.ERROR = true ∨ s.recFull logRing = true →
      ∀ a b, exec (.logExport a b) s = .next s) ∧
    (s.tmOn = true → ∀ d, s.timerAt .squall 0 = some d →
      let u := s.expired .squall 0 d
      let w := u.wf TM_LOG.SQUALL_STATUS.WINDOWS (satAdd 16 (u.rf TM_LOG.SQUALL_STATUS.WINDOWS) 1)
      let v := w.log.sums.foldl (fun (s : State) e => s.summary e.1 e.2) w
      (v.log.ring.length ≤ v.squallExitThr → v.log.sums = [] →
        ∃ x, exec .squallWindowEnd s = .next (x.raise Ev.TM_LOG.SQUALL_EXIT 0 0 v.log.episode (v.rf TM_LOG.SQUALL_STATUS.WINDOWS)) ∧
          x.rf TM_LOG.SQUALL_STATUS.ACTIVE = 0 ∧ x = (v.wf TM_LOG.SQUALL_STATUS.ACTIVE 0).ringPush ⟨4177, 1, (v.hdr 4177).sevOf 1,
            (v.hdr 4177).actOf 1, 0, .squallEnd, false, 0, v.time80, v.log.episode, v.rf TM_LOG.SQUALL_STATUS.WINDOWS⟩) ∧
      (¬(v.log.ring.length ≤ v.squallExitThr ∧ v.log.sums = []) →
        exec .squallWindowEnd s = .next (v.arm .squall 0 (orWhenZero (v.rf TM_LOG.SQUALL_WINDOW.MS) 1 * cyMs)))) ∧
    (s.tmOn = true → s.blockOpen 4176 = true → ∀ sel, ∃ t, exec (.summaryCountLoad sel) s = .next t ∧ t = { s with regs := t.regs, hdrs := t.hdrs } ∧
      t.rf TM_FAULT.SUM_COUNT.COUNT =
        (SMap.get SumCtr.zero s.log.sums ((bits sel 12 1 * 4096 + bits sel 0 12) * 32 + bits sel 13 5)).count % 2 ^ TM_FAULT.SUM_COUNT.COUNT.w)

/-- ALIVE and the heartbeat (R392, R393, R394): the first heartbeat starts ALIVE and each one runs the check anew; a hold suspends it; a gap
stops ALIVE; a restart is refused while a CRITICAL source stands or nothing beats. -/
def Sys2Proof.Claims.AliveCommands : Prop :=
  ∀ (s : State), s.tmOn = true →
    (s.blockOpen 4176 = true →
      (∃ t, exec .heartbeat s = .next t ∧ t = { s with regs := t.regs, timers := t.timers } ∧ t.timerAt .hbHold 0 = none ∧
        t.timerAt .heartbeat 0 = some (s.cycle + 100 * cyMs) ∧
        t.rf TM_FAULT.ALIVE_STATUS.STATE = if s.rf TM_FAULT.ALIVE_STATUS.STATE = 0 then 1 else s.rf TM_FAULT.ALIVE_STATUS.STATE) ∧
      (∀ ms, ∃ t, exec (.hbHoldWrite ms) s = .next t ∧ t = { s with regs := t.regs, timers := t.timers } ∧
        t.rf TM_FAULT.HB_HOLD.MS = ms % 2 ^ 12 ∧ t.timerAt .hbHold 0 = some (s.cycle + min (ms % 2 ^ 12) 3000 * cyMs)) ∧
      (s.criticalLatched = true ∨ s.beating = false → ∃ t, exec .aliveRestart s = .next t ∧ t = { s with regs := t.regs } ∧
        t.rf TM_FAULT.ALIVE_STATUS.RESTART_REFUSED = 1 ∧ t.rf TM_FAULT.ALIVE_STATUS.STATE = s.rf TM_FAULT.ALIVE_STATUS.STATE) ∧
      (s.criticalLatched = false → s.beating = true → ∃ t, exec .aliveRestart s = .next t ∧ t = { s with regs := t.regs } ∧
        t.rf TM_FAULT.ALIVE_STATUS.RESTART_REFUSED = 0 ∧ t.rf TM_FAULT.ALIVE_STATUS.STATE = 1) ∧
      exec .aliveStop s = .next ((s.aliveStop 3).1.raiseAll (s.aliveStop 3).2)) ∧
    (s.blockOpen 4176 = false → exec .heartbeat s = .next s ∧ exec .aliveRestart s = .next s ∧ exec .aliveStop s = .next s)

/-- The statement over its parts: FaultRecords, AliveCommands. -/
def Obligations.FaultReporting : Prop :=
  Claims.FaultRecords ∧ Claims.AliveCommands

/-- The die-to-die bridge (R385, R396, R397, R398): a lane's interval counts its bits and swaps a bad lane for a spare; an uncorrectable
word spoils the packet, drops it or loses the record; a bundle that loses alignment takes the bridge down. -/
def Obligations.BridgeCommands : Prop :=
  ∀ (s : State) (b : Nat), s.tmOn = true → b < 128 →
    (s.bridgeUp = true → ∀ lane corr,
      let u := (List.range corr).foldl (fun (s : State) _ => s.raise Ev.FE_D2D.CORRECTED 0 0 b lane) (s.sat FE_D2D.CORR.COUNT 0 0 corr)
      let left := u.rfi FE_D2D.SPARES.SPARES b
      let bad := u.rfb FE_D2D.CTRL.AUTO_REPAIR = true ∧ orWhenZero (u.rf FE_D2D.CTRL.REPAIR_THR) 1 < corr ∧ 0 < left
      let w := (u.wfi FE_D2D.SPARES.SPARES b (left - 1)).sat1 FE_D2D.REPAIRS.COUNT
      (¬bad → exec (.bridgeLaneInterval b lane corr) s = .next u) ∧
      (bad → exec (.bridgeLaneInterval b lane corr) s = .next (w.raiseBatch 78 (if left = 1 then
          [(Ev.FE_D2D.LANE_REPAIRED, some 0, some b, some lane), (Ev.FE_D2D.SPARES_EXHAUSTED, some 0, some b, some 0)]
        else [(Ev.FE_D2D.LANE_REPAIRED, some 0, some b, some lane)])))) ∧
    (s.bridgeUp = true →
      let note := fun (u : State) (c : Nat) => (u.sat1 FE_D2D.UNC.COUNT).raise Ev.FE_D2D.UNCORRECTABLE 0 c b 0
      (∀ i p, s.crossing b i = some p →
        exec (.bridgeWordUncorrectable b (.packet i)) s = .next ((note s 1).putPkt { p with bad := true }) ∧
        exec (.bridgeWordUncorrectable b (.metadata i)) s = .next (((note s 2).dropPkt p).sat1 FE_D2D.META_DROP.COUNT)) ∧
      exec (.bridgeWordUncorrectable b .register) s = .next (note { s with log := { s.log with accessBad := some b } } 3) ∧
      (∀ r rs, s.log.fwd = r :: rs → exec (.bridgeWordUncorrectable b .record) s =
        .next (note (({ s with log := { s.log with fwd := rs } } : State).loseRec 79) 4)) ∧
      ∃ u : State, exec (.bridgeDown b) s = .next (u.bridgeDownEvent b) ∧ u = { s with regs := u.regs } ∧ u.rf FE_D2D.STATUS.UP = 0 ∧
        u.rf FE_D2D.STATUS.DOWN_BUNDLE = b % 2 ^ FE_D2D.STATUS.DOWN_BUNDLE.w ∧ u.rf TM_FAULT.STATUS.BRIDGE_UP = 0 ∧ u.bridgeUp = false) ∧
    (s.bridgeUp = false → (∀ lane corr, exec (.bridgeLaneInterval b lane corr) s = .next s) ∧
      (∀ w, exec (.bridgeWordUncorrectable b w) s = .next s) ∧ exec (.bridgeDown b) s = .next s)

/-- Freezing and snapshots of the counters (R417 to R420), and trace records on their way to the host (R421, R426). -/
def Obligations.CountersAndTrace : Prop :=
  ∀ (s : State),
    (s.tmOn = true → s.blockOpen 4178 = true → ∀ v, ∃ t, exec (.freezeWrite v) s = .next t ∧ t.rf TM_PERF.FREEZE.FREEZE = v % 2 ∧
      t.rf TM_PERF.FREEZE.FROZEN = s.rf TM_PERF.FREEZE.FROZEN ∧ t.timerAt .freeze 0 = some s.tickAhead ∧
      s.cycle + 128 ≤ s.tickAhead ∧ s.tickAhead ≤ s.cycle + 129 ∧ s.tickAhead % 2 = 0 ∧ t = { s with regs := t.regs, timers := t.timers }) ∧
    (s.tmOn = true → ∀ d, s.timerAt .freeze 0 = some d → exec .freezeApply s =
      .next ((s.expired .freeze 0 d).wf TM_PERF.FREEZE.FROZEN ((s.expired .freeze 0 d).rf TM_PERF.FREEZE.FREEZE))) ∧
    (s.tmOn = true → ∀ id c, s.cmd id = some c → s.mayStart c = true → c.opcode = 0x50 → s.snap = none →
      (∀ x ∈ s.hc.cmds, x.opcode = 0x50 → x.id < id → s.mayStart x = false) →
      (c.bits 128 6 ≠ 0 ∨ c.bits 192 32 < snapLen → exec (.snapshot id) s = .next (s.finishR id stInvalid 20 snapLen)) ∧
      (c.bits 128 6 = 0 → snapLen ≤ c.bits 192 32 → s.bridgeUp = false → exec (.snapshot id) s = .next (s.finishR id stTimeout 0 0)) ∧
      (c.bits 128 6 = 0 → snapLen ≤ c.bits 192 32 → s.bridgeUp = true → ∃ t, exec (.snapshot id) s = .next t ∧ t.snap = some ⟨id, none⟩ ∧
        t.rf TM_PERF.SNAP_STATUS.BUSY = 1 ∧ t.timerAt .snapshot 0 = some s.tickAhead ∧ t.pkts = s.pkts ∧ t.hdrs = s.hdrs)) ∧
    (s.tmOn = true → ∀ d id img, s.timerAt .snapshot 0 = some d → s.snap = some ⟨id, img⟩ →
      let u := s.expired .snapshot 0 d
      let seq := (u.rf TM_PERF.SNAP_SEQ.SEQ + 1) % 2 ^ 32
      let v := (((u.wf TM_PERF.SNAP_SEQ.SEQ seq).wf TM_PERF.SNAP_TIME_NS.NS u.timeNs).wf TM_PERF.SNAP_TIME_SEC_LO.SEC (u.timeSec % 2 ^ 32)).wf
        TM_PERF.SNAP_TIME_SEC_HI.SEC (u.timeSec / 2 ^ 32)
      let w : State := { v.tookEffect id with snap := some ⟨id, some (u.snapImage seq, u.time80)⟩ }
      (u.bridgeUp = false → exec .snapshotLatch s = .next (u.snapEnd stTimeout 0 [])) ∧
      (u.bridgeUp = true → ∀ c, u.cmd id = some c →
        (c.bits 224 1 = 1 → exec .snapshotLatch s = .next { w with hdrs := w.hdrs.map (fun e => (e.1, e.2.clearPerf)) }) ∧
        (c.bits 224 1 ≠ 1 → exec .snapshotLatch s = .next w))) ∧
    (s.tmOn = true → ∀ id img time c, s.snap = some ⟨id, some (img, time)⟩ → s.cmd id = some c →
      (s.bridgeUp = false → exec .snapshotCopyDone s = .next (s.snapEnd stTimeout 0 [])) ∧
      (s.bridgeUp = true → exec .snapshotCopyDone s =
        .next (s.snapEnd stOK (img.length + time * 2 ^ 32 + s.rf TM_PERF.SNAP_SEQ.SEQ * 2 ^ 112) [(c.bits 128 64, img)]))) ∧
    (s.feOn = true → s.blockOpen 77 = true → ∀ seed, exec (.traceSeedWrite seed) s =
      .next { (s.wf FE_TRACE.SEED.SEED seed) with tr := { s.tr with lfsr := lfsrAll (seed % 2 ^ 32) } }) ∧
    (s.tmOn = true → ∀ v vs u bad, s.tr.tm = v :: vs → s.operating 4178 = true → s.rf tmTraceRing.enable ≠ 0 →
      s.rfb TM_PERF.RING_STATUS.ERROR = false → s.recFull tmTraceRing = false →
      (s.recWrite tmTraceRing bad v = (true, u) → exec (.traceExport true bad) s = .next { u with tr := { u.tr with tm := vs } }) ∧
      (s.recWrite tmTraceRing bad v = (false, u) → exec (.traceExport true bad) s = .next (u.wf TM_PERF.RING_STATUS.ERROR 1))) ∧
    (s.feOn = true → ∀ v vs u bad, s.tr.fe = v :: vs → s.operating 77 = true → s.rf feTraceRing.enable ≠ 0 →
      s.rfb FE_TRACE.RING_STATUS.ERROR = false → s.recFull feTraceRing = false → s.bridgeUp = true →
      (s.recWrite feTraceRing bad v = (true, u) → exec (.traceExport false bad) s = .next { u with tr := { u.tr with fe := vs } }) ∧
      (s.recWrite feTraceRing bad v = (false, u) → exec (.traceExport false bad) s = .next (u.wf FE_TRACE.RING_STATUS.ERROR 1)))

/-- Clock faults (R449, R450): a PLL that unlocks stops its die, a lost reference and a bad oscillator are shown and raised, and the
marker compares the two cycle counters. -/
def Sys2Proof.Claims.ClockFaults : Prop :=
  ∀ (s : State),
    (s.tmOn = true → ∃ t, exec (.pllUnlock true) s = .next t ∧ t.rf TM_CLK.STATUS.ROOT_LOCK = 0 ∧ t.tmOn = false ∧
      t = (s.raise Ev.TM_CLK.PLL_UNLOCK 0 0 0 0).wf TM_CLK.STATUS.ROOT_LOCK 0) ∧
    (s.feOn = true → ∃ t, exec (.pllUnlock false) s = .next t ∧ t.rf FE_CLK.STATUS.ROOT_LOCK = 0 ∧ t.feOn = false ∧
      t = (s.raise Ev.FE_CLK.PLL_UNLOCK 0 0 0 0).wf FE_CLK.STATUS.ROOT_LOCK 0) ∧
    (s.tmOn = true → exec .refclkLoss s = .next ((s.wf TM_CLK.STATUS.REFCLK_OK 0).raise Ev.TM_CLK.REFCLK_LOSS 0 0 0 0)) ∧
    (s.tmOn = true → s.rf TM_PWR.STATE.STATE = 0 → ∀ khz, khz < 65536 →
      (23750 ≤ khz → khz ≤ 26250 → exec (.aonOscCheck khz) s = .next ((s.wf TM_CLK.AON_FREQ.KHZ khz).wf TM_CLK.STATUS.AON_OSC_OK 1)) ∧
      (khz < 23750 ∨ 26250 < khz → exec (.aonOscCheck khz) s =
        .next (((s.wf TM_CLK.AON_FREQ.KHZ khz).wf TM_CLK.STATUS.AON_OSC_OK 0).raise Ev.TM_CLK.AON_OSC_FAULT 0 0 khz 0))) ∧
    (s.tmOn = true → s.feOn = true → ∀ fe,
      let u := s.advanceTo ((s.cycle / 2 ^ 20 + 1) * 2 ^ 20)
      (fe % 2 ^ 64 = u.cycle → exec (.cycleCheckMarker fe) s = .next (u.wf FE_CLK.STATUS.CYCLE_SYNC 1)) ∧
      (fe % 2 ^ 64 ≠ u.cycle → exec (.cycleCheckMarker fe) s = .next (((u.wf FE_CLK.STATUS.CYCLE_SYNC 0).sat1 FE_CLK.SKEW_CNT.COUNT).raise
        Ev.FE_CLK.CYCLE_SKEW 0 0 (fe % 2 ^ 32) (u.cycle % 2 ^ 32))))

/-- Adjustments of device time (R451, R452): a step or offset is discarded while BUSY and else waits for its TICK, as a new addend does; then
it takes effect. -/
def Sys2Proof.Claims.TimeAdjustments : Prop :=
  ∀ (s : State), s.feOn = true →
    (s.blockOpen 76 = true → s.rfb FE_PTP.TIME_CTRL.BUSY = false →
      ∃ a b, exec .timeStepWrite s = .next a ∧ exec .timeOffsetWrite s = .next b ∧
        a.ptp = { s.ptp with adjs := s.ptp.adjs ++ [(s.tickAhead, .step (s.rf FE_PTP.SET_SEC_HI.SEC * 2 ^ 32 + s.rf FE_PTP.SET_SEC_LO.SEC)
          (min (s.rf FE_PTP.SET_NS.NS) 999999999))] } ∧ a.rf FE_PTP.TIME_CTRL.BUSY = 1 ∧ a = { s with regs := a.regs, ptp := a.ptp } ∧
        b.ptp = { s.ptp with adjs := s.ptp.adjs ++ [(s.tickAhead, .offset (s.rf FE_PTP.OFFSET_NS.NS))] } ∧
        b.rf FE_PTP.TIME_CTRL.BUSY = 1 ∧ b = { s with regs := b.regs, ptp := b.ptp }) ∧
    (s.rfb FE_PTP.TIME_CTRL.BUSY = true → exec .timeStepWrite s = .next s ∧ exec .timeOffsetWrite s = .next s) ∧
    (s.blockOpen 76 = true → ∀ v, ∃ t, exec (.addendWrite v) s = .next t ∧ t.rf FE_PTP.ADDEND_NS.NS = v % 2 ^ FE_PTP.ADDEND_NS.NS.w ∧
      t.ptp = { s.ptp with adjs := s.ptp.adjs ++ [(s.tickAhead, .addend (v % 2 * 2 ^ 32 + s.rf FE_PTP.ADDEND_FRAC.FRAC))] } ∧
      t.rf FE_PTP.TIME_CTRL.BUSY = 1 ∧
      t = { s with regs := t.regs, ptp := t.ptp }) ∧
    (s.ptp.adjs = [] → exec .timeAdjustApply s = .next s) ∧
    ∀ t a rest, s.ptp.adjs = (t, a) :: rest →
      let v : State := { s.advanceTo t with ptp := { s.ptp with adjs := rest } }
      let u := if rest = [] then v.wf FE_PTP.TIME_CTRL.BUSY 0 else v
      let since := (u.cycle / 2 - t / 2) * u.addend
      match a with
      | .addend x => exec .timeAdjustApply s = .next { u with addend := max (2 ^ 32) (min x (3 * 2 ^ 31)) }
      | .step sec ns => exec .timeAdjustApply s =
          .next ((u.setTime ((sec * 1000000000 + ns) * 2 ^ 32 + since)).wf FE_PTP.TIME_CTRL.TIME_VALID 1)
      | .offset ns => exec .timeAdjustApply s =
          .next (u.setTime (((u.time : Int) - (since : Int) + toSigned 32 ns * 2 ^ 32).toNat + since))

/-- Pulses and messages of the time of day (R454, R455): the edge out and its end, the edge in and its capture, its absence, and the
messages sent and received. -/
def Sys2Proof.Claims.TimeOfDay : Prop :=
  ∀ (s : State), s.feOn = true →
    (s.rfb FE_PTP.PPS_CTRL.OUT_EN = true → s.timeRun = true →
      let u := s.advanceTo (s.cycleOfTime ((s.time / secUnits + 1) * secUnits))
      let v := ({ u with ptp := { u.ptp with ppsOut := true, ppsSec := u.timeSec } } : State).arm .ppsWidth 0
        (orWhenZero (u.rf FE_PTP.PPS_CTRL.WIDTH_MS) 1 * cyMs)
      exec .ppsOutEdge s = .next (if u.rfb FE_PTP.TOD_CTRL.TX_EN then v.arm .todSend 0 (u.rf FE_PTP.TOD_CTRL.TX_DELAY_MS * cyMs) else v)) ∧
    (∀ d, s.timerAt .ppsWidth 0 = some d → ∃ t, exec .ppsOutPulseEnd s = .next t ∧ t.ptp = { s.ptp with ppsOut := false } ∧
      t = { s.expired .ppsWidth 0 d with ptp := t.ptp }) ∧
    (∀ f, s.rfb FE_PTP.PPS_CTRL.IN_EN = false ∨ f ≠ s.rfb FE_PTP.PPS_CTRL.IN_FALLING → exec (.ppsInEdge f) s = .next s) ∧
    (s.rfb FE_PTP.PPS_CTRL.IN_EN = true → let f := s.rfb FE_PTP.PPS_CTRL.IN_FALLING
      let u := s.arm .ppsMissing 0 ppsGap
      let c := s.time - s.rf FE_PTP.PPS_CTRL.IN_DELAY_NS * 2 ^ 32
      (s.rfb FE_PTP.PPS_CAP_CTRL.VALID = true → exec (.ppsInEdge f) s = .next (u.sat1 FE_PTP.PPS_CAP_CTRL.MISSED)) ∧
      (s.rfb FE_PTP.PPS_CAP_CTRL.VALID = false → ∃ t, exec (.ppsInEdge f) s = .next t ∧ t = { u with regs := t.regs } ∧
        t.rf FE_PTP.PPS_CAP_CTRL.VALID = 1 ∧ t.rf FE_PTP.PPS_CAP_NS.NS = c / 2 ^ 32 % 1000000000 ∧
        t.rf FE_PTP.PPS_CAP_SEC_LO.SEC = c / secUnits % 2 ^ 32 ∧
        t.rf FE_PTP.PPS_CAP_SEC_HI.SEC = c / secUnits / 2 ^ 32 % 2 ^ FE_PTP.PPS_CAP_SEC_HI.SEC.w)) ∧
    (∀ d, s.timerAt .ppsMissing 0 = some d → let u := s.expired .ppsMissing 0 d
      exec .ppsInMissing s = .next (if u.rfb FE_PTP.PPS_CTRL.IN_EN then u.raise Ev.FE_PTP.PPS_IN_MISSING 0 0 0 0 else u)) ∧
    (∀ d, s.timerAt .todSend 0 = some d → let u := s.expired .todSend 0 d
      exec .todTxSend s = .next (if u.rfb FE_PTP.TOD_CTRL.TX_EN then
        u.emit (.tod (todMessage u.ptp.ppsSec (u.rfb FE_PTP.TIME_CTRL.TIME_VALID))) else u)) ∧
    (s.rfb FE_PTP.TOD_CTRL.RX_EN = true → ∀ b cut,
      (∀ k, todFault b cut = some k → exec (.todRxMessage b cut) s =
        .next ((s.sat1 FE_PTP.TOD_ERR.COUNT).raiseO Ev.FE_PTP.TOD_ERR 0 (some 0) (some k) ((b[k]?).map (·.toNat)))) ∧
      (todFault b cut = none → s.rfb FE_PTP.TOD_RX_CTRL.VALID = false → ∃ t, exec (.todRxMessage b cut) s = .next t ∧
        t = { s with regs := t.regs } ∧ t.rf FE_PTP.TOD_RX_CTRL.VALID = 1 ∧
        t.rf FE_PTP.TOD_RX_SEC_LO.SEC = beNat ((b.drop 2).take 6) % 2 ^ 32 ∧
        t.rf FE_PTP.TOD_RX_SEC_HI.SEC = beNat ((b.drop 2).take 6) / 2 ^ 32 % 2 ^ FE_PTP.TOD_RX_SEC_HI.SEC.w ∧
        t.rf FE_PTP.TOD_RX_SEC_HI.STATUS = byteAt b 8 % 2 ^ FE_PTP.TOD_RX_SEC_HI.STATUS.w) ∧
      (todFault b cut = none → s.rfb FE_PTP.TOD_RX_CTRL.VALID = true → exec (.todRxMessage b cut) s = .next s)) ∧
    (s.blockOpen 76 = true → exec .ppsCapAck s = .next (s.wf FE_PTP.PPS_CAP_CTRL.VALID 0) ∧
      exec .todRxAck s = .next (s.wf FE_PTP.TOD_RX_CTRL.VALID 0))

/-- The statement over its parts: ClockFaults, TimeAdjustments, TimeOfDay. -/
def Obligations.ClocksAndTime : Prop :=
  Claims.ClockFaults ∧ Claims.TimeAdjustments ∧ Claims.TimeOfDay

/-- Canaries, voltage and temperature (R483, R484, R485, R487): the voltage loop starts, a period's reports go through the canaries and the loop,
a die's sensors warn and trip, and the life record counts an hour. -/
def Obligations.ThermalCommands : Prop :=
  ∀ (s : State),
    (s.tmOn = true → s.blockOpen 4179 = true →
      ((s.hdr 4179).lock = true → exec .avsEnable s = .next (if s.rf TM_THERM.AVS_CTRL.AVS_EN = 1 then s
        else s.accessErr 4179 4 (4179 * 4096 + TM_THERM.AVS_CTRL.AVS_EN.off) (1 + s.rf TM_THERM.AVS_CTRL.PERIOD_MS * 2 ^ 8))) ∧
      ((s.hdr 4179).lock = false → ∃ t, exec .avsEnable s = .next t ∧ t = { s with regs := t.regs, th := t.th } ∧
        t.rf TM_THERM.AVS_CTRL.AVS_EN = 1 ∧
        t.rf TM_THERM.AVS_CTRL.PERIOD_MS = s.rf TM_THERM.AVS_CTRL.PERIOD_MS % 2 ^ TM_THERM.AVS_CTRL.PERIOD_MS.w ∧
        t.rf TM_THERM.AVS_STATE.READBACK = s.rf TM_THERM.AVS_STATE.READBACK ∧
        (s.rfb TM_THERM.AVS_CTRL.AVS_EN = true → t.th = s.th ∧ t.rf TM_THERM.AVS_STATE.TARGET = s.rf TM_THERM.AVS_STATE.TARGET) ∧
        (s.rfb TM_THERM.AVS_CTRL.AVS_EN = false → t.th = { s.th with run := 0 } ∧
          t.rf TM_THERM.AVS_STATE.TARGET = s.rf TM_THERM.AVS_START.START_MV % 2 ^ TM_THERM.AVS_STATE.TARGET.w ∧
          t.rf TM_THERM.AVS_STATE.AT_MAX = if s.rf TM_THERM.AVS_START.START_MV = s.vMax then 1 else 0))) ∧
    (s.tmOn = true → s.operating 4179 = true → ∀ reports back,
      let u := ((reports.foldl (fun (s : State) r => if r.1 < 128 then s.report r.1 r.2 else s) s).showMin false).showMin true
      (u.rfb TM_THERM.AVS_CTRL.AVS_EN = false → exec (.avsPeriod reports back) s = .next u) ∧
      (u.rfb TM_THERM.AVS_CTRL.AVS_EN = true → 16 < u.th.excluded.length → exec (.avsPeriod reports back) s = .next (u.avsFault 3)) ∧
      (u.rfb TM_THERM.AVS_CTRL.AVS_EN = true → u.th.excluded.length ≤ 16 → ∀ k, u.lowest (u.canaries false ++ u.canaries true) = some k →
        exec (.avsPeriod reports back) s = .next (u.avsLoop (u.margin k) back))) ∧
    (s.tmOn = true → s.operating 4179 = false → ∀ reports back, exec (.avsPeriod reports back) s = .next s) ∧
    (∀ tm, (if tm then s.tmOn else s.feOn) = true → ∀ k x,
      let f := thermFlds tm
      let d := b2n tm
      let v := s.tempNow tm x
      exec (.tempWarn tm []) s = .next s ∧
      (∀ rest : List (Nat × Nat),
        let held := SMap.get 0 s.th.warned d
        let rearm := decide (held ≠ 0) &&
          ((k, x) :: rest).any (fun e => decide (e.1 + 1 = held) && decide (toSigned 8 e.2 ≤ toSigned 8 (s.rf f.warn) - 5))
        let a : State := if rearm then { s with th := { s.th with warned := SMap.put 0 s.th.warned d 0 } } else s
        let u := a.tempNow tm x
        (toSigned 8 (s.rf f.warn) < toSigned 8 x → held = 0 ∨ rearm = true → exec (.tempWarn tm ((k, x) :: rest)) s =
          .next (({ u with th := { u.th with warned := SMap.put 0 u.th.warned d (k + 1) } } : State).raise f.warnEvt 0 0 k (x % 256))) ∧
        (toSigned 8 x ≤ toSigned 8 (s.rf f.warn) ∨ held ≠ 0 ∧ rearm = false → exec (.tempWarn tm ((k, x) :: rest)) s = .next u)) ∧
      (125 ≤ toSigned 8 x → exec (.thermTrip tm k x) s = .next ((v.wf f.trip 1).raise f.tripEvt 0 0 k (x % 256))) ∧
      (toSigned 8 x < 125 → exec (.thermTrip tm k x) s = .next s)) ∧
    (s.tmOn = true → ∀ tj th, let volt := if s.rfb TM_THERM.AVS_CTRL.AVS_EN then some (s.rf TM_THERM.AVS_STATE.TARGET) else s.flash.volt
      (s.inReset 4102 = true ∨ s.mc.halted = true → exec (.lifeRecordUpdate tj th) s = .next s) ∧
      (s.inReset 4102 = false → s.mc.halted = false → ∃ t, exec (.lifeRecordUpdate tj th) s = .next t ∧
        t.flash = { s.flash with hours := satAdd 32 s.flash.hours 1, tj := tj % 2 ^ 16, thermal := th % 2 ^ 16, volt := volt } ∧
        t.rf TM_THERM.LIFE_HOURS.HOURS = satAdd 32 s.flash.hours 1 % 2 ^ 32 ∧
        t.rf TM_THERM.TJ_AVG.DECI_C = tj % 2 ^ 16 % 2 ^ TM_THERM.TJ_AVG.DECI_C.w ∧
        t.rf TM_THERM.CYCLES.THERMAL = th % 2 ^ 16 % 2 ^ TM_THERM.CYCLES.THERMAL.w ∧
        t.rf TM_THERM.CYCLES.POWER = s.flash.power % 2 ^ TM_THERM.CYCLES.POWER.w ∧ t = { s with regs := t.regs, flash := t.flash }))

/-- The voltage loop never leaves its range (R484): a write that changes the target lies between V_MIN and V_MAX, steps at most 5 mV, goes up
only while the smallest margin is below LOW_PS and down only above HIGH_PS. -/
def Obligations.VoltageRange : Prop :=
  ∀ (s : State) (m : Nat) (back : Option Nat),
    let v := s.rf TM_THERM.AVS_STATE.TARGET
    let w := (s.avsLoop m back).rf TM_THERM.AVS_STATE.TARGET
    (back = none → w = v) ∧
    (v < 2 ^ TM_THERM.AVS_STATE.TARGET.w → s.vMin ≤ v → v ≤ s.vMax →
      s.vMin ≤ w ∧ w ≤ s.vMax ∧ w ≤ v + 5 ∧ v ≤ w + 5 ∧ (v < w → toSigned 16 m < s.lowPs) ∧ (w < v → s.highPs < toSigned 16 m))

/-- Requests for a power state (R457, R462, R463): what discards one, what holds it in PENDING, and what it starts; the management interface's
request, its release and its flags. -/
def Obligations.PowerRequests : Prop :=
  ∀ (s : State),
    (∀ t cause,
      (3 ≤ t ∨ t = 1 ∧ s.pwr = psC → s.powerReq t cause = s.reqDiscard 3 t) ∧
      (t < 3 → ¬(t = 1 ∧ s.pwr = psC) → t = s.powerGoal → s.powerReq t cause = s.reqDiscard 2 t) ∧
      (t < 3 → ¬(t = 1 ∧ s.pwr = psC) → t ≠ s.powerGoal → s.waking = true → s.powerReq t cause = s.pend t) ∧
      (t ≠ 0 → t < 3 → s.waking = false → s.pw.entry = 0 → s.pwr = psActive → s.inReset 4102 = false →
        s.powerReq t cause = s.startEntry t) ∧
      (s.waking = false → s.pw.entry = 0 → s.pwr = psW → s.powerReq 0 cause = s.startWake 2 1 cause) ∧
      (s.waking = false → s.pw.entry = 0 → s.pwr = psC → s.powerReq 0 cause = s.startWake 3 1 cause) ∧
      (s.waking = false → s.pw.entry = 0 → s.pwr = psW → s.powerReq 2 cause =
        { s with pw := { s.pw with entry := 6, target := 2, abort := false } }) ∧
      (t ≠ 0 → t < 3 → s.waking = false → s.pw.entry = 0 → s.pwr = psActive → s.inReset 4102 = true → s.powerReq t cause = s.pend t) ∧
      (t < 3 → ¬(t = 1 ∧ s.pwr = psC) → t ≠ s.powerGoal → s.waking = false → s.pw.entry ≠ 0 →
        let u := if s.rf TM_PWR.STATE.PENDING = 3 then s
          else (s.reqDiscard 1 (s.rf TM_PWR.STATE.PENDING)).wf TM_PWR.STATE.PENDING 3
        (t ≠ 0 → s.powerReq t cause = s.pend t) ∧
        (t = 0 → s.powerReq t cause = { u with pw := { u.pw with abort := true } })) ∧
      s.reqDiscard cause t = s.raiseAon Ev.TM_PWR.REQ_DISCARDED cause t s.pwr ∧
      s.pend t = (if s.rf TM_PWR.STATE.PENDING = 3 then s else s.reqDiscard 1 (s.rf TM_PWR.STATE.PENDING)).wf TM_PWR.STATE.PENDING t ∧
      s.startEntry t = ((({ s with pw := { s.pw with entry := 1, target := t, abort := false } } : State).setPwr
        psEntering).endUnlock).abandonStaging) ∧
    (s.tmOn = true → s.blockOpen 4098 = true → (∀ t, exec (.powerRequest t) s = .next (s.powerReq (t % 4) 1)) ∧
      exec .wakeNRelease s = .next (s.wf TM_PWR.WAKE_N_CTRL.ASSERTED 0)) ∧
    (s.pw.rst = 0 →
      let ok := fun (pec : Bool) => s.rfb TM_MGMT.CFG.PEC_REQ = false ∨ pec = true
      let bad := fun (code : Nat) => (s.sat1 TM_MGMT.PEC_ERR.COUNT).raiseAon Ev.TM_MGMT.PEC_ERR 0 code 0
      (∀ t v pec, ok pec → exec (.mgmtPowerReq t pec) s = .next (s.powerReq t 1) ∧ ∃ u, exec (.mgmtClear v pec) s = .next u ∧
        u = { s with regs := u.regs } ∧
        u.rf TM_PWR.WAKE_N_CTRL.ASSERTED = (if bit v 0 then 0 else s.rf TM_PWR.WAKE_N_CTRL.ASSERTED) ∧
        u.rf TM_PWR.STATE.WAKE_FAIL = (if bit v 1 then 0 else s.rf TM_PWR.STATE.WAKE_FAIL) ∧
        u.rf TM_PWR.STATE.BROWNOUT = if bit v 2 then 0 else s.rf TM_PWR.STATE.BROWNOUT) ∧
      (∀ t v off, s.rfb TM_MGMT.CFG.PEC_REQ = true → exec (.mgmtPowerReq t false) s = .next (bad 2) ∧
        exec (.mgmtClear v false) s = .next (bad 3) ∧ (s.mgmtServes = true → exec (.mgmtRegAddr off false) s = .next (bad 0x10))) ∧
      exec .mgmtStatus s = .next (s.emit (.mgmt s.mgmtStatus)) ∧ s.mgmtStatus.length = 8 ∧
      exec .mgmtTimeout s = .next (s.sat1 TM_MGMT.NACKS.COUNT) ∧
      (∀ off pec, s.mgmtServes = false → exec (.mgmtRegAddr off pec) s = .next (s.sat1 TM_MGMT.NACKS.COUNT)) ∧
      (∀ off pec, s.mgmtServes = true → ok pec →
        exec (.mgmtRegAddr off pec) s = .next { s with pw := { s.pw with regAddr := off % 2 ^ 32 } }) ∧
      (s.inDoldrums = true → s.waking = false → s.rfb TM_PWR.DOLD_CFG.MGMT_WAKE_EN = true → s.rfb TM_PWR.STATE.WAKE_FAIL = false →
        exec .mgmtAddressMatch s = .next ((s.raiseAon Ev.TM_MGMT.ADDR_WAKE 0 0 0).powerReq 0 4)) ∧
      (s.inDoldrums = false → exec .mgmtAddressMatch s = .next s))

/-- Entry into Doldrums (R456, R458, R459): a safe point takes an abort back to ACTIVE within steps 1 to 3, or goes to the next step once
the wait of the present one is over; the drain's limit discards what is left; the end of step 5 leaves DOLDRUMS_W with the clocks off. -/
def Sys2Proof.Claims.DoldrumsEntry : Prop :=
  ∀ (s : State),
    (s.pw.rst = 0 →
      (s.pw.entry = 0 → exec .entrySafePoint s = .next s) ∧
      (s.pw.entry ≠ 0 → s.pw.abort = true → s.pw.entry ≤ 3 →
        let u : State := { s.disarm .doldDrain 0 with pw := { s.pw with entry := 0, abort := false } }
        exec .entrySafePoint s = .next ((((if s.pw.entry = 3 then u.evalLinks else u).setPwr psActive).raiseAon
          Ev.TM_PWR.ENTRY_ABORTED 0 s.pw.entry 0).startPending)) ∧
      (s.pw.entry ≠ 0 → ¬(s.pw.abort = true ∧ s.pw.entry ≤ 3) → s.entryWaitOver = false → exec .entrySafePoint s = .next s) ∧
      (s.pw.entry ≠ 0 → ¬(s.pw.abort = true ∧ s.pw.entry ≤ 3) → s.entryWaitOver = true →
        exec .entrySafePoint s = .next s.entryNext ∧
        (s.pw.entry = 1 → s.entryNext = { s with pw := { s.pw with entry := 2 } }) ∧
        (s.pw.entry = 2 → s.entryNext = (({ s with pw := { s.pw with entry := 3 } } : State).evalLinks).arm .doldDrain 0
          (orWhenZero (s.rf TM_PWR.DOLD_CFG.DRAIN_MS) 1 * cyMs)) ∧
        (s.pw.entry = 3 → s.entryNext = { s.disarm .doldDrain 0 with pw := { s.pw with entry := 4 } }) ∧
        (s.pw.entry = 4 → (s.pw.abort = true → s.entryNext = (s.startWake 2 4 1).retrain) ∧
          (s.pw.abort = false → s.entryNext = { s with pw := { s.pw with entry := 5 } })) ∧
        (s.pw.entry = 5 → let u := s.powerDown
          (u.pw.abort = true → s.entryNext = u.startWake 2 1 1) ∧
          (u.pw.abort = false → u.pw.target = 2 → s.entryNext = { u with pw := { u.pw with entry := 6 } }) ∧
          (u.pw.abort = false → u.pw.target ≠ 2 → s.entryNext = ({ u with pw := { u.pw with entry := 0 } } : State).startPending)) ∧
        (s.pw.entry = 6 → s.railsDown = ((({ s with pw := { s.pw with pwrEn := false, entry := 0 } } : State).setPwr psC)).watch ∧
          (s.pw.abort = true → s.entryNext = s.railsDown.startWake 3 1 1) ∧
          (s.pw.abort = false → s.entryNext = s.railsDown.startPending)))) ∧
    (s.tmOn = true → ∀ d, s.timerAt .doldDrain 0 = some d →
      let u := s.expired .doldDrain 0 d
      let n := u.pkts.length + (u.cellsHeld.filter (fun c => !c.own)).length
      let v := u.dropAll u.pkts
      exec .doldrumsDrainExpire s = .next (({ v with fab := { v.fab with
        staging := [], banks := [], txq := [], cut := [], ctxs := [], ras := [], residue := [] } } : State).doldDrop n)) ∧
    (s.powerDown.pwr = psW ∧ s.powerDown.tmOn = false ∧ s.powerDown.feOn = false ∧ s.powerDown.timeRun = false ∧ s.powerDown.pkts = [] ∧
      s.powerDown.dm.used = [] ∧ s.powerDown.otp = s.otp ∧ s.powerDown.ep = s.ep)

/-- Watching and waking (R460, R461, R464, R465, R466): a sample, each step of a wake done or timed out, the retry, and what the fall of the
rails or of the always-on domain leaves. -/
def Sys2Proof.Claims.DoldrumsWake : Prop :=
  ∀ (s : State), s.pw.rst = 0 →
    (∀ d ls temp, s.waking = false → s.timerAt .doldSample 0 = some d →
      let u := ((((s.expired .doldSample 0 d).watch.wfi TM_PWR.LS_LAST.LAST 0 (bits ls 0 32)).wfi TM_PWR.LS_LAST.LAST 1 (bits ls 32 32)).wf
        TM_PWR.TEMP_THR.TEMP_LAST temp).inc1 TM_PWR.SAMPLES.COUNT
      let n := if u.lsMiss ls = true ∨ u.tempMiss temp = true then s.pw.run + 1 else 0
      let v : State := { u with pw := { u.pw with run := n } }
      (n < orWhenZero (u.rf TM_PWR.DOLD_CFG.DEBOUNCE) 1 ∨ u.rfb TM_PWR.WAKE_N_CTRL.ASSERTED = true →
        exec (.doldrumsSample ls temp) s = .next v) ∧
      (orWhenZero (u.rf TM_PWR.DOLD_CFG.DEBOUNCE) 1 ≤ n → u.rfb TM_PWR.WAKE_N_CTRL.ASSERTED = false →
        exec (.doldrumsSample ls temp) s = .next (if u.rfb TM_PWR.DOLD_CFG.SELF_WAKE && !u.rfb TM_PWR.STATE.WAKE_FAIL then
          v.powerReq 0 (if u.lsMiss ls then 2 else 3)
          else (v.wf TM_PWR.WAKE_N_CTRL.ASSERTED 1).raiseAon Ev.TM_PWR.WAKE_N_ASSERTED 0 (bits ls 0 32) (temp % 256)))) ∧
    (s.pw.left = 2 →
      (s.pw.wake = 1 → exec .wakeStepDone s = .next (s.wakeStep 2 2)) ∧
      (s.pw.wake = 2 → exec .wakeStepDone s = .next (((s.wf FE_PWR.STATUS.SWITCH_OK 1).wf FE_PWR.STATUS.RETAINED 1).wakeStep 2 3)) ∧
      (s.pw.wake = 3 → exec .wakeStepDone s = .next ((s.clocksBack.retrain).wakeStep 2 4)) ∧
      (s.pw.wake = 4 →
        ((∃ c < 16, s.dmcState c = dmcTraining) → exec .wakeStepDone s = .next s) ∧
        ((∀ c < 16, s.dmcState c ≠ dmcTraining) → let u := s.reachActive
          (s.armed .heartbeat 0 = true → u.pwr = psActive → exec .wakeStepDone s = .next ((u.arm .heartbeat 0 (100 * cyMs)).evalLinks)) ∧
          (s.armed .heartbeat 0 = false ∨ u.pwr ≠ psActive → exec .wakeStepDone s = .next u.evalLinks)))) ∧
    (s.pw.left = 3 →
      (s.pw.wake = 1 → exec .wakeStepDone s = .next (s.wakeStep 3 2)) ∧ (s.pw.wake = 2 → exec .wakeStepDone s = .next (s.wakeStep 3 3)) ∧
      (s.pw.wake = 3 → exec .wakeStepDone s = .next (((s.wf FE_CLK.STATUS.ROOT_LOCK 1).wf TM_CLK.STATUS.ROOT_LOCK 1).coldStart))) ∧
    ((s.pw.left = 2 → s.pw.wake = 1 → s.failStep = (1, s)) ∧ (s.pw.left = 2 → s.pw.wake = 2 → s.failStep = (2, s)) ∧
      (s.pw.left = 3 → s.pw.wake = 1 → s.failStep = (2, s)) ∧ (s.pw.left = 3 → s.pw.wake = 2 → s.failStep = (1, s)) ∧
      (s.pw.wake = 3 → s.failStep = (3, s))) ∧
    (∀ d switch, s.timerAt .wakeStep 0 = some d →
      let f := (s.expired .wakeStep 0 d).failStep
      let a := (match switch with
        | some n => if s.pw.left = 2 ∧ s.pw.wake = 2 then f.2.raiseAon Ev.FE_PWR.SWITCH_FAULT 0 n 0 else f.2
        | none => f.2).wf TM_PWR.STATE.FAIL_STEP f.1
      let b : State := if a.tmOn then
          (({ a with pw := { a.pw with cycleAt := a.cycle } } : State).wf FE_CLK.STATUS.ROOT_LOCK 0).wf TM_CLK.STATUS.ROOT_LOCK 0 else a
      let e := ({ b with pw := { b.pw with wake := 0, fails := s.pw.fails + 1, pwrEn := decide (s.pw.left = 2) && decide (f.1 ≠ 1) } } :
        State).setPwr s.pw.left
      (s.pw.fails < 2 → exec (.wakeStepTimeout switch) s = .next (e.arm .wakeRetry 0 ((if f.1 = 1 then 10 else 1) * cyMs))) ∧
      (2 ≤ s.pw.fails → exec (.wakeStepTimeout switch) s = .next (((({ e with pw := { e.pw with pwrEn := decide (s.pw.left = 2) } } :
        State).wf TM_PWR.STATE.WAKE_FAIL 1).raiseAon Ev.TM_PWR.WAKE_FAIL 0 f.1 (s.pw.fails + 1)).watch))) ∧
    (∀ d, s.timerAt .wakeRetry 0 = some d → exec .wakeRetry s = .next ((s.expired .wakeRetry 0 d).wakeStep s.pw.left 1)) ∧
    (s.pwr ≠ psW → exec .pwrGoodFall s = .next s) ∧ (s.pwr ≠ psC → exec .aonBrownout s = .next s) ∧
    (s.pwr = psW → let u := (s.raiseAon Ev.FE_PWR.RETENTION_FAULT 0 0 0).wf FE_PWR.STATUS.RETAINED 0
      exec .pwrGoodFall s = .next (({ u with pw := { u.pw with left := 3, cause := 3 } } : State).railsDown)) ∧
    (s.pwr = psC → s.tmOn = false → ∃ t, exec .aonBrownout s = .next t ∧ t.pwr = psC ∧ t.rf TM_PWR.STATE.BROWNOUT = 1 ∧ t.rf TM_PWR.WAKE_N_CTRL.ASSERTED = 1 ∧
      t.rf TM_FAULT.ALIVE_STATUS.STATE = 0 ∧ t.otp = s.otp ∧ t.flash = s.flash)

/-- The statement over its parts: DoldrumsEntry, DoldrumsWake. -/
def Obligations.Doldrums : Prop :=
  Claims.DoldrumsEntry ∧ Claims.DoldrumsWake

/-- POR and its release (R473, R476): POR_N low clears everything but OTP, flash, the outputs and the queue; its release starts WAKING. -/
def Sys2Proof.Claims.PowerOnReset : Prop :=
  ∀ (s : State),
    (∃ t, exec .por s = .next t ∧ t.otp = s.otp ∧ t.flash.hours = s.flash.hours ∧ t.flash.record = s.flash.record ∧ t.pkts = [] ∧
      t.hc = State.reset.hc ∧ t.regs = State.reset.regs ∧ t.regsB = State.reset.regsB ∧ t.hdrs = State.reset.hdrs ∧ t.ep = State.reset.ep ∧
      t.sc = State.reset.sc ∧ t.log = State.reset.log ∧ t.cycle = 0 ∧ t.pw = { State.reset.pw with sysLow := s.pw.sysLow } ∧ t.tmOn = false ∧ t.feOn = false) ∧
    (s.pw.rst ≠ 1 → exec .porNRelease s = .next s) ∧
    (s.pw.rst = 1 → ∃ t, exec .porNRelease s = .next t ∧ t.pwr = psWaking ∧
      t.pw = { s.pw with rst := 0, wake := 2, left := 3, fails := 0, cause := 0, pwrEn := true } ∧
      t.timerAt .wakeStep 0 = some (s.cycle + 21 * cyMs) ∧ t = { s with regs := t.regs, pw := t.pw, timers := t.timers })

/-- CHIP reset (R412, R473, R474, R489, R500): the pin holds it and its release starts the cold start, but the pin is not sampled in
Doldrums, in a wake from it and before the rails of a cold start are up; a reaction's request and the register run it at once; it clears
packets, commands, channels and registers, and keeps OTP, the log ring, its SEQ, EPOCH_SEQ and the sequence numbers of the banks. -/
def Sys2Proof.Claims.ChipReset : Prop :=
  ∀ (s : State),
    let low : State := { s with pw := { s.pw with sysLow := true } }
    let high : State := { s with pw := { s.pw with sysLow := false } }
    (s.pw.rst ≠ 0 → exec (.chipReset false) s = .next s ∧ exec (.chipReset true) s = .next low) ∧
    (s.pw.rst = 0 → s.inDoldrums = true ∨ s.waking = true ∧ (s.pw.cause = 3 ∨ s.pw.wake ≠ 4) → exec (.chipReset true) s = .next low) ∧
    (s.pw.rst = 0 → s.inDoldrums = false → s.waking = false ∨ s.pw.cause ≠ 3 ∧ s.pw.wake = 4 →
      exec (.chipReset true) s = .next (low.chipClear true)) ∧
    (s.pw.rst = 0 → s.chipReq = true → exec (.chipReset false) s = .next ((s.chipClear false).chipRelease)) ∧
    (s.pw.rst = 0 → s.chipReq = false → exec (.chipReset false) s = .next s) ∧
    (s.pw.rst = 2 → exec .sysRstNRelease s = .next high.chipRelease) ∧ (s.pw.rst ≠ 2 → exec .sysRstNRelease s = .next high) ∧
    (s.tmOn = true → s.blockOpen 4102 = true → ∀ v,
      (bit v 0 = true → bits v 16 16 = 0xC41B → exec (.resetReq v) s = .next ((s.chipClear false).chipRelease)) ∧
      (¬(bit v 0 = true ∧ bits v 16 16 = 0xC41B) → exec (.resetReq v) s = .next s)) ∧
    (∀ pin, let t := s.chipClear pin
      t.otp = s.otp ∧ t.pkts = [] ∧ t.hc.cmds = [] ∧ t.chans = State.reset.chans ∧ t.sc = State.reset.sc ∧ t.fab = State.reset.fab ∧
      t.hdrs = State.reset.hdrs ∧ t.log.ring = s.log.ring ∧ t.cycle = s.cycle ∧ t.pw.rst = (if pin then 2 else 0) ∧
      (∀ f, f ∈ chipKept → t.rf f = s.rf f) ∧
      ∀ f p i, (∀ g ∈ chipKept, g.key 0 0 ≠ f.key p i) → t.rfp f p i = f.resetAt i) ∧
    (s.pw.sysLow = true → s.chipRelease = { s with pw := { s.pw with rst := 2 } }) ∧
    (s.pw.sysLow = false → s.chipRelease = if (s.rf FE_CLK.STATUS.ROOT_LOCK = 1 ∧ s.rf TM_CLK.STATUS.ROOT_LOCK = 1)
      then ({ s.wf TM_PWR.STATE.STATE psWaking with pw := { s.pw with rst := 0 } } : State).coldStart
      else ({ s.wf TM_PWR.STATE.STATE psWaking with pw := { s.pw with rst := 0 } } : State).wakeStep 3 (if s.pw.pwrEn then 2 else 1))

/-- The statement over its parts: PowerOnReset, ChipReset. -/
def Obligations.DeviceResets : Prop :=
  Claims.PowerOnReset ∧ Claims.ChipReset

/-- The management controller's reset and start (R434, R440, R473, R475, R476, R478): what an MC reset does before the boot ROM runs, when
Helri is ready, the retry of a failed boot, and the watchdog behind a missing heartbeat. -/
def Sys2Proof.Claims.ControllerReset : Prop :=
  ∀ (s : State), s.tmOn = true →
    (s.inReset 4102 = true → exec .mcReset s = .next s) ∧
    (s.fwAbandon = if s.rfb TM_MC.FW_CTRL.BUSY then { s with
        flash := { s.flash with slots := SMap.put [] s.flash.slots (1 - s.rf TM_SEC.BOOT.BOOTED_SLOT) [0] }
        mc := { s.mc with fails := s.mc.fails ++ [4] } } else s) ∧
    (s.inReset 4102 = false →
      let a := ((if s.mc.update then s else s.fwAbandon).abortBlock 4102).updHdr 4102 (fun h => { h with inReset := true, fenced := false })
      let b := ((a.resetBlockRegs 4102 mcKeep.contains).sat1 TM_MC.RESTARTS.COUNT).wf TM_MC.STATUS.RESET_CAUSE 2
      let trial : Int := if b.rfb TM_MC.STATUS.TRIAL then b.cycle else b.mc.trialAt
      let c : State := { b with mc := { b.mc with resetAt := b.cycle, sram := [], trialAt := trial } }
      exec .mcReset s = .next (c.freshNonce.bootRom (s.rf TM_SEC.BOOT.NEXT_SLOT)) ∧
      ∀ slot, s.mcReset slot = c.freshNonce.bootRom slot) ∧
    (s.rf TM_SEC.BOOT.STATE = 2 → s.blockOpen 4101 = true → exec .bootRetry s =
      .next (if s.pw.wake = 4 then s.coldBoot else s.bootRom (s.rf TM_SEC.BOOT.NEXT_SLOT))) ∧
    (s.rf TM_SEC.BOOT.STATE ≠ 2 → exec .bootRetry s = .next s) ∧
    (∀ first, (s.slotCheck first).1 = none → ∃ u : State, s.bootRom first = u.helriStart ∧ u.rf TM_SEC.BOOT.STATE = 1 ∧
      u.rf TM_SEC.BOOT.BOOTED_SLOT = first % 2 ^ TM_SEC.BOOT.BOOTED_SLOT.w ∧ u.rf TM_SEC.BOOT.FALLBACK = 0 ∧ u.otp = s.otp) ∧
    (∀ first c0, let a := (s.showOtp.wf TM_SEC.BOOT.STATE 0).wf TM_MC.STATUS.INIT_STAGE 0
      let b := (a.slotCheck first).2
      let c := (b.slotCheck (1 - first)).2
      (a.slotCheck first).1 = some c0 →
      ((b.slotCheck (1 - first)).1 = none → s.bootRom first = ((c.booted (1 - first) true).raise Ev.TM_SEC.BOOT_FALLBACK 0 c0 (1 - first)
        ((c.booted (1 - first) true).rf TM_SEC.BOOT.IMAGE_SVN)).helriStart) ∧
      (∀ c1, (b.slotCheck (1 - first)).1 = some c1 → s.bootRom first = (c.wf TM_SEC.BOOT.STATE 2).raiseO Ev.TM_SEC.BOOT_FAIL 0 none
        (some (if first = 0 then c0 else c1)) (some (if first = 0 then c1 else c0)))) ∧
    (s.inReset 4102 = true → s.rf TM_SEC.BOOT.STATE = 1 → s.mc.halted = false → s.pw.wake = 4 → s.pw.left = 3 →
      let a := (s.wf TM_MC.STATUS.INIT_STAGE 2).updHdr 4102 (fun h => { h with inReset := false })
      let u := (a.countLater 4102).raise Ev.TM_MC.MC_RESTARTED 0 (a.rf TM_MC.STATUS.RESET_CAUSE)
        (s.rf TM_SEC.BOOT.BOOTED_SLOT) ((s.cycle - s.mc.resetAt) / cyMs)
      ((∃ c < 16, s.dmcState c = dmcTraining) → exec .helriReady s = .next s) ∧
      ((∀ c < 16, s.dmcState c ≠ dmcTraining) → exec .helriReady s = .next u.coldReady)) ∧
    (s.coldReady = (s.flash.faults.foldl (fun s n => s.replayFault n) (enableRest.foldl (fun s P => s.pageEnable P true)
      (if s.ddrObstacle = none then s.ddrEnable else s))).reachActive) ∧
    (s.inReset 4102 = true → s.rf TM_SEC.BOOT.STATE = 1 → s.mc.halted = false → ¬(s.pw.wake = 4 ∧ s.pw.left = 3) →
      let a := (s.wf TM_MC.STATUS.INIT_STAGE 2).updHdr 4102 (fun h => { h with inReset := false })
      let u := (a.countLater 4102).raise Ev.TM_MC.MC_RESTARTED 0 (a.rf TM_MC.STATUS.RESET_CAUSE)
        (s.rf TM_SEC.BOOT.BOOTED_SLOT) ((s.cycle - s.mc.resetAt) / cyMs)
      exec .helriReady s = .next (if u.pwr = psActive ∧ u.pw.entry = 0 then u.startPending else u)) ∧
    (s.inReset 4102 = false ∨ s.rf TM_SEC.BOOT.STATE ≠ 1 ∨ s.mc.halted = true → exec .helriReady s = .next s) ∧
    (∀ d, s.timerAt .heartbeat 0 = some d → s.rf TM_PWR.STATE.STATE = 0 →
      let u := (s.advanceTo (max d ((s.timerAt .hbHold 0).getD 0) + 1)).disarm .hbHold 0
      let f := (u.disarm .heartbeat 0).freeVal
      let a := f.2.aliveStop 2
      let v := a.1.raiseDepth 4 4176 false (⟨4176, 0, f.1, (u.cycle - (d - 100 * cyMs)) / cyMs, 0⟩ :: a.2)
      exec .heartbeatGap s = .next (if v.rfb TM_MC.WATCHDOG.EN then v.watchdogReset else v)) ∧
    (s.rf TM_PWR.STATE.STATE ≠ 0 → exec .heartbeatGap s = .next s) ∧
    (s.timerAt .heartbeat 0 = none → exec .heartbeatGap s = .next s)

/-- Firmware updates (R479, R481, R482): a stage is read from host memory and ends staged or failed with its cause; a switch enters the marker of
an MC reset; a confirm moves the slot record; a trial that is not confirmed boots the old slot. -/
def Sys2Proof.Claims.FirmwareUpdate : Prop :=
  ∀ (s : State), s.tmOn = true → s.blockOpen 4102 = true →
    let refused := fun (cause : Nat) => (s.wf TM_MC.FW_CTRL.ERR 1).wf TM_MC.FW_CTRL.CAUSE cause
    let failed := fun (u : State) (cause : Nat) => (((u.wf TM_MC.FW_CTRL.BUSY 0).wf TM_MC.FW_CTRL.ERR 1).wf TM_MC.FW_CTRL.CAUSE cause).raise
      Ev.TM_MC.FW_UPDATE_FAIL 0 cause s.otherSlot 0
    (s.rfb TM_MC.FW_CTRL.BUSY = true → exec .fwStage s = .next (refused 1) ∧ exec .fwSwitch s = .next (refused 1)) ∧
    (s.rfb TM_MC.FW_CTRL.BUSY = false → ∃ t, exec .fwStage s = .next t ∧ t.rf TM_MC.FW_CTRL.BUSY = 1 ∧ t.rf TM_MC.FW_CTRL.STAGED = 0 ∧
      t.rf TM_MC.FW_CTRL.ERR = 0 ∧ t.out = .hostRead (s.rf TM_MC.FW_BUF_HI.ADDR * 2 ^ 32 + s.rf TM_MC.FW_BUF_LO.ADDR * 64)
        (s.rf TM_MC.FW_LEN.BYTES) :: s.out ∧ t = { s with regs := t.regs, out := t.out }) ∧
    (s.rfb TM_MC.FW_CTRL.BUSY = false → s.rfb TM_MC.FW_CTRL.STAGED = false → exec .fwSwitch s = .next (refused 6)) ∧
    (s.rfb TM_MC.FW_CTRL.BUSY = false → s.rfb TM_MC.FW_CTRL.STAGED = true → ∃ u : State, exec .fwSwitch s = .next (u.softReset 4102) ∧
      u.mc = { s.mc with update := true } ∧ u.rf TM_MC.FW_CTRL.BUSY = 1 ∧ u.rf TM_SEC.BOOT.NEXT_SLOT = s.otherSlot % 2 ^ TM_SEC.BOOT.NEXT_SLOT.w ∧
      u = { s with regs := u.regs, timers := u.timers, mc := u.mc }) ∧
    (s.rfb TM_MC.FW_CTRL.BUSY = true → s.mc.update = false → s.mc.halted = false →
      (∀ g, exec (.fwStageDone .fail g) s = .next (failed s 2)) ∧
      ∀ d, let b := d.take (s.rf TM_MC.FW_LEN.BYTES)
        ((imageCheck b false s.otp.helriSvn).isSome = true → ∀ g, exec (.fwStageDone (.data d) g) s = .next (failed s 2)) ∧
        (imageCheck b false s.otp.helriSvn = none → exec (.fwStageDone (.data d) false) s = .next (failed (s.writeSlotImage s.otherSlot [0]) 5)) ∧
        (imageCheck b false s.otp.helriSvn = none → exec (.fwStageDone (.data d) true) s = .next ((((s.writeSlotImage s.otherSlot b).wf
          TM_MC.FW_CTRL.BUSY 0).wf TM_MC.FW_CTRL.STAGED 1).raise Ev.TM_MC.FW_UPDATE_DONE 0 1 s.otherSlot (le32 b 8)))) ∧
    (s.rfb TM_MC.STATUS.TRIAL = false → exec .fwConfirm s = .next (refused 7) ∧ exec .fwTrialTimeout s = .next s) ∧
    (s.rfb TM_MC.STATUS.TRIAL = true → let slot := s.rf TM_SEC.BOOT.BOOTED_SLOT
      exec .fwConfirm s = .next ((({ (s.wf TM_MC.FW_CTRL.ERR 0).wf TM_MC.FW_CTRL.CAUSE 0 with flash := { s.flash with record := slot } } : State).wf
        TM_MC.STATUS.TRIAL 0).raise Ev.TM_MC.FW_UPDATE_DONE 0 2 slot (le32 (s.slotImage slot) 8))) ∧
    (s.rfb TM_MC.STATUS.TRIAL = true → s.inReset 4102 = false → s.mc.halted = false →
      let d := (s.mc.trialAt + ((orWhenZero (s.rf TM_MC.CONFIRM_S.S) 1 * cySec : Nat) : Int)).toNat
      let u := (s.advanceTo d).wf TM_SEC.BOOT.NEXT_SLOT s.flash.record
      exec .fwTrialTimeout s = .next (({ u with mc := { u.mc with fails := u.mc.fails ++ [3] } } : State).mcReset s.flash.record))

/-- The statement over its parts: ControllerReset, FirmwareUpdate. -/
def Obligations.ControllerAndFirmware : Prop :=
  Claims.ControllerReset ∧ Claims.FirmwareUpdate

/-- The provisioning commands (R437, R438, R439, R440): a record that passes every check takes its effect in OTP, completes OK and brings
a fresh nonce; a record that fails one changes nothing of OTP and completes with that check's status. A step that ends with fewer than the
three copies of the changed words burned leaves the command in execution, with OTP reading new from two copies on (log entry 15). -/
def Sys2Proof.Claims.KeyProvision : Prop :=
  ∀ (s : State) (id copies : Nat) (c : Cmd) (r : ReadResult) (d : Bytes), s.tmOn = true → s.cmd id = some c → s.mayStart c = true →
    c.opcode = 0x61 → s.mc.halted = false → s.mcTurn id = true →
    let u := s.emit (.hostRead (c.bits 192 64) 320)
    let b := d.take 320
    let ends := fun (t : State) (st det : Nat) => (t.finishR id st det 0).freshNonce
    let ok := c.bits 256 32 = 320
    (∀ st det, (ends u st det).otp = s.otp) ∧
    (∀ k f (after : State → State), (k < 2 → u.stopBurn id k f after = u.begin id) ∧
      (2 ≤ k → u.stopBurn id k f after =
        after { ({ u.begin id with otp := s.otp.torn (f s.otp) } : State).showOtp with otp := f s.otp })) ∧
    (c.kpOp = opAddOwner ∨ c.kpOp = 0 ∨ 5 < c.kpOp → let f : Otp → Otp := fun o => o.setSlot c.kpSlot ⟨1, (b.drop 48).take 49⟩
      let after : State → State := fun t => t
      (¬ok → exec (.addOwner id r copies) s = .next (ends s stInvalid 21)) ∧
      (ok → exec (.addOwner id .fail copies) s = .next (ends u stInvalid 26)) ∧
      (ok → ∀ st det, u.kpCheck c b = some (st, det) → exec (.addOwner id (.data d) copies) s = .next (ends u st det)) ∧
      (ok → u.kpCheck c b = none → copies < 3 → exec (.addOwner id (.data d) copies) s = .next (u.stopBurn id copies f after)) ∧
      (ok → u.kpCheck c b = none → 3 ≤ copies → exec (.addOwner id (.data d) copies) s =
        .next (ends (after ({ u with otp := f s.otp } : State).showOtp) stOK 0))) ∧
    (c.kpOp = opRevokeOwner → let f : Otp → Otp := fun o => o.revoke c.kpSlot
      let after : State → State := fun t => t
      (¬ok → exec (.revokeOwner id r copies) s = .next (ends s stInvalid 21)) ∧
      (ok → exec (.revokeOwner id .fail copies) s = .next (ends u stInvalid 26)) ∧
      (ok → ∀ st det, u.kpCheck c b = some (st, det) → exec (.revokeOwner id (.data d) copies) s = .next (ends u st det)) ∧
      (ok → u.kpCheck c b = none → copies < 3 → exec (.revokeOwner id (.data d) copies) s = .next (u.stopBurn id copies f after)) ∧
      (ok → u.kpCheck c b = none → 3 ≤ copies → exec (.revokeOwner id (.data d) copies) s =
        .next (ends (after ({ u with otp := f s.otp } : State).showOtp) stOK 0))) ∧
    (c.kpOp = opLifecycle → let f : Otp → Otp := fun o => o.enter (c.kpArg % 4)
      let after : State → State := fun t => t.lifecycle s.otp.lifecycle (c.kpArg % 4) (byteAt b 97 + byteAt b 98 * 256)
      (¬ok → exec (.lifecycle id r copies) s = .next (ends s stInvalid 21)) ∧
      (ok → exec (.lifecycle id .fail copies) s = .next (ends u stInvalid 26)) ∧
      (ok → ∀ st det, u.kpCheck c b = some (st, det) → exec (.lifecycle id (.data d) copies) s = .next (ends u st det)) ∧
      (ok → u.kpCheck c b = none → copies < 3 → exec (.lifecycle id (.data d) copies) s = .next (u.stopBurn id copies f after)) ∧
      (ok → u.kpCheck c b = none → 3 ≤ copies → exec (.lifecycle id (.data d) copies) s =
        .next (ends (after ({ u with otp := f s.otp } : State).showOtp) stOK 0))) ∧
    (c.kpOp = opAdvanceSvn → let f : Otp → Otp := fun o => o.advance c.kpArg
      let after : State → State := fun t => t
      (¬ok → exec (.advanceSvn id r copies) s = .next (ends s stInvalid 21)) ∧
      (ok → exec (.advanceSvn id .fail copies) s = .next (ends u stInvalid 26)) ∧
      (ok → ∀ st det, u.kpCheck c b = some (st, det) → exec (.advanceSvn id (.data d) copies) s = .next (ends u st det)) ∧
      (ok → u.kpCheck c b = none → copies < 3 → exec (.advanceSvn id (.data d) copies) s = .next (u.stopBurn id copies f after)) ∧
      (ok → u.kpCheck c b = none → 3 ≤ copies → exec (.advanceSvn id (.data d) copies) s =
        .next (ends (after ({ u with otp := f s.otp } : State).showOtp) stOK 0))) ∧
    (c.kpOp = opOwnerOnly → let f : Otp → Otp := fun o => { o with ownerOnly := true }
      let after : State → State := fun t => t
      (¬ok → exec (.ownerOnly id r copies) s = .next (ends s stInvalid 21)) ∧
      (ok → exec (.ownerOnly id .fail copies) s = .next (ends u stInvalid 26)) ∧
      (ok → ∀ st det, u.kpCheck c b = some (st, det) → exec (.ownerOnly id (.data d) copies) s = .next (ends u st det)) ∧
      (ok → u.kpCheck c b = none → copies < 3 → exec (.ownerOnly id (.data d) copies) s = .next (u.stopBurn id copies f after)) ∧
      (ok → u.kpCheck c b = none → 3 ≤ copies → exec (.ownerOnly id (.data d) copies) s =
        .next (ends (after ({ u with otp := f s.otp } : State).showOtp) stOK 0)))

/-- A quote (R441): refused in RETIRED and for a short buffer; otherwise its body, signature and chain go to the host before it completes. -/
def Sys2Proof.Claims.AttestQuote : Prop :=
  ∀ (s : State) (id : Nat) (c : Cmd), s.tmOn = true → s.cmd id = some c → s.mayStart c = true → c.opcode = 0x60 → s.mc.halted = false →
    s.mcTurn id = true →
    let chain := if c.bits 480 1 = 1 ∧ s.rfb TM_SEC.LIFECYCLE.CHAIN_BAD = false then toLe 4 Config.certChain.length ++ Config.certChain else []
    let body := s.quoteBody (c.bits 128 256)
    (s.otp.lifecycle = lcRetired → exec (.attestQuote id) s = .next (s.finishR id stDenied 3 0)) ∧
    (s.otp.lifecycle ≠ lcRetired → c.bits 448 32 < 288 + chain.length →
      exec (.attestQuote id) s = .next (s.finishR id stInvalid 21 (288 + chain.length))) ∧
    (s.otp.lifecycle ≠ lcRetired → 288 + chain.length ≤ c.bits 448 32 →
      exec (.attestQuote id) s = .next (s.finish id stOK 0 (288 + chain.length)
        [(c.bits 384 64 / 64 * 64, body ++ sigBytes (Config.sha384 body) ++ chain)])) ∧ body.length = 192

/-- The statement over its parts: KeyProvision, AttestQuote. -/
def Obligations.ProvisioningAndQuotes : Prop :=
  Claims.KeyProvision ∧ Claims.AttestQuote

/-- A lifecycle transition (R437, R438, R444): the new state; in RETIRED every bit of the owner slots is 1; in RETURNED no slot is VALID any
more; the debug unlock ends. -/
def Obligations.LifecycleEffect : Prop :=
  ∀ (s : State) (new signers : Nat),
    let t := (s.burn (fun o => o.enter new)).lifecycle s.otp.lifecycle new signers
    t.otp.lifecycle = new ∧ t.otp.deviceId = s.otp.deviceId ∧ t.otp.certHash = s.otp.certHash ∧ t.otp.helriSvn = s.otp.helriSvn ∧
      t.otp.almSvn = s.otp.almSvn ∧ t.otp.ownerOnly = s.otp.ownerOnly ∧
    (new = lcRetired → t.otp.erased = true ∧ t.otp.slots = List.replicate 4 ⟨3, List.replicate 49 0xFF⟩) ∧
    (new ≠ lcRetired → t.otp.erased = s.otp.erased) ∧
    (new = lcDeployed → t.otp.slots = s.otp.slots) ∧
    (new = lcReturned → s.otp.slots.length = 4 → t.otp.slots = s.otp.slots.map (fun x => if x.st = 1 then { x with st := 2 } else x)) ∧
    t.rf TM_SEC.DEBUG.LEVEL = 0 ∧ t.rf TM_SEC.DEBUG.KEY = 0 ∧ t.timerAt .unlock 0 = none ∧ t.jt.ir = 1

/-- Which lifecycle transitions a record can ask for (R437): no transition leads back to an earlier state, and none leaves RETIRED. -/
def Sys2Proof.Claims.LifecycleOrder : Prop :=
  ∀ (s : State) (c : Cmd) (b : Bytes), s.kpCheck c b = none → c.kpOp = opLifecycle →
    s.otp.lifecycle < c.kpArg % 4 ∧ s.otp.lifecycle ≠ lcRetired ∧ (c.kpArg % 4 = lcReturned → s.otp.lifecycle = lcDeployed)

/-- Who may unlock what (R436, R438): nobody in RETIRED, level 2 only the vendor in MANUFACTURE or RETURNED, level 1 in DEPLOYED an owner,
or the vendor until OWNER_ONLY is set. -/
def Sys2Proof.Claims.UnlockRights : Prop :=
  ∀ (o : Otp) (key level : Nat), o.lifecycle ≤ 3 →
    (o.mayUnlock key level = true ↔
      (level = 2 ∧ key = 0 ∧ (o.lifecycle = lcManufacture ∨ o.lifecycle = lcReturned)) ∨
      (level = 1 ∧ o.lifecycle = lcDeployed ∧ ((key = 0 ∧ o.ownerOnly = false) ∨ o.slotIs key 1 = true)) ∨
      (level = 1 ∧ key = 0 ∧ (o.lifecycle = lcManufacture ∨ o.lifecycle = lcReturned)))

/-- The statement over its parts: LifecycleOrder, UnlockRights. -/
def Obligations.SecurityRights : Prop :=
  Claims.LifecycleOrder ∧ Claims.UnlockRights

/-- The JTAG port (R442, R445): every instruction enters the instruction register; one the level or the power state refuses acts as
BYPASS and is counted; IDCODE and BYPASS always act; a TAP reset leaves the level. -/
def Obligations.JtagPort : Prop :=
  ∀ (s : State), s.pw.rst ≠ 1 →
    let ir := fun (code : Nat) => ({ s with jt := { s.jt with ir := code, extest := decide (code = 0) && s.jt.extest } } : State)
    let free := ((ir 0x22).freeVal).2.emit (.tdo (toLe 4 ((ir 0x22).freeVal).1))
    exec .jtagIdcode s = .next ((ir 1).emit (.tdo (toLe 4 0xB51203D7))) ∧
    exec .jtagTapReset s = .next { s with jt := { s.jt with ir := 1, extest := false } } ∧
    (∀ code, code < 256 → code = 0xFF ∨ jtagLevel code = none → exec (.jtagBypass code) s = .next ((ir code).emit (.tdo [0]))) ∧
    (∀ code l, code < 256 → code ≠ 0xFF → code ≠ 1 → jtagLevel code = some l → s.fullyActive = false ∨ s.rf TM_SEC.DEBUG.LEVEL < l →
      let no := ((ir code).emit (.tdo [0])).sat1 TM_SEC.DBG_DENIED.COUNT
      exec (.jtagBypass code) s = .next no ∧
      (code = 0x10 → exec .secChallenge s = .next no) ∧ (code = 0x12 → exec .secStatus s = .next no) ∧
      (∀ b, code = 0x11 → exec (.secResponse b) s = .next no) ∧
      (∀ pins load, (code = 0x02 → exec (.samplePreload pins load) s = .next no) ∧ (code = 0x00 → exec (.extest pins load) s = .next no)) ∧
      (∀ off v, (code = 0x20 → exec (.jtagRegRead off) s = .next no) ∧ (code = 0x21 → exec (.jtagRegWrite off v) s = .next no)) ∧
      (∀ m w op, (code = 0x22 → exec (.memAccess m w) s = .next no) ∧ (code = 0x23 → exec (.mcDebug op) s = .next no))) ∧
    (s.fullyActive = true →
      exec .secStatus s = .next ((ir 0x12).emit (.tdo (toLe 4 s.debugWord))) ∧
      (∀ b, exec (.secResponse b) s = .next ((ir 0x11).secResponse b)) ∧
      (∃ r, exec .secChallenge s = .next (({ ir 0x10 with
          freeCtr := s.freeCtr + 1
          jt := { (ir 0x10).jt with challenge := some (r, s.cycle) } } : State).emit (.tdo r)) ∧ r.length = 64 ∧
        (r.drop 32).take 8 = toLe 8 s.otp.deviceId ∧ byteAt r 40 = s.otp.lifecycle % 256)) ∧
    (s.fullyActive = true → 1 ≤ s.rf TM_SEC.DEBUG.LEVEL →
      (∀ pins load, exec (.samplePreload pins load) s =
        .next (({ ir 0x02 with jt := { (ir 0x02).jt with scan := load } } : State).emit (.tdo pins))) ∧
      ∀ off, exec (.jtagRegRead off) s = .next (((ir 0x20).busRead .mc off 4).2.emit (.tdo (toLe 4 ((ir 0x20).busRead .mc off 4).1)))) ∧
    (s.fullyActive = true → 2 ≤ s.rf TM_SEC.DEBUG.LEVEL →
      (∀ pins load, exec (.extest pins load) s =
        .next (({ ir 0 with jt := { (ir 0).jt with scan := load, extest := true } } : State).emit (.tdo pins))) ∧
      (∀ off v, exec (.jtagRegWrite off v) s = .next ((ir 0x21).busWrite .mc off 4 v)) ∧
      (∀ a v, (a < 2 ^ 20 → exec (.memAccess (.mc a) (some v)) s =
          .next { ir 0x22 with mc := { s.mc with sram := SMap.put 0 s.mc.sram a (v % 2 ^ 32 + 1) } }) ∧
        (2 ^ 20 ≤ a → exec (.memAccess (.mc a) (some v)) s = .next (ir 0x22)) ∧
        (SMap.get 0 s.mc.sram a = v + 1 → exec (.memAccess (.mc a) none) s = .next ((ir 0x22).emit (.tdo (toLe 4 v)))) ∧
        (SMap.get 0 s.mc.sram a = 0 → exec (.memAccess (.mc a) none) s = .next free)) ∧
      (∀ dir pos line w v, (dir < 2 → pos < 128 → line < 49152 → w < 8 →
          exec (.memAccess (.table dir pos line w) none) s = .next ((ir 0x22).emit (.tdo (toLe 4 (bits (s.line dir pos line) (32 * w) 32)))) ∧
          exec (.memAccess (.table dir pos line w) (some v)) s = .next ((ir 0x22).writeLine dir pos line (32 * w) 32 v)) ∧
        (2 ≤ dir ∨ 128 ≤ pos ∨ 49152 ≤ line ∨ 8 ≤ w →
          exec (.memAccess (.table dir pos line w) none) s = .next free ∧
          exec (.memAccess (.table dir pos line w) (some v)) s = .next (ir 0x22))) ∧
      (∀ x v, exec (.memAccess (.other x) none) s = .next free ∧ exec (.memAccess (.other x) (some v)) s = .next (ir 0x22)) ∧
      exec (.mcDebug .halt) s = .next { ir 0x23 with mc := { s.mc with halted := true } } ∧
      exec (.mcDebug .step) s = .next (ir 0x23) ∧ exec (.mcDebug .resume) s = .next { ir 0x23 with mc := { s.mc with halted := false } })

/-- Debug unlock (R443, R444): an accepted response takes its level and time, a refused one counts and may start the lockout; the end of
the time, or RELOCK, locks the port again. -/
def Obligations.DebugUnlock : Prop :=
  ∀ (s : State),
    (∀ b, s.responseOk b = true → ∃ u : State, s.secResponse b = u.raise Ev.TM_SEC.DEBUG_UNLOCKED 0 (byteAt b 0) (leAt b 2 2) (byteAt b 1) ∧
      u.jt = { s.jt with challenge := none, fails := 0 } ∧ u.rf TM_SEC.DEBUG.LEVEL = byteAt b 0 % 2 ^ TM_SEC.DEBUG.LEVEL.w ∧
      u.rf TM_SEC.DEBUG.KEY = byteAt b 1 % 2 ^ TM_SEC.DEBUG.KEY.w ∧
      u.timerAt .unlock 0 = (if leAt b 2 2 = 0 then none else some (s.cycle + leAt b 2 2 * 60 * cySec)) ∧
      u = { s with regs := u.regs, timers := u.timers, jt := u.jt }) ∧
    (∀ b, s.responseOk b = false → ∃ u : State, s.secResponse b =
        (u.sat1 TM_SEC.UNLOCK_FAIL.COUNT).raise Ev.TM_SEC.UNLOCK_FAIL 0 0 (s.jt.fails + 1) (byteAt b 1) ∧
      u.jt = { s.jt with challenge := none, fails := s.jt.fails + 1 } ∧
      u.timerAt .lockout 0 = (if 4 ≤ s.jt.fails + 1 ∧ s.armed .lockout 0 = false then some (s.cycle + 60 * cySec) else s.timerAt .lockout 0) ∧
      u = { s with timers := u.timers, jt := u.jt }) ∧
    (∀ b, s.jt.challenge = none ∨ s.armed .lockout 0 = true ∨ s.otp.mayUnlock (byteAt b 1) (byteAt b 0) = false → s.responseOk b = false) ∧
    (s.tmOn = true → ∀ d, s.timerAt .unlock 0 = some d → exec .debugUnlockExpire s = .next (s.expired .unlock 0 d).endUnlock) ∧
    (s.tmOn = true → s.blockOpen 4101 = true → exec .debugRelock s = .next s.endUnlock) ∧
    (s.tmOn = true → ∀ d, s.timerAt .lockout 0 = some d → exec .unlockLockoutExpire s = .next (s.expired .lockout 0 d)) ∧
    (s.endUnlock.rf TM_SEC.DEBUG.LEVEL = 0 ∧ s.endUnlock.rf TM_SEC.DEBUG.KEY = 0 ∧ s.endUnlock.rf TM_SEC.DEBUG.MIN_LEFT = 0 ∧
      s.endUnlock.timerAt .unlock 0 = none ∧ s.endUnlock.jt = { s.jt with ir := 1, extest := false })

/-- One step takes the command at the front of the queue and runs it on the state with the rest of the queue; an empty queue lets one core
cycle pass (the model's choice, log entry 1) and changes nothing but the clock, device time and the page counters that count cycles. -/
def Obligations.StepTakesFront : Prop :=
  (∀ (s : State) (c : Instr) (r : List Instr), step { s with pending := c :: r } = exec c { s with pending := r }) ∧
  ∀ (s : State), s.pending = [] → ∃ t, step s = .next t ∧ t = { s with cycle := t.cycle, time := t.time, hdrs := t.hdrs } ∧
    t.cycle = (s.cycle + 1) % 2 ^ 64 ∧
    t.time = (if s.timeRun = true ∧ s.cycle % 2 = 1 then s.time + s.addend else s.time) ∧
    (∀ P, (t.hdr P).enable = (s.hdr P).enable ∧ (t.hdr P).fenced = (s.hdr P).fenced ∧ (t.hdr P).inReset = (s.hdr P).inReset ∧
      (t.hdr P).latch = (s.hdr P).latch ∧ (t.hdr P).lock = (s.hdr P).lock)

/-- The machine with POR_N low (R29, R30, R75, R293, R473, R476): every page in reset with the ENABLE of R29, every register at its reset value
in both banks, no packet, no command waiting, no epoch, every channel index free with generation 1, and an OTP that is legal (what
that OTP holds is the model's choice, log entry 14). -/
def Obligations.ResetState : Prop :=
  State.reset.pending = [] ∧ State.reset.pkts = [] ∧ State.reset.cycle = 0 ∧ State.reset.noEpoch = true ∧ State.reset.otpLegal ∧
  (∀ P, State.reset.hdr P = resetHdr P ∧ (resetHdr P).inReset = true ∧ (resetHdr P).enable = resetEnable P ∧ (resetHdr P).lock = false) ∧
  (∀ f p i, State.reset.rfp f p i = f.resetAt i) ∧ (∀ f b i, State.reset.rfBank f b i = f.resetAt i) ∧
  (∀ x, State.reset.chan x = Chan.free ∧ (State.reset.chan x).gen = 1 ∧ (State.reset.chan x).used = false) ∧
  State.reset.tmOn = false ∧ State.reset.feOn = false ∧ SMap.wf 0 State.reset.regs = true

/-- The register file (R6): a field written reads back as its low bits, no other field moves, nothing else of the machine does, and the
file keeps its canonical form; an RWE field's two banks are apart. -/
def Obligations.RegisterStore : Prop :=
  ∀ (s : State) (f g : Fld) (p i q j v : Nat),
    (s.wfp f p i v).rfp f p i = v % 2 ^ f.w ∧
    (g.key q j ≠ f.key p i → (s.wfp f p i v).rfp g q j = s.rfp g q j) ∧
    (s.wfp f p i v = { s with regs := (s.wfp f p i v).regs }) ∧
    (SMap.rising s.regs = true → SMap.rising (s.wfp f p i v).regs = true) ∧
    (∀ b, (s.wfBank f b i v).rfBank f b i = v % 2 ^ f.w ∧ (s.wfBank f b i v).rfBank f (!b) i = s.rfBank f (!b) i) ∧
    (∀ (P Q : Nat) (h : PageHdr → PageHdr), (s.updHdr P h).hdr P = h (s.hdr P) ∧ (Q ≠ P → (s.updHdr P h).hdr Q = s.hdr Q))

/-- Events at their page (R31, R32, R33): the latch always takes the source; a source that is not enabled does nothing else; an enabled one
fills an empty capture, or counts as lost when the capture is held, the count stopping at 65,535 with OVF. -/
def Obligations.EventCapture : Prop :=
  ∀ (s : State) (P : Nat) (forced : Bool) (e : Raise), srcImplemented P e.src = true → e.src < 32 → P ≠ 79 →
    let h := s.hdr P
    let t := (s.raisePage P forced [e]).1
    (t.hdr P).latch = h.latch ||| 2 ^ e.src ∧
    (bit h.evtEn e.src = false → t = s.updHdr P (fun h => { h with latch := h.latch ||| 2 ^ e.src }) ∧ (s.raisePage P forced [e]).2 = []) ∧
    (bit h.evtEn e.src = true → h.capValid = false → (t.hdr P).capValid = true ∧ (t.hdr P).capSource = e.src ∧
      (t.hdr P).capCause = e.cause % 256 ∧ (t.hdr P).capForced = forced ∧ (t.hdr P).capTime = s.timeNs ∧
      (t.hdr P).capD0 = e.d0 % 2 ^ 32 ∧ (t.hdr P).capD1 = e.d1 % 2 ^ 32 ∧ (t.hdr P).lostCount = h.lostCount ∧ (t.hdr P).lostOvf = h.lostOvf) ∧
    (bit h.evtEn e.src = true → h.capValid = true → (t.hdr P).capValid = true ∧ (t.hdr P).capSource = h.capSource ∧
      (t.hdr P).capCause = h.capCause ∧ (t.hdr P).capTime = h.capTime ∧ (t.hdr P).capD0 = h.capD0 ∧ (t.hdr P).capD1 = h.capD1 ∧
      (h.lostCount = 65535 → (t.hdr P).lostCount = 65535 ∧ (t.hdr P).lostOvf = true) ∧
      (h.lostCount ≠ 65535 → (t.hdr P).lostCount = h.lostCount + 1 ∧ (t.hdr P).lostOvf = h.lostOvf))

/-- The device ring (R384, R388): it never holds more than 8,192 records; an ordinary record that finds room outside an episode goes to its end
with the next SEQ, which rises by 1 modulo 2^32, and one that finds 7,680 or an episode is folded into its source's counter. -/
def Obligations.DeviceRing : Prop :=
  ∀ (s : State) (r : LogRec),
    (s.log.ring.length ≤ 8192 → (s.admitRec r).1.log.ring.length ≤ 8192) ∧
    (r.isProtected = false → s.rfb TM_LOG.SQUALL_STATUS.ACTIVE = false → s.log.ring.length < 7680 →
      s.log.ring.length + 1 < s.squallEnterThr → s.admitRec r = (s.ringPush r, []) ∧
      (s.ringPush r).log.ring = s.log.ring ++ [{ r with seq := s.rf TM_LOG.SEQ_NEXT.SEQ }] ∧
      (s.ringPush r).rf TM_LOG.SEQ_NEXT.SEQ = (s.rf TM_LOG.SEQ_NEXT.SEQ + 1) % 2 ^ 32) ∧
    (r.isProtected = false → s.rfb TM_LOG.SQUALL_STATUS.ACTIVE = true ∨ 7680 ≤ s.log.ring.length →
      (s.admitRec r).2 = [] ∧ (s.admitRec r).1.log.ring = s.log.ring ∧
      (SMap.get SumCtr.zero (s.admitRec r).1.log.sums (r.page * 32 + r.src)).count =
        satAdd 32 (SMap.get SumCtr.zero s.log.sums (r.page * 32 + r.src)).count 1) ∧
    (r.isProtected = true → s.log.ring.length < 8192 → ∃ l, (s.admitRec r).1.log.ring =
      s.log.ring ++ { r with seq := s.rf TM_LOG.SEQ_NEXT.SEQ } :: l)

/-- Every command answers a next state, and none touches the queue of the commands that wait behind it. -/
def Obligations.EveryCommandCompletes : Prop :=
  ∀ (c : Instr) (s : State), ∃ t, exec c s = .next t ∧ t.pending = s.pending

/-- The one-time-programmable memory changes only through the five provisioning operations (R430, R435, R437). -/
def Obligations.OtpOnlyByProvisioning : Prop :=
  ∀ (c : Instr) (s t : State), (∀ id r k, c ≠ .addOwner id r k ∧ c ≠ .revokeOwner id r k ∧ c ≠ .lifecycle id r k ∧
    c ≠ .advanceSvn id r k ∧ c ≠ .ownerOnly id r k) → exec c s = .next t → t.otp = s.otp

/-- Every step keeps the OTP legal (R430, R435, R436, R438). -/
def Obligations.StepKeepsOtpLegal : Prop :=
  ∀ (s t : State), s.otpLegal → step s = .next t → t.otpLegal

/-- No step takes the OTP back (R431, R435, R437, R438): the lifecycle, the security versions, OWNER_ONLY and the erase only move forward, and the
identity stands. -/
def Obligations.StepMovesOtpForward : Prop :=
  ∀ (s t : State), step s = .next t → s.otp.follows t.otp

/-- A BLOCK reset returns a page's block registers to their reset values and leaves every other page's as they were (R30); the shaping page's
reset, which has no more to do than that, keeps its ENABLE, LOCK and event settings and is ready again 100 us later at most. -/
def Obligations.BlockResetState : Prop :=
  (∀ (s : State) (f : Fld) (P p i : Nat) (keep : Nat → Bool),
    (P * 32768 + 2048 ≤ f.key p i → f.key p i < (P + 1) * 32768 → keep (f.key p i) = false →
      (s.resetBlockRegs P keep).rfp f p i = f.resetAt i) ∧
    (keep (f.key p i) = true ∨ f.key p i < P * 32768 + 2048 ∨ (P + 1) * 32768 ≤ f.key p i →
      (s.resetBlockRegs P keep).rfp f p i = s.rfp f p i)) ∧
  ∀ (s : State), let t := s.blockReset 4152
    t.sc.shapers = [] ∧ t.sc.cal = [] ∧ (t.hdr 4152).inReset = true ∧ (t.hdr 4152).fenced = false ∧
      (t.hdr 4152).enable = (s.hdr 4152).enable ∧ (t.hdr 4152).lock = (s.hdr 4152).lock ∧ (t.hdr 4152).evtEn = (s.hdr 4152).evtEn ∧
      t.timerAt .blockReset 4152 = some (s.cycle + 100 * cyUs) ∧ t.pkts = s.pkts

/-- A write of RESTART (R394). -/
def Obligations.AliveRestart : Prop :=
  ∀ (s : State), s.tmOn = true → s.blockOpen 4176 = true →
    let critical := (∃ P n, n < 32 ∧ (∃ h, (P, h) ∈ s.hdrs ∧ bit h.latch n = true ∧ bit h.evtEn n = true ∧ h.sevOf n = 3)) ∨
      (s.rf TM_FAULT.STATUS.BD_LATCH = 1 ∧ bit (s.hdr 78).evtEn 4 = true ∧ (s.hdr 78).sevOf 4 = 3)
    let beats := ∃ d, s.timerAt .heartbeat 0 = some d ∧ s.cycle ≤ d
    ∃ t, exec .aliveRestart s = .next t ∧ t = { s with regs := t.regs } ∧
      (¬critical → beats → t.rf TM_FAULT.ALIVE_STATUS.STATE = 1 ∧ t.rf TM_FAULT.ALIVE_STATUS.RESTART_REFUSED = 0) ∧
      (critical ∨ ¬beats → t.rf TM_FAULT.ALIVE_STATUS.STATE = s.rf TM_FAULT.ALIVE_STATUS.STATE ∧
        t.rf TM_FAULT.ALIVE_STATUS.RESTART_REFUSED = 1)

/-- The member that an ECMP group gives a packet (R169): by FLOW_HASH of the metadata, a fixed function, within the group's members; the
example of the rule. -/
def Obligations.EcmpMember : Prop :=
  (∀ (base size : Nat) (p : Pkt), memberIndex base size p.flowHash = base + p.flowHash / 2 ^ 16 % 2 ^ 16 * size / 2 ^ 16 ∧
    (0 < size → base ≤ memberIndex base size p.flowHash ∧ memberIndex base size p.flowHash < base + size)) ∧
  (∀ (base size : Nat) (p q : Pkt), p.flowHash = q.flowHash → memberIndex base size p.flowHash = memberIndex base size q.flowHash) ∧
  memberIndex 40000 12 0x9E379B79 = 40007

/-- HOLD.BLOCK_BYTES (R225) after the commands that change its terms: with PREEMPT_ACTIVE 64 * (1 + ADD_FRAG_SIZE) + 87, else
MAX_FRAME + 20. -/
def Obligations.BlockBytes : Prop :=
  ∀ (s : State) (p : Nat), p < 256 → s.feOn = true →
    let value := fun (t : State) => if t.pg FE_PG.PORT_STATUS.PREEMPT_ACTIVE p = 1 then 64 * (1 + t.pg FE_PG.PREEMPT_CFG.ADD_FRAG_SIZE p) + 87
      else t.maxFrame p + 20
    let right := fun (t : State) => t.pg FE_PG.HOLD.BLOCK_BYTES p = value t % 2 ^ FE_PG.HOLD.BLOCK_BYTES.w
    right (s.showHold p) ∧
    (s.blockOpen (pgPage p) = true → ∀ cfg, bit cfg 3 = true → ∃ t, exec (.preemptEnable p cfg) s = .next t ∧ right t ∧
      t.pg FE_PG.PORT_STATUS.PREEMPT_ACTIVE p = 1 ∧ t.pg FE_PG.PREEMPT_CFG.ADD_FRAG_SIZE p = bits cfg 1 2) ∧
    (∀ d, s.timerAt .preempt p = some d → ∃ t, exec (.preemptVerifyTimer p true) s = .next t ∧ right t ∧
      t.pg FE_PG.PORT_STATUS.PREEMPT_ACTIVE p = 1)
end

