-- ==== Sys2Proof/Laws/Keep1.lean ====
section
/-! SUPPORT. Frame laws of the shared operations, part 1 of 6: no operation writes the one-time-programmable array (but
`State.burn` and what calls it) and none touches the queue of waiting commands. An operation that answers a state has a
law `…_keep`; one that may answer nothing has a law `…_some` about the state it answers. -/

namespace Sys2Proof.Machine

set_option linter.unusedSimpArgs false
set_option linter.unusedTactic false
set_option linter.unreachableTactic false
set_option linter.unusedVariables false

theorem foldl_keep {α β : Type} (p : State → β) (g : State → α → State) (h : ∀ s a, p (g s a) = p s) (l : List α) (s : State) : p (l.foldl g s) = p s := by
  induction l generalizing s with
  | nil => rfl
  | cons a l ih => simp [ih, h]
theorem foldl_keep2 {α β γ : Type} (p : State → β) (g : γ × State → α → γ × State) (h : ∀ x a, p (g x a).2 = p x.2) (l : List α) (x : γ × State) : p (l.foldl g x).2 = p x.2 := by
  induction l generalizing x with
  | nil => rfl
  | cons a l ih => simp [ih, h]
@[simp] theorem foldl_otp {α : Type} (g : State → α → State) (l : List α) (s : State) (h : ∀ s a, (g s a).otp = s.otp) : (l.foldl g s).otp = s.otp := foldl_keep State.otp g h l s
@[simp] theorem foldl_pending {α : Type} (g : State → α → State) (l : List α) (s : State) (h : ∀ s a, (g s a).pending = s.pending) : (l.foldl g s).pending = s.pending := foldl_keep State.pending g h l s
@[simp] theorem foldl_otp2 {α γ : Type} (g : γ × State → α → γ × State) (l : List α) (x : γ × State) (h : ∀ x a, (g x a).2.otp = x.2.otp) : (l.foldl g x).2.otp = x.2.otp := foldl_keep2 State.otp g h l x
@[simp] theorem foldl_pending2 {α γ : Type} (g : γ × State → α → γ × State) (l : List α) (x : γ × State) (h : ∀ x a, (g x a).2.pending = x.2.pending) : (l.foldl g x).2.pending = x.2.pending := foldl_keep2 State.pending g h l x

/-- `s` and the state `g b` agree on the OTP array and on the queue of waiting commands. -/
def State.KeepBy {β : Type} (g : β → State) (s : State) (b : β) : Prop := (g b).otp = s.otp ∧ (g b).pending = s.pending
theorem State.keep_refl {s : State} : State.KeepBy id s s := ⟨rfl, rfl⟩
theorem State.keep_let {β : Type} {g : β → State} {s e : State} {f : State → β} (h : State.KeepBy id s e)
    (hf : ∀ t, State.KeepBy id s t → State.KeepBy g s (f t)) : State.KeepBy g s (let t := e; f t) := hf e h
theorem State.keep_have {α β : Type} {g : β → State} {s : State} {v : α} {f : α → β}
    (hf : ∀ x, State.KeepBy g s (f x)) : State.KeepBy g s (let x := v; f x) := hf v
theorem State.keep_of {s t : State} (h : State.KeepBy id s t) : t.otp = s.otp ∧ t.pending = s.pending := h
theorem State.keep_to {s t : State} (h : t.otp = s.otp ∧ t.pending = s.pending) : State.KeepBy id s t := h
theorem State.keep_fst {α : Type} {s : State} {x : State × α} (h : State.KeepBy Prod.fst s x) : x.1.otp = s.otp ∧ x.1.pending = s.pending := h
theorem State.keep_snd {α : Type} {s : State} {x : α × State} (h : State.KeepBy Prod.snd s x) : x.2.otp = s.otp ∧ x.2.pending = s.pending := h


/-- Whatever `o` answers agrees with `s` on the OTP array and on the queue of waiting commands. -/
def State.KeepO (s : State) (o : Option State) : Prop := ∀ u, o = some u → u.otp = s.otp ∧ u.pending = s.pending
theorem State.keepO_none {s : State} : s.KeepO none := fun _ h => nomatch h
theorem State.keepO_some {s t : State} (h : t.otp = s.otp ∧ t.pending = s.pending) : s.KeepO (some t) :=
  fun _ e => Option.some.inj e ▸ h
theorem State.keepO_ite {c : Prop} [Decidable c] {s : State} {a b : Option State} (ha : s.KeepO a) (hb : s.KeepO b) :
    s.KeepO (if c then a else b) := by split <;> assumption
theorem State.keep_ite {c : Prop} [Decidable c] {s a b : State} (ha : a.otp = s.otp ∧ a.pending = s.pending)
    (hb : b.otp = s.otp ∧ b.pending = s.pending) : (if c then a else b : State).otp = s.otp ∧ (if c then a else b : State).pending = s.pending := by
  split <;> assumption

@[simp] theorem State.setDmc_keep (s : State) (x1 : _) :
    (State.setDmc s x1).otp = s.otp ∧ (State.setDmc s x1).pending = s.pending := by
  unfold State.setDmc
  constructor <;> simp [apply_ite State.otp, apply_ite State.pending, apply_ite Prod.snd]

@[simp] theorem State.refreshBank_keep (s : State) (x1 : _) :
    (State.refreshBank s x1).otp = s.otp ∧ (State.refreshBank s x1).pending = s.pending := by
  unfold State.refreshBank
  constructor <;> simp [apply_ite State.otp, apply_ite State.pending, apply_ite Prod.snd]

@[simp] theorem State.forceRefresh_keep (s : State) (x1 : _) :
    (State.forceRefresh s x1).otp = s.otp ∧ (State.forceRefresh s x1).pending = s.pending := by
  unfold State.forceRefresh
  constructor <;> simp [apply_ite State.otp, apply_ite State.pending, apply_ite Prod.snd]

@[simp] theorem State.wfp_keep (s : State) (x1 : _) (x2 : _) (x3 : _) (x4 : _) :
    (State.wfp s x1 x2 x3 x4).otp = s.otp ∧ (State.wfp s x1 x2 x3 x4).pending = s.pending := by
  unfold State.wfp
  constructor <;> simp [apply_ite State.otp, apply_ite State.pending, apply_ite Prod.snd]

@[simp] theorem State.wf_keep (s : State) (x1 : _) (x2 : _) :
    (State.wf s x1 x2).otp = s.otp ∧ (State.wf s x1 x2).pending = s.pending := by
  unfold State.wf
  constructor <;> simp [apply_ite State.otp, apply_ite State.pending, apply_ite Prod.snd]

@[simp] theorem State.updHdr_keep (s : State) (x1 : _) (x2 : _) :
    (State.updHdr s x1 x2).otp = s.otp ∧ (State.updHdr s x1 x2).pending = s.pending := by
  unfold State.updHdr
  constructor <;> simp [apply_ite State.otp, apply_ite State.pending, apply_ite Prod.snd]

@[simp] theorem State.emit_keep (s : State) (x1 : _) :
    (State.emit s x1).otp = s.otp ∧ (State.emit s x1).pending = s.pending := by
  unfold State.emit
  constructor <;> simp [apply_ite State.otp, apply_ite State.pending, apply_ite Prod.snd]

@[simp] theorem State.nmi_keep (s : State) (x1 : _) (x2 : _) :
    (State.nmi s x1 x2).otp = s.otp ∧ (State.nmi s x1 x2).pending = s.pending := by
  unfold State.nmi
  constructor <;> simp [apply_ite State.otp, apply_ite State.pending, apply_ite Prod.snd]

@[simp] theorem State.perf_keep (s : State) (x1 : _) (x2 : _) (x3 : _) :
    (State.perf s x1 x2 x3).otp = s.otp ∧ (State.perf s x1 x2 x3).pending = s.pending := by
  unfold State.perf
  constructor <;> simp [apply_ite State.otp, apply_ite State.pending, apply_ite Prod.snd]

@[simp] theorem State.perfFld_keep (s : State) (x1 : _) (x2 : _) (x3 : _) :
    (State.perfFld s x1 x2 x3).otp = s.otp ∧ (State.perfFld s x1 x2 x3).pending = s.pending := by
  unfold State.perfFld; constructor <;> (repeat' split) <;> simp_all [apply_ite State.otp, apply_ite State.pending, apply_ite Prod.snd]

@[simp] theorem State.inc_keep (s : State) (x1 : _) (x2 : _) (x3 : _) (x4 : _) :
    (State.inc s x1 x2 x3 x4).otp = s.otp ∧ (State.inc s x1 x2 x3 x4).pending = s.pending := by
  unfold State.inc
  constructor <;> simp [apply_ite State.otp, apply_ite State.pending, apply_ite Prod.snd]

@[simp] theorem State.wfi_keep (s : State) (x1 : _) (x2 : _) (x3 : _) :
    (State.wfi s x1 x2 x3).otp = s.otp ∧ (State.wfi s x1 x2 x3).pending = s.pending := by
  unfold State.wfi
  constructor <;> simp [apply_ite State.otp, apply_ite State.pending, apply_ite Prod.snd]

@[simp] theorem State.causeFire_keep (s : State) (x1 : _) :
    (State.causeFire s x1).otp = s.otp ∧ (State.causeFire s x1).pending = s.pending := by
  unfold State.causeFire
  constructor <;> simp [apply_ite State.otp, apply_ite State.pending, apply_ite Prod.snd]

@[simp] theorem State.aliveStop_keep (s : State) (x1 : _) :
    (State.aliveStop s x1).1.otp = s.otp ∧ (State.aliveStop s x1).1.pending = s.pending := by
  unfold State.aliveStop; constructor <;> (repeat' split) <;> simp_all [apply_ite State.otp, apply_ite State.pending, apply_ite Prod.snd]

@[simp] theorem State.latchBounds_keep (s : State) :
    (State.latchBounds s).otp = s.otp ∧ (State.latchBounds s).pending = s.pending := by
  unfold State.latchBounds
  constructor <;> simp [apply_ite State.otp, apply_ite State.pending, apply_ite Prod.snd]

@[simp] theorem State.linkOut_keep (s : State) (x1 : _) :
    (State.linkOut s x1).otp = s.otp ∧ (State.linkOut s x1).pending = s.pending := by
  unfold State.linkOut
  constructor <;> simp [apply_ite State.otp, apply_ite State.pending, apply_ite Prod.snd]

@[simp] theorem State.fenceStart_keep (s : State) (x1 : _) :
    (State.fenceStart s x1).otp = s.otp ∧ (State.fenceStart s x1).pending = s.pending := by
  unfold State.fenceStart
  constructor <;> simp [apply_ite State.otp, apply_ite State.pending, apply_ite Prod.snd]

@[simp] theorem State.sat_keep (s : State) (x1 : _) (x2 : _) (x3 : _) (x4 : _) :
    (State.sat s x1 x2 x3 x4).otp = s.otp ∧ (State.sat s x1 x2 x3 x4).pending = s.pending := by
  unfold State.sat
  constructor <;> simp [apply_ite State.otp, apply_ite State.pending, apply_ite Prod.snd]

@[simp] theorem State.sat1_keep (s : State) (x1 : _) :
    (State.sat1 s x1).otp = s.otp ∧ (State.sat1 s x1).pending = s.pending := by
  unfold State.sat1
  constructor <;> simp [apply_ite State.otp, apply_ite State.pending, apply_ite Prod.snd]

@[simp] theorem State.foldEvent_keep (s : State) (x1 : _) :
    (State.foldEvent s x1).otp = s.otp ∧ (State.foldEvent s x1).pending = s.pending := by
  unfold State.foldEvent
  constructor <;> simp [apply_ite State.otp, apply_ite State.pending, apply_ite Prod.snd]

@[simp] theorem State.unrecord_keep (s : State) (x1 : _) :
    (State.unrecord s x1).otp = s.otp ∧ (State.unrecord s x1).pending = s.pending := by
  unfold State.unrecord; constructor <;> (repeat' split) <;> simp_all [apply_ite State.otp, apply_ite State.pending, apply_ite Prod.snd]

@[simp] theorem State.ringPush_keep (s : State) (x1 : _) :
    (State.ringPush s x1).otp = s.otp ∧ (State.ringPush s x1).pending = s.pending := by
  unfold State.ringPush
  constructor <;> simp [apply_ite State.otp, apply_ite State.pending, apply_ite Prod.snd]

@[simp] theorem State.disarm_keep (s : State) (x1 : _) (x2 : _) :
    (State.disarm s x1 x2).otp = s.otp ∧ (State.disarm s x1 x2).pending = s.pending := by
  unfold State.disarm
  constructor <;> simp [apply_ite State.otp, apply_ite State.pending, apply_ite Prod.snd]

@[simp] theorem State.armAt_keep (s : State) (x1 : _) (x2 : _) (x3 : _) :
    (State.armAt s x1 x2 x3).otp = s.otp ∧ (State.armAt s x1 x2 x3).pending = s.pending := by
  unfold State.armAt
  constructor <;> simp [apply_ite State.otp, apply_ite State.pending, apply_ite Prod.snd]

@[simp] theorem State.arm_keep (s : State) (x1 : _) (x2 : _) (x3 : _) :
    (State.arm s x1 x2 x3).otp = s.otp ∧ (State.arm s x1 x2 x3).pending = s.pending := by
  unfold State.arm
  constructor <;> simp [apply_ite State.otp, apply_ite State.pending, apply_ite Prod.snd]

@[simp] theorem State.admitRec_keep (s : State) (x1 : _) :
    (State.admitRec s x1).1.otp = s.otp ∧ (State.admitRec s x1).1.pending = s.pending := by
  unfold State.admitRec
  dsimp only
  (repeat' split) <;> (try subst_vars) <;> simp_all [apply_ite State.otp, apply_ite State.pending, apply_ite Prod.snd]

@[simp] theorem State.sendRec_keep (s : State) (x1 : _) :
    (State.sendRec s x1).1.otp = s.otp ∧ (State.sendRec s x1).1.pending = s.pending := by
  unfold State.sendRec; constructor <;> (repeat' split) <;> simp_all [apply_ite State.otp, apply_ite State.pending, apply_ite Prod.snd]

@[simp] theorem State.raisePage_keep (s : State) (x y z : _) :
    (State.raisePage s x y z).1.otp = s.otp ∧ (State.raisePage s x y z).1.pending = s.pending := by
  apply State.keep_fst
  unfold State.raisePage
  extract_lets +onlyGivenNames evs a1 h en
  have h1 : a1.otp = s.otp ∧ a1.pending = s.pending := by simp [a1]
  clear_value a1
  split
  · exact h1
  extract_lets +onlyGivenNames a2
  have h2 : a2.otp = s.otp ∧ a2.pending = s.pending := by simp [a2, h1]
  clear_value a2
  extract_lets +onlyGivenNames a3 cap a4
  have h4 : a4.otp = s.otp ∧ a4.pending = s.pending := by simp only [a4]; cases cap <;> simp [a3, h2]
  clear_value a4
  extract_lets +onlyGivenNames lost a5 best r fenceNow resetNow seq rec1 markers a6
  have h6 : a6.otp = s.otp ∧ a6.pending = s.pending := by simp only [a6]; split <;> simp [a5, h4]
  clear_value a6
  extract_lets +onlyGivenNames a7
  have h7 : a7.otp = s.otp ∧ a7.pending = s.pending := by simp only [a7]; split <;> simp [h6]
  clear_value a7
  extract_lets +onlyGivenNames recs
  have hr (l : List LogRec) (q : State × List Raise) : (l.foldl (fun (a : State × List Raise) r => let (s', n) := a.1.sendRec r; (s', a.2 ++ n)) q).1.otp = q.1.otp ∧
     (l.foldl (fun (a : State × List Raise) r => let (s', n) := a.1.sendRec r; (s', a.2 ++ n)) q).1.pending = q.1.pending := by
    induction l generalizing q with
    | nil => exact ⟨rfl, rfl⟩
    | cons b l ih => rw [List.foldl_cons]; exact ⟨(ih _).1.trans (State.sendRec_keep _ _).1, (ih _).2.trans (State.sendRec_keep _ _).2⟩
  replace hr := hr recs (a7, [])
  clear_value markers recs
  split
  next a8 nest hq =>
  rw [hq] at hr
  have h8 : a8.otp = s.otp ∧ a8.pending = s.pending := ⟨hr.1.trans h7.1, hr.2.trans h7.2⟩
  extract_lets +onlyGivenNames nest2 was a9 
  have h9 : a9.otp = s.otp ∧ a9.pending = s.pending := by simp only [a9]; split <;> simp [h8]
  clear_value a9
  extract_lets +onlyGivenNames nest3 a10
  have h10 : a10.otp = s.otp ∧ a10.pending = s.pending := by simp only [a10]; split <;> simp [h9]
  clear_value a10
  extract_lets +onlyGivenNames a11
  have h11 : a11.otp = s.otp ∧ a11.pending = s.pending := by simp only [a11]; split <;> simp [h10]
  clear_value a11
  extract_lets +onlyGivenNames a12
  have h12 : a12.otp = s.otp ∧ a12.pending = s.pending := by simp only [a12]; split <;> simp [h11]
  clear_value a12
  extract_lets +onlyGivenNames a13
  have h13 : a13.otp = s.otp ∧ a13.pending = s.pending := by simp only [a13]; split <;> simp [h12]
  clear_value a13
  split
  · split
    next b n hb =>
    have := State.aliveStop_keep a13 1
    rw [hb] at this
    exact ⟨this.1.trans h13.1, this.2.trans h13.2⟩
  · exact h13

@[simp] theorem State.raiseDepth_keep (n : _) (s : State) (x2 : _) (x3 : _) (x4 : _) :
    (State.raiseDepth n s x2 x3 x4).otp = s.otp ∧ (State.raiseDepth n s x2 x3 x4).pending = s.pending := by
  induction n generalizing s x2 x3 x4 with
  | zero => exact ⟨rfl, rfl⟩
  | succ n ih =>
    have h := State.raisePage_keep s x2 x3 x4
    simp only [State.raiseDepth]
    constructor
    · rw [foldl_otp]; exacts [h.1, fun s a => (ih s _ _ _).1]
    · rw [foldl_pending]; exacts [h.2, fun s a => (ih s _ _ _).2]

@[simp] theorem State.raise_keep (s : State) (x1 : _) (x2 : _) (x3 : _) (x4 : _) (x5 : _) :
    (State.raise s x1 x2 x3 x4 x5).otp = s.otp ∧ (State.raise s x1 x2 x3 x4 x5).pending = s.pending := by
  unfold State.raise
  constructor <;> simp [apply_ite State.otp, apply_ite State.pending, apply_ite Prod.snd]

@[simp] theorem State.accessUnc_keep (s : State) (x1 : _) (x2 : _) :
    (State.accessUnc s x1 x2).otp = s.otp ∧ (State.accessUnc s x1 x2).pending = s.pending := by
  unfold State.accessUnc
  constructor <;> simp [apply_ite State.otp, apply_ite State.pending, apply_ite Prod.snd]

@[simp] theorem State.memEnd_keep (s : State) (x1 : _) :
    (State.memEnd s x1).otp = s.otp ∧ (State.memEnd s x1).pending = s.pending := by
  unfold State.memEnd
  constructor <;> simp [apply_ite State.otp, apply_ite State.pending, apply_ite Prod.snd]

@[simp] theorem State.ddrAsk_keep (s : State) (x1 : _) :
    (State.ddrAsk s x1).otp = s.otp ∧ (State.ddrAsk s x1).pending = s.pending := by
  unfold State.ddrAsk
  constructor <;> simp [apply_ite State.otp, apply_ite State.pending, apply_ite Prod.snd]

@[simp] theorem State.ctrWrite_keep (s : State) (x1 : _) (x2 : _) :
    (State.ctrWrite s x1 x2).otp = s.otp ∧ (State.ctrWrite s x1 x2).pending = s.pending := by
  unfold State.ctrWrite
  constructor <;> simp [apply_ite State.otp, apply_ite State.pending, apply_ite Prod.snd]

@[simp] theorem State.setMemPart_keep (s : State) (x1 : _) (x2 : _) :
    (State.setMemPart s x1 x2).otp = s.otp ∧ (State.setMemPart s x1 x2).pending = s.pending := by
  unfold State.setMemPart
  constructor <;> simp [apply_ite State.otp, apply_ite State.pending, apply_ite Prod.snd]

@[simp] theorem State.freeVal_keep (s : State) :
    (State.freeVal s).2.otp = s.otp ∧ (State.freeVal s).2.pending = s.pending := by
  unfold State.freeVal
  constructor <;> simp [apply_ite State.otp, apply_ite State.pending, apply_ite Prod.snd]

@[simp] theorem State.memPart_keep (s : State) (x1 : _) :
    (State.memPart s x1).2.otp = s.otp ∧ (State.memPart s x1).2.pending = s.pending := by
  unfold State.memPart
  constructor <;> simp [apply_ite State.otp, apply_ite State.pending, apply_ite Prod.snd]

@[simp] theorem State.ctrRead_keep (s : State) (x1 : _) (x2 : _) :
    (State.ctrRead s x1 x2).otp = s.otp ∧ (State.ctrRead s x1 x2).pending = s.pending := by
  unfold State.ctrRead
  constructor <;> simp [apply_ite State.otp, apply_ite State.pending, apply_ite Prod.snd]

@[simp] theorem State.puntCount_keep (s : State) (x1 : _) (x2 : _) :
    (State.puntCount s x1 x2).otp = s.otp ∧ (State.puntCount s x1 x2).pending = s.pending := by
  unfold State.puntCount
  constructor <;> simp [apply_ite State.otp, apply_ite State.pending, apply_ite Prod.snd]

@[simp] theorem State.tracePush_keep (s : State) (x1 : _) (x2 : _) :
    (State.tracePush s x1 x2).otp = s.otp ∧ (State.tracePush s x1 x2).pending = s.pending := by
  unfold State.tracePush
  constructor <;> simp [apply_ite State.otp, apply_ite State.pending, apply_ite Prod.snd]

@[simp] theorem State.traceHalf_keep (s : State) (x1 : _) (x2 : _) (x3 : _) (x4 : _) (x5 : _) :
    (State.traceHalf s x1 x2 x3 x4 x5).otp = s.otp ∧ (State.traceHalf s x1 x2 x3 x4 x5).pending = s.pending := by
  unfold State.traceHalf
  constructor <;> simp [apply_ite State.otp, apply_ite State.pending, apply_ite Prod.snd]

@[simp] theorem State.countQ_keep (s : State) (x1 : _) (x2 : _) :
    (State.countQ s x1 x2).otp = s.otp ∧ (State.countQ s x1 x2).pending = s.pending := by
  unfold State.countQ
  constructor <;> simp [apply_ite State.otp, apply_ite State.pending, apply_ite Prod.snd]

@[simp] theorem State.countDrop_keep (s : State) (x1 : _) (x2 : _) :
    (State.countDrop s x1 x2).otp = s.otp ∧ (State.countDrop s x1 x2).pending = s.pending := by
  unfold State.countDrop
  constructor <;> simp [apply_ite State.otp, apply_ite State.pending, apply_ite Prod.snd]

@[simp] theorem State.showDdr_keep (s : State) :
    (State.showDdr s).otp = s.otp ∧ (State.showDdr s).pending = s.pending := by
  unfold State.showDdr
  constructor <;> simp [apply_ite State.otp, apply_ite State.pending, apply_ite Prod.snd]

@[simp] theorem State.retireUnit_keep (s : State) (x1 : _) :
    (State.retireUnit s x1).otp = s.otp ∧ (State.retireUnit s x1).pending = s.pending := by
  unfold State.retireUnit
  constructor <;> simp [apply_ite State.otp, apply_ite State.pending, apply_ite Prod.snd]

@[simp] theorem State.ddrRelease_keep (s : State) (x1 : _) :
    (State.ddrRelease s x1).otp = s.otp ∧ (State.ddrRelease s x1).pending = s.pending := by
  unfold State.ddrRelease
  constructor <;> simp [apply_ite State.otp, apply_ite State.pending, apply_ite Prod.snd]

@[simp] theorem State.putPkt_keep (s : State) (x1 : _) :
    (State.putPkt s x1).otp = s.otp ∧ (State.putPkt s x1).pending = s.pending := by
  unfold State.putPkt
  constructor <;> simp [apply_ite State.otp, apply_ite State.pending, apply_ite Prod.snd]

@[simp] theorem State.freeUnits_keep (s : State) (x1 : _) :
    (State.freeUnits s x1).otp = s.otp ∧ (State.freeUnits s x1).pending = s.pending := by
  unfold State.freeUnits; constructor <;> (repeat' split) <;> simp_all [apply_ite State.otp, apply_ite State.pending, apply_ite Prod.snd]

@[simp] theorem State.removePkt_keep (s : State) (x1 : _) :
    (State.removePkt s x1).otp = s.otp ∧ (State.removePkt s x1).pending = s.pending := by
  unfold State.removePkt
  constructor <;> simp [apply_ite State.otp, apply_ite State.pending, apply_ite Prod.snd]

@[simp] theorem State.orFree_keep (s : State) (x1 : _) :
    (State.orFree s x1).2.otp = s.otp ∧ (State.orFree s x1).2.pending = s.pending := by
  unfold State.orFree; constructor <;> (repeat' split) <;> simp_all [apply_ite State.otp, apply_ite State.pending, apply_ite Prod.snd]

@[simp] theorem State.raiseO_keep (s : State) (x1 : _) (x2 : _) (x3 : _) (x4 : _) (x5 : _) :
    (State.raiseO s x1 x2 x3 x4 x5).otp = s.otp ∧ (State.raiseO s x1 x2 x3 x4 x5).pending = s.pending := by
  unfold State.raiseO
  constructor <;> simp [apply_ite State.otp, apply_ite State.pending, apply_ite Prod.snd]

@[simp] theorem State.departCount_keep (s : State) (x1 : _) :
    (State.departCount s x1).otp = s.otp ∧ (State.departCount s x1).pending = s.pending := by
  unfold State.departCount
  constructor <;> simp [apply_ite State.otp, apply_ite State.pending, apply_ite Prod.snd]

@[simp] theorem State.post_keep (s : State) (x1 : _) (x2 : _) (x3 : _) :
    (State.post s x1 x2 x3).2.otp = s.otp ∧ (State.post s x1 x2 x3).2.pending = s.pending := by
  unfold State.post
  constructor <;> simp [apply_ite State.otp, apply_ite State.pending, apply_ite Prod.snd]

@[simp] theorem State.coalesce_keep (s : State) (x1 : _) (x2 : _) (x3 : _) :
    (State.coalesce s x1 x2 x3).otp = s.otp ∧ (State.coalesce s x1 x2 x3).pending = s.pending := by
  unfold State.coalesce
  constructor <;> simp [apply_ite State.otp, apply_ite State.pending, apply_ite Prod.snd]

@[simp] theorem State.injBack_keep (s : State) (x1 : _) (x2 : _) (x3 : _) (x4 : _) :
    (State.injBack s x1 x2 x3 x4).otp = s.otp ∧ (State.injBack s x1 x2 x3 x4).pending = s.pending := by
  unfold State.injBack
  constructor <;> simp [apply_ite State.otp, apply_ite State.pending, apply_ite Prod.snd]

@[simp] theorem State.injDone_keep (s : State) (x1 : _) (x2 : _) :
    (State.injDone s x1 x2).otp = s.otp ∧ (State.injDone s x1 x2).pending = s.pending := by
  unfold State.injDone; constructor <;> (repeat' split) <;> simp_all [apply_ite State.otp, apply_ite State.pending, apply_ite Prod.snd]

@[simp] theorem State.departPkt_keep (s : State) (x1 : _) :
    (State.departPkt s x1).otp = s.otp ∧ (State.departPkt s x1).pending = s.pending := by
  unfold State.departPkt
  constructor <;> simp [apply_ite State.otp, apply_ite State.pending, apply_ite Prod.snd]

@[simp] theorem State.dropPkt_keep (s : State) (x1 : _) :
    (State.dropPkt s x1).otp = s.otp ∧ (State.dropPkt s x1).pending = s.pending := by
  unfold State.dropPkt; constructor <;> (repeat' split) <;> simp_all [apply_ite State.otp, apply_ite State.pending, apply_ite Prod.snd]

@[simp] theorem State.unitsOff_keep (s : State) (x1 : _) :
    (State.unitsOff s x1).otp = s.otp ∧ (State.unitsOff s x1).pending = s.pending := by
  unfold State.unitsOff
  constructor <;> simp [apply_ite State.otp, apply_ite State.pending, apply_ite Prod.snd]

@[simp] theorem State.countDeq_keep (s : State) (x1 : _) (x2 : _) :
    (State.countDeq s x1 x2).otp = s.otp ∧ (State.countDeq s x1 x2).pending = s.pending := by
  unfold State.countDeq
  constructor <;> simp [apply_ite State.otp, apply_ite State.pending, apply_ite Prod.snd]

@[simp] theorem State.recWrite_keep (s : State) (x1 : _) (x2 : _) (x3 : _) :
    (State.recWrite s x1 x2 x3).2.otp = s.otp ∧ (State.recWrite s x1 x2 x3).2.pending = s.pending := by
  unfold State.recWrite
  constructor <;> simp [apply_ite State.otp, apply_ite State.pending, apply_ite Prod.snd]

@[simp] theorem State.inc1_keep (s : State) (x1 : _) :
    (State.inc1 s x1).otp = s.otp ∧ (State.inc1 s x1).pending = s.pending := by
  unfold State.inc1
  constructor <;> simp [apply_ite State.otp, apply_ite State.pending, apply_ite Prod.snd]

@[simp] theorem State.sampleRecord_keep (s : State) (x1 : _) :
    (State.sampleRecord s x1).otp = s.otp ∧ (State.sampleRecord s x1).pending = s.pending := by
  unfold State.sampleRecord
  simp only [apply_ite State.otp, apply_ite State.pending, apply_ite Prod.snd]
  constructor <;> repeat' (first
    | rfl
    | (simp; done)
    | intro _
    | (split <;> (try (simp only [Prod.ext_iff] at *; casesm* _ ∧ _; subst_vars)))
    | (simp_all [apply_ite State.otp, apply_ite State.pending, apply_ite Prod.snd]; done))

@[simp] theorem State.dequeueSample_keep (s : State) (x1 : _) (x2 : _) :
    (State.dequeueSample s x1 x2).otp = s.otp ∧ (State.dequeueSample s x1 x2).pending = s.pending := by
  unfold State.dequeueSample
  constructor <;> simp [apply_ite State.otp, apply_ite State.pending, apply_ite Prod.snd]

@[simp] theorem State.movePkt_keep (s : State) (x1 : _) (x2 : _) :
    (State.movePkt s x1 x2).otp = s.otp ∧ (State.movePkt s x1 x2).pending = s.pending := by
  unfold State.movePkt
  constructor <;> simp [apply_ite State.otp, apply_ite State.pending, apply_ite Prod.snd]

@[simp] theorem State.pgInc_keep (s : State) (x1 : _) (x2 : _) (x3 : _) :
    (State.pgInc s x1 x2 x3).otp = s.otp ∧ (State.pgInc s x1 x2 x3).pending = s.pending := by
  unfold State.pgInc
  constructor <;> simp [apply_ite State.otp, apply_ite State.pending, apply_ite Prod.snd]

@[simp] theorem State.wireOut_keep (s : State) (x1 : _) (x2 : _) :
    (State.wireOut s x1 x2).otp = s.otp ∧ (State.wireOut s x1 x2).pending = s.pending := by
  unfold State.wireOut
  constructor <;> simp [apply_ite State.otp, apply_ite State.pending, apply_ite Prod.snd]

@[simp] theorem State.updNetPort_keep (s : State) (x1 : _) (x2 : _) :
    (State.updNetPort s x1 x2).otp = s.otp ∧ (State.updNetPort s x1 x2).pending = s.pending := by
  unfold State.updNetPort
  constructor <;> simp [apply_ite State.otp, apply_ite State.pending, apply_ite Prod.snd]

@[simp] theorem State.pfcFlush_keep (s : State) (x1 : _) :
    (State.pfcFlush s x1).otp = s.otp ∧ (State.pfcFlush s x1).pending = s.pending := by
  unfold State.pfcFlush
  constructor <;> simp [apply_ite State.otp, apply_ite State.pending, apply_ite Prod.snd]

@[simp] theorem State.pfcSend_keep (s : State) (x1 : _) (x2 : _) (x3 : _) :
    (State.pfcSend s x1 x2 x3).otp = s.otp ∧ (State.pfcSend s x1 x2 x3).pending = s.pending := by
  unfold State.pfcSend
  constructor <;> simp [apply_ite State.otp, apply_ite State.pending, apply_ite Prod.snd]

@[simp] theorem State.pfcArm_keep (s : State) (x1 : _) (x2 : _) :
    (State.pfcArm s x1 x2).otp = s.otp ∧ (State.pfcArm s x1 x2).pending = s.pending := by
  unfold State.pfcArm
  constructor <;> simp [apply_ite State.otp, apply_ite State.pending, apply_ite Prod.snd]

@[simp] theorem State.pfcCheck_keep (s : State) (x1 : _) (x2 : _) :
    (State.pfcCheck s x1 x2).otp = s.otp ∧ (State.pfcCheck s x1 x2).pending = s.pending := by
  unfold State.pfcCheck
  constructor <;> simp [apply_ite State.otp, apply_ite State.pending, apply_ite Prod.snd]

@[simp] theorem State.fcCheck_keep (s : State) (x1 : _) :
    (State.fcCheck s x1).otp = s.otp ∧ (State.fcCheck s x1).pending = s.pending := by
  unfold State.fcCheck
  constructor <;> simp [apply_ite State.otp, apply_ite State.pending, apply_ite Prod.snd]

@[simp] theorem State.flowSweep_keep (s : State) :
    (State.flowSweep s).otp = s.otp ∧ (State.flowSweep s).pending = s.pending := by
  unfold State.flowSweep
  constructor <;> simp [apply_ite State.otp, apply_ite State.pending, apply_ite Prod.snd]

@[simp] theorem State.handoff_keep (s : State) (x1 : _) (x2 : _) :
    (State.handoff s x1 x2).otp = s.otp ∧ (State.handoff s x1 x2).pending = s.pending := by
  unfold State.handoff
  constructor <;> simp [apply_ite State.otp, apply_ite State.pending, apply_ite Prod.snd]

@[simp] theorem State.freeBytes_keep (n : _) (s : State) :
    (State.freeBytes n s).2.otp = s.otp ∧ (State.freeBytes n s).2.pending = s.pending := by
  induction n generalizing s with
  | zero => exact ⟨rfl, rfl⟩
  | succ n ih => exact ⟨(ih _).1.trans (State.freeVal_keep s).1, (ih _).2.trans (State.freeVal_keep s).2⟩

@[simp] theorem State.cellFcs_keep (s : State) (x1 : _) :
    (State.cellFcs s x1).2.otp = s.otp ∧ (State.cellFcs s x1).2.pending = s.pending := by
  unfold State.cellFcs
  constructor <;> simp [apply_ite State.otp, apply_ite State.pending, apply_ite Prod.snd]

@[simp] theorem State.setFab_keep (s : State) (x1 : _) :
    (State.setFab s x1).otp = s.otp ∧ (State.setFab s x1).pending = s.pending := by
  unfold State.setFab
  constructor <;> simp [apply_ite State.otp, apply_ite State.pending, apply_ite Prod.snd]

@[simp] theorem State.setStaged_keep (s : State) (x1 : _) (x2 : _) :
    (State.setStaged s x1 x2).otp = s.otp ∧ (State.setStaged s x1 x2).pending = s.pending := by
  unfold State.setStaged
  constructor <;> simp [apply_ite State.otp, apply_ite State.pending, apply_ite Prod.snd]

@[simp] theorem State.mcastSweep_keep (s : State) :
    (State.mcastSweep s).otp = s.otp ∧ (State.mcastSweep s).pending = s.pending := by
  unfold State.mcastSweep
  constructor <;> simp [apply_ite State.otp, apply_ite State.pending, apply_ite Prod.snd]

@[simp] theorem State.cutEnd_keep (s : State) (x1 : _) (x2 : _) :
    (State.cutEnd s x1 x2).otp = s.otp ∧ (State.cutEnd s x1 x2).pending = s.pending := by
  unfold State.cutEnd
  simp only [apply_ite State.otp, apply_ite State.pending, apply_ite Prod.snd]
  constructor <;> repeat' (first
    | rfl
    | (simp; done)
    | intro _
    | (split <;> (try (simp only [Prod.ext_iff] at *; casesm* _ ∧ _; subst_vars)))
    | (simp_all [apply_ite State.otp, apply_ite State.pending, apply_ite Prod.snd]; done))

@[simp] theorem State.cutOne_keep (s : State) (x1 : _) (x2 : _) :
    (State.cutOne s x1 x2).2.otp = s.otp ∧ (State.cutOne s x1 x2).2.pending = s.pending := by
  unfold State.cutOne
  dsimp only
  (repeat' split) <;> (try subst_vars) <;> simp_all [apply_ite State.otp, apply_ite State.pending, apply_ite Prod.snd]

@[simp] theorem State.startReads_keep (s : State) (x1 : _) :
    (State.startReads s x1).otp = s.otp ∧ (State.startReads s x1).pending = s.pending := by
  unfold State.startReads
  constructor <;> simp [apply_ite State.otp, apply_ite State.pending, apply_ite Prod.snd]

@[simp] theorem State.cutStart_keep (s : State) (x1 : _) (x2 : _) :
    (State.cutStart s x1 x2).otp = s.otp ∧ (State.cutStart s x1 x2).pending = s.pending := by
  unfold State.cutStart
  constructor <;> simp [apply_ite State.otp, apply_ite State.pending, apply_ite Prod.snd]

@[simp] theorem State.cutStream_keep (n : _) (s : State) (x : _) :
    (State.cutStream n s x).otp = s.otp ∧ (State.cutStream n s x).pending = s.pending := by
  induction n generalizing s with
  | zero => exact ⟨rfl, rfl⟩
  | succ n ih =>
    simp only [State.cutStream]
    repeat' split
    · exact ⟨rfl, rfl⟩
    · next p _ _ _ s' h => have := State.cutOne_keep s p x; simp_all
    · next p _ _ _ s' h => have := State.cutOne_keep s p x; simp_all
    · exact ⟨rfl, rfl⟩
    · simp [ih]
    · exact ⟨rfl, rfl⟩

@[simp] theorem State.cutAll_keep (s : State) :
    (State.cutAll s).otp = s.otp ∧ (State.cutAll s).pending = s.pending := by
  unfold State.cutAll
  constructor <;> simp [apply_ite State.otp, apply_ite State.pending, apply_ite Prod.snd]

@[simp] theorem State.accessGood_keep (s : State) (x1 : _) :
    (State.accessGood s x1).otp = s.otp ∧ (State.accessGood s x1).pending = s.pending := by
  unfold State.accessGood
  simp only [apply_ite State.otp, apply_ite State.pending, apply_ite Prod.snd]
  constructor <;> repeat' (first
    | rfl
    | (simp; done)
    | intro _
    | (split <;> (try (simp only [Prod.ext_iff] at *; casesm* _ ∧ _; subst_vars)))
    | (simp_all [apply_ite State.otp, apply_ite State.pending, apply_ite Prod.snd]; done))

@[simp] theorem State.lostHeads_keep (n q : _) (s : State) :
    (State.lostHeads n q s).otp = s.otp ∧ (State.lostHeads n q s).pending = s.pending := by
  induction n generalizing s with
  | zero => exact ⟨rfl, rfl⟩
  | succ n ih =>
    simp only [State.lostHeads]
    (repeat' split) <;> simp [ih]

@[simp] theorem State.lostSweep_keep (s : State) (x1 : _) :
    (State.lostSweep s x1).otp = s.otp ∧ (State.lostSweep s x1).pending = s.pending := by
  unfold State.lostSweep
  constructor <;> simp [apply_ite State.otp, apply_ite State.pending, apply_ite Prod.snd]

@[simp] theorem State.accessError_keep (s : State) (x1 : _) :
    (State.accessError s x1).otp = s.otp ∧ (State.accessError s x1).pending = s.pending := by
  unfold State.accessError
  constructor <;> repeat' (first
    | rfl
    | (simp [apply_ite State.otp, apply_ite State.pending, apply_ite Prod.snd]; done)
    | intro _
    | (split <;> (try (simp only [Prod.ext_iff] at *; casesm* _ ∧ _; subst_vars)))
    | (simp_all [apply_ite State.otp, apply_ite State.pending, apply_ite Prod.snd]; done))

@[simp] theorem State.accessComplete_keep (s : State) (x1 : _) (x2 : _) (x3 : _) :
    (State.accessComplete s x1 x2 x3).otp = s.otp ∧ (State.accessComplete s x1 x2 x3).pending = s.pending := by
  unfold State.accessComplete
  simp only [apply_ite State.otp, apply_ite State.pending, apply_ite Prod.snd]
  constructor <;> repeat' (first
    | rfl
    | (simp; done)
    | intro _
    | (split <;> (try (simp only [Prod.ext_iff] at *; casesm* _ ∧ _; subst_vars)))
    | (simp_all [apply_ite State.otp, apply_ite State.pending, apply_ite Prod.snd]; done))

@[simp] theorem State.tailUnits_keep (s : State) :
    (State.tailUnits s).otp = s.otp ∧ (State.tailUnits s).pending = s.pending := by
  unfold State.tailUnits
  constructor <;> repeat' (first
    | rfl
    | (simp [apply_ite State.otp, apply_ite State.pending, apply_ite Prod.snd]; done)
    | (refine (foldl_otp _ _ _ (fun s a => ?_)).trans ?_)
    | (refine (foldl_pending _ _ _ (fun s a => ?_)).trans ?_)
    | (refine (foldl_otp2 _ _ _ (fun s a => ?_)).trans ?_)
    | (refine (foldl_pending2 _ _ _ (fun s a => ?_)).trans ?_)
    | split
    | (simp_all [apply_ite State.otp, apply_ite State.pending, apply_ite Prod.snd]; done)
    | dsimp only)

@[simp] theorem State.mapFamily_keep (s : State) (x1 : _) (x2 : _) :
    (State.mapFamily s x1 x2).otp = s.otp ∧ (State.mapFamily s x1 x2).pending = s.pending := by
  unfold State.mapFamily
  constructor <;> simp [apply_ite State.otp, apply_ite State.pending, apply_ite Prod.snd]

@[simp] theorem State.rasBad_keep (s : State) (x1 : _) :
    (State.rasBad s x1).otp = s.otp ∧ (State.rasBad s x1).pending = s.pending := by
  unfold State.rasBad
  constructor <;> simp [apply_ite State.otp, apply_ite State.pending, apply_ite Prod.snd]

@[simp] theorem State.ownEnd_keep (s : State) (x1 : _) :
    (State.ownEnd s x1).otp = s.otp ∧ (State.ownEnd s x1).pending = s.pending := by
  unfold State.ownEnd; constructor <;> (repeat' split) <;> simp_all [apply_ite State.otp, apply_ite State.pending, apply_ite Prod.snd]

@[simp] theorem State.ownOver_keep (s : State) (x1 : _) (x2 : _) (x3 : _) (x4 : _) :
    (State.ownOver s x1 x2 x3 x4).otp = s.otp ∧ (State.ownOver s x1 x2 x3 x4).pending = s.pending := by
  unfold State.ownOver
  constructor <;> simp [apply_ite State.otp, apply_ite State.pending, apply_ite Prod.snd]

@[simp] theorem State.recDrop_keep (s : State) (x1 : _) :
    (State.recDrop s x1).otp = s.otp ∧ (State.recDrop s x1).pending = s.pending := by
  unfold State.recDrop
  constructor <;> simp [apply_ite State.otp, apply_ite State.pending, apply_ite Prod.snd]

@[simp] theorem State.staleBranch_keep (s : State) (x1 : _) (x2 : _) :
    (State.staleBranch s x1 x2).otp = s.otp ∧ (State.staleBranch s x1 x2).pending = s.pending := by
  unfold State.staleBranch
  constructor <;> simp [apply_ite State.otp, apply_ite State.pending, apply_ite Prod.snd]

@[simp] theorem State.ddrTake_keep (s : State) (x1 : _) :
    (State.ddrTake s x1).2.otp = s.otp ∧ (State.ddrTake s x1).2.pending = s.pending := by
  unfold State.ddrTake
  constructor <;> simp [apply_ite State.otp, apply_ite State.pending, apply_ite Prod.snd]

@[simp] theorem State.ddrWrites_keep (s : State) (x1 : _) (x2 : _) :
    (State.ddrWrites s x1 x2).otp = s.otp ∧ (State.ddrWrites s x1 x2).pending = s.pending := by
  unfold State.ddrWrites
  constructor <;> simp [apply_ite State.otp, apply_ite State.pending, apply_ite Prod.snd]

@[simp] theorem State.place_keep (s : State) (x1 : _) (x2 : _) (x3 : _) (x4 : _) (x5 : _) :
    (State.place s x1 x2 x3 x4 x5).2.otp = s.otp ∧ (State.place s x1 x2 x3 x4 x5).2.pending = s.pending := by
  unfold State.place
  constructor <;> simp [apply_ite State.otp, apply_ite State.pending, apply_ite Prod.snd]

@[simp] theorem State.expShort_keep (s : State) (x1 : _) :
    (State.expShort s x1).otp = s.otp ∧ (State.expShort s x1).pending = s.pending := by
  unfold State.expShort
  constructor <;> simp [apply_ite State.otp, apply_ite State.pending, apply_ite Prod.snd]

@[simp] theorem State.workEnds_keep (s : State) (x1 : _) :
    (State.workEnds s x1).otp = s.otp ∧ (State.workEnds s x1).pending = s.pending := by
  unfold State.workEnds
  constructor <;> simp [apply_ite State.otp, apply_ite State.pending, apply_ite Prod.snd]

@[simp] theorem State.flowIn_keep (s : State) (x1 : _) (x2 : _) :
    (State.flowIn s x1 x2).otp = s.otp ∧ (State.flowIn s x1 x2).pending = s.pending := by
  unfold State.flowIn
  constructor <;> simp [apply_ite State.otp, apply_ite State.pending, apply_ite Prod.snd]

@[simp] theorem State.orphanCheck_keep (s : State) (x1 : _) :
    (State.orphanCheck s x1).otp = s.otp ∧ (State.orphanCheck s x1).pending = s.pending := by
  unfold State.orphanCheck
  constructor <;> simp [apply_ite State.otp, apply_ite State.pending, apply_ite Prod.snd]

@[simp] theorem State.enqueue_keep (s : State) (x1 : _) (x2 : _) :
    (State.enqueue s x1 x2).2.otp = s.otp ∧ (State.enqueue s x1 x2).2.pending = s.pending := by
  unfold State.enqueue
  simp only [apply_ite State.otp, apply_ite State.pending, apply_ite Prod.snd]
  constructor <;> repeat' (first
    | rfl
    | (simp; done)
    | intro _
    | (split <;> (try (simp only [Prod.ext_iff] at *; casesm* _ ∧ _; subst_vars)))
    | (simp_all [apply_ite State.otp, apply_ite State.pending, apply_ite Prod.snd]; done))

@[simp] theorem State.stampCount_keep (s : State) (x1 : _) :
    (State.stampCount s x1).otp = s.otp ∧ (State.stampCount s x1).pending = s.pending := by
  unfold State.stampCount
  constructor <;> simp [apply_ite State.otp, apply_ite State.pending, apply_ite Prod.snd]

@[simp] theorem State.newPkt_keep (s : State) (x1 : _) :
    (State.newPkt s x1).2.otp = s.otp ∧ (State.newPkt s x1).2.pending = s.pending := by
  unfold State.newPkt
  constructor <;> simp [apply_ite State.otp, apply_ite State.pending, apply_ite Prod.snd]

@[simp] theorem State.copyPkt_keep (s : State) (x1 : _) (x2 : _) (x3 : _) :
    (State.copyPkt s x1 x2 x3).2.otp = s.otp ∧ (State.copyPkt s x1 x2 x3).2.pending = s.pending := by
  unfold State.copyPkt
  constructor <;> simp [apply_ite State.otp, apply_ite State.pending, apply_ite Prod.snd]

@[simp] theorem State.egrCopy_keep (s : State) (x1 : _) (x2 : _) (x3 : _) (x4 : _) :
    (State.egrCopy s x1 x2 x3 x4).otp = s.otp ∧ (State.egrCopy s x1 x2 x3 x4).pending = s.pending := by
  unfold State.egrCopy
  constructor <;> repeat' (first
    | rfl
    | (simp [apply_ite State.otp, apply_ite State.pending, apply_ite Prod.snd]; done)
    | intro _
    | (split <;> (try (simp only [Prod.ext_iff] at *; casesm* _ ∧ _; subst_vars)))
    | (simp_all [apply_ite State.otp, apply_ite State.pending, apply_ite Prod.snd]; done))

@[simp] theorem State.egrHold_keep (s : State) (x1 : _) :
    (State.egrHold s x1).otp = s.otp ∧ (State.egrHold s x1).pending = s.pending := by
  unfold State.egrHold
  constructor <;> repeat' (first
    | rfl
    | (simp [apply_ite State.otp, apply_ite State.pending, apply_ite Prod.snd]; done)
    | intro _
    | (split <;> (try (simp only [Prod.ext_iff] at *; casesm* _ ∧ _; subst_vars)))
    | (simp_all [apply_ite State.otp, apply_ite State.pending, apply_ite Prod.snd]; done))

@[simp] theorem State.residueJoin_keep (s : State) (x1 : _) :
    (State.residueJoin s x1).otp = s.otp ∧ (State.residueJoin s x1).pending = s.pending := by
  unfold State.residueJoin
  constructor <;> simp [apply_ite State.otp, apply_ite State.pending, apply_ite Prod.snd]

@[simp] theorem State.egrWait_keep (s : State) (x1 : _) (x2 : _) :
    (State.egrWait s x1 x2).otp = s.otp ∧ (State.egrWait s x1 x2).pending = s.pending := by
  unfold State.egrWait
  constructor <;> simp [apply_ite State.otp, apply_ite State.pending, apply_ite Prod.snd]

@[simp] theorem State.egrBranch_keep (s : State) (x1 : _) (x2 : _) :
    (State.egrBranch s x1 x2).otp = s.otp ∧ (State.egrBranch s x1 x2).pending = s.pending := by
  change State.KeepBy id s (State.egrBranch s x1 x2)
  unfold State.egrBranch
  repeat' (first
    | with_reducible exact State.keep_refl
    | (intro t
       have ht : State.KeepBy id s t := by
         simp only [t]
         constructor <;> simp only [id] <;> first
           | (simp [*, apply_ite State.otp, apply_ite State.pending, apply_ite Prod.snd]; done)
           | (split <;> simp [*, apply_ite State.otp, apply_ite State.pending, apply_ite Prod.snd]; done)
           | (simp [*, apply_ite State.otp, apply_ite State.pending, apply_ite Prod.snd]; split <;> simp [*, apply_ite State.otp, apply_ite State.pending, apply_ite Prod.snd]; done)
       clear_value t
       have ht1 : t.otp = s.otp := ht.1
       have ht2 : t.pending = s.pending := ht.2
       clear ht)
    | (intro x; clear_value x)
    | intro _
    | lift_lets
    | (show State.KeepBy _ _ _; split)
    | (show State.KeepBy _ _ _
       constructor <;> simp only [id] <;> first
           | (simp [*, apply_ite State.otp, apply_ite State.pending, apply_ite Prod.snd]; done)
           | (split <;> simp [*, apply_ite State.otp, apply_ite State.pending, apply_ite Prod.snd]; done)
           | (simp [*, apply_ite State.otp, apply_ite State.pending, apply_ite Prod.snd]; split <;> simp [*, apply_ite State.otp, apply_ite State.pending, apply_ite Prod.snd]; done)))

@[simp] theorem State.egrWalk_keep (n : _) (s : State) (x y : _) :
    (State.egrWalk n s x y).otp = s.otp ∧ (State.egrWalk n s x y).pending = s.pending := by
  induction n generalizing s y with
  | zero => exact ⟨rfl, rfl⟩
  | succ n ih => simp only [State.egrWalk]; (repeat' split) <;> simp [ih]

@[simp] theorem State.egrReplicate_keep (s : State) (x1 : _) :
    (State.egrReplicate s x1).otp = s.otp ∧ (State.egrReplicate s x1).pending = s.pending := by
  unfold State.egrReplicate
  constructor <;> simp [apply_ite State.otp, apply_ite State.pending, apply_ite Prod.snd]

@[simp] theorem State.flushLater_keep (s : State) (x1 : _) :
    (State.flushLater s x1).otp = s.otp ∧ (State.flushLater s x1).pending = s.pending := by
  unfold State.flushLater
  constructor <;> simp [apply_ite State.otp, apply_ite State.pending, apply_ite Prod.snd]

@[simp] theorem State.admitRefuse_keep (s : State) (x1 : _) (x2 : _) (x3 : _) (x4 : _) :
    (State.admitRefuse s x1 x2 x3 x4).otp = s.otp ∧ (State.admitRefuse s x1 x2 x3 x4).pending = s.pending := by
  unfold State.admitRefuse; constructor <;> (repeat' split) <;> simp_all [apply_ite State.otp, apply_ite State.pending, apply_ite Prod.snd]

@[simp] theorem State.admitTo_keep (s : State) (p h e : _) :
    (State.admitTo s p h e).otp = s.otp ∧ (State.admitTo s p h e).pending = s.pending := by
  unfold State.admitTo
  dsimp only
  split
  · simp
  split
  · split <;> simp
  · next q _ =>
    split
    · next hq =>
      have := State.enqueue_keep (s.putPkt { p with egr := e }) { p with egr := e } q
      rw [hq] at this; simpa using this
    · next hq =>
      have := State.enqueue_keep (s.putPkt { p with egr := e }) { p with egr := e } q
      rw [hq] at this; simpa using this

@[simp] theorem State.rasRoute_keep (s : State) (x1 : _) :
    (State.rasRoute s x1).otp = s.otp ∧ (State.rasRoute s x1).pending = s.pending := by
  unfold State.rasRoute
  constructor <;> simp [apply_ite State.otp, apply_ite State.pending, apply_ite Prod.snd]

@[simp] theorem State.rasOpen_keep (s : State) (x1 : _) :
    (State.rasOpen s x1).2.otp = s.otp ∧ (State.rasOpen s x1).2.pending = s.pending := by
  unfold State.rasOpen; constructor <;> (repeat' split) <;> simp_all [apply_ite State.otp, apply_ite State.pending, apply_ite Prod.snd]

@[simp] theorem State.reassemble_keep (s : State) (x1 : _) :
    (State.reassemble s x1).otp = s.otp ∧ (State.reassemble s x1).pending = s.pending := by
  unfold State.reassemble
  simp only [apply_ite State.otp, apply_ite State.pending, apply_ite Prod.snd]
  constructor <;> repeat' (first
    | rfl
    | (simp; done)
    | intro _
    | (split <;> (try (simp only [Prod.ext_iff] at *; casesm* _ ∧ _; subst_vars)))
    | (simp_all [apply_ite State.otp, apply_ite State.pending, apply_ite Prod.snd]; done))

@[simp] theorem State.gapTimer_keep (s : State) (x1 : _) :
    (State.gapTimer s x1).otp = s.otp ∧ (State.gapTimer s x1).pending = s.pending := by
  unfold State.gapTimer
  constructor <;> simp [apply_ite State.otp, apply_ite State.pending, apply_ite Prod.snd]

@[simp] theorem State.setCtx_keep (s : State) (x1 : _) (x2 : _) :
    (State.setCtx s x1 x2).otp = s.otp ∧ (State.setCtx s x1 x2).pending = s.pending := by
  unfold State.setCtx
  constructor <;> simp [apply_ite State.otp, apply_ite State.pending, apply_ite Prod.snd]

@[simp] theorem State.releaseRun_keep (n : _) (s : State) (x : _) :
    (State.releaseRun n s x).otp = s.otp ∧ (State.releaseRun n s x).pending = s.pending := by
  induction n generalizing s with
  | zero => exact ⟨rfl, rfl⟩
  | succ n ih => simp only [State.releaseRun]; (repeat' split) <;> simp [ih]

@[simp] theorem State.dropLate_keep (s : State) (k : _) :
    (State.dropLate s k).otp = s.otp ∧ (State.dropLate s k).pending = s.pending := by
  unfold State.dropLate
  extract_lets r
  split
  · exact ⟨rfl, rfl⟩
  · dsimp only
    constructor
    · rw [foldl_otp]
      · simp
      · intro s a; split <;> simp
    · rw [foldl_pending]
      · simp
      · intro s a; split <;> simp

@[simp] theorem State.declareLost_keep (s : State) (x1 : _) (x2 : _) :
    (State.declareLost s x1 x2).otp = s.otp ∧ (State.declareLost s x1 x2).pending = s.pending := by
  unfold State.declareLost
  constructor <;> simp [apply_ite State.otp, apply_ite State.pending, apply_ite Prod.snd]

@[simp] theorem State.gapOver_keep (n : _) (s : State) (x : _) :
    (State.gapOver n s x).otp = s.otp ∧ (State.gapOver n s x).pending = s.pending := by
  induction n generalizing s with
  | zero => exact ⟨rfl, rfl⟩
  | succ n ih =>
    apply State.keep_of
    unfold State.gapOver
    extract_lets +onlyGivenNames s0 r
    have h0 : s0.otp = s.otp ∧ s0.pending = s.pending := by simp [s0]
    clear_value s0
    split
    · exact h0
    extract_lets +onlyGivenNames base lo lost a
    have h1 : a.otp = s.otp ∧ a.pending = s.pending := by simp only [a]; split <;> simp [h0]
    clear_value a
    extract_lets +onlyGivenNames b c r'
    have h2 : c.otp = s.otp ∧ c.pending = s.pending := by simp [c, b, h1]
    clear_value c
    split
    · exact h2
    · exact State.keep_to ⟨(ih _).1.trans h2.1, (ih _).2.trans h2.2⟩

@[simp] theorem State.forcedSkip_keep (s : State) (x1 : _) :
    (State.forcedSkip s x1).otp = s.otp ∧ (State.forcedSkip s x1).pending = s.pending := by
  unfold State.forcedSkip
  simp only [apply_ite State.otp, apply_ite State.pending, apply_ite Prod.snd]
  constructor <;> repeat' (first
    | rfl
    | (simp; done)
    | intro _
    | (split <;> (try (simp only [Prod.ext_iff] at *; casesm* _ ∧ _; subst_vars)))
    | (simp_all [apply_ite State.otp, apply_ite State.pending, apply_ite Prod.snd]; done))

@[simp] theorem State.reordArrive_keep (s : State) (x1 : _) :
    (State.reordArrive s x1).otp = s.otp ∧ (State.reordArrive s x1).pending = s.pending := by
  unfold State.reordArrive
  simp only [apply_ite State.otp, apply_ite State.pending, apply_ite Prod.snd]
  constructor <;> repeat' (first
    | rfl
    | (simp; done)
    | intro _
    | (split <;> (try (simp only [Prod.ext_iff] at *; casesm* _ ∧ _; subst_vars)))
    | (simp_all [apply_ite State.otp, apply_ite State.pending, apply_ite Prod.snd]; done))

@[simp] theorem State.coreOut_keep (s : State) (x1 : _) :
    (State.coreOut s x1).otp = s.otp ∧ (State.coreOut s x1).pending = s.pending := by
  unfold State.coreOut
  simp only [apply_ite State.otp, apply_ite State.pending, apply_ite Prod.snd]
  constructor <;> repeat' (first
    | rfl
    | (simp; done)
    | intro _
    | (split <;> (try (simp only [Prod.ext_iff] at *; casesm* _ ∧ _; subst_vars)))
    | (simp_all [apply_ite State.otp, apply_ite State.pending, apply_ite Prod.snd]; done))

@[simp] theorem State.flSat_keep (s : State) (x1 : _) (x2 : _) (x3 : _) :
    (State.flSat s x1 x2 x3).otp = s.otp ∧ (State.flSat s x1 x2 x3).pending = s.pending := by
  unfold State.flSat
  constructor <;> simp [apply_ite State.otp, apply_ite State.pending, apply_ite Prod.snd]

@[simp] theorem State.flInc_keep (s : State) (x1 : _) (x2 : _) (x3 : _) :
    (State.flInc s x1 x2 x3).otp = s.otp ∧ (State.flInc s x1 x2 x3).pending = s.pending := by
  unfold State.flInc
  constructor <;> simp [apply_ite State.otp, apply_ite State.pending, apply_ite Prod.snd]

@[simp] theorem State.doldDrop_keep (s : State) (x1 : _) :
    (State.doldDrop s x1).otp = s.otp ∧ (State.doldDrop s x1).pending = s.pending := by
  unfold State.doldDrop
  constructor <;> simp [apply_ite State.otp, apply_ite State.pending, apply_ite Prod.snd]

@[simp] theorem State.cellRx_keep (s : State) (x1 : _) (x2 : _) (x3 : _) (x4 : _) :
    (State.cellRx s x1 x2 x3 x4).otp = s.otp ∧ (State.cellRx s x1 x2 x3 x4).pending = s.pending := by
  unfold State.cellRx
  constructor <;> simp [apply_ite State.otp, apply_ite State.pending, apply_ite Prod.snd]

@[simp] theorem State.accessErr_keep (s : State) (x1 : _) (x2 : _) (x3 : _) (x4 : _) :
    (State.accessErr s x1 x2 x3 x4).otp = s.otp ∧ (State.accessErr s x1 x2 x3 x4).pending = s.pending := by
  unfold State.accessErr
  constructor <;> simp [apply_ite State.otp, apply_ite State.pending, apply_ite Prod.snd]

@[simp] theorem State.injTailWrite_keep (s : State) (x1 : _) (x2 : _) (x3 : _) :
    (State.injTailWrite s x1 x2 x3).otp = s.otp ∧ (State.injTailWrite s x1 x2 x3).pending = s.pending := by
  unfold State.injTailWrite
  constructor <;> simp [apply_ite State.otp, apply_ite State.pending, apply_ite Prod.snd]

@[simp] theorem State.loaderPhase_keep (s : State) (x1 : _) :
    (State.loaderPhase s x1).otp = s.otp ∧ (State.loaderPhase s x1).pending = s.pending := by
  unfold State.loaderPhase
  constructor <;> simp [apply_ite State.otp, apply_ite State.pending, apply_ite Prod.snd]

@[simp] theorem State.loadFail_keep (s : State) (x1 : _) :
    (State.loadFail s x1).otp = s.otp ∧ (State.loadFail s x1).pending = s.pending := by
  unfold State.loadFail
  constructor <;> simp [apply_ite State.otp, apply_ite State.pending, apply_ite Prod.snd]

@[simp] theorem State.setEpochState_keep (s : State) (x1 : _) :
    (State.setEpochState s x1).otp = s.otp ∧ (State.setEpochState s x1).pending = s.pending := by
  unfold State.setEpochState
  constructor <;> simp [apply_ite State.otp, apply_ite State.pending, apply_ite Prod.snd]

end Sys2Proof.Machine
end

