-- ==== Sys2Proof/Laws/Keep2.lean ====
section
/-! SUPPORT. Frame laws of the shared operations, part 2 of 6: no operation writes the one-time-programmable array (but
`State.burn` and what calls it) and none touches the queue of waiting commands. An operation that answers a state has a
law `…_keep`; one that may answer nothing has a law `…_some` about the state it answers. -/

namespace Sys2Proof.Machine

set_option linter.unusedSimpArgs false
set_option linter.unusedTactic false
set_option linter.unreachableTactic false
set_option linter.unusedVariables false

@[simp] theorem State.setBank_keep (s : State) (x1 : _) (x2 : _) :
    (State.setBank s x1 x2).otp = s.otp ∧ (State.setBank s x1 x2).pending = s.pending := by
  unfold State.setBank
  constructor <;> simp [apply_ite State.otp, apply_ite State.pending, apply_ite Prod.snd]

@[simp] theorem State.markWord_keep (s : State) (x1 : _) (x2 : _) (x3 : _) (x4 : _) (x5 : _) :
    (State.markWord s x1 x2 x3 x4 x5).otp = s.otp ∧ (State.markWord s x1 x2 x3 x4 x5).pending = s.pending := by
  unfold State.markWord
  constructor <;> simp [apply_ite State.otp, apply_ite State.pending, apply_ite Prod.snd]

@[simp] theorem State.writeLine_keep (s : State) (x1 : _) (x2 : _) (x3 : _) (x4 : _) (x5 : _) (x6 : _) :
    (State.writeLine s x1 x2 x3 x4 x5 x6).otp = s.otp ∧ (State.writeLine s x1 x2 x3 x4 x5 x6).pending = s.pending := by
  unfold State.writeLine
  constructor <;> simp [apply_ite State.otp, apply_ite State.pending, apply_ite Prod.snd]

@[simp] theorem State.writeEntry_keep (s : State) (t r l v : _) :
    (State.writeEntry s t r l v).otp = s.otp ∧ (State.writeEntry s t r l v).pending = s.pending := by
  have h (l : List (Nat × Nat × Nat × Nat)) (a : State × Nat) : (l.foldl (fun (a : State × Nat) (c, ln, lo, n) =>
      (a.1.writeLine t.dir c ln lo n (a.2 % 2 ^ n), a.2 / 2 ^ n)) a).1.otp = a.1.otp ∧ (l.foldl (fun (a : State × Nat) (c, ln, lo, n) =>
      (a.1.writeLine t.dir c ln lo n (a.2 % 2 ^ n), a.2 / 2 ^ n)) a).1.pending = a.1.pending := by
    induction l generalizing a with
    | nil => exact ⟨rfl, rfl⟩
    | cons b l ih => simp [ih]
  exact h _ _

@[simp] theorem State.visUndefined_keep (s : State) (x k : _) :
    (State.visUndefined s x k).otp = s.otp ∧ (State.visUndefined s x k).pending = s.pending := by
  unfold State.visUndefined
  constructor
  · refine foldl_otp _ _ _ (fun s a => ?_)
    split <;> simp [State.freeVal]
  · refine foldl_pending _ _ _ (fun s a => ?_)
    split <;> simp [State.freeVal]

@[simp] theorem State.wfBank_keep (s : State) (x1 : _) (x2 : _) (x3 : _) (x4 : _) :
    (State.wfBank s x1 x2 x3 x4).otp = s.otp ∧ (State.wfBank s x1 x2 x3 x4).pending = s.pending := by
  unfold State.wfBank
  constructor <;> simp [apply_ite State.otp, apply_ite State.pending, apply_ite Prod.snd]

@[simp] theorem State.stagedUndefined_keep (s : State) :
    (State.stagedUndefined s).otp = s.otp ∧ (State.stagedUndefined s).pending = s.pending := by
  unfold State.stagedUndefined
  constructor <;> simp [apply_ite State.otp, apply_ite State.pending, apply_ite Prod.snd]

@[simp] theorem State.stageFailed_keep (s : State) (x1 : _) (x2 : _) :
    (State.stageFailed s x1 x2).otp = s.otp ∧ (State.stageFailed s x1 x2).pending = s.pending := by
  unfold State.stageFailed
  constructor <;> simp [apply_ite State.otp, apply_ite State.pending, apply_ite Prod.snd]

@[simp] theorem State.stageOver_keep (s : State) :
    (State.stageOver s).otp = s.otp ∧ (State.stageOver s).pending = s.pending := by
  unfold State.stageOver
  constructor <;> simp [apply_ite State.otp, apply_ite State.pending, apply_ite Prod.snd]

@[simp] theorem State.countRehash_keep (s : State) (x1 : _) :
    (State.countRehash s x1).otp = s.otp ∧ (State.countRehash s x1).pending = s.pending := by
  unfold State.countRehash
  constructor <;> simp [apply_ite State.otp, apply_ite State.pending, apply_ite Prod.snd]

@[simp] theorem State.updCmd_keep (s : State) (x1 : _) (x2 : _) :
    (State.updCmd s x1 x2).otp = s.otp ∧ (State.updCmd s x1 x2).pending = s.pending := by
  unfold State.updCmd
  constructor <;> simp [apply_ite State.otp, apply_ite State.pending, apply_ite Prod.snd]

@[simp] theorem State.dropCmd_keep (s : State) (x1 : _) :
    (State.dropCmd s x1).otp = s.otp ∧ (State.dropCmd s x1).pending = s.pending := by
  unfold State.dropCmd
  constructor <;> simp [apply_ite State.otp, apply_ite State.pending, apply_ite Prod.snd]

@[simp] theorem State.postAll_keep (s : State) (x : _) (l : _) :
    (State.postAll s x l).2.otp = s.otp ∧ (State.postAll s x l).2.pending = s.pending := by
  induction l generalizing s with
  | nil => exact ⟨rfl, rfl⟩
  | cons a l ih =>
    have := State.post_keep s x a.1 a.2
    simp only [State.postAll]
    split <;> simp_all

@[simp] theorem State.finish_keep (s : State) (x1 : _) (x2 : _) (x3 : _) (x4 : _) (x5 : _) :
    (State.finish s x1 x2 x3 x4 x5).otp = s.otp ∧ (State.finish s x1 x2 x3 x4 x5).pending = s.pending := by
  unfold State.finish
  constructor <;> repeat' (first
    | rfl
    | (simp [apply_ite State.otp, apply_ite State.pending, apply_ite Prod.snd]; done)
    | intro _
    | (split <;> (try (simp only [Prod.ext_iff] at *; casesm* _ ∧ _; subst_vars)))
    | (simp_all [apply_ite State.otp, apply_ite State.pending, apply_ite Prod.snd]; done))

@[simp] theorem State.finishR_keep (s : State) (x1 : _) (x2 : _) (x3 : _) (x4 : _) :
    (State.finishR s x1 x2 x3 x4).otp = s.otp ∧ (State.finishR s x1 x2 x3 x4).pending = s.pending := by
  unfold State.finishR
  constructor <;> simp [apply_ite State.otp, apply_ite State.pending, apply_ite Prod.snd]

@[simp] theorem State.stageFull_keep (s : State) (x1 : _) (x2 : _) :
    (State.stageFull s x1 x2).otp = s.otp ∧ (State.stageFull s x1 x2).pending = s.pending := by
  unfold State.stageFull
  constructor <;> simp [apply_ite State.otp, apply_ite State.pending, apply_ite Prod.snd]

@[simp] theorem State.setRound_keep (s : State) (x1 : _) (x2 : _) (x3 : _) :
    (State.setRound s x1 x2 x3).otp = s.otp ∧ (State.setRound s x1 x2 x3).pending = s.pending := by
  unfold State.setRound
  constructor <;> simp [apply_ite State.otp, apply_ite State.pending, apply_ite Prod.snd]

@[simp] theorem State.setDeficit_keep (s : State) (x1 : _) (x2 : _) :
    (State.setDeficit s x1 x2).otp = s.otp ∧ (State.setDeficit s x1 x2).pending = s.pending := by
  unfold State.setDeficit
  constructor <;> simp [apply_ite State.otp, apply_ite State.pending, apply_ite Prod.snd]

@[simp] theorem State.syncRound_keep (s : State) (x1 : _) (x2 : _) (x3 : _) :
    (State.syncRound s x1 x2 x3).otp = s.otp ∧ (State.syncRound s x1 x2 x3).pending = s.pending := by
  unfold State.syncRound
  constructor <;> simp [apply_ite State.otp, apply_ite State.pending, apply_ite Prod.snd]

@[simp] theorem State.followWork_keep (s : State) (x1 : _) (x2 : _) :
    (State.followWork s x1 x2).otp = s.otp ∧ (State.followWork s x1 x2).pending = s.pending := by
  unfold State.followWork
  constructor <;> simp [apply_ite State.otp, apply_ite State.pending, apply_ite Prod.snd]

@[simp] theorem State.syncRounds_keep (s : State) (x1 : _) (x2 : _) :
    (State.syncRounds s x1 x2).otp = s.otp ∧ (State.syncRounds s x1 x2).pending = s.pending := by
  unfold State.syncRounds
  constructor <;> simp [apply_ite State.otp, apply_ite State.pending, apply_ite Prod.snd]

@[simp] theorem State.voqSync_keep (s : State) :
    (State.voqSync s).otp = s.otp ∧ (State.voqSync s).pending = s.pending := by
  unfold State.voqSync
  constructor <;> simp [apply_ite State.otp, apply_ite State.pending, apply_ite Prod.snd]

@[simp] theorem State.dwrr_keep (n : _) (s : State) (x y z : _) :
    (State.dwrr n s x y z).2.otp = s.otp ∧ (State.dwrr n s x y z).2.pending = s.pending := by
  induction n generalizing s with
  | zero => exact ⟨rfl, rfl⟩
  | succ n ih => simp only [State.dwrr]; (repeat' split) <;> simp [ih]

@[simp] theorem State.selectFrom_keep (w : _) (e : _) (n : _) (s : State) (x y : _) :
    (State.selectFrom w e n s x y).2.otp = s.otp ∧ (State.selectFrom w e n s x y).2.pending = s.pending := by
  induction n generalizing s x y e with
  | zero => exact ⟨rfl, rfl⟩
  | succ n ih =>
    apply State.keep_snd
    unfold State.selectFrom
    extract_lets +onlyGivenNames l xs fin
    have hf (t : State) (k : Nat) (b : Bool) : (fin t k b).2.otp = t.otp ∧ (fin t k b).2.pending = t.pending := by
      simp only [fin]
      split
      · exact ⟨rfl, rfl⟩
      · exact ih _ _ _ _
    clear_value fin xs l
    split
    · exact hf _ _ _
    · extract_lets +onlyGivenNames ns
      split
      · exact ⟨rfl, rfl⟩
      · next p _ =>
        extract_lets +onlyGivenNames ps
        have hd := State.dwrr_keep (16100 * (ps.length + 1)) s x p ps
        clear_value ps ns
        split
        · next h => rw [h] at hd; exact hd
        · next k u h => rw [h] at hd; exact ⟨(hf _ _ _).1.trans hd.1, (hf _ _ _).2.trans hd.2⟩

@[simp] theorem State.setShaper_keep (s : State) (x1 : _) (x2 : _) :
    (State.setShaper s x1 x2).otp = s.otp ∧ (State.setShaper s x1 x2).pending = s.pending := by
  unfold State.setShaper
  constructor <;> simp [apply_ite State.otp, apply_ite State.pending, apply_ite Prod.snd]

@[simp] theorem State.setCnt_keep (s : State) (x1 : _) (x2 : _) (x3 : _) :
    (State.setCnt s x1 x2 x3).otp = s.otp ∧ (State.setCnt s x1 x2 x3).pending = s.pending := by
  unfold State.setCnt
  constructor <;> simp [apply_ite State.otp, apply_ite State.pending, apply_ite Prod.snd]

@[simp] theorem State.setCal_keep (s : State) (x1 : _) :
    (State.setCal s x1).otp = s.otp ∧ (State.setCal s x1).pending = s.pending := by
  unfold State.setCal
  constructor <;> simp [apply_ite State.otp, apply_ite State.pending, apply_ite Prod.snd]

@[simp] theorem State.calEnter_keep (s : State) (x1 : _) :
    (State.calEnter s x1).otp = s.otp ∧ (State.calEnter s x1).pending = s.pending := by
  unfold State.calEnter
  constructor <;> simp [apply_ite State.otp, apply_ite State.pending, apply_ite Prod.snd]

@[simp] theorem State.shCharge_keep (s : State) (x1 : _) (x2 : _) :
    (State.shCharge s x1 x2).otp = s.otp ∧ (State.shCharge s x1 x2).pending = s.pending := by
  unfold State.shCharge
  constructor <;> simp [apply_ite State.otp, apply_ite State.pending, apply_ite Prod.snd]

@[simp] theorem State.served_keep (s : State) (x1 : _) (x2 : _) (x3 : _) (x4 : _) :
    (State.served s x1 x2 x3 x4).otp = s.otp ∧ (State.served s x1 x2 x3 x4).pending = s.pending := by
  unfold State.served
  constructor <;> simp [apply_ite State.otp, apply_ite State.pending, apply_ite Prod.snd]

@[simp] theorem State.voqOne_keep (s : State) : (State.voqOne s).2.otp = s.otp ∧ (State.voqOne s).2.pending = s.pending := by
  unfold State.voqOne
  extract_lets u
  have hu : u.otp = s.otp ∧ u.pending = s.pending := by simp [u]
  have hk := State.selectFrom_keep (u.workOf u.voqQueues) true 4 u (nodeKey 0 257) []
  clear_value u
  split
  · exact hu
  · next heq =>
    rw [heq] at hk
    split
    · exact hu
    · simpa using ⟨hk.1.trans hu.1, hk.2.trans hu.2⟩

@[simp] theorem State.voqMany_keep (n : _) (s : State) :
    (State.voqMany n s).otp = s.otp ∧ (State.voqMany n s).pending = s.pending := by
  induction n generalizing s with
  | zero => exact ⟨rfl, rfl⟩
  | succ n ih =>
    have h := State.voqOne_keep s
    simp only [State.voqMany]
    split <;> next hq => rw [hq] at h; simp_all

@[simp] theorem State.pllUnlock_keep (s : State) (x1 : _) :
    (State.pllUnlock s x1).otp = s.otp ∧ (State.pllUnlock s x1).pending = s.pending := by
  unfold State.pllUnlock
  constructor <;> simp [apply_ite State.otp, apply_ite State.pending, apply_ite Prod.snd]

@[simp] theorem State.showOtp_keep (s : State) :
    (State.showOtp s).otp = s.otp ∧ (State.showOtp s).pending = s.pending := by
  unfold State.showOtp
  constructor <;> simp [apply_ite State.otp, apply_ite State.pending, apply_ite Prod.snd]

@[simp] theorem State.begin_keep (s : State) (x1 : _) :
    (State.begin s x1).otp = s.otp ∧ (State.begin s x1).pending = s.pending := by
  unfold State.begin
  constructor <;> simp [apply_ite State.otp, apply_ite State.pending, apply_ite Prod.snd]

@[simp] theorem State.random_keep (s : State) :
    (State.random s).2.otp = s.otp ∧ (State.random s).2.pending = s.pending := by
  unfold State.random
  constructor <;> simp [apply_ite State.otp, apply_ite State.pending, apply_ite Prod.snd]

@[simp] theorem State.freshNonce_keep (s : State) :
    (State.freshNonce s).otp = s.otp ∧ (State.freshNonce s).pending = s.pending := by
  unfold State.freshNonce
  constructor <;> simp [apply_ite State.otp, apply_ite State.pending, apply_ite Prod.snd]

@[simp] theorem State.traceExport_keep (s : State) (x1 : _) (x2 : _) :
    (State.traceExport s x1 x2).otp = s.otp ∧ (State.traceExport s x1 x2).pending = s.pending := by
  unfold State.traceExport
  simp only [apply_ite State.otp, apply_ite State.pending, apply_ite Prod.snd]
  constructor <;> repeat' (first
    | rfl
    | (simp; done)
    | intro _
    | (split <;> (try (simp only [Prod.ext_iff] at *; casesm* _ ∧ _; subst_vars)))
    | (simp_all [apply_ite State.otp, apply_ite State.pending, apply_ite Prod.snd]; done))

@[simp] theorem State.bypass_keep (s : State) :
    (State.bypass s).otp = s.otp ∧ (State.bypass s).pending = s.pending := by
  unfold State.bypass
  constructor <;> simp [apply_ite State.otp, apply_ite State.pending, apply_ite Prod.snd]

@[simp] theorem State.setJt_keep (s : State) (x1 : _) :
    (State.setJt s x1).otp = s.otp ∧ (State.setJt s x1).pending = s.pending := by
  unfold State.setJt
  constructor <;> simp [apply_ite State.otp, apply_ite State.pending, apply_ite Prod.snd]

@[simp] theorem State.jtagIr_keep (s : State) (x1 : _) :
    (State.jtagIr s x1).otp = s.otp ∧ (State.jtagIr s x1).pending = s.pending := by
  unfold State.jtagIr
  constructor <;> simp [apply_ite State.otp, apply_ite State.pending, apply_ite Prod.snd]

@[simp] theorem State.jtagBypass_keep (s : State) (x : _) :
    (State.jtagBypass s x).otp = s.otp ∧ (State.jtagBypass s x).pending = s.pending := by
  unfold State.jtagBypass State.onTap
  dsimp only
  split <;> (try split) <;> (try split) <;> simp

@[simp] theorem State.pgSat_keep (s : State) (x1 : _) (x2 : _) (x3 : _) :
    (State.pgSat s x1 x2 x3).otp = s.otp ∧ (State.pgSat s x1 x2 x3).pending = s.pending := by
  unfold State.pgSat
  constructor <;> simp [apply_ite State.otp, apply_ite State.pending, apply_ite Prod.snd]

@[simp] theorem State.toMac_keep (s : State) (x1 : _) (x2 : _) (x3 : _) (x4 : _) :
    (State.toMac s x1 x2 x3 x4).otp = s.otp ∧ (State.toMac s x1 x2 x3 x4).pending = s.pending := by
  unfold State.toMac
  constructor <;> simp [apply_ite State.otp, apply_ite State.pending, apply_ite Prod.snd]

@[simp] theorem State.setChan_keep (s : State) (x1 : _) (x2 : _) :
    (State.setChan s x1 x2).otp = s.otp ∧ (State.setChan s x1 x2).pending = s.pending := by
  unfold State.setChan
  constructor <;> simp [apply_ite State.otp, apply_ite State.pending, apply_ite Prod.snd]

@[simp] theorem State.showChans_keep (s : State) :
    (State.showChans s).otp = s.otp ∧ (State.showChans s).pending = s.pending := by
  unfold State.showChans
  constructor <;> simp [apply_ite State.otp, apply_ite State.pending, apply_ite Prod.snd]

@[simp] theorem State.chanFree_keep (s : State) (x1 : _) :
    (State.chanFree s x1).otp = s.otp ∧ (State.chanFree s x1).pending = s.pending := by
  unfold State.chanFree
  simp only [apply_ite State.otp, apply_ite State.pending, apply_ite Prod.snd]
  constructor <;> repeat' (first
    | rfl
    | (simp; done)
    | intro _
    | (split <;> (try (simp only [Prod.ext_iff] at *; casesm* _ ∧ _; subst_vars)))
    | (simp_all [apply_ite State.otp, apply_ite State.pending, apply_ite Prod.snd]; done))

@[simp] theorem State.clearPortChan_keep (s : State) (x1 : _) :
    (State.clearPortChan s x1).otp = s.otp ∧ (State.clearPortChan s x1).pending = s.pending := by
  unfold State.clearPortChan
  constructor <;> simp [apply_ite State.otp, apply_ite State.pending, apply_ite Prod.snd]

@[simp] theorem State.tookEffect_keep (s : State) (x1 : _) :
    (State.tookEffect s x1).otp = s.otp ∧ (State.tookEffect s x1).pending = s.pending := by
  unfold State.tookEffect
  constructor <;> simp [apply_ite State.otp, apply_ite State.pending, apply_ite Prod.snd]

@[simp] theorem State.dropNow_keep (s : State) (x1 : _) :
    (State.dropNow s x1).otp = s.otp ∧ (State.dropNow s x1).pending = s.pending := by
  unfold State.dropNow
  constructor <;> simp [apply_ite State.otp, apply_ite State.pending, apply_ite Prod.snd]

@[simp] theorem State.dropAll_keep (s : State) (x1 : _) :
    (State.dropAll s x1).otp = s.otp ∧ (State.dropAll s x1).pending = s.pending := by
  unfold State.dropAll
  constructor <;> simp [apply_ite State.otp, apply_ite State.pending, apply_ite Prod.snd]

@[simp] theorem State.chanFlush_keep (s : State) (x1 : _) :
    (State.chanFlush s x1).2.otp = s.otp ∧ (State.chanFlush s x1).2.pending = s.pending := by
  unfold State.chanFlush
  constructor <;> simp [apply_ite State.otp, apply_ite State.pending, apply_ite Prod.snd]

@[simp] theorem State.chanDestroy_keep (s : State) (x1 : _) :
    (State.chanDestroy s x1).otp = s.otp ∧ (State.chanDestroy s x1).pending = s.pending := by
  unfold State.chanDestroy; constructor <;> (repeat' split) <;> simp_all [apply_ite State.otp, apply_ite State.pending, apply_ite Prod.snd]

@[simp] theorem State.showLocks_keep (s : State) :
    (State.showLocks s).otp = s.otp ∧ (State.showLocks s).pending = s.pending := by
  unfold State.showLocks
  constructor <;> simp [apply_ite State.otp, apply_ite State.pending, apply_ite Prod.snd]

@[simp] theorem State.dropLocks_keep (s : State) :
    (State.dropLocks s).otp = s.otp ∧ (State.dropLocks s).pending = s.pending := by
  unfold State.dropLocks
  constructor <;> simp [apply_ite State.otp, apply_ite State.pending, apply_ite Prod.snd]

@[simp] theorem State.updLink_keep (s : State) (x1 : _) (x2 : _) :
    (State.updLink s x1 x2).otp = s.otp ∧ (State.updLink s x1 x2).pending = s.pending := by
  unfold State.updLink
  constructor <;> simp [apply_ite State.otp, apply_ite State.pending, apply_ite Prod.snd]

@[simp] theorem State.setFl_keep (s : State) (x1 : _) (x2 : _) (x3 : _) :
    (State.setFl s x1 x2 x3).otp = s.otp ∧ (State.setFl s x1 x2 x3).pending = s.pending := by
  unfold State.setFl
  constructor <;> simp [apply_ite State.otp, apply_ite State.pending, apply_ite Prod.snd]

@[simp] theorem State.linkIn_keep (s : State) (x1 : _) :
    (State.linkIn s x1).otp = s.otp ∧ (State.linkIn s x1).pending = s.pending := by
  unfold State.linkIn
  constructor <;> simp [apply_ite State.otp, apply_ite State.pending, apply_ite Prod.snd]

@[simp] theorem State.linkWait_keep (s : State) (x1 : _) :
    (State.linkWait s x1).otp = s.otp ∧ (State.linkWait s x1).pending = s.pending := by
  unfold State.linkWait
  constructor <;> simp [apply_ite State.otp, apply_ite State.pending, apply_ite Prod.snd]

@[simp] theorem State.flRaise_keep (s : State) (x1 : _) (x2 : _) (x3 : _) (x4 : _) :
    (State.flRaise s x1 x2 x3 x4).otp = s.otp ∧ (State.flRaise s x1 x2 x3 x4).pending = s.pending := by
  unfold State.flRaise
  constructor <;> simp [apply_ite State.otp, apply_ite State.pending, apply_ite Prod.snd]

@[simp] theorem State.capCheck_keep (s : State) (x1 : _) :
    (State.capCheck s x1).otp = s.otp ∧ (State.capCheck s x1).pending = s.pending := by
  unfold State.capCheck
  constructor <;> simp [apply_ite State.otp, apply_ite State.pending, apply_ite Prod.snd]

@[simp] theorem State.linkWithdraw_keep (s : State) (x1 : _) (x2 : _) :
    (State.linkWithdraw s x1 x2).otp = s.otp ∧ (State.linkWithdraw s x1 x2).pending = s.pending := by
  unfold State.linkWithdraw
  constructor <;> simp [apply_ite State.otp, apply_ite State.pending, apply_ite Prod.snd]

@[simp] theorem State.linkEval_keep (s : State) (x1 : _) :
    (State.linkEval s x1).otp = s.otp ∧ (State.linkEval s x1).pending = s.pending := by
  unfold State.linkEval
  simp only [apply_ite State.otp, apply_ite State.pending, apply_ite Prod.snd]
  constructor <;> repeat' (first
    | rfl
    | (simp; done)
    | intro _
    | (split <;> (try (simp only [Prod.ext_iff] at *; casesm* _ ∧ _; subst_vars)))
    | (simp_all [apply_ite State.otp, apply_ite State.pending, apply_ite Prod.snd]; done))

@[simp] theorem State.hunt_keep (s : State) (x1 : _) (x2 : _) :
    (State.hunt s x1 x2).otp = s.otp ∧ (State.hunt s x1 x2).pending = s.pending := by
  unfold State.hunt
  constructor <;> simp [apply_ite State.otp, apply_ite State.pending, apply_ite Prod.snd]

@[simp] theorem State.fawCheck_keep (s : State) (x1 : _) (x2 : _) (x3 : _) (x4 : _) :
    (State.fawCheck s x1 x2 x3 x4).otp = s.otp ∧ (State.fawCheck s x1 x2 x3 x4).pending = s.pending := by
  change State.KeepBy id s (State.fawCheck s x1 x2 x3 x4)
  unfold State.fawCheck
  repeat' (first
    | with_reducible exact State.keep_refl
    | (intro t
       have ht : State.KeepBy id s t := by
         simp only [t]
         constructor <;> simp only [id] <;> first
           | (simp [*, apply_ite State.otp, apply_ite State.pending, apply_ite Prod.snd]; done)
           | (split <;> simp [*, apply_ite State.otp, apply_ite State.pending, apply_ite Prod.snd]; done)
           | (simp [*, apply_ite State.otp, apply_ite State.pending, apply_ite Prod.snd]; split <;> simp [*, apply_ite State.otp, apply_ite State.pending, apply_ite Prod.snd]; done)
       clear_value t
       have ht1 : t.otp = s.otp := ht.1
       have ht2 : t.pending = s.pending := ht.2
       clear ht)
    | (intro x; clear_value x)
    | intro _
    | lift_lets
    | (show State.KeepBy _ _ _; split)
    | (show State.KeepBy _ _ _
       constructor <;> simp only [id] <;> first
           | (simp [*, apply_ite State.otp, apply_ite State.pending, apply_ite Prod.snd]; done)
           | (split <;> simp [*, apply_ite State.otp, apply_ite State.pending, apply_ite Prod.snd]; done)
           | (simp [*, apply_ite State.otp, apply_ite State.pending, apply_ite Prod.snd]; split <;> simp [*, apply_ite State.otp, apply_ite State.pending, apply_ite Prod.snd]; done)))

@[simp] theorem State.advance_keep (s : State) (x1 : _) :
    (State.advance s x1).otp = s.otp ∧ (State.advance s x1).pending = s.pending := by
  unfold State.advance
  constructor <;> simp [apply_ite State.otp, apply_ite State.pending, apply_ite Prod.snd]

@[simp] theorem State.advanceTo_keep (s : State) (x1 : _) :
    (State.advanceTo s x1).otp = s.otp ∧ (State.advanceTo s x1).pending = s.pending := by
  unfold State.advanceTo
  constructor <;> simp [apply_ite State.otp, apply_ite State.pending, apply_ite Prod.snd]

@[simp] theorem State.flipTo_keep (s : State) (x1 : _) :
    (State.flipTo s x1).otp = s.otp ∧ (State.flipTo s x1).pending = s.pending := by
  unfold State.flipTo
  constructor <;> simp [apply_ite State.otp, apply_ite State.pending, apply_ite Prod.snd]

@[simp] theorem State.commitDone_keep (s : State) (x1 : _) :
    (State.commitDone s x1).otp = s.otp ∧ (State.commitDone s x1).pending = s.pending := by
  unfold State.commitDone; constructor <;> (repeat' split) <;> simp_all [apply_ite State.otp, apply_ite State.pending, apply_ite Prod.snd]

@[simp] theorem State.showLayout_keep (s : State) :
    (State.showLayout s).otp = s.otp ∧ (State.showLayout s).pending = s.pending := by
  unfold State.showLayout
  constructor <;> simp [apply_ite State.otp, apply_ite State.pending, apply_ite Prod.snd]

@[simp] theorem State.showExpress_keep (s : State) :
    (State.showExpress s).otp = s.otp ∧ (State.showExpress s).pending = s.pending := by
  apply State.keep_of
  unfold State.showExpress
  extract_lets +onlyGivenNames b x m a c d
  have h : d.otp = s.otp ∧ d.pending = s.pending := by
    simp only [d, c, a, State.wf_keep, and_self]
  clear_value d
  exact State.keep_to (by simp only [State.latchBounds_keep, h, and_self])

@[simp] theorem State.setNode_keep (s : State) (x1 : _) (x2 : _) :
    (State.setNode s x1 x2).otp = s.otp ∧ (State.setNode s x1 x2).pending = s.pending := by
  unfold State.setNode
  constructor <;> simp [apply_ite State.otp, apply_ite State.pending, apply_ite Prod.snd]

@[simp] theorem State.newCalendar_keep (s : State) (x1 : _) (x2 : _) (x3 : _) :
    (State.newCalendar s x1 x2 x3).otp = s.otp ∧ (State.newCalendar s x1 x2 x3).pending = s.pending := by
  unfold State.newCalendar
  constructor <;> simp [apply_ite State.otp, apply_ite State.pending, apply_ite Prod.snd]

@[simp] theorem State.flipCalendar_keep (s : State) (x1 : _) :
    (State.flipCalendar s x1).otp = s.otp ∧ (State.flipCalendar s x1).pending = s.pending := by
  unfold State.flipCalendar
  constructor <;> simp [apply_ite State.otp, apply_ite State.pending, apply_ite Prod.snd]

@[simp] theorem State.flipCounts_keep (s : State) (x : _) :
    (State.flipCounts s x).otp = s.otp ∧ (State.flipCounts s x).pending = s.pending := by
  unfold State.flipCounts
  dsimp only
  constructor
  · rw [foldl_otp]; intro s a; split <;> [simp; (split <;> split <;> simp)]
  · rw [foldl_pending]; intro s a; split <;> [simp; (split <;> split <;> simp)]

@[simp] theorem State.flipDepth_keep (s : State) (x1 : _) (x2 : _) :
    (State.flipDepth s x1 x2).otp = s.otp ∧ (State.flipDepth s x1 x2).pending = s.pending := by
  unfold State.flipDepth; constructor <;> (repeat' split) <;> simp_all [apply_ite State.otp, apply_ite State.pending, apply_ite Prod.snd]

@[simp] theorem State.showImages_keep (s : State) (x1 : _) :
    (State.showImages s x1).otp = s.otp ∧ (State.showImages s x1).pending = s.pending := by
  unfold State.showImages; constructor <;> (repeat' split) <;> simp_all [apply_ite State.otp, apply_ite State.pending, apply_ite Prod.snd]

@[simp] theorem State.afterFlip_keep (s : State) (x1 : _) :
    (State.afterFlip s x1).otp = s.otp ∧ (State.afterFlip s x1).pending = s.pending := by
  unfold State.afterFlip
  constructor <;> simp [apply_ite State.otp, apply_ite State.pending, apply_ite Prod.snd]

@[simp] theorem State.raiseEpoch_keep (s : State) (x1 : _) :
    (State.raiseEpoch s x1).otp = s.otp ∧ (State.raiseEpoch s x1).pending = s.pending := by
  unfold State.raiseEpoch
  constructor <;> simp [apply_ite State.otp, apply_ite State.pending, apply_ite Prod.snd]

@[simp] theorem State.startDrain_keep (s : State) :
    (State.startDrain s).otp = s.otp ∧ (State.startDrain s).pending = s.pending := by
  unfold State.startDrain
  constructor <;> simp [apply_ite State.otp, apply_ite State.pending, apply_ite Prod.snd]

@[simp] theorem State.epochFlip_keep (s : State) :
    (State.epochFlip s).otp = s.otp ∧ (State.epochFlip s).pending = s.pending := by
  unfold State.epochFlip
  simp only [apply_ite State.otp, apply_ite State.pending, apply_ite Prod.snd]
  constructor <;> repeat' (first
    | rfl
    | (simp; done)
    | intro _
    | (split <;> (try (simp only [Prod.ext_iff] at *; casesm* _ ∧ _; subst_vars)))
    | (simp_all [apply_ite State.otp, apply_ite State.pending, apply_ite Prod.snd]; done))

@[simp] theorem State.flipDue_keep (s : State) :
    (State.flipDue s).otp = s.otp ∧ (State.flipDue s).pending = s.pending := by
  unfold State.flipDue
  constructor <;> simp [apply_ite State.otp, apply_ite State.pending, apply_ite Prod.snd]

@[simp] theorem State.epochRollback_keep (s : State) (x1 : _) :
    (State.epochRollback s x1).otp = s.otp ∧ (State.epochRollback s x1).pending = s.pending := by
  unfold State.epochRollback; constructor <;> (repeat' split) <;> simp_all [apply_ite State.otp, apply_ite State.pending, apply_ite Prod.snd]

@[simp] theorem State.partLoaded_keep (s : State) (x1 : _) :
    (State.partLoaded s x1).otp = s.otp ∧ (State.partLoaded s x1).pending = s.pending := by
  unfold State.partLoaded
  constructor <;> simp [apply_ite State.otp, apply_ite State.pending, apply_ite Prod.snd]

@[simp] theorem State.stageFail_keep (s : State) (x1 : _) (x2 : _) (x3 : _) (x4 : _) :
    (State.stageFail s x1 x2 x3 x4).otp = s.otp ∧ (State.stageFail s x1 x2 x3 x4).pending = s.pending := by
  unfold State.stageFail
  constructor <;> simp [apply_ite State.otp, apply_ite State.pending, apply_ite Prod.snd]

@[simp] theorem State.setEcc_keep (s : State) (x1 : _) (x2 : _) (x3 : _) :
    (State.setEcc s x1 x2 x3).otp = s.otp ∧ (State.setEcc s x1 x2 x3).pending = s.pending := by
  unfold State.setEcc
  constructor <;> simp [apply_ite State.otp, apply_ite State.pending, apply_ite Prod.snd]

@[simp] theorem State.setStripRec_keep (s : State) (x1 : _) (x2 : _) :
    (State.setStripRec s x1 x2).otp = s.otp ∧ (State.setStripRec s x1 x2).pending = s.pending := by
  unfold State.setStripRec
  constructor <;> simp [apply_ite State.otp, apply_ite State.pending, apply_ite Prod.snd]

@[simp] theorem State.updRemap_keep (s : State) (x1 : _) (x2 : _) (x3 : _) :
    (State.updRemap s x1 x2 x3).otp = s.otp ∧ (State.updRemap s x1 x2 x3).pending = s.pending := by
  unfold State.updRemap
  constructor <;> simp [apply_ite State.otp, apply_ite State.pending, apply_ite Prod.snd]

@[simp] theorem State.copyStart_keep (s : State) (x1 : _) (x2 : _) :
    (State.copyStart s x1 x2).otp = s.otp ∧ (State.copyStart s x1 x2).pending = s.pending := by
  unfold State.copyStart
  simp only [apply_ite State.otp, apply_ite State.pending, apply_ite Prod.snd]
  constructor <;> repeat' (first
    | rfl
    | (simp; done)
    | intro _
    | (split <;> (try (simp only [Prod.ext_iff] at *; casesm* _ ∧ _; subst_vars)))
    | (simp_all [apply_ite State.otp, apply_ite State.pending, apply_ite Prod.snd]; done))

@[simp] theorem State.adjust_keep (s : State) (x1 : _) :
    (State.adjust s x1).otp = s.otp ∧ (State.adjust s x1).pending = s.pending := by
  unfold State.adjust
  constructor <;> simp [apply_ite State.otp, apply_ite State.pending, apply_ite Prod.snd]

@[simp] theorem State.addendWrite_keep (s : State) (x1 : _) :
    (State.addendWrite s x1).otp = s.otp ∧ (State.addendWrite s x1).pending = s.pending := by
  unfold State.addendWrite
  constructor <;> simp [apply_ite State.otp, apply_ite State.pending, apply_ite Prod.snd]

@[simp] theorem State.corePut_keep (n : _) (s : State) (x y : _) :
    (State.corePut n s x y).otp = s.otp ∧ (State.corePut n s x y).pending = s.pending := by
  induction n generalizing s with
  | zero => exact ⟨rfl, rfl⟩
  | succ n ih => simp only [State.corePut]; (repeat' split) <;> simp [ih]

@[simp] theorem State.installErr_keep (s : State) (x1 : _) :
    (State.installErr s x1).otp = s.otp ∧ (State.installErr s x1).pending = s.pending := by
  unfold State.installErr
  constructor <;> simp [apply_ite State.otp, apply_ite State.pending, apply_ite Prod.snd]

@[simp] theorem State.statusRx_keep (s : State) (x1 : _) (x2 : _) :
    (State.statusRx s x1 x2).otp = s.otp ∧ (State.statusRx s x1 x2).pending = s.pending := by
  unfold State.statusRx
  constructor <;> simp [apply_ite State.otp, apply_ite State.pending, apply_ite Prod.snd]

@[simp] theorem State.setPw_keep (s : State) (x1 : _) :
    (State.setPw s x1).otp = s.otp ∧ (State.setPw s x1).pending = s.pending := by
  unfold State.setPw
  constructor <;> simp [apply_ite State.otp, apply_ite State.pending, apply_ite Prod.snd]

theorem State.expire_some {s : State} {k : TimerKind} {i : Nat} {t : State} (h : s.expire k i = some t) :
    t.otp = s.otp ∧ t.pending = s.pending := by
  unfold State.expire at h
  obtain ⟨d, -, rfl⟩ := Option.map_eq_some_iff.1 h
  simp

@[simp] theorem State.raiseAon_keep (s : State) (x1 : _) (x2 : _) (x3 : _) (x4 : _) :
    (State.raiseAon s x1 x2 x3 x4).otp = s.otp ∧ (State.raiseAon s x1 x2 x3 x4).pending = s.pending := by
  unfold State.raiseAon
  constructor <;> simp [apply_ite State.otp, apply_ite State.pending, apply_ite Prod.snd]

@[simp] theorem State.setPwr_keep (s : State) (x1 : _) :
    (State.setPwr s x1).otp = s.otp ∧ (State.setPwr s x1).pending = s.pending := by
  unfold State.setPwr
  constructor <;> simp [apply_ite State.otp, apply_ite State.pending, apply_ite Prod.snd]

@[simp] theorem State.wakeStep_keep (s : State) (x1 : _) (x2 : _) :
    (State.wakeStep s x1 x2).otp = s.otp ∧ (State.wakeStep s x1 x2).pending = s.pending := by
  unfold State.wakeStep
  constructor <;> simp [apply_ite State.otp, apply_ite State.pending, apply_ite Prod.snd]

@[simp] theorem State.startWake_keep (s : State) (x1 : _) (x2 : _) (x3 : _) :
    (State.startWake s x1 x2 x3).otp = s.otp ∧ (State.startWake s x1 x2 x3).pending = s.pending := by
  unfold State.startWake
  constructor <;> simp [apply_ite State.otp, apply_ite State.pending, apply_ite Prod.snd]

@[simp] theorem State.endUnlock_keep (s : State) :
    (State.endUnlock s).otp = s.otp ∧ (State.endUnlock s).pending = s.pending := by
  unfold State.endUnlock
  constructor <;> simp [apply_ite State.otp, apply_ite State.pending, apply_ite Prod.snd]

@[simp] theorem State.abandonTo_keep (s : State) :
    (State.abandonTo s).otp = s.otp ∧ (State.abandonTo s).pending = s.pending := by
  unfold State.abandonTo
  constructor <;> simp [apply_ite State.otp, apply_ite State.pending, apply_ite Prod.snd]

@[simp] theorem State.abortCmd_keep (s : State) (x1 : _) :
    (State.abortCmd s x1).otp = s.otp ∧ (State.abortCmd s x1).pending = s.pending := by
  unfold State.abortCmd; constructor <;> (repeat' split) <;> simp_all [apply_ite State.otp, apply_ite State.pending, apply_ite Prod.snd]

@[simp] theorem State.abandonStaging_keep (s : State) :
    (State.abandonStaging s).otp = s.otp ∧ (State.abandonStaging s).pending = s.pending := by
  unfold State.abandonStaging; constructor <;> (repeat' split) <;> simp_all [apply_ite State.otp, apply_ite State.pending, apply_ite Prod.snd]

@[simp] theorem State.startEntry_keep (s : State) (x1 : _) :
    (State.startEntry s x1).otp = s.otp ∧ (State.startEntry s x1).pending = s.pending := by
  unfold State.startEntry
  constructor <;> simp [apply_ite State.otp, apply_ite State.pending, apply_ite Prod.snd]

@[simp] theorem State.reqDiscard_keep (s : State) (x1 : _) (x2 : _) :
    (State.reqDiscard s x1 x2).otp = s.otp ∧ (State.reqDiscard s x1 x2).pending = s.pending := by
  unfold State.reqDiscard
  constructor <;> simp [apply_ite State.otp, apply_ite State.pending, apply_ite Prod.snd]

@[simp] theorem State.pend_keep (s : State) (x1 : _) :
    (State.pend s x1).otp = s.otp ∧ (State.pend s x1).pending = s.pending := by
  unfold State.pend
  constructor <;> simp [apply_ite State.otp, apply_ite State.pending, apply_ite Prod.snd]

@[simp] theorem State.powerReq_keep (s : State) (x1 : _) (x2 : _) :
    (State.powerReq s x1 x2).otp = s.otp ∧ (State.powerReq s x1 x2).pending = s.pending := by
  unfold State.powerReq
  constructor <;> simp [apply_ite State.otp, apply_ite State.pending, apply_ite Prod.snd]

@[simp] theorem State.watch_keep (s : State) :
    (State.watch s).otp = s.otp ∧ (State.watch s).pending = s.pending := by
  unfold State.watch
  constructor <;> simp [apply_ite State.otp, apply_ite State.pending, apply_ite Prod.snd]

@[simp] theorem State.doldSample_keep (s : State) (x1 : _) (x2 : _) :
    (State.doldSample s x1 x2).otp = s.otp ∧ (State.doldSample s x1 x2).pending = s.pending := by
  change State.KeepBy id s (State.doldSample s x1 x2)
  unfold State.doldSample
  repeat' (first
    | with_reducible exact State.keep_refl
    | (intro t
       have ht : State.KeepBy id s t := by
         simp only [t]
         constructor <;> simp only [id] <;> first
           | (simp [*, apply_ite State.otp, apply_ite State.pending, apply_ite Prod.snd]; done)
           | (split <;> simp [*, apply_ite State.otp, apply_ite State.pending, apply_ite Prod.snd]; done)
           | (simp [*, apply_ite State.otp, apply_ite State.pending, apply_ite Prod.snd]; split <;> simp [*, apply_ite State.otp, apply_ite State.pending, apply_ite Prod.snd]; done)
       clear_value t
       have ht1 : t.otp = s.otp := ht.1
       have ht2 : t.pending = s.pending := ht.2
       clear ht)
    | (intro x; clear_value x)
    | intro _
    | lift_lets
    | (show State.KeepBy _ _ _; split <;> (try (have hk := State.expire_some (by assumption); have hk1 := hk.1; have hk2 := hk.2; clear hk)))
    | (show State.KeepBy _ _ _
       constructor <;> simp only [id] <;> first
           | (simp [*, apply_ite State.otp, apply_ite State.pending, apply_ite Prod.snd]; done)
           | (split <;> simp [*, apply_ite State.otp, apply_ite State.pending, apply_ite Prod.snd]; done)
           | (simp [*, apply_ite State.otp, apply_ite State.pending, apply_ite Prod.snd]; split <;> simp [*, apply_ite State.otp, apply_ite State.pending, apply_ite Prod.snd]; done)))

@[simp] theorem State.ingCopy_keep (s : State) (x1 : _) (x2 : _) :
    (State.ingCopy s x1 x2).otp = s.otp ∧ (State.ingCopy s x1 x2).pending = s.pending := by
  unfold State.ingCopy
  constructor <;> simp [apply_ite State.otp, apply_ite State.pending, apply_ite Prod.snd]

@[simp] theorem State.raiseAll_keep (s : State) (x1 : _) :
    (State.raiseAll s x1).otp = s.otp ∧ (State.raiseAll s x1).pending = s.pending := by
  unfold State.raiseAll
  constructor <;> simp [apply_ite State.otp, apply_ite State.pending, apply_ite Prod.snd]

@[simp] theorem State.flushHeld_keep (s : State) :
    (State.flushHeld s).otp = s.otp ∧ (State.flushHeld s).pending = s.pending := by
  unfold State.flushHeld
  constructor <;> simp [apply_ite State.otp, apply_ite State.pending, apply_ite Prod.snd]

@[simp] theorem State.showThrottled_keep (s : State) (x1 : _) :
    (State.showThrottled s x1).otp = s.otp ∧ (State.showThrottled s x1).pending = s.pending := by
  unfold State.showThrottled
  constructor <;> simp [apply_ite State.otp, apply_ite State.pending, apply_ite Prod.snd]

@[simp] theorem State.throttleExpire_keep (s : State) (x1 : _) (x2 : _) :
    (State.throttleExpire s x1 x2).otp = s.otp ∧ (State.throttleExpire s x1 x2).pending = s.pending := by
  change State.KeepBy id s (State.throttleExpire s x1 x2)
  unfold State.throttleExpire
  repeat' (first
    | with_reducible exact State.keep_refl
    | with_reducible assumption
    | (intro t
       have ht : State.KeepBy id s t := by
         simp only [t, State.KeepBy, id] at *
         first
           | (simp [*, apply_ite State.otp, apply_ite State.pending, apply_ite Prod.snd]; done)
           | (split <;> simp_all [apply_ite State.otp, apply_ite State.pending, apply_ite Prod.snd]; done)
       clear_value t)
    | intro _
    | lift_lets
    | (simp only [State.KeepBy, id] at *; simp [*, apply_ite State.otp, apply_ite State.pending, apply_ite Prod.snd]; done)
    | split
    | have hk := State.expire_some (by assumption)
    | (simp only [State.KeepBy, id, Prod.ext_iff] at *; simp_all [apply_ite State.otp, apply_ite State.pending, apply_ite Prod.snd]; done))

@[simp] theorem State.stageDone_keep (s : State) (x1 : _) (x2 : _) :
    (State.stageDone s x1 x2).otp = s.otp ∧ (State.stageDone s x1 x2).pending = s.pending := by
  unfold State.stageDone
  constructor <;> simp [apply_ite State.otp, apply_ite State.pending, apply_ite Prod.snd]

@[simp] theorem State.stageHold_keep (s : State) (x1 : _) (x2 : _) :
    (State.stageHold s x1 x2).otp = s.otp ∧ (State.stageHold s x1 x2).pending = s.pending := by
  unfold State.stageHold
  constructor <;> simp [apply_ite State.otp, apply_ite State.pending, apply_ite Prod.snd]

@[simp] theorem State.stageVerify_keep (s : State) (a b c d e : _) :
    (State.stageVerify s a b c d e).otp = s.otp ∧ (State.stageVerify s a b c d e).pending = s.pending := by
  unfold State.stageVerify
  dsimp only
  (repeat' split) <;> simp

theorem State.rulePut_some {s : State} {x t l e : _} {u : State} (h : State.rulePut s x t l e = some u) :
    u.otp = s.otp ∧ u.pending = s.pending := by
  simp only [State.rulePut] at h
  split at h
  · cases h
  · cases Option.some.inj h; simp

@[simp] theorem State.ruleHide_keep (s : State) (x1 : _) (x2 : _) (x3 : _) :
    (State.ruleHide s x1 x2 x3).otp = s.otp ∧ (State.ruleHide s x1 x2 x3).pending = s.pending := by
  unfold State.ruleHide
  constructor <;> simp [apply_ite State.otp, apply_ite State.pending, apply_ite Prod.snd]

theorem State.ruleApply_some {s : State} {x y z : _} {u : State} (h : State.ruleApply s x y z = .ok u) :
    u.otp = s.otp ∧ u.pending = s.pending := by
  revert h
  unfold State.ruleApply
  extract_lets +onlyGivenNames b op t e
  split
  · intro h; cases h
  split
  · intro h; cases h
  extract_lets +onlyGivenNames c
  split
  · intro h; cases h
  split
  · intro h; cases h
  extract_lets +onlyGivenNames cn n
  split
  · intro h; cases h
  extract_lets +onlyGivenNames k
  split
  extract_lets +onlyGivenNames s' put
  have hs : s'.otp = s.otp ∧ s'.pending = s.pending := by simp only [s']; split <;> simp
  have hp (v u : State) (h : put v = .ok u) : u.otp = v.otp ∧ u.pending = v.pending := by
    simp only [put] at h
    split at h
    · next hr => cases h; exact State.rulePut_some hr
    · cases h
  clear_value s' put
  split
  · next sl _ =>
    split
    · intro h; cases h
    split
    · intro h; cases h; simp [hs]
    · intro h; have := hp _ _ h; simpa [hs] using this
  · split
    · intro h; have := hp _ _ h; simpa [hs] using this
    · intro h; cases h

@[simp] theorem State.rulesUpTo_keep (s : State) (x a l : _) :
    (State.rulesUpTo s x a l).otp = s.otp ∧ (State.rulesUpTo s x a l).pending = s.pending := by
  induction l generalizing s with
  | nil => exact ⟨rfl, rfl⟩
  | cons r l ih =>
    simp only [State.rulesUpTo]
    split
    · exact ⟨rfl, rfl⟩
    · next h => have := State.ruleApply_some h; simp [ih, this]

@[simp] theorem State.traceAccept_keep (s : State) (x1 : _) (x2 : _) :
    (State.traceAccept s x1 x2).otp = s.otp ∧ (State.traceAccept s x1 x2).pending = s.pending := by
  unfold State.traceAccept
  simp only [apply_ite State.otp, apply_ite State.pending, apply_ite Prod.snd]
  constructor <;> repeat' (first
    | rfl
    | (simp; done)
    | intro _
    | (split <;> (try (simp only [Prod.ext_iff] at *; casesm* _ ∧ _; subst_vars)))
    | (simp_all [apply_ite State.otp, apply_ite State.pending, apply_ite Prod.snd]; done))

@[simp] theorem State.refreshChan_keep (s : State) (x y : _) :
    (State.refreshChan s x y).otp = s.otp ∧ (State.refreshChan s x y).pending = s.pending := by
  apply State.keep_of
  unfold State.refreshChan
  extract_lets +onlyGivenNames c k n a1 last cand a3
  have h3 : a3.otp = s.otp ∧ a3.pending = s.pending := by simp only [a3]; cases cand <;> simp [a1]
  extract_lets +onlyGivenNames a4
  have h4 : a4.otp = s.otp ∧ a4.pending = s.pending := by simp only [a4]; split <;> simp [h3]
  exact State.keep_to (by simp [h4])

@[simp] theorem State.pprofRead_keep (s : State) (x1 : _) :
    (State.pprofRead s x1).otp = s.otp ∧ (State.pprofRead s x1).pending = s.pending := by
  unfold State.pprofRead
  constructor <;> simp [apply_ite State.otp, apply_ite State.pending, apply_ite Prod.snd]

@[simp] theorem State.tblReturn_keep (s : State) (x1 : _) (x2 : _) (x3 : _) (x4 : _) :
    (State.tblReturn s x1 x2 x3 x4).otp = s.otp ∧ (State.tblReturn s x1 x2 x3 x4).pending = s.pending := by
  unfold State.tblReturn
  constructor <;> simp [apply_ite State.otp, apply_ite State.pending, apply_ite Prod.snd]

@[simp] theorem State.tblRead_keep (s : State) (x1 : _) (x2 : _) :
    (State.tblRead s x1 x2).otp = s.otp ∧ (State.tblRead s x1 x2).pending = s.pending := by
  unfold State.tblRead; constructor <;> (repeat' split) <;> simp_all [apply_ite State.otp, apply_ite State.pending, apply_ite Prod.snd]

@[simp] theorem State.trainArm_keep (s : State) (x1 : _) :
    (State.trainArm s x1).otp = s.otp ∧ (State.trainArm s x1).pending = s.pending := by
  unfold State.trainArm
  constructor <;> simp [apply_ite State.otp, apply_ite State.pending, apply_ite Prod.snd]

@[simp] theorem State.linkCfgSet_keep (s : State) (n v : _) :
    (State.linkCfgSet s n v).otp = s.otp ∧ (State.linkCfgSet s n v).pending = s.pending := by
  apply State.keep_of
  unfold State.linkCfgSet
  extract_lets +onlyGivenNames was lt a1
  have h1 : a1.otp = s.otp ∧ a1.pending = s.pending := by simp [a1]
  clear_value a1
  extract_lets +onlyGivenNames a2
  have h2 : a2.otp = s.otp ∧ a2.pending = s.pending := by simp only [a2]; (repeat' split) <;> simp [h1]
  clear_value a2
  split
  · exact State.keep_to (by simp [h2])
  split
  · extract_lets +onlyGivenNames b1
    have h3 : b1.otp = s.otp ∧ b1.pending = s.pending := by simp only [b1]; split <;> simp [h2]
    clear_value b1
    exact State.keep_to (by simp [h3])
  · extract_lets +onlyGivenNames b1
    have h3 : b1.otp = s.otp ∧ b1.pending = s.pending := by simp only [b1]; split <;> simp [h2]
    clear_value b1
    exact State.keep_to (by simp [h3])

@[simp] theorem State.linkCfg_keep (s : State) (x1 : _) (x2 : _) :
    (State.linkCfg s x1 x2).otp = s.otp ∧ (State.linkCfg s x1 x2).pending = s.pending := by
  unfold State.linkCfg
  constructor <;> simp [apply_ite State.otp, apply_ite State.pending, apply_ite Prod.snd]

@[simp] theorem State.heartbeat_keep (s : State) :
    (State.heartbeat s).otp = s.otp ∧ (State.heartbeat s).pending = s.pending := by
  unfold State.heartbeat
  constructor <;> simp [apply_ite State.otp, apply_ite State.pending, apply_ite Prod.snd]

@[simp] theorem State.setPg_keep (s : State) (x1 : _) (x2 : _) (x3 : _) :
    (State.setPg s x1 x2 x3).otp = s.otp ∧ (State.setPg s x1 x2 x3).pending = s.pending := by
  unfold State.setPg
  constructor <;> simp [apply_ite State.otp, apply_ite State.pending, apply_ite Prod.snd]

@[simp] theorem State.setProt_keep (s : State) (x1 : _) (x2 : _) :
    (State.setProt s x1 x2).otp = s.otp ∧ (State.setProt s x1 x2).pending = s.pending := by
  unfold State.setProt
  constructor <;> simp [apply_ite State.otp, apply_ite State.pending, apply_ite Prod.snd]

@[simp] theorem State.protForceOut_keep (s : State) (x1 : _) (x2 : _) :
    (State.protForceOut s x1 x2).otp = s.otp ∧ (State.protForceOut s x1 x2).pending = s.pending := by
  unfold State.protForceOut
  constructor <;> simp [apply_ite State.otp, apply_ite State.pending, apply_ite Prod.snd]

@[simp] theorem State.slotCorrected_keep (s : State) (x1 : _) (x2 : _) :
    (State.slotCorrected s x1 x2).otp = s.otp ∧ (State.slotCorrected s x1 x2).pending = s.pending := by
  unfold State.slotCorrected
  constructor <;> simp [apply_ite State.otp, apply_ite State.pending, apply_ite Prod.snd]

@[simp] theorem State.setDmcState_keep (s : State) (x1 : _) (x2 : _) :
    (State.setDmcState s x1 x2).otp = s.otp ∧ (State.setDmcState s x1 x2).pending = s.pending := by
  unfold State.setDmcState
  constructor <;> simp [apply_ite State.otp, apply_ite State.pending, apply_ite Prod.snd]

@[simp] theorem State.dmcGoDown_keep (s : State) (x1 : _) :
    (State.dmcGoDown s x1).otp = s.otp ∧ (State.dmcGoDown s x1).pending = s.pending := by
  unfold State.dmcGoDown
  constructor <;> simp [apply_ite State.otp, apply_ite State.pending, apply_ite Prod.snd]

@[simp] theorem State.pfcTake_keep (s : State) (x1 : _) (x2 : _) (x3 : _) :
    (State.pfcTake s x1 x2 x3).otp = s.otp ∧ (State.pfcTake s x1 x2 x3).pending = s.pending := by
  unfold State.pfcTake
  constructor <;> simp [apply_ite State.otp, apply_ite State.pending, apply_ite Prod.snd]

@[simp] theorem State.fwAbandon_keep (s : State) :
    (State.fwAbandon s).otp = s.otp ∧ (State.fwAbandon s).pending = s.pending := by
  unfold State.fwAbandon
  constructor <;> simp [apply_ite State.otp, apply_ite State.pending, apply_ite Prod.snd]

@[simp] theorem State.chipClear_keep (s : State) (x1 : _) :
    (State.chipClear s x1).otp = s.otp ∧ (State.chipClear s x1).pending = s.pending := by
  unfold State.chipClear
  constructor <;> simp [apply_ite State.otp, apply_ite State.pending, apply_ite Prod.snd]

end Sys2Proof.Machine
end

