-- ==== Sys2Proof/Laws/Keep3.lean ====
section
/-! SUPPORT. Frame laws of the shared operations, part 3 of 6: no operation writes the one-time-programmable array (but
`State.burn` and what calls it) and none touches the queue of waiting commands. An operation that answers a state has a
law `…_keep`; one that may answer nothing has a law `…_some` about the state it answers. -/

namespace Sys2Proof.Machine

set_option linter.unusedSimpArgs false
set_option linter.unusedTactic false
set_option linter.unreachableTactic false
set_option linter.unusedVariables false

@[simp] theorem State.pagesOutOfReset_keep (s : State) :
    (State.pagesOutOfReset s).otp = s.otp ∧ (State.pagesOutOfReset s).pending = s.pending := by
  unfold State.pagesOutOfReset
  generalize allPages = l
  induction l generalizing s with
  | nil => exact ⟨rfl, rfl⟩
  | cons P l ih => rw [List.foldl_cons]; split <;> simp [ih]

@[simp] theorem State.restartCounters_keep (s : State) :
    (State.restartCounters s).otp = s.otp ∧ (State.restartCounters s).pending = s.pending := by
  unfold State.restartCounters
  constructor <;> simp [apply_ite State.otp, apply_ite State.pending, apply_ite Prod.snd]

@[simp] theorem State.sleepClear_keep (s : State) :
    (State.sleepClear s).otp = s.otp ∧ (State.sleepClear s).pending = s.pending := by
  unfold State.sleepClear
  constructor <;> simp [apply_ite State.otp, apply_ite State.pending, apply_ite Prod.snd]

@[simp] theorem State.showLife_keep (s : State) :
    (State.showLife s).otp = s.otp ∧ (State.showLife s).pending = s.pending := by
  unfold State.showLife
  constructor <;> simp [apply_ite State.otp, apply_ite State.pending, apply_ite Prod.snd]

@[simp] theorem State.boardDmc_keep (s : State) (x1 : _) :
    (State.boardDmc s x1).otp = s.otp ∧ (State.boardDmc s x1).pending = s.pending := by
  unfold State.boardDmc
  constructor <;> simp [apply_ite State.otp, apply_ite State.pending, apply_ite Prod.snd]

@[simp] theorem State.unassigned_keep (s : State) (x1 : _) (x2 : _) (x3 : _) :
    (State.unassigned s x1 x2 x3).otp = s.otp ∧ (State.unassigned s x1 x2 x3).pending = s.pending := by
  unfold State.unassigned
  constructor <;> simp [apply_ite State.otp, apply_ite State.pending, apply_ite Prod.snd]

@[simp] theorem State.trainStart_keep (s : State) (x1 : _) :
    (State.trainStart s x1).otp = s.otp ∧ (State.trainStart s x1).pending = s.pending := by
  unfold State.trainStart
  constructor <;> simp [apply_ite State.otp, apply_ite State.pending, apply_ite Prod.snd]

@[simp] theorem State.pageEnable_keep (s : State) (x1 : _) (x2 : _) :
    (State.pageEnable s x1 x2).otp = s.otp ∧ (State.pageEnable s x1 x2).pending = s.pending := by
  unfold State.pageEnable
  constructor <;> simp [apply_ite State.otp, apply_ite State.pending, apply_ite Prod.snd]

@[simp] theorem State.helriInit_keep (s : State) :
    (State.helriInit s).otp = s.otp ∧ (State.helriInit s).pending = s.pending := by
  unfold State.helriInit
  constructor <;> simp [apply_ite State.otp, apply_ite State.pending, apply_ite Prod.snd]

@[simp] theorem State.slotCheck_keep (s : State) (x1 : _) :
    (State.slotCheck s x1).2.otp = s.otp ∧ (State.slotCheck s x1).2.pending = s.pending := by
  unfold State.slotCheck
  constructor <;> simp [apply_ite State.otp, apply_ite State.pending, apply_ite Prod.snd]

@[simp] theorem State.booted_keep (s : State) (x1 : _) (x2 : _) :
    (State.booted s x1 x2).otp = s.otp ∧ (State.booted s x1 x2).pending = s.pending := by
  unfold State.booted
  constructor <;> simp [apply_ite State.otp, apply_ite State.pending, apply_ite Prod.snd]

@[simp] theorem State.readBoard_keep (s : State) :
    (State.readBoard s).otp = s.otp ∧ (State.readBoard s).pending = s.pending := by
  unfold State.readBoard
  constructor <;> simp [apply_ite State.otp, apply_ite State.pending, apply_ite Prod.snd]

@[simp] theorem State.helriStart_keep (s : State) :
    (State.helriStart s).otp = s.otp ∧ (State.helriStart s).pending = s.pending := by
  unfold State.helriStart
  constructor <;> simp [apply_ite State.otp, apply_ite State.pending, apply_ite Prod.snd]

@[simp] theorem State.bootRom_keep (s : State) (x1 : _) :
    (State.bootRom s x1).otp = s.otp ∧ (State.bootRom s x1).pending = s.pending := by
  unfold State.bootRom
  simp only [apply_ite State.otp, apply_ite State.pending, apply_ite Prod.snd]
  constructor <;> repeat' (first
    | rfl
    | (simp; done)
    | intro _
    | (split <;> (try (simp only [Prod.ext_iff] at *; casesm* _ ∧ _; subst_vars)))
    | (simp_all [apply_ite State.otp, apply_ite State.pending, apply_ite Prod.snd]; done))

@[simp] theorem State.coldBoot_keep (s : State) :
    (State.coldBoot s).otp = s.otp ∧ (State.coldBoot s).pending = s.pending := by
  unfold State.coldBoot
  constructor <;> simp [apply_ite State.otp, apply_ite State.pending, apply_ite Prod.snd]

@[simp] theorem State.coldStart_keep (s : State) :
    (State.coldStart s).otp = s.otp ∧ (State.coldStart s).pending = s.pending := by
  apply State.keep_of
  unfold State.coldStart
  extract_lets +onlyGivenNames c a1
  have h1 : a1.otp = s.otp ∧ a1.pending = s.pending := by
    constructor <;> simp [a1, apply_ite State.otp, apply_ite State.pending]
  clear_value a1
  extract_lets +onlyGivenNames p a2
  have h2 : a2.otp = s.otp ∧ a2.pending = s.pending := h1
  clear_value a2
  extract_lets +onlyGivenNames a3 a4 a5 a6
  have h6 : a6.otp = s.otp ∧ a6.pending = s.pending := by
    constructor <;> simp [a6, a5, a4, a3, h2, State.pagesOutOfReset_keep]
  clear_value a6
  extract_lets +onlyGivenNames f a7
  have h7 : a7.otp = s.otp ∧ a7.pending = s.pending := by
    constructor <;> simp [a7, apply_ite State.otp, apply_ite State.pending, h6]
  clear_value a7
  extract_lets +onlyGivenNames a8
  have h8 : a8.otp = s.otp ∧ a8.pending = s.pending := by
    constructor <;> simp [a8, apply_ite State.otp, apply_ite State.pending, h7]
  clear_value a8
  extract_lets +onlyGivenNames a9 a10
  have h10 : a10.otp = s.otp ∧ a10.pending = s.pending := by
    simp only [a10]; split <;> simp [a9, h8]
  clear_value a10
  apply State.keep_to
  simp [h10]

@[simp] theorem State.chipRelease_keep (s : State) :
    (State.chipRelease s).otp = s.otp ∧ (State.chipRelease s).pending = s.pending := by
  unfold State.chipRelease
  constructor <;> simp [apply_ite State.otp, apply_ite State.pending, apply_ite Prod.snd]

@[simp] theorem State.resetReq_keep (s : State) (x1 : _) :
    (State.resetReq s x1).otp = s.otp ∧ (State.resetReq s x1).pending = s.pending := by
  unfold State.resetReq
  constructor <;> simp [apply_ite State.otp, apply_ite State.pending, apply_ite Prod.snd]

@[simp] theorem State.setTxRec_keep (s : State) (x1 : _) (x2 : _) :
    (State.setTxRec s x1 x2).otp = s.otp ∧ (State.setTxRec s x1 x2).pending = s.pending := by
  unfold State.setTxRec
  constructor <;> simp [apply_ite State.otp, apply_ite State.pending, apply_ite Prod.snd]

@[simp] theorem State.resetBlockRegs_keep (s : State) (x1 : _) (x2 : _) :
    (State.resetBlockRegs s x1 x2).otp = s.otp ∧ (State.resetBlockRegs s x1 x2).pending = s.pending := by
  unfold State.resetBlockRegs
  constructor <;> simp [apply_ite State.otp, apply_ite State.pending, apply_ite Prod.snd]

@[simp] theorem State.abortBlock_keep (s : State) (x1 : _) :
    (State.abortBlock s x1).otp = s.otp ∧ (State.abortBlock s x1).pending = s.pending := by
  unfold State.abortBlock
  constructor <;> simp [apply_ite State.otp, apply_ite State.pending, apply_ite Prod.snd]

@[simp] theorem State.mcReset_keep (s : State) (x1 : _) :
    (State.mcReset s x1).otp = s.otp ∧ (State.mcReset s x1).pending = s.pending := by
  unfold State.mcReset
  constructor <;> simp [apply_ite State.otp, apply_ite State.pending, apply_ite Prod.snd]

@[simp] theorem State.watchdogReset_keep (s : State) :
    (State.watchdogReset s).otp = s.otp ∧ (State.watchdogReset s).pending = s.pending := by
  unfold State.watchdogReset
  constructor <;> simp [apply_ite State.otp, apply_ite State.pending, apply_ite Prod.snd]

@[simp] theorem State.walkEnd_keep (s : State) (x1 : _) :
    (State.walkEnd s x1).otp = s.otp ∧ (State.walkEnd s x1).pending = s.pending := by
  unfold State.walkEnd
  constructor <;> simp [apply_ite State.otp, apply_ite State.pending, apply_ite Prod.snd]

@[simp] theorem State.walkEntry_keep (s : State) (x1 : _) (x2 : _) :
    (State.walkEntry s x1 x2).otp = s.otp ∧ (State.walkEntry s x1 x2).pending = s.pending := by
  unfold State.walkEntry
  constructor <;> simp [apply_ite State.otp, apply_ite State.pending, apply_ite Prod.snd]

@[simp] theorem State.walkLine_keep (s : State) :
    (State.walkLine s).otp = s.otp ∧ (State.walkLine s).pending = s.pending := by
  unfold State.walkLine; constructor <;> (repeat' split) <;> simp_all [apply_ite State.otp, apply_ite State.pending, apply_ite Prod.snd]

@[simp] theorem State.notify_keep (s : State) (x1 : _) (x2 : _) (x3 : _) :
    (State.notify s x1 x2 x3).otp = s.otp ∧ (State.notify s x1 x2 x3).pending = s.pending := by
  unfold State.notify
  constructor <;> simp [apply_ite State.otp, apply_ite State.pending, apply_ite Prod.snd]

@[simp] theorem State.rehashNote_keep (s : State) (x1 : _) :
    (State.rehashNote s x1).otp = s.otp ∧ (State.rehashNote s x1).pending = s.pending := by
  unfold State.rehashNote
  constructor <;> simp [apply_ite State.otp, apply_ite State.pending, apply_ite Prod.snd]

@[simp] theorem State.dampMove_keep (s : State) (x1 : _) :
    (State.dampMove s x1).otp = s.otp ∧ (State.dampMove s x1).pending = s.pending := by
  unfold State.dampMove; constructor <;> (repeat' split) <;> simp_all [apply_ite State.otp, apply_ite State.pending, apply_ite Prod.snd]

@[simp] theorem State.setLearnQueue_keep (s : State) (x1 : _) :
    (State.setLearnQueue s x1).otp = s.otp ∧ (State.setLearnQueue s x1).pending = s.pending := by
  unfold State.setLearnQueue
  constructor <;> simp [apply_ite State.otp, apply_ite State.pending, apply_ite Prod.snd]

@[simp] theorem State.countEntry_keep (s : State) (x1 : _) (x2 : _) :
    (State.countEntry s x1 x2).otp = s.otp ∧ (State.countEntry s x1 x2).pending = s.pending := by
  unfold State.countEntry; constructor <;> (repeat' split) <;> simp_all [apply_ite State.otp, apply_ite State.pending, apply_ite Prod.snd]

@[simp] theorem State.learnProcess_keep (s : State) :
    (State.learnProcess s).otp = s.otp ∧ (State.learnProcess s).pending = s.pending := by
  unfold State.learnProcess
  simp only [apply_ite State.otp, apply_ite State.pending, apply_ite Prod.snd]
  constructor <;> repeat' (first
    | rfl
    | (simp; done)
    | intro _
    | (split <;> (try (simp only [Prod.ext_iff] at *; casesm* _ ∧ _; subst_vars)))
    | (simp_all [apply_ite State.otp, apply_ite State.pending, apply_ite Prod.snd]; done))

@[simp] theorem State.sampleN_keep (s : State) (x1 : _) :
    (State.sampleN s x1).otp = s.otp ∧ (State.sampleN s x1).pending = s.pending := by
  unfold State.sampleN
  constructor <;> simp [apply_ite State.otp, apply_ite State.pending, apply_ite Prod.snd]

@[simp] theorem State.cfgRefused_keep (s : State) (x1 : _) (x2 : _) :
    (State.cfgRefused s x1 x2).otp = s.otp ∧ (State.cfgRefused s x1 x2).pending = s.pending := by
  unfold State.cfgRefused
  constructor <;> simp [apply_ite State.otp, apply_ite State.pending, apply_ite Prod.snd]

@[simp] theorem State.setLanes_keep (s : State) (x1 : _) (x2 : _) :
    (State.setLanes s x1 x2).otp = s.otp ∧ (State.setLanes s x1 x2).pending = s.pending := by
  unfold State.setLanes
  constructor <;> simp [apply_ite State.otp, apply_ite State.pending, apply_ite Prod.snd]

@[simp] theorem State.rfUpdate_keep (s : State) (x1 : _) :
    (State.rfUpdate s x1).otp = s.otp ∧ (State.rfUpdate s x1).pending = s.pending := by
  unfold State.rfUpdate
  constructor <;> simp [apply_ite State.otp, apply_ite State.pending, apply_ite Prod.snd]

@[simp] theorem State.showHold_keep (s : State) (x1 : _) :
    (State.showHold s x1).otp = s.otp ∧ (State.showHold s x1).pending = s.pending := by
  unfold State.showHold
  constructor <;> simp [apply_ite State.otp, apply_ite State.pending, apply_ite Prod.snd]

@[simp] theorem State.setPortCfg_keep (s : State) (x1 : _) (x2 : _) :
    (State.setPortCfg s x1 x2).otp = s.otp ∧ (State.setPortCfg s x1 x2).pending = s.pending := by
  unfold State.setPortCfg
  constructor <;> simp [apply_ite State.otp, apply_ite State.pending, apply_ite Prod.snd]

@[simp] theorem State.protHealth_keep (s : State) (x1 : _) :
    (State.protHealth s x1).otp = s.otp ∧ (State.protHealth s x1).pending = s.pending := by
  unfold State.protHealth
  constructor <;> simp [apply_ite State.otp, apply_ite State.pending, apply_ite Prod.snd]

@[simp] theorem State.cutTx_keep (s : State) (x1 : _) :
    (State.cutTx s x1).otp = s.otp ∧ (State.cutTx s x1).pending = s.pending := by
  unfold State.cutTx
  constructor <;> simp [apply_ite State.otp, apply_ite State.pending, apply_ite Prod.snd]

@[simp] theorem State.linkFall_keep (s : State) (x1 : _) (x2 : _) :
    (State.linkFall s x1 x2).otp = s.otp ∧ (State.linkFall s x1 x2).pending = s.pending := by
  unfold State.linkFall
  constructor <;> simp [apply_ite State.otp, apply_ite State.pending, apply_ite Prod.snd]

@[simp] theorem State.portStop_keep (s : State) (x1 : _) (x2 : _) :
    (State.portStop s x1 x2).otp = s.otp ∧ (State.portStop s x1 x2).pending = s.pending := by
  unfold State.portStop
  constructor <;> simp [apply_ite State.otp, apply_ite State.pending, apply_ite Prod.snd]

@[simp] theorem State.portDisable_keep (s : State) (x1 : _) (x2 : _) :
    (State.portDisable s x1 x2).otp = s.otp ∧ (State.portDisable s x1 x2).pending = s.pending := by
  unfold State.portDisable
  constructor <;> simp [apply_ite State.otp, apply_ite State.pending, apply_ite Prod.snd]

@[simp] theorem State.patternBoundary_keep (s : State) :
    (State.patternBoundary s).otp = s.otp ∧ (State.patternBoundary s).pending = s.pending := by
  unfold State.patternBoundary
  constructor <;> simp [apply_ite State.otp, apply_ite State.pending, apply_ite Prod.snd]

@[simp] theorem State.dieError_keep (s : State) (x : _) :
    (State.dieError s x).otp = s.otp ∧ (State.dieError s x).pending = s.pending := by
  unfold State.dieError
  split
  · exact ⟨rfl, rfl⟩
  · split
    · exact ⟨rfl, rfl⟩
    · simp [State.freeVal]

@[simp] theorem State.dcmdGo_keep (s : State) :
    (State.dcmdGo s).otp = s.otp ∧ (State.dcmdGo s).pending = s.pending := by
  unfold State.dcmdGo
  constructor <;> simp [apply_ite State.otp, apply_ite State.pending, apply_ite Prod.snd]

@[simp] theorem State.fcExpire_keep (s : State) (x1 : _) (x2 : _) :
    (State.fcExpire s x1 x2).otp = s.otp ∧ (State.fcExpire s x1 x2).pending = s.pending := by
  change State.KeepBy id s (State.fcExpire s x1 x2)
  unfold State.fcExpire
  repeat' (first
    | with_reducible exact State.keep_refl
    | with_reducible assumption
    | (intro t
       have ht : State.KeepBy id s t := by
         simp only [t, State.KeepBy, id] at *
         first
           | (simp [*, apply_ite State.otp, apply_ite State.pending, apply_ite Prod.snd]; done)
           | (split <;> simp_all [apply_ite State.otp, apply_ite State.pending, apply_ite Prod.snd]; done)
       clear_value t)
    | intro _
    | lift_lets
    | (simp only [State.KeepBy, id] at *; simp [*, apply_ite State.otp, apply_ite State.pending, apply_ite Prod.snd]; done)
    | split
    | have hk := State.expire_some (by assumption)
    | (simp only [State.KeepBy, id, Prod.ext_iff] at *; simp_all [apply_ite State.otp, apply_ite State.pending, apply_ite Prod.snd]; done))

@[simp] theorem State.countLater_keep (s : State) (x : _) :
    (State.countLater s x).otp = s.otp ∧ (State.countLater s x).pending = s.pending := by
  apply State.keep_of
  unfold State.countLater
  extract_lets +onlyGivenNames flush held a1
  have h1 : a1.otp = s.otp ∧ a1.pending = s.pending := by simp only [a1]; split <;> simp
  clear_value a1
  refine State.keep_to ⟨?_, ?_⟩
  · dsimp only; rw [foldl_otp, h1.1]; intro s a; split <;> simp
  · dsimp only; rw [foldl_pending, h1.2]; intro s a; split <;> simp

@[simp] theorem State.heartbeatGap_keep (s : State) :
    (State.heartbeatGap s).otp = s.otp ∧ (State.heartbeatGap s).pending = s.pending := by
  unfold State.heartbeatGap; constructor <;> (repeat' split) <;> simp_all [apply_ite State.otp, apply_ite State.pending, apply_ite Prod.snd]

@[simp] theorem State.showGmax_keep (s : State) (x1 : _) :
    (State.showGmax s x1).otp = s.otp ∧ (State.showGmax s x1).pending = s.pending := by
  unfold State.showGmax
  constructor <;> simp [apply_ite State.otp, apply_ite State.pending, apply_ite Prod.snd]

@[simp] theorem State.dmcReset_keep (s : State) (x1 : _) :
    (State.dmcReset s x1).otp = s.otp ∧ (State.dmcReset s x1).pending = s.pending := by
  unfold State.dmcReset
  constructor <;> simp [apply_ite State.otp, apply_ite State.pending, apply_ite Prod.snd]

@[simp] theorem State.retrain_keep (s : State) :
    (State.retrain s).otp = s.otp ∧ (State.retrain s).pending = s.pending := by
  unfold State.retrain
  constructor <;> simp [apply_ite State.otp, apply_ite State.pending, apply_ite Prod.snd]

@[simp] theorem State.satLater_keep (s : State) (x1 : _) (x2 : _) (x3 : _) (x4 : _) :
    (State.satLater s x1 x2 x3 x4).otp = s.otp ∧ (State.satLater s x1 x2 x3 x4).pending = s.pending := by
  unfold State.satLater
  constructor <;> simp [apply_ite State.otp, apply_ite State.pending, apply_ite Prod.snd]

@[simp] theorem State.stripsDrop_keep (s : State) (x1 : _) :
    (State.stripsDrop s x1).otp = s.otp ∧ (State.stripsDrop s x1).pending = s.pending := by
  unfold State.stripsDrop
  constructor <;> simp [apply_ite State.otp, apply_ite State.pending, apply_ite Prod.snd]

@[simp] theorem readParts_otp (w : State → Nat → Nat × State) (s : State) (o n : _) (h : ∀ s o, (w s o).2.otp = s.otp) :
    (readParts w s o n).2.otp = s.otp := by
  unfold readParts
  exact foldl_otp2 _ _ _ (fun x a => h _ _)
@[simp] theorem readParts_pending (w : State → Nat → Nat × State) (s : State) (o n : _) (h : ∀ s o, (w s o).2.pending = s.pending) :
    (readParts w s o n).2.pending = s.pending := by
  unfold readParts
  exact foldl_pending2 _ _ _ (fun x a => h _ _)

@[simp] theorem State.bar4Read_keep (s : State) (x1 : _) (x2 : _) :
    (State.bar4Read s x1 x2).otp = s.otp ∧ (State.bar4Read s x1 x2).pending = s.pending := by
  unfold State.bar4Read
  constructor <;> simp [apply_ite State.otp, apply_ite State.pending, apply_ite Prod.snd]

@[simp] theorem State.calCoarse_keep (s : State) :
    (State.calCoarse s).otp = s.otp ∧ (State.calCoarse s).pending = s.pending := by
  unfold State.calCoarse
  simp only [apply_ite State.otp, apply_ite State.pending, apply_ite Prod.snd]
  constructor <;> repeat' (first
    | rfl
    | (simp; done)
    | intro _
    | (split <;> (try (simp only [Prod.ext_iff] at *; casesm* _ ∧ _; subst_vars)))
    | (simp_all [apply_ite State.otp, apply_ite State.pending, apply_ite Prod.snd]; done))

@[simp] theorem State.actCount_keep (s : State) (x1 : _) :
    (State.actCount s x1).otp = s.otp ∧ (State.actCount s x1).pending = s.pending := by
  unfold State.actCount
  constructor <;> simp [apply_ite State.otp, apply_ite State.pending, apply_ite Prod.snd]

@[simp] theorem State.dmcActivate_keep (s : State) (x1 : _) (x2 : _) :
    (State.dmcActivate s x1 x2).otp = s.otp ∧ (State.dmcActivate s x1 x2).pending = s.pending := by
  unfold State.dmcActivate
  simp only [apply_ite State.otp, apply_ite State.pending, apply_ite Prod.snd]
  constructor <;> repeat' (first
    | rfl
    | (simp; done)
    | intro _
    | (split <;> (try (simp only [Prod.ext_iff] at *; casesm* _ ∧ _; subst_vars)))
    | (simp_all [apply_ite State.otp, apply_ite State.pending, apply_ite Prod.snd]; done))

@[simp] theorem State.recEnable_keep (s : State) (x1 : _) :
    (State.recEnable s x1).otp = s.otp ∧ (State.recEnable s x1).pending = s.pending := by
  unfold State.recEnable
  constructor <;> simp [apply_ite State.otp, apply_ite State.pending, apply_ite Prod.snd]

@[simp] theorem State.faultDrops_keep (s : State) (x1 : _) (x2 : _) (x3 : _) :
    (State.faultDrops s x1 x2 x3).otp = s.otp ∧ (State.faultDrops s x1 x2 x3).pending = s.pending := by
  unfold State.faultDrops
  constructor <;> simp [apply_ite State.otp, apply_ite State.pending, apply_ite Prod.snd]

@[simp] theorem State.dropStrip_keep (s : State) (x1 : _) :
    (State.dropStrip s x1).otp = s.otp ∧ (State.dropStrip s x1).pending = s.pending := by
  unfold State.dropStrip
  constructor <;> simp [apply_ite State.otp, apply_ite State.pending, apply_ite Prod.snd]

@[simp] theorem State.setCell_keep (s : State) (x1 : _) (x2 : _) :
    (State.setCell s x1 x2).otp = s.otp ∧ (State.setCell s x1 x2).pending = s.pending := by
  unfold State.setCell
  constructor <;> simp [apply_ite State.otp, apply_ite State.pending, apply_ite Prod.snd]

@[simp] theorem State.testAbort_keep (s : State) (x1 : _) :
    (State.testAbort s x1).otp = s.otp ∧ (State.testAbort s x1).pending = s.pending := by
  unfold State.testAbort; constructor <;> (repeat' split) <;> simp_all [apply_ite State.otp, apply_ite State.pending, apply_ite Prod.snd]

@[simp] theorem State.remapTake_keep (s : State) (x1 : _) (x2 : _) (x3 : _) :
    (State.remapTake s x1 x2 x3).otp = s.otp ∧ (State.remapTake s x1 x2 x3).pending = s.pending := by
  unfold State.remapTake
  constructor <;> simp [apply_ite State.otp, apply_ite State.pending, apply_ite Prod.snd]

@[simp] theorem State.stripGoDown_keep (s : State) (x1 : _) (x2 : _) :
    (State.stripGoDown s x1 x2).otp = s.otp ∧ (State.stripGoDown s x1 x2).pending = s.pending := by
  unfold State.stripGoDown
  constructor <;> simp [apply_ite State.otp, apply_ite State.pending, apply_ite Prod.snd]

@[simp] theorem State.remapNext_keep (s : State) (x1 : _) (x2 : _) :
    (State.remapNext s x1 x2).otp = s.otp ∧ (State.remapNext s x1 x2).pending = s.pending := by
  unfold State.remapNext; constructor <;> (repeat' split) <;> simp_all [apply_ite State.otp, apply_ite State.pending, apply_ite Prod.snd]

@[simp] theorem State.sourceLost_keep (s : State) (x y : _) :
    (State.sourceLost s x y).otp = s.otp ∧ (State.sourceLost s x y).pending = s.pending := by
  unfold State.sourceLost
  dsimp only
  constructor
  · rw [foldl_otp]; intro s a; split <;> (try split) <;> simp
  · rw [foldl_pending]; intro s a; split <;> (try split) <;> simp

@[simp] theorem State.fenceNote_keep (s : State) (x1 : _) (x2 : _) (x3 : _) :
    (State.fenceNote s x1 x2 x3).otp = s.otp ∧ (State.fenceNote s x1 x2 x3).pending = s.pending := by
  unfold State.fenceNote
  constructor <;> simp [apply_ite State.otp, apply_ite State.pending, apply_ite Prod.snd]

@[simp] theorem State.faultWindow_keep (s : State) (x1 : _) (x2 : _) :
    (State.faultWindow s x1 x2).otp = s.otp ∧ (State.faultWindow s x1 x2).pending = s.pending := by
  unfold State.faultWindow
  constructor <;> simp [apply_ite State.otp, apply_ite State.pending, apply_ite Prod.snd]

@[simp] theorem State.fenceMapped_keep (s : State) (x1 : _) (x2 : _) (x3 : _) (x4 : _) :
    (State.fenceMapped s x1 x2 x3 x4).otp = s.otp ∧ (State.fenceMapped s x1 x2 x3 x4).pending = s.pending := by
  unfold State.fenceMapped; constructor <;> (repeat' split) <;> simp_all [apply_ite State.otp, apply_ite State.pending, apply_ite Prod.snd]

@[simp] theorem State.lostClear_keep (s : State) (x1 : _) :
    (State.lostClear s x1).otp = s.otp ∧ (State.lostClear s x1).pending = s.pending := by
  unfold State.lostClear
  constructor <;> simp [apply_ite State.otp, apply_ite State.pending, apply_ite Prod.snd]

theorem State.rulesApply_some {s : State} {x y z l : _} {u : State} (h : State.rulesApply s x y z l = .ok u) :
    u.otp = s.otp ∧ u.pending = s.pending := by
  induction l generalizing s z with
  | nil => simp only [State.rulesApply] at h; cases h; exact ⟨rfl, rfl⟩
  | cons r rs ih =>
    simp only [State.rulesApply] at h
    split at h
    · cases h
    · next hr => have h1 := ih h; have h2 := State.ruleApply_some hr; exact ⟨h1.1.trans h2.1, h1.2.trans h2.2⟩

@[simp] theorem State.shprofRead_keep (s : State) (x1 : _) :
    (State.shprofRead s x1).otp = s.otp ∧ (State.shprofRead s x1).pending = s.pending := by
  unfold State.shprofRead
  constructor <;> simp [apply_ite State.otp, apply_ite State.pending, apply_ite Prod.snd]

@[simp] theorem State.clsprofRead_keep (s : State) (x1 : _) :
    (State.clsprofRead s x1).otp = s.otp ∧ (State.clsprofRead s x1).pending = s.pending := by
  unfold State.clsprofRead
  constructor <;> simp [apply_ite State.otp, apply_ite State.pending, apply_ite Prod.snd]

@[simp] theorem State.sysRelease_keep (s : State) :
    (State.sysRelease s).otp = s.otp ∧ (State.sysRelease s).pending = s.pending := by
  unfold State.sysRelease
  constructor <;> simp [apply_ite State.otp, apply_ite State.pending, apply_ite Prod.snd]

@[simp] theorem State.lockWrite_keep (s : State) (x1 : _) (x2 : _) (x3 : _) :
    (State.lockWrite s x1 x2 x3).otp = s.otp ∧ (State.lockWrite s x1 x2 x3).pending = s.pending := by
  unfold State.lockWrite
  constructor <;> simp [apply_ite State.otp, apply_ite State.pending, apply_ite Prod.snd]

@[simp] theorem State.timeStep_keep (s : State) :
    (State.timeStep s).otp = s.otp ∧ (State.timeStep s).pending = s.pending := by
  unfold State.timeStep
  constructor <;> simp [apply_ite State.otp, apply_ite State.pending, apply_ite Prod.snd]

@[simp] theorem State.refreshFrom_keep (s : State) (x1 : _) :
    (State.refreshFrom s x1).otp = s.otp ∧ (State.refreshFrom s x1).pending = s.pending := by
  unfold State.refreshFrom
  constructor <;> simp [apply_ite State.otp, apply_ite State.pending, apply_ite Prod.snd]

@[simp] theorem State.freqResume_keep (s : State) (x1 : _) :
    (State.freqResume s x1).otp = s.otp ∧ (State.freqResume s x1).pending = s.pending := by
  unfold State.freqResume
  constructor <;> simp [apply_ite State.otp, apply_ite State.pending, apply_ite Prod.snd]

@[simp] theorem State.raiseBatch_keep (s : State) (x1 : _) (x2 : _) :
    (State.raiseBatch s x1 x2).otp = s.otp ∧ (State.raiseBatch s x1 x2).pending = s.pending := by
  unfold State.raiseBatch
  constructor <;> simp [apply_ite State.otp, apply_ite State.pending, apply_ite Prod.snd]

@[simp] theorem State.freqLeave_keep (s : State) (x1 : _) :
    (State.freqLeave s x1).otp = s.otp ∧ (State.freqLeave s x1).pending = s.pending := by
  unfold State.freqLeave
  constructor <;> simp [apply_ite State.otp, apply_ite State.pending, apply_ite Prod.snd]

@[simp] theorem State.freqFail_keep (s : State) (x1 : _) (x2 : _) :
    (State.freqFail s x1 x2).otp = s.otp ∧ (State.freqFail s x1 x2).pending = s.pending := by
  unfold State.freqFail
  constructor <;> simp [apply_ite State.otp, apply_ite State.pending, apply_ite Prod.snd]

@[simp] theorem State.freqDone_keep (s : State) (x1 : _) (x2 : _) (x3 : _) :
    (State.freqDone s x1 x2 x3).otp = s.otp ∧ (State.freqDone s x1 x2 x3).pending = s.pending := by
  unfold State.freqDone; constructor <;> (repeat' split) <;> simp_all [apply_ite State.otp, apply_ite State.pending, apply_ite Prod.snd]

@[simp] theorem State.finishO_keep (s : State) (x1 : _) (x2 : _) (x3 : _) (x4 : _) :
    (State.finishO s x1 x2 x3 x4).otp = s.otp ∧ (State.finishO s x1 x2 x3 x4).pending = s.pending := by
  unfold State.finishO; constructor <;> (repeat' split) <;> simp_all [apply_ite State.otp, apply_ite State.pending, apply_ite Prod.snd]

@[simp] theorem State.testFail_keep (s : State) (x1 : _) (x2 : _) (x3 : _) :
    (State.testFail s x1 x2 x3).otp = s.otp ∧ (State.testFail s x1 x2 x3).pending = s.pending := by
  unfold State.testFail; constructor <;> (repeat' split) <;> simp_all [apply_ite State.otp, apply_ite State.pending, apply_ite Prod.snd]

@[simp] theorem State.cellTestDone_keep (s : State) (x1 : _) (x2 : _) :
    (State.cellTestDone s x1 x2).otp = s.otp ∧ (State.cellTestDone s x1 x2).pending = s.pending := by
  change State.KeepBy id s (State.cellTestDone s x1 x2)
  unfold State.cellTestDone
  repeat' (first
    | with_reducible exact State.keep_refl
    | (intro t
       have ht : State.KeepBy id s t := by
         simp only [t]
         constructor <;> simp only [id] <;> first
           | (simp [*, apply_ite State.otp, apply_ite State.pending, apply_ite Prod.snd]; done)
           | (split <;> simp [*, apply_ite State.otp, apply_ite State.pending, apply_ite Prod.snd]; done)
           | (simp [*, apply_ite State.otp, apply_ite State.pending, apply_ite Prod.snd]; split <;> simp [*, apply_ite State.otp, apply_ite State.pending, apply_ite Prod.snd]; done)
       clear_value t
       have ht1 : t.otp = s.otp := ht.1
       have ht2 : t.pending = s.pending := ht.2
       clear ht)
    | (intro x; clear_value x)
    | intro _
    | lift_lets
    | (show State.KeepBy _ _ _; split <;> (try (have hk := State.expire_some (by assumption); have hk1 := hk.1; have hk2 := hk.2; clear hk)))
    | (show State.KeepBy _ _ _
       constructor <;> simp only [id] <;> first
           | (simp [*, apply_ite State.otp, apply_ite State.pending, apply_ite Prod.snd]; done)
           | (split <;> simp [*, apply_ite State.otp, apply_ite State.pending, apply_ite Prod.snd]; done)
           | (simp [*, apply_ite State.otp, apply_ite State.pending, apply_ite Prod.snd]; split <;> simp [*, apply_ite State.otp, apply_ite State.pending, apply_ite Prod.snd]; done)))

@[simp] theorem State.tblAccept_keep (s : State) (x1 : _) (x2 : _) (x3 : _) :
    (State.tblAccept s x1 x2 x3).otp = s.otp ∧ (State.tblAccept s x1 x2 x3).pending = s.pending := by
  unfold State.tblAccept
  simp only [apply_ite State.otp, apply_ite State.pending, apply_ite Prod.snd]
  constructor <;> repeat' (first
    | rfl
    | (simp; done)
    | intro _
    | (split <;> (try (simp only [Prod.ext_iff] at *; casesm* _ ∧ _; subst_vars)))
    | (simp_all [apply_ite State.otp, apply_ite State.pending, apply_ite Prod.snd]; done))

@[simp] theorem State.cellTest_keep (s : State) (x1 : _) :
    (State.cellTest s x1).otp = s.otp ∧ (State.cellTest s x1).pending = s.pending := by
  unfold State.cellTest; constructor <;> (repeat' split) <;> simp_all [apply_ite State.otp, apply_ite State.pending, apply_ite Prod.snd]

@[simp] theorem State.injPkt_keep (s : State) (x1 : _) (x2 : _) (x3 : _) :
    (State.injPkt s x1 x2 x3).2.otp = s.otp ∧ (State.injPkt s x1 x2 x3).2.pending = s.pending := by
  unfold State.injPkt
  constructor <;> simp [apply_ite State.otp, apply_ite State.pending, apply_ite Prod.snd]

@[simp] theorem State.chanCtrlWrite_keep (s : State) (x1 : _) (x2 : _) (x3 : _) :
    (State.chanCtrlWrite s x1 x2 x3).otp = s.otp ∧ (State.chanCtrlWrite s x1 x2 x3).pending = s.pending := by
  unfold State.chanCtrlWrite
  constructor <;> simp [apply_ite State.otp, apply_ite State.pending, apply_ite Prod.snd]

@[simp] theorem State.ringCtrlWrite_keep (s : State) (x1 : _) (x2 : _) :
    (State.ringCtrlWrite s x1 x2).otp = s.otp ∧ (State.ringCtrlWrite s x1 x2).pending = s.pending := by
  unfold State.ringCtrlWrite
  constructor <;> simp [apply_ite State.otp, apply_ite State.pending, apply_ite Prod.snd]

@[simp] theorem State.anyRingCtrl_keep (s : State) (x1 : _) (x2 : _) :
    (State.anyRingCtrl s x1 x2).otp = s.otp ∧ (State.anyRingCtrl s x1 x2).pending = s.pending := by
  unfold State.anyRingCtrl; constructor <;> (repeat' split) <;> simp_all [apply_ite State.otp, apply_ite State.pending, apply_ite Prod.snd]

@[simp] theorem State.wakeAgain_keep (s : State) :
    (State.wakeAgain s).otp = s.otp ∧ (State.wakeAgain s).pending = s.pending := by
  change State.KeepBy id s (State.wakeAgain s)
  unfold State.wakeAgain
  repeat' (first
    | with_reducible exact State.keep_refl
    | with_reducible assumption
    | (intro t
       have ht : State.KeepBy id s t := by
         simp only [t, State.KeepBy, id] at *
         first
           | (simp [*, apply_ite State.otp, apply_ite State.pending, apply_ite Prod.snd]; done)
           | (split <;> simp_all [apply_ite State.otp, apply_ite State.pending, apply_ite Prod.snd]; done)
       clear_value t)
    | intro _
    | lift_lets
    | (simp only [State.KeepBy, id] at *; simp [*, apply_ite State.otp, apply_ite State.pending, apply_ite Prod.snd]; done)
    | split
    | have hk := State.expire_some (by assumption)
    | (simp only [State.KeepBy, id, Prod.ext_iff] at *; simp_all [apply_ite State.otp, apply_ite State.pending, apply_ite Prod.snd]; done))

@[simp] theorem State.casAt_keep (s : State) (x1 : _) (x2 : _) (x3 : _) :
    (State.casAt s x1 x2 x3).otp = s.otp ∧ (State.casAt s x1 x2 x3).pending = s.pending := by
  unfold State.casAt
  constructor <;> simp [apply_ite State.otp, apply_ite State.pending, apply_ite Prod.snd]

@[simp] theorem State.emptyOut_keep (s : State) (x1 : _) (x2 : _) :
    (State.emptyOut s x1 x2).otp = s.otp ∧ (State.emptyOut s x1 x2).pending = s.pending := by
  unfold State.emptyOut
  constructor <;> simp [apply_ite State.otp, apply_ite State.pending, apply_ite Prod.snd]

@[simp] theorem State.putEntry_keep (s : State) (x1 : _) (x2 : _) (x3 : _) (x4 : _) :
    (State.putEntry s x1 x2 x3 x4).otp = s.otp ∧ (State.putEntry s x1 x2 x3 x4).pending = s.pending := by
  unfold State.putEntry; constructor <;> (repeat' split) <;> simp_all [apply_ite State.otp, apply_ite State.pending, apply_ite Prod.snd]

@[simp] theorem State.tblWriteAt_keep (s : State) (c t f a : _) (ha : ∀ s t f, (a s t f).otp = s.otp ∧ (a s t f).pending = s.pending) :
    (State.tblWriteAt s c t f a).otp = s.otp ∧ (State.tblWriteAt s c t f a).pending = s.pending := by
  unfold State.tblWriteAt
  dsimp only
  repeat' split
  all_goals (constructor <;> simp [ha, apply_ite State.otp, apply_ite State.pending])

@[simp] theorem State.drainExpire_keep (s : State) :
    (State.drainExpire s).otp = s.otp ∧ (State.drainExpire s).pending = s.pending := by
  change State.KeepBy id s (State.drainExpire s)
  unfold State.drainExpire
  repeat' (first
    | with_reducible exact State.keep_refl
    | (intro t
       have ht : State.KeepBy id s t := by
         simp only [t]
         constructor <;> simp only [id] <;> first
           | (simp [*, apply_ite State.otp, apply_ite State.pending, apply_ite Prod.snd]; done)
           | (split <;> simp [*, apply_ite State.otp, apply_ite State.pending, apply_ite Prod.snd]; done)
           | (simp [*, apply_ite State.otp, apply_ite State.pending, apply_ite Prod.snd]; split <;> simp [*, apply_ite State.otp, apply_ite State.pending, apply_ite Prod.snd]; done)
       clear_value t
       have ht1 : t.otp = s.otp := ht.1
       have ht2 : t.pending = s.pending := ht.2
       clear ht)
    | (intro x; clear_value x)
    | intro _
    | lift_lets
    | (show State.KeepBy _ _ _; split <;> (try (have hk := State.expire_some (by assumption); have hk1 := hk.1; have hk2 := hk.2; clear hk)))
    | (show State.KeepBy _ _ _
       constructor <;> simp only [id] <;> first
           | (simp [*, apply_ite State.otp, apply_ite State.pending, apply_ite Prod.snd]; done)
           | (split <;> simp [*, apply_ite State.otp, apply_ite State.pending, apply_ite Prod.snd]; done)
           | (simp [*, apply_ite State.otp, apply_ite State.pending, apply_ite Prod.snd]; split <;> simp [*, apply_ite State.otp, apply_ite State.pending, apply_ite Prod.snd]; done)))

@[simp] theorem State.loseData_keep (s : State) :
    (State.loseData s).otp = s.otp ∧ (State.loseData s).pending = s.pending := by
  unfold State.loseData
  constructor <;> simp [apply_ite State.otp, apply_ite State.pending, apply_ite Prod.snd]

@[simp] theorem State.cqHeadWrite_keep (s : State) (x1 : _) (x2 : _) (x3 : _) :
    (State.cqHeadWrite s x1 x2 x3).otp = s.otp ∧ (State.cqHeadWrite s x1 x2 x3).pending = s.pending := by
  unfold State.cqHeadWrite
  constructor <;> simp [apply_ite State.otp, apply_ite State.pending, apply_ite Prod.snd]

@[simp] theorem State.pprofWrite_keep (s : State) (x1 : _) :
    (State.pprofWrite s x1).otp = s.otp ∧ (State.pprofWrite s x1).pending = s.pending := by
  unfold State.pprofWrite
  constructor <;> simp [apply_ite State.otp, apply_ite State.pending, apply_ite Prod.snd]

@[simp] theorem State.storeRenew_keep (s : State) (x1 : _) :
    (State.storeRenew s x1).otp = s.otp ∧ (State.storeRenew s x1).pending = s.pending := by
  unfold State.storeRenew
  constructor <;> simp [apply_ite State.otp, apply_ite State.pending, apply_ite Prod.snd]

@[simp] theorem State.gatesShut_keep (s : State) (x1 : _) :
    (State.gatesShut s x1).otp = s.otp ∧ (State.gatesShut s x1).pending = s.pending := by
  unfold State.gatesShut
  constructor <;> simp [apply_ite State.otp, apply_ite State.pending, apply_ite Prod.snd]

@[simp] theorem State.setGate_keep (s : State) (x1 : _) (x2 : _) :
    (State.setGate s x1 x2).otp = s.otp ∧ (State.setGate s x1 x2).pending = s.pending := by
  unfold State.setGate
  constructor <;> simp [apply_ite State.otp, apply_ite State.pending, apply_ite Prod.snd]

@[simp] theorem State.gateSwitch_keep (s : State) (x1 : _) :
    (State.gateSwitch s x1).otp = s.otp ∧ (State.gateSwitch s x1).pending = s.pending := by
  unfold State.gateSwitch
  constructor <;> simp [apply_ite State.otp, apply_ite State.pending, apply_ite Prod.snd]

@[simp] theorem State.gateCatchUp_keep (s : State) :
    (State.gateCatchUp s).otp = s.otp ∧ (State.gateCatchUp s).pending = s.pending := by
  unfold State.gateCatchUp
  constructor <;> simp [apply_ite State.otp, apply_ite State.pending, apply_ite Prod.snd]

@[simp] theorem State.egrHeld_keep (s : State) (x1 : _) :
    (State.egrHeld s x1).otp = s.otp ∧ (State.egrHeld s x1).pending = s.pending := by
  unfold State.egrHeld
  constructor <;> simp [apply_ite State.otp, apply_ite State.pending, apply_ite Prod.snd]

@[simp] theorem State.bar2Read_keep (s : State) (x1 : _) :
    (State.bar2Read s x1).otp = s.otp ∧ (State.bar2Read s x1).pending = s.pending := by
  unfold State.bar2Read; constructor <;> (repeat' split) <;> simp_all [apply_ite State.otp, apply_ite State.pending, apply_ite Prod.snd]

@[simp] theorem State.perfPreset_keep (s : State) (x1 : _) (x2 : _) (x3 : _) (x4 : _) :
    (State.perfPreset s x1 x2 x3 x4).otp = s.otp ∧ (State.perfPreset s x1 x2 x3 x4).pending = s.pending := by
  unfold State.perfPreset
  constructor <;> simp [apply_ite State.otp, apply_ite State.pending, apply_ite Prod.snd]

@[simp] theorem State.evtForce_keep (s : State) (x1 : _) (x2 : _) :
    (State.evtForce s x1 x2).otp = s.otp ∧ (State.evtForce s x1 x2).pending = s.pending := by
  unfold State.evtForce
  constructor <;> simp [apply_ite State.otp, apply_ite State.pending, apply_ite Prod.snd]

@[simp] theorem State.captureRelease_keep (s : State) (x1 : _) :
    (State.captureRelease s x1).otp = s.otp ∧ (State.captureRelease s x1).pending = s.pending := by
  unfold State.captureRelease
  constructor <;> simp [apply_ite State.otp, apply_ite State.pending, apply_ite Prod.snd]

@[simp] theorem State.hdrRwl_keep (s : State) (x1 : _) (x2 : _) (x3 : _) (x4 : _) (x5 : _) (x6 : _) :
    (State.hdrRwl s x1 x2 x3 x4 x5 x6).otp = s.otp ∧ (State.hdrRwl s x1 x2 x3 x4 x5 x6).pending = s.pending := by
  unfold State.hdrRwl
  constructor <;> simp [apply_ite State.otp, apply_ite State.pending, apply_ite Prod.snd]

@[simp] theorem State.latchClear_keep (s : State) (x1 : _) (x2 : _) :
    (State.latchClear s x1 x2).otp = s.otp ∧ (State.latchClear s x1 x2).pending = s.pending := by
  unfold State.latchClear
  constructor <;> simp [apply_ite State.otp, apply_ite State.pending, apply_ite Prod.snd]

@[simp] theorem State.softReset_keep (s : State) (x1 : _) :
    (State.softReset s x1).otp = s.otp ∧ (State.softReset s x1).pending = s.pending := by
  unfold State.softReset
  simp only [apply_ite State.otp, apply_ite State.pending, apply_ite Prod.snd]
  constructor <;> repeat' (first
    | rfl
    | (simp; done)
    | intro _
    | (split <;> (try (simp only [Prod.ext_iff] at *; casesm* _ ∧ _; subst_vars)))
    | (simp_all [apply_ite State.otp, apply_ite State.pending, apply_ite Prod.snd]; done))

@[simp] theorem State.hdrWrite_keep (s : State) (x1 : _) (x2 : _) (x3 : _) (x4 : _) :
    (State.hdrWrite s x1 x2 x3 x4).otp = s.otp ∧ (State.hdrWrite s x1 x2 x3 x4).pending = s.pending := by
  unfold State.hdrWrite
  constructor <;> simp [apply_ite State.otp, apply_ite State.pending, apply_ite Prod.snd]

@[simp] theorem State.readLatch_keep (s : State) (x1 : _) (x2 : _) :
    (State.readLatch s x1 x2).otp = s.otp ∧ (State.readLatch s x1 x2).pending = s.pending := by
  unfold State.readLatch
  constructor <;> simp [apply_ite State.otp, apply_ite State.pending, apply_ite Prod.snd]

@[simp] theorem State.rearm_keep (s : State) (x1 : _) (x2 : _) :
    (State.rearm s x1 x2).otp = s.otp ∧ (State.rearm s x1 x2).pending = s.pending := by
  unfold State.rearm
  constructor <;> simp [apply_ite State.otp, apply_ite State.pending, apply_ite Prod.snd]

@[simp] theorem State.blockRead_keep (s : State) (x1 : _) (x2 : _) :
    (State.blockRead s x1 x2).2.otp = s.otp ∧ (State.blockRead s x1 x2).2.pending = s.pending := by
  unfold State.blockRead
  constructor <;> simp [apply_ite State.otp, apply_ite State.pending, apply_ite Prod.snd]

@[simp] theorem State.hdrRead_keep (s : State) (x1 : _) (x2 : _) :
    (State.hdrRead s x1 x2).2.otp = s.otp ∧ (State.hdrRead s x1 x2).2.pending = s.pending := by
  unfold State.hdrRead
  constructor <;> simp [apply_ite State.otp, apply_ite State.pending, apply_ite Prod.snd]

@[simp] theorem State.hostAccess_keep (s : State) (x1 : _) (x2 : _) :
    (State.hostAccess s x1 x2).otp = s.otp ∧ (State.hostAccess s x1 x2).pending = s.pending := by
  unfold State.hostAccess
  constructor <;> simp [apply_ite State.otp, apply_ite State.pending, apply_ite Prod.snd]

@[simp] theorem State.wordRead_keep (s : State) (x1 : _) (x2 : _) (x3 : _) :
    (State.wordRead s x1 x2 x3).2.otp = s.otp ∧ (State.wordRead s x1 x2 x3).2.pending = s.pending := by
  unfold State.wordRead
  constructor <;> simp [apply_ite State.otp, apply_ite State.pending, apply_ite Prod.snd]

@[simp] theorem State.busWord_keep (s : State) (w o : _) :
    (State.busWord s w o).2.otp = s.otp ∧ (State.busWord s w o).2.pending = s.pending := by
  unfold State.busWord
  dsimp only
  split
  · exact ⟨rfl, rfl⟩
  · split
    · simp
    · dsimp only
      split <;> simp

@[simp] theorem State.busRead_keep (s : State) (x1 : _) (x2 : _) (x3 : _) :
    (State.busRead s x1 x2 x3).2.otp = s.otp ∧ (State.busRead s x1 x2 x3).2.pending = s.pending := by
  unfold State.busRead
  constructor <;> simp [apply_ite State.otp, apply_ite State.pending, apply_ite Prod.snd]

@[simp] theorem State.hostRead_keep (s : State) (x1 : _) (x2 : _) :
    (State.hostRead s x1 x2).otp = s.otp ∧ (State.hostRead s x1 x2).pending = s.pending := by
  unfold State.hostRead
  constructor <;> simp [apply_ite State.otp, apply_ite State.pending, apply_ite Prod.snd]

@[simp] theorem State.unround_keep (s : State) (x1 : _) :
    (State.unround s x1).otp = s.otp ∧ (State.unround s x1).pending = s.pending := by
  unfold State.unround
  constructor <;> simp [apply_ite State.otp, apply_ite State.pending, apply_ite Prod.snd]

@[simp] theorem State.nodeSel_keep (s : State) (x1 : _) (x2 : _) :
    (State.nodeSel s x1 x2).otp = s.otp ∧ (State.nodeSel s x1 x2).pending = s.pending := by
  unfold State.nodeSel
  constructor <;> simp [apply_ite State.otp, apply_ite State.pending, apply_ite Prod.snd]

@[simp] theorem State.unshape_keep (s : State) (x1 : _) :
    (State.unshape s x1).otp = s.otp ∧ (State.unshape s x1).pending = s.pending := by
  unfold State.unshape
  constructor <;> simp [apply_ite State.otp, apply_ite State.pending, apply_ite Prod.snd]

@[simp] theorem State.nodeWrite_keep (s : State) (v : _) :
    (State.nodeWrite s v).otp = s.otp ∧ (State.nodeWrite s v).pending = s.pending := by
  apply State.keep_of
  unfold State.nodeWrite
  split
  · exact State.keep_refl
  extract_lets +onlyGivenNames level parent shape
  split
  · exact State.keep_to (by simp)
  extract_lets +onlyGivenNames bp
  split
  · exact State.keep_to (by simp)
  extract_lets +onlyGivenNames a1 n n' broken sh a2 a3
  have h3 : a3.otp = s.otp ∧ a3.pending = s.pending := by simp only [a3]; split <;> simp [a2, a1]
  clear_value a3
  extract_lets +onlyGivenNames a4
  have h4 : a4.otp = s.otp ∧ a4.pending = s.pending := by simp only [a4]; (repeat' split) <;> simp [h3]
  clear_value a4
  exact State.keep_to (by simp [h4])

@[simp] theorem State.rwlWrite_otp (s : State) (f data v : _) (op : State → State) (h : ∀ s, (op s).otp = s.otp) :
    (State.rwlWrite s f data v op).otp = s.otp := by
  unfold State.rwlWrite
  (repeat' split) <;> simp [h]
@[simp] theorem State.rwlWrite_pending (s : State) (f data v : _) (op : State → State) (h : ∀ s, (op s).pending = s.pending) :
    (State.rwlWrite s f data v op).pending = s.pending := by
  unfold State.rwlWrite
  (repeat' split) <;> simp [h]

@[simp] theorem State.hitLost_keep (s : State) (x1 : _) :
    (State.hitLost s x1).otp = s.otp ∧ (State.hitLost s x1).pending = s.pending := by
  unfold State.hitLost
  constructor <;> simp [apply_ite State.otp, apply_ite State.pending, apply_ite Prod.snd]

@[simp] theorem State.hitWrite_keep (s : State) :
    (State.hitWrite s).otp = s.otp ∧ (State.hitWrite s).pending = s.pending := by
  unfold State.hitWrite
  simp only [apply_ite State.otp, apply_ite State.pending, apply_ite Prod.snd]
  constructor <;> repeat' (first
    | rfl
    | (simp; done)
    | intro _
    | (split <;> (try (simp only [Prod.ext_iff] at *; casesm* _ ∧ _; subst_vars)))
    | (simp_all [apply_ite State.otp, apply_ite State.pending, apply_ite Prod.snd]; done))

@[simp] theorem State.gateRequest_keep (s : State) (x1 : _) :
    (State.gateRequest s x1).otp = s.otp ∧ (State.gateRequest s x1).pending = s.pending := by
  unfold State.gateRequest
  simp only [apply_ite State.otp, apply_ite State.pending, apply_ite Prod.snd]
  constructor <;> repeat' (first
    | rfl
    | (simp; done)
    | intro _
    | (split <;> (try (simp only [Prod.ext_iff] at *; casesm* _ ∧ _; subst_vars)))
    | (simp_all [apply_ite State.otp, apply_ite State.pending, apply_ite Prod.snd]; done))

theorem goOp_some {v go op : Nat} {read write : State → Nat → State} {s t : State} (h : goOp v go op read write s = some t)
    (hr : ∀ v, (read s v).otp = s.otp ∧ (read s v).pending = s.pending) (hw : ∀ v, (write s v).otp = s.otp ∧ (write s v).pending = s.pending) :
    t.otp = s.otp ∧ t.pending = s.pending := by
  unfold goOp at h
  split at h
  · cases h; split <;> simp_all
  · cases h
theorem State.keepO_go {s : State} {v go op : Nat} {read write : State → Nat → State}
    (hr : ∀ v, (read s v).otp = s.otp ∧ (read s v).pending = s.pending)
    (hw : ∀ v, (write s v).otp = s.otp ∧ (write s v).pending = s.pending) : s.KeepO (goOp v go op read write s) :=
  fun _ h => goOp_some h hr hw

@[simp] theorem State.snapshot_keep (s : State) (x1 : _) :
    (State.snapshot s x1).otp = s.otp ∧ (State.snapshot s x1).pending = s.pending := by
  unfold State.snapshot; constructor <;> (repeat' split) <;> simp_all [apply_ite State.otp, apply_ite State.pending, apply_ite Prod.snd]

@[simp] theorem State.porClear_keep (s : State) :
    (State.porClear s).otp = s.otp ∧ (State.porClear s).pending = s.pending := by
  unfold State.porClear
  constructor <;> simp [apply_ite State.otp, apply_ite State.pending, apply_ite Prod.snd]

@[simp] theorem State.counterWriteback_keep (s : State) (x1 : _) :
    (State.counterWriteback s x1).otp = s.otp ∧ (State.counterWriteback s x1).pending = s.pending := by
  unfold State.counterWriteback
  constructor <;> simp [apply_ite State.otp, apply_ite State.pending, apply_ite Prod.snd]

@[simp] theorem State.loseCpl_keep (s : State) :
    (State.loseCpl s).otp = s.otp ∧ (State.loseCpl s).pending = s.pending := by
  unfold State.loseCpl
  constructor <;> simp [apply_ite State.otp, apply_ite State.pending, apply_ite Prod.snd]

@[simp] theorem State.completionWrite_keep (s : State) (x1 : _) (x2 : _) :
    (State.completionWrite s x1 x2).otp = s.otp ∧ (State.completionWrite s x1 x2).pending = s.pending := by
  unfold State.completionWrite; constructor <;> (repeat' split) <;> simp_all [apply_ite State.otp, apply_ite State.pending, apply_ite Prod.snd]

@[simp] theorem State.traceData_keep (s : State) (x1 : _) (x2 : _) :
    (State.traceData s x1 x2).otp = s.otp ∧ (State.traceData s x1 x2).pending = s.pending := by
  unfold State.traceData
  constructor <;> simp [apply_ite State.otp, apply_ite State.pending, apply_ite Prod.snd]

end Sys2Proof.Machine
end

