-- ==== Sys2Proof/Laws/Keep4.lean ====
section
/-! SUPPORT. Frame laws of the shared operations, part 4 of 6: no operation writes the one-time-programmable array (but
`State.burn` and what calls it) and none touches the queue of waiting commands. An operation that answers a state has a
law `…_keep`; one that may answer nothing has a law `…_some` about the state it answers. -/

namespace Sys2Proof.Machine

set_option linter.unusedSimpArgs false
set_option linter.unusedTactic false
set_option linter.unreachableTactic false
set_option linter.unusedVariables false

@[simp] theorem State.trainLane_keep (s : State) (x1 : _) :
    (State.trainLane s x1).otp = s.otp ∧ (State.trainLane s x1).pending = s.pending := by
  unfold State.trainLane
  constructor <;> simp [apply_ite State.otp, apply_ite State.pending, apply_ite Prod.snd]

@[simp] theorem State.linkRise_keep (s : State) (x1 : _) :
    (State.linkRise s x1).otp = s.otp ∧ (State.linkRise s x1).pending = s.pending := by
  unfold State.linkRise
  constructor <;> simp [apply_ite State.otp, apply_ite State.pending, apply_ite Prod.snd]

@[simp] theorem State.flOut_keep (s : State) (x1 : _) (x2 : _) :
    (State.flOut s x1 x2).otp = s.otp ∧ (State.flOut s x1 x2).pending = s.pending := by
  unfold State.flOut
  constructor <;> simp [apply_ite State.otp, apply_ite State.pending, apply_ite Prod.snd]

@[simp] theorem State.ppsMissing_keep (s : State) :
    (State.ppsMissing s).otp = s.otp ∧ (State.ppsMissing s).pending = s.pending := by
  change State.KeepBy id s (State.ppsMissing s)
  unfold State.ppsMissing
  repeat' (first
    | with_reducible exact State.keep_refl
    | (intro t
       have ht : State.KeepBy id s t := by
         simp only [t]
         constructor <;> simp only [id] <;> first
           | (simp [*, apply_ite State.otp, apply_ite State.pending, apply_ite Prod.snd]; done)
           | (split <;> simp [*, apply_ite State.otp, apply_ite State.pending, apply_ite Prod.snd]; done)
           | (simp [*, apply_ite State.otp, apply_ite State.pending, apply_ite Prod.snd]; split <;> simp [*, apply_ite State.otp, apply_ite State.pending, apply_ite Prod.snd]; done)
       clear_value t
       have ht1 : t.otp = s.otp := ht.1
       have ht2 : t.pending = s.pending := ht.2
       clear ht)
    | (intro x; clear_value x)
    | intro _
    | lift_lets
    | (show State.KeepBy _ _ _; split <;> (try (have hk := State.expire_some (by assumption); have hk1 := hk.1; have hk2 := hk.2; clear hk)))
    | (show State.KeepBy _ _ _
       constructor <;> simp only [id] <;> first
           | (simp [*, apply_ite State.otp, apply_ite State.pending, apply_ite Prod.snd]; done)
           | (split <;> simp [*, apply_ite State.otp, apply_ite State.pending, apply_ite Prod.snd]; done)
           | (simp [*, apply_ite State.otp, apply_ite State.pending, apply_ite Prod.snd]; split <;> simp [*, apply_ite State.otp, apply_ite State.pending, apply_ite Prod.snd]; done)))

@[simp] theorem State.qprofSel_keep (s : State) (x1 : _) :
    (State.qprofSel s x1).otp = s.otp ∧ (State.qprofSel s x1).pending = s.pending := by
  unfold State.qprofSel
  constructor <;> simp [apply_ite State.otp, apply_ite State.pending, apply_ite Prod.snd]

@[simp] theorem State.gatePend_keep (s : State) (x1 : _) :
    (State.gatePend s x1).otp = s.otp ∧ (State.gatePend s x1).pending = s.pending := by
  unfold State.gatePend
  constructor <;> simp [apply_ite State.otp, apply_ite State.pending, apply_ite Prod.snd]

@[simp] theorem State.gatePendWrite_keep (s : State) (x1 : _) (x2 : _) :
    (State.gatePendWrite s x1 x2).otp = s.otp ∧ (State.gatePendWrite s x1 x2).pending = s.pending := by
  unfold State.gatePendWrite; constructor <;> (repeat' split) <;> simp_all [apply_ite State.otp, apply_ite State.pending, apply_ite Prod.snd]

@[simp] theorem State.porRelease_keep (s : State) :
    (State.porRelease s).otp = s.otp ∧ (State.porRelease s).pending = s.pending := by
  unfold State.porRelease
  constructor <;> simp [apply_ite State.otp, apply_ite State.pending, apply_ite Prod.snd]

@[simp] theorem State.setLocks_keep (s : State) (x1 : _) (x2 : _) (x3 : _) (x4 : _) (x5 : _) :
    (State.setLocks s x1 x2 x3 x4 x5).otp = s.otp ∧ (State.setLocks s x1 x2 x3 x4 x5).pending = s.pending := by
  unfold State.setLocks
  constructor <;> simp [apply_ite State.otp, apply_ite State.pending, apply_ite Prod.snd]

@[simp] theorem State.lockCtrl_keep (s : State) (x1 : _) :
    (State.lockCtrl s x1).otp = s.otp ∧ (State.lockCtrl s x1).pending = s.pending := by
  unfold State.lockCtrl
  simp only [apply_ite State.otp, apply_ite State.pending, apply_ite Prod.snd]
  constructor <;> repeat' (first
    | rfl
    | (simp; done)
    | intro _
    | (split <;> (try (simp only [Prod.ext_iff] at *; casesm* _ ∧ _; subst_vars)))
    | (simp_all [apply_ite State.otp, apply_ite State.pending, apply_ite Prod.snd]; done))

@[simp] theorem State.ddrEnable_keep (s : State) :
    (State.ddrEnable s).otp = s.otp ∧ (State.ddrEnable s).pending = s.pending := by
  unfold State.ddrEnable; constructor <;> (repeat' split) <;> simp_all [apply_ite State.otp, apply_ite State.pending, apply_ite Prod.snd]

@[simp] theorem State.takePort_keep (s : State) (x1 : _) :
    (State.takePort s x1).otp = s.otp ∧ (State.takePort s x1).pending = s.pending := by
  unfold State.takePort
  simp only [apply_ite State.otp, apply_ite State.pending, apply_ite Prod.snd]
  constructor <;> repeat' (first
    | rfl
    | (simp; done)
    | intro _
    | (split <;> (try (simp only [Prod.ext_iff] at *; casesm* _ ∧ _; subst_vars)))
    | (simp_all [apply_ite State.otp, apply_ite State.pending, apply_ite Prod.snd]; done))

@[simp] theorem State.applyNotes_keep (s : State) (x : _) :
    (State.applyNotes s x).otp = s.otp ∧ (State.applyNotes s x).pending = s.pending := by
  unfold State.applyNotes
  constructor
  · rw [foldl_otp]; intro s a; split <;> simp
  · rw [foldl_pending]; intro s a; split <;> simp

@[simp] theorem State.newNode_keep (s : State) (x1 : _) :
    (State.newNode s x1).otp = s.otp ∧ (State.newNode s x1).pending = s.pending := by
  unfold State.newNode
  constructor <;> simp [apply_ite State.otp, apply_ite State.pending, apply_ite Prod.snd]

@[simp] theorem State.recordRead_keep (s : State) (x1 : _) :
    (State.recordRead s x1).otp = s.otp ∧ (State.recordRead s x1).pending = s.pending := by
  unfold State.recordRead
  constructor <;> simp [apply_ite State.otp, apply_ite State.pending, apply_ite Prod.snd]

@[simp] theorem State.chanCreate_keep (s : State) (x1 : _) :
    (State.chanCreate s x1).otp = s.otp ∧ (State.chanCreate s x1).pending = s.pending := by
  unfold State.chanCreate
  simp only [apply_ite State.otp, apply_ite State.pending, apply_ite Prod.snd]
  constructor <;> repeat' (first
    | rfl
    | (simp; done)
    | intro _
    | (split <;> (try (simp only [Prod.ext_iff] at *; casesm* _ ∧ _; subst_vars)))
    | (simp_all [apply_ite State.otp, apply_ite State.pending, apply_ite Prod.snd]; done))

@[simp] theorem State.ppsFall_keep (s : State) :
    (State.ppsFall s).otp = s.otp ∧ (State.ppsFall s).pending = s.pending := by
  change State.KeepBy id s (State.ppsFall s)
  unfold State.ppsFall
  repeat' (first
    | with_reducible exact State.keep_refl
    | with_reducible assumption
    | (intro t
       have ht : State.KeepBy id s t := by
         simp only [t, State.KeepBy, id] at *
         first
           | (simp [*, apply_ite State.otp, apply_ite State.pending, apply_ite Prod.snd]; done)
           | (split <;> simp_all [apply_ite State.otp, apply_ite State.pending, apply_ite Prod.snd]; done)
       clear_value t)
    | intro _
    | lift_lets
    | (simp only [State.KeepBy, id] at *; simp [*, apply_ite State.otp, apply_ite State.pending, apply_ite Prod.snd]; done)
    | split
    | have hk := State.expire_some (by assumption)
    | (simp only [State.KeepBy, id, Prod.ext_iff] at *; simp_all [apply_ite State.otp, apply_ite State.pending, apply_ite Prod.snd]; done))

@[simp] theorem State.placeWrite_keep (s : State) (x1 : _) (x2 : _) (x3 : _) :
    (State.placeWrite s x1 x2 x3).otp = s.otp ∧ (State.placeWrite s x1 x2 x3).pending = s.pending := by
  unfold State.placeWrite
  simp only [apply_ite State.otp, apply_ite State.pending, apply_ite Prod.snd]
  constructor <;> repeat' (first
    | rfl
    | (simp; done)
    | intro _
    | (split <;> (try (simp only [Prod.ext_iff] at *; casesm* _ ∧ _; subst_vars)))
    | (simp_all [apply_ite State.otp, apply_ite State.pending, apply_ite Prod.snd]; done))

@[simp] theorem State.plainWrite_keep (s : State) (x1 : _) (x2 : _) (x3 : _) :
    (State.plainWrite s x1 x2 x3).otp = s.otp ∧ (State.plainWrite s x1 x2 x3).pending = s.pending := by
  unfold State.plainWrite
  constructor <;> simp [apply_ite State.otp, apply_ite State.pending, apply_ite Prod.snd]

@[simp] theorem State.gateSel_keep (s : State) (x1 : _) :
    (State.gateSel s x1).otp = s.otp ∧ (State.gateSel s x1).pending = s.pending := by
  unfold State.gateSel
  constructor <;> simp [apply_ite State.otp, apply_ite State.pending, apply_ite Prod.snd]

@[simp] theorem State.gateWrite_keep (s : State) (x1 : _) :
    (State.gateWrite s x1).otp = s.otp ∧ (State.gateWrite s x1).pending = s.pending := by
  unfold State.gateWrite
  constructor <;> simp [apply_ite State.otp, apply_ite State.pending, apply_ite Prod.snd]

@[simp] theorem State.bar2Word_keep (s : State) (x1 : _) (x2 : _) :
    (State.bar2Word s x1 x2).otp = s.otp ∧ (State.bar2Word s x1 x2).pending = s.pending := by
  unfold State.bar2Word; constructor <;> (repeat' split) <;> simp_all [apply_ite State.otp, apply_ite State.pending, apply_ite Prod.snd]

@[simp] theorem State.bar2Take_keep (s : State) (x1 : _) (x2 : _) (x3 : _) :
    (State.bar2Take s x1 x2 x3).otp = s.otp ∧ (State.bar2Take s x1 x2 x3).pending = s.pending := by
  unfold State.bar2Take
  constructor <;> simp [apply_ite State.otp, apply_ite State.pending, apply_ite Prod.snd]

@[simp] theorem State.flinkWtr_keep (s : State) (x1 : _) :
    (State.flinkWtr s x1).otp = s.otp ∧ (State.flinkWtr s x1).pending = s.pending := by
  change State.KeepBy id s (State.flinkWtr s x1)
  unfold State.flinkWtr
  repeat' (first
    | with_reducible exact State.keep_refl
    | with_reducible assumption
    | (intro t
       have ht : State.KeepBy id s t := by
         simp only [t, State.KeepBy, id] at *
         first
           | (simp [*, apply_ite State.otp, apply_ite State.pending, apply_ite Prod.snd]; done)
           | (split <;> simp_all [apply_ite State.otp, apply_ite State.pending, apply_ite Prod.snd]; done)
       clear_value t)
    | intro _
    | lift_lets
    | (simp only [State.KeepBy, id] at *; simp [*, apply_ite State.otp, apply_ite State.pending, apply_ite Prod.snd]; done)
    | split
    | have hk := State.expire_some (by assumption)
    | (simp only [State.KeepBy, id, Prod.ext_iff] at *; simp_all [apply_ite State.otp, apply_ite State.pending, apply_ite Prod.snd]; done))

@[simp] theorem State.walkDrain_keep (s : State) :
    (State.walkDrain s).otp = s.otp ∧ (State.walkDrain s).pending = s.pending := by
  unfold State.walkDrain
  constructor <;> simp [apply_ite State.otp, apply_ite State.pending, apply_ite Prod.snd]

@[simp] theorem State.queueStats_keep (s : State) (x1 : _) :
    (State.queueStats s x1).otp = s.otp ∧ (State.queueStats s x1).pending = s.pending := by
  unfold State.queueStats
  constructor <;> simp [apply_ite State.otp, apply_ite State.pending, apply_ite Prod.snd]

@[simp] theorem State.stripResume_keep (s : State) (x : _) :
    (State.stripResume s x).otp = s.otp ∧ (State.stripResume s x).pending = s.pending := by
  unfold State.stripResume
  dsimp only
  constructor
  · rw [foldl_otp]; · simp
    intro s a; split <;> simp
  · rw [foldl_pending]; · simp
    intro s a; split <;> simp

@[simp] theorem State.remapDone_keep (s : State) (x1 : _) (x2 : _) :
    (State.remapDone s x1 x2).otp = s.otp ∧ (State.remapDone s x1 x2).pending = s.pending := by
  unfold State.remapDone; constructor <;> (repeat' split) <;> simp_all [apply_ite State.otp, apply_ite State.pending, apply_ite Prod.snd]

@[simp] theorem State.sqTailWrite_keep (s : State) (x1 : _) (x2 : _) (x3 : _) :
    (State.sqTailWrite s x1 x2 x3).otp = s.otp ∧ (State.sqTailWrite s x1 x2 x3).pending = s.pending := by
  unfold State.sqTailWrite
  constructor <;> simp [apply_ite State.otp, apply_ite State.pending, apply_ite Prod.snd]

@[simp] theorem State.mfiCheck_keep (s : State) (x1 : _) (x2 : _) :
    (State.mfiCheck s x1 x2).otp = s.otp ∧ (State.mfiCheck s x1 x2).pending = s.pending := by
  unfold State.mfiCheck
  constructor <;> simp [apply_ite State.otp, apply_ite State.pending, apply_ite Prod.snd]

@[simp] theorem State.traceByte_keep (s : State) (x1 : _) (x2 : _) (x3 : _) :
    (State.traceByte s x1 x2 x3).otp = s.otp ∧ (State.traceByte s x1 x2 x3).pending = s.pending := by
  unfold State.traceByte
  constructor <;> simp [apply_ite State.otp, apply_ite State.pending, apply_ite Prod.snd]

@[simp] theorem State.reachRx_keep (s : State) (x1 : _) (x2 : _) (x3 : _) :
    (State.reachRx s x1 x2 x3).otp = s.otp ∧ (State.reachRx s x1 x2 x3).pending = s.pending := by
  unfold State.reachRx
  constructor <;> simp [apply_ite State.otp, apply_ite State.pending, apply_ite Prod.snd]

@[simp] theorem State.fcEntry_keep (s : State) (x1 : _) :
    (State.fcEntry s x1).otp = s.otp ∧ (State.fcEntry s x1).pending = s.pending := by
  unfold State.fcEntry
  constructor <;> simp [apply_ite State.otp, apply_ite State.pending, apply_ite Prod.snd]

@[simp] theorem State.ohUse_keep (s : State) (x1 : _) (x2 : _) :
    (State.ohUse s x1 x2).otp = s.otp ∧ (State.ohUse s x1 x2).pending = s.pending := by
  unfold State.ohUse
  constructor <;> simp [apply_ite State.otp, apply_ite State.pending, apply_ite Prod.snd]

@[simp] theorem State.overheadRx_keep (s : State) (x1 : _) (x2 : _) (x3 : _) :
    (State.overheadRx s x1 x2 x3).otp = s.otp ∧ (State.overheadRx s x1 x2 x3).pending = s.pending := by
  unfold State.overheadRx
  constructor <;> simp [apply_ite State.otp, apply_ite State.pending, apply_ite Prod.snd]

@[simp] theorem State.bar2Write_keep (s : State) (x1 : _) (x2 : _) (x3 : _) :
    (State.bar2Write s x1 x2 x3).otp = s.otp ∧ (State.bar2Write s x1 x2 x3).pending = s.pending := by
  unfold State.bar2Write
  constructor <;> simp [apply_ite State.otp, apply_ite State.pending, apply_ite Prod.snd]

@[simp] theorem State.holdExpire_keep (s : State) (x1 : _) :
    (State.holdExpire s x1).otp = s.otp ∧ (State.holdExpire s x1).pending = s.pending := by
  change State.KeepBy id s (State.holdExpire s x1)
  unfold State.holdExpire
  repeat' (first
    | with_reducible exact State.keep_refl
    | (intro t
       have ht : State.KeepBy id s t := by
         simp only [t]
         constructor <;> simp only [id] <;> first
           | (simp [*, apply_ite State.otp, apply_ite State.pending, apply_ite Prod.snd]; done)
           | (split <;> simp [*, apply_ite State.otp, apply_ite State.pending, apply_ite Prod.snd]; done)
           | (simp [*, apply_ite State.otp, apply_ite State.pending, apply_ite Prod.snd]; split <;> simp [*, apply_ite State.otp, apply_ite State.pending, apply_ite Prod.snd]; done)
       clear_value t
       have ht1 : t.otp = s.otp := ht.1
       have ht2 : t.pending = s.pending := ht.2
       clear ht)
    | (intro x; clear_value x)
    | intro _
    | lift_lets
    | (show State.KeepBy _ _ _; split <;> (try (have hk := State.expire_some (by assumption); have hk1 := hk.1; have hk2 := hk.2; clear hk)))
    | (show State.KeepBy _ _ _
       constructor <;> simp only [id] <;> first
           | (simp [*, apply_ite State.otp, apply_ite State.pending, apply_ite Prod.snd]; done)
           | (split <;> simp [*, apply_ite State.otp, apply_ite State.pending, apply_ite Prod.snd]; done)
           | (simp [*, apply_ite State.otp, apply_ite State.pending, apply_ite Prod.snd]; split <;> simp [*, apply_ite State.otp, apply_ite State.pending, apply_ite Prod.snd]; done)))

@[simp] theorem State.disarmAll_keep (s : State) (x1 : _) :
    (State.disarmAll s x1).otp = s.otp ∧ (State.disarmAll s x1).pending = s.pending := by
  unfold State.disarmAll
  constructor <;> simp [apply_ite State.otp, apply_ite State.pending, apply_ite Prod.snd]

@[simp] theorem State.coreSweep_keep (s : State) :
    (State.coreSweep s).otp = s.otp ∧ (State.coreSweep s).pending = s.pending := by
  unfold State.coreSweep
  constructor <;> simp [apply_ite State.otp, apply_ite State.pending, apply_ite Prod.snd]

@[simp] theorem State.reordReset_keep (s : State) :
    (State.reordReset s).otp = s.otp ∧ (State.reordReset s).pending = s.pending := by
  unfold State.reordReset
  constructor <;> simp [apply_ite State.otp, apply_ite State.pending, apply_ite Prod.snd]

@[simp] theorem State.mgmtNack_keep (s : State) :
    (State.mgmtNack s).otp = s.otp ∧ (State.mgmtNack s).pending = s.pending := by
  unfold State.mgmtNack
  constructor <;> simp [apply_ite State.otp, apply_ite State.pending, apply_ite Prod.snd]

@[simp] theorem State.exportDone_keep (s : State) (x1 : _) :
    (State.exportDone s x1).otp = s.otp ∧ (State.exportDone s x1).pending = s.pending := by
  unfold State.exportDone
  constructor <;> simp [apply_ite State.otp, apply_ite State.pending, apply_ite Prod.snd]

@[simp] theorem State.portGoesDown_keep (s : State) (x1 : _) :
    (State.portGoesDown s x1).otp = s.otp ∧ (State.portGoesDown s x1).pending = s.pending := by
  unfold State.portGoesDown
  constructor <;> simp [apply_ite State.otp, apply_ite State.pending, apply_ite Prod.snd]

@[simp] theorem State.tempNow_keep (s : State) (x1 : _) (x2 : _) :
    (State.tempNow s x1 x2).otp = s.otp ∧ (State.tempNow s x1 x2).pending = s.pending := by
  unfold State.tempNow
  constructor <;> simp [apply_ite State.otp, apply_ite State.pending, apply_ite Prod.snd]

@[simp] theorem State.abortDone_keep (s : State) (x1 : _) :
    (State.abortDone s x1).otp = s.otp ∧ (State.abortDone s x1).pending = s.pending := by
  unfold State.abortDone
  constructor <;> simp [apply_ite State.otp, apply_ite State.pending, apply_ite Prod.snd]

@[simp] theorem State.cancelFlip_keep (s : State) :
    (State.cancelFlip s).otp = s.otp ∧ (State.cancelFlip s).pending = s.pending := by
  unfold State.cancelFlip
  simp only [apply_ite State.otp, apply_ite State.pending, apply_ite Prod.snd]
  constructor <;> repeat' (first
    | rfl
    | (simp; done)
    | intro _
    | (split <;> (try (simp only [Prod.ext_iff] at *; casesm* _ ∧ _; subst_vars)))
    | (simp_all [apply_ite State.otp, apply_ite State.pending, apply_ite Prod.snd]; done))

@[simp] theorem State.epochAbort_keep (s : State) (x1 : _) :
    (State.epochAbort s x1).otp = s.otp ∧ (State.epochAbort s x1).pending = s.pending := by
  unfold State.epochAbort; constructor <;> (repeat' split) <;> simp_all [apply_ite State.otp, apply_ite State.pending, apply_ite Prod.snd]

@[simp] theorem State.storeScrub_keep (s : State) (x1 : _) :
    (State.storeScrub s x1).otp = s.otp ∧ (State.storeScrub s x1).pending = s.pending := by
  unfold State.storeScrub
  constructor <;> simp [apply_ite State.otp, apply_ite State.pending, apply_ite Prod.snd]

@[simp] theorem State.groupRead_keep (s : State) (x1 : _) :
    (State.groupRead s x1).otp = s.otp ∧ (State.groupRead s x1).pending = s.pending := by
  unfold State.groupRead
  constructor <;> simp [apply_ite State.otp, apply_ite State.pending, apply_ite Prod.snd]

@[simp] theorem State.commitStaged_keep (s : State) (x1 : _) :
    (State.commitStaged s x1).otp = s.otp ∧ (State.commitStaged s x1).pending = s.pending := by
  unfold State.commitStaged; constructor <;> (repeat' split) <;> simp_all [apply_ite State.otp, apply_ite State.pending, apply_ite Prod.snd]

@[simp] theorem State.setTs_keep (s : State) (x1 : _) (x2 : _) :
    (State.setTs s x1 x2).otp = s.otp ∧ (State.setTs s x1 x2).pending = s.pending := by
  unfold State.setTs; constructor <;> (repeat' split) <;> simp_all [apply_ite State.otp, apply_ite State.pending, apply_ite Prod.snd]

@[simp] theorem State.chanReset_keep (s : State) :
    (State.chanReset s).otp = s.otp ∧ (State.chanReset s).pending = s.pending := by
  unfold State.chanReset
  constructor <;> simp [apply_ite State.otp, apply_ite State.pending, apply_ite Prod.snd]

@[simp] theorem State.queuesReset_keep (s : State) :
    (State.queuesReset s).otp = s.otp ∧ (State.queuesReset s).pending = s.pending := by
  unfold State.queuesReset
  constructor <;> simp [apply_ite State.otp, apply_ite State.pending, apply_ite Prod.snd]

@[simp] theorem State.mcastReset_keep (s : State) :
    (State.mcastReset s).otp = s.otp ∧ (State.mcastReset s).pending = s.pending := by
  unfold State.mcastReset
  constructor <;> simp [apply_ite State.otp, apply_ite State.pending, apply_ite Prod.snd]

@[simp] theorem State.loseCommands_keep (s : State) :
    (State.loseCommands s).otp = s.otp ∧ (State.loseCommands s).pending = s.pending := by
  unfold State.loseCommands
  constructor <;> simp [apply_ite State.otp, apply_ite State.pending, apply_ite Prod.snd]

@[simp] theorem State.gatesReset_keep (s : State) :
    (State.gatesReset s).otp = s.otp ∧ (State.gatesReset s).pending = s.pending := by
  unfold State.gatesReset
  constructor <;> simp [apply_ite State.otp, apply_ite State.pending, apply_ite Prod.snd]

@[simp] theorem State.policersFull_keep (s : State) :
    (State.policersFull s).otp = s.otp ∧ (State.policersFull s).pending = s.pending := by
  unfold State.policersFull
  constructor <;> simp [apply_ite State.otp, apply_ite State.pending, apply_ite Prod.snd]

@[simp] theorem State.sprayReset_keep (s : State) :
    (State.sprayReset s).otp = s.otp ∧ (State.sprayReset s).pending = s.pending := by
  unfold State.sprayReset
  constructor <;> simp [apply_ite State.otp, apply_ite State.pending, apply_ite Prod.snd]

@[simp] theorem State.cellsReset_keep (s : State) :
    (State.cellsReset s).otp = s.otp ∧ (State.cellsReset s).pending = s.pending := by
  unfold State.cellsReset
  constructor <;> simp [apply_ite State.otp, apply_ite State.pending, apply_ite Prod.snd]

@[simp] theorem State.clearIrq_keep (s : State) :
    (State.clearIrq s).otp = s.otp ∧ (State.clearIrq s).pending = s.pending := by
  unfold State.clearIrq
  constructor <;> simp [apply_ite State.otp, apply_ite State.pending, apply_ite Prod.snd]

@[simp] theorem State.loseRec_keep (s : State) (x1 : _) :
    (State.loseRec s x1).otp = s.otp ∧ (State.loseRec s x1).pending = s.pending := by
  unfold State.loseRec
  constructor <;> simp [apply_ite State.otp, apply_ite State.pending, apply_ite Prod.snd]

@[simp] theorem State.resetEffect_keep (s : State) (x1 : _) :
    (State.resetEffect s x1).otp = s.otp ∧ (State.resetEffect s x1).pending = s.pending := by
  unfold State.resetEffect
  constructor <;> simp [apply_ite State.otp, apply_ite State.pending, apply_ite Prod.snd]

@[simp] theorem State.resetRwe_keep (s : State) (x1 : _) (x2 : _) :
    (State.resetRwe s x1 x2).otp = s.otp ∧ (State.resetRwe s x1 x2).pending = s.pending := by
  unfold State.resetRwe
  constructor <;> simp [apply_ite State.otp, apply_ite State.pending, apply_ite Prod.snd]

@[simp] theorem State.dropHostQueues_keep (s : State) :
    (State.dropHostQueues s).otp = s.otp ∧ (State.dropHostQueues s).pending = s.pending := by
  unfold State.dropHostQueues
  constructor <;> simp [apply_ite State.otp, apply_ite State.pending, apply_ite Prod.snd]

@[simp] theorem State.resetAfter_keep (s : State) (x1 : _) :
    (State.resetAfter s x1).otp = s.otp ∧ (State.resetAfter s x1).pending = s.pending := by
  unfold State.resetAfter
  constructor <;> simp [apply_ite State.otp, apply_ite State.pending, apply_ite Prod.snd]

@[simp] theorem State.blockReset_keep (s : State) (x1 : _) :
    (State.blockReset s x1).otp = s.otp ∧ (State.blockReset s x1).pending = s.pending := by
  unfold State.blockReset
  constructor <;> simp [apply_ite State.otp, apply_ite State.pending, apply_ite Prod.snd]

@[simp] theorem State.actStart_keep (s : State) (x1 : _) :
    (State.actStart s x1).otp = s.otp ∧ (State.actStart s x1).pending = s.pending := by
  unfold State.actStart
  constructor <;> simp [apply_ite State.otp, apply_ite State.pending, apply_ite Prod.snd]

@[simp] theorem State.reserveCheck_keep (s : State) :
    (State.reserveCheck s).otp = s.otp ∧ (State.reserveCheck s).pending = s.pending := by
  unfold State.reserveCheck
  constructor <;> simp [apply_ite State.otp, apply_ite State.pending, apply_ite Prod.snd]

@[simp] theorem State.recordWrite_keep (s : State) (x1 : _) :
    (State.recordWrite s x1).otp = s.otp ∧ (State.recordWrite s x1).pending = s.pending := by
  unfold State.recordWrite
  constructor <;> simp [apply_ite State.otp, apply_ite State.pending, apply_ite Prod.snd]

@[simp] theorem State.traceSel_keep (s : State) (x1 : _) (x2 : _) (x3 : _) :
    (State.traceSel s x1 x2 x3).otp = s.otp ∧ (State.traceSel s x1 x2 x3).pending = s.pending := by
  unfold State.traceSel
  constructor <;> simp [apply_ite State.otp, apply_ite State.pending, apply_ite Prod.snd]

@[simp] theorem State.traceWrite_keep (s : State) (x1 : _) (x2 : _) :
    (State.traceWrite s x1 x2).otp = s.otp ∧ (State.traceWrite s x1 x2).pending = s.pending := by
  unfold State.traceWrite
  constructor <;> simp [apply_ite State.otp, apply_ite State.pending, apply_ite Prod.snd]

@[simp] theorem State.portCtrlWrite_keep (s : State) (x1 : _) :
    (State.portCtrlWrite s x1).otp = s.otp ∧ (State.portCtrlWrite s x1).pending = s.pending := by
  unfold State.portCtrlWrite
  constructor <;> simp [apply_ite State.otp, apply_ite State.pending, apply_ite Prod.snd]

@[simp] theorem State.polSel_keep (s : State) (x1 : _) :
    (State.polSel s x1).otp = s.otp ∧ (State.polSel s x1).pending = s.pending := by
  unfold State.polSel
  constructor <;> simp [apply_ite State.otp, apply_ite State.pending, apply_ite Prod.snd]

@[simp] theorem State.setPolicer_keep (s : State) (x1 : _) (x2 : _) :
    (State.setPolicer s x1 x2).otp = s.otp ∧ (State.setPolicer s x1 x2).pending = s.pending := by
  unfold State.setPolicer
  constructor <;> simp [apply_ite State.otp, apply_ite State.pending, apply_ite Prod.snd]

@[simp] theorem State.policerWrite_keep (s : State) (x1 : _) :
    (State.policerWrite s x1).otp = s.otp ∧ (State.policerWrite s x1).pending = s.pending := by
  unfold State.policerWrite
  constructor <;> simp [apply_ite State.otp, apply_ite State.pending, apply_ite Prod.snd]

@[simp] theorem State.copyActive_keep (s : State) :
    (State.copyActive s).otp = s.otp ∧ (State.copyActive s).pending = s.pending := by
  unfold State.copyActive
  constructor <;> simp [apply_ite State.otp, apply_ite State.pending, apply_ite Prod.snd]

@[simp] theorem State.shaperLoad_keep (s : State) (x1 : _) :
    (State.shaperLoad s x1).otp = s.otp ∧ (State.shaperLoad s x1).pending = s.pending := by
  unfold State.shaperLoad
  simp only [apply_ite State.otp, apply_ite State.pending, apply_ite Prod.snd]
  constructor <;> repeat' (first
    | rfl
    | (simp; done)
    | intro _
    | (split <;> (try (simp only [Prod.ext_iff] at *; casesm* _ ∧ _; subst_vars)))
    | (simp_all [apply_ite State.otp, apply_ite State.pending, apply_ite Prod.snd]; done))

@[simp] theorem State.clsprofWrite_keep (s : State) (x1 : _) :
    (State.clsprofWrite s x1).otp = s.otp ∧ (State.clsprofWrite s x1).pending = s.pending := by
  unfold State.clsprofWrite
  constructor <;> simp [apply_ite State.otp, apply_ite State.pending, apply_ite Prod.snd]

@[simp] theorem State.setQprof_keep (s : State) (x1 : _) (x2 : _) :
    (State.setQprof s x1 x2).otp = s.otp ∧ (State.setQprof s x1 x2).pending = s.pending := by
  unfold State.setQprof
  constructor <;> simp [apply_ite State.otp, apply_ite State.pending, apply_ite Prod.snd]

@[simp] theorem State.qprofWrite_keep (s : State) (x1 : _) :
    (State.qprofWrite s x1).otp = s.otp ∧ (State.qprofWrite s x1).pending = s.pending := by
  unfold State.qprofWrite
  constructor <;> simp [apply_ite State.otp, apply_ite State.pending, apply_ite Prod.snd]

@[simp] theorem State.policerRead_keep (s : State) (x1 : _) :
    (State.policerRead s x1).otp = s.otp ∧ (State.policerRead s x1).pending = s.pending := by
  unfold State.policerRead
  constructor <;> simp [apply_ite State.otp, apply_ite State.pending, apply_ite Prod.snd]

@[simp] theorem State.installGo_keep (s : State) :
    (State.installGo s).otp = s.otp ∧ (State.installGo s).pending = s.pending := by
  unfold State.installGo
  simp only [apply_ite State.otp, apply_ite State.pending, apply_ite Prod.snd]
  constructor <;> repeat' (first
    | rfl
    | (simp; done)
    | intro _
    | (split <;> (try (simp only [Prod.ext_iff] at *; casesm* _ ∧ _; subst_vars)))
    | (simp_all [apply_ite State.otp, apply_ite State.pending, apply_ite Prod.snd]; done))

@[simp] theorem State.recRingHead_keep (s : State) (x1 : _) (x2 : _) :
    (State.recRingHead s x1 x2).otp = s.otp ∧ (State.recRingHead s x1 x2).pending = s.pending := by
  unfold State.recRingHead
  constructor <;> simp [apply_ite State.otp, apply_ite State.pending, apply_ite Prod.snd]

@[simp] theorem State.pendAccess_keep (s : State) (x1 : _) :
    (State.pendAccess s x1).otp = s.otp ∧ (State.pendAccess s x1).pending = s.pending := by
  unfold State.pendAccess; constructor <;> (repeat' split) <;> simp_all [apply_ite State.otp, apply_ite State.pending, apply_ite Prod.snd]

@[simp] theorem State.gateRead_keep (s : State) (x1 : _) :
    (State.gateRead s x1).otp = s.otp ∧ (State.gateRead s x1).pending = s.pending := by
  unfold State.gateRead
  constructor <;> simp [apply_ite State.otp, apply_ite State.pending, apply_ite Prod.snd]

@[simp] theorem State.traceFree_keep (s : State) (x1 : _) :
    (State.traceFree s x1).otp = s.otp ∧ (State.traceFree s x1).pending = s.pending := by
  unfold State.traceFree
  constructor <;> simp [apply_ite State.otp, apply_ite State.pending, apply_ite Prod.snd]

@[simp] theorem State.traceRead_keep (s : State) (x1 : _) (x2 : _) :
    (State.traceRead s x1 x2).otp = s.otp ∧ (State.traceRead s x1 x2).pending = s.pending := by
  change State.KeepBy id s (State.traceRead s x1 x2)
  unfold State.traceRead
  repeat' (first
    | with_reducible exact State.keep_refl
    | (intro t
       have ht : State.KeepBy id s t := by
         simp only [t]
         constructor <;> simp only [id] <;> first
           | (simp [*, apply_ite State.otp, apply_ite State.pending, apply_ite Prod.snd]; done)
           | (split <;> simp [*, apply_ite State.otp, apply_ite State.pending, apply_ite Prod.snd]; done)
           | (simp [*, apply_ite State.otp, apply_ite State.pending, apply_ite Prod.snd]; split <;> simp [*, apply_ite State.otp, apply_ite State.pending, apply_ite Prod.snd]; done)
       clear_value t
       have ht1 : t.otp = s.otp := ht.1
       have ht2 : t.pending = s.pending := ht.2
       clear ht)
    | (intro x; clear_value x)
    | intro _
    | lift_lets
    | (show State.KeepBy _ _ _; split)
    | (show State.KeepBy _ _ _
       constructor <;> simp only [id] <;> first
           | (simp [*, apply_ite State.otp, apply_ite State.pending, apply_ite Prod.snd]; done)
           | (split <;> simp [*, apply_ite State.otp, apply_ite State.pending, apply_ite Prod.snd]; done)
           | (simp [*, apply_ite State.otp, apply_ite State.pending, apply_ite Prod.snd]; split <;> simp [*, apply_ite State.otp, apply_ite State.pending, apply_ite Prod.snd]; done)))

@[simp] theorem State.shprofWrite_keep (s : State) (x1 : _) :
    (State.shprofWrite s x1).otp = s.otp ∧ (State.shprofWrite s x1).pending = s.pending := by
  unfold State.shprofWrite
  constructor <;> simp [apply_ite State.otp, apply_ite State.pending, apply_ite Prod.snd]

@[simp] theorem State.groupWrite_keep (s : State) (x1 : _) :
    (State.groupWrite s x1).otp = s.otp ∧ (State.groupWrite s x1).pending = s.pending := by
  unfold State.groupWrite
  constructor <;> simp [apply_ite State.otp, apply_ite State.pending, apply_ite Prod.snd]

@[simp] theorem State.expressNow_keep (s : State) :
    (State.expressNow s).otp = s.otp ∧ (State.expressNow s).pending = s.pending := by
  unfold State.expressNow
  constructor <;> simp [apply_ite State.otp, apply_ite State.pending, apply_ite Prod.snd]

@[simp] theorem State.nodeRead_keep (s : State) (x1 : _) :
    (State.nodeRead s x1).otp = s.otp ∧ (State.nodeRead s x1).pending = s.pending := by
  unfold State.nodeRead; constructor <;> (repeat' split) <;> simp_all [apply_ite State.otp, apply_ite State.pending, apply_ite Prod.snd]

@[simp] theorem State.depthArm_keep (s : State) :
    (State.depthArm s).otp = s.otp ∧ (State.depthArm s).pending = s.pending := by
  unfold State.depthArm
  constructor <;> simp [apply_ite State.otp, apply_ite State.pending, apply_ite Prod.snd]

@[simp] theorem State.qprofRead_keep (s : State) (x1 : _) :
    (State.qprofRead s x1).otp = s.otp ∧ (State.qprofRead s x1).pending = s.pending := by
  unfold State.qprofRead
  constructor <;> simp [apply_ite State.otp, apply_ite State.pending, apply_ite Prod.snd]

@[simp] theorem State.recRingCtrl_keep (s : State) (x1 : _) (x2 : _) :
    (State.recRingCtrl s x1 x2).otp = s.otp ∧ (State.recRingCtrl s x1 x2).pending = s.pending := by
  unfold State.recRingCtrl; constructor <;> (repeat' split) <;> simp_all [apply_ite State.otp, apply_ite State.pending, apply_ite Prod.snd]

theorem State.actFabric_some {s : State} {P o v : _} {u : State} (h : State.actFabric s P o v = some u) :
    u.otp = s.otp ∧ u.pending = s.pending := by
  have links (k : Nat) : s.KeepO (if 0x100 ≤ o && o < 0x180 then some (s.linkCfg (32 * k + (o - 0x100) / 4) v)
      else if o = 0x288 then (if k = 0 then none else some s)
      else if o = 0x300 then goOp v 9 8 (fun s v => s.traceRead k v) (fun s v => s.traceWrite k v) s
      else none) :=
    State.keepO_ite (State.keepO_some (by simp)) (State.keepO_ite
      (State.keepO_ite State.keepO_none (State.keepO_some ⟨rfl, rfl⟩)) (State.keepO_ite
        (State.keepO_go (fun v => by simp) (fun v => by simp)) State.keepO_none))
  have key : s.KeepO (State.actFabric s P o v) := by
    unfold State.actFabric
    generalize pageBase P = b
    split
    · exact links _
    · dsimp only
      repeat' (first
        | exact State.keepO_none
        | with_reducible refine State.keepO_ite ?_ ?_
        | with_reducible refine State.keepO_some ?_)
      all_goals (constructor <;> simp [apply_ite State.otp, apply_ite State.pending])
    all_goals repeat' (first
      | exact State.keepO_none
      | with_reducible refine State.keepO_ite ?_ ?_
      | with_reducible refine State.keepO_go (fun v => ?_) (fun v => ?_)
      | with_reducible refine State.keepO_some ?_)
    all_goals (constructor <;> simp [apply_ite State.otp, apply_ite State.pending])
  exact key u h

@[simp] theorem State.timeOffset_keep (s : State) :
    (State.timeOffset s).otp = s.otp ∧ (State.timeOffset s).pending = s.pending := by
  unfold State.timeOffset
  constructor <;> simp [apply_ite State.otp, apply_ite State.pending, apply_ite Prod.snd]

@[simp] theorem State.ppsCtrl_keep (s : State) (x1 : _) :
    (State.ppsCtrl s x1).otp = s.otp ∧ (State.ppsCtrl s x1).pending = s.pending := by
  unfold State.ppsCtrl
  constructor <;> simp [apply_ite State.otp, apply_ite State.pending, apply_ite Prod.snd]

@[simp] theorem State.traceSeed_keep (s : State) (x1 : _) :
    (State.traceSeed s x1).otp = s.otp ∧ (State.traceSeed s x1).pending = s.pending := by
  unfold State.traceSeed
  constructor <;> simp [apply_ite State.otp, apply_ite State.pending, apply_ite Prod.snd]

@[simp] theorem State.preemptCfg_keep (s : State) (x1 : _) (x2 : _) :
    (State.preemptCfg s x1 x2).otp = s.otp ∧ (State.preemptCfg s x1 x2).pending = s.pending := by
  unfold State.preemptCfg
  constructor <;> simp [apply_ite State.otp, apply_ite State.pending, apply_ite Prod.snd]

@[simp] theorem State.portEnable_keep (s : State) (x1 : _) (x2 : _) :
    (State.portEnable s x1 x2).otp = s.otp ∧ (State.portEnable s x1 x2).pending = s.pending := by
  unfold State.portEnable; constructor <;> (repeat' split) <;> simp_all [apply_ite State.otp, apply_ite State.pending, apply_ite Prod.snd]

@[simp] theorem State.setMeter_keep (s : State) (x1 : _) (x2 : _) :
    (State.setMeter s x1 x2).otp = s.otp ∧ (State.setMeter s x1 x2).pending = s.pending := by
  unfold State.setMeter
  constructor <;> simp [apply_ite State.otp, apply_ite State.pending, apply_ite Prod.snd]

@[simp] theorem State.meterTouch_keep (s : State) (x1 : _) :
    (State.meterTouch s x1).otp = s.otp ∧ (State.meterTouch s x1).pending = s.pending := by
  unfold State.meterTouch
  constructor <;> simp [apply_ite State.otp, apply_ite State.pending, apply_ite Prod.snd]

@[simp] theorem State.setRxRec_keep (s : State) (x1 : _) (x2 : _) :
    (State.setRxRec s x1 x2).otp = s.otp ∧ (State.setRxRec s x1 x2).pending = s.pending := by
  unfold State.setRxRec
  constructor <;> simp [apply_ite State.otp, apply_ite State.pending, apply_ite Prod.snd]

@[simp] theorem State.streamSel_keep (s : State) (x1 : _) :
    (State.streamSel s x1).otp = s.otp ∧ (State.streamSel s x1).pending = s.pending := by
  unfold State.streamSel
  constructor <;> simp [apply_ite State.otp, apply_ite State.pending, apply_ite Prod.snd]

@[simp] theorem State.protWrite_keep (s : State) (x1 : _) :
    (State.protWrite s x1).otp = s.otp ∧ (State.protWrite s x1).pending = s.pending := by
  unfold State.protWrite
  constructor <;> simp [apply_ite State.otp, apply_ite State.pending, apply_ite Prod.snd]

@[simp] theorem State.protData_keep (s : State) (x1 : _) (x2 : _) (x3 : _) :
    (State.protData s x1 x2 x3).otp = s.otp ∧ (State.protData s x1 x2 x3).pending = s.pending := by
  unfold State.protData
  constructor <;> simp [apply_ite State.otp, apply_ite State.pending, apply_ite Prod.snd]

@[simp] theorem State.protRead_keep (s : State) (x1 : _) :
    (State.protRead s x1).otp = s.otp ∧ (State.protRead s x1).pending = s.pending := by
  unfold State.protRead
  constructor <;> simp [apply_ite State.otp, apply_ite State.pending, apply_ite Prod.snd]

@[simp] theorem State.holdWrite_keep (s : State) (x1 : _) :
    (State.holdWrite s x1).otp = s.otp ∧ (State.holdWrite s x1).pending = s.pending := by
  unfold State.holdWrite
  constructor <;> simp [apply_ite State.otp, apply_ite State.pending, apply_ite Prod.snd]

theorem State.actFe_some {s : State} {P o v : _} {u : State} (h : State.actFe s P o v = some u) :
    u.otp = s.otp ∧ u.pending = s.pending := by
  unfold State.actFe at h
  dsimp only at h
  (repeat' split at h)
  all_goals first
    | (rw [← Option.some.inj h]; simp; done)
    | exact goOp_some h (fun v => by simp) (fun v => by simp)
    | (cases h; done)

@[simp] theorem State.freezeWrite_keep (s : State) (x1 : _) :
    (State.freezeWrite s x1).otp = s.otp ∧ (State.freezeWrite s x1).pending = s.pending := by
  unfold State.freezeWrite
  constructor <;> simp [apply_ite State.otp, apply_ite State.pending, apply_ite Prod.snd]

@[simp] theorem State.exportGo_keep (s : State) :
    (State.exportGo s).otp = s.otp ∧ (State.exportGo s).pending = s.pending := by
  unfold State.exportGo
  constructor <;> simp [apply_ite State.otp, apply_ite State.pending, apply_ite Prod.snd]

@[simp] theorem State.ddrDisable_keep (s : State) :
    (State.ddrDisable s).otp = s.otp ∧ (State.ddrDisable s).pending = s.pending := by
  unfold State.ddrDisable
  constructor <;> simp [apply_ite State.otp, apply_ite State.pending, apply_ite Prod.snd]

@[simp] theorem State.memGo_keep (s : State) (x1 : _) :
    (State.memGo s x1).otp = s.otp ∧ (State.memGo s x1).pending = s.pending := by
  unfold State.memGo
  constructor <;> simp [apply_ite State.otp, apply_ite State.pending, apply_ite Prod.snd]

@[simp] theorem State.sumLoad_keep (s : State) (x1 : _) :
    (State.sumLoad s x1).otp = s.otp ∧ (State.sumLoad s x1).pending = s.pending := by
  unfold State.sumLoad
  constructor <;> simp [apply_ite State.otp, apply_ite State.pending, apply_ite Prod.snd]

@[simp] theorem State.setTh_keep (s : State) (x1 : _) :
    (State.setTh s x1).otp = s.otp ∧ (State.setTh s x1).pending = s.pending := by
  unfold State.setTh
  constructor <;> simp [apply_ite State.otp, apply_ite State.pending, apply_ite Prod.snd]

@[simp] theorem State.avsCtrl_keep (s : State) (x1 : _) :
    (State.avsCtrl s x1).otp = s.otp ∧ (State.avsCtrl s x1).pending = s.pending := by
  unfold State.avsCtrl
  constructor <;> simp [apply_ite State.otp, apply_ite State.pending, apply_ite Prod.snd]

@[simp] theorem State.aliveHalt_keep (s : State) (x1 : _) :
    (State.aliveHalt s x1).otp = s.otp ∧ (State.aliveHalt s x1).pending = s.pending := by
  unfold State.aliveHalt
  simp only [apply_ite State.otp, apply_ite State.pending, apply_ite Prod.snd]
  constructor <;> repeat' (first
    | rfl
    | (simp; done)
    | intro _
    | (split <;> (try (simp only [Prod.ext_iff] at *; casesm* _ ∧ _; subst_vars)))
    | (simp_all [apply_ite State.otp, apply_ite State.pending, apply_ite Prod.snd]; done))

@[simp] theorem State.freqGo_keep (s : State) :
    (State.freqGo s).otp = s.otp ∧ (State.freqGo s).pending = s.pending := by
  unfold State.freqGo
  simp only [apply_ite State.otp, apply_ite State.pending, apply_ite Prod.snd]
  constructor <;> repeat' (first
    | rfl
    | (simp; done)
    | intro _
    | (split <;> (try (simp only [Prod.ext_iff] at *; casesm* _ ∧ _; subst_vars)))
    | (simp_all [apply_ite State.otp, apply_ite State.pending, apply_ite Prod.snd]; done))

@[simp] theorem State.aliveRestart_keep (s : State) :
    (State.aliveRestart s).otp = s.otp ∧ (State.aliveRestart s).pending = s.pending := by
  unfold State.aliveRestart
  constructor <;> simp [apply_ite State.otp, apply_ite State.pending, apply_ite Prod.snd]

@[simp] theorem State.hbHold_keep (s : State) (x1 : _) :
    (State.hbHold s x1).otp = s.otp ∧ (State.hbHold s x1).pending = s.pending := by
  unfold State.hbHold
  constructor <;> simp [apply_ite State.otp, apply_ite State.pending, apply_ite Prod.snd]

theorem State.actSupport_some {s : State} {a P o v : _} {u : State} (h : State.actSupport s a P o v = some u) :
    u.otp = s.otp ∧ u.pending = s.pending := by
  unfold State.actSupport at h
  dsimp only at h
  (repeat' split at h)
  all_goals first
    | (cases h; done)
    | exact goOp_some h (fun v => by simp) (fun v => by simp)
    | (cases Option.some.inj h; simp; done)

@[simp] theorem State.fwOk_keep (s : State) :
    (State.fwOk s).otp = s.otp ∧ (State.fwOk s).pending = s.pending := by
  unfold State.fwOk
  constructor <;> simp [apply_ite State.otp, apply_ite State.pending, apply_ite Prod.snd]

@[simp] theorem State.fwErr_keep (s : State) (x1 : _) :
    (State.fwErr s x1).otp = s.otp ∧ (State.fwErr s x1).pending = s.pending := by
  unfold State.fwErr
  constructor <;> simp [apply_ite State.otp, apply_ite State.pending, apply_ite Prod.snd]

@[simp] theorem State.fwConfirm_keep (s : State) :
    (State.fwConfirm s).otp = s.otp ∧ (State.fwConfirm s).pending = s.pending := by
  unfold State.fwConfirm
  constructor <;> simp [apply_ite State.otp, apply_ite State.pending, apply_ite Prod.snd]

@[simp] theorem State.bootRetry_keep (s : State) :
    (State.bootRetry s).otp = s.otp ∧ (State.bootRetry s).pending = s.pending := by
  unfold State.bootRetry
  constructor <;> simp [apply_ite State.otp, apply_ite State.pending, apply_ite Prod.snd]

@[simp] theorem State.settlePba_keep (s : State) :
    (State.settlePba s).otp = s.otp ∧ (State.settlePba s).pending = s.pending := by
  unfold State.settlePba
  exact ⟨rfl, rfl⟩

@[simp] theorem State.sendHeld_keep (s : State) (l : _) :
    (State.sendHeld s l).otp = s.otp ∧ (State.sendHeld s l).pending = s.pending := by
  unfold State.sendHeld
  constructor
  · rw [foldl_otp]; intro s n; dsimp only; (repeat' split) <;> simp
  · rw [foldl_pending]; intro s n; dsimp only; (repeat' split) <;> simp

@[simp] theorem State.causeMoved_keep (s : State) (x1 : _) :
    (State.causeMoved s x1).otp = s.otp ∧ (State.causeMoved s x1).pending = s.pending := by
  unfold State.causeMoved
  constructor <;> simp [apply_ite State.otp, apply_ite State.pending, apply_ite Prod.snd]

@[simp] theorem State.fwStage_keep (s : State) :
    (State.fwStage s).otp = s.otp ∧ (State.fwStage s).pending = s.pending := by
  unfold State.fwStage
  constructor <;> simp [apply_ite State.otp, apply_ite State.pending, apply_ite Prod.snd]

@[simp] theorem State.dresAck_keep (s : State) :
    (State.dresAck s).otp = s.otp ∧ (State.dresAck s).pending = s.pending := by
  unfold State.dresAck
  constructor <;> simp [apply_ite State.otp, apply_ite State.pending, apply_ite Prod.snd]

@[simp] theorem State.fwSwitch_keep (s : State) :
    (State.fwSwitch s).otp = s.otp ∧ (State.fwSwitch s).pending = s.pending := by
  unfold State.fwSwitch
  constructor <;> simp [apply_ite State.otp, apply_ite State.pending, apply_ite Prod.snd]

theorem State.actHost_some {s : State} {P o v : _} {u : State} (h : State.actHost s P o v = some u) :
    u.otp = s.otp ∧ u.pending = s.pending := by
  unfold State.actHost at h
  dsimp only at h
  (repeat' split at h)
  all_goals first
    | (cases h; done)
    | exact goOp_some h (fun v => by simp) (fun v => by simp)
    | (cases Option.some.inj h; simp; done)

theorem State.actWrite_some {s : State} {a P o v : _} {u : State} (h : State.actWrite s a P o v = some u) :
    u.otp = s.otp ∧ u.pending = s.pending := by
  unfold State.actWrite at h
  split at h
  · exact State.actFe_some h
  split at h
  · exact State.actHost_some h
  split at h
  · exact State.actFabric_some h
  · exact State.actSupport_some h

@[simp] theorem State.blockWrite_keep (s : State) (a P o v : _) :
    (State.blockWrite s a P o v).otp = s.otp ∧ (State.blockWrite s a P o v).pending = s.pending := by
  apply State.keep_of
  unfold State.blockWrite
  extract_lets +onlyGivenNames ps
  split
  · exact State.keep_to (by simp)
  extract_lets +onlyGivenNames p locked cur new isRwl lockHit busyHit ve was w
  have hw : w.otp = s.otp ∧ w.pending = s.pending := by
    simp only [w]
    cases h : s.actWrite a P o ve with
    | none => simp
    | some u => exact State.actWrite_some h
  clear_value w busyHit lockHit ve was
  apply State.keep_to
  constructor <;> simp [hw, apply_ite State.otp, apply_ite State.pending]

@[simp] theorem State.wordStore_keep (s : State) (x1 : _) (x2 : _) (x3 : _) (x4 : _) (x5 : _) :
    (State.wordStore s x1 x2 x3 x4 x5).otp = s.otp ∧ (State.wordStore s x1 x2 x3 x4 x5).pending = s.pending := by
  unfold State.wordStore
  constructor <;> simp [apply_ite State.otp, apply_ite State.pending, apply_ite Prod.snd]

@[simp] theorem State.busStore_keep (s : State) (x1 : _) (x2 : _) (x3 : _) (x4 : _) :
    (State.busStore s x1 x2 x3 x4).otp = s.otp ∧ (State.busStore s x1 x2 x3 x4).pending = s.pending := by
  unfold State.busStore
  constructor <;> simp [apply_ite State.otp, apply_ite State.pending, apply_ite Prod.snd]

@[simp] theorem State.busWrite_keep (s : State) (x1 : _) (x2 : _) (x3 : _) (x4 : _) :
    (State.busWrite s x1 x2 x3 x4).otp = s.otp ∧ (State.busWrite s x1 x2 x3 x4).pending = s.pending := by
  unfold State.busWrite
  constructor <;> simp [apply_ite State.otp, apply_ite State.pending, apply_ite Prod.snd]

@[simp] theorem State.sendPending_keep (s : State) :
    (State.sendPending s).otp = s.otp ∧ (State.sendPending s).pending = s.pending :=
  ⟨(State.settlePba_keep _).1.trans (State.sendHeld_keep s _).1, (State.settlePba_keep _).2.trans (State.sendHeld_keep s _).2⟩

@[simp] theorem State.hostInterfaceReset_keep (s : State) (x1 : _) :
    (State.hostInterfaceReset s x1).otp = s.otp ∧ (State.hostInterfaceReset s x1).pending = s.pending := by
  unfold State.hostInterfaceReset
  constructor <;> simp [apply_ite State.otp, apply_ite State.pending, apply_ite Prod.snd]

@[simp] theorem State.cfgPut_keep (s : State) (o v : _) :
    (State.cfgPut s o v).otp = s.otp ∧ (State.cfgPut s o v).pending = s.pending := by
  unfold State.cfgPut
  dsimp only
  split <;> (try split) <;> first | (simp; done) | exact ⟨rfl, rfl⟩

end Sys2Proof.Machine
end

