-- ==== Sys2Proof/Laws/Keep5.lean ====
section
/-! SUPPORT. Frame laws of the shared operations, part 5 of 6: no operation writes the one-time-programmable array (but
`State.burn` and what calls it) and none touches the queue of waiting commands. An operation that answers a state has a
law `…_keep`; one that may answer nothing has a law `…_some` about the state it answers. -/

namespace Sys2Proof.Machine

set_option linter.unusedSimpArgs false
set_option linter.unusedTactic false
set_option linter.unreachableTactic false
set_option linter.unusedVariables false

@[simp] theorem State.cfgStore_keep (s : State) (x1 : _) (x2 : _) (x3 : _) :
    (State.cfgStore s x1 x2 x3).otp = s.otp ∧ (State.cfgStore s x1 x2 x3).pending = s.pending := by
  unfold State.cfgStore
  constructor <;> simp [apply_ite State.otp, apply_ite State.pending, apply_ite Prod.snd]

@[simp] theorem State.cfgWrite_keep (s : State) (x1 : _) (x2 : _) (x3 : _) :
    (State.cfgWrite s x1 x2 x3).otp = s.otp ∧ (State.cfgWrite s x1 x2 x3).pending = s.pending := by
  unfold State.cfgWrite
  constructor <;> simp [apply_ite State.otp, apply_ite State.pending, apply_ite Prod.snd]

@[simp] theorem State.vecWrite_keep (s : State) (x1 : _) (x2 : _) (x3 : _) :
    (State.vecWrite s x1 x2 x3).otp = s.otp ∧ (State.vecWrite s x1 x2 x3).pending = s.pending := by
  unfold State.vecWrite
  constructor <;> simp [apply_ite State.otp, apply_ite State.pending, apply_ite Prod.snd]

@[simp] theorem State.puntTailWrite_keep (s : State) (x1 : _) (x2 : _) (x3 : _) :
    (State.puntTailWrite s x1 x2 x3).otp = s.otp ∧ (State.puntTailWrite s x1 x2 x3).pending = s.pending := by
  unfold State.puntTailWrite
  constructor <;> simp [apply_ite State.otp, apply_ite State.pending, apply_ite Prod.snd]

@[simp] theorem State.bar4Store_keep (s : State) (x1 : _) (x2 : _) (x3 : _) :
    (State.bar4Store s x1 x2 x3).otp = s.otp ∧ (State.bar4Store s x1 x2 x3).pending = s.pending := by
  change State.KeepBy id s (State.bar4Store s x1 x2 x3)
  unfold State.bar4Store
  repeat' (first
    | with_reducible exact State.keep_refl
    | (intro t
       have ht : State.KeepBy id s t := by
         simp only [t]
         constructor <;> simp only [id] <;> first
           | (simp [*, apply_ite State.otp, apply_ite State.pending, apply_ite Prod.snd]; done)
           | (split <;> simp [*, apply_ite State.otp, apply_ite State.pending, apply_ite Prod.snd]; done)
           | (simp [*, apply_ite State.otp, apply_ite State.pending, apply_ite Prod.snd]; split <;> simp [*, apply_ite State.otp, apply_ite State.pending, apply_ite Prod.snd]; done)
       clear_value t
       have ht1 : t.otp = s.otp := ht.1
       have ht2 : t.pending = s.pending := ht.2
       clear ht)
    | (intro x; clear_value x)
    | intro _
    | lift_lets
    | (show State.KeepBy _ _ _; split)
    | (show State.KeepBy _ _ _
       constructor <;> simp only [id] <;> first
           | (simp [*, apply_ite State.otp, apply_ite State.pending, apply_ite Prod.snd]; done)
           | (split <;> simp [*, apply_ite State.otp, apply_ite State.pending, apply_ite Prod.snd]; done)
           | (simp [*, apply_ite State.otp, apply_ite State.pending, apply_ite Prod.snd]; split <;> simp [*, apply_ite State.otp, apply_ite State.pending, apply_ite Prod.snd]; done)))

@[simp] theorem State.bar4Write_keep (s : State) (x1 : _) (x2 : _) (x3 : _) :
    (State.bar4Write s x1 x2 x3).otp = s.otp ∧ (State.bar4Write s x1 x2 x3).pending = s.pending := by
  unfold State.bar4Write
  constructor <;> simp [apply_ite State.otp, apply_ite State.pending, apply_ite Prod.snd]

@[simp] theorem State.spaceWrite_keep (s : State) (x1 : _) (x2 : _) (x3 : _) (x4 : _) (x5 : _) :
    (State.spaceWrite s x1 x2 x3 x4 x5).otp = s.otp ∧ (State.spaceWrite s x1 x2 x3 x4 x5).pending = s.pending := by
  change State.KeepBy id s (State.spaceWrite s x1 x2 x3 x4 x5)
  unfold State.spaceWrite
  repeat' (first
    | with_reducible exact State.keep_refl
    | (intro t
       have ht : State.KeepBy id s t := by
         simp only [t]
         constructor <;> simp only [id] <;> first
           | (simp [*, apply_ite State.otp, apply_ite State.pending, apply_ite Prod.snd]; done)
           | (split <;> simp [*, apply_ite State.otp, apply_ite State.pending, apply_ite Prod.snd]; done)
           | (simp [*, apply_ite State.otp, apply_ite State.pending, apply_ite Prod.snd]; split <;> simp [*, apply_ite State.otp, apply_ite State.pending, apply_ite Prod.snd]; done)
       clear_value t
       have ht1 : t.otp = s.otp := ht.1
       have ht2 : t.pending = s.pending := ht.2
       clear ht)
    | (intro x; clear_value x)
    | intro _
    | lift_lets
    | (show State.KeepBy _ _ _; split)
    | (show State.KeepBy _ _ _
       constructor <;> simp only [id] <;> first
           | (simp [*, apply_ite State.otp, apply_ite State.pending, apply_ite Prod.snd]; done)
           | (split <;> simp [*, apply_ite State.otp, apply_ite State.pending, apply_ite Prod.snd]; done)
           | (simp [*, apply_ite State.otp, apply_ite State.pending, apply_ite Prod.snd]; split <;> simp [*, apply_ite State.otp, apply_ite State.pending, apply_ite Prod.snd]; done)))

@[simp] theorem State.setLoaded_keep (s : State) (x1 : _) (x2 : _) :
    (State.setLoaded s x1 x2).otp = s.otp ∧ (State.setLoaded s x1 x2).pending = s.pending := by
  unfold State.setLoaded
  constructor <;> simp [apply_ite State.otp, apply_ite State.pending, apply_ite Prod.snd]

@[simp] theorem State.ageTick_keep (s : State) :
    (State.ageTick s).otp = s.otp ∧ (State.ageTick s).pending = s.pending := by
  unfold State.ageTick
  simp only [apply_ite State.otp, apply_ite State.pending, apply_ite Prod.snd]
  constructor <;> repeat' (first
    | rfl
    | (simp; done)
    | intro _
    | (split <;> (try (simp only [Prod.ext_iff] at *; casesm* _ ∧ _; subst_vars)))
    | (simp_all [apply_ite State.otp, apply_ite State.pending, apply_ite Prod.snd]; done))

@[simp] theorem State.holdDrained_keep (s : State) :
    (State.holdDrained s).otp = s.otp ∧ (State.holdDrained s).pending = s.pending := by
  unfold State.holdDrained
  constructor <;> simp [apply_ite State.otp, apply_ite State.pending, apply_ite Prod.snd]

@[simp] theorem State.learnArrive_keep (s : State) (x1 : _) :
    (State.learnArrive s x1).otp = s.otp ∧ (State.learnArrive s x1).pending = s.pending := by
  unfold State.learnArrive
  constructor <;> simp [apply_ite State.otp, apply_ite State.pending, apply_ite Prod.snd]

@[simp] theorem State.setTime_keep (s : State) (x1 : _) :
    (State.setTime s x1).otp = s.otp ∧ (State.setTime s x1).pending = s.pending := by
  unfold State.setTime
  constructor <;> simp [apply_ite State.otp, apply_ite State.pending, apply_ite Prod.snd]

@[simp] theorem State.adjApply_keep (s : State) (x1 : _) (x2 : _) :
    (State.adjApply s x1 x2).otp = s.otp ∧ (State.adjApply s x1 x2).pending = s.pending := by
  unfold State.adjApply; constructor <;> (repeat' split) <;> simp_all [apply_ite State.otp, apply_ite State.pending, apply_ite Prod.snd]

@[simp] theorem State.timeApply_keep (s : State) :
    (State.timeApply s).otp = s.otp ∧ (State.timeApply s).pending = s.pending := by
  unfold State.timeApply; constructor <;> (repeat' split) <;> simp_all [apply_ite State.otp, apply_ite State.pending, apply_ite Prod.snd]

@[simp] theorem State.commandFetch_keep (s : State) :
    (State.commandFetch s).otp = s.otp ∧ (State.commandFetch s).pending = s.pending := by
  unfold State.commandFetch; constructor <;> (repeat' split) <;> simp_all [apply_ite State.otp, apply_ite State.pending, apply_ite Prod.snd]

@[simp] theorem State.dmcTrainFail_keep (s : State) (x1 : _) (x2 : _) :
    (State.dmcTrainFail s x1 x2).otp = s.otp ∧ (State.dmcTrainFail s x1 x2).pending = s.pending := by
  unfold State.dmcTrainFail
  constructor <;> simp [apply_ite State.otp, apply_ite State.pending, apply_ite Prod.snd]

@[simp] theorem State.trainingDone_keep (s : State) (x1 : _) (x2 : _) :
    (State.trainingDone s x1 x2).otp = s.otp ∧ (State.trainingDone s x1 x2).pending = s.pending := by
  unfold State.trainingDone; constructor <;> (repeat' split) <;> simp_all [apply_ite State.otp, apply_ite State.pending, apply_ite Prod.snd]

@[simp] theorem State.prbsCount_keep (s : State) (x1 : _) (x2 : _) :
    (State.prbsCount s x1 x2).otp = s.otp ∧ (State.prbsCount s x1 x2).pending = s.pending := by
  unfold State.prbsCount
  constructor <;> simp [apply_ite State.otp, apply_ite State.pending, apply_ite Prod.snd]

@[simp] theorem State.fwTrialTimeout_keep (s : State) :
    (State.fwTrialTimeout s).otp = s.otp ∧ (State.fwTrialTimeout s).pending = s.pending := by
  unfold State.fwTrialTimeout
  constructor <;> simp [apply_ite State.otp, apply_ite State.pending, apply_ite Prod.snd]

@[simp] theorem State.writeSlotImage_keep (s : State) (x1 : _) (x2 : _) :
    (State.writeSlotImage s x1 x2).otp = s.otp ∧ (State.writeSlotImage s x1 x2).pending = s.pending := by
  unfold State.writeSlotImage
  constructor <;> simp [apply_ite State.otp, apply_ite State.pending, apply_ite Prod.snd]

@[simp] theorem State.tableScrub_keep (s : State) (x1 : _) (x2 : _) (x3 : _) (x4 : _) (x5 : _) (x6 : _) :
    (State.tableScrub s x1 x2 x3 x4 x5 x6).otp = s.otp ∧ (State.tableScrub s x1 x2 x3 x4 x5 x6).pending = s.pending := by
  unfold State.tableScrub
  constructor <;> simp [apply_ite State.otp, apply_ite State.pending, apply_ite Prod.snd]

@[simp] theorem State.injRefuse_keep (s : State) (x1 : _) (x2 : _) :
    (State.injRefuse s x1 x2).otp = s.otp ∧ (State.injRefuse s x1 x2).pending = s.pending := by
  unfold State.injRefuse
  constructor <;> simp [apply_ite State.otp, apply_ite State.pending, apply_ite Prod.snd]

@[simp] theorem State.policeStep_keep (s : State) (x1 : _) :
    (State.policeStep s x1).2.2.otp = s.otp ∧ (State.policeStep s x1).2.2.pending = s.pending := by
  unfold State.policeStep
  constructor <;> simp [apply_ite State.otp, apply_ite State.pending, apply_ite Prod.snd]

@[simp] theorem State.ingBranch_keep (s : State) (x1 : _) (x2 : _) :
    (State.ingBranch s x1 x2).otp = s.otp ∧ (State.ingBranch s x1 x2).pending = s.pending := by
  unfold State.ingBranch
  constructor <;> simp [apply_ite State.otp, apply_ite State.pending, apply_ite Prod.snd]

@[simp] theorem State.ingWalk_keep (n : _) (s : State) (x y : _) :
    (State.ingWalk n s x y).otp = s.otp ∧ (State.ingWalk n s x y).pending = s.pending := by
  induction n generalizing s y with
  | zero => exact ⟨rfl, rfl⟩
  | succ n ih => simp only [State.ingWalk]; (repeat' split) <;> simp [ih]

@[simp] theorem State.ingReplicate_keep (s : State) (x1 : _) :
    (State.ingReplicate s x1).otp = s.otp ∧ (State.ingReplicate s x1).pending = s.pending := by
  unfold State.ingReplicate
  constructor <;> simp [apply_ite State.otp, apply_ite State.pending, apply_ite Prod.snd]

@[simp] theorem State.mcastIn_keep (s : State) (x1 : _) :
    (State.mcastIn s x1).otp = s.otp ∧ (State.mcastIn s x1).pending = s.pending := by
  unfold State.mcastIn
  simp only [apply_ite State.otp, apply_ite State.pending, apply_ite Prod.snd]
  constructor <;> repeat' (first
    | rfl
    | (simp; done)
    | intro _
    | (split <;> (try (simp only [Prod.ext_iff] at *; casesm* _ ∧ _; subst_vars)))
    | (simp_all [apply_ite State.otp, apply_ite State.pending, apply_ite Prod.snd]; done))

@[simp] theorem State.expressStep_keep (s : State) (x1 : _) (x2 : _) :
    (State.expressStep s x1 x2).2.otp = s.otp ∧ (State.expressStep s x1 x2).2.pending = s.pending := by
  unfold State.expressStep
  constructor <;> simp [apply_ite State.otp, apply_ite State.pending, apply_ite Prod.snd]

@[simp] theorem State.tmArrival_keep (s : State) (x1 : _) :
    (State.tmArrival s x1).otp = s.otp ∧ (State.tmArrival s x1).pending = s.pending := by
  unfold State.tmArrival
  simp only [apply_ite State.otp, apply_ite State.pending, apply_ite Prod.snd]
  constructor <;> repeat' (first
    | rfl
    | (simp; done)
    | intro _
    | (split <;> (try (simp only [Prod.ext_iff] at *; casesm* _ ∧ _; subst_vars)))
    | (simp_all [apply_ite State.otp, apply_ite State.pending, apply_ite Prod.snd]; done))

@[simp] theorem State.mgmtClear_keep (s : State) (x1 : _) :
    (State.mgmtClear s x1).otp = s.otp ∧ (State.mgmtClear s x1).pending = s.pending := by
  unfold State.mgmtClear
  constructor <;> simp [apply_ite State.otp, apply_ite State.pending, apply_ite Prod.snd]

@[simp] theorem State.flinkPrbs_keep (s : State) (x1 : _) (x2 : _) :
    (State.flinkPrbs s x1 x2).otp = s.otp ∧ (State.flinkPrbs s x1 x2).pending = s.pending := by
  unfold State.flinkPrbs
  constructor <;> simp [apply_ite State.otp, apply_ite State.pending, apply_ite Prod.snd]

@[simp] theorem State.startPending_keep (s : State) :
    (State.startPending s).otp = s.otp ∧ (State.startPending s).pending = s.pending := by
  unfold State.startPending
  constructor <;> simp [apply_ite State.otp, apply_ite State.pending, apply_ite Prod.snd]

@[simp] theorem State.reachActive_keep (s : State) :
    (State.reachActive s).otp = s.otp ∧ (State.reachActive s).pending = s.pending := by
  unfold State.reachActive
  constructor <;> simp [apply_ite State.otp, apply_ite State.pending, apply_ite Prod.snd]

@[simp] theorem State.replayFault_keep (s : State) (x1 : _) :
    (State.replayFault s x1).otp = s.otp ∧ (State.replayFault s x1).pending = s.pending := by
  unfold State.replayFault
  constructor <;> simp [apply_ite State.otp, apply_ite State.pending, apply_ite Prod.snd]

@[simp] theorem State.coldReady_keep (s : State) :
    (State.coldReady s).otp = s.otp ∧ (State.coldReady s).pending = s.pending := by
  unfold State.coldReady
  constructor <;> simp [apply_ite State.otp, apply_ite State.pending, apply_ite Prod.snd]

@[simp] theorem State.helriReady_keep (s : State) :
    (State.helriReady s).otp = s.otp ∧ (State.helriReady s).pending = s.pending := by
  unfold State.helriReady
  constructor <;> simp [apply_ite State.otp, apply_ite State.pending, apply_ite Prod.snd]

@[simp] theorem State.ppsIn_keep (s : State) (x1 : _) :
    (State.ppsIn s x1).otp = s.otp ∧ (State.ppsIn s x1).pending = s.pending := by
  unfold State.ppsIn
  constructor <;> simp [apply_ite State.otp, apply_ite State.pending, apply_ite Prod.snd]

@[simp] theorem State.cellOut_keep (s : State) (x1 : _) (x2 : _) :
    (State.cellOut s x1 x2).otp = s.otp ∧ (State.cellOut s x1 x2).pending = s.pending := by
  unfold State.cellOut
  constructor <;> simp [apply_ite State.otp, apply_ite State.pending, apply_ite Prod.snd]

@[simp] theorem State.failApply_keep (s : State) (x1 : _) (x2 : _) (x3 : _) (x4 : _) (x5 : _) :
    (State.failApply s x1 x2 x3 x4 x5).2.otp = s.otp ∧ (State.failApply s x1 x2 x3 x4 x5).2.pending = s.pending := by
  unfold State.failApply
  simp only [apply_ite State.otp, apply_ite State.pending, apply_ite Prod.snd]
  constructor <;> repeat' (first
    | rfl
    | (simp; done)
    | intro _
    | (split <;> (try (simp only [Prod.ext_iff] at *; casesm* _ ∧ _; subst_vars)))
    | (simp_all [apply_ite State.otp, apply_ite State.pending, apply_ite Prod.snd]; done))

@[simp] theorem State.depthTake_keep (s : State) :
    (State.depthTake s).otp = s.otp ∧ (State.depthTake s).pending = s.pending := by
  change State.KeepBy id s (State.depthTake s)
  unfold State.depthTake
  repeat' (first
    | with_reducible exact State.keep_refl
    | (intro t
       have ht : State.KeepBy id s t := by
         simp only [t]
         constructor <;> simp only [id] <;> first
           | (simp [*, apply_ite State.otp, apply_ite State.pending, apply_ite Prod.snd]; done)
           | (split <;> simp [*, apply_ite State.otp, apply_ite State.pending, apply_ite Prod.snd]; done)
           | (simp [*, apply_ite State.otp, apply_ite State.pending, apply_ite Prod.snd]; split <;> simp [*, apply_ite State.otp, apply_ite State.pending, apply_ite Prod.snd]; done)
       clear_value t
       have ht1 : t.otp = s.otp := ht.1
       have ht2 : t.pending = s.pending := ht.2
       clear ht)
    | (intro x; clear_value x)
    | intro _
    | lift_lets
    | (show State.KeepBy _ _ _; split)
    | (show State.KeepBy _ _ _
       constructor <;> simp only [id] <;> first
           | (simp [*, apply_ite State.otp, apply_ite State.pending, apply_ite Prod.snd]; done)
           | (split <;> simp [*, apply_ite State.otp, apply_ite State.pending, apply_ite Prod.snd]; done)
           | (simp [*, apply_ite State.otp, apply_ite State.pending, apply_ite Prod.snd]; split <;> simp [*, apply_ite State.otp, apply_ite State.pending, apply_ite Prod.snd]; done)))

@[simp] theorem State.depthSample_keep (s : State) :
    (State.depthSample s).otp = s.otp ∧ (State.depthSample s).pending = s.pending := by
  unfold State.depthSample
  split
  · exact ⟨rfl, rfl⟩
  · next h => have := State.expire_some h; split <;> simp [this]

@[simp] theorem State.preemptTimer_keep (s : State) (x1 : _) (x2 : _) :
    (State.preemptTimer s x1 x2).otp = s.otp ∧ (State.preemptTimer s x1 x2).pending = s.pending := by
  unfold State.preemptTimer; constructor <;> (repeat' split) <;> simp_all [apply_ite State.otp, apply_ite State.pending, apply_ite Prod.snd]

@[simp] theorem State.gateApply_keep (s : State) (x1 : _) :
    (State.gateApply s x1).otp = s.otp ∧ (State.gateApply s x1).pending = s.pending := by
  unfold State.gateApply
  constructor <;> simp [apply_ite State.otp, apply_ite State.pending, apply_ite Prod.snd]

@[simp] theorem State.avsFault_keep (s : State) (x1 : _) :
    (State.avsFault s x1).otp = s.otp ∧ (State.avsFault s x1).pending = s.pending := by
  unfold State.avsFault
  constructor <;> simp [apply_ite State.otp, apply_ite State.pending, apply_ite Prod.snd]

@[simp] theorem State.exclude_keep (s : State) (x1 : _) :
    (State.exclude s x1).otp = s.otp ∧ (State.exclude s x1).pending = s.pending := by
  unfold State.exclude
  constructor <;> simp [apply_ite State.otp, apply_ite State.pending, apply_ite Prod.snd]

@[simp] theorem State.dropCells_keep (s : State) (x1 : _) :
    (State.dropCells s x1).otp = s.otp ∧ (State.dropCells s x1).pending = s.pending := by
  unfold State.dropCells
  constructor <;> simp [apply_ite State.otp, apply_ite State.pending, apply_ite Prod.snd]

@[simp] theorem State.purge_keep (s : State) :
    (State.purge s).otp = s.otp ∧ (State.purge s).pending = s.pending := by
  unfold State.purge
  constructor <;> simp [apply_ite State.otp, apply_ite State.pending, apply_ite Prod.snd]

@[simp] theorem State.retireTimeout_keep (s : State) :
    (State.retireTimeout s).otp = s.otp ∧ (State.retireTimeout s).pending = s.pending := by
  change State.KeepBy id s (State.retireTimeout s)
  unfold State.retireTimeout
  repeat' (first
    | with_reducible exact State.keep_refl
    | (intro t
       have ht : State.KeepBy id s t := by
         simp only [t]
         constructor <;> simp only [id] <;> first
           | (simp [*, apply_ite State.otp, apply_ite State.pending, apply_ite Prod.snd]; done)
           | (split <;> simp [*, apply_ite State.otp, apply_ite State.pending, apply_ite Prod.snd]; done)
           | (simp [*, apply_ite State.otp, apply_ite State.pending, apply_ite Prod.snd]; split <;> simp [*, apply_ite State.otp, apply_ite State.pending, apply_ite Prod.snd]; done)
       clear_value t
       have ht1 : t.otp = s.otp := ht.1
       have ht2 : t.pending = s.pending := ht.2
       clear ht)
    | (intro x; clear_value x)
    | intro _
    | lift_lets
    | (show State.KeepBy _ _ _; split <;> (try (have hk := State.expire_some (by assumption); have hk1 := hk.1; have hk2 := hk.2; clear hk)))
    | (show State.KeepBy _ _ _
       constructor <;> simp only [id] <;> first
           | (simp [*, apply_ite State.otp, apply_ite State.pending, apply_ite Prod.snd]; done)
           | (split <;> simp [*, apply_ite State.otp, apply_ite State.pending, apply_ite Prod.snd]; done)
           | (simp [*, apply_ite State.otp, apply_ite State.pending, apply_ite Prod.snd]; split <;> simp [*, apply_ite State.otp, apply_ite State.pending, apply_ite Prod.snd]; done)))

@[simp] theorem State.fencedActivity_keep (s : State) (x1 : _) :
    (State.fencedActivity s x1).otp = s.otp ∧ (State.fencedActivity s x1).pending = s.pending := by
  unfold State.fencedActivity
  constructor <;> simp [apply_ite State.otp, apply_ite State.pending, apply_ite Prod.snd]

@[simp] theorem State.tagStep_keep (s : State) (x1 : _) :
    (State.tagStep s x1).2.otp = s.otp ∧ (State.tagStep s x1).2.pending = s.pending := by
  unfold State.tagStep
  constructor <;> simp [apply_ite State.otp, apply_ite State.pending, apply_ite Prod.snd]

@[simp] theorem State.retire_keep (s : State) :
    (State.retire s).otp = s.otp ∧ (State.retire s).pending = s.pending := by
  unfold State.retire
  constructor <;> simp [apply_ite State.otp, apply_ite State.pending, apply_ite Prod.snd]

@[simp] theorem State.purgeDone_keep (s : State) :
    (State.purgeDone s).otp = s.otp ∧ (State.purgeDone s).pending = s.pending := by
  change State.KeepBy id s (State.purgeDone s)
  unfold State.purgeDone
  repeat' (first
    | with_reducible exact State.keep_refl
    | with_reducible assumption
    | (intro t
       have ht : State.KeepBy id s t := by
         simp only [t, State.KeepBy, id] at *
         first
           | (simp [*, apply_ite State.otp, apply_ite State.pending, apply_ite Prod.snd]; done)
           | (split <;> simp_all [apply_ite State.otp, apply_ite State.pending, apply_ite Prod.snd]; done)
       clear_value t)
    | intro _
    | lift_lets
    | (simp only [State.KeepBy, id] at *; simp [*, apply_ite State.otp, apply_ite State.pending, apply_ite Prod.snd]; done)
    | split
    | have hk := State.expire_some (by assumption)
    | (simp only [State.KeepBy, id, Prod.ext_iff] at *; simp_all [apply_ite State.otp, apply_ite State.pending, apply_ite Prod.snd]; done))

@[simp] theorem State.ctxRest_keep (s : State) (x1 : _) :
    (State.ctxRest s x1).otp = s.otp ∧ (State.ctxRest s x1).pending = s.pending := by
  unfold State.ctxRest
  constructor <;> simp [apply_ite State.otp, apply_ite State.pending, apply_ite Prod.snd]

@[simp] theorem State.collectOver_keep (s : State) (x1 : _) (x2 : _) :
    (State.collectOver s x1 x2).otp = s.otp ∧ (State.collectOver s x1 x2).pending = s.pending := by
  change State.KeepBy id s (State.collectOver s x1 x2)
  unfold State.collectOver
  repeat' (first
    | with_reducible exact State.keep_refl
    | (intro t
       have ht : State.KeepBy id s t := by
         simp only [t]
         constructor <;> simp only [id] <;> first
           | (simp [*, apply_ite State.otp, apply_ite State.pending, apply_ite Prod.snd]; done)
           | (split <;> simp [*, apply_ite State.otp, apply_ite State.pending, apply_ite Prod.snd]; done)
           | (simp [*, apply_ite State.otp, apply_ite State.pending, apply_ite Prod.snd]; split <;> simp [*, apply_ite State.otp, apply_ite State.pending, apply_ite Prod.snd]; done)
       clear_value t
       have ht1 : t.otp = s.otp := ht.1
       have ht2 : t.pending = s.pending := ht.2
       clear ht)
    | (intro x; clear_value x)
    | intro _
    | lift_lets
    | (show State.KeepBy _ _ _; split <;> (try (have hk := State.expire_some (by assumption); have hk1 := hk.1; have hk2 := hk.2; clear hk)))
    | (show State.KeepBy _ _ _
       constructor <;> simp only [id] <;> first
           | (simp [*, apply_ite State.otp, apply_ite State.pending, apply_ite Prod.snd]; done)
           | (split <;> simp [*, apply_ite State.otp, apply_ite State.pending, apply_ite Prod.snd]; done)
           | (simp [*, apply_ite State.otp, apply_ite State.pending, apply_ite Prod.snd]; split <;> simp [*, apply_ite State.otp, apply_ite State.pending, apply_ite Prod.snd]; done)))

@[simp] theorem State.walkDone_keep (s : State) :
    (State.walkDone s).otp = s.otp ∧ (State.walkDone s).pending = s.pending := by
  unfold State.walkDone
  constructor <;> simp [apply_ite State.otp, apply_ite State.pending, apply_ite Prod.snd]

@[simp] theorem State.ageDeleteAt_keep (s : State) (x1 : _) (x2 : _) (x3 : _) :
    (State.ageDeleteAt s x1 x2 x3).1.otp = s.otp ∧ (State.ageDeleteAt s x1 x2 x3).1.pending = s.pending := by
  unfold State.ageDeleteAt
  simp only [apply_ite State.otp, apply_ite State.pending, apply_ite Prod.snd]
  constructor <;> repeat' (first
    | rfl
    | (simp; done)
    | intro _
    | (split <;> (try (simp only [Prod.ext_iff] at *; casesm* _ ∧ _; subst_vars)))
    | (simp_all [apply_ite State.otp, apply_ite State.pending, apply_ite Prod.snd]; done))

@[simp] theorem State.cmdSlot_keep (s : State) :
    (State.cmdSlot s).otp = s.otp ∧ (State.cmdSlot s).pending = s.pending := by
  unfold State.cmdSlot
  simp only [apply_ite State.otp, apply_ite State.pending, apply_ite Prod.snd]
  constructor <;> repeat' (first
    | rfl
    | (simp; done)
    | intro _
    | (split <;> (try (simp only [Prod.ext_iff] at *; casesm* _ ∧ _; subst_vars)))
    | (simp_all [apply_ite State.otp, apply_ite State.pending, apply_ite Prod.snd]; done))

@[simp] theorem State.protCopy_keep (s : State) (x1 : _) (x2 : _) (x3 : _) :
    (State.protCopy s x1 x2 x3).otp = s.otp ∧ (State.protCopy s x1 x2 x3).pending = s.pending := by
  unfold State.protCopy
  constructor <;> simp [apply_ite State.otp, apply_ite State.pending, apply_ite Prod.snd]

@[simp] theorem State.txPop_keep (s : State) (x1 : _) :
    (State.txPop s x1).otp = s.otp ∧ (State.txPop s x1).pending = s.pending := by
  unfold State.txPop
  constructor <;> simp [apply_ite State.otp, apply_ite State.pending, apply_ite Prod.snd]

@[simp] theorem State.noReach_keep (s : State) (x1 : _) (x2 : _) :
    (State.noReach s x1 x2).otp = s.otp ∧ (State.noReach s x1 x2).pending = s.pending := by
  unfold State.noReach
  simp only [apply_ite State.otp, apply_ite State.pending, apply_ite Prod.snd]
  constructor <;> repeat' (first
    | rfl
    | (simp; done)
    | intro _
    | (split <;> (try (simp only [Prod.ext_iff] at *; casesm* _ ∧ _; subst_vars)))
    | (simp_all [apply_ite State.otp, apply_ite State.pending, apply_ite Prod.snd]; done))

@[simp] theorem State.slotLink_keep (s : State) (x1 : _) (x2 : _) (x3 : _) (x4 : _) (x5 : _) :
    (State.slotLink s x1 x2 x3 x4 x5).2.otp = s.otp ∧ (State.slotLink s x1 x2 x3 x4 x5).2.pending = s.pending := by
  unfold State.slotLink
  simp only [apply_ite State.otp, apply_ite State.pending, apply_ite Prod.snd]
  constructor <;> repeat' (first
    | rfl
    | (simp; done)
    | intro _
    | (split <;> (try (simp only [Prod.ext_iff] at *; casesm* _ ∧ _; subst_vars)))
    | (simp_all [apply_ite State.otp, apply_ite State.pending, apply_ite Prod.snd]; done))

@[simp] theorem State.selectorLane_keep (s : State) (x1 : _) :
    (State.selectorLane s x1).otp = s.otp ∧ (State.selectorLane s x1).pending = s.pending := by
  unfold State.selectorLane
  constructor <;> simp [apply_ite State.otp, apply_ite State.pending, apply_ite Prod.snd]

@[simp] theorem State.gateEntryChange_keep (s : State) (x1 : _) :
    (State.gateEntryChange s x1).otp = s.otp ∧ (State.gateEntryChange s x1).pending = s.pending := by
  unfold State.gateEntryChange
  simp only [apply_ite State.otp, apply_ite State.pending, apply_ite Prod.snd]
  constructor <;> repeat' (first
    | rfl
    | (simp; done)
    | intro _
    | (split <;> (try (simp only [Prod.ext_iff] at *; casesm* _ ∧ _; subst_vars)))
    | (simp_all [apply_ite State.otp, apply_ite State.pending, apply_ite Prod.snd]; done))

@[simp] theorem State.chanQuery_keep (s : State) (x1 : _) :
    (State.chanQuery s x1).otp = s.otp ∧ (State.chanQuery s x1).pending = s.pending := by
  unfold State.chanQuery; constructor <;> (repeat' split) <;> simp_all [apply_ite State.otp, apply_ite State.pending, apply_ite Prod.snd]

@[simp] theorem State.frameRx_keep (s : State) (x1 : _) (x2 : _) (x3 : _) :
    (State.frameRx s x1 x2 x3).otp = s.otp ∧ (State.frameRx s x1 x2 x3).pending = s.pending := by
  unfold State.frameRx
  constructor <;> simp [apply_ite State.otp, apply_ite State.pending, apply_ite Prod.snd]

@[simp] theorem State.frameTxEnd_keep (s : State) (x1 : _) :
    (State.frameTxEnd s x1).otp = s.otp ∧ (State.frameTxEnd s x1).pending = s.pending := by
  unfold State.frameTxEnd; constructor <;> (repeat' split) <;> simp_all [apply_ite State.otp, apply_ite State.pending, apply_ite Prod.snd]

@[simp] theorem State.codewordLock_keep (s : State) (x1 : _) :
    (State.codewordLock s x1).otp = s.otp ∧ (State.codewordLock s x1).pending = s.pending := by
  unfold State.codewordLock
  constructor <;> simp [apply_ite State.otp, apply_ite State.pending, apply_ite Prod.snd]

@[simp] theorem State.voqSelect_keep (s : State) (x1 : _) :
    (State.voqSelect s x1).otp = s.otp ∧ (State.voqSelect s x1).pending = s.pending := by
  unfold State.voqSelect
  constructor <;> simp [apply_ite State.otp, apply_ite State.pending, apply_ite Prod.snd]

@[simp] theorem State.stageStart_keep (s : State) (x1 : _) (x2 : _) :
    (State.stageStart s x1 x2).otp = s.otp ∧ (State.stageStart s x1 x2).pending = s.pending := by
  unfold State.stageStart
  constructor <;> simp [apply_ite State.otp, apply_ite State.pending, apply_ite Prod.snd]

@[simp] theorem State.rulesRun_keep (s : State) (a b c d : _) :
    (State.rulesRun s a b c d).otp = s.otp ∧ (State.rulesRun s a b c d).pending = s.pending := by
  unfold State.rulesRun
  dsimp only
  split
  · simp
  · split
    · next h => have := State.rulesApply_some h; simp [this]
    · simp
    · simp

@[simp] theorem State.stageRules_keep (s : State) (x y : _) :
    (State.stageRules s x y).otp = s.otp ∧ (State.stageRules s x y).pending = s.pending := by
  apply State.keep_of
  unfold State.stageRules
  split
  · exact State.keep_refl
  extract_lets +onlyGivenNames e len
  split
  · exact State.keep_refl
  split
  · exact State.keep_ite ⟨rfl, rfl⟩ (by simp)
  split
  · exact State.keep_refl
  split
  · exact State.keep_to (by simp)
  split
  · exact State.keep_to (by simp)
  split
  · exact State.keep_to (by simp)
  extract_lets +onlyGivenNames t
  exact State.keep_ite (by simp [t]) (by simp [t])

@[simp] theorem State.cellUnfence_keep (s : State) (x1 : _) :
    (State.cellUnfence s x1).otp = s.otp ∧ (State.cellUnfence s x1).pending = s.pending := by
  unfold State.cellUnfence; constructor <;> (repeat' split) <;> simp_all [apply_ite State.otp, apply_ite State.pending, apply_ite Prod.snd]

@[simp] theorem State.markerStart_keep (s : State) (x1 : _) :
    (State.markerStart s x1).otp = s.otp ∧ (State.markerStart s x1).pending = s.pending := by
  unfold State.markerStart; constructor <;> (repeat' split) <;> simp_all [apply_ite State.otp, apply_ite State.pending, apply_ite Prod.snd]

@[simp] theorem State.puntMeter_keep (s : State) (x1 : _) :
    (State.puntMeter s x1).otp = s.otp ∧ (State.puntMeter s x1).pending = s.pending := by
  unfold State.puntMeter
  constructor <;> simp [apply_ite State.otp, apply_ite State.pending, apply_ite Prod.snd]

@[simp] theorem State.protSend_keep (s : State) (x1 : _) (x2 : _) (x3 : _) :
    (State.protSend s x1 x2 x3).otp = s.otp ∧ (State.protSend s x1 x2 x3).pending = s.pending := by
  unfold State.protSend
  constructor <;> simp [apply_ite State.otp, apply_ite State.pending, apply_ite Prod.snd]

@[simp] theorem State.egressEmit_keep (s : State) (i p q x : _) :
    (State.egressEmit s i p q x).otp = s.otp ∧ (State.egressEmit s i p q x).pending = s.pending := by
  apply State.keep_of
  unfold State.egressEmit
  extract_lets +onlyGivenNames port
  split
  · exact State.keep_to (by simp)
  split
  · exact State.keep_to (by simp)
  extract_lets +onlyGivenNames t2
  have h2 : t2.otp = s.otp ∧ t2.pending = s.pending := by simp only [t2]; split <;> simp
  clear_value t2
  extract_lets +onlyGivenNames orig len q2
  clear_value q2
  split
  · exact State.keep_to (by simp [h2])
  · extract_lets +onlyGivenNames q3 t3
    have h3 : t3.otp = s.otp ∧ t3.pending = s.pending := by simp [t3, h2]
    clear_value q3 t3
    split <;> exact State.keep_to (by simp [h3])

@[simp] theorem State.egressFate_keep (s : State) (i p q pw x : _) :
    (State.egressFate s i p q pw x).otp = s.otp ∧ (State.egressFate s i p q pw x).pending = s.pending := by
  unfold State.egressFate
  extract_lets r
  have hr : r.2.otp = s.otp ∧ r.2.pending = s.pending := by simp [r]
  clear_value r
  split <;> simp [hr]

@[simp] theorem State.egressExit_keep (s : State) (x : _) :
    (State.egressExit s x).otp = s.otp ∧ (State.egressExit s x).pending = s.pending := by
  unfold State.egressExit
  split
  · exact ⟨rfl, rfl⟩
  split
  · exact ⟨rfl, rfl⟩
  · simp

@[simp] theorem State.todSend_keep (s : State) :
    (State.todSend s).otp = s.otp ∧ (State.todSend s).pending = s.pending := by
  change State.KeepBy id s (State.todSend s)
  unfold State.todSend
  repeat' (first
    | with_reducible exact State.keep_refl
    | (intro t
       have ht : State.KeepBy id s t := by
         simp only [t]
         constructor <;> simp only [id] <;> first
           | (simp [*, apply_ite State.otp, apply_ite State.pending, apply_ite Prod.snd]; done)
           | (split <;> simp [*, apply_ite State.otp, apply_ite State.pending, apply_ite Prod.snd]; done)
           | (simp [*, apply_ite State.otp, apply_ite State.pending, apply_ite Prod.snd]; split <;> simp [*, apply_ite State.otp, apply_ite State.pending, apply_ite Prod.snd]; done)
       clear_value t
       have ht1 : t.otp = s.otp := ht.1
       have ht2 : t.pending = s.pending := ht.2
       clear ht)
    | (intro x; clear_value x)
    | intro _
    | lift_lets
    | (show State.KeepBy _ _ _; split <;> (try (have hk := State.expire_some (by assumption); have hk1 := hk.1; have hk2 := hk.2; clear hk)))
    | (show State.KeepBy _ _ _
       constructor <;> simp only [id] <;> first
           | (simp [*, apply_ite State.otp, apply_ite State.pending, apply_ite Prod.snd]; done)
           | (split <;> simp [*, apply_ite State.otp, apply_ite State.pending, apply_ite Prod.snd]; done)
           | (simp [*, apply_ite State.otp, apply_ite State.pending, apply_ite Prod.snd]; split <;> simp [*, apply_ite State.otp, apply_ite State.pending, apply_ite Prod.snd]; done)))

@[simp] theorem State.trainFail_keep (s : State) (x1 : _) :
    (State.trainFail s x1).otp = s.otp ∧ (State.trainFail s x1).pending = s.pending := by
  change State.KeepBy id s (State.trainFail s x1)
  unfold State.trainFail
  repeat' (first
    | with_reducible exact State.keep_refl
    | with_reducible assumption
    | (intro t
       have ht : State.KeepBy id s t := by
         simp only [t, State.KeepBy, id] at *
         first
           | (simp [*, apply_ite State.otp, apply_ite State.pending, apply_ite Prod.snd]; done)
           | (split <;> simp_all [apply_ite State.otp, apply_ite State.pending, apply_ite Prod.snd]; done)
       clear_value t)
    | intro _
    | lift_lets
    | (simp only [State.KeepBy, id] at *; simp [*, apply_ite State.otp, apply_ite State.pending, apply_ite Prod.snd]; done)
    | split
    | have hk := State.expire_some (by assumption)
    | (simp only [State.KeepBy, id, Prod.ext_iff] at *; simp_all [apply_ite State.otp, apply_ite State.pending, apply_ite Prod.snd]; done))

@[simp] theorem State.logExport_keep (s : State) (x1 : _) (x2 : _) :
    (State.logExport s x1 x2).otp = s.otp ∧ (State.logExport s x1 x2).pending = s.pending := by
  unfold State.logExport
  constructor <;> repeat' (first
    | rfl
    | (simp [apply_ite State.otp, apply_ite State.pending, apply_ite Prod.snd]; done)
    | intro _
    | (split <;> (try (simp only [Prod.ext_iff] at *; casesm* _ ∧ _; subst_vars)))
    | (simp_all [apply_ite State.otp, apply_ite State.pending, apply_ite Prod.snd]; done))

theorem State.portTrial_some {s : State} {w : Work} {port : Nat} {exp : Bool} {r : Nat × Bool × List Nat × State}
    (h : s.portTrial w port exp = some r) : r.2.2.2.otp = s.otp ∧ r.2.2.2.pending = s.pending := by
  have hk := State.selectFrom_keep w exp 4 s (nodeKey 0 port) []
  unfold State.portTrial at h
  split at h
  · split at h
    · split at h
      · cases h; simp_all
      · cases h
    · cases h
  · cases h

theorem State.egrCandidate_some {s : State} {w i : _} {n : Nat} {q e path : _} {t : State} (h : s.egrCandidate w i = some (n, some (q, e, path, t))) :
    t.otp = s.otp ∧ t.pending = s.pending := by
  revert h
  unfold State.egrCandidate
  extract_lets +onlyGivenNames ports xs
  have hx (y) (hy : y ∈ xs) (hq : y.2 = some (q, e, path, t)) : t.otp = s.otp ∧ t.pending = s.pending := by
    obtain ⟨p, -, hp⟩ := List.mem_filterMap.1 hy
    split at hp
    · obtain ⟨r, hr, rfl⟩ := Option.map_eq_some_iff.1 hp
      cases hq
      exact State.portTrial_some hr
    · cases hp
  clear_value xs
  split
  · intro h; exact hx _ (List.mem_cons_self ..) (congrArg (fun o => (o.getD (0, none)).2) h)
  · extract_lets +onlyGivenNames last order
    intro h
    obtain ⟨p, -, hp⟩ := List.mem_filterMap.1 (List.mem_of_mem_head? h)
    split at hp
    · split at hp
      · split at hp <;> cases hp
      · cases hp
    · split at hp
      · obtain ⟨r, hr, hh⟩ := Option.map_eq_some_iff.1 hp
        cases hh
        exact State.portTrial_some hr
      · cases hp

@[simp] theorem State.egrTake_keep (s : State) (x1 : _) (x2 : _) (x3 : _) (x4 : _) :
    (State.egrTake s x1 x2 x3 x4).otp = s.otp ∧ (State.egrTake s x1 x2 x3 x4).pending = s.pending := by
  unfold State.egrTake
  constructor <;> simp [apply_ite State.otp, apply_ite State.pending, apply_ite Prod.snd]

@[simp] theorem State.oversizeSweep_keep (s : State) (x : _) :
    (State.oversizeSweep s x).otp = s.otp ∧ (State.oversizeSweep s x).pending = s.pending := by
  unfold State.oversizeSweep
  dsimp only
  constructor
  · rw [foldl_otp]
    · simp
    · intro s a; split
      · split <;> simp
      · rfl
  · rw [foldl_pending]
    · simp
    · intro s a; split
      · split <;> simp
      · rfl

@[simp] theorem State.egressPick_keep (s : State) (i : _) :
    (State.egressPick s i).otp = s.otp ∧ (State.egressPick s i).pending = s.pending := by
  apply State.keep_of
  unfold State.egressPick
  extract_lets +onlyGivenNames ports mine a w b
  have hb : b.otp = s.otp ∧ b.pending = s.pending := by simp [b, a]
  clear_value b w
  split
  · exact State.keep_to hb
  · extract_lets +onlyGivenNames e0 d
    have hd : d.otp = s.otp ∧ d.pending = s.pending := hb
    clear_value d
    split
    · exact State.keep_to (by simp [hd])
    · exact State.keep_to hd
  · next q e path t h =>
    have h := State.egrCandidate_some h
    have ht : t.otp = s.otp ∧ t.pending = s.pending := ⟨h.1.trans hb.1, h.2.trans hb.2⟩
    split
    · exact State.keep_to hb
    · extract_lets +onlyGivenNames c
      have hc : c.otp = s.otp ∧ c.pending = s.pending := by simp [c, ht]
      clear_value c
      extract_lets +onlyGivenNames e0 d
      have hd : d.otp = s.otp ∧ d.pending = s.pending := State.keep_ite hc hc
      clear_value d
      extract_lets +onlyGivenNames f
      have hf : f.otp = s.otp ∧ f.pending = s.pending := by simp only [f]; split <;> simp [hd]
      clear_value f
      extract_lets +onlyGivenNames g
      exact State.keep_to (by simp [g, hf])

@[simp] theorem State.loadRwe_keep (s : State) (x st : _) :
    (State.loadRwe s x st).otp = s.otp ∧ (State.loadRwe s x st).pending = s.pending := by
  unfold State.loadRwe
  constructor
  · rw [foldl_otp]; intro s a; rw [foldl_otp]; intro s f; rw [foldl_otp]; intro s i; split <;> simp
  · rw [foldl_pending]; intro s a; rw [foldl_pending]; intro s f; rw [foldl_pending]; intro s i; split <;> simp

@[simp] theorem State.freezeApply_keep (s : State) :
    (State.freezeApply s).otp = s.otp ∧ (State.freezeApply s).pending = s.pending := by
  change State.KeepBy id s (State.freezeApply s)
  unfold State.freezeApply
  repeat' (first
    | with_reducible exact State.keep_refl
    | with_reducible assumption
    | (intro t
       have ht : State.KeepBy id s t := by
         simp only [t, State.KeepBy, id] at *
         first
           | (simp [*, apply_ite State.otp, apply_ite State.pending, apply_ite Prod.snd]; done)
           | (split <;> simp_all [apply_ite State.otp, apply_ite State.pending, apply_ite Prod.snd]; done)
       clear_value t)
    | intro _
    | lift_lets
    | (simp only [State.KeepBy, id] at *; simp [*, apply_ite State.otp, apply_ite State.pending, apply_ite Prod.snd]; done)
    | split
    | have hk := State.expire_some (by assumption)
    | (simp only [State.KeepBy, id, Prod.ext_iff] at *; simp_all [apply_ite State.otp, apply_ite State.pending, apply_ite Prod.snd]; done))

@[simp] theorem State.postPkt_keep (s : State) (x1 : _) (x2 : _) (x3 : _) :
    (State.postPkt s x1 x2 x3).2.otp = s.otp ∧ (State.postPkt s x1 x2 x3).2.pending = s.pending := by
  unfold State.postPkt
  constructor <;> simp [apply_ite State.otp, apply_ite State.pending, apply_ite Prod.snd]

@[simp] theorem State.tsCapture_keep (s : State) (x1 : _) (x2 : _) :
    (State.tsCapture s x1 x2).otp = s.otp ∧ (State.tsCapture s x1 x2).pending = s.pending := by
  unfold State.tsCapture
  constructor <;> simp [apply_ite State.otp, apply_ite State.pending, apply_ite Prod.snd]

@[simp] theorem State.linkDark_keep (s : State) (x1 : _) :
    (State.linkDark s x1).otp = s.otp ∧ (State.linkDark s x1).pending = s.pending := by
  unfold State.linkDark
  constructor <;> simp [apply_ite State.otp, apply_ite State.pending, apply_ite Prod.snd]

@[simp] theorem State.thermTrip_keep (s : State) (x1 : _) (x2 : _) (x3 : _) :
    (State.thermTrip s x1 x2 x3).otp = s.otp ∧ (State.thermTrip s x1 x2 x3).pending = s.pending := by
  unfold State.thermTrip
  constructor <;> simp [apply_ite State.otp, apply_ite State.pending, apply_ite Prod.snd]

@[simp] theorem State.puntDrop_keep (s : State) (x1 : _) (x2 : _) :
    (State.puntDrop s x1 x2).otp = s.otp ∧ (State.puntDrop s x1 x2).pending = s.pending := by
  unfold State.puntDrop
  constructor <;> simp [apply_ite State.otp, apply_ite State.pending, apply_ite Prod.snd]

@[simp] theorem State.puntWriteBack_keep (s : State) (x1 : _) (x2 : _) (x3 : _) (x4 : _) :
    (State.puntWriteBack s x1 x2 x3 x4).2.otp = s.otp ∧ (State.puntWriteBack s x1 x2 x3 x4).2.pending = s.pending := by
  unfold State.puntWriteBack
  constructor <;> simp [apply_ite State.otp, apply_ite State.pending, apply_ite Prod.snd]

@[simp] theorem State.puntDeliver_keep (s : State) (c d x y : _) :
    (State.puntDeliver s c d x y).otp = s.otp ∧ (State.puntDeliver s c d x y).pending = s.pending := by
  apply State.keep_of
  unfold State.puntDeliver
  split
  · exact State.keep_refl
  split
  · exact State.keep_refl
  next p _ =>
  split
  · exact State.keep_refl
  extract_lets +onlyGivenNames q no
  split
  · exact State.keep_to (by simp)
  split
  · exact State.keep_to (by simp)
  next dd =>
  extract_lets +onlyGivenNames size
  split
  · split
    next ok t h =>
    have ht : t.otp = s.otp ∧ t.pending = s.pending := by
      have := State.puntWriteBack_keep s c 0 2 (x || y)
      rw [h] at this; exact this
    exact State.keep_ite ht (by simp [ht])
  extract_lets +onlyGivenNames trunc m body buf
  split
  next ok t h =>
  have ht : t.otp = s.otp ∧ t.pending = s.pending := by
    have := State.postPkt_keep s x buf body
    rw [h] at this; exact this
  split
  · exact State.keep_to (by simp [ht])
  split
  next ok2 u h2 =>
  have hu : u.otp = s.otp ∧ u.pending = s.pending := by
    have := State.puntWriteBack_keep t c body.length (if trunc = true then 1 else 0) y
    rw [h2] at this; exact ⟨this.1.trans ht.1, this.2.trans ht.2⟩
  split <;> exact State.keep_to (by simp [hu])

@[simp] theorem State.memAccess_keep (s : State) (x1 : _) (x2 : _) :
    (State.memAccess s x1 x2).otp = s.otp ∧ (State.memAccess s x1 x2).pending = s.pending := by
  unfold State.memAccess
  constructor <;> repeat' (first
    | rfl
    | (simp [apply_ite State.otp, apply_ite State.pending, apply_ite Prod.snd]; done)
    | intro _
    | (split <;> (try (simp only [Prod.ext_iff] at *; casesm* _ ∧ _; subst_vars)))
    | (simp_all [apply_ite State.otp, apply_ite State.pending, apply_ite Prod.snd]; done))

@[simp] theorem State.hitArrive_keep (s : State) (x1 : _) :
    (State.hitArrive s x1).otp = s.otp ∧ (State.hitArrive s x1).pending = s.pending := by
  unfold State.hitArrive
  constructor <;> simp [apply_ite State.otp, apply_ite State.pending, apply_ite Prod.snd]

@[simp] theorem State.learnFrom_keep (s : State) (x1 : _) (x2 : _) (x3 : _) :
    (State.learnFrom s x1 x2 x3).otp = s.otp ∧ (State.learnFrom s x1 x2 x3).pending = s.pending := by
  unfold State.learnFrom
  constructor <;> simp [apply_ite State.otp, apply_ite State.pending, apply_ite Prod.snd]

@[simp] theorem State.bridgeDownEvent_keep (s : State) (x1 : _) :
    (State.bridgeDownEvent s x1).otp = s.otp ∧ (State.bridgeDownEvent s x1).pending = s.pending := by
  unfold State.bridgeDownEvent
  constructor <;> simp [apply_ite State.otp, apply_ite State.pending, apply_ite Prod.snd]

@[simp] theorem State.bridgeDown_keep (s : State) (x1 : _) :
    (State.bridgeDown s x1).otp = s.otp ∧ (State.bridgeDown s x1).pending = s.pending := by
  unfold State.bridgeDown
  constructor <;> simp [apply_ite State.otp, apply_ite State.pending, apply_ite Prod.snd]

@[simp] theorem State.pcieLinkDown_keep (s : State) :
    (State.pcieLinkDown s).otp = s.otp ∧ (State.pcieLinkDown s).pending = s.pending := by
  unfold State.pcieLinkDown
  constructor <;> simp [apply_ite State.otp, apply_ite State.pending, apply_ite Prod.snd]

@[simp] theorem State.loopSelect_keep (s : State) :
    (State.loopSelect s).otp = s.otp ∧ (State.loopSelect s).pending = s.pending := by
  apply State.keep_of
  unfold State.loopSelect
  split
  · exact State.keep_refl
  extract_lets +onlyGivenNames mine s0 w u
  have hu : u.otp = s.otp ∧ u.pending = s.pending := by simp [u, s0]
  clear_value u w
  split
  · exact State.keep_to hu
  next q e path t h =>
  have ht : t.otp = s.otp ∧ t.pending = s.pending := by
    cases h1 : u.portTrial _ 256 true with
    | some r =>
      rw [h1] at h
      cases Option.some.inj h
      exact ⟨(State.portTrial_some h1).1.trans hu.1, (State.portTrial_some h1).2.trans hu.2⟩
    | none =>
      rw [h1] at h
      exact ⟨(State.portTrial_some h).1.trans hu.1, (State.portTrial_some h).2.trans hu.2⟩
  split
  · exact State.keep_to hu
  extract_lets +onlyGivenNames i
  split
  · exact State.keep_to hu
  extract_lets +onlyGivenNames a b c
  have hc : c.otp = s.otp ∧ c.pending = s.pending := by simp [c, b, a, ht]
  clear_value c
  exact State.keep_to (by simp [hc])

@[simp] theorem State.recordForward_keep (s : State) (x1 : _) :
    (State.recordForward s x1).otp = s.otp ∧ (State.recordForward s x1).pending = s.pending := by
  unfold State.recordForward
  simp only [apply_ite State.otp, apply_ite State.pending, apply_ite Prod.snd]
  constructor <;> repeat' (first
    | rfl
    | (simp; done)
    | intro _
    | (split <;> (try (simp only [Prod.ext_iff] at *; casesm* _ ∧ _; subst_vars)))
    | (simp_all [apply_ite State.otp, apply_ite State.pending, apply_ite Prod.snd]; done))

@[simp] theorem State.failStep_keep (s : State) :
    (State.failStep s).2.otp = s.otp ∧ (State.failStep s).2.pending = s.pending := by
  unfold State.failStep
  constructor <;> repeat' (first
    | rfl
    | (simp [apply_ite State.otp, apply_ite State.pending, apply_ite Prod.snd]; done)
    | intro _
    | (split <;> (try (simp only [Prod.ext_iff] at *; casesm* _ ∧ _; subst_vars)))
    | (simp_all [apply_ite State.otp, apply_ite State.pending, apply_ite Prod.snd]; done))

@[simp] theorem State.settleRules_keep (s : State) :
    (State.settleRules s).otp = s.otp ∧ (State.settleRules s).pending = s.pending := by
  simp only [State.settleRules, State.wf_keep]
  constructor
  · rw [foldl_otp]; intro s a; split <;> (try split) <;> simp [State.writeEntry_keep]
  · rw [foldl_pending]; intro s a; split <;> (try split) <;> simp [State.writeEntry_keep]

@[simp] theorem State.copyRwe_keep (s : State) (x1 : _) (x2 : _) :
    (State.copyRwe s x1 x2).otp = s.otp ∧ (State.copyRwe s x1 x2).pending = s.pending := by
  unfold State.copyRwe
  constructor <;> simp [apply_ite State.otp, apply_ite State.pending, apply_ite Prod.snd]

@[simp] theorem State.mirrorBank_keep (s : State) :
    (State.mirrorBank s).otp = s.otp ∧ (State.mirrorBank s).pending = s.pending := by
  unfold State.mirrorBank
  constructor <;> simp [apply_ite State.otp, apply_ite State.pending, apply_ite Prod.snd]

@[simp] theorem State.mirrorDone_keep (s : State) :
    (State.mirrorDone s).otp = s.otp ∧ (State.mirrorDone s).pending = s.pending := by
  unfold State.mirrorDone
  constructor <;> simp [apply_ite State.otp, apply_ite State.pending, apply_ite Prod.snd]

@[simp] theorem State.summary_keep (s : State) (x1 : _) (x2 : _) :
    (State.summary s x1 x2).otp = s.otp ∧ (State.summary s x1 x2).pending = s.pending := by
  unfold State.summary
  constructor <;> simp [apply_ite State.otp, apply_ite State.pending, apply_ite Prod.snd]

@[simp] theorem State.squallEnd_keep (s : State) :
    (State.squallEnd s).otp = s.otp ∧ (State.squallEnd s).pending = s.pending := by
  unfold State.squallEnd
  split
  · exact ⟨rfl, rfl⟩
  · next t h => have := State.expire_some h; dsimp only; split <;> simp_all

@[simp] theorem State.epochCommit_keep (s : State) (x1 : _) :
    (State.epochCommit s x1).otp = s.otp ∧ (State.epochCommit s x1).pending = s.pending := by
  unfold State.epochCommit; constructor <;> (repeat' split) <;> simp_all [apply_ite State.otp, apply_ite State.pending, apply_ite Prod.snd]

@[simp] theorem State.pcieLinkTrained_keep (s : State) (x1 : _) (x2 : _) (x3 : _) :
    (State.pcieLinkTrained s x1 x2 x3).otp = s.otp ∧ (State.pcieLinkTrained s x1 x2 x3).pending = s.pending := by
  unfold State.pcieLinkTrained
  constructor <;> simp [apply_ite State.otp, apply_ite State.pending, apply_ite Prod.snd]

@[simp] theorem State.eliminate_keep (s : State) (x1 : _) (x2 : _) :
    (State.eliminate s x1 x2).2.otp = s.otp ∧ (State.eliminate s x1 x2).2.pending = s.pending := by
  unfold State.eliminate
  simp only [apply_ite State.otp, apply_ite State.pending, apply_ite Prod.snd]
  constructor <;> repeat' (first
    | rfl
    | (simp; done)
    | intro _
    | (split <;> (try (simp only [Prod.ext_iff] at *; casesm* _ ∧ _; subst_vars)))
    | (simp_all [apply_ite State.otp, apply_ite State.pending, apply_ite Prod.snd]; done))

@[simp] theorem State.switchApply_keep (s : State) (x1 : _) :
    (State.switchApply s x1).otp = s.otp ∧ (State.switchApply s x1).pending = s.pending := by
  unfold State.switchApply; constructor <;> (repeat' split) <;> simp_all [apply_ite State.otp, apply_ite State.pending, apply_ite Prod.snd]

@[simp] theorem State.pfcRefresh_keep (s : State) (x y : _) :
    (State.pfcRefresh s x y).otp = s.otp ∧ (State.pfcRefresh s x y).pending = s.pending := by
  unfold State.pfcRefresh
  split
  · exact ⟨rfl, rfl⟩
  next t h =>
  have ht := State.expire_some h
  exact State.keep_ite (by simp [ht]) ht

@[simp] theorem State.residueOut_keep (s : State) (x1 : _) :
    (State.residueOut s x1).otp = s.otp ∧ (State.residueOut s x1).pending = s.pending := by
  unfold State.residueOut
  constructor <;> simp [apply_ite State.otp, apply_ite State.pending, apply_ite Prod.snd]

@[simp] theorem State.retryOne_keep (s : State) (x1 : _) (x2 : _) :
    (State.retryOne s x1 x2).2.otp = s.otp ∧ (State.retryOne s x1 x2).2.pending = s.pending := by
  unfold State.retryOne; constructor <;> (repeat' split) <;> simp_all [apply_ite State.otp, apply_ite State.pending, apply_ite Prod.snd]

@[simp] theorem State.injStop_keep (s : State) (x1 : _) :
    (State.injStop s x1).otp = s.otp ∧ (State.injStop s x1).pending = s.pending := by
  unfold State.injStop
  constructor <;> simp [apply_ite State.otp, apply_ite State.pending, apply_ite Prod.snd]

@[simp] theorem State.dmaGo_keep (n : _) (s : State) :
    (State.dmaGo n s).otp = s.otp ∧ (State.dmaGo n s).pending = s.pending := by
  induction n generalizing s with
  | zero => exact ⟨rfl, rfl⟩
  | succ n ih =>
    simp only [State.dmaGo]
    (repeat' split) <;> simp [ih]

@[simp] theorem State.dmaDrain_keep (s : State) :
    (State.dmaDrain s).otp = s.otp ∧ (State.dmaDrain s).pending = s.pending := by
  unfold State.dmaDrain
  constructor <;> simp [apply_ite State.otp, apply_ite State.pending, apply_ite Prod.snd]

@[simp] theorem State.cycleMarker_keep (s : State) (x1 : _) :
    (State.cycleMarker s x1).otp = s.otp ∧ (State.cycleMarker s x1).pending = s.pending := by
  unfold State.cycleMarker
  constructor <;> simp [apply_ite State.otp, apply_ite State.pending, apply_ite Prod.snd]

@[simp] theorem State.clearRegions_keep (s : State) (x1 : _) (x2 : _) :
    (State.clearRegions s x1 x2).otp = s.otp ∧ (State.clearRegions s x1 x2).pending = s.pending := by
  unfold State.clearRegions
  constructor <;> simp [apply_ite State.otp, apply_ite State.pending, apply_ite Prod.snd]

@[simp] theorem State.stageLoad_keep (s : State) (b i : _) :
    (State.stageLoad s b i).2.otp = s.otp ∧ (State.stageLoad s b i).2.pending = s.pending := by
  apply State.keep_snd
  unfold State.stageLoad
  extract_lets +onlyGivenNames x has act st bad loaded s1 s2 s3 cr recs sec
  clear_value bad
  have h1 : s1.otp = s.otp ∧ s1.pending = s.pending := by simp [s1]
  clear_value s1
  have h2 : s2.otp = s.otp ∧ s2.pending = s.pending := by simp only [s2]; (repeat' split) <;> simp [h1]
  clear_value s2
  have h3 : s3.otp = s.otp ∧ s3.pending = s.pending := by simp only [s3]; split <;> simp [h2]
  clear_value s3
  have hu (k : Bool) : (s3.rulesUpTo x k recs).otp = s.otp ∧ (s3.rulesUpTo x k recs).pending = s.pending := by simp [h3]
  split
  · exact hu _
  · exact hu _
  · next t h =>
    have h4 := State.rulesApply_some h
    have h5 : t.otp = s.otp ∧ t.pending = s.pending := ⟨h4.1.trans h3.1, h4.2.trans h3.2⟩
    split <;> exact h5

@[simp] theorem State.stageFrom3_keep (s : State) (a b c d : _) :
    (State.stageFrom3 s a b c d).otp = s.otp ∧ (State.stageFrom3 s a b c d).pending = s.pending := by
  unfold State.stageFrom3
  extract_lets t
  have ht : t.otp = s.otp ∧ t.pending = s.pending := by simp [t]
  have hl := State.stageLoad_keep t c d
  clear_value t
  split
  · simp [ht]
  · split <;> next h => rw [h] at hl; simpa using ⟨hl.1.trans ht.1, hl.2.trans ht.2⟩

@[simp] theorem State.stageRun_keep (s : State) (a b c d : _) :
    (State.stageRun s a b c d).otp = s.otp ∧ (State.stageRun s a b c d).pending = s.pending := by
  unfold State.stageRun
  dsimp only
  (repeat' split) <;> simp

@[simp] theorem State.stageAlmanac_keep (s : State) (x1 : _) (x2 : _) :
    (State.stageAlmanac s x1 x2).otp = s.otp ∧ (State.stageAlmanac s x1 x2).pending = s.pending := by
  unfold State.stageAlmanac; constructor <;> (repeat' split) <;> simp_all [apply_ite State.otp, apply_ite State.pending, apply_ite Prod.snd]

@[simp] theorem State.drainSettled_keep (s : State) :
    (State.drainSettled s).otp = s.otp ∧ (State.drainSettled s).pending = s.pending := by
  change State.KeepBy id s (State.drainSettled s)
  unfold State.drainSettled
  repeat' (first
    | with_reducible exact State.keep_refl
    | with_reducible assumption
    | (intro t
       have ht : State.KeepBy id s t := by
         simp only [t, State.KeepBy, id] at *
         first
           | (simp [*, apply_ite State.otp, apply_ite State.pending, apply_ite Prod.snd]; done)
           | (split <;> simp_all [apply_ite State.otp, apply_ite State.pending, apply_ite Prod.snd]; done)
       clear_value t)
    | intro _
    | lift_lets
    | (simp only [State.KeepBy, id] at *; simp [*, apply_ite State.otp, apply_ite State.pending, apply_ite Prod.snd]; done)
    | split
    | have hk := State.expire_some (by assumption)
    | (simp only [State.KeepBy, id, Prod.ext_iff] at *; simp_all [apply_ite State.otp, apply_ite State.pending, apply_ite Prod.snd]; done))

@[simp] theorem State.residueRetry_keep (s : State) :
    (State.residueRetry s).otp = s.otp ∧ (State.residueRetry s).pending = s.pending := by
  change State.KeepBy id s (State.residueRetry s)
  unfold State.residueRetry
  repeat' (first
    | with_reducible exact State.keep_refl
    | (intro t
       have ht : State.KeepBy id s t := by
         simp only [t]
         constructor <;> simp only [id] <;> first
           | (simp [*, apply_ite State.otp, apply_ite State.pending, apply_ite Prod.snd]; done)
           | (split <;> simp [*, apply_ite State.otp, apply_ite State.pending, apply_ite Prod.snd]; done)
           | (simp [*, apply_ite State.otp, apply_ite State.pending, apply_ite Prod.snd]; split <;> simp [*, apply_ite State.otp, apply_ite State.pending, apply_ite Prod.snd]; done)
       clear_value t
       have ht1 : t.otp = s.otp := ht.1
       have ht2 : t.pending = s.pending := ht.2
       clear ht)
    | (intro x; clear_value x)
    | intro _
    | lift_lets
    | (show State.KeepBy _ _ _; split <;> (try (have hk := State.expire_some (by assumption); have hk1 := hk.1; have hk2 := hk.2; clear hk)))
    | (show State.KeepBy _ _ _
       constructor <;> simp only [id] <;> first
           | (simp [*, apply_ite State.otp, apply_ite State.pending, apply_ite Prod.snd]; done)
           | (split <;> simp [*, apply_ite State.otp, apply_ite State.pending, apply_ite Prod.snd]; done)
           | (simp [*, apply_ite State.otp, apply_ite State.pending, apply_ite Prod.snd]; split <;> simp [*, apply_ite State.otp, apply_ite State.pending, apply_ite Prod.snd]; done)))

@[simp] theorem State.ageRefresh_keep (s : State) (x1 : _) (x2 : _) (x3 : _) :
    (State.ageRefresh s x1 x2 x3).otp = s.otp ∧ (State.ageRefresh s x1 x2 x3).pending = s.pending := by
  unfold State.ageRefresh
  constructor <;> simp [apply_ite State.otp, apply_ite State.pending, apply_ite Prod.snd]

@[simp] theorem State.ageDeletion_keep (s : State) :
    (State.ageDeletion s).otp = s.otp ∧ (State.ageDeletion s).pending = s.pending := by
  unfold State.ageDeletion
  simp only [apply_ite State.otp, apply_ite State.pending, apply_ite Prod.snd]
  constructor <;> repeat' (first
    | rfl
    | (simp; done)
    | intro _
    | (split <;> (try (simp only [Prod.ext_iff] at *; casesm* _ ∧ _; subst_vars)))
    | (simp_all [apply_ite State.otp, apply_ite State.pending, apply_ite Prod.snd]; done))

@[simp] theorem State.secResponse_keep (s : State) (x1 : _) :
    (State.secResponse s x1).otp = s.otp ∧ (State.secResponse s x1).pending = s.pending := by
  unfold State.secResponse
  constructor <;> simp [apply_ite State.otp, apply_ite State.pending, apply_ite Prod.snd]

@[simp] theorem State.stripExit_keep (s : State) (x1 : _) (x2 : _) :
    (State.stripExit s x1 x2).otp = s.otp ∧ (State.stripExit s x1 x2).pending = s.pending := by
  unfold State.stripExit
  simp only [apply_ite State.otp, apply_ite State.pending, apply_ite Prod.snd]
  constructor <;> repeat' (first
    | rfl
    | (simp; done)
    | intro _
    | (split <;> (try (simp only [Prod.ext_iff] at *; casesm* _ ∧ _; subst_vars)))
    | (simp_all [apply_ite State.otp, apply_ite State.pending, apply_ite Prod.snd]; done))

@[simp] theorem State.refreshInterval_keep (s : State) (x1 : _) :
    (State.refreshInterval s x1).otp = s.otp ∧ (State.refreshInterval s x1).pending = s.pending := by
  unfold State.refreshInterval
  constructor <;> simp [apply_ite State.otp, apply_ite State.pending, apply_ite Prod.snd]

@[simp] theorem State.sendCell_keep (s : State) (x1 : _) (x2 : _) :
    (State.sendCell s x1 x2).otp = s.otp ∧ (State.sendCell s x1 x2).pending = s.pending := by
  unfold State.sendCell
  constructor <;> repeat' (first
    | rfl
    | (simp [apply_ite State.otp, apply_ite State.pending, apply_ite Prod.snd]; done)
    | intro _
    | (split <;> (try (simp only [Prod.ext_iff] at *; casesm* _ ∧ _; subst_vars)))
    | (simp_all [apply_ite State.otp, apply_ite State.pending, apply_ite Prod.snd]; done))

@[simp] theorem State.markerLimit_keep (s : State) (x1 : _) :
    (State.markerLimit s x1).otp = s.otp ∧ (State.markerLimit s x1).pending = s.pending := by
  unfold State.markerLimit; constructor <;> (repeat' split) <;> simp_all [apply_ite State.otp, apply_ite State.pending, apply_ite Prod.snd]

@[simp] theorem State.wakeTimeout_keep (s : State) (x : _) :
    (State.wakeTimeout s x).otp = s.otp ∧ (State.wakeTimeout s x).pending = s.pending := by
  apply State.keep_of
  unfold State.wakeTimeout
  split
  · exact State.keep_refl
  next t h =>
  have ht := State.expire_some h
  have hf := State.failStep_keep t
  split
  next k u hu =>
  rw [hu] at hf
  have h0 : u.otp = s.otp ∧ u.pending = s.pending := ⟨hf.1.trans ht.1, hf.2.trans ht.2⟩
  clear hf ht h hu
  extract_lets +onlyGivenNames left a
  have ha : a.otp = s.otp ∧ a.pending = s.pending := by
    simp only [a]; cases x with
    | none => exact h0
    | some n => exact State.keep_ite (by simp [h0]) h0
  extract_lets +onlyGivenNames b c
  have hc : c.otp = s.otp ∧ c.pending = s.pending := by
    simp only [c]; exact State.keep_ite (by simp [b, ha]) (by simp [b, ha])
  extract_lets +onlyGivenNames d
  have hd : d.otp = s.otp ∧ d.pending = s.pending := by simp [d, hc]
  split
  · exact State.keep_to (by simp [hd])
  · extract_lets +onlyGivenNames e
    have he : e.otp = s.otp ∧ e.pending = s.pending := by simp [e, hd]
    clear_value e
    exact State.keep_to (by simp [he])

@[simp] theorem State.macBoundary_keep (s : State) (p : _) :
    (State.macBoundary s p).otp = s.otp ∧ (State.macBoundary s p).pending = s.pending := by
  unfold State.macBoundary
  split
  · exact ⟨rfl, rfl⟩
  extract_lets t sent u
  have ht : t.otp = s.otp ∧ t.pending = s.pending := by simp [t]
  clear_value t
  split
  · exact ht
  split
  · (repeat' split) <;> simp [ht]
  split
  · simp [ht]
  · extract_lets v
    have hv : v.otp = s.otp ∧ v.pending = s.pending := by simp [v, u, ht]
    clear_value v
    split <;> simp [hv]

@[simp] theorem State.aonCheck_keep (s : State) (x1 : _) :
    (State.aonCheck s x1).otp = s.otp ∧ (State.aonCheck s x1).pending = s.pending := by
  unfold State.aonCheck
  constructor <;> simp [apply_ite State.otp, apply_ite State.pending, apply_ite Prod.snd]

@[simp] theorem State.railsDown_keep (s : State) :
    (State.railsDown s).otp = s.otp ∧ (State.railsDown s).pending = s.pending := by
  unfold State.railsDown
  constructor <;> simp [apply_ite State.otp, apply_ite State.pending, apply_ite Prod.snd]

@[simp] theorem State.residueExpire_keep (s : State) (x1 : _) (x2 : _) :
    (State.residueExpire s x1 x2).otp = s.otp ∧ (State.residueExpire s x1 x2).pending = s.pending := by
  unfold State.residueExpire; constructor <;> (repeat' split) <;> simp_all [apply_ite State.otp, apply_ite State.pending, apply_ite Prod.snd]

end Sys2Proof.Machine
end

