-- ==== Sys2Proof/Laws/Keep6.lean ====
section
/-! SUPPORT. Frame laws of the shared operations, part 6 of 6: no operation writes the one-time-programmable array (but
`State.burn` and what calls it) and none touches the queue of waiting commands. An operation that answers a state has a
law `…_keep`; one that may answer nothing has a law `…_some` about the state it answers. -/

namespace Sys2Proof.Machine

set_option linter.unusedSimpArgs false
set_option linter.unusedTactic false
set_option linter.unreachableTactic false
set_option linter.unusedVariables false

@[simp] theorem State.fwFail_keep (s : State) (x1 : _) :
    (State.fwFail s x1).otp = s.otp ∧ (State.fwFail s x1).pending = s.pending := by
  unfold State.fwFail
  constructor <;> simp [apply_ite State.otp, apply_ite State.pending, apply_ite Prod.snd]

@[simp] theorem State.wckRealign_keep (s : State) (x1 : _) (x2 : _) :
    (State.wckRealign s x1 x2).otp = s.otp ∧ (State.wckRealign s x1 x2).pending = s.pending := by
  unfold State.wckRealign
  constructor <;> simp [apply_ite State.otp, apply_ite State.pending, apply_ite Prod.snd]

@[simp] theorem State.overheadOut_keep (s : State) (x1 : _) (x2 : _) :
    (State.overheadOut s x1 x2).otp = s.otp ∧ (State.overheadOut s x1 x2).pending = s.pending := by
  unfold State.overheadOut
  constructor <;> simp [apply_ite State.otp, apply_ite State.pending, apply_ite Prod.snd]

@[simp] theorem State.fcFrame_keep (s : State) :
    (State.fcFrame s).2.otp = s.otp ∧ (State.fcFrame s).2.pending = s.pending := by
  unfold State.fcFrame
  constructor <;> simp [apply_ite State.otp, apply_ite State.pending, apply_ite Prod.snd]

@[simp] theorem State.frameStart_keep (s : State) :
    (State.frameStart s).otp = s.otp ∧ (State.frameStart s).pending = s.pending := by
  unfold State.frameStart
  constructor <;> simp [apply_ite State.otp, apply_ite State.pending, apply_ite Prod.snd]

@[simp] theorem State.cfgRead_keep (s : State) (x1 : _) (x2 : _) :
    (State.cfgRead s x1 x2).otp = s.otp ∧ (State.cfgRead s x1 x2).pending = s.pending := by
  unfold State.cfgRead
  constructor <;> simp [apply_ite State.otp, apply_ite State.pending, apply_ite Prod.snd]

@[simp] theorem State.tempRead_keep (s : State) (x1 : _) (x2 : _) (x3 : _) :
    (State.tempRead s x1 x2 x3).otp = s.otp ∧ (State.tempRead s x1 x2 x3).pending = s.pending := by
  unfold State.tempRead
  constructor <;> simp [apply_ite State.otp, apply_ite State.pending, apply_ite Prod.snd]

@[simp] theorem State.brownout_keep (s : State) :
    (State.brownout s).otp = s.otp ∧ (State.brownout s).pending = s.pending := by
  unfold State.brownout
  constructor <;> simp [apply_ite State.otp, apply_ite State.pending, apply_ite Prod.snd]

@[simp] theorem State.remirrorDone_keep (s : State) :
    (State.remirrorDone s).otp = s.otp ∧ (State.remirrorDone s).pending = s.pending := by
  unfold State.remirrorDone
  constructor <;> simp [apply_ite State.otp, apply_ite State.pending, apply_ite Prod.snd]

@[simp] theorem State.snapEnd_keep (s : State) (x1 : _) (x2 : _) (x3 : _) :
    (State.snapEnd s x1 x2 x3).otp = s.otp ∧ (State.snapEnd s x1 x2 x3).pending = s.pending := by
  unfold State.snapEnd; constructor <;> (repeat' split) <;> simp_all [apply_ite State.otp, apply_ite State.pending, apply_ite Prod.snd]

@[simp] theorem State.todRx_keep (s : State) (x1 : _) (x2 : _) :
    (State.todRx s x1 x2).otp = s.otp ∧ (State.todRx s x1 x2).pending = s.pending := by
  unfold State.todRx; constructor <;> (repeat' split) <;> simp_all [apply_ite State.otp, apply_ite State.pending, apply_ite Prod.snd]

@[simp] theorem State.resetDone_keep (s : State) (x1 : _) :
    (State.resetDone s x1).otp = s.otp ∧ (State.resetDone s x1).pending = s.pending := by
  change State.KeepBy id s (State.resetDone s x1)
  unfold State.resetDone
  repeat' (first
    | with_reducible exact State.keep_refl
    | with_reducible assumption
    | (intro t
       have ht : State.KeepBy id s t := by
         simp only [t, State.KeepBy, id] at *
         first
           | (simp [*, apply_ite State.otp, apply_ite State.pending, apply_ite Prod.snd]; done)
           | (split <;> simp_all [apply_ite State.otp, apply_ite State.pending, apply_ite Prod.snd]; done)
       clear_value t)
    | intro _
    | lift_lets
    | (simp only [State.KeepBy, id] at *; simp [*, apply_ite State.otp, apply_ite State.pending, apply_ite Prod.snd]; done)
    | split
    | have hk := State.expire_some (by assumption)
    | (simp only [State.KeepBy, id, Prod.ext_iff] at *; simp_all [apply_ite State.otp, apply_ite State.pending, apply_ite Prod.snd]; done))

@[simp] theorem State.injAdmit_keep (s : State) (x1 : _) (x2 : _) :
    (State.injAdmit s x1 x2).otp = s.otp ∧ (State.injAdmit s x1 x2).pending = s.pending := by
  unfold State.injAdmit
  simp only [apply_ite State.otp, apply_ite State.pending, apply_ite Prod.snd]
  constructor <;> repeat' (first
    | rfl
    | (simp; done)
    | intro _
    | (split <;> (try (simp only [Prod.ext_iff] at *; casesm* _ ∧ _; subst_vars)))
    | (simp_all [apply_ite State.otp, apply_ite State.pending, apply_ite Prod.snd]; done))

@[simp] theorem State.injTake_keep (s : State) (c a p m l d b : _) :
    (State.injTake s c a p m l d b).otp = s.otp ∧ (State.injTake s c a p m l d b).pending = s.pending := by
  apply State.keep_of
  unfold State.injTake
  extract_lets +onlyGivenNames mode port
  split
  · exact State.keep_to (by simp)
  split
  · exact State.keep_to (by simp)
  split
  · exact State.keep_to (by simp)
  split
  · exact State.keep_to (by simp)
  split
  · exact State.keep_to (by simp)
  have h1 := State.injPkt_keep s m d b
  split
  next q t ht =>
  rw [ht] at h1
  have h2 := State.newPkt_keep t { q with inj := some (c, a, p) }
  split
  next id u hu =>
  rw [hu] at h2
  have h : u.otp = s.otp ∧ u.pending = s.pending := ⟨h2.1.trans h1.1, h2.2.trans h1.2⟩
  clear h1 h2 ht hu
  extract_lets +onlyGivenNames q2 voq
  clear_value q2 voq
  have h3 := State.expressStep_keep u q2 0x1F
  split
  · split
    · next v hv => rw [hv] at h3; have h4 : v.otp = s.otp ∧ v.pending = s.pending := ⟨h3.1.trans h.1, h3.2.trans h.2⟩; exact State.keep_to (by simp [h4])
    · next v hv => rw [hv] at h3; have h4 : v.otp = s.otp ∧ v.pending = s.pending := ⟨h3.1.trans h.1, h3.2.trans h.2⟩; exact State.keep_to (by simp [h4])
  · exact State.keep_to (by simp [h])

@[simp] theorem State.injFetch_keep (s : State) (x1 : _) (x2 : _) (x3 : _) (x4 : _) :
    (State.injFetch s x1 x2 x3 x4).otp = s.otp ∧ (State.injFetch s x1 x2 x3 x4).pending = s.pending := by
  unfold State.injFetch; constructor <;> (repeat' split) <;> simp_all [apply_ite State.otp, apply_ite State.pending, apply_ite Prod.snd]

@[simp] theorem State.trainTimeout_keep (s : State) (x1 : _) :
    (State.trainTimeout s x1).otp = s.otp ∧ (State.trainTimeout s x1).pending = s.pending := by
  change State.KeepBy id s (State.trainTimeout s x1)
  unfold State.trainTimeout
  repeat' (first
    | with_reducible exact State.keep_refl
    | (intro t
       have ht : State.KeepBy id s t := by
         simp only [t]
         constructor <;> simp only [id] <;> first
           | (simp [*, apply_ite State.otp, apply_ite State.pending, apply_ite Prod.snd]; done)
           | (split <;> simp [*, apply_ite State.otp, apply_ite State.pending, apply_ite Prod.snd]; done)
           | (simp [*, apply_ite State.otp, apply_ite State.pending, apply_ite Prod.snd]; split <;> simp [*, apply_ite State.otp, apply_ite State.pending, apply_ite Prod.snd]; done)
       clear_value t
       have ht1 : t.otp = s.otp := ht.1
       have ht2 : t.pending = s.pending := ht.2
       clear ht)
    | (intro x; clear_value x)
    | intro _
    | lift_lets
    | (show State.KeepBy _ _ _; split <;> (try (have hk := State.expire_some (by assumption); have hk1 := hk.1; have hk2 := hk.2; clear hk)))
    | (show State.KeepBy _ _ _
       constructor <;> simp only [id] <;> first
           | (simp [*, apply_ite State.otp, apply_ite State.pending, apply_ite Prod.snd]; done)
           | (split <;> simp [*, apply_ite State.otp, apply_ite State.pending, apply_ite Prod.snd]; done)
           | (simp [*, apply_ite State.otp, apply_ite State.pending, apply_ite Prod.snd]; split <;> simp [*, apply_ite State.otp, apply_ite State.pending, apply_ite Prod.snd]; done)))

@[simp] theorem State.tempWarn_keep (s : State) (x1 : _) (x2 : _) :
    (State.tempWarn s x1 x2).otp = s.otp ∧ (State.tempWarn s x1 x2).pending = s.pending := by
  change State.KeepBy id s (State.tempWarn s x1 x2)
  unfold State.tempWarn
  repeat' (first
    | with_reducible exact State.keep_refl
    | with_reducible assumption
    | (intro t
       have ht : State.KeepBy id s t := by
         simp only [t, State.KeepBy, id] at *
         first
           | (simp [*, apply_ite State.otp, apply_ite State.pending, apply_ite Prod.snd]; done)
           | (split <;> simp_all [apply_ite State.otp, apply_ite State.pending, apply_ite Prod.snd]; done)
       clear_value t)
    | intro _
    | lift_lets
    | (simp only [State.KeepBy, id] at *; simp [*, apply_ite State.otp, apply_ite State.pending, apply_ite Prod.snd]; done)
    | split
    | (simp only [State.KeepBy, id, Prod.ext_iff] at *; simp_all [apply_ite State.otp, apply_ite State.pending, apply_ite Prod.snd]; done))

@[simp] theorem State.installApply_keep (s : State) :
    (State.installApply s).otp = s.otp ∧ (State.installApply s).pending = s.pending := by
  unfold State.installApply
  constructor <;> simp [apply_ite State.otp, apply_ite State.pending, apply_ite Prod.snd]

@[simp] theorem State.evalLinks_keep (s : State) :
    (State.evalLinks s).otp = s.otp ∧ (State.evalLinks s).pending = s.pending := by
  unfold State.evalLinks
  constructor <;> simp [apply_ite State.otp, apply_ite State.pending, apply_ite Prod.snd]

@[simp] theorem State.entryAbort_keep (s : State) :
    (State.entryAbort s).otp = s.otp ∧ (State.entryAbort s).pending = s.pending := by
  unfold State.entryAbort
  constructor <;> simp [apply_ite State.otp, apply_ite State.pending, apply_ite Prod.snd]

@[simp] theorem State.chanModify_keep (s : State) (x1 : _) :
    (State.chanModify s x1).otp = s.otp ∧ (State.chanModify s x1).pending = s.pending := by
  change State.KeepBy id s (State.chanModify s x1)
  unfold State.chanModify
  repeat' (first
    | with_reducible exact State.keep_refl
    | with_reducible assumption
    | (intro t
       have ht : State.KeepBy id s t := by
         simp only [t, State.KeepBy, id] at *
         first
           | (simp [*, apply_ite State.otp, apply_ite State.pending, apply_ite Prod.snd]; done)
           | (split <;> simp_all [apply_ite State.otp, apply_ite State.pending, apply_ite Prod.snd]; done)
       clear_value t)
    | intro _
    | lift_lets
    | (simp only [State.KeepBy, id] at *; simp [*, apply_ite State.otp, apply_ite State.pending, apply_ite Prod.snd]; done)
    | split
    | (simp only [State.KeepBy, id, Prod.ext_iff] at *; simp_all [apply_ite State.otp, apply_ite State.pending, apply_ite Prod.snd]; done))

@[simp] theorem State.chipReset_keep (s : State) (x1 : _) :
    (State.chipReset s x1).otp = s.otp ∧ (State.chipReset s x1).pending = s.pending := by
  unfold State.chipReset
  constructor <;> simp [apply_ite State.otp, apply_ite State.pending, apply_ite Prod.snd]

@[simp] theorem State.fetchReadDone_keep (s : State) (x1 : _) (x2 : _) :
    (State.fetchReadDone s x1 x2).otp = s.otp ∧ (State.fetchReadDone s x1 x2).pending = s.pending := by
  unfold State.fetchReadDone; constructor <;> (repeat' split) <;> simp_all [apply_ite State.otp, apply_ite State.pending, apply_ite Prod.snd]

@[simp] theorem State.admitIn_keep (s : State) (x1 : _) :
    (State.admitIn s x1).otp = s.otp ∧ (State.admitIn s x1).pending = s.pending := by
  change State.KeepBy id s (State.admitIn s x1)
  unfold State.admitIn
  repeat' (first
    | with_reducible exact State.keep_refl
    | with_reducible assumption
    | (intro t
       have ht : State.KeepBy id s t := by
         simp only [t, State.KeepBy, id] at *
         first
           | (simp [*, apply_ite State.otp, apply_ite State.pending, apply_ite Prod.snd]; done)
           | (split <;> simp_all [apply_ite State.otp, apply_ite State.pending, apply_ite Prod.snd]; done)
       clear_value t)
    | intro _
    | lift_lets
    | (simp only [State.KeepBy, id] at *; simp [*, apply_ite State.otp, apply_ite State.pending, apply_ite Prod.snd]; done)
    | split
    | (simp only [State.KeepBy, id, Prod.ext_iff] at *; simp_all [apply_ite State.otp, apply_ite State.pending, apply_ite Prod.snd]; done))

@[simp] theorem State.spraySlot_keep (s : State) :
    (State.spraySlot s).otp = s.otp ∧ (State.spraySlot s).pending = s.pending := by
  unfold State.spraySlot
  constructor <;> simp [apply_ite State.otp, apply_ite State.pending, apply_ite Prod.snd]

@[simp] theorem State.spaceRead_keep (s : State) (a b c : _) :
    (State.spaceRead s a b c).otp = s.otp ∧ (State.spaceRead s a b c).pending = s.pending := by
  cases a <;> simp [State.spaceRead]

@[simp] theorem State.mgmtMatch_keep (s : State) :
    (State.mgmtMatch s).otp = s.otp ∧ (State.mgmtMatch s).pending = s.pending := by
  unfold State.mgmtMatch
  constructor <;> simp [apply_ite State.otp, apply_ite State.pending, apply_ite Prod.snd]

@[simp] theorem State.lifeUpdate_keep (s : State) (x1 : _) (x2 : _) :
    (State.lifeUpdate s x1 x2).otp = s.otp ∧ (State.lifeUpdate s x1 x2).pending = s.pending := by
  unfold State.lifeUpdate
  constructor <;> simp [apply_ite State.otp, apply_ite State.pending, apply_ite Prod.snd]

@[simp] theorem State.egressSelect_keep (s : State) (i u : _) :
    (State.egressSelect s i u).otp = s.otp ∧ (State.egressSelect s i u).pending = s.pending := by
  unfold State.egressSelect
  split
  · exact ⟨rfl, rfl⟩
  split
  · simp
  dsimp only
  split <;> simp

@[simp] theorem State.destroyTimeout_keep (s : State) (x : _) :
    (State.destroyTimeout s x).otp = s.otp ∧ (State.destroyTimeout s x).pending = s.pending := by
  apply State.keep_of
  unfold State.destroyTimeout
  split
  · exact State.keep_refl
  next t h =>
  have ht := State.expire_some h
  split
  · exact State.keep_to ht
  extract_lets +onlyGivenNames k
  clear_value k
  have hf := State.chanFlush_keep t x
  split
  next n u hu =>
  rw [hu] at hf
  have h0 : u.otp = s.otp ∧ u.pending = s.pending := ⟨hf.1.trans ht.1, hf.2.trans ht.2⟩
  extract_lets +onlyGivenNames v
  have hv : v.otp = s.otp ∧ v.pending = s.pending := State.keep_ite h0 (by simp [h0])
  clear_value v
  exact State.keep_to (by simp [hv])

@[simp] theorem State.report_keep (s : State) (x1 : _) (x2 : _) :
    (State.report s x1 x2).otp = s.otp ∧ (State.report s x1 x2).pending = s.pending := by
  unfold State.report
  constructor <;> simp [apply_ite State.otp, apply_ite State.pending, apply_ite Prod.snd]

@[simp] theorem State.coreTake_keep (n : _) (s : State) (x y : _) :
    (State.coreTake n s x y).otp = s.otp ∧ (State.coreTake n s x y).pending = s.pending := by
  induction n generalizing s with
  | zero => exact ⟨rfl, rfl⟩
  | succ n ih => simp only [State.coreTake]; (repeat' split) <;> simp [ih]

@[simp] theorem State.coreStep_keep (s : State) :
    (State.coreStep s).otp = s.otp ∧ (State.coreStep s).pending = s.pending := by
  unfold State.coreStep
  constructor <;> simp [apply_ite State.otp, apply_ite State.pending, apply_ite Prod.snd]

@[simp] theorem State.bridgeWord_keep (s : State) (x1 : _) (x2 : _) :
    (State.bridgeWord s x1 x2).otp = s.otp ∧ (State.bridgeWord s x1 x2).pending = s.pending := by
  unfold State.bridgeWord; constructor <;> (repeat' split) <;> simp_all [apply_ite State.otp, apply_ite State.pending, apply_ite Prod.snd]

@[simp] theorem State.clocksBack_keep (s : State) :
    (State.clocksBack s).otp = s.otp ∧ (State.clocksBack s).pending = s.pending := by
  unfold State.clocksBack
  constructor <;> simp [apply_ite State.otp, apply_ite State.pending, apply_ite Prod.snd]

@[simp] theorem State.attestQuote_keep (s : State) (x1 : _) :
    (State.attestQuote s x1).otp = s.otp ∧ (State.attestQuote s x1).pending = s.pending := by
  unfold State.attestQuote; constructor <;> (repeat' split) <;> simp_all [apply_ite State.otp, apply_ite State.pending, apply_ite Prod.snd]

@[simp] theorem State.ctxIdle_keep (s : State) (x1 : _) (x2 : _) :
    (State.ctxIdle s x1 x2).otp = s.otp ∧ (State.ctxIdle s x1 x2).pending = s.pending := by
  change State.KeepBy id s (State.ctxIdle s x1 x2)
  unfold State.ctxIdle
  repeat' (first
    | with_reducible exact State.keep_refl
    | (intro t
       have ht : State.KeepBy id s t := by
         simp only [t]
         constructor <;> simp only [id] <;> first
           | (simp [*, apply_ite State.otp, apply_ite State.pending, apply_ite Prod.snd]; done)
           | (split <;> simp [*, apply_ite State.otp, apply_ite State.pending, apply_ite Prod.snd]; done)
           | (simp [*, apply_ite State.otp, apply_ite State.pending, apply_ite Prod.snd]; split <;> simp [*, apply_ite State.otp, apply_ite State.pending, apply_ite Prod.snd]; done)
       clear_value t
       have ht1 : t.otp = s.otp := ht.1
       have ht2 : t.pending = s.pending := ht.2
       clear ht)
    | (intro x; clear_value x)
    | intro _
    | lift_lets
    | (show State.KeepBy _ _ _; split <;> (try (have hk := State.expire_some (by assumption); have hk1 := hk.1; have hk2 := hk.2; clear hk)))
    | (show State.KeepBy _ _ _
       constructor <;> simp only [id] <;> first
           | (simp [*, apply_ite State.otp, apply_ite State.pending, apply_ite Prod.snd]; done)
           | (split <;> simp [*, apply_ite State.otp, apply_ite State.pending, apply_ite Prod.snd]; done)
           | (simp [*, apply_ite State.otp, apply_ite State.pending, apply_ite Prod.snd]; split <;> simp [*, apply_ite State.otp, apply_ite State.pending, apply_ite Prod.snd]; done)))

@[simp] theorem State.stageTimeout_keep (s : State) :
    (State.stageTimeout s).otp = s.otp ∧ (State.stageTimeout s).pending = s.pending := by
  change State.KeepBy id s (State.stageTimeout s)
  unfold State.stageTimeout
  repeat' (first
    | with_reducible exact State.keep_refl
    | (intro t
       have ht : State.KeepBy id s t := by
         simp only [t]
         constructor <;> simp only [id] <;> first
           | (simp [*, apply_ite State.otp, apply_ite State.pending, apply_ite Prod.snd]; done)
           | (split <;> simp [*, apply_ite State.otp, apply_ite State.pending, apply_ite Prod.snd]; done)
           | (simp [*, apply_ite State.otp, apply_ite State.pending, apply_ite Prod.snd]; split <;> simp [*, apply_ite State.otp, apply_ite State.pending, apply_ite Prod.snd]; done)
       clear_value t
       have ht1 : t.otp = s.otp := ht.1
       have ht2 : t.pending = s.pending := ht.2
       clear ht)
    | (intro x; clear_value x)
    | intro _
    | lift_lets
    | (show State.KeepBy _ _ _; split <;> (try (have hk := State.expire_some (by assumption); have hk1 := hk.1; have hk2 := hk.2; clear hk)))
    | (show State.KeepBy _ _ _
       constructor <;> simp only [id] <;> first
           | (simp [*, apply_ite State.otp, apply_ite State.pending, apply_ite Prod.snd]; done)
           | (split <;> simp [*, apply_ite State.otp, apply_ite State.pending, apply_ite Prod.snd]; done)
           | (simp [*, apply_ite State.otp, apply_ite State.pending, apply_ite Prod.snd]; split <;> simp [*, apply_ite State.otp, apply_ite State.pending, apply_ite Prod.snd]; done)))

@[simp] theorem State.cellRemap_keep (s : State) (x1 : _) :
    (State.cellRemap s x1).otp = s.otp ∧ (State.cellRemap s x1).pending = s.pending := by
  change State.KeepBy id s (State.cellRemap s x1)
  unfold State.cellRemap
  repeat' (first
    | with_reducible exact State.keep_refl
    | with_reducible assumption
    | (intro t
       have ht : State.KeepBy id s t := by
         simp only [t, State.KeepBy, id] at *
         first
           | (simp [*, apply_ite State.otp, apply_ite State.pending, apply_ite Prod.snd]; done)
           | (split <;> simp_all [apply_ite State.otp, apply_ite State.pending, apply_ite Prod.snd]; done)
       clear_value t)
    | intro _
    | lift_lets
    | (simp only [State.KeepBy, id] at *; simp [*, apply_ite State.otp, apply_ite State.pending, apply_ite Prod.snd]; done)
    | split
    | (simp only [State.KeepBy, id, Prod.ext_iff] at *; simp_all [apply_ite State.otp, apply_ite State.pending, apply_ite Prod.snd]; done))

@[simp] theorem State.fwStageDone_keep (s : State) (x1 : _) (x2 : _) :
    (State.fwStageDone s x1 x2).otp = s.otp ∧ (State.fwStageDone s x1 x2).pending = s.pending := by
  unfold State.fwStageDone; constructor <;> (repeat' split) <;> simp_all [apply_ite State.otp, apply_ite State.pending, apply_ite Prod.snd]

@[simp] theorem State.secChallenge_keep (s : State) :
    (State.secChallenge s).otp = s.otp ∧ (State.secChallenge s).pending = s.pending := by
  unfold State.secChallenge
  constructor <;> simp [apply_ite State.otp, apply_ite State.pending, apply_ite Prod.snd]

@[simp] theorem State.portDark_keep (s : State) (x1 : _) :
    (State.portDark s x1).otp = s.otp ∧ (State.portDark s x1).pending = s.pending := by
  unfold State.portDark
  constructor <;> simp [apply_ite State.otp, apply_ite State.pending, apply_ite Prod.snd]

@[simp] theorem State.powerDown_keep (s : State) :
    (State.powerDown s).otp = s.otp ∧ (State.powerDown s).pending = s.pending := by
  unfold State.powerDown
  constructor <;> simp [apply_ite State.otp, apply_ite State.pending, apply_ite Prod.snd]

@[simp] theorem State.snapCopied_keep (s : State) :
    (State.snapCopied s).otp = s.otp ∧ (State.snapCopied s).pending = s.pending := by
  unfold State.snapCopied; constructor <;> (repeat' split) <;> simp_all [apply_ite State.otp, apply_ite State.pending, apply_ite Prod.snd]

@[simp] theorem State.wakeStepDone_keep (s : State) :
    (State.wakeStepDone s).otp = s.otp ∧ (State.wakeStepDone s).pending = s.pending := by
  unfold State.wakeStepDone; constructor <;> (repeat' split) <;> simp_all [apply_ite State.otp, apply_ite State.pending, apply_ite Prod.snd]

@[simp] theorem State.pwrGoodFall_keep (s : State) :
    (State.pwrGoodFall s).otp = s.otp ∧ (State.pwrGoodFall s).pending = s.pending := by
  unfold State.pwrGoodFall
  constructor <;> simp [apply_ite State.otp, apply_ite State.pending, apply_ite Prod.snd]

@[simp] theorem State.writeSlot_keep (s : State) :
    (State.writeSlot s).otp = s.otp ∧ (State.writeSlot s).pending = s.pending := by
  change State.KeepBy id s (State.writeSlot s)
  unfold State.writeSlot
  repeat' (first
    | with_reducible exact State.keep_refl
    | (intro t
       have ht : State.KeepBy id s t := by
         simp only [t]
         constructor <;> simp only [id] <;> first
           | (simp [*, apply_ite State.otp, apply_ite State.pending, apply_ite Prod.snd]; done)
           | (split <;> simp [*, apply_ite State.otp, apply_ite State.pending, apply_ite Prod.snd]; done)
           | (simp [*, apply_ite State.otp, apply_ite State.pending, apply_ite Prod.snd]; split <;> simp [*, apply_ite State.otp, apply_ite State.pending, apply_ite Prod.snd]; done)
       clear_value t
       have ht1 : t.otp = s.otp := ht.1
       have ht2 : t.pending = s.pending := ht.2
       clear ht)
    | (intro x; clear_value x)
    | intro _
    | lift_lets
    | (show State.KeepBy _ _ _; split)
    | (show State.KeepBy _ _ _
       constructor <;> simp only [id] <;> first
           | (simp [*, apply_ite State.otp, apply_ite State.pending, apply_ite Prod.snd]; done)
           | (split <;> simp [*, apply_ite State.otp, apply_ite State.pending, apply_ite Prod.snd]; done)
           | (simp [*, apply_ite State.otp, apply_ite State.pending, apply_ite Prod.snd]; split <;> simp [*, apply_ite State.otp, apply_ite State.pending, apply_ite Prod.snd]; done)))

@[simp] theorem State.portComesUp_keep (s : State) (x1 : _) :
    (State.portComesUp s x1).otp = s.otp ∧ (State.portComesUp s x1).pending = s.pending := by
  unfold State.portComesUp
  constructor <;> simp [apply_ite State.otp, apply_ite State.pending, apply_ite Prod.snd]

@[simp] theorem State.slotScrub_keep (s : State) (x1 : _) :
    (State.slotScrub s x1).otp = s.otp ∧ (State.slotScrub s x1).pending = s.pending := by
  unfold State.slotScrub
  constructor <;> simp [apply_ite State.otp, apply_ite State.pending, apply_ite Prod.snd]

@[simp] theorem State.avsWrite_keep (s : State) (x1 : _) (x2 : _) :
    (State.avsWrite s x1 x2).otp = s.otp ∧ (State.avsWrite s x1 x2).pending = s.pending := by
  unfold State.avsWrite; constructor <;> (repeat' split) <;> simp_all [apply_ite State.otp, apply_ite State.pending, apply_ite Prod.snd]

@[simp] theorem State.avsLoop_keep (s : State) (x1 : _) (x2 : _) :
    (State.avsLoop s x1 x2).otp = s.otp ∧ (State.avsLoop s x1 x2).pending = s.pending := by
  unfold State.avsLoop
  constructor <;> simp [apply_ite State.otp, apply_ite State.pending, apply_ite Prod.snd]

@[simp] theorem State.showMin_keep (s : State) (x1 : _) :
    (State.showMin s x1).otp = s.otp ∧ (State.showMin s x1).pending = s.pending := by
  unfold State.showMin; constructor <;> (repeat' split) <;> simp_all [apply_ite State.otp, apply_ite State.pending, apply_ite Prod.snd]

@[simp] theorem State.avsPeriod_keep (s : State) (x1 : _) (x2 : _) :
    (State.avsPeriod s x1 x2).otp = s.otp ∧ (State.avsPeriod s x1 x2).pending = s.pending := by
  change State.KeepBy id s (State.avsPeriod s x1 x2)
  unfold State.avsPeriod
  repeat' (first
    | with_reducible exact State.keep_refl
    | with_reducible assumption
    | (intro t
       have ht : State.KeepBy id s t := by
         simp only [t, State.KeepBy, id] at *
         first
           | (simp [*, apply_ite State.otp, apply_ite State.pending, apply_ite Prod.snd]; done)
           | (split <;> simp_all [apply_ite State.otp, apply_ite State.pending, apply_ite Prod.snd]; done)
       clear_value t)
    | intro _
    | lift_lets
    | (simp only [State.KeepBy, id] at *; simp [*, apply_ite State.otp, apply_ite State.pending, apply_ite Prod.snd]; done)
    | split
    | (simp only [State.KeepBy, id, Prod.ext_iff] at *; simp_all [apply_ite State.otp, apply_ite State.pending, apply_ite Prod.snd]; done))

@[simp] theorem State.rollbackFlip_keep (s : State) :
    (State.rollbackFlip s).otp = s.otp ∧ (State.rollbackFlip s).pending = s.pending := by
  change State.KeepBy id s (State.rollbackFlip s)
  unfold State.rollbackFlip
  repeat' (first
    | with_reducible exact State.keep_refl
    | (intro t
       have ht : State.KeepBy id s t := by
         simp only [t]
         constructor <;> simp only [id] <;> first
           | (simp [*, apply_ite State.otp, apply_ite State.pending, apply_ite Prod.snd]; done)
           | (split <;> simp [*, apply_ite State.otp, apply_ite State.pending, apply_ite Prod.snd]; done)
           | (simp [*, apply_ite State.otp, apply_ite State.pending, apply_ite Prod.snd]; split <;> simp [*, apply_ite State.otp, apply_ite State.pending, apply_ite Prod.snd]; done)
       clear_value t
       have ht1 : t.otp = s.otp := ht.1
       have ht2 : t.pending = s.pending := ht.2
       clear ht)
    | (intro x; clear_value x)
    | intro _
    | lift_lets
    | (show State.KeepBy _ _ _; split <;> (try (have hk := State.expire_some (by assumption); have hk1 := hk.1; have hk2 := hk.2; clear hk)))
    | (show State.KeepBy _ _ _
       constructor <;> simp only [id] <;> first
           | (simp [*, apply_ite State.otp, apply_ite State.pending, apply_ite Prod.snd]; done)
           | (split <;> simp [*, apply_ite State.otp, apply_ite State.pending, apply_ite Prod.snd]; done)
           | (simp [*, apply_ite State.otp, apply_ite State.pending, apply_ite Prod.snd]; split <;> simp [*, apply_ite State.otp, apply_ite State.pending, apply_ite Prod.snd]; done)))

@[simp] theorem State.entryNext_keep (s : State) :
    (State.entryNext s).otp = s.otp ∧ (State.entryNext s).pending = s.pending := by
  apply State.keep_of
  unfold State.entryNext
  split
  · exact State.keep_to (by simp)
  · exact State.keep_to (by simp)
  · exact State.keep_to (by simp)
  · exact State.keep_to (State.keep_ite (by simp) (by simp))
  · extract_lets +onlyGivenNames a
    have ha : a.otp = s.otp ∧ a.pending = s.pending := by simp [a]
    clear_value a
    exact State.keep_to (State.keep_ite (by simp [ha]) (State.keep_ite (by simp [ha]) (by simp [ha])))
  · extract_lets +onlyGivenNames x a
    have ha : a.otp = s.otp ∧ a.pending = s.pending := by simp [a]
    clear_value a
    exact State.keep_to (State.keep_ite (by simp [ha]) (by simp [ha]))
  · exact State.keep_refl

@[simp] theorem State.safePoint_keep (s : State) :
    (State.safePoint s).otp = s.otp ∧ (State.safePoint s).pending = s.pending := by
  unfold State.safePoint
  constructor <;> simp [apply_ite State.otp, apply_ite State.pending, apply_ite Prod.snd]

@[simp] theorem State.bridgeLane_keep (s : State) (x1 : _) (x2 : _) (x3 : _) :
    (State.bridgeLane s x1 x2 x3).otp = s.otp ∧ (State.bridgeLane s x1 x2 x3).pending = s.pending := by
  unfold State.bridgeLane
  constructor <;> simp [apply_ite State.otp, apply_ite State.pending, apply_ite Prod.snd]

@[simp] theorem State.calFine_keep (s : State) :
    (State.calFine s).otp = s.otp ∧ (State.calFine s).pending = s.pending := by
  change State.KeepBy id s (State.calFine s)
  unfold State.calFine
  repeat' (first
    | with_reducible exact State.keep_refl
    | with_reducible assumption
    | (intro t
       have ht : State.KeepBy id s t := by
         simp only [t, State.KeepBy, id] at *
         first
           | (simp [*, apply_ite State.otp, apply_ite State.pending, apply_ite Prod.snd]; done)
           | (split <;> simp_all [apply_ite State.otp, apply_ite State.pending, apply_ite Prod.snd]; done)
       clear_value t)
    | intro _
    | lift_lets
    | (simp only [State.KeepBy, id] at *; simp [*, apply_ite State.otp, apply_ite State.pending, apply_ite Prod.snd]; done)
    | split
    | (simp only [State.KeepBy, id, Prod.ext_iff] at *; simp_all [apply_ite State.otp, apply_ite State.pending, apply_ite Prod.snd]; done))

@[simp] theorem State.depthGapEnd_keep (s : State) (x : _) :
    (State.depthGapEnd s x).otp = s.otp ∧ (State.depthGapEnd s x).pending = s.pending := by
  unfold State.depthGapEnd
  cases h : s.expire .depthGap (b2n x) with
  | none => exact ⟨rfl, rfl⟩
  | some t => exact State.expire_some h

@[simp] theorem State.epochStatus_keep (s : State) (x1 : _) :
    (State.epochStatus s x1).otp = s.otp ∧ (State.epochStatus s x1).pending = s.pending := by
  unfold State.epochStatus; constructor <;> (repeat' split) <;> simp_all [apply_ite State.otp, apply_ite State.pending, apply_ite Prod.snd]

@[simp] theorem State.pfcRx_keep (s : State) (x1 : _) (x2 : _) (x3 : _) :
    (State.pfcRx s x1 x2 x3).otp = s.otp ∧ (State.pfcRx s x1 x2 x3).pending = s.pending := by
  unfold State.pfcRx
  constructor <;> simp [apply_ite State.otp, apply_ite State.pending, apply_ite Prod.snd]

@[simp] theorem State.flinkDeg_keep (s : State) (x1 : _) (x2 : _) (x3 : _) (x4 : _) :
    (State.flinkDeg s x1 x2 x3 x4).otp = s.otp ∧ (State.flinkDeg s x1 x2 x3 x4).pending = s.pending := by
  unfold State.flinkDeg
  constructor <;> simp [apply_ite State.otp, apply_ite State.pending, apply_ite Prod.snd]

@[simp] theorem State.degInterval_keep (s : State) (x1 : _) (x2 : _) (x3 : _) (x4 : _) :
    (State.degInterval s x1 x2 x3 x4).otp = s.otp ∧ (State.degInterval s x1 x2 x3 x4).pending = s.pending := by
  unfold State.degInterval
  constructor <;> simp [apply_ite State.otp, apply_ite State.pending, apply_ite Prod.snd]

@[simp] theorem State.tblSwitch_keep (s : State) (x1 : _) :
    (State.tblSwitch s x1).otp = s.otp ∧ (State.tblSwitch s x1).pending = s.pending := by
  change State.KeepBy id s (State.tblSwitch s x1)
  unfold State.tblSwitch
  repeat' (first
    | with_reducible exact State.keep_refl
    | with_reducible assumption
    | (intro t
       have ht : State.KeepBy id s t := by
         simp only [t, State.KeepBy, id] at *
         first
           | (simp [*, apply_ite State.otp, apply_ite State.pending, apply_ite Prod.snd]; done)
           | (split <;> simp_all [apply_ite State.otp, apply_ite State.pending, apply_ite Prod.snd]; done)
       clear_value t)
    | intro _
    | lift_lets
    | (simp only [State.KeepBy, id] at *; simp [*, apply_ite State.otp, apply_ite State.pending, apply_ite Prod.snd]; done)
    | split
    | (simp only [State.KeepBy, id, Prod.ext_iff] at *; simp_all [apply_ite State.otp, apply_ite State.pending, apply_ite Prod.snd]; done))

@[simp] theorem State.flinkLos_keep (s : State) (x1 : _) (x2 : _) :
    (State.flinkLos s x1 x2).otp = s.otp ∧ (State.flinkLos s x1 x2).pending = s.pending := by
  unfold State.flinkLos
  constructor <;> simp [apply_ite State.otp, apply_ite State.pending, apply_ite Prod.snd]

@[simp] theorem State.gapExpire_keep (s : State) (x1 : _) (x2 : _) :
    (State.gapExpire s x1 x2).otp = s.otp ∧ (State.gapExpire s x1 x2).pending = s.pending := by
  change State.KeepBy id s (State.gapExpire s x1 x2)
  unfold State.gapExpire
  repeat' (first
    | with_reducible exact State.keep_refl
    | with_reducible assumption
    | (intro t
       have ht : State.KeepBy id s t := by
         simp only [t, State.KeepBy, id] at *
         first
           | (simp [*, apply_ite State.otp, apply_ite State.pending, apply_ite Prod.snd]; done)
           | (split <;> simp_all [apply_ite State.otp, apply_ite State.pending, apply_ite Prod.snd]; done)
       clear_value t)
    | intro _
    | lift_lets
    | (simp only [State.KeepBy, id] at *; simp [*, apply_ite State.otp, apply_ite State.pending, apply_ite Prod.snd]; done)
    | split
    | have hk := State.expire_some (by assumption)
    | (simp only [State.KeepBy, id, Prod.ext_iff] at *; simp_all [apply_ite State.otp, apply_ite State.pending, apply_ite Prod.snd]; done))

@[simp] theorem State.snapLatch_keep (s : State) :
    (State.snapLatch s).otp = s.otp ∧ (State.snapLatch s).pending = s.pending := by
  change State.KeepBy id s (State.snapLatch s)
  unfold State.snapLatch
  repeat' (first
    | with_reducible exact State.keep_refl
    | (intro t
       have ht : State.KeepBy id s t := by
         simp only [t]
         constructor <;> simp only [id] <;> first
           | (simp [*, apply_ite State.otp, apply_ite State.pending, apply_ite Prod.snd]; done)
           | (split <;> simp [*, apply_ite State.otp, apply_ite State.pending, apply_ite Prod.snd]; done)
           | (simp [*, apply_ite State.otp, apply_ite State.pending, apply_ite Prod.snd]; split <;> simp [*, apply_ite State.otp, apply_ite State.pending, apply_ite Prod.snd]; done)
       clear_value t
       have ht1 : t.otp = s.otp := ht.1
       have ht2 : t.pending = s.pending := ht.2
       clear ht)
    | (intro x; clear_value x)
    | intro _
    | lift_lets
    | (show State.KeepBy _ _ _; split <;> (try (have hk := State.expire_some (by assumption); have hk1 := hk.1; have hk2 := hk.2; clear hk)))
    | (show State.KeepBy _ _ _
       constructor <;> simp only [id] <;> first
           | (simp [*, apply_ite State.otp, apply_ite State.pending, apply_ite Prod.snd]; done)
           | (split <;> simp [*, apply_ite State.otp, apply_ite State.pending, apply_ite Prod.snd]; done)
           | (simp [*, apply_ite State.otp, apply_ite State.pending, apply_ite Prod.snd]; split <;> simp [*, apply_ite State.otp, apply_ite State.pending, apply_ite Prod.snd]; done)))

@[simp] theorem State.ppsOut_keep (s : State) :
    (State.ppsOut s).otp = s.otp ∧ (State.ppsOut s).pending = s.pending := by
  unfold State.ppsOut
  constructor <;> simp [apply_ite State.otp, apply_ite State.pending, apply_ite Prod.snd]

@[simp] theorem State.destroyDrained_keep (s : State) (x1 : _) :
    (State.destroyDrained s x1).otp = s.otp ∧ (State.destroyDrained s x1).pending = s.pending := by
  unfold State.destroyDrained
  constructor <;> simp [apply_ite State.otp, apply_ite State.pending, apply_ite Prod.snd]

@[simp] theorem State.freqTimeout_keep (s : State) (x1 : _) (x2 : _) :
    (State.freqTimeout s x1 x2).otp = s.otp ∧ (State.freqTimeout s x1 x2).pending = s.pending := by
  unfold State.freqTimeout; constructor <;> (repeat' split) <;> simp_all [apply_ite State.otp, apply_ite State.pending, apply_ite Prod.snd]

@[simp] theorem State.fenceRebuilding_keep (s : State) (x1 : _) (x2 : _) :
    (State.fenceRebuilding s x1 x2).otp = s.otp ∧ (State.fenceRebuilding s x1 x2).pending = s.pending := by
  change State.KeepBy id s (State.fenceRebuilding s x1 x2)
  unfold State.fenceRebuilding
  repeat' (first
    | with_reducible exact State.keep_refl
    | with_reducible assumption
    | (intro t
       have ht : State.KeepBy id s t := by
         simp only [t, State.KeepBy, id] at *
         first
           | (simp [*, apply_ite State.otp, apply_ite State.pending, apply_ite Prod.snd]; done)
           | (split <;> simp_all [apply_ite State.otp, apply_ite State.pending, apply_ite Prod.snd]; done)
       clear_value t)
    | intro _
    | lift_lets
    | (simp only [State.KeepBy, id] at *; simp [*, apply_ite State.otp, apply_ite State.pending, apply_ite Prod.snd]; done)
    | split
    | (simp only [State.KeepBy, id, Prod.ext_iff] at *; simp_all [apply_ite State.otp, apply_ite State.pending, apply_ite Prod.snd]; done))

@[simp] theorem State.cellCheckError_keep (s : State) (x1 : _) (x2 : _) (x3 : _) :
    (State.cellCheckError s x1 x2 x3).otp = s.otp ∧ (State.cellCheckError s x1 x2 x3).pending = s.pending := by
  change State.KeepBy id s (State.cellCheckError s x1 x2 x3)
  unfold State.cellCheckError
  repeat' (first
    | with_reducible exact State.keep_refl
    | with_reducible assumption
    | (intro t
       have ht : State.KeepBy id s t := by
         simp only [t, State.KeepBy, id] at *
         first
           | (simp [*, apply_ite State.otp, apply_ite State.pending, apply_ite Prod.snd]; done)
           | (split <;> simp_all [apply_ite State.otp, apply_ite State.pending, apply_ite Prod.snd]; done)
       clear_value t)
    | intro _
    | lift_lets
    | (simp only [State.KeepBy, id] at *; simp [*, apply_ite State.otp, apply_ite State.pending, apply_ite Prod.snd]; done)
    | split
    | (simp only [State.KeepBy, id, Prod.ext_iff] at *; simp_all [apply_ite State.otp, apply_ite State.pending, apply_ite Prod.snd]; done))

end Sys2Proof.Machine
end

