-- ==== Sys2Proof/Laws/State.lean ====
section
/-! SUPPORT. What each elementary update of `State` leaves alone: one law per field and update, so that no proof unfolds a
record update. Updates of one whole field through a function of it come as one law each. -/

namespace Sys2Proof.Machine

@[simp] theorem State.wfp_cycle (s : State) (f : Fld) (p i v : Nat) : (s.wfp f p i v).cycle = s.cycle := rfl
@[simp] theorem State.wfp_time (s : State) (f : Fld) (p i v : Nat) : (s.wfp f p i v).time = s.time := rfl
@[simp] theorem State.wfp_addend (s : State) (f : Fld) (p i v : Nat) : (s.wfp f p i v).addend = s.addend := rfl
@[simp] theorem State.wfp_timeRun (s : State) (f : Fld) (p i v : Nat) : (s.wfp f p i v).timeRun = s.timeRun := rfl
@[simp] theorem State.wfp_timers (s : State) (f : Fld) (p i v : Nat) : (s.wfp f p i v).timers = s.timers := rfl
@[simp] theorem State.wfp_hdrs (s : State) (f : Fld) (p i v : Nat) : (s.wfp f p i v).hdrs = s.hdrs := rfl
@[simp] theorem State.wfp_regsB (s : State) (f : Fld) (p i v : Nat) : (s.wfp f p i v).regsB = s.regsB := rfl
@[simp] theorem State.wfp_hiLatch (s : State) (f : Fld) (p i v : Nat) : (s.wfp f p i v).hiLatch = s.hiLatch := rfl
@[simp] theorem State.wfp_later (s : State) (f : Fld) (p i v : Nat) : (s.wfp f p i v).later = s.later := rfl
@[simp] theorem State.wfp_log (s : State) (f : Fld) (p i v : Nat) : (s.wfp f p i v).log = s.log := rfl
@[simp] theorem State.wfp_acts (s : State) (f : Fld) (p i v : Nat) : (s.wfp f p i v).acts = s.acts := rfl
@[simp] theorem State.wfp_chipReq (s : State) (f : Fld) (p i v : Nat) : (s.wfp f p i v).chipReq = s.chipReq := rfl
@[simp] theorem State.wfp_pw (s : State) (f : Fld) (p i v : Nat) : (s.wfp f p i v).pw = s.pw := rfl
@[simp] theorem State.wfp_ptp (s : State) (f : Fld) (p i v : Nat) : (s.wfp f p i v).ptp = s.ptp := rfl
@[simp] theorem State.wfp_mc (s : State) (f : Fld) (p i v : Nat) : (s.wfp f p i v).mc = s.mc := rfl
@[simp] theorem State.wfp_flash (s : State) (f : Fld) (p i v : Nat) : (s.wfp f p i v).flash = s.flash := rfl
@[simp] theorem State.wfp_th (s : State) (f : Fld) (p i v : Nat) : (s.wfp f p i v).th = s.th := rfl
@[simp] theorem State.wfp_jt (s : State) (f : Fld) (p i v : Nat) : (s.wfp f p i v).jt = s.jt := rfl
@[simp] theorem State.wfp_hc (s : State) (f : Fld) (p i v : Nat) : (s.wfp f p i v).hc = s.hc := rfl
@[simp] theorem State.wfp_hp (s : State) (f : Fld) (p i v : Nat) : (s.wfp f p i v).hp = s.hp := rfl
@[simp] theorem State.wfp_irq (s : State) (f : Fld) (p i v : Nat) : (s.wfp f p i v).irq = s.irq := rfl
@[simp] theorem State.wfp_pkts (s : State) (f : Fld) (p i v : Nat) : (s.wfp f p i v).pkts = s.pkts := rfl
@[simp] theorem State.wfp_nextPkt (s : State) (f : Fld) (p i v : Nat) : (s.wfp f p i v).nextPkt = s.nextPkt := rfl
@[simp] theorem State.wfp_ep (s : State) (f : Fld) (p i v : Nat) : (s.wfp f p i v).ep = s.ep := rfl
@[simp] theorem State.wfp_bankA (s : State) (f : Fld) (p i v : Nat) : (s.wfp f p i v).bankA = s.bankA := rfl
@[simp] theorem State.wfp_bankB (s : State) (f : Fld) (p i v : Nat) : (s.wfp f p i v).bankB = s.bankB := rfl
@[simp] theorem State.wfp_tm (s : State) (f : Fld) (p i v : Nat) : (s.wfp f p i v).tm = s.tm := rfl
@[simp] theorem State.wfp_ca (s : State) (f : Fld) (p i v : Nat) : (s.wfp f p i v).ca = s.ca := rfl
@[simp] theorem State.wfp_ln (s : State) (f : Fld) (p i v : Nat) : (s.wfp f p i v).ln = s.ln := rfl
@[simp] theorem State.wfp_net (s : State) (f : Fld) (p i v : Nat) : (s.wfp f p i v).net = s.net := rfl
@[simp] theorem State.wfp_tr (s : State) (f : Fld) (p i v : Nat) : (s.wfp f p i v).tr = s.tr := rfl
@[simp] theorem State.wfp_snap (s : State) (f : Fld) (p i v : Nat) : (s.wfp f p i v).snap = s.snap := rfl
@[simp] theorem State.wfp_meters (s : State) (f : Fld) (p i v : Nat) : (s.wfp f p i v).meters = s.meters := rfl
@[simp] theorem State.wfp_chans (s : State) (f : Fld) (p i v : Nat) : (s.wfp f p i v).chans = s.chans := rfl
@[simp] theorem State.wfp_sc (s : State) (f : Fld) (p i v : Nat) : (s.wfp f p i v).sc = s.sc := rfl
@[simp] theorem State.wfp_fab (s : State) (f : Fld) (p i v : Nat) : (s.wfp f p i v).fab = s.fab := rfl
@[simp] theorem State.wfp_links (s : State) (f : Fld) (p i v : Nat) : (s.wfp f p i v).links = s.links := rfl
@[simp] theorem State.wfp_dm (s : State) (f : Fld) (p i v : Nat) : (s.wfp f p i v).dm = s.dm := rfl
@[simp] theorem State.wfp_otp (s : State) (f : Fld) (p i v : Nat) : (s.wfp f p i v).otp = s.otp := rfl
@[simp] theorem State.wfp_freeCtr (s : State) (f : Fld) (p i v : Nat) : (s.wfp f p i v).freeCtr = s.freeCtr := rfl
@[simp] theorem State.wfp_out (s : State) (f : Fld) (p i v : Nat) : (s.wfp f p i v).out = s.out := rfl
@[simp] theorem State.wfp_pending (s : State) (f : Fld) (p i v : Nat) : (s.wfp f p i v).pending = s.pending := rfl

@[simp] theorem State.wf_cycle (s : State) (f : Fld) (v : Nat) : (s.wf f v).cycle = s.cycle := rfl
@[simp] theorem State.wf_time (s : State) (f : Fld) (v : Nat) : (s.wf f v).time = s.time := rfl
@[simp] theorem State.wf_addend (s : State) (f : Fld) (v : Nat) : (s.wf f v).addend = s.addend := rfl
@[simp] theorem State.wf_timeRun (s : State) (f : Fld) (v : Nat) : (s.wf f v).timeRun = s.timeRun := rfl
@[simp] theorem State.wf_timers (s : State) (f : Fld) (v : Nat) : (s.wf f v).timers = s.timers := rfl
@[simp] theorem State.wf_hdrs (s : State) (f : Fld) (v : Nat) : (s.wf f v).hdrs = s.hdrs := rfl
@[simp] theorem State.wf_regsB (s : State) (f : Fld) (v : Nat) : (s.wf f v).regsB = s.regsB := rfl
@[simp] theorem State.wf_hiLatch (s : State) (f : Fld) (v : Nat) : (s.wf f v).hiLatch = s.hiLatch := rfl
@[simp] theorem State.wf_later (s : State) (f : Fld) (v : Nat) : (s.wf f v).later = s.later := rfl
@[simp] theorem State.wf_log (s : State) (f : Fld) (v : Nat) : (s.wf f v).log = s.log := rfl
@[simp] theorem State.wf_acts (s : State) (f : Fld) (v : Nat) : (s.wf f v).acts = s.acts := rfl
@[simp] theorem State.wf_chipReq (s : State) (f : Fld) (v : Nat) : (s.wf f v).chipReq = s.chipReq := rfl
@[simp] theorem State.wf_pw (s : State) (f : Fld) (v : Nat) : (s.wf f v).pw = s.pw := rfl
@[simp] theorem State.wf_ptp (s : State) (f : Fld) (v : Nat) : (s.wf f v).ptp = s.ptp := rfl
@[simp] theorem State.wf_mc (s : State) (f : Fld) (v : Nat) : (s.wf f v).mc = s.mc := rfl
@[simp] theorem State.wf_flash (s : State) (f : Fld) (v : Nat) : (s.wf f v).flash = s.flash := rfl
@[simp] theorem State.wf_th (s : State) (f : Fld) (v : Nat) : (s.wf f v).th = s.th := rfl
@[simp] theorem State.wf_jt (s : State) (f : Fld) (v : Nat) : (s.wf f v).jt = s.jt := rfl
@[simp] theorem State.wf_hc (s : State) (f : Fld) (v : Nat) : (s.wf f v).hc = s.hc := rfl
@[simp] theorem State.wf_hp (s : State) (f : Fld) (v : Nat) : (s.wf f v).hp = s.hp := rfl
@[simp] theorem State.wf_irq (s : State) (f : Fld) (v : Nat) : (s.wf f v).irq = s.irq := rfl
@[simp] theorem State.wf_pkts (s : State) (f : Fld) (v : Nat) : (s.wf f v).pkts = s.pkts := rfl
@[simp] theorem State.wf_nextPkt (s : State) (f : Fld) (v : Nat) : (s.wf f v).nextPkt = s.nextPkt := rfl
@[simp] theorem State.wf_ep (s : State) (f : Fld) (v : Nat) : (s.wf f v).ep = s.ep := rfl
@[simp] theorem State.wf_bankA (s : State) (f : Fld) (v : Nat) : (s.wf f v).bankA = s.bankA := rfl
@[simp] theorem State.wf_bankB (s : State) (f : Fld) (v : Nat) : (s.wf f v).bankB = s.bankB := rfl
@[simp] theorem State.wf_tm (s : State) (f : Fld) (v : Nat) : (s.wf f v).tm = s.tm := rfl
@[simp] theorem State.wf_ca (s : State) (f : Fld) (v : Nat) : (s.wf f v).ca = s.ca := rfl
@[simp] theorem State.wf_ln (s : State) (f : Fld) (v : Nat) : (s.wf f v).ln = s.ln := rfl
@[simp] theorem State.wf_net (s : State) (f : Fld) (v : Nat) : (s.wf f v).net = s.net := rfl
@[simp] theorem State.wf_tr (s : State) (f : Fld) (v : Nat) : (s.wf f v).tr = s.tr := rfl
@[simp] theorem State.wf_snap (s : State) (f : Fld) (v : Nat) : (s.wf f v).snap = s.snap := rfl
@[simp] theorem State.wf_meters (s : State) (f : Fld) (v : Nat) : (s.wf f v).meters = s.meters := rfl
@[simp] theorem State.wf_chans (s : State) (f : Fld) (v : Nat) : (s.wf f v).chans = s.chans := rfl
@[simp] theorem State.wf_sc (s : State) (f : Fld) (v : Nat) : (s.wf f v).sc = s.sc := rfl
@[simp] theorem State.wf_fab (s : State) (f : Fld) (v : Nat) : (s.wf f v).fab = s.fab := rfl
@[simp] theorem State.wf_links (s : State) (f : Fld) (v : Nat) : (s.wf f v).links = s.links := rfl
@[simp] theorem State.wf_dm (s : State) (f : Fld) (v : Nat) : (s.wf f v).dm = s.dm := rfl
@[simp] theorem State.wf_otp (s : State) (f : Fld) (v : Nat) : (s.wf f v).otp = s.otp := rfl
@[simp] theorem State.wf_freeCtr (s : State) (f : Fld) (v : Nat) : (s.wf f v).freeCtr = s.freeCtr := rfl
@[simp] theorem State.wf_out (s : State) (f : Fld) (v : Nat) : (s.wf f v).out = s.out := rfl
@[simp] theorem State.wf_pending (s : State) (f : Fld) (v : Nat) : (s.wf f v).pending = s.pending := rfl

@[simp] theorem State.wfi_cycle (s : State) (f : Fld) (i v : Nat) : (s.wfi f i v).cycle = s.cycle := rfl
@[simp] theorem State.wfi_time (s : State) (f : Fld) (i v : Nat) : (s.wfi f i v).time = s.time := rfl
@[simp] theorem State.wfi_addend (s : State) (f : Fld) (i v : Nat) : (s.wfi f i v).addend = s.addend := rfl
@[simp] theorem State.wfi_timeRun (s : State) (f : Fld) (i v : Nat) : (s.wfi f i v).timeRun = s.timeRun := rfl
@[simp] theorem State.wfi_timers (s : State) (f : Fld) (i v : Nat) : (s.wfi f i v).timers = s.timers := rfl
@[simp] theorem State.wfi_hdrs (s : State) (f : Fld) (i v : Nat) : (s.wfi f i v).hdrs = s.hdrs := rfl
@[simp] theorem State.wfi_regsB (s : State) (f : Fld) (i v : Nat) : (s.wfi f i v).regsB = s.regsB := rfl
@[simp] theorem State.wfi_hiLatch (s : State) (f : Fld) (i v : Nat) : (s.wfi f i v).hiLatch = s.hiLatch := rfl
@[simp] theorem State.wfi_later (s : State) (f : Fld) (i v : Nat) : (s.wfi f i v).later = s.later := rfl
@[simp] theorem State.wfi_log (s : State) (f : Fld) (i v : Nat) : (s.wfi f i v).log = s.log := rfl
@[simp] theorem State.wfi_acts (s : State) (f : Fld) (i v : Nat) : (s.wfi f i v).acts = s.acts := rfl
@[simp] theorem State.wfi_chipReq (s : State) (f : Fld) (i v : Nat) : (s.wfi f i v).chipReq = s.chipReq := rfl
@[simp] theorem State.wfi_pw (s : State) (f : Fld) (i v : Nat) : (s.wfi f i v).pw = s.pw := rfl
@[simp] theorem State.wfi_ptp (s : State) (f : Fld) (i v : Nat) : (s.wfi f i v).ptp = s.ptp := rfl
@[simp] theorem State.wfi_mc (s : State) (f : Fld) (i v : Nat) : (s.wfi f i v).mc = s.mc := rfl
@[simp] theorem State.wfi_flash (s : State) (f : Fld) (i v : Nat) : (s.wfi f i v).flash = s.flash := rfl
@[simp] theorem State.wfi_th (s : State) (f : Fld) (i v : Nat) : (s.wfi f i v).th = s.th := rfl
@[simp] theorem State.wfi_jt (s : State) (f : Fld) (i v : Nat) : (s.wfi f i v).jt = s.jt := rfl
@[simp] theorem State.wfi_hc (s : State) (f : Fld) (i v : Nat) : (s.wfi f i v).hc = s.hc := rfl
@[simp] theorem State.wfi_hp (s : State) (f : Fld) (i v : Nat) : (s.wfi f i v).hp = s.hp := rfl
@[simp] theorem State.wfi_irq (s : State) (f : Fld) (i v : Nat) : (s.wfi f i v).irq = s.irq := rfl
@[simp] theorem State.wfi_pkts (s : State) (f : Fld) (i v : Nat) : (s.wfi f i v).pkts = s.pkts := rfl
@[simp] theorem State.wfi_nextPkt (s : State) (f : Fld) (i v : Nat) : (s.wfi f i v).nextPkt = s.nextPkt := rfl
@[simp] theorem State.wfi_ep (s : State) (f : Fld) (i v : Nat) : (s.wfi f i v).ep = s.ep := rfl
@[simp] theorem State.wfi_bankA (s : State) (f : Fld) (i v : Nat) : (s.wfi f i v).bankA = s.bankA := rfl
@[simp] theorem State.wfi_bankB (s : State) (f : Fld) (i v : Nat) : (s.wfi f i v).bankB = s.bankB := rfl
@[simp] theorem State.wfi_tm (s : State) (f : Fld) (i v : Nat) : (s.wfi f i v).tm = s.tm := rfl
@[simp] theorem State.wfi_ca (s : State) (f : Fld) (i v : Nat) : (s.wfi f i v).ca = s.ca := rfl
@[simp] theorem State.wfi_ln (s : State) (f : Fld) (i v : Nat) : (s.wfi f i v).ln = s.ln := rfl
@[simp] theorem State.wfi_net (s : State) (f : Fld) (i v : Nat) : (s.wfi f i v).net = s.net := rfl
@[simp] theorem State.wfi_tr (s : State) (f : Fld) (i v : Nat) : (s.wfi f i v).tr = s.tr := rfl
@[simp] theorem State.wfi_snap (s : State) (f : Fld) (i v : Nat) : (s.wfi f i v).snap = s.snap := rfl
@[simp] theorem State.wfi_meters (s : State) (f : Fld) (i v : Nat) : (s.wfi f i v).meters = s.meters := rfl
@[simp] theorem State.wfi_chans (s : State) (f : Fld) (i v : Nat) : (s.wfi f i v).chans = s.chans := rfl
@[simp] theorem State.wfi_sc (s : State) (f : Fld) (i v : Nat) : (s.wfi f i v).sc = s.sc := rfl
@[simp] theorem State.wfi_fab (s : State) (f : Fld) (i v : Nat) : (s.wfi f i v).fab = s.fab := rfl
@[simp] theorem State.wfi_links (s : State) (f : Fld) (i v : Nat) : (s.wfi f i v).links = s.links := rfl
@[simp] theorem State.wfi_dm (s : State) (f : Fld) (i v : Nat) : (s.wfi f i v).dm = s.dm := rfl
@[simp] theorem State.wfi_otp (s : State) (f : Fld) (i v : Nat) : (s.wfi f i v).otp = s.otp := rfl
@[simp] theorem State.wfi_freeCtr (s : State) (f : Fld) (i v : Nat) : (s.wfi f i v).freeCtr = s.freeCtr := rfl
@[simp] theorem State.wfi_out (s : State) (f : Fld) (i v : Nat) : (s.wfi f i v).out = s.out := rfl
@[simp] theorem State.wfi_pending (s : State) (f : Fld) (i v : Nat) : (s.wfi f i v).pending = s.pending := rfl

@[simp] theorem State.updHdr_cycle (s : State) (P : Nat) (f : PageHdr → PageHdr) : (s.updHdr P f).cycle = s.cycle := rfl
@[simp] theorem State.updHdr_time (s : State) (P : Nat) (f : PageHdr → PageHdr) : (s.updHdr P f).time = s.time := rfl
@[simp] theorem State.updHdr_addend (s : State) (P : Nat) (f : PageHdr → PageHdr) : (s.updHdr P f).addend = s.addend := rfl
@[simp] theorem State.updHdr_timeRun (s : State) (P : Nat) (f : PageHdr → PageHdr) : (s.updHdr P f).timeRun = s.timeRun := rfl
@[simp] theorem State.updHdr_timers (s : State) (P : Nat) (f : PageHdr → PageHdr) : (s.updHdr P f).timers = s.timers := rfl
@[simp] theorem State.updHdr_regs (s : State) (P : Nat) (f : PageHdr → PageHdr) : (s.updHdr P f).regs = s.regs := rfl
@[simp] theorem State.updHdr_regsB (s : State) (P : Nat) (f : PageHdr → PageHdr) : (s.updHdr P f).regsB = s.regsB := rfl
@[simp] theorem State.updHdr_hiLatch (s : State) (P : Nat) (f : PageHdr → PageHdr) : (s.updHdr P f).hiLatch = s.hiLatch := rfl
@[simp] theorem State.updHdr_later (s : State) (P : Nat) (f : PageHdr → PageHdr) : (s.updHdr P f).later = s.later := rfl
@[simp] theorem State.updHdr_log (s : State) (P : Nat) (f : PageHdr → PageHdr) : (s.updHdr P f).log = s.log := rfl
@[simp] theorem State.updHdr_acts (s : State) (P : Nat) (f : PageHdr → PageHdr) : (s.updHdr P f).acts = s.acts := rfl
@[simp] theorem State.updHdr_chipReq (s : State) (P : Nat) (f : PageHdr → PageHdr) : (s.updHdr P f).chipReq = s.chipReq := rfl
@[simp] theorem State.updHdr_pw (s : State) (P : Nat) (f : PageHdr → PageHdr) : (s.updHdr P f).pw = s.pw := rfl
@[simp] theorem State.updHdr_ptp (s : State) (P : Nat) (f : PageHdr → PageHdr) : (s.updHdr P f).ptp = s.ptp := rfl
@[simp] theorem State.updHdr_mc (s : State) (P : Nat) (f : PageHdr → PageHdr) : (s.updHdr P f).mc = s.mc := rfl
@[simp] theorem State.updHdr_flash (s : State) (P : Nat) (f : PageHdr → PageHdr) : (s.updHdr P f).flash = s.flash := rfl
@[simp] theorem State.updHdr_th (s : State) (P : Nat) (f : PageHdr → PageHdr) : (s.updHdr P f).th = s.th := rfl
@[simp] theorem State.updHdr_jt (s : State) (P : Nat) (f : PageHdr → PageHdr) : (s.updHdr P f).jt = s.jt := rfl
@[simp] theorem State.updHdr_hc (s : State) (P : Nat) (f : PageHdr → PageHdr) : (s.updHdr P f).hc = s.hc := rfl
@[simp] theorem State.updHdr_hp (s : State) (P : Nat) (f : PageHdr → PageHdr) : (s.updHdr P f).hp = s.hp := rfl
@[simp] theorem State.updHdr_irq (s : State) (P : Nat) (f : PageHdr → PageHdr) : (s.updHdr P f).irq = s.irq := rfl
@[simp] theorem State.updHdr_pkts (s : State) (P : Nat) (f : PageHdr → PageHdr) : (s.updHdr P f).pkts = s.pkts := rfl
@[simp] theorem State.updHdr_nextPkt (s : State) (P : Nat) (f : PageHdr → PageHdr) : (s.updHdr P f).nextPkt = s.nextPkt := rfl
@[simp] theorem State.updHdr_ep (s : State) (P : Nat) (f : PageHdr → PageHdr) : (s.updHdr P f).ep = s.ep := rfl
@[simp] theorem State.updHdr_bankA (s : State) (P : Nat) (f : PageHdr → PageHdr) : (s.updHdr P f).bankA = s.bankA := rfl
@[simp] theorem State.updHdr_bankB (s : State) (P : Nat) (f : PageHdr → PageHdr) : (s.updHdr P f).bankB = s.bankB := rfl
@[simp] theorem State.updHdr_tm (s : State) (P : Nat) (f : PageHdr → PageHdr) : (s.updHdr P f).tm = s.tm := rfl
@[simp] theorem State.updHdr_ca (s : State) (P : Nat) (f : PageHdr → PageHdr) : (s.updHdr P f).ca = s.ca := rfl
@[simp] theorem State.updHdr_ln (s : State) (P : Nat) (f : PageHdr → PageHdr) : (s.updHdr P f).ln = s.ln := rfl
@[simp] theorem State.updHdr_net (s : State) (P : Nat) (f : PageHdr → PageHdr) : (s.updHdr P f).net = s.net := rfl
@[simp] theorem State.updHdr_tr (s : State) (P : Nat) (f : PageHdr → PageHdr) : (s.updHdr P f).tr = s.tr := rfl
@[simp] theorem State.updHdr_snap (s : State) (P : Nat) (f : PageHdr → PageHdr) : (s.updHdr P f).snap = s.snap := rfl
@[simp] theorem State.updHdr_meters (s : State) (P : Nat) (f : PageHdr → PageHdr) : (s.updHdr P f).meters = s.meters := rfl
@[simp] theorem State.updHdr_chans (s : State) (P : Nat) (f : PageHdr → PageHdr) : (s.updHdr P f).chans = s.chans := rfl
@[simp] theorem State.updHdr_sc (s : State) (P : Nat) (f : PageHdr → PageHdr) : (s.updHdr P f).sc = s.sc := rfl
@[simp] theorem State.updHdr_fab (s : State) (P : Nat) (f : PageHdr → PageHdr) : (s.updHdr P f).fab = s.fab := rfl
@[simp] theorem State.updHdr_links (s : State) (P : Nat) (f : PageHdr → PageHdr) : (s.updHdr P f).links = s.links := rfl
@[simp] theorem State.updHdr_dm (s : State) (P : Nat) (f : PageHdr → PageHdr) : (s.updHdr P f).dm = s.dm := rfl
@[simp] theorem State.updHdr_otp (s : State) (P : Nat) (f : PageHdr → PageHdr) : (s.updHdr P f).otp = s.otp := rfl
@[simp] theorem State.updHdr_freeCtr (s : State) (P : Nat) (f : PageHdr → PageHdr) : (s.updHdr P f).freeCtr = s.freeCtr := rfl
@[simp] theorem State.updHdr_out (s : State) (P : Nat) (f : PageHdr → PageHdr) : (s.updHdr P f).out = s.out := rfl
@[simp] theorem State.updHdr_pending (s : State) (P : Nat) (f : PageHdr → PageHdr) : (s.updHdr P f).pending = s.pending := rfl

@[simp] theorem State.disarm_cycle (s : State) (k : TimerKind) (i : Nat) : (s.disarm k i).cycle = s.cycle := rfl
@[simp] theorem State.disarm_time (s : State) (k : TimerKind) (i : Nat) : (s.disarm k i).time = s.time := rfl
@[simp] theorem State.disarm_addend (s : State) (k : TimerKind) (i : Nat) : (s.disarm k i).addend = s.addend := rfl
@[simp] theorem State.disarm_timeRun (s : State) (k : TimerKind) (i : Nat) : (s.disarm k i).timeRun = s.timeRun := rfl
@[simp] theorem State.disarm_hdrs (s : State) (k : TimerKind) (i : Nat) : (s.disarm k i).hdrs = s.hdrs := rfl
@[simp] theorem State.disarm_regs (s : State) (k : TimerKind) (i : Nat) : (s.disarm k i).regs = s.regs := rfl
@[simp] theorem State.disarm_regsB (s : State) (k : TimerKind) (i : Nat) : (s.disarm k i).regsB = s.regsB := rfl
@[simp] theorem State.disarm_hiLatch (s : State) (k : TimerKind) (i : Nat) : (s.disarm k i).hiLatch = s.hiLatch := rfl
@[simp] theorem State.disarm_later (s : State) (k : TimerKind) (i : Nat) : (s.disarm k i).later = s.later := rfl
@[simp] theorem State.disarm_log (s : State) (k : TimerKind) (i : Nat) : (s.disarm k i).log = s.log := rfl
@[simp] theorem State.disarm_acts (s : State) (k : TimerKind) (i : Nat) : (s.disarm k i).acts = s.acts := rfl
@[simp] theorem State.disarm_chipReq (s : State) (k : TimerKind) (i : Nat) : (s.disarm k i).chipReq = s.chipReq := rfl
@[simp] theorem State.disarm_pw (s : State) (k : TimerKind) (i : Nat) : (s.disarm k i).pw = s.pw := rfl
@[simp] theorem State.disarm_ptp (s : State) (k : TimerKind) (i : Nat) : (s.disarm k i).ptp = s.ptp := rfl
@[simp] theorem State.disarm_mc (s : State) (k : TimerKind) (i : Nat) : (s.disarm k i).mc = s.mc := rfl
@[simp] theorem State.disarm_flash (s : State) (k : TimerKind) (i : Nat) : (s.disarm k i).flash = s.flash := rfl
@[simp] theorem State.disarm_th (s : State) (k : TimerKind) (i : Nat) : (s.disarm k i).th = s.th := rfl
@[simp] theorem State.disarm_jt (s : State) (k : TimerKind) (i : Nat) : (s.disarm k i).jt = s.jt := rfl
@[simp] theorem State.disarm_hc (s : State) (k : TimerKind) (i : Nat) : (s.disarm k i).hc = s.hc := rfl
@[simp] theorem State.disarm_hp (s : State) (k : TimerKind) (i : Nat) : (s.disarm k i).hp = s.hp := rfl
@[simp] theorem State.disarm_irq (s : State) (k : TimerKind) (i : Nat) : (s.disarm k i).irq = s.irq := rfl
@[simp] theorem State.disarm_pkts (s : State) (k : TimerKind) (i : Nat) : (s.disarm k i).pkts = s.pkts := rfl
@[simp] theorem State.disarm_nextPkt (s : State) (k : TimerKind) (i : Nat) : (s.disarm k i).nextPkt = s.nextPkt := rfl
@[simp] theorem State.disarm_ep (s : State) (k : TimerKind) (i : Nat) : (s.disarm k i).ep = s.ep := rfl
@[simp] theorem State.disarm_bankA (s : State) (k : TimerKind) (i : Nat) : (s.disarm k i).bankA = s.bankA := rfl
@[simp] theorem State.disarm_bankB (s : State) (k : TimerKind) (i : Nat) : (s.disarm k i).bankB = s.bankB := rfl
@[simp] theorem State.disarm_tm (s : State) (k : TimerKind) (i : Nat) : (s.disarm k i).tm = s.tm := rfl
@[simp] theorem State.disarm_ca (s : State) (k : TimerKind) (i : Nat) : (s.disarm k i).ca = s.ca := rfl
@[simp] theorem State.disarm_ln (s : State) (k : TimerKind) (i : Nat) : (s.disarm k i).ln = s.ln := rfl
@[simp] theorem State.disarm_net (s : State) (k : TimerKind) (i : Nat) : (s.disarm k i).net = s.net := rfl
@[simp] theorem State.disarm_tr (s : State) (k : TimerKind) (i : Nat) : (s.disarm k i).tr = s.tr := rfl
@[simp] theorem State.disarm_snap (s : State) (k : TimerKind) (i : Nat) : (s.disarm k i).snap = s.snap := rfl
@[simp] theorem State.disarm_meters (s : State) (k : TimerKind) (i : Nat) : (s.disarm k i).meters = s.meters := rfl
@[simp] theorem State.disarm_chans (s : State) (k : TimerKind) (i : Nat) : (s.disarm k i).chans = s.chans := rfl
@[simp] theorem State.disarm_sc (s : State) (k : TimerKind) (i : Nat) : (s.disarm k i).sc = s.sc := rfl
@[simp] theorem State.disarm_fab (s : State) (k : TimerKind) (i : Nat) : (s.disarm k i).fab = s.fab := rfl
@[simp] theorem State.disarm_links (s : State) (k : TimerKind) (i : Nat) : (s.disarm k i).links = s.links := rfl
@[simp] theorem State.disarm_dm (s : State) (k : TimerKind) (i : Nat) : (s.disarm k i).dm = s.dm := rfl
@[simp] theorem State.disarm_otp (s : State) (k : TimerKind) (i : Nat) : (s.disarm k i).otp = s.otp := rfl
@[simp] theorem State.disarm_freeCtr (s : State) (k : TimerKind) (i : Nat) : (s.disarm k i).freeCtr = s.freeCtr := rfl
@[simp] theorem State.disarm_out (s : State) (k : TimerKind) (i : Nat) : (s.disarm k i).out = s.out := rfl
@[simp] theorem State.disarm_pending (s : State) (k : TimerKind) (i : Nat) : (s.disarm k i).pending = s.pending := rfl

@[simp] theorem State.armAt_cycle (s : State) (k : TimerKind) (i d : Nat) : (s.armAt k i d).cycle = s.cycle := rfl
@[simp] theorem State.armAt_time (s : State) (k : TimerKind) (i d : Nat) : (s.armAt k i d).time = s.time := rfl
@[simp] theorem State.armAt_addend (s : State) (k : TimerKind) (i d : Nat) : (s.armAt k i d).addend = s.addend := rfl
@[simp] theorem State.armAt_timeRun (s : State) (k : TimerKind) (i d : Nat) : (s.armAt k i d).timeRun = s.timeRun := rfl
@[simp] theorem State.armAt_hdrs (s : State) (k : TimerKind) (i d : Nat) : (s.armAt k i d).hdrs = s.hdrs := rfl
@[simp] theorem State.armAt_regs (s : State) (k : TimerKind) (i d : Nat) : (s.armAt k i d).regs = s.regs := rfl
@[simp] theorem State.armAt_regsB (s : State) (k : TimerKind) (i d : Nat) : (s.armAt k i d).regsB = s.regsB := rfl
@[simp] theorem State.armAt_hiLatch (s : State) (k : TimerKind) (i d : Nat) : (s.armAt k i d).hiLatch = s.hiLatch := rfl
@[simp] theorem State.armAt_later (s : State) (k : TimerKind) (i d : Nat) : (s.armAt k i d).later = s.later := rfl
@[simp] theorem State.armAt_log (s : State) (k : TimerKind) (i d : Nat) : (s.armAt k i d).log = s.log := rfl
@[simp] theorem State.armAt_acts (s : State) (k : TimerKind) (i d : Nat) : (s.armAt k i d).acts = s.acts := rfl
@[simp] theorem State.armAt_chipReq (s : State) (k : TimerKind) (i d : Nat) : (s.armAt k i d).chipReq = s.chipReq := rfl
@[simp] theorem State.armAt_pw (s : State) (k : TimerKind) (i d : Nat) : (s.armAt k i d).pw = s.pw := rfl
@[simp] theorem State.armAt_ptp (s : State) (k : TimerKind) (i d : Nat) : (s.armAt k i d).ptp = s.ptp := rfl
@[simp] theorem State.armAt_mc (s : State) (k : TimerKind) (i d : Nat) : (s.armAt k i d).mc = s.mc := rfl
@[simp] theorem State.armAt_flash (s : State) (k : TimerKind) (i d : Nat) : (s.armAt k i d).flash = s.flash := rfl
@[simp] theorem State.armAt_th (s : State) (k : TimerKind) (i d : Nat) : (s.armAt k i d).th = s.th := rfl
@[simp] theorem State.armAt_jt (s : State) (k : TimerKind) (i d : Nat) : (s.armAt k i d).jt = s.jt := rfl
@[simp] theorem State.armAt_hc (s : State) (k : TimerKind) (i d : Nat) : (s.armAt k i d).hc = s.hc := rfl
@[simp] theorem State.armAt_hp (s : State) (k : TimerKind) (i d : Nat) : (s.armAt k i d).hp = s.hp := rfl
@[simp] theorem State.armAt_irq (s : State) (k : TimerKind) (i d : Nat) : (s.armAt k i d).irq = s.irq := rfl
@[simp] theorem State.armAt_pkts (s : State) (k : TimerKind) (i d : Nat) : (s.armAt k i d).pkts = s.pkts := rfl
@[simp] theorem State.armAt_nextPkt (s : State) (k : TimerKind) (i d : Nat) : (s.armAt k i d).nextPkt = s.nextPkt := rfl
@[simp] theorem State.armAt_ep (s : State) (k : TimerKind) (i d : Nat) : (s.armAt k i d).ep = s.ep := rfl
@[simp] theorem State.armAt_bankA (s : State) (k : TimerKind) (i d : Nat) : (s.armAt k i d).bankA = s.bankA := rfl
@[simp] theorem State.armAt_bankB (s : State) (k : TimerKind) (i d : Nat) : (s.armAt k i d).bankB = s.bankB := rfl
@[simp] theorem State.armAt_tm (s : State) (k : TimerKind) (i d : Nat) : (s.armAt k i d).tm = s.tm := rfl
@[simp] theorem State.armAt_ca (s : State) (k : TimerKind) (i d : Nat) : (s.armAt k i d).ca = s.ca := rfl
@[simp] theorem State.armAt_ln (s : State) (k : TimerKind) (i d : Nat) : (s.armAt k i d).ln = s.ln := rfl
@[simp] theorem State.armAt_net (s : State) (k : TimerKind) (i d : Nat) : (s.armAt k i d).net = s.net := rfl
@[simp] theorem State.armAt_tr (s : State) (k : TimerKind) (i d : Nat) : (s.armAt k i d).tr = s.tr := rfl
@[simp] theorem State.armAt_snap (s : State) (k : TimerKind) (i d : Nat) : (s.armAt k i d).snap = s.snap := rfl
@[simp] theorem State.armAt_meters (s : State) (k : TimerKind) (i d : Nat) : (s.armAt k i d).meters = s.meters := rfl
@[simp] theorem State.armAt_chans (s : State) (k : TimerKind) (i d : Nat) : (s.armAt k i d).chans = s.chans := rfl
@[simp] theorem State.armAt_sc (s : State) (k : TimerKind) (i d : Nat) : (s.armAt k i d).sc = s.sc := rfl
@[simp] theorem State.armAt_fab (s : State) (k : TimerKind) (i d : Nat) : (s.armAt k i d).fab = s.fab := rfl
@[simp] theorem State.armAt_links (s : State) (k : TimerKind) (i d : Nat) : (s.armAt k i d).links = s.links := rfl
@[simp] theorem State.armAt_dm (s : State) (k : TimerKind) (i d : Nat) : (s.armAt k i d).dm = s.dm := rfl
@[simp] theorem State.armAt_otp (s : State) (k : TimerKind) (i d : Nat) : (s.armAt k i d).otp = s.otp := rfl
@[simp] theorem State.armAt_freeCtr (s : State) (k : TimerKind) (i d : Nat) : (s.armAt k i d).freeCtr = s.freeCtr := rfl
@[simp] theorem State.armAt_out (s : State) (k : TimerKind) (i d : Nat) : (s.armAt k i d).out = s.out := rfl
@[simp] theorem State.armAt_pending (s : State) (k : TimerKind) (i d : Nat) : (s.armAt k i d).pending = s.pending := rfl

@[simp] theorem State.arm_cycle (s : State) (k : TimerKind) (i n : Nat) : (s.arm k i n).cycle = s.cycle := rfl
@[simp] theorem State.arm_time (s : State) (k : TimerKind) (i n : Nat) : (s.arm k i n).time = s.time := rfl
@[simp] theorem State.arm_addend (s : State) (k : TimerKind) (i n : Nat) : (s.arm k i n).addend = s.addend := rfl
@[simp] theorem State.arm_timeRun (s : State) (k : TimerKind) (i n : Nat) : (s.arm k i n).timeRun = s.timeRun := rfl
@[simp] theorem State.arm_hdrs (s : State) (k : TimerKind) (i n : Nat) : (s.arm k i n).hdrs = s.hdrs := rfl
@[simp] theorem State.arm_regs (s : State) (k : TimerKind) (i n : Nat) : (s.arm k i n).regs = s.regs := rfl
@[simp] theorem State.arm_regsB (s : State) (k : TimerKind) (i n : Nat) : (s.arm k i n).regsB = s.regsB := rfl
@[simp] theorem State.arm_hiLatch (s : State) (k : TimerKind) (i n : Nat) : (s.arm k i n).hiLatch = s.hiLatch := rfl
@[simp] theorem State.arm_later (s : State) (k : TimerKind) (i n : Nat) : (s.arm k i n).later = s.later := rfl
@[simp] theorem State.arm_log (s : State) (k : TimerKind) (i n : Nat) : (s.arm k i n).log = s.log := rfl
@[simp] theorem State.arm_acts (s : State) (k : TimerKind) (i n : Nat) : (s.arm k i n).acts = s.acts := rfl
@[simp] theorem State.arm_chipReq (s : State) (k : TimerKind) (i n : Nat) : (s.arm k i n).chipReq = s.chipReq := rfl
@[simp] theorem State.arm_pw (s : State) (k : TimerKind) (i n : Nat) : (s.arm k i n).pw = s.pw := rfl
@[simp] theorem State.arm_ptp (s : State) (k : TimerKind) (i n : Nat) : (s.arm k i n).ptp = s.ptp := rfl
@[simp] theorem State.arm_mc (s : State) (k : TimerKind) (i n : Nat) : (s.arm k i n).mc = s.mc := rfl
@[simp] theorem State.arm_flash (s : State) (k : TimerKind) (i n : Nat) : (s.arm k i n).flash = s.flash := rfl
@[simp] theorem State.arm_th (s : State) (k : TimerKind) (i n : Nat) : (s.arm k i n).th = s.th := rfl
@[simp] theorem State.arm_jt (s : State) (k : TimerKind) (i n : Nat) : (s.arm k i n).jt = s.jt := rfl
@[simp] theorem State.arm_hc (s : State) (k : TimerKind) (i n : Nat) : (s.arm k i n).hc = s.hc := rfl
@[simp] theorem State.arm_hp (s : State) (k : TimerKind) (i n : Nat) : (s.arm k i n).hp = s.hp := rfl
@[simp] theorem State.arm_irq (s : State) (k : TimerKind) (i n : Nat) : (s.arm k i n).irq = s.irq := rfl
@[simp] theorem State.arm_pkts (s : State) (k : TimerKind) (i n : Nat) : (s.arm k i n).pkts = s.pkts := rfl
@[simp] theorem State.arm_nextPkt (s : State) (k : TimerKind) (i n : Nat) : (s.arm k i n).nextPkt = s.nextPkt := rfl
@[simp] theorem State.arm_ep (s : State) (k : TimerKind) (i n : Nat) : (s.arm k i n).ep = s.ep := rfl
@[simp] theorem State.arm_bankA (s : State) (k : TimerKind) (i n : Nat) : (s.arm k i n).bankA = s.bankA := rfl
@[simp] theorem State.arm_bankB (s : State) (k : TimerKind) (i n : Nat) : (s.arm k i n).bankB = s.bankB := rfl
@[simp] theorem State.arm_tm (s : State) (k : TimerKind) (i n : Nat) : (s.arm k i n).tm = s.tm := rfl
@[simp] theorem State.arm_ca (s : State) (k : TimerKind) (i n : Nat) : (s.arm k i n).ca = s.ca := rfl
@[simp] theorem State.arm_ln (s : State) (k : TimerKind) (i n : Nat) : (s.arm k i n).ln = s.ln := rfl
@[simp] theorem State.arm_net (s : State) (k : TimerKind) (i n : Nat) : (s.arm k i n).net = s.net := rfl
@[simp] theorem State.arm_tr (s : State) (k : TimerKind) (i n : Nat) : (s.arm k i n).tr = s.tr := rfl
@[simp] theorem State.arm_snap (s : State) (k : TimerKind) (i n : Nat) : (s.arm k i n).snap = s.snap := rfl
@[simp] theorem State.arm_meters (s : State) (k : TimerKind) (i n : Nat) : (s.arm k i n).meters = s.meters := rfl
@[simp] theorem State.arm_chans (s : State) (k : TimerKind) (i n : Nat) : (s.arm k i n).chans = s.chans := rfl
@[simp] theorem State.arm_sc (s : State) (k : TimerKind) (i n : Nat) : (s.arm k i n).sc = s.sc := rfl
@[simp] theorem State.arm_fab (s : State) (k : TimerKind) (i n : Nat) : (s.arm k i n).fab = s.fab := rfl
@[simp] theorem State.arm_links (s : State) (k : TimerKind) (i n : Nat) : (s.arm k i n).links = s.links := rfl
@[simp] theorem State.arm_dm (s : State) (k : TimerKind) (i n : Nat) : (s.arm k i n).dm = s.dm := rfl
@[simp] theorem State.arm_otp (s : State) (k : TimerKind) (i n : Nat) : (s.arm k i n).otp = s.otp := rfl
@[simp] theorem State.arm_freeCtr (s : State) (k : TimerKind) (i n : Nat) : (s.arm k i n).freeCtr = s.freeCtr := rfl
@[simp] theorem State.arm_out (s : State) (k : TimerKind) (i n : Nat) : (s.arm k i n).out = s.out := rfl
@[simp] theorem State.arm_pending (s : State) (k : TimerKind) (i n : Nat) : (s.arm k i n).pending = s.pending := rfl

@[simp] theorem State.disarmAll_cycle (s : State) (k : TimerKind) : (s.disarmAll k).cycle = s.cycle := rfl
@[simp] theorem State.disarmAll_time (s : State) (k : TimerKind) : (s.disarmAll k).time = s.time := rfl
@[simp] theorem State.disarmAll_addend (s : State) (k : TimerKind) : (s.disarmAll k).addend = s.addend := rfl
@[simp] theorem State.disarmAll_timeRun (s : State) (k : TimerKind) : (s.disarmAll k).timeRun = s.timeRun := rfl
@[simp] theorem State.disarmAll_hdrs (s : State) (k : TimerKind) : (s.disarmAll k).hdrs = s.hdrs := rfl
@[simp] theorem State.disarmAll_regs (s : State) (k : TimerKind) : (s.disarmAll k).regs = s.regs := rfl
@[simp] theorem State.disarmAll_regsB (s : State) (k : TimerKind) : (s.disarmAll k).regsB = s.regsB := rfl
@[simp] theorem State.disarmAll_hiLatch (s : State) (k : TimerKind) : (s.disarmAll k).hiLatch = s.hiLatch := rfl
@[simp] theorem State.disarmAll_later (s : State) (k : TimerKind) : (s.disarmAll k).later = s.later := rfl
@[simp] theorem State.disarmAll_log (s : State) (k : TimerKind) : (s.disarmAll k).log = s.log := rfl
@[simp] theorem State.disarmAll_acts (s : State) (k : TimerKind) : (s.disarmAll k).acts = s.acts := rfl
@[simp] theorem State.disarmAll_chipReq (s : State) (k : TimerKind) : (s.disarmAll k).chipReq = s.chipReq := rfl
@[simp] theorem State.disarmAll_pw (s : State) (k : TimerKind) : (s.disarmAll k).pw = s.pw := rfl
@[simp] theorem State.disarmAll_ptp (s : State) (k : TimerKind) : (s.disarmAll k).ptp = s.ptp := rfl
@[simp] theorem State.disarmAll_mc (s : State) (k : TimerKind) : (s.disarmAll k).mc = s.mc := rfl
@[simp] theorem State.disarmAll_flash (s : State) (k : TimerKind) : (s.disarmAll k).flash = s.flash := rfl
@[simp] theorem State.disarmAll_th (s : State) (k : TimerKind) : (s.disarmAll k).th = s.th := rfl
@[simp] theorem State.disarmAll_jt (s : State) (k : TimerKind) : (s.disarmAll k).jt = s.jt := rfl
@[simp] theorem State.disarmAll_hc (s : State) (k : TimerKind) : (s.disarmAll k).hc = s.hc := rfl
@[simp] theorem State.disarmAll_hp (s : State) (k : TimerKind) : (s.disarmAll k).hp = s.hp := rfl
@[simp] theorem State.disarmAll_irq (s : State) (k : TimerKind) : (s.disarmAll k).irq = s.irq := rfl
@[simp] theorem State.disarmAll_pkts (s : State) (k : TimerKind) : (s.disarmAll k).pkts = s.pkts := rfl
@[simp] theorem State.disarmAll_nextPkt (s : State) (k : TimerKind) : (s.disarmAll k).nextPkt = s.nextPkt := rfl
@[simp] theorem State.disarmAll_ep (s : State) (k : TimerKind) : (s.disarmAll k).ep = s.ep := rfl
@[simp] theorem State.disarmAll_bankA (s : State) (k : TimerKind) : (s.disarmAll k).bankA = s.bankA := rfl
@[simp] theorem State.disarmAll_bankB (s : State) (k : TimerKind) : (s.disarmAll k).bankB = s.bankB := rfl
@[simp] theorem State.disarmAll_tm (s : State) (k : TimerKind) : (s.disarmAll k).tm = s.tm := rfl
@[simp] theorem State.disarmAll_ca (s : State) (k : TimerKind) : (s.disarmAll k).ca = s.ca := rfl
@[simp] theorem State.disarmAll_ln (s : State) (k : TimerKind) : (s.disarmAll k).ln = s.ln := rfl
@[simp] theorem State.disarmAll_net (s : State) (k : TimerKind) : (s.disarmAll k).net = s.net := rfl
@[simp] theorem State.disarmAll_tr (s : State) (k : TimerKind) : (s.disarmAll k).tr = s.tr := rfl
@[simp] theorem State.disarmAll_snap (s : State) (k : TimerKind) : (s.disarmAll k).snap = s.snap := rfl
@[simp] theorem State.disarmAll_meters (s : State) (k : TimerKind) : (s.disarmAll k).meters = s.meters := rfl
@[simp] theorem State.disarmAll_chans (s : State) (k : TimerKind) : (s.disarmAll k).chans = s.chans := rfl
@[simp] theorem State.disarmAll_sc (s : State) (k : TimerKind) : (s.disarmAll k).sc = s.sc := rfl
@[simp] theorem State.disarmAll_fab (s : State) (k : TimerKind) : (s.disarmAll k).fab = s.fab := rfl
@[simp] theorem State.disarmAll_links (s : State) (k : TimerKind) : (s.disarmAll k).links = s.links := rfl
@[simp] theorem State.disarmAll_dm (s : State) (k : TimerKind) : (s.disarmAll k).dm = s.dm := rfl
@[simp] theorem State.disarmAll_otp (s : State) (k : TimerKind) : (s.disarmAll k).otp = s.otp := rfl
@[simp] theorem State.disarmAll_freeCtr (s : State) (k : TimerKind) : (s.disarmAll k).freeCtr = s.freeCtr := rfl
@[simp] theorem State.disarmAll_out (s : State) (k : TimerKind) : (s.disarmAll k).out = s.out := rfl
@[simp] theorem State.disarmAll_pending (s : State) (k : TimerKind) : (s.disarmAll k).pending = s.pending := rfl

@[simp] theorem State.emit_cycle (s : State) (o : Out) : (s.emit o).cycle = s.cycle := rfl
@[simp] theorem State.emit_time (s : State) (o : Out) : (s.emit o).time = s.time := rfl
@[simp] theorem State.emit_addend (s : State) (o : Out) : (s.emit o).addend = s.addend := rfl
@[simp] theorem State.emit_timeRun (s : State) (o : Out) : (s.emit o).timeRun = s.timeRun := rfl
@[simp] theorem State.emit_timers (s : State) (o : Out) : (s.emit o).timers = s.timers := rfl
@[simp] theorem State.emit_hdrs (s : State) (o : Out) : (s.emit o).hdrs = s.hdrs := rfl
@[simp] theorem State.emit_regs (s : State) (o : Out) : (s.emit o).regs = s.regs := rfl
@[simp] theorem State.emit_regsB (s : State) (o : Out) : (s.emit o).regsB = s.regsB := rfl
@[simp] theorem State.emit_hiLatch (s : State) (o : Out) : (s.emit o).hiLatch = s.hiLatch := rfl
@[simp] theorem State.emit_later (s : State) (o : Out) : (s.emit o).later = s.later := rfl
@[simp] theorem State.emit_log (s : State) (o : Out) : (s.emit o).log = s.log := rfl
@[simp] theorem State.emit_acts (s : State) (o : Out) : (s.emit o).acts = s.acts := rfl
@[simp] theorem State.emit_chipReq (s : State) (o : Out) : (s.emit o).chipReq = s.chipReq := rfl
@[simp] theorem State.emit_pw (s : State) (o : Out) : (s.emit o).pw = s.pw := rfl
@[simp] theorem State.emit_ptp (s : State) (o : Out) : (s.emit o).ptp = s.ptp := rfl
@[simp] theorem State.emit_mc (s : State) (o : Out) : (s.emit o).mc = s.mc := rfl
@[simp] theorem State.emit_flash (s : State) (o : Out) : (s.emit o).flash = s.flash := rfl
@[simp] theorem State.emit_th (s : State) (o : Out) : (s.emit o).th = s.th := rfl
@[simp] theorem State.emit_jt (s : State) (o : Out) : (s.emit o).jt = s.jt := rfl
@[simp] theorem State.emit_hc (s : State) (o : Out) : (s.emit o).hc = s.hc := rfl
@[simp] theorem State.emit_hp (s : State) (o : Out) : (s.emit o).hp = s.hp := rfl
@[simp] theorem State.emit_irq (s : State) (o : Out) : (s.emit o).irq = s.irq := rfl
@[simp] theorem State.emit_pkts (s : State) (o : Out) : (s.emit o).pkts = s.pkts := rfl
@[simp] theorem State.emit_nextPkt (s : State) (o : Out) : (s.emit o).nextPkt = s.nextPkt := rfl
@[simp] theorem State.emit_ep (s : State) (o : Out) : (s.emit o).ep = s.ep := rfl
@[simp] theorem State.emit_bankA (s : State) (o : Out) : (s.emit o).bankA = s.bankA := rfl
@[simp] theorem State.emit_bankB (s : State) (o : Out) : (s.emit o).bankB = s.bankB := rfl
@[simp] theorem State.emit_tm (s : State) (o : Out) : (s.emit o).tm = s.tm := rfl
@[simp] theorem State.emit_ca (s : State) (o : Out) : (s.emit o).ca = s.ca := rfl
@[simp] theorem State.emit_ln (s : State) (o : Out) : (s.emit o).ln = s.ln := rfl
@[simp] theorem State.emit_net (s : State) (o : Out) : (s.emit o).net = s.net := rfl
@[simp] theorem State.emit_tr (s : State) (o : Out) : (s.emit o).tr = s.tr := rfl
@[simp] theorem State.emit_snap (s : State) (o : Out) : (s.emit o).snap = s.snap := rfl
@[simp] theorem State.emit_meters (s : State) (o : Out) : (s.emit o).meters = s.meters := rfl
@[simp] theorem State.emit_chans (s : State) (o : Out) : (s.emit o).chans = s.chans := rfl
@[simp] theorem State.emit_sc (s : State) (o : Out) : (s.emit o).sc = s.sc := rfl
@[simp] theorem State.emit_fab (s : State) (o : Out) : (s.emit o).fab = s.fab := rfl
@[simp] theorem State.emit_links (s : State) (o : Out) : (s.emit o).links = s.links := rfl
@[simp] theorem State.emit_dm (s : State) (o : Out) : (s.emit o).dm = s.dm := rfl
@[simp] theorem State.emit_otp (s : State) (o : Out) : (s.emit o).otp = s.otp := rfl
@[simp] theorem State.emit_freeCtr (s : State) (o : Out) : (s.emit o).freeCtr = s.freeCtr := rfl
@[simp] theorem State.emit_pending (s : State) (o : Out) : (s.emit o).pending = s.pending := rfl

@[simp] theorem State.setFab_frame (s : State) (f : Fabric → Fabric) :
    (s.setFab f).cycle = s.cycle ∧ (s.setFab f).time = s.time ∧ (s.setFab f).addend = s.addend ∧
    (s.setFab f).timeRun = s.timeRun ∧ (s.setFab f).timers = s.timers ∧ (s.setFab f).hdrs = s.hdrs ∧
    (s.setFab f).regs = s.regs ∧ (s.setFab f).regsB = s.regsB ∧ (s.setFab f).hiLatch = s.hiLatch ∧
    (s.setFab f).later = s.later ∧ (s.setFab f).log = s.log ∧ (s.setFab f).acts = s.acts ∧
    (s.setFab f).chipReq = s.chipReq ∧ (s.setFab f).pw = s.pw ∧ (s.setFab f).ptp = s.ptp ∧ (s.setFab f).mc = s.mc ∧
    (s.setFab f).flash = s.flash ∧ (s.setFab f).th = s.th ∧ (s.setFab f).jt = s.jt ∧ (s.setFab f).hc = s.hc ∧
    (s.setFab f).hp = s.hp ∧ (s.setFab f).irq = s.irq ∧ (s.setFab f).pkts = s.pkts ∧
    (s.setFab f).nextPkt = s.nextPkt ∧ (s.setFab f).ep = s.ep ∧ (s.setFab f).bankA = s.bankA ∧
    (s.setFab f).bankB = s.bankB ∧ (s.setFab f).tm = s.tm ∧ (s.setFab f).ca = s.ca ∧ (s.setFab f).ln = s.ln ∧
    (s.setFab f).net = s.net ∧ (s.setFab f).tr = s.tr ∧ (s.setFab f).snap = s.snap ∧ (s.setFab f).meters = s.meters ∧
    (s.setFab f).chans = s.chans ∧ (s.setFab f).sc = s.sc ∧ (s.setFab f).links = s.links ∧ (s.setFab f).dm = s.dm ∧
    (s.setFab f).otp = s.otp ∧ (s.setFab f).freeCtr = s.freeCtr ∧ (s.setFab f).out = s.out ∧
    (s.setFab f).pending = s.pending :=
  ⟨rfl, rfl, rfl, rfl, rfl, rfl, rfl, rfl, rfl, rfl, rfl, rfl, rfl, rfl, rfl, rfl, rfl, rfl, rfl, rfl, rfl, rfl, rfl, rfl, rfl, rfl, rfl, rfl, rfl, rfl, rfl, rfl, rfl, rfl, rfl, rfl, rfl, rfl, rfl, rfl, rfl, rfl⟩

@[simp] theorem State.setDmc_frame (s : State) (f : Dmc → Dmc) :
    (s.setDmc f).cycle = s.cycle ∧ (s.setDmc f).time = s.time ∧ (s.setDmc f).addend = s.addend ∧
    (s.setDmc f).timeRun = s.timeRun ∧ (s.setDmc f).timers = s.timers ∧ (s.setDmc f).hdrs = s.hdrs ∧
    (s.setDmc f).regs = s.regs ∧ (s.setDmc f).regsB = s.regsB ∧ (s.setDmc f).hiLatch = s.hiLatch ∧
    (s.setDmc f).later = s.later ∧ (s.setDmc f).log = s.log ∧ (s.setDmc f).acts = s.acts ∧
    (s.setDmc f).chipReq = s.chipReq ∧ (s.setDmc f).pw = s.pw ∧ (s.setDmc f).ptp = s.ptp ∧ (s.setDmc f).mc = s.mc ∧
    (s.setDmc f).flash = s.flash ∧ (s.setDmc f).th = s.th ∧ (s.setDmc f).jt = s.jt ∧ (s.setDmc f).hc = s.hc ∧
    (s.setDmc f).hp = s.hp ∧ (s.setDmc f).irq = s.irq ∧ (s.setDmc f).pkts = s.pkts ∧
    (s.setDmc f).nextPkt = s.nextPkt ∧ (s.setDmc f).ep = s.ep ∧ (s.setDmc f).bankA = s.bankA ∧
    (s.setDmc f).bankB = s.bankB ∧ (s.setDmc f).tm = s.tm ∧ (s.setDmc f).ca = s.ca ∧ (s.setDmc f).ln = s.ln ∧
    (s.setDmc f).net = s.net ∧ (s.setDmc f).tr = s.tr ∧ (s.setDmc f).snap = s.snap ∧ (s.setDmc f).meters = s.meters ∧
    (s.setDmc f).chans = s.chans ∧ (s.setDmc f).sc = s.sc ∧ (s.setDmc f).fab = s.fab ∧ (s.setDmc f).links = s.links ∧
    (s.setDmc f).otp = s.otp ∧ (s.setDmc f).freeCtr = s.freeCtr ∧ (s.setDmc f).out = s.out ∧
    (s.setDmc f).pending = s.pending :=
  ⟨rfl, rfl, rfl, rfl, rfl, rfl, rfl, rfl, rfl, rfl, rfl, rfl, rfl, rfl, rfl, rfl, rfl, rfl, rfl, rfl, rfl, rfl, rfl, rfl, rfl, rfl, rfl, rfl, rfl, rfl, rfl, rfl, rfl, rfl, rfl, rfl, rfl, rfl, rfl, rfl, rfl, rfl⟩

@[simp] theorem State.updLink_frame (s : State) (n : Nat) (f : FLink → FLink) :
    (s.updLink n f).cycle = s.cycle ∧ (s.updLink n f).time = s.time ∧ (s.updLink n f).addend = s.addend ∧
    (s.updLink n f).timeRun = s.timeRun ∧ (s.updLink n f).timers = s.timers ∧ (s.updLink n f).hdrs = s.hdrs ∧
    (s.updLink n f).regs = s.regs ∧ (s.updLink n f).regsB = s.regsB ∧ (s.updLink n f).hiLatch = s.hiLatch ∧
    (s.updLink n f).later = s.later ∧ (s.updLink n f).log = s.log ∧ (s.updLink n f).acts = s.acts ∧
    (s.updLink n f).chipReq = s.chipReq ∧ (s.updLink n f).pw = s.pw ∧ (s.updLink n f).ptp = s.ptp ∧
    (s.updLink n f).mc = s.mc ∧ (s.updLink n f).flash = s.flash ∧ (s.updLink n f).th = s.th ∧
    (s.updLink n f).jt = s.jt ∧ (s.updLink n f).hc = s.hc ∧ (s.updLink n f).hp = s.hp ∧ (s.updLink n f).irq = s.irq ∧
    (s.updLink n f).pkts = s.pkts ∧ (s.updLink n f).nextPkt = s.nextPkt ∧ (s.updLink n f).ep = s.ep ∧
    (s.updLink n f).bankA = s.bankA ∧ (s.updLink n f).bankB = s.bankB ∧ (s.updLink n f).tm = s.tm ∧
    (s.updLink n f).ca = s.ca ∧ (s.updLink n f).ln = s.ln ∧ (s.updLink n f).net = s.net ∧ (s.updLink n f).tr = s.tr ∧
    (s.updLink n f).snap = s.snap ∧ (s.updLink n f).meters = s.meters ∧ (s.updLink n f).chans = s.chans ∧
    (s.updLink n f).sc = s.sc ∧ (s.updLink n f).fab = s.fab ∧ (s.updLink n f).dm = s.dm ∧
    (s.updLink n f).otp = s.otp ∧ (s.updLink n f).freeCtr = s.freeCtr ∧ (s.updLink n f).out = s.out ∧
    (s.updLink n f).pending = s.pending :=
  ⟨rfl, rfl, rfl, rfl, rfl, rfl, rfl, rfl, rfl, rfl, rfl, rfl, rfl, rfl, rfl, rfl, rfl, rfl, rfl, rfl, rfl, rfl, rfl, rfl, rfl, rfl, rfl, rfl, rfl, rfl, rfl, rfl, rfl, rfl, rfl, rfl, rfl, rfl, rfl, rfl, rfl, rfl⟩

@[simp] theorem State.setMeter_frame (s : State) (r : Nat) (m : Meter) :
    (s.setMeter r m).cycle = s.cycle ∧ (s.setMeter r m).time = s.time ∧ (s.setMeter r m).addend = s.addend ∧
    (s.setMeter r m).timeRun = s.timeRun ∧ (s.setMeter r m).timers = s.timers ∧ (s.setMeter r m).hdrs = s.hdrs ∧
    (s.setMeter r m).regs = s.regs ∧ (s.setMeter r m).regsB = s.regsB ∧ (s.setMeter r m).hiLatch = s.hiLatch ∧
    (s.setMeter r m).later = s.later ∧ (s.setMeter r m).log = s.log ∧ (s.setMeter r m).acts = s.acts ∧
    (s.setMeter r m).chipReq = s.chipReq ∧ (s.setMeter r m).pw = s.pw ∧ (s.setMeter r m).ptp = s.ptp ∧
    (s.setMeter r m).mc = s.mc ∧ (s.setMeter r m).flash = s.flash ∧ (s.setMeter r m).th = s.th ∧
    (s.setMeter r m).jt = s.jt ∧ (s.setMeter r m).hc = s.hc ∧ (s.setMeter r m).hp = s.hp ∧
    (s.setMeter r m).irq = s.irq ∧ (s.setMeter r m).pkts = s.pkts ∧ (s.setMeter r m).nextPkt = s.nextPkt ∧
    (s.setMeter r m).ep = s.ep ∧ (s.setMeter r m).bankA = s.bankA ∧ (s.setMeter r m).bankB = s.bankB ∧
    (s.setMeter r m).tm = s.tm ∧ (s.setMeter r m).ca = s.ca ∧ (s.setMeter r m).ln = s.ln ∧
    (s.setMeter r m).net = s.net ∧ (s.setMeter r m).tr = s.tr ∧ (s.setMeter r m).snap = s.snap ∧
    (s.setMeter r m).chans = s.chans ∧ (s.setMeter r m).sc = s.sc ∧ (s.setMeter r m).fab = s.fab ∧
    (s.setMeter r m).links = s.links ∧ (s.setMeter r m).dm = s.dm ∧ (s.setMeter r m).otp = s.otp ∧
    (s.setMeter r m).freeCtr = s.freeCtr ∧ (s.setMeter r m).out = s.out ∧ (s.setMeter r m).pending = s.pending :=
  ⟨rfl, rfl, rfl, rfl, rfl, rfl, rfl, rfl, rfl, rfl, rfl, rfl, rfl, rfl, rfl, rfl, rfl, rfl, rfl, rfl, rfl, rfl, rfl, rfl, rfl, rfl, rfl, rfl, rfl, rfl, rfl, rfl, rfl, rfl, rfl, rfl, rfl, rfl, rfl, rfl, rfl, rfl⟩

@[simp] theorem State.setChan_frame (s : State) (x : Nat) (c : Chan) :
    (s.setChan x c).cycle = s.cycle ∧ (s.setChan x c).time = s.time ∧ (s.setChan x c).addend = s.addend ∧
    (s.setChan x c).timeRun = s.timeRun ∧ (s.setChan x c).timers = s.timers ∧ (s.setChan x c).hdrs = s.hdrs ∧
    (s.setChan x c).regs = s.regs ∧ (s.setChan x c).regsB = s.regsB ∧ (s.setChan x c).hiLatch = s.hiLatch ∧
    (s.setChan x c).later = s.later ∧ (s.setChan x c).log = s.log ∧ (s.setChan x c).acts = s.acts ∧
    (s.setChan x c).chipReq = s.chipReq ∧ (s.setChan x c).pw = s.pw ∧ (s.setChan x c).ptp = s.ptp ∧
    (s.setChan x c).mc = s.mc ∧ (s.setChan x c).flash = s.flash ∧ (s.setChan x c).th = s.th ∧
    (s.setChan x c).jt = s.jt ∧ (s.setChan x c).hc = s.hc ∧ (s.setChan x c).hp = s.hp ∧ (s.setChan x c).irq = s.irq ∧
    (s.setChan x c).pkts = s.pkts ∧ (s.setChan x c).nextPkt = s.nextPkt ∧ (s.setChan x c).ep = s.ep ∧
    (s.setChan x c).bankA = s.bankA ∧ (s.setChan x c).bankB = s.bankB ∧ (s.setChan x c).tm = s.tm ∧
    (s.setChan x c).ca = s.ca ∧ (s.setChan x c).ln = s.ln ∧ (s.setChan x c).net = s.net ∧ (s.setChan x c).tr = s.tr ∧
    (s.setChan x c).snap = s.snap ∧ (s.setChan x c).meters = s.meters ∧ (s.setChan x c).sc = s.sc ∧
    (s.setChan x c).fab = s.fab ∧ (s.setChan x c).links = s.links ∧ (s.setChan x c).dm = s.dm ∧
    (s.setChan x c).otp = s.otp ∧ (s.setChan x c).freeCtr = s.freeCtr ∧ (s.setChan x c).out = s.out ∧
    (s.setChan x c).pending = s.pending :=
  ⟨rfl, rfl, rfl, rfl, rfl, rfl, rfl, rfl, rfl, rfl, rfl, rfl, rfl, rfl, rfl, rfl, rfl, rfl, rfl, rfl, rfl, rfl, rfl, rfl, rfl, rfl, rfl, rfl, rfl, rfl, rfl, rfl, rfl, rfl, rfl, rfl, rfl, rfl, rfl, rfl, rfl, rfl⟩

@[simp] theorem State.setPw_frame (s : State) (f : Power → Power) :
    (s.setPw f).cycle = s.cycle ∧ (s.setPw f).time = s.time ∧ (s.setPw f).addend = s.addend ∧
    (s.setPw f).timeRun = s.timeRun ∧ (s.setPw f).timers = s.timers ∧ (s.setPw f).hdrs = s.hdrs ∧
    (s.setPw f).regs = s.regs ∧ (s.setPw f).regsB = s.regsB ∧ (s.setPw f).hiLatch = s.hiLatch ∧
    (s.setPw f).later = s.later ∧ (s.setPw f).log = s.log ∧ (s.setPw f).acts = s.acts ∧
    (s.setPw f).chipReq = s.chipReq ∧ (s.setPw f).ptp = s.ptp ∧ (s.setPw f).mc = s.mc ∧ (s.setPw f).flash = s.flash ∧
    (s.setPw f).th = s.th ∧ (s.setPw f).jt = s.jt ∧ (s.setPw f).hc = s.hc ∧ (s.setPw f).hp = s.hp ∧
    (s.setPw f).irq = s.irq ∧ (s.setPw f).pkts = s.pkts ∧ (s.setPw f).nextPkt = s.nextPkt ∧ (s.setPw f).ep = s.ep ∧
    (s.setPw f).bankA = s.bankA ∧ (s.setPw f).bankB = s.bankB ∧ (s.setPw f).tm = s.tm ∧ (s.setPw f).ca = s.ca ∧
    (s.setPw f).ln = s.ln ∧ (s.setPw f).net = s.net ∧ (s.setPw f).tr = s.tr ∧ (s.setPw f).snap = s.snap ∧
    (s.setPw f).meters = s.meters ∧ (s.setPw f).chans = s.chans ∧ (s.setPw f).sc = s.sc ∧ (s.setPw f).fab = s.fab ∧
    (s.setPw f).links = s.links ∧ (s.setPw f).dm = s.dm ∧ (s.setPw f).otp = s.otp ∧ (s.setPw f).freeCtr = s.freeCtr ∧
    (s.setPw f).out = s.out ∧ (s.setPw f).pending = s.pending :=
  ⟨rfl, rfl, rfl, rfl, rfl, rfl, rfl, rfl, rfl, rfl, rfl, rfl, rfl, rfl, rfl, rfl, rfl, rfl, rfl, rfl, rfl, rfl, rfl, rfl, rfl, rfl, rfl, rfl, rfl, rfl, rfl, rfl, rfl, rfl, rfl, rfl, rfl, rfl, rfl, rfl, rfl, rfl⟩

@[simp] theorem State.setJt_frame (s : State) (f : Jtag → Jtag) :
    (s.setJt f).cycle = s.cycle ∧ (s.setJt f).time = s.time ∧ (s.setJt f).addend = s.addend ∧
    (s.setJt f).timeRun = s.timeRun ∧ (s.setJt f).timers = s.timers ∧ (s.setJt f).hdrs = s.hdrs ∧
    (s.setJt f).regs = s.regs ∧ (s.setJt f).regsB = s.regsB ∧ (s.setJt f).hiLatch = s.hiLatch ∧
    (s.setJt f).later = s.later ∧ (s.setJt f).log = s.log ∧ (s.setJt f).acts = s.acts ∧
    (s.setJt f).chipReq = s.chipReq ∧ (s.setJt f).pw = s.pw ∧ (s.setJt f).ptp = s.ptp ∧ (s.setJt f).mc = s.mc ∧
    (s.setJt f).flash = s.flash ∧ (s.setJt f).th = s.th ∧ (s.setJt f).hc = s.hc ∧ (s.setJt f).hp = s.hp ∧
    (s.setJt f).irq = s.irq ∧ (s.setJt f).pkts = s.pkts ∧ (s.setJt f).nextPkt = s.nextPkt ∧ (s.setJt f).ep = s.ep ∧
    (s.setJt f).bankA = s.bankA ∧ (s.setJt f).bankB = s.bankB ∧ (s.setJt f).tm = s.tm ∧ (s.setJt f).ca = s.ca ∧
    (s.setJt f).ln = s.ln ∧ (s.setJt f).net = s.net ∧ (s.setJt f).tr = s.tr ∧ (s.setJt f).snap = s.snap ∧
    (s.setJt f).meters = s.meters ∧ (s.setJt f).chans = s.chans ∧ (s.setJt f).sc = s.sc ∧ (s.setJt f).fab = s.fab ∧
    (s.setJt f).links = s.links ∧ (s.setJt f).dm = s.dm ∧ (s.setJt f).otp = s.otp ∧ (s.setJt f).freeCtr = s.freeCtr ∧
    (s.setJt f).out = s.out ∧ (s.setJt f).pending = s.pending :=
  ⟨rfl, rfl, rfl, rfl, rfl, rfl, rfl, rfl, rfl, rfl, rfl, rfl, rfl, rfl, rfl, rfl, rfl, rfl, rfl, rfl, rfl, rfl, rfl, rfl, rfl, rfl, rfl, rfl, rfl, rfl, rfl, rfl, rfl, rfl, rfl, rfl, rfl, rfl, rfl, rfl, rfl, rfl⟩

@[simp] theorem State.setTh_frame (s : State) (f : Therm → Therm) :
    (s.setTh f).cycle = s.cycle ∧ (s.setTh f).time = s.time ∧ (s.setTh f).addend = s.addend ∧
    (s.setTh f).timeRun = s.timeRun ∧ (s.setTh f).timers = s.timers ∧ (s.setTh f).hdrs = s.hdrs ∧
    (s.setTh f).regs = s.regs ∧ (s.setTh f).regsB = s.regsB ∧ (s.setTh f).hiLatch = s.hiLatch ∧
    (s.setTh f).later = s.later ∧ (s.setTh f).log = s.log ∧ (s.setTh f).acts = s.acts ∧
    (s.setTh f).chipReq = s.chipReq ∧ (s.setTh f).pw = s.pw ∧ (s.setTh f).ptp = s.ptp ∧ (s.setTh f).mc = s.mc ∧
    (s.setTh f).flash = s.flash ∧ (s.setTh f).jt = s.jt ∧ (s.setTh f).hc = s.hc ∧ (s.setTh f).hp = s.hp ∧
    (s.setTh f).irq = s.irq ∧ (s.setTh f).pkts = s.pkts ∧ (s.setTh f).nextPkt = s.nextPkt ∧ (s.setTh f).ep = s.ep ∧
    (s.setTh f).bankA = s.bankA ∧ (s.setTh f).bankB = s.bankB ∧ (s.setTh f).tm = s.tm ∧ (s.setTh f).ca = s.ca ∧
    (s.setTh f).ln = s.ln ∧ (s.setTh f).net = s.net ∧ (s.setTh f).tr = s.tr ∧ (s.setTh f).snap = s.snap ∧
    (s.setTh f).meters = s.meters ∧ (s.setTh f).chans = s.chans ∧ (s.setTh f).sc = s.sc ∧ (s.setTh f).fab = s.fab ∧
    (s.setTh f).links = s.links ∧ (s.setTh f).dm = s.dm ∧ (s.setTh f).otp = s.otp ∧ (s.setTh f).freeCtr = s.freeCtr ∧
    (s.setTh f).out = s.out ∧ (s.setTh f).pending = s.pending :=
  ⟨rfl, rfl, rfl, rfl, rfl, rfl, rfl, rfl, rfl, rfl, rfl, rfl, rfl, rfl, rfl, rfl, rfl, rfl, rfl, rfl, rfl, rfl, rfl, rfl, rfl, rfl, rfl, rfl, rfl, rfl, rfl, rfl, rfl, rfl, rfl, rfl, rfl, rfl, rfl, rfl, rfl, rfl⟩

@[simp] theorem State.setDeficit_frame (s : State) (k : Nat) (d : Int) :
    (s.setDeficit k d).cycle = s.cycle ∧ (s.setDeficit k d).time = s.time ∧ (s.setDeficit k d).addend = s.addend ∧
    (s.setDeficit k d).timeRun = s.timeRun ∧ (s.setDeficit k d).timers = s.timers ∧ (s.setDeficit k d).hdrs = s.hdrs ∧
    (s.setDeficit k d).regs = s.regs ∧ (s.setDeficit k d).regsB = s.regsB ∧ (s.setDeficit k d).hiLatch = s.hiLatch ∧
    (s.setDeficit k d).later = s.later ∧ (s.setDeficit k d).log = s.log ∧ (s.setDeficit k d).acts = s.acts ∧
    (s.setDeficit k d).chipReq = s.chipReq ∧ (s.setDeficit k d).pw = s.pw ∧ (s.setDeficit k d).ptp = s.ptp ∧
    (s.setDeficit k d).mc = s.mc ∧ (s.setDeficit k d).flash = s.flash ∧ (s.setDeficit k d).th = s.th ∧
    (s.setDeficit k d).jt = s.jt ∧ (s.setDeficit k d).hc = s.hc ∧ (s.setDeficit k d).hp = s.hp ∧
    (s.setDeficit k d).irq = s.irq ∧ (s.setDeficit k d).pkts = s.pkts ∧ (s.setDeficit k d).nextPkt = s.nextPkt ∧
    (s.setDeficit k d).ep = s.ep ∧ (s.setDeficit k d).bankA = s.bankA ∧ (s.setDeficit k d).bankB = s.bankB ∧
    (s.setDeficit k d).tm = s.tm ∧ (s.setDeficit k d).ca = s.ca ∧ (s.setDeficit k d).ln = s.ln ∧
    (s.setDeficit k d).net = s.net ∧ (s.setDeficit k d).tr = s.tr ∧ (s.setDeficit k d).snap = s.snap ∧
    (s.setDeficit k d).meters = s.meters ∧ (s.setDeficit k d).chans = s.chans ∧ (s.setDeficit k d).fab = s.fab ∧
    (s.setDeficit k d).links = s.links ∧ (s.setDeficit k d).dm = s.dm ∧ (s.setDeficit k d).otp = s.otp ∧
    (s.setDeficit k d).freeCtr = s.freeCtr ∧ (s.setDeficit k d).out = s.out ∧
    (s.setDeficit k d).pending = s.pending :=
  ⟨rfl, rfl, rfl, rfl, rfl, rfl, rfl, rfl, rfl, rfl, rfl, rfl, rfl, rfl, rfl, rfl, rfl, rfl, rfl, rfl, rfl, rfl, rfl, rfl, rfl, rfl, rfl, rfl, rfl, rfl, rfl, rfl, rfl, rfl, rfl, rfl, rfl, rfl, rfl, rfl, rfl, rfl⟩

@[simp] theorem State.setRound_frame (s : State) (n p : Nat) (l : List Nat) :
    (s.setRound n p l).cycle = s.cycle ∧ (s.setRound n p l).time = s.time ∧ (s.setRound n p l).addend = s.addend ∧
    (s.setRound n p l).timeRun = s.timeRun ∧ (s.setRound n p l).timers = s.timers ∧ (s.setRound n p l).hdrs = s.hdrs ∧
    (s.setRound n p l).regs = s.regs ∧ (s.setRound n p l).regsB = s.regsB ∧ (s.setRound n p l).hiLatch = s.hiLatch ∧
    (s.setRound n p l).later = s.later ∧ (s.setRound n p l).log = s.log ∧ (s.setRound n p l).acts = s.acts ∧
    (s.setRound n p l).chipReq = s.chipReq ∧ (s.setRound n p l).pw = s.pw ∧ (s.setRound n p l).ptp = s.ptp ∧
    (s.setRound n p l).mc = s.mc ∧ (s.setRound n p l).flash = s.flash ∧ (s.setRound n p l).th = s.th ∧
    (s.setRound n p l).jt = s.jt ∧ (s.setRound n p l).hc = s.hc ∧ (s.setRound n p l).hp = s.hp ∧
    (s.setRound n p l).irq = s.irq ∧ (s.setRound n p l).pkts = s.pkts ∧ (s.setRound n p l).nextPkt = s.nextPkt ∧
    (s.setRound n p l).ep = s.ep ∧ (s.setRound n p l).bankA = s.bankA ∧ (s.setRound n p l).bankB = s.bankB ∧
    (s.setRound n p l).tm = s.tm ∧ (s.setRound n p l).ca = s.ca ∧ (s.setRound n p l).ln = s.ln ∧
    (s.setRound n p l).net = s.net ∧ (s.setRound n p l).tr = s.tr ∧ (s.setRound n p l).snap = s.snap ∧
    (s.setRound n p l).meters = s.meters ∧ (s.setRound n p l).chans = s.chans ∧ (s.setRound n p l).fab = s.fab ∧
    (s.setRound n p l).links = s.links ∧ (s.setRound n p l).dm = s.dm ∧ (s.setRound n p l).otp = s.otp ∧
    (s.setRound n p l).freeCtr = s.freeCtr ∧ (s.setRound n p l).out = s.out ∧
    (s.setRound n p l).pending = s.pending :=
  ⟨rfl, rfl, rfl, rfl, rfl, rfl, rfl, rfl, rfl, rfl, rfl, rfl, rfl, rfl, rfl, rfl, rfl, rfl, rfl, rfl, rfl, rfl, rfl, rfl, rfl, rfl, rfl, rfl, rfl, rfl, rfl, rfl, rfl, rfl, rfl, rfl, rfl, rfl, rfl, rfl, rfl, rfl⟩

@[simp] theorem State.setPolicer_frame (s : State) (i : Nat) (r : Policer) :
    (s.setPolicer i r).cycle = s.cycle ∧ (s.setPolicer i r).time = s.time ∧ (s.setPolicer i r).addend = s.addend ∧
    (s.setPolicer i r).timeRun = s.timeRun ∧ (s.setPolicer i r).timers = s.timers ∧ (s.setPolicer i r).hdrs = s.hdrs ∧
    (s.setPolicer i r).regs = s.regs ∧ (s.setPolicer i r).regsB = s.regsB ∧ (s.setPolicer i r).hiLatch = s.hiLatch ∧
    (s.setPolicer i r).later = s.later ∧ (s.setPolicer i r).log = s.log ∧ (s.setPolicer i r).acts = s.acts ∧
    (s.setPolicer i r).chipReq = s.chipReq ∧ (s.setPolicer i r).pw = s.pw ∧ (s.setPolicer i r).ptp = s.ptp ∧
    (s.setPolicer i r).mc = s.mc ∧ (s.setPolicer i r).flash = s.flash ∧ (s.setPolicer i r).th = s.th ∧
    (s.setPolicer i r).jt = s.jt ∧ (s.setPolicer i r).hc = s.hc ∧ (s.setPolicer i r).hp = s.hp ∧
    (s.setPolicer i r).irq = s.irq ∧ (s.setPolicer i r).pkts = s.pkts ∧ (s.setPolicer i r).nextPkt = s.nextPkt ∧
    (s.setPolicer i r).ep = s.ep ∧ (s.setPolicer i r).bankA = s.bankA ∧ (s.setPolicer i r).bankB = s.bankB ∧
    (s.setPolicer i r).tm = s.tm ∧ (s.setPolicer i r).ca = s.ca ∧ (s.setPolicer i r).ln = s.ln ∧
    (s.setPolicer i r).net = s.net ∧ (s.setPolicer i r).tr = s.tr ∧ (s.setPolicer i r).snap = s.snap ∧
    (s.setPolicer i r).meters = s.meters ∧ (s.setPolicer i r).chans = s.chans ∧ (s.setPolicer i r).fab = s.fab ∧
    (s.setPolicer i r).links = s.links ∧ (s.setPolicer i r).dm = s.dm ∧ (s.setPolicer i r).otp = s.otp ∧
    (s.setPolicer i r).freeCtr = s.freeCtr ∧ (s.setPolicer i r).out = s.out ∧
    (s.setPolicer i r).pending = s.pending :=
  ⟨rfl, rfl, rfl, rfl, rfl, rfl, rfl, rfl, rfl, rfl, rfl, rfl, rfl, rfl, rfl, rfl, rfl, rfl, rfl, rfl, rfl, rfl, rfl, rfl, rfl, rfl, rfl, rfl, rfl, rfl, rfl, rfl, rfl, rfl, rfl, rfl, rfl, rfl, rfl, rfl, rfl, rfl⟩

@[simp] theorem State.setQprof_frame (s : State) (i v : Nat) :
    (s.setQprof i v).cycle = s.cycle ∧ (s.setQprof i v).time = s.time ∧ (s.setQprof i v).addend = s.addend ∧
    (s.setQprof i v).timeRun = s.timeRun ∧ (s.setQprof i v).timers = s.timers ∧ (s.setQprof i v).hdrs = s.hdrs ∧
    (s.setQprof i v).regs = s.regs ∧ (s.setQprof i v).regsB = s.regsB ∧ (s.setQprof i v).hiLatch = s.hiLatch ∧
    (s.setQprof i v).later = s.later ∧ (s.setQprof i v).log = s.log ∧ (s.setQprof i v).acts = s.acts ∧
    (s.setQprof i v).chipReq = s.chipReq ∧ (s.setQprof i v).pw = s.pw ∧ (s.setQprof i v).ptp = s.ptp ∧
    (s.setQprof i v).mc = s.mc ∧ (s.setQprof i v).flash = s.flash ∧ (s.setQprof i v).th = s.th ∧
    (s.setQprof i v).jt = s.jt ∧ (s.setQprof i v).hc = s.hc ∧ (s.setQprof i v).hp = s.hp ∧
    (s.setQprof i v).irq = s.irq ∧ (s.setQprof i v).pkts = s.pkts ∧ (s.setQprof i v).nextPkt = s.nextPkt ∧
    (s.setQprof i v).ep = s.ep ∧ (s.setQprof i v).bankA = s.bankA ∧ (s.setQprof i v).bankB = s.bankB ∧
    (s.setQprof i v).tm = s.tm ∧ (s.setQprof i v).ca = s.ca ∧ (s.setQprof i v).ln = s.ln ∧
    (s.setQprof i v).net = s.net ∧ (s.setQprof i v).tr = s.tr ∧ (s.setQprof i v).snap = s.snap ∧
    (s.setQprof i v).meters = s.meters ∧ (s.setQprof i v).chans = s.chans ∧ (s.setQprof i v).fab = s.fab ∧
    (s.setQprof i v).links = s.links ∧ (s.setQprof i v).dm = s.dm ∧ (s.setQprof i v).otp = s.otp ∧
    (s.setQprof i v).freeCtr = s.freeCtr ∧ (s.setQprof i v).out = s.out ∧ (s.setQprof i v).pending = s.pending :=
  ⟨rfl, rfl, rfl, rfl, rfl, rfl, rfl, rfl, rfl, rfl, rfl, rfl, rfl, rfl, rfl, rfl, rfl, rfl, rfl, rfl, rfl, rfl, rfl, rfl, rfl, rfl, rfl, rfl, rfl, rfl, rfl, rfl, rfl, rfl, rfl, rfl, rfl, rfl, rfl, rfl, rfl, rfl⟩

@[simp] theorem State.setRxRec_frame (s : State) (k : Nat) (r : RxRec) :
    (s.setRxRec k r).cycle = s.cycle ∧ (s.setRxRec k r).time = s.time ∧ (s.setRxRec k r).addend = s.addend ∧
    (s.setRxRec k r).timeRun = s.timeRun ∧ (s.setRxRec k r).timers = s.timers ∧ (s.setRxRec k r).hdrs = s.hdrs ∧
    (s.setRxRec k r).regs = s.regs ∧ (s.setRxRec k r).regsB = s.regsB ∧ (s.setRxRec k r).hiLatch = s.hiLatch ∧
    (s.setRxRec k r).later = s.later ∧ (s.setRxRec k r).log = s.log ∧ (s.setRxRec k r).acts = s.acts ∧
    (s.setRxRec k r).chipReq = s.chipReq ∧ (s.setRxRec k r).pw = s.pw ∧ (s.setRxRec k r).ptp = s.ptp ∧
    (s.setRxRec k r).mc = s.mc ∧ (s.setRxRec k r).flash = s.flash ∧ (s.setRxRec k r).th = s.th ∧
    (s.setRxRec k r).jt = s.jt ∧ (s.setRxRec k r).hc = s.hc ∧ (s.setRxRec k r).hp = s.hp ∧
    (s.setRxRec k r).irq = s.irq ∧ (s.setRxRec k r).pkts = s.pkts ∧ (s.setRxRec k r).nextPkt = s.nextPkt ∧
    (s.setRxRec k r).ep = s.ep ∧ (s.setRxRec k r).bankA = s.bankA ∧ (s.setRxRec k r).bankB = s.bankB ∧
    (s.setRxRec k r).tm = s.tm ∧ (s.setRxRec k r).ca = s.ca ∧ (s.setRxRec k r).ln = s.ln ∧
    (s.setRxRec k r).tr = s.tr ∧ (s.setRxRec k r).snap = s.snap ∧ (s.setRxRec k r).meters = s.meters ∧
    (s.setRxRec k r).chans = s.chans ∧ (s.setRxRec k r).sc = s.sc ∧ (s.setRxRec k r).fab = s.fab ∧
    (s.setRxRec k r).links = s.links ∧ (s.setRxRec k r).dm = s.dm ∧ (s.setRxRec k r).otp = s.otp ∧
    (s.setRxRec k r).freeCtr = s.freeCtr ∧ (s.setRxRec k r).out = s.out ∧ (s.setRxRec k r).pending = s.pending :=
  ⟨rfl, rfl, rfl, rfl, rfl, rfl, rfl, rfl, rfl, rfl, rfl, rfl, rfl, rfl, rfl, rfl, rfl, rfl, rfl, rfl, rfl, rfl, rfl, rfl, rfl, rfl, rfl, rfl, rfl, rfl, rfl, rfl, rfl, rfl, rfl, rfl, rfl, rfl, rfl, rfl, rfl, rfl⟩

@[simp] theorem State.putPkt_frame (s : State) (p : Pkt) :
    (s.putPkt p).cycle = s.cycle ∧ (s.putPkt p).time = s.time ∧ (s.putPkt p).addend = s.addend ∧
    (s.putPkt p).timeRun = s.timeRun ∧ (s.putPkt p).timers = s.timers ∧ (s.putPkt p).hdrs = s.hdrs ∧
    (s.putPkt p).regs = s.regs ∧ (s.putPkt p).regsB = s.regsB ∧ (s.putPkt p).hiLatch = s.hiLatch ∧
    (s.putPkt p).later = s.later ∧ (s.putPkt p).log = s.log ∧ (s.putPkt p).acts = s.acts ∧
    (s.putPkt p).chipReq = s.chipReq ∧ (s.putPkt p).pw = s.pw ∧ (s.putPkt p).ptp = s.ptp ∧ (s.putPkt p).mc = s.mc ∧
    (s.putPkt p).flash = s.flash ∧ (s.putPkt p).th = s.th ∧ (s.putPkt p).jt = s.jt ∧ (s.putPkt p).hc = s.hc ∧
    (s.putPkt p).hp = s.hp ∧ (s.putPkt p).irq = s.irq ∧ (s.putPkt p).nextPkt = s.nextPkt ∧ (s.putPkt p).ep = s.ep ∧
    (s.putPkt p).bankA = s.bankA ∧ (s.putPkt p).bankB = s.bankB ∧ (s.putPkt p).tm = s.tm ∧ (s.putPkt p).ca = s.ca ∧
    (s.putPkt p).ln = s.ln ∧ (s.putPkt p).net = s.net ∧ (s.putPkt p).tr = s.tr ∧ (s.putPkt p).snap = s.snap ∧
    (s.putPkt p).meters = s.meters ∧ (s.putPkt p).chans = s.chans ∧ (s.putPkt p).sc = s.sc ∧
    (s.putPkt p).fab = s.fab ∧ (s.putPkt p).links = s.links ∧ (s.putPkt p).dm = s.dm ∧ (s.putPkt p).otp = s.otp ∧
    (s.putPkt p).freeCtr = s.freeCtr ∧ (s.putPkt p).out = s.out ∧ (s.putPkt p).pending = s.pending :=
  ⟨rfl, rfl, rfl, rfl, rfl, rfl, rfl, rfl, rfl, rfl, rfl, rfl, rfl, rfl, rfl, rfl, rfl, rfl, rfl, rfl, rfl, rfl, rfl, rfl, rfl, rfl, rfl, rfl, rfl, rfl, rfl, rfl, rfl, rfl, rfl, rfl, rfl, rfl, rfl, rfl, rfl, rfl⟩

end Sys2Proof.Machine
end

