-- ==== Sys2Proof/Laws/Store.lean ====
section
/-! SUPPORT. What reads and writes of a sparse array do: a read after a write, and the canonical form that every operation
keeps. -/

namespace Sys2Proof.Machine

variable {β : Type}

theorem SMap.get_ins_same (d : β) (m : SMap β) (k : Nat) (v : β) (h : ∀ e ∈ m, e.1 ≠ k) : SMap.get d (SMap.ins m k v) k = v := by
  induction m with
  | nil => simp [SMap.ins, SMap.get]
  | cons e m ih =>
    obtain ⟨a, b⟩ := e
    have ha : a ≠ k := h (a, b) (by simp)
    unfold SMap.ins
    split
    · simp [SMap.get]
    · simp [SMap.get, ha, ih (fun e he => h e (by simp [he]))]

theorem SMap.get_ins_ne (d : β) (m : SMap β) (k j : Nat) (v : β) (h : j ≠ k) : SMap.get d (SMap.ins m k v) j = SMap.get d m j := by
  induction m with
  | nil => simp [SMap.ins, SMap.get, h.symm]
  | cons e m ih =>
    obtain ⟨a, b⟩ := e
    unfold SMap.ins
    split
    · simp [SMap.get, h.symm]
    · simp only [SMap.get]; split <;> simp_all

theorem SMap.get_drop (d : β) (p : Nat → Bool) (m : SMap β) (k : Nat) :
    SMap.get d (SMap.drop p m) k = if p k then d else SMap.get d m k := by
  induction m with
  | nil => simp [SMap.drop, SMap.get]
  | cons e m ih =>
    obtain ⟨a, b⟩ := e
    unfold SMap.drop at ih ⊢
    by_cases ha : a = k
    · subst ha
      by_cases hp : p a = true <;> simp_all [SMap.get]
    · by_cases hp : p a = true <;> simp_all [SMap.get]

/-- A read of the index written gives the content written, whatever the array was. -/
theorem SMap.get_put_same [DecidableEq β] (d : β) (m : SMap β) (k : Nat) (v : β) : SMap.get d (SMap.put d m k v) k = v := by
  unfold SMap.put
  split
  · simp_all [SMap.get_drop]
  · apply SMap.get_ins_same
    intro e he
    simp [SMap.drop] at he
    exact he.2

/-- A write leaves every other index alone. -/
theorem SMap.get_put_ne [DecidableEq β] (d d' : β) (m : SMap β) (k j : Nat) (v : β) (h : j ≠ k) :
    SMap.get d' (SMap.put d m k v) j = SMap.get d' m j := by
  unfold SMap.put
  split <;> simp [SMap.get_drop, SMap.get_ins_ne, h]

/-- Rising indexes as a pairwise order. -/
theorem SMap.rising_iff (m : SMap β) : SMap.rising m = true ↔ (m.map (·.1)).Pairwise (· < ·) := by
  induction m with
  | nil => simp [SMap.rising]
  | cons e m ih =>
    cases m with
    | nil => simp [SMap.rising]
    | cons f m =>
      simp only [SMap.rising, Bool.and_eq_true, decide_eq_true_eq, ih, List.map_cons]
      constructor
      · rintro ⟨h, hp⟩
        refine List.pairwise_cons.2 ⟨?_, hp⟩
        intro x hx
        rcases List.mem_cons.1 hx with rfl | hx
        · exact h
        · exact Nat.lt_trans h ((List.pairwise_cons.1 hp).1 x hx)
      · intro h
        have h' := List.pairwise_cons.1 h
        exact ⟨h'.1 _ (by simp), h'.2⟩

theorem SMap.mem_ins (m : SMap β) (k : Nat) (v : β) (e : Nat × β) (h : e ∈ SMap.ins m k v) : e = (k, v) ∨ e ∈ m := by
  induction m with
  | nil => simpa [SMap.ins] using h
  | cons f m ih =>
    unfold SMap.ins at h
    split at h
    · simpa using h
    · rcases List.mem_cons.1 h with rfl | h
      · simp
      · rcases ih h with h | h <;> simp [h]

theorem SMap.rising_drop (p : Nat → Bool) (m : SMap β) (h : SMap.rising m = true) : SMap.rising (SMap.drop p m) = true := by
  rw [SMap.rising_iff] at h ⊢
  exact h.sublist (List.Sublist.map _ (by simp [SMap.drop]))

theorem SMap.rising_ins (m : SMap β) (k : Nat) (v : β) (h : SMap.rising m = true) (hk : ∀ e ∈ m, e.1 ≠ k) :
    SMap.rising (SMap.ins m k v) = true := by
  rw [SMap.rising_iff] at h ⊢
  induction m with
  | nil => simp [SMap.ins]
  | cons e m ih =>
    obtain ⟨a, b⟩ := e
    have h' := List.pairwise_cons.1 h
    have ha : a ≠ k := hk (a, b) (by simp)
    unfold SMap.ins
    split
    · rename_i hlt
      refine List.pairwise_cons.2 ⟨?_, h⟩
      intro x hx
      rcases List.mem_cons.1 hx with rfl | hx
      · exact hlt
      · exact Nat.lt_trans hlt (h'.1 x hx)
    · refine List.pairwise_cons.2 ⟨?_, ih h'.2 (fun e he => hk e (by simp [he]))⟩
      intro x hx
      obtain ⟨e, he, rfl⟩ := List.mem_map.1 hx
      rcases SMap.mem_ins m k v e he with rfl | he
      · simp at ha ⊢; omega
      · exact h'.1 _ (List.mem_map.2 ⟨e, he, rfl⟩)

/-- A write keeps the indexes rising. -/
theorem SMap.rising_put [DecidableEq β] (d : β) (m : SMap β) (k : Nat) (v : β) (h : SMap.rising m = true) :
    SMap.rising (SMap.put d m k v) = true := by
  unfold SMap.put
  split
  · exact SMap.rising_drop _ m h
  · apply SMap.rising_ins _ _ _ (SMap.rising_drop _ m h)
    intro e he
    simp [SMap.drop] at he
    exact he.2

/-- A write keeps the canonical form. -/
theorem SMap.wf_put [DecidableEq β] (d : β) (m : SMap β) (k : Nat) (v : β) (h : SMap.wf d m = true) :
    SMap.wf d (SMap.put d m k v) = true := by
  simp only [SMap.wf, Bool.and_eq_true, List.all_eq_true, decide_eq_true_eq] at h ⊢
  refine ⟨SMap.rising_put d m k v h.1, ?_⟩
  intro e he
  unfold SMap.put at he
  split at he
  · simp [SMap.drop] at he; exact h.2 e he.1
  · rcases SMap.mem_ins _ _ _ _ he with rfl | he
    · assumption
    · simp [SMap.drop] at he; exact h.2 e he.1

/-- Clearing indexes keeps the canonical form. -/
theorem SMap.wf_drop [DecidableEq β] (d : β) (p : Nat → Bool) (m : SMap β) (h : SMap.wf d m = true) :
    SMap.wf d (SMap.drop p m) = true := by
  simp only [SMap.wf, Bool.and_eq_true, List.all_eq_true, decide_eq_true_eq] at h ⊢
  refine ⟨SMap.rising_drop p m h.1, ?_⟩
  intro e he
  simp [SMap.drop] at he
  exact h.2 e he.1

/-- Two arrays in canonical form that read alike are the same data. -/
theorem SMap.ext_of_wf [DecidableEq β] (d : β) (m n : SMap β) (hm : SMap.wf d m = true) (hn : SMap.wf d n = true)
    (h : ∀ k, SMap.get d m k = SMap.get d n k) : m = n := by
  have get_lt : ∀ (l : SMap β) (k : Nat), (∀ e ∈ l, k < e.1) → SMap.get d l k = d := by
    intro l k hl
    induction l with
    | nil => rfl
    | cons e l ih =>
      have := hl e (by simp)
      simp only [SMap.get]
      rw [if_neg (by omega)]
      exact ih (fun e he => hl e (by simp [he]))
  simp only [SMap.wf, Bool.and_eq_true, List.all_eq_true, decide_eq_true_eq, SMap.rising_iff] at hm hn
  obtain ⟨hm, hmd⟩ := hm
  obtain ⟨hn, hnd⟩ := hn
  have low : ∀ (a : Nat) (b : β) (l : SMap β), ((a :: l.map (·.1))).Pairwise (· < ·) → ∀ k, k ≤ a → SMap.get d l k = d := by
    intro a b l hp k hk
    exact get_lt l k (fun e he => Nat.lt_of_le_of_lt hk ((List.pairwise_cons.1 hp).1 _ (List.mem_map.2 ⟨e, he, rfl⟩)))
  induction m generalizing n with
  | nil =>
    cases n with
    | nil => rfl
    | cons e n =>
      have := h e.1
      simp [SMap.get] at this
      exact absurd this.symm (hnd e (by simp))
  | cons e m ih =>
    cases n with
    | nil =>
      have := h e.1
      simp [SMap.get] at this
      exact absurd this (hmd e (by simp))
    | cons f n =>
      obtain ⟨a, b⟩ := e
      obtain ⟨a', b'⟩ := f
      have hm' := low a b m hm
      have hn' := low a' b' n hn
      have hb : b ≠ d := hmd (a, b) (by simp)
      have hb' : b' ≠ d := hnd (a', b') (by simp)
      have haa : a = a' := by
        rcases Nat.lt_trichotomy a a' with hlt | heq | hlt
        · have := h a
          simp only [SMap.get, if_true] at this
          rw [if_neg (by omega), hn' a (by omega)] at this
          exact absurd this hb
        · exact heq
        · have := h a'
          simp only [SMap.get, if_true] at this
          rw [if_neg (by omega), hm' a' (by omega)] at this
          exact absurd this.symm hb'
      subst haa
      have hbb : b = b' := by simpa [SMap.get] using h a
      subst hbb
      congr 1
      refine ih n ?_ ?_ (fun e he => hmd e (by simp [he])) ?_ (fun e he => hnd e (by simp [he]))
      · intro k
        by_cases hk : k = a
        · subst hk; rw [hm' k (by omega), hn' k (by omega)]
        · have := h k
          simpa [SMap.get, Ne.symm hk] using this
      · rw [List.map_cons] at hm; exact (List.pairwise_cons.1 hm).2
      · rw [List.map_cons] at hn; exact (List.pairwise_cons.1 hn).2

end Sys2Proof.Machine
end

