-- ==== Sys2Proof/Laws/Registers.lean ====
section
/-! SUPPORT. Reads after writes of the register file, the page headers and the timers, the gates of the two dies, and the
canonical form of the register file. -/

namespace Sys2Proof.Machine

/-! ### The register file -/

theorem State.rfp_wfp_same (s : State) (f : Fld) (p i v : Nat) : (s.wfp f p i v).rfp f p i = v % 2 ^ f.w :=
  SMap.get_put_same _ _ _ _

/-- A write leaves every field at another place alone. -/
theorem State.rfp_wfp_ne (s : State) (f g : Fld) (p q i j v : Nat) (h : g.key q j ≠ f.key p i) :
    (s.wfp f p i v).rfp g q j = s.rfp g q j :=
  SMap.get_put_ne _ _ _ _ _ _ h

theorem State.rf_wf_same (s : State) (f : Fld) (v : Nat) : (s.wf f v).rf f = v % 2 ^ f.w := State.rfp_wfp_same s f 0 0 v

theorem State.rf_wf_ne (s : State) (f g : Fld) (v : Nat) (h : g.key 0 0 ≠ f.key 0 0) : (s.wf f v).rf g = s.rf g :=
  State.rfp_wfp_ne s f g 0 0 0 0 v h

theorem State.rfi_wfi_same (s : State) (f : Fld) (i v : Nat) : (s.wfi f i v).rfi f i = v % 2 ^ f.w :=
  State.rfp_wfp_same s f 0 i v

theorem State.rfb_wf_ne (s : State) (f g : Fld) (v : Nat) (h : g.key 0 0 ≠ f.key 0 0) : (s.wf f v).rfb g = s.rfb g := by
  simp only [State.rfb, State.rf_wf_ne s f g v h]

@[simp] theorem State.rfp_updHdr (s : State) (P : Nat) (f : PageHdr → PageHdr) (g : Fld) (p i : Nat) :
    (s.updHdr P f).rfp g p i = s.rfp g p i := rfl

@[simp] theorem State.rfp_disarm (s : State) (k : TimerKind) (n : Nat) (g : Fld) (p i : Nat) :
    (s.disarm k n).rfp g p i = s.rfp g p i := rfl

@[simp] theorem State.rfp_armAt (s : State) (k : TimerKind) (n d : Nat) (g : Fld) (p i : Nat) :
    (s.armAt k n d).rfp g p i = s.rfp g p i := rfl

@[simp] theorem State.rfp_emit (s : State) (o : Out) (g : Fld) (p i : Nat) : (s.emit o).rfp g p i = s.rfp g p i := rfl

/-! ### Page headers -/

@[simp] theorem State.hdr_updHdr_same (s : State) (P : Nat) (f : PageHdr → PageHdr) : (s.updHdr P f).hdr P = f (s.hdr P) := by
  simp only [State.hdr, State.updHdr, SMap.upd, SMap.get_put_same]

theorem State.hdr_updHdr_ne (s : State) (P Q : Nat) (f : PageHdr → PageHdr) (h : Q ≠ P) : (s.updHdr P f).hdr Q = s.hdr Q := by
  simp only [State.hdr, State.updHdr, SMap.upd, SMap.get_put_ne _ _ _ _ _ _ h]

@[simp] theorem State.hdr_wfp (s : State) (f : Fld) (p i v P : Nat) : (s.wfp f p i v).hdr P = s.hdr P := rfl

@[simp] theorem State.hdr_wf (s : State) (f : Fld) (v P : Nat) : (s.wf f v).hdr P = s.hdr P := rfl

/-! ### Timers -/

theorem State.timerAt_disarm_same (s : State) (k : TimerKind) (i : Nat) : (s.disarm k i).timerAt k i = none := by
  simp only [State.timerAt, State.disarm, Option.map_eq_none_iff, List.find?_eq_none, List.mem_filter]
  intro t h
  simp at h ⊢
  tauto

theorem State.timerAt_disarm_ne (s : State) (k l : TimerKind) (i j : Nat) (h : ¬(l = k ∧ j = i)) :
    (s.disarm k i).timerAt l j = s.timerAt l j := by
  simp only [State.timerAt, State.disarm, List.find?_filter]
  congr 2
  funext u
  by_cases hl : u.kind = l ∧ u.idx = j
  · have hk : ¬(u.kind = k ∧ u.idx = i) := fun e => h ⟨hl.1.symm.trans e.1, hl.2.symm.trans e.2⟩
    rw [hl.1, hl.2] at hk
    simp [hl.1, hl.2]
    tauto
  · simp
    tauto

theorem State.timerAt_armAt_same (s : State) (k : TimerKind) (i d : Nat) : (s.armAt k i d).timerAt k i = some d := by
  have h := State.timerAt_disarm_same s k i
  simp only [State.timerAt, Option.map_eq_none_iff] at h
  simp [State.timerAt, State.armAt, List.find?_append, h]

theorem State.timerAt_armAt_ne (s : State) (k l : TimerKind) (i j d : Nat) (h : ¬(l = k ∧ j = i)) :
    (s.armAt k i d).timerAt l j = s.timerAt l j := by
  rw [← State.timerAt_disarm_ne s k l i j h]
  have hn : ¬(k = l ∧ i = j) := fun e => h ⟨e.1.symm, e.2.symm⟩
  simp [State.timerAt, State.armAt, List.find?_append, hn]

theorem State.timerAt_arm_same (s : State) (k : TimerKind) (i n : Nat) : (s.arm k i n).timerAt k i = some (s.cycle + n) :=
  State.timerAt_armAt_same s k i (s.cycle + n)

/-- A timer that does not run does not expire. -/
theorem State.expire_none (s : State) (k : TimerKind) (i : Nat) (h : s.timerAt k i = none) : s.expire k i = none := by
  simp [State.expire, h]

/-- A timer that runs expires at its deadline, or now where that has passed, and stops. -/
theorem State.expire_armed (s : State) (k : TimerKind) (i d : Nat) (h : s.timerAt k i = some d) :
    s.expire k i = some ((s.advanceTo d).disarm k i) := by
  simp [State.expire, h]

/-! ### The gates -/

theorem State.onTm_on (s : State) (f : State → State) (h : s.tmOn = true) : s.onTm f = f s := by simp [State.onTm, h]
theorem State.onTm_off (s : State) (f : State → State) (h : s.tmOn = false) : s.onTm f = s := by simp [State.onTm, h]
theorem State.onFe_on (s : State) (f : State → State) (h : s.feOn = true) : s.onFe f = f s := by simp [State.onFe, h]
theorem State.onFe_off (s : State) (f : State → State) (h : s.feOn = false) : s.onFe f = s := by simp [State.onFe, h]
theorem State.onBus_on (s : State) (P : Nat) (f : State → State) (h : (s.tmOn && s.dieOn P && s.reachable P) = true) :
    s.onBus P f = f s := by simp [State.onBus, h]
theorem State.onDie_on (s : State) (P : Nat) (f : State → State) (h : s.dieOn P = true) : s.onDie P f = f s := by
  simp [State.onDie, h]
theorem State.onAon_on (s : State) (f : State → State) (h : s.pw.rst = 0) : s.onAon f = f s := by simp [State.onAon, h]

/-- What a gated operation keeps, when the operation keeps it. -/
theorem State.onTm_rel (r : State → State → Prop) (s : State) (f : State → State) (h0 : r s s) (h : r s (f s)) :
    r s (s.onTm f) := by unfold State.onTm; split <;> assumption
theorem State.onFe_rel (r : State → State → Prop) (s : State) (f : State → State) (h0 : r s s) (h : r s (f s)) :
    r s (s.onFe f) := by unfold State.onFe; split <;> assumption
theorem State.onPhy_rel (r : State → State → Prop) (s : State) (f : State → State) (h0 : r s s) (h : r s (f s)) :
    r s (s.onPhy f) := by unfold State.onPhy; split <;> assumption
theorem State.onBus_rel (r : State → State → Prop) (s : State) (P : Nat) (f : State → State) (h0 : r s s) (h : r s (f s)) :
    r s (s.onBus P f) := by unfold State.onBus; split <;> assumption
theorem State.onDie_rel (r : State → State → Prop) (s : State) (P : Nat) (f : State → State) (h0 : r s s) (h : r s (f s)) :
    r s (s.onDie P f) := by unfold State.onDie; split <;> assumption
theorem State.onAon_rel (r : State → State → Prop) (s : State) (f : State → State) (h0 : r s s) (h : r s (f s)) :
    r s (s.onAon f) := by unfold State.onAon; split <;> assumption
theorem State.onTap_rel (r : State → State → Prop) (s : State) (f : State → State) (h0 : r s s) (h : r s (f s)) :
    r s (s.onTap f) := by unfold State.onTap; split <;> assumption
theorem State.onPtp_rel (r : State → State → Prop) (s : State) (f : State → State) (h0 : r s s) (h : r s (f s)) :
    r s (s.onPtp f) := by
  refine State.onFe_rel r s _ h0 ?_
  split <;> assumption
theorem State.onFw_rel (r : State → State → Prop) (s : State) (f : State → State) (h0 : r s s) (h : r s (f s)) :
    r s (s.onFw f) := by
  refine State.onTm_rel r s _ h0 ?_
  split <;> assumption

/-! ### The canonical form of the register file -/

/-- The register file lists its fields once, in rising order. -/
def State.regsRising (s : State) : Prop := SMap.rising s.regs = true

theorem State.wfp_rising (s : State) (f : Fld) (p i v : Nat) (h : s.regsRising) : (s.wfp f p i v).regsRising :=
  SMap.rising_put _ _ _ _ h

end Sys2Proof.Machine
end

