-- ==== Sys2Proof/WellFormed.lean ====
section
/-! DEFINITION. Which commands are well formed: each operand lies within what the bus, the pin or the interface that brings the
command can carry. The meanings take any operand; a command outside these ranges is one that no sender can make. -/

namespace Sys2Proof

/-- A 32-bit register value (R6). -/
def word (v : Nat) : Bool := decide (v < 2 ^ 32)

/-- A width in bytes that a bus access can have (R6, R44). -/
def busWidth (w : Nat) : Bool := [1, 2, 4, 8].contains w

/-- Bytes of an address space of the function (R21, R39). -/
def Space.size : Space → Nat
  | .bar0 => 2 ^ 25
  | .bar4 => 2 ^ 20
  | .config => 4096

/-- A width that an access to the space can have: at most a word in configuration space. -/
def Space.width (p : Space) (w : Nat) : Bool := busWidth w && (decide (p ≠ .config) || decide (w ≤ 4))

/-- A ring that stands on the interface (R46, R61). -/
def RingId.inRange : RingId → Bool
  | .cmd n => decide (n < 64)
  | .punt c => decide (c < 64)
  | .inject c => decide (c < 64)

/-- A lane that exists (R214, R237). -/
def LaneRef.inRange : LaneRef → Bool
  | .port p => decide (p < 256)
  | .link n => decide (n < 320)

/-- The operands of a command lie within the ranges of its row. -/
def Instr.wellFormed (i : Instr) : Bool :=
  match i with
  | .registerWrite _ off width data space => decide (off < space.size) && space.width width && decide (data < 256 ^ width)
  | .pageEnable _ page _ => decide (page < 8192)
  | .softReset _ page => decide (page < 8192)
  | .markerActionStart page => decide (page < 8192)
  | .markerWaitLimit page => decide (page < 8192)
  | .blockResetDone page => decide (page < 8192)
  | .evtLatchClear page mask => decide (page < 8192) && word mask
  | .evtForce page mask => decide (page < 8192) && word mask
  | .evtCaptureRelease page => decide (page < 8192)
  | .evtLostClear page => decide (page < 8192)
  | .pageLockWrite _ page _ => decide (page < 8192)
  | .perfCntPreset page k _ v => decide (page < 8192) && decide (k < 4) && word v
  | .counterLoReadLatch off space width => decide (off < space.size) && space.width width
  | .counterReadRearm off width => decide (off < 2 ^ 25) && busWidth width
  | .pcieLinkTrained _ width _ => busWidth width
  | .hostInterfaceReset _ => true
  | .pciePowerState _ _ => true
  | .sqTailDoorbell ring width v => decide (ring < 64) && busWidth width && decide (v < 256 ^ width)
  | .cqHeadDoorbell ring width v => decide (ring < 64) && busWidth width && decide (v < 256 ^ width)
  | .puntTailDoorbell chan width v => decide (chan < 64) && busWidth width && decide (v < 256 ^ width)
  | .injectTailDoorbell chan width v => decide (chan < 64) && busWidth width && decide (v < 256 ^ width)
  | .ringEnable ring ctrl => ring.inRange && word ctrl
  | .ringDisable ring ctrl => ring.inRange && word ctrl
  | .commandFetch => true
  | .fetchReadDone _ _ => true
  | .completionWrite ring _ => decide (ring < 64)
  | .coalTimerExpire _ => true
  | .msixUnblock _ => true
  | .fence _ => true
  | .unknownOpcode _ => true
  | .dcmdGo => true
  | .dresResultAck => true
  | .puntDeliver chan _ _ _ => decide (chan < 64)
  | .injectFetch chan _ _ _ => decide (chan < 64)
  | .epochStageAlmanac _ _ => true
  | .stageTimeout => true
  | .epochStageRules _ _ => true
  | .epochCommit _ => true
  | .epochFlip => true
  | .selectorLane lanes => decide (lanes < 8)
  | .depthGapEnd _ => true
  | .drainSettled => true
  | .retireTimeout => true
  | .purgeDone => true
  | .retireMirrorDone => true
  | .epochAbort _ => true
  | .epochRollback _ => true
  | .rollbackFlip => true
  | .remirrorDone => true
  | .epochStatus _ => true
  | .cellCheckError phys _ _ => decide (phys < 2112)
  | .slotScrub _ => true
  | .slotStoreScrub _ => true
  | .remapDone strip _ => decide (strip < 16)
  | .fencedCellActivity phys => decide (phys < 2112)
  | .cellRemap _ => true
  | .cellTest _ => true
  | .cellTestDone phys _ => decide (phys < 2112)
  | .cellUnfence _ => true
  | .frameRx port data _ => decide (port < 256) && decide (data.length ≠ 0)
  | .pipelineInputAdmit pipe => decide (pipe < 16)
  | .stripExit pipe _ => decide (pipe < 16)
  | .tmIngressArrival pipe => decide (pipe < 16)
  | .voqSelect _ => true
  | .switchCoreStep => true
  | .spraySlotSend => true
  | .txFrameStart => true
  | .patternBoundary => true
  | .fabricCellRx link _ bytes _ => decide (link < 320) && decide (bytes.length = 256)
  | .reorderCollectionExpire src _ => decide (src < 1024)
  | .reorderGapExpire src _ => decide (src < 1024)
  | .reorderCtxIdle src _ => decide (src < 1024)
  | .residueRetry => true
  | .residueTimeout _ _ => true
  | .egressSelect pipe _ => decide (pipe < 16)
  | .loopbackSelect => true
  | .expressPacerOpen port => decide (port < 256)
  | .egressStripExit pipe => decide (pipe < 16)
  | .macFrameBoundary port => decide (port < 256)
  | .frameTxEnd port => decide (port < 256)
  | .tblInsert _ => true
  | .tblDelete _ => true
  | .tblModify _ _ => true
  | .tblLookup _ => true
  | .tblReadIndex _ => true
  | .tblCas _ => true
  | .tblAgeDelete _ => true
  | .tblSwitchRegion _ => true
  | .regionSwitchApply _ => true
  | .tableWriteSlot => true
  | .bar2Write off width data => decide (off < 2 ^ 32) && busWidth width && decide (data < 256 ^ width)
  | .bar2Read off => decide (off < 2 ^ 32)
  | .tdmaLock ctrl => word ctrl
  | .tdmaUnlock ctrl => word ctrl
  | .holdWrite v => word v
  | .holdDrained => true
  | .tableScrub strip _ _ _ _ _ => decide (strip < 16)
  | .learnEventProcess => true
  | .dampWindowExpire _ => true
  | .hitSetWrite => true
  | .ageTick => true
  | .ageWalkLine => true
  | .ageDeletion => true
  | .portEnable port cfg => decide (port < 256) && word cfg
  | .portDisable port cfg => decide (port < 256) && word cfg
  | .linkUp port => decide (port < 256)
  | .linkDown port cause => decide (port < 256) && decide (1 ≤ cause) && decide (cause ≤ 3)
  | .anFail port _ => decide (port < 256)
  | .degIntervalEnd lane _ _ _ => lane.inRange
  | .pfcFrameRx port vec quanta => decide (port < 256) && decide (vec < 256) && decide (quanta.length = 8) && quanta.all (fun q => decide (q < 65536))
  | .pfcPauseExpire port cls => decide (port < 256) && decide (cls < 8)
  | .pfcRefreshTimer port cls => decide (port < 256) && decide (cls < 8)
  | .preemptEnable port cfg => decide (port < 256) && word cfg
  | .preemptVerifyTimer port _ => decide (port < 256)
  | .tsAck group => decide (group < 32)
  | .protRecordRead sel => word sel
  | .protRecordWrite sel => word sel
  | .rcvyResetExpire _ => true
  | .protWtrExpire port => decide (port < 256)
  | .protForceOut _ mask => word mask
  | .codewordLock link => decide (link < 320)
  | .flinkLos link _ => decide (link < 320)
  | .fawCheck link _ _ _ => decide (link < 320)
  | .overheadRx link bytes _ => decide (link < 320) && decide (bytes.length = 64)
  | .fcTimeoutExpire dev pg => decide (dev < 1024) && decide (pg < 32)
  | .flinkEnable link cfg => decide (link < 320) && word cfg
  | .flinkDisable link cfg => decide (link < 320) && word cfg
  | .flinkForceOut link _ => decide (link < 320)
  | .flinkWtrExpire link => decide (link < 320)
  | .trainFailTimeout link => decide (link < 320)
  | .traceSelRead page sel => decide (page < 8192) && word sel
  | .traceSelWrite page sel => decide (page < 8192) && word sel
  | .sprayCopyActive => true
  | .pendDataAccess write => write.all word
  | .sprayInstallGo => true
  | .sprayInstallApply => true
  | .mcastGroupRead sel => word sel
  | .mcastGroupWrite sel => word sel
  | .mcastRecordRead sel => word sel
  | .mcastRecordWrite sel => word sel
  | .walkDrainSet => true
  | .walkDrainDone => true
  | .chanCreate _ => true
  | .chanModify _ => true
  | .chanDestroy _ => true
  | .chanDestroyDrained index => decide (index < 65536)
  | .destroyTimeout index => decide (index < 65536)
  | .chanQuery _ => true
  | .tmPortDown port => decide (port < 257)
  | .portHoldExpire port => decide (port < 257)
  | .tmPortUp port => decide (port < 257)
  | .qprofRead sel => word sel
  | .qprofWrite sel => word sel
  | .queueStatsLoad sel => word sel
  | .nodeRead sel => word sel
  | .nodeWrite sel => word sel
  | .clsprofRead sel => word sel
  | .clsprofWrite sel => word sel
  | .shprofRead sel => word sel
  | .shprofWrite sel => word sel
  | .shaperLoad sel => word sel
  | .calendarFineSlot => true
  | .calendarCoarseSlot => true
  | .pprofRead sel => word sel
  | .pprofWrite sel => word sel
  | .policerRead sel => word sel
  | .policerWrite sel => word sel
  | .gateEntryRead sel => word sel
  | .gateEntryWrite sel => word sel
  | .gateEn v => word v
  | .gateSwitchRequest v => word v
  | .gateAbort v => word v
  | .gateSwitchApply port => decide (port < 257)
  | .gateEntryChange port => decide (port < 257)
  | .depthSample => true
  | .sampleNWrite v => word v
  | .recordRingEnable _ ctrl => word ctrl
  | .recordRingHeadWrite _ v => word v
  | .dmcTrainingDone ctl _ => decide (ctl < 16)
  | .dmcTrainTimeout ctl => decide (ctl < 16)
  | .ddrEnable => true
  | .ddrDisable => true
  | .wckRealign ctl chan => decide (ctl < 16) && decide (chan < 4)
  | .dmcActivate ctl chan => decide (ctl < 16) && decide (chan < 4)
  | .refreshInterval ctl => decide (ctl < 16)
  | .dmcTempRead ctl _ _ => decide (ctl < 16)
  | .actTableClear => true
  | .throttleExpire bank _ => decide (bank < 1024)
  | .freqGo => true
  | .freqChangeDone ctl _ _ => decide (ctl < 16)
  | .freqStepTimeout ctl _ => decide (ctl < 16)
  | .dmcAccessComplete _ _ _ => true
  | .counterWriteback queue => decide (queue < 524288)
  | .memWindowRead => true
  | .memWindowWrite => true
  | .counterExport => true
  | .counterExportDone bad => bad.all (fun q => decide (q < 524288))
  | .feRecordForward _ => true
  | .squallWindowEnd => true
  | .logExport _ _ => true
  | .heartbeat => true
  | .hbHoldWrite ms => word ms
  | .heartbeatGap => true
  | .aliveRestart => true
  | .aliveStop => true
  | .bridgeLaneInterval bundle _ _ => decide (bundle < 128)
  | .bridgeWordUncorrectable bundle _ => decide (bundle < 128)
  | .bridgeDown bundle => decide (bundle < 128)
  | .summaryCountLoad sel => word sel
  | .freezeWrite v => word v
  | .freezeApply => true
  | .snapshot _ => true
  | .snapshotLatch => true
  | .snapshotCopyDone => true
  | .traceSeedWrite seed => word seed
  | .traceExport _ _ => true
  | .attestQuote _ => true
  | .addOwner _ _ copies => decide (copies ≤ 3)
  | .revokeOwner _ _ copies => decide (copies ≤ 3)
  | .lifecycle _ _ copies => decide (copies ≤ 3)
  | .advanceSvn _ _ copies => decide (copies ≤ 3)
  | .ownerOnly _ _ copies => decide (copies ≤ 3)
  | .bootRetry => true
  | .jtagIdcode => true
  | .jtagBypass code => decide (code < 256)
  | .secChallenge => true
  | .secResponse resp => decide (resp.length = 104)
  | .secStatus => true
  | .samplePreload _ _ => true
  | .extest _ _ => true
  | .jtagRegRead off => decide (off < 2 ^ 32)
  | .jtagRegWrite off data => decide (off < 2 ^ 32) && word data
  | .memAccess _ write => write.all word
  | .mcDebug _ => true
  | .jtagTapReset => true
  | .debugUnlockExpire => true
  | .debugRelock => true
  | .unlockLockoutExpire => true
  | .pllUnlock _ => true
  | .refclkLoss => true
  | .aonOscCheck _ => true
  | .cycleCheckMarker _ => true
  | .timeStepWrite => true
  | .timeOffsetWrite => true
  | .addendWrite v => word v
  | .timeAdjustApply => true
  | .ppsOutEdge => true
  | .ppsInEdge _ => true
  | .ppsInMissing => true
  | .ppsCapAck => true
  | .todTxSend => true
  | .todRxMessage _ _ => true
  | .todRxAck => true
  | .powerRequest target => decide (target < 4)
  | .entrySafePoint => true
  | .doldrumsDrainExpire => true
  | .doldrumsSample _ _ => true
  | .wakeNRelease => true
  | .mgmtAddressMatch => true
  | .mgmtStatus => true
  | .mgmtPowerReq target _ => decide (target < 256)
  | .mgmtClear v _ => decide (v < 256)
  | .mgmtRegAddr off _ => decide (off < 2 ^ 32)
  | .mgmtRegRead => true
  | .mgmtRegWrite data _ => word data
  | .mgmtTimeout => true
  | .wakeStepDone => true
  | .wakeStepTimeout _ => true
  | .pwrGoodFall => true
  | .aonBrownout => true
  | .por => true
  | .chipReset _ => true
  | .resetReq v => word v
  | .mcReset => true
  | .helriReady => true
  | .fwStage => true
  | .fwStageDone _ _ => true
  | .fwSwitch => true
  | .fwConfirm => true
  | .fwTrialTimeout => true
  | .avsEnable => true
  | .avsPeriod _ _ => true
  | .tempWarn _ _ => true
  | .thermTrip _ _ _ => true
  | .lifeRecordUpdate _ _ => true
  | .pcieLinkDown => true
  | .porNRelease => true
  | .sysRstNRelease => true
  | .ppsOutPulseEnd => true
  | .wakeRetry => true

end Sys2Proof
end

