-- ==== Sys2Proof/Tests/Slice0.lean ====
section
/-! SUPPORT. Tests: for every statement with hypotheses, concrete states and operands that meet the hypotheses of each of its clauses
(theorems witness_…); the worked examples of the spec (test_…), the expected values taken from the spec's text; and an ill-formed command
for each check of well-formedness. -/

open Sys2Proof.Machine

set_option Elab.async false
set_option maxRecDepth 100000

namespace Sys2Proof.Machine

def State.sets (s : State) (l : List (Fld × Nat)) : State := l.foldl (fun s e => s.wf e.1 e.2) s

def State.put (s : State) (c : Cmd) : State := { s with hc := { s.hc with cmds := s.hc.cmds ++ [c], nextId := 9 } }

def State.pkt (s : State) (p : Pkt) : State := { s with pkts := s.pkts ++ [p], nextPkt := 9 }

end Sys2Proof.Machine

namespace Sys2Proof.Tests

def openHdr (P : Nat) : PageHdr := { resetHdr P with enable := true, inReset := false }

/-- The pages of both dies. -/
def openPages : List Nat := List.range 128 ++ (List.range 128).map (4096 + ·)

/-- Both dies run, every page is open, the bridge and the PCI Express link are up, the epoch machine is idle. -/
def up : State :=
  let s : State := { State.reset with
    hdrs := openPages.map (fun P => (P, openHdr P)), pw := { Power.por with rst := 0, wake := 0, left := 0, pwrEn := true }, timeRun := true,
    cycle := 4000, time := 5 * secUnits,
    hc := { State.reset.hc with bme := true, pci := { State.reset.hc.pci with memEn := true } },
    bankA := { Bank.empty with present := true, depthI := 100, depthE := 50 },
    bankB := { Bank.empty with present := true, depthI := 100, depthE := 50 } }
  s.sets [(FE_CLK.STATUS.ROOT_LOCK, 1), (TM_CLK.STATUS.ROOT_LOCK, 1), (TM_FAULT.STATUS.BRIDGE_UP, 1), (TM_PCIE.LINK_STATUS.LINK_UP, 1),
   (TM_EPOCH.STATE.STATE, 1), (TM_MC.STATUS.INIT_STAGE, 3)]

def shut (s : State) (P : Nat) : State := s.updHdr P (fun h => { h with inReset := true })

/-- A fetched command of ring 0 with an opcode and fields of its record. -/
def cmdOf (op : Nat) (args : List (Nat × Nat)) (ring : Option Nat := some 0) (phase : CmdPhase := .fetched) : Cmd :=
  ⟨1, ring, 0x1000, BitVec.ofNat 512 (args.foldl (fun a e => a + e.2 * 2 ^ e.1) op), phase, 0, 0, 0, 0, [], 0, false, false, none⟩

/-- `up` with such a command in flight. -/
def cu (op : Nat) (args : List (Nat × Nat)) : State := up.put (cmdOf op args)

def pkt : Pkt where
  id := 1
  loc := .input 0
  md := 0
  data := List.replicate 100 7
  bad := false
  whole := true
  begun := false
  dieUnits := 0
  ddr := []
  times := []
  since := 10
  inj := none
  fail := 0
  vrf := 0
  egr := false
  src := 0
  due := 0
  stream := 0
  dest := 0
  share := 0
  hold := false
  ts := 0
  passed := false

def mkHdr (first : Bytes) : Bytes := first ++ toBe 2 (crc16 first)

def tIdx : Tbl := ⟨9, 0, 0, 0, 0, 1, false, false, 255, 0, ⟨0, 1, 0, 64⟩, ⟨1, 1, 0, 64⟩, 0, 1, 64, 0, 1, 64, false, 0, 1, 64⟩
def tBig : Tbl := ⟨11, 0, 0, 0, 0, 4, false, false, 255, 0, ⟨2, 2, 0, 64⟩, ⟨0, 0, 0, 0⟩, 0, 1, 64, 0, 1, 64, false, 0, 1, 64⟩
def tMac : Tbl := ⟨10, 0, 1, 2, 0, 2, true, false, 20, 512, ⟨4, 1, 0, 64⟩, ⟨5, 1, 0, 64⟩, 0, 1, 64, 0, 1, 64, false, 0, 1, 64⟩

/-- An overhead with an MFI, scrambled as it comes in: eight bytes of FAW, MFI and its complement, and a valid CRC-32. -/
def ohOf (mfi : Nat) : Bytes :=
  let b : Bytes := List.replicate 8 0 ++ [BitVec.ofNat 8 mfi, BitVec.ofNat 8 (255 - mfi)] ++ List.replicate 50 0
  let c := b ++ toLe 4 (crc32 b)
  c.take 8 ++ scramble 8 (c.drop 8)

/-- The windows' data registers hold more than their widths, as no run leaves them. -/
def wild (s : State) : State :=
  [TM_MCAST.GROUP_DATA.DATA, TM_MCAST.REC_DATA.DATA, TM_QUEUE.QPROF_DATA.DATA, TM_SCHED.CLSPROF_DATA.DATA, TM_SHAPE.SHPROF_DATA.DATA,
   TM_POLICE.PPROF_DATA.DATA, TM_POLICE.POL_DATA0.PROFILE, TM_POLICE.POL_DATA1.TC, TM_POLICE.POL_DATA2.TE, TM_POLICE.POL_DATA3.GREEN,
   TM_POLICE.POL_DATA4.YELLOW, TM_POLICE.POL_DATA5.RED, TM_GATE.GATE_DATA.DATA, FE_PROT.DATA.DATA, TM_FLINK.TRACE_DATA.DATA,
   TM_SCHED.NODE_DATA0.PARENT, TM_SCHED.NODE_DATA0.PRIO, TM_SCHED.NODE_DATA0.WEIGHT, TM_SCHED.NODE_DATA1.SHPROF,
   TM_SCHED.NODE_DATA1.CLS_PROF, TM_GATE.GATE_SEL.PORT, TM_EPOCH.STATE.ROLLBACK, TM_SPRAY.PEND_ADDR.WORD, TM_HCMD.DCMD.WORD,
   FE_TCMD.HOLD.TABLE, FE_TCMD.HOLD.ENABLE, FE_AGE.NOW.TICKS].foldl (fun s f => (List.range 16).foldl (fun (s : State) i =>
     { s with regs := SMap.put (f.resetAt i) s.regs (f.key 0 i) (2 ^ 70 + 2 ^ 33 + 0xFFFF1234 + i * 2 ^ 20) }) s) s

/-- The command in flight with the identity 1, the deadline of a timer, and the packet first at a place. -/
def theCmd (s : State) : Cmd := (s.cmd 1).getD (cmdOf 0 [])
def theTime (s : State) (k : TimerKind) (i : Nat) : Nat := (s.timerAt k i).getD 0
def theHead (s : State) (l : Loc) : Pkt := (s.headAt l).getD pkt

end Sys2Proof.Tests

namespace Sys2Proof.Machine

open Sys2Proof.Tests

/-- A state whose layout has an index table, one of 64-byte entries and a MAC table. -/
def State.tbl (s : State) : State :=
  { s with bankA := { s.bankA with tbls := [tIdx, tMac, tBig] }, bankB := { s.bankB with tbls := [tIdx, tMac, tBig] } }

end Sys2Proof.Machine

namespace Sys2Proof.Tests

/-! ### Witnesses: the hypotheses of each statement's clauses are met together -/

def pageHeaderCommands1 : State := up.wfp TM_DMC.CFG.DENSITY 0 0 1
theorem witness_page_header_commands :
    (up.headerOpen 72 = true ∧ (72 < 4136 ∨ 4146 ≤ 72 ∧ 72 < 4160 ∨ 4176 ≤ 72)) ∧
    up.headerOpen 4137 = true ∧
    (pageHeaderCommands1.headerOpen 4160 = true ∧ pageHeaderCommands1.blockOpen 4160 = true ∧
      pageHeaderCommands1.dmcState (4160 - 4160) = dmcOff ∧ pageHeaderCommands1.density (4160 - 4160) ≠ 0) ∧
    (up.headerOpen 4160 = true ∧ (up.blockOpen 4160 = false ∨ up.dmcState (4160 - 4160) ≠ dmcOff ∨ up.density (4160 - 4160) = 0)) := by
  refine ⟨?_, ?_, ?_, ?_⟩ <;> decide +kernel

theorem witness_event_force :
    up.headerOpen 1 = true ∧ (∃ n < 32, bit 1 n = true ∧ srcImplemented 1 n = true) := by decide +kernel

def blockResetCommands1 : State := { up with acts := [⟨false, 72, true, 5000⟩], timers := [⟨.blockReset, 72, 6000⟩] }
theorem witness_block_reset_commands :
    (up.headerOpen 72 = true ∧ softResetDiscarded 72 = false ∧ up.inReset 72 = false ∧ (∀ a ∈ up.acts, a.page = 72 → a.fence = true)) ∧
    (blockResetCommands1.headerOpen 72 = true ∧ (softResetDiscarded 72 = true ∨ blockResetCommands1.inReset 72 = true ∨
      ∃ a ∈ blockResetCommands1.acts, a.page = 72 ∧ a.fence = false)) ∧
    (blockResetCommands1.dieOn 72 = true ∧ (List.find? (fun (a : PendAct) => decide (a.page = 72)) blockResetCommands1.acts).isSome = true ∧
      (Option.get (List.find? (fun (a : PendAct) => decide (a.page = 72)) blockResetCommands1.acts) (by decide +kernel)).admitted = true) ∧
    (blockResetCommands1.dieOn 72 = true ∧ (¬(4160 ≤ 72 ∧ 72 < 4176 ∧ blockResetCommands1.dmcState (72 - 4160) = dmcTraining)) ∧
      (blockResetCommands1.timerAt .blockReset 72).isSome = true) := by
  refine ⟨?_, ?_, ?_, ?_⟩ <;> decide +kernel

theorem witness_register_writes :
    up.headerOpen 4104 = true ∧ up.blockOpen 4104 = true ∧ 260 % 4 = 0 ∧ 3 < 2 ^ 32 ∧ pagePlaces 4104 260 ≠ [] ∧ (up.hdr 4104).lock = false ∧
      up.bankInUse = false ∧ (4104 < 4096 → up.log.accessBad = none) ∧ (¬(4104 = 4149 ∧ (260 = 256 ∨ 260 = 260))) ∧ (¬(4104 = 4150 ∧
      260 = 264)) ∧ (up.hostAccess Agent.host 4104).actWrite Agent.host 4104 260 3 = none := by decide +kernel

theorem witness_register_stores :
    up.headerOpen 4108 = true ∧ up.blockOpen 4108 = true ∧ plainPage 4108 = true ∧ 256 % 4 = 0 ∧ 3 < 2 ^ 32 ∧ pagePlaces 4108 256 ≠ [] ∧
      (up.hdr 4108).lock = false ∧ up.bankInUse = false ∧ (4108 < 4096 → up.log.accessBad = none) := by decide +kernel

def accessTypes2 : State := up.wf TM_EPOCH.STATE.STATE 6
theorem witness_access_types :
    (TM_MGMT.CFG.PEC_REQ.w ≤ 32 ∧ (TM_MGMT.CFG.PEC_REQ.acc = Access.rw ∨ TM_MGMT.CFG.PEC_REQ.acc = Access.rwl)) ∧
    (TM_PWR.STATE.WAKE_FAIL.w ≤ 32 ∧ TM_PWR.STATE.WAKE_FAIL.acc = Access.w1c ∧
      up.rfp TM_PWR.STATE.WAKE_FAIL (4108 - pageBase 4108) 0 < 2 ^ TM_PWR.STATE.WAKE_FAIL.w) ∧
    (TM_MCAST.WALK_DRAIN.DRAIN.w ≤ 32 ∧ TM_MCAST.WALK_DRAIN.DRAIN.acc = Access.w1s ∧
      up.rfp TM_MCAST.WALK_DRAIN.DRAIN (4108 - pageBase 4108) 0 < 2 ^ TM_MCAST.WALK_DRAIN.DRAIN.w) ∧
    (TM_PWR.STATE.STATE.w ≤ 32 ∧ (TM_PWR.STATE.STATE.acc = Access.ro ∨ TM_PWR.STATE.STATE.acc = Access.wo)) ∧
    (TM_REORD.WINDOW_EXP.NS.w ≤ 32 ∧ TM_REORD.WINDOW_EXP.NS.acc = Access.rwe ∧ up.bankInUse = false) ∧
    (TM_REORD.WINDOW_EXP.NS.w ≤ 32 ∧ TM_REORD.WINDOW_EXP.NS.acc = Access.rwe ∧ accessTypes2.bankInUse = true) ∧
    (TM_MGMT.CFG.PEC_REQ.w ≤ 32 ∧ TM_MGMT.CFG.REG_EN.key 0 0 ≠ TM_MGMT.CFG.PEC_REQ.key (4108 - pageBase 4108) 0 ∧
      TM_MGMT.CFG.REG_EN.key 0 0 ≠ TM_MGMT.CFG.PEC_REQ.key 0 0) := by
  refine ⟨?_, ?_, ?_, ?_, ?_, ?_, ?_⟩ <;> decide +kernel

def accessErrors1 : State := shut up 72
theorem witness_access_errors :
    (up.tmOn = true ∧ up.dieOn 72 = true ∧ up.reachable 72 = true ∧ 256 % 4 = 0 ∧ 5 < 2 ^ 32 ∧ (72 < 4096 → up.log.accessBad = none) ∧
      pageAssigned 72 = true ∧ 5 < 2 ^ 16) ∧
    (up.tmOn = true ∧ up.dieOn 72 = true ∧ up.reachable 72 = true ∧ 132 % 4 = 0 ∧ 5 < 2 ^ 32 ∧ (72 < 4096 → up.log.accessBad = none) ∧
      pageAssigned 72 = true) ∧
    (up.tmOn = true ∧ up.dieOn 4108 = true ∧ up.reachable 4108 = true ∧ 4092 % 4 = 0 ∧ 5 < 2 ^ 32 ∧ (4108 < 4096 → up.log.accessBad = none) ∧
      pageAssigned 4108 = true ∧ up.blockOpen 4108 = true ∧ pagePlaces 4108 4092 = []) ∧
    (accessErrors1.tmOn = true ∧ accessErrors1.dieOn 72 = true ∧ accessErrors1.reachable 72 = true ∧ 256 % 4 = 0 ∧ 5 < 2 ^ 32 ∧
      (72 < 4096 → accessErrors1.log.accessBad = none) ∧ pageAssigned 72 = true ∧ accessErrors1.blockOpen 72 = false) ∧
    (up.tmOn = true ∧ up.dieOn 5000 = true ∧ up.reachable 5000 = true ∧ 256 % 4 = 0 ∧ 5 < 2 ^ 32 ∧ (5000 < 4096 → up.log.accessBad = none) ∧
      pageAssigned 5000 = false) := by
  refine ⟨?_, ?_, ?_, ?_, ?_⟩ <;> decide +kernel

theorem witness_counter_reads :
    (up.tmOn = true ∧ up.headerOpen 16 = true ∧ up.blockOpen 16 = true ∧ 1024 % 4 = 0 ∧ (16 < 4096 → up.log.accessBad = none) ∧
      pagePlaces 16 1024 = [{ fld := FE_PG.CNT.RX_FRAMES, idx := 0, lo := 0, hi := false : Place }] ∧ FE_PG.CNT.RX_FRAMES.lat = true ∧
      FE_PG.CNT.RX_FRAMES.w = 64 ∧ FE_PG.CNT.RX_FRAMES.acc = Access.ro ∧
      (up.hostAccess Agent.host 16).derivedFe FE_PG.CNT.RX_FRAMES (16 - pageBase 16) 0 = none ∧
      (up.hostAccess Agent.host 16).derivedTm FE_PG.CNT.RX_FRAMES (16 - pageBase 16) 0 = none) ∧
    (up.tmOn = true ∧ up.blockOpen 4156 = true) ∧
    (up.tmOn = true ∧ up.blockOpen 4148 = true) ∧
    (up.tmOn = true ∧ up.feOn = true ∧ up.blockOpen 77 = true ∧ up.log.accessBad = none) ∧
    (up.tmOn = true ∧ up.blockOpen 4178 = true) := by
  refine ⟨?_, ?_, ?_, ?_, ?_⟩ <;> decide +kernel

def otherSpaces1 : State := { up with hc := { up.hc with pci := { up.hc.pci with boardRead := true } } }
theorem witness_other_spaces :
    (up.tmOn = true ∧ 557312 < 2 ^ 20 ∧ 557312 % 4 = 0 ∧ 5 < 2 ^ 32) ∧
    (otherSpaces1.tmOn = true ∧ otherSpaces1.cfgServes = true) ∧
    (up.tmOn = true ∧ up.cfgServes = false) := by
  refine ⟨?_, ?_, ?_⟩ <;> decide +kernel

def mgmtRegisters0 : State := shut up 4102
def mgmtRegisters2 : State := up.wf TM_MGMT.CFG.PEC_REQ 1
theorem witness_mgmt_registers :
    (mgmtRegisters0.pw.rst = 0 ∧ mgmtRegisters0.mgmtServes = false) ∧
    (up.pw.rst = 0 ∧ up.mgmtServes = true ∧ (up.rfb TM_MGMT.CFG.PEC_REQ = false ∨ false = true)) ∧
    (mgmtRegisters2.pw.rst = 0 ∧ mgmtRegisters2.mgmtServes = true ∧ mgmtRegisters2.rfb TM_MGMT.CFG.PEC_REQ = true) := by
  refine ⟨?_, ?_, ?_⟩ <;> decide +kernel

theorem witness_host_link :
    up.phyOn = true ∧ 4 ∈ [1, 2, 4, 8, 16] := by decide +kernel

theorem witness_interrupts :
    up.phyOn = true ∧
    up.tmOn = true := by
  refine ⟨?_, ?_⟩ <;> decide +kernel

def causeFires1 : State := up.wfi TM_MSIX.CAUSE_MAP.ENABLE 0 1
def causeFires2 : State := { up with irq := { up.irq with enable := true, vecs := [(0, ⟨0, 0, false, false⟩)] } }.wfi TM_MSIX.CAUSE_MAP.ENABLE 0 1
def causeFires3 : State := { up with timers := [⟨.coal, 0, 5000⟩] }
theorem witness_cause_fires :
    ((up.rfi TM_MSIX.CAUSE_MAP.ENABLE 0 = 0 ∨ up.rfi TM_MSIX.CAUSE_MAP.PEND 0 = 1)) ∧
    (causeFires2.rfi TM_MSIX.CAUSE_MAP.ENABLE 0 ≠ 0 ∧ causeFires2.rfi TM_MSIX.CAUSE_MAP.PEND 0 ≠ 1 ∧
      causeFires2.irqBlocked (causeFires2.rfi TM_MSIX.CAUSE_MAP.VECTOR 0) = false) ∧
    (causeFires1.rfi TM_MSIX.CAUSE_MAP.ENABLE 0 ≠ 0 ∧ causeFires1.rfi TM_MSIX.CAUSE_MAP.PEND 0 ≠ 1 ∧
      causeFires1.irqBlocked (causeFires1.rfi TM_MSIX.CAUSE_MAP.VECTOR 0) = true) ∧
    (causeFires3.tmOn = true ∧ (causeFires3.timerAt .coal 0).isSome = true) := by
  refine ⟨?_, ?_, ?_, ?_⟩ <;> decide +kernel

theorem witness_doorbells :
    (up.tmOn = true ∧ up.inReset 4105 = false ∧ 0 % 2 ^ 16 < 2 ^ up.rfi TM_HCMD.RING_CTRL.LOG2_SIZE 1) ∧
    (up.tmOn = true ∧ up.inReset 4105 = false ∧ (¬70 % 2 ^ 16 < 2 ^ up.rfi TM_HCMD.RING_CTRL.LOG2_SIZE 1)) ∧
    (up.tmOn = true ∧ up.inReset 4105 = false ∧ headOk (up.ringSize 1) (up.cqHead 1) (up.rfi TM_HCMD.CQ_STATUS.CQ_TAIL 1) (0 % 2 ^ 16) = true) ∧
    (up.tmOn = true ∧ up.inReset 4105 = false ∧ headOk (up.ringSize 1) (up.cqHead 1) (up.rfi TM_HCMD.CQ_STATUS.CQ_TAIL 1) (70 % 2 ^ 16) = false) ∧
    (up.tmOn = true ∧ up.inReset 4106 = false ∧ 0 % 2 ^ 16 < 2 ^ up.rfi TM_HPKT.PUNT_CTRL.LOG2_SIZE 1) ∧
    (up.tmOn = true ∧ up.inReset 4106 = false ∧ (¬70 % 2 ^ 16 < 2 ^ up.rfi TM_HPKT.PUNT_CTRL.LOG2_SIZE 1)) ∧
    (up.tmOn = true ∧ up.inReset 4106 = false ∧ 0 % 2 ^ 16 < 2 ^ up.rfi TM_HPKT.INJ_CTRL.LOG2_SIZE 1) ∧
    (up.tmOn = true ∧ up.inReset 4106 = false ∧ (¬70 % 2 ^ 16 < 2 ^ up.rfi TM_HPKT.INJ_CTRL.LOG2_SIZE 1)) := by
  refine ⟨?_, ?_, ?_, ?_, ?_, ?_, ?_, ?_⟩ <;> decide +kernel

theorem witness_ring_control :
    (up.tmOn = true ∧ up.blockOpen 4105 = true ∧ up.ringActive 3 = false ∧ 6 ≤ bits 65542 0 4 ∧ bits 65542 0 4 ≤ 12 ∧ 1 ≤ bits 65542 8 12 ∧
      bits 65542 8 12 ≤ 2048) ∧
    (up.tmOn = true ∧ up.blockOpen 4105 = true ∧ (up.ringActive 3 = true ∨ bits 65552 0 4 < 6 ∨ 12 < bits 65552 0 4 ∨ bits 65552 8 12 = 0 ∨
      2048 < bits 65552 8 12)) ∧
    (up.tmOn = true ∧ up.blockOpen 4106 = true ∧ (up.rfi TM_HPKT.PUNT_CTRL.ENABLE 3 = 1 ∨ bits 65552 0 4 < 6 ∨ 12 < bits 65552 0 4)) ∧
    (up.tmOn = true ∧ up.blockOpen 4106 = true ∧ (up.rfi TM_HPKT.INJ_CTRL.ENABLE 3 = 1 ∨ up.injInflight 3 = true ∨ bits 65552 0 4 < 6 ∨
      12 < bits 65552 0 4)) ∧
    (up.tmOn = true ∧ up.blockOpen 4106 = true ∧ up.rfi TM_HPKT.PUNT_CTRL.ENABLE 3 ≠ 1 ∧ 6 ≤ bits 65542 0 4 ∧ bits 65542 0 4 ≤ 12) ∧
    (up.tmOn = true ∧ up.blockOpen 4106 = true ∧ up.rfi TM_HPKT.INJ_CTRL.ENABLE 3 ≠ 1 ∧ up.injInflight 3 = false ∧ 6 ≤ bits 65542 0 4 ∧
      bits 65542 0 4 ≤ 12) ∧
    (up.tmOn = true ∧ up.blockOpen 4105 = true ∧ (up.ringActive 3 = true → bits 65542 0 4 = up.rfi TM_HCMD.RING_CTRL.LOG2_SIZE 3)) ∧
    (up.tmOn = true ∧ up.blockOpen 4106 = true ∧ (up.rfi TM_HPKT.PUNT_CTRL.ENABLE 3 = 1 → bits 65542 0 4 = up.rfi TM_HPKT.PUNT_CTRL.LOG2_SIZE 3)) ∧
    (up.tmOn = true ∧ up.blockOpen 4106 = true ∧ (up.rfi TM_HPKT.INJ_CTRL.ENABLE 3 = 1 ∨
      up.injInflight 3 = true → bits 65542 0 4 = up.rfi TM_HPKT.INJ_CTRL.LOG2_SIZE 3)) := by
  refine ⟨?_, ?_, ?_, ?_, ?_, ?_, ?_, ?_, ?_⟩ <;> decide +kernel

def puntDelivery0 : State := up.pkt { pkt with loc := .hostq 2 }
def puntDelivery1 : State := (((up.pkt { pkt with loc := .hostq 2 }).wfi TM_HPKT.PUNT_CTRL.ENABLE 2 1).wfi TM_HPKT.PUNT_STATUS.HEAD 2 1)
theorem witness_punt_delivery :
    (puntDelivery1.tmOn = true ∧ puntDelivery1.hc.d3hot = false ∧ puntDelivery1.fetchStopped = false ∧ puntDelivery1.operating 4106 = true ∧
      puntDelivery1.headAt (Loc.hostq 2) = some (theHead puntDelivery1 (Loc.hostq 2)) ∧ (theHead puntDelivery1 (Loc.hostq 2)).whole = true ∧
      (theHead puntDelivery1 (Loc.hostq 2)).bad = false ∧ puntDelivery1.rfi TM_HPKT.PUNT_CTRL.ENABLE 2 ≠ 0 ∧
      SMap.get false puntDelivery1.hp.stopped 2 = false ∧ puntDelivery1.rfi TM_HPKT.PUNT_STATUS.HEAD 2 ≠ SMap.get 0 puntDelivery1.hp.puntTail 2 ∧
      puntDelivery1.canPost = true ∧ 256 ≤ leNat (List.take 2 (List.drop 8 [0, 0, 0, 0, 0, 0, 0, 0, 0, 2, 0, 0])) ∧
      leNat (List.take 2 (List.drop 8 [0, 0, 0, 0, 0, 0, 0, 0, 0, 2, 0, 0])) ≤ 16384 ∧
      leNat (List.take 2 (List.drop 8 [0, 0, 0, 0, 0, 0, 0, 0, 0, 2, 0, 0])) % 64 = 0) ∧
    (puntDelivery0.tmOn = true ∧ puntDelivery0.hc.d3hot = false ∧ puntDelivery0.fetchStopped = false ∧ puntDelivery0.operating 4106 = true ∧
      puntDelivery0.headAt (Loc.hostq 2) = some (theHead puntDelivery0 (Loc.hostq 2)) ∧ (theHead puntDelivery0 (Loc.hostq 2)).whole = true ∧
      ((theHead puntDelivery0 (Loc.hostq 2)).bad = true ∨ puntDelivery0.rfi TM_HPKT.PUNT_CTRL.ENABLE 2 = 0 ∨
      SMap.get false puntDelivery0.hp.stopped 2 = true ∨
      puntDelivery0.rfi TM_HPKT.PUNT_STATUS.HEAD 2 = SMap.get 0 puntDelivery0.hp.puntTail 2)) := by
  refine ⟨?_, ?_⟩ <;> decide +kernel

def commandFlow1 : State := { (up.wfi TM_HCMD.RING_CTRL.ENABLE 2 1) with hc := { up.hc with sqTail := [(2, 1)] } }
def commandFlow2 : State := up.put (cmdOf 1 [] (phase := .fetching))
def commandFlow3 : State := up.put (cmdOf 1 [] (phase := .finished))
def commandFlow4 : State := up.put (cmdOf 1 [])
def commandFlow5 : State := up.put (cmdOf 0xEE [])
def commandFlow6 : State := up.wf TM_HCMD.DRES_CTRL.BUSY 1
theorem witness_command_flow :
    (commandFlow1.tmOn = true ∧ commandFlow1.fetchStopped = false ∧ (commandFlow1.fetchTurn).isSome = true) ∧
    (commandFlow2.tmOn = true ∧ commandFlow2.cmd 1 = some (theCmd commandFlow2) ∧ (theCmd commandFlow2).phase = .fetching ∧
      ((theCmd commandFlow2).ring).isSome = true) ∧
    (commandFlow3.tmOn = true ∧ commandFlow3.operating 4105 = true ∧ (commandFlow3.oldestFinished 0).isSome = true ∧
      commandFlow3.cqFull 0 = false ∧ (Option.get (commandFlow3.oldestFinished 0) (by decide +kernel)).byReset = false ∧
      commandFlow3.canPost = true) ∧
    (commandFlow4.tmOn = true ∧ commandFlow4.cmd 1 = some (theCmd commandFlow4) ∧ commandFlow4.mayStart (theCmd commandFlow4) = true ∧
      (theCmd commandFlow4).opcode = 1) ∧
    (commandFlow5.tmOn = true ∧ commandFlow5.cmd 1 = some (theCmd commandFlow5) ∧ commandFlow5.mayStart (theCmd commandFlow5) = true ∧
      opcodeKnown (theCmd commandFlow5).opcode = false) ∧
    (up.tmOn = true ∧ up.blockOpen 4105 = true ∧ up.rfb TM_HCMD.DRES_CTRL.BUSY = false ∧ up.rfb TM_HCMD.DRES_CTRL.VALID = false ∧
      up.inflightAll < 2048) ∧
    (commandFlow6.tmOn = true ∧ commandFlow6.blockOpen 4105 = true ∧
      (commandFlow6.rfb TM_HCMD.DRES_CTRL.BUSY = true ∨ commandFlow6.rfb TM_HCMD.DRES_CTRL.VALID = true ∨ 2048 ≤ commandFlow6.inflightAll)) := by
  refine ⟨?_, ?_, ?_, ?_, ?_, ?_, ?_⟩ <;> decide +kernel

def commandFinishes0 : State := up.put (cmdOf 1 [])
def commandFinishes1 : State := up.put { cmdOf 1 [] with orphan := true }
def commandFinishes2 : State := up.put (cmdOf 1 [] (ring := none))
theorem witness_command_finishes :
    (commandFinishes1.cmd 1 = some (theCmd commandFinishes1) ∧ (theCmd commandFinishes1).orphan = true) ∧
    (commandFinishes0.cmd 1 = some (theCmd commandFinishes0) ∧ (theCmd commandFinishes0).orphan = false ∧
      (theCmd commandFinishes0).ring.isSome = true) ∧
    (commandFinishes2.cmd 1 = some (theCmd commandFinishes2) ∧ (theCmd commandFinishes2).orphan = false ∧
      (theCmd commandFinishes2).ring = none) := by
  refine ⟨?_, ?_, ?_⟩ <;> decide +kernel

def epochCommands0 : State := (cu 0x30 [(64, 1), (192, 4096)])
def epochCommands1 : State := (cu 0x30 [(64, 2), (192, 128)])
def epochCommands2 : State := (cu 0x31 []).wf TM_EPOCH.STATE.STATE 3
def epochCommands4 : State := (cu 0x31 [])
def epochCommands5 : State := (cu 0x31 []).wf TM_EPOCH.STATE.STATE 6
def epochCommands6 : State := cu 0x32 []
def epochCommands7 : State := (cu 0x32 []).wf TM_EPOCH.STATE.STATE 3
def epochCommands9 : State := (cu 0x32 []).wf TM_EPOCH.STATE.STATE 6
def epochCommands10 : State := (cu 0x32 [(128, 1)]).wf TM_EPOCH.STATE.STATE 6
def epochCommands11 : State := (cu 0x32 [(128, 1)]).wf TM_EPOCH.STATE.STATE 3
def epochCommands12 : State := { cu 0x30 [(64, 2), (192, 128)] with ca := { up.ca with strips := [(0, ⟨[⟨5, 10, none, none, 128, some 1, true, true, false⟩], 0⟩)] } }
def epochCommands13 : State := (cu 0x30 [(64, 2), (192, 128)]).wf TM_EPOCH.STATE.STATE 0
def epochCommands14 : State := { (cu 0x32 []).wf TM_EPOCH.STATE.STATE 2 with ep := { up.ep with stage := some (1, 1) } }
def epochCommands15 : State := { (cu 0x32 [(128, 1)]).wf TM_EPOCH.STATE.STATE 5 with timers := [⟨.flip, 0, 4000⟩], ep := { up.ep with commit := some (7, false) } }
def epochCommands17 : State := { (cu 0x32 [(128,0)]).wf TM_EPOCH.STATE.STATE 5 with timers := [⟨.flip, 0, 5000⟩], ep := { up.ep with commit := some (1, false) } }
theorem witness_epoch_commands :
    (epochCommands0.tmOn = true ∧ epochCommands0.cmd 1 = some (theCmd epochCommands0) ∧ epochCommands0.mayStart (theCmd epochCommands0) = true ∧
      epochCommands0.ep.remirror = false ∧ epochCommands0.epochState ≠ esRetiring ∧ (theCmd epochCommands0).opcode = 48 ∧
      (theCmd epochCommands0).bits 64 4 = 1 ∧ epochCommands0.ep.stage = none ∧
      (epochCommands0.epochState = esNoEpoch ∨ epochCommands0.epochState = esIdle) ∧ (theCmd epochCommands0).bits 192 32 ≠ 0) ∧
    (epochCommands12.tmOn = true ∧ epochCommands12.cmd 1 = some (theCmd epochCommands12) ∧
      epochCommands12.mayStart (theCmd epochCommands12) = true ∧ epochCommands12.ep.remirror = false ∧ epochCommands12.epochState ≠ esRetiring ∧
      (theCmd epochCommands12).opcode = 48 ∧ (theCmd epochCommands12).bits 64 4 = 2 ∧
      (epochCommands12.epochState = esIdle ∨ epochCommands12.epochState = esStaged) ∧ (theCmd epochCommands12).bits 192 32 ≠ 0 ∧
      (theCmd epochCommands12).bits 192 32 % 64 = 0 ∧ epochCommands12.loaderHeld = true) ∧
    (epochCommands1.tmOn = true ∧ epochCommands1.cmd 1 = some (theCmd epochCommands1) ∧ epochCommands1.mayStart (theCmd epochCommands1) = true ∧
      epochCommands1.ep.remirror = false ∧ epochCommands1.epochState ≠ esRetiring ∧ (theCmd epochCommands1).opcode = 48 ∧
      (theCmd epochCommands1).bits 64 4 = 2 ∧ (epochCommands1.epochState = esIdle ∨ epochCommands1.epochState = esStaged) ∧
      (theCmd epochCommands1).bits 192 32 ≠ 0 ∧ (theCmd epochCommands1).bits 192 32 % 64 = 0 ∧ epochCommands1.loaderHeld = false) ∧
    (epochCommands13.tmOn = true ∧ epochCommands13.cmd 1 = some (theCmd epochCommands13) ∧
      epochCommands13.mayStart (theCmd epochCommands13) = true ∧ epochCommands13.ep.remirror = false ∧ epochCommands13.epochState ≠ esRetiring ∧
      (theCmd epochCommands13).opcode = 48 ∧ (theCmd epochCommands13).bits 64 4 = 2 ∧ epochCommands13.epochState = esNoEpoch) ∧
    (epochCommands2.tmOn = true ∧ epochCommands2.cmd 1 = some (theCmd epochCommands2) ∧ epochCommands2.mayStart (theCmd epochCommands2) = true ∧
      epochCommands2.ep.remirror = false ∧ epochCommands2.epochState ≠ esRetiring ∧ (theCmd epochCommands2).opcode = 49 ∧
      epochCommands2.epochState = esStaged ∧ epochCommands2.commitLocked = none ∧
      ((theCmd epochCommands2).bits 224 32 = 0 ∨ (theCmd epochCommands2).bits 224 32 = epochCommands2.rf TM_EPOCH.EPOCH_SEQ.SEQ) ∧
      ((theCmd epochCommands2).bits 160 48 * 1000000000 + (theCmd epochCommands2).bits 128 32) * 2 ^ 32 ≤ epochCommands2.time + 10 * secUnits) ∧
    (epochCommands4.tmOn = true ∧ epochCommands4.cmd 1 = some (theCmd epochCommands4) ∧ epochCommands4.mayStart (theCmd epochCommands4) = true ∧
      epochCommands4.ep.remirror = false ∧ epochCommands4.epochState ≠ esRetiring ∧ (theCmd epochCommands4).opcode = 49 ∧
      (epochCommands4.epochState = esNoEpoch ∨ epochCommands4.epochState = esIdle)) ∧
    (epochCommands5.tmOn = true ∧ epochCommands5.cmd 1 = some (theCmd epochCommands5) ∧ epochCommands5.mayStart (theCmd epochCommands5) = true ∧
      epochCommands5.ep.remirror = false ∧ epochCommands5.epochState ≠ esRetiring ∧ (theCmd epochCommands5).opcode = 49 ∧
      epochCommands5.epochState ≠ esNoEpoch ∧ epochCommands5.epochState ≠ esIdle ∧ epochCommands5.epochState ≠ esStaged) ∧
    (epochCommands6.tmOn = true ∧ epochCommands6.cmd 1 = some (theCmd epochCommands6) ∧ epochCommands6.mayStart (theCmd epochCommands6) = true ∧
      epochCommands6.ep.remirror = false ∧ epochCommands6.epochState ≠ esRetiring ∧ (theCmd epochCommands6).opcode = 50 ∧
      (theCmd epochCommands6).bits 128 1 = 0 ∧ (epochCommands6.epochState = esNoEpoch ∨ epochCommands6.epochState = esIdle)) ∧
    (epochCommands7.tmOn = true ∧ epochCommands7.cmd 1 = some (theCmd epochCommands7) ∧ epochCommands7.mayStart (theCmd epochCommands7) = true ∧
      epochCommands7.ep.remirror = false ∧ epochCommands7.epochState ≠ esRetiring ∧ (theCmd epochCommands7).opcode = 50 ∧
      (theCmd epochCommands7).bits 128 1 = 0 ∧ (epochCommands7.epochState = esStaged ∨ epochCommands7.epochState = esFailed) ∧
      epochCommands7.ep.stage = none) ∧
    (epochCommands14.tmOn = true ∧ epochCommands14.cmd 1 = some (theCmd epochCommands14) ∧
      epochCommands14.mayStart (theCmd epochCommands14) = true ∧ epochCommands14.ep.remirror = false ∧ epochCommands14.epochState ≠ esRetiring ∧
      (theCmd epochCommands14).opcode = 50 ∧ (theCmd epochCommands14).bits 128 1 = 0 ∧ epochCommands14.epochState = esStaging ∧
      epochCommands14.ep.stage = some (1, 1)) ∧
    (epochCommands17.tmOn = true ∧ epochCommands17.cmd 1 = some (theCmd epochCommands17) ∧
      epochCommands17.mayStart (theCmd epochCommands17) = true ∧ epochCommands17.ep.remirror = false ∧ epochCommands17.epochState ≠ esRetiring ∧
      (theCmd epochCommands17).opcode = 50 ∧ (theCmd epochCommands17).bits 128 1 = 0 ∧ epochCommands17.epochState = esArmed ∧
      (epochCommands17.flipCycle).isSome = true ∧ epochCommands17.cycle < Option.get (epochCommands17.flipCycle) (by decide +kernel) ∧
      epochCommands17.ep.commit = some (1, false)) ∧
    (epochCommands9.tmOn = true ∧ epochCommands9.cmd 1 = some (theCmd epochCommands9) ∧ epochCommands9.mayStart (theCmd epochCommands9) = true ∧
      epochCommands9.ep.remirror = false ∧ epochCommands9.epochState ≠ esRetiring ∧ (theCmd epochCommands9).opcode = 50 ∧
      (theCmd epochCommands9).bits 128 1 = 0 ∧ (epochCommands9.epochState = esDraining ∨ epochCommands9.epochState = esExpired)) ∧
    (epochCommands10.tmOn = true ∧ epochCommands10.cmd 1 = some (theCmd epochCommands10) ∧
      epochCommands10.mayStart (theCmd epochCommands10) = true ∧ epochCommands10.ep.remirror = false ∧ epochCommands10.epochState ≠ esRetiring ∧
      (theCmd epochCommands10).opcode = 50 ∧ (theCmd epochCommands10).bits 128 1 = 1 ∧ epochCommands10.epochState = esDraining ∧
      epochCommands10.ep.rolled = false) ∧
    (epochCommands15.tmOn = true ∧ epochCommands15.cmd 1 = some (theCmd epochCommands15) ∧
      epochCommands15.mayStart (theCmd epochCommands15) = true ∧ epochCommands15.ep.remirror = false ∧ epochCommands15.epochState ≠ esRetiring ∧
      (theCmd epochCommands15).opcode = 50 ∧ (theCmd epochCommands15).bits 128 1 = 1 ∧ (epochCommands15.flipCycle).isSome = true ∧
      Option.get (epochCommands15.flipCycle) (by decide +kernel) ≤ epochCommands15.cycle ∧ epochCommands15.epochFlip.epochState = esDraining ∧
      epochCommands15.epochFlip.ep.rolled = false) ∧
    (epochCommands11.tmOn = true ∧ epochCommands11.cmd 1 = some (theCmd epochCommands11) ∧
      epochCommands11.mayStart (theCmd epochCommands11) = true ∧ epochCommands11.ep.remirror = false ∧ epochCommands11.epochState ≠ esRetiring ∧
      (theCmd epochCommands11).opcode = 50 ∧ (theCmd epochCommands11).bits 128 1 = 1 ∧
      (epochCommands11.epochState ≠ esDraining ∨ epochCommands11.ep.rolled = true) ∧
      (∀ (f : Nat), epochCommands11.flipCycle = some f → epochCommands11.cycle < f)) := by
  refine ⟨?_, ?_, ?_, ?_, ?_, ?_, ?_, ?_, ?_, ?_, ?_, ?_, ?_, ?_, ?_⟩ <;> decide +kernel

def epochTransitions0 : State := { up.wf TM_EPOCH.STATE.STATE 5 with timers := [⟨.flip, 0, 5000⟩], ep := { up.ep with commit := some (7, false) } }
def epochTransitions1 : State := { up.wf TM_EPOCH.STATE.STATE 6 with timers := [⟨.settle, 0, 5000⟩, ⟨.retire, 0, 6000⟩] }
def epochTransitions2 : State := { up.wf TM_EPOCH.STATE.STATE 7 with timers := [⟨.settle, 0, 5000⟩, ⟨.retire, 0, 6000⟩] }
def epochTransitions3 : State := up.wf TM_EPOCH.STATE.STATE 8
def epochTransitions4 : State := { up.wf TM_EPOCH.STATE.STATE 6 with timers := [⟨.flip, 0, 5000⟩], ep := { up.ep with rollbackArmed := true, rollbackCmd := some 7 } }
def epochTransitions5 : State := { up with ep := { up.ep with remirror := true } }
def epochTransitions6 : State := { up with timers := [⟨.depthGap, 0, 5000⟩] }
theorem witness_epoch_transitions :
    (epochTransitions0.tmOn = true ∧ (epochTransitions0.flipCycle).isSome = true) ∧
    (epochTransitions1.tmOn = true ∧ epochTransitions1.epochState = esDraining ∧ epochTransitions1.ep.rollbackArmed = false ∧
      (epochTransitions1.timerAt .settle 0).isSome = true) ∧
    (epochTransitions1.tmOn = true ∧ epochTransitions1.epochState = esDraining ∧ epochTransitions1.ep.rollbackArmed = false ∧
      (epochTransitions1.timerAt .retire 0).isSome = true) ∧
    (epochTransitions2.tmOn = true ∧ epochTransitions2.epochState = esExpired ∧ (epochTransitions2.timerAt .settle 0).isSome = true) ∧
    (epochTransitions3.tmOn = true ∧ epochTransitions3.epochState = esRetiring) ∧
    (epochTransitions4.tmOn = true ∧ epochTransitions4.ep.rollbackArmed = true ∧ (epochTransitions4.timerAt .flip 0).isSome = true ∧
      (epochTransitions4.ep.rollbackCmd).isSome = true) ∧
    (epochTransitions5.tmOn = true ∧ epochTransitions5.ep.remirror = true) ∧
    epochTransitions0.feOn = true ∧
    (epochTransitions6.feOn = true ∧ (epochTransitions6.timerAt .depthGap (b2n false)).isSome = true) := by
  refine ⟨?_, ?_, ?_, ?_, ?_, ?_, ?_, ?_, ?_⟩ <;> decide +kernel

def epochStatus0 : State := cu 0x33 []
def epochStatus1 : State := { up with timers := [⟨.stage, 0, 5000⟩], ep := { up.ep with stage := some (1, 1) } }
theorem witness_epoch_status :
    (epochStatus0.tmOn = true ∧ epochStatus0.cmd 1 = some (theCmd epochStatus0) ∧ epochStatus0.mayStart (theCmd epochStatus0) = true ∧
      (theCmd epochStatus0).opcode = 51) ∧
    (epochStatus1.tmOn = true ∧ (epochStatus1.timerAt .stage 0).isSome = true ∧ epochStatus1.ep.stage = some (1, 1)) := by
  refine ⟨?_, ?_⟩ <;> decide +kernel

theorem witness_flip_registers :
    up.rf TM_EPOCH.EPOCH_SEQ.SEQ < 2 ^ 32 := by decide +kernel

def cellFindings2 : State := up.wfi FE_CELLS.CELL_STATE.STATE 130 3
def cellFindings3 : State := (up.wfi FE_CELLS.CELL_STATE.STATE 130 2)
def cellFindings4 : State := { up.wfi FE_CELLS.CELL_STATE.STATE 130 3 with ca := { up.ca with spoke := [130] } }
theorem witness_cell_findings :
    (up.feOn = true ∧ up.inReset 72 = false ∧ (fenceCause CellFinding.parity).isSome = true ∧ up.cellState 5 = csMapped ∧
      (up.logicalOf 5).isSome = true ∧ up.stripState (5 / 132) = stripRun) ∧
    (up.feOn = true ∧ up.inReset 72 = false ∧ (fenceCause CellFinding.parity).isSome = true ∧
      (up.cellState 130 = csSpare ∨ up.cellState 130 = csTestedOk)) ∧
    (cellFindings2.feOn = true ∧ cellFindings2.inReset 72 = false ∧ (fenceCause CellFinding.parity).isSome = true ∧
      cellFindings2.cellState 130 = csFenced) ∧
    (cellFindings3.feOn = true ∧ cellFindings3.inReset 72 = false ∧ (fenceCause CellFinding.parity).isSome = true ∧
      cellFindings3.cellState 130 = csRebuilding) ∧
    (cellFindings4.feOn = true ∧ cellFindings4.cellState 130 = csFenced ∧ cellFindings4.ca.spoke.contains 130 = true) ∧
    (cellFindings2.feOn = true ∧ cellFindings2.cellState 130 = csFenced ∧ cellFindings2.ca.spoke.contains 130 = false) := by
  refine ⟨?_, ?_, ?_, ?_, ?_, ?_⟩ <;> decide +kernel

def cellCommands0 : State := cu 0x40 [(64, 5), (128, 0xFF)]
def cellCommands2 : State := (cu 0x40 [(64, 5), (128, 0xFF)]).wfi FE_CELLS.CELL_STATE.STATE 5 2
def cellCommands3 : State := ((((cu 0x40 [(64, 5), (128, 0xFF)]).wfi FE_CELLS.CELL_STATE.STATE 128 3).wfi FE_CELLS.CELL_STATE.STATE 129 3).wfi FE_CELLS.CELL_STATE.STATE 130 3).wfi FE_CELLS.CELL_STATE.STATE 131 3
def cellCommands4 : State := (cu 0x42 [(64, 130)])
def cellCommands5 : State := (cu 0x42 [(64, 5)])
def cellCommands6 : State := (cu 0x41 [(64, 130)]).wfi FE_CELLS.CELL_STATE.STATE 130 5
def cellCommands7 : State := (cu 0x41 [(64, 130)]).wfi FE_CELLS.CELL_STATE.STATE 130 3
def cellCommands8 : State := cu 0x41 [(64, 2112)]
theorem witness_cell_commands :
    (cellCommands0.feOn = true ∧ cellCommands0.cmd 1 = some (theCmd cellCommands0) ∧ cellCommands0.mayStart (theCmd cellCommands0) = true ∧
      (theCmd cellCommands0).opcode = 64 ∧ (theCmd cellCommands0).bits 64 11 = 0 * 128 + 5 ∧ cellCommands0.stripState 0 ≠ stripRemap ∧
      cellCommands0.slotStoreLost ((theCmd cellCommands0).bits 64 11) = false ∧ (theCmd cellCommands0).bits 128 8 = 255 ∧
      (cellCommands0.spareFor 0 none).isSome = true ∧ cellCommands0.cellState (cellCommands0.physOf 0 5) = csMapped) ∧
    (cellCommands2.feOn = true ∧ cellCommands2.cmd 1 = some (theCmd cellCommands2) ∧ cellCommands2.mayStart (theCmd cellCommands2) = true ∧
      (theCmd cellCommands2).opcode = 64 ∧ (theCmd cellCommands2).bits 64 11 = 0 * 128 + 5 ∧ cellCommands2.stripState 0 ≠ stripRemap ∧
      cellCommands2.slotStoreLost ((theCmd cellCommands2).bits 64 11) = false ∧ (theCmd cellCommands2).bits 128 8 = 255 ∧
      (cellCommands2.spareFor 0 none).isSome = true ∧ cellCommands2.cellState (cellCommands2.physOf 0 5) ≠ csMapped ∧
      ((cellCommands2.begin 1).updRemap 0 5 fun (m : Remap) => { m with cmd := some 1, want := none, auto := true }).spareFor 0 none = some (Option.get (cellCommands2.spareFor 0 none) (by decide +kernel))) ∧
    (cellCommands3.feOn = true ∧ cellCommands3.cmd 1 = some (theCmd cellCommands3) ∧ cellCommands3.mayStart (theCmd cellCommands3) = true ∧
      (theCmd cellCommands3).opcode = 64 ∧ (theCmd cellCommands3).bits 64 11 = 0 * 128 + 5 ∧ cellCommands3.stripState 0 ≠ stripRemap ∧
      cellCommands3.slotStoreLost ((theCmd cellCommands3).bits 64 11) = false ∧ (theCmd cellCommands3).bits 128 8 = 255 ∧
      cellCommands3.spareFor 0 none = none) ∧
    (cellCommands4.feOn = true ∧ cellCommands4.cmd 1 = some (theCmd cellCommands4) ∧ cellCommands4.mayStart (theCmd cellCommands4) = true ∧
      (theCmd cellCommands4).opcode = 66 ∧ (theCmd cellCommands4).bits 64 12 < 2112 ∧
      (cellCommands4.cellState ((theCmd cellCommands4).bits 64 12) = csFenced ∨
      cellCommands4.cellState ((theCmd cellCommands4).bits 64 12) = csSpare ∨
      cellCommands4.cellState ((theCmd cellCommands4).bits 64 12) = csTestedOk)) ∧
    (cellCommands5.feOn = true ∧ cellCommands5.cmd 1 = some (theCmd cellCommands5) ∧ cellCommands5.mayStart (theCmd cellCommands5) = true ∧
      (theCmd cellCommands5).opcode = 66 ∧ (theCmd cellCommands5).bits 64 12 < 2112 ∧
      (cellCommands5.cellState ((theCmd cellCommands5).bits 64 12) = csMapped ∨
      cellCommands5.cellState ((theCmd cellCommands5).bits 64 12) = csRebuilding ∨
      cellCommands5.cellState ((theCmd cellCommands5).bits 64 12) = csTesting)) ∧
    (cellCommands6.feOn = true ∧ cellCommands6.cmd 1 = some (theCmd cellCommands6) ∧ cellCommands6.mayStart (theCmd cellCommands6) = true ∧
      (theCmd cellCommands6).opcode = 65 ∧ (theCmd cellCommands6).bits 64 12 < 2112 ∧
      cellCommands6.cellState ((theCmd cellCommands6).bits 64 12) = csTestedOk ∧
      cellCommands6.stripState ((theCmd cellCommands6).bits 64 12 / 132) ≠ stripDown) ∧
    (cellCommands7.feOn = true ∧ cellCommands7.cmd 1 = some (theCmd cellCommands7) ∧ cellCommands7.mayStart (theCmd cellCommands7) = true ∧
      (theCmd cellCommands7).opcode = 65 ∧ (theCmd cellCommands7).bits 64 12 < 2112 ∧
      cellCommands7.cellState ((theCmd cellCommands7).bits 64 12) = csFenced) ∧
    (cellCommands8.feOn = true ∧ cellCommands8.cmd 1 = some (theCmd cellCommands8) ∧ cellCommands8.mayStart (theCmd cellCommands8) = true ∧
      ((theCmd cellCommands8).opcode = 65 ∨ (theCmd cellCommands8).opcode = 66) ∧ 2112 ≤ (theCmd cellCommands8).bits 64 12) := by
  refine ⟨?_, ?_, ?_, ?_, ?_, ?_, ?_, ?_⟩ <;> decide +kernel

def cellEngines0 : State := { up with ca := { up.ca with tests := [⟨130, 1, none⟩] }, timers := [⟨.cellTest, 130, 9000⟩] }
def cellEngines1 : State := { up with ca := { up.ca with strips := [(0, ⟨[⟨5, 10, none, none, 128, some 1, true, true, false⟩], 0⟩)] }, timers := [⟨.remap, 0, 9000⟩] }
theorem witness_cell_engines :
    (cellEngines0.feOn = true ∧ (List.find? (fun (t : CellTest) => decide (t.phys = 130)) cellEngines0.ca.tests).isSome = true ∧
      (cellEngines0.timerAt .cellTest 130).isSome = true) ∧
    (cellEngines1.feOn = true ∧ (cellEngines1.timerAt .remap 0).isSome = true ∧ (cellEngines1.remapNow 0).isSome = true ∧
      ((Option.get (cellEngines1.remapNow 0) (by decide +kernel)).src).isSome = true) := by
  refine ⟨?_, ?_⟩ <;> decide +kernel

def frameReceive0 : State := (up.wf FE_PG.PORT_CFG.ENABLE 1).wf FE_PG.PORT_STATUS.LINK_UP 1
def frameReceive1 : State := ((up.wf FE_PG.PORT_CFG.ENABLE 1).wf FE_PG.PORT_STATUS.LINK_UP 1).wf TM_EPOCH.STATE.STATE 0
def frameReceive2 : State := { (up.wf FE_PG.PORT_CFG.ENABLE 1).wf FE_PG.PORT_STATUS.LINK_UP 1 with pkts := List.replicate 9 (pkt.mdSet 16 14 15000) }
theorem witness_frame_receive :
    (frameReceive1.feOn = true ∧ frameReceive1.linkUp 0 = true ∧ 60 ≤ (List.replicate 80 9).length ∧ isMacCtrl (List.replicate 80 9) = false ∧
      (List.replicate 80 9).length + 4 ≤ ((frameReceive1.pgInc FE_PG.CNT.RX_FRAMES 0 1).pgInc FE_PG.CNT.RX_BYTES 0 ((List.replicate 80 9).length + 4)).maxFrame 0 ∧ ((frameReceive1.pgInc FE_PG.CNT.RX_FRAMES 0 1).pgInc FE_PG.CNT.RX_BYTES 0 ((List.replicate 80 9).length + 4)).noEpoch = true) ∧
    (frameReceive0.feOn = true ∧ frameReceive0.linkUp 0 = true ∧ 60 ≤ (List.replicate 80 9).length ∧ isMacCtrl (List.replicate 80 9) = false ∧
      (List.replicate 80 9).length + 4 ≤ ((frameReceive0.pgInc FE_PG.CNT.RX_FRAMES 0 1).pgInc FE_PG.CNT.RX_BYTES 0 ((List.replicate 80 9).length + 4)).maxFrame 0 ∧ ((frameReceive0.pgInc FE_PG.CNT.RX_FRAMES 0 1).pgInc FE_PG.CNT.RX_BYTES 0 ((List.replicate 80 9).length + 4)).noEpoch = false ∧ ((frameReceive0.pgInc FE_PG.CNT.RX_FRAMES 0 1).pgInc FE_PG.CNT.RX_BYTES 0 ((List.replicate 80 9).length + 4)).admitStopped = false ∧ ((frameReceive0.pgInc FE_PG.CNT.RX_FRAMES 0 1).pgInc FE_PG.CNT.RX_BYTES 0 ((List.replicate 80 9).length + 4)).bytesAt (Loc.input (0 / 8)) + (List.replicate 80 9).length + 4 ≤ 131072) ∧
    (frameReceive2.feOn = true ∧ frameReceive2.linkUp 0 = true ∧ 60 ≤ (List.replicate 80 9).length ∧ isMacCtrl (List.replicate 80 9) = false ∧
      (List.replicate 80 9).length + 4 ≤ ((frameReceive2.pgInc FE_PG.CNT.RX_FRAMES 0 1).pgInc FE_PG.CNT.RX_BYTES 0 ((List.replicate 80 9).length + 4)).maxFrame 0 ∧ ((frameReceive2.pgInc FE_PG.CNT.RX_FRAMES 0 1).pgInc FE_PG.CNT.RX_BYTES 0 ((List.replicate 80 9).length + 4)).noEpoch = false ∧ ((frameReceive2.pgInc FE_PG.CNT.RX_FRAMES 0 1).pgInc FE_PG.CNT.RX_BYTES 0 ((List.replicate 80 9).length + 4)).admitStopped = false ∧ 131072 < ((frameReceive2.pgInc FE_PG.CNT.RX_FRAMES 0 1).pgInc FE_PG.CNT.RX_BYTES 0 ((List.replicate 80 9).length + 4)).bytesAt (Loc.input (0 / 8)) + (List.replicate 80 9).length + 4) := by
  refine ⟨?_, ?_, ?_⟩ <;> decide +kernel

def pipelineAdmit0 : State := up.pkt pkt
theorem witness_pipeline_admit :
    pipelineAdmit0.feOn = true ∧ pipelineAdmit0.noEpoch = false ∧ pipelineAdmit0.armed .depthGap 0 = false ∧
      ((72 :: ingressPages).all fun (P : Nat) => (pipelineAdmit0.hdr P).enable) = true ∧ (pipelineAdmit0.inputChoice 0).isSome = true ∧
      (pipelineAdmit0.admitStopped = false ∨ (Option.get (pipelineAdmit0.inputChoice 0) (by decide +kernel)).injected = false) ∧
      pipelineAdmit0.stripState (inStrip 0) = stripRun ∧ (ingressPages.any fun (P : Nat) => pipelineAdmit0.inReset P) = false := by decide +kernel

/-- A parser section whose first state faults with cause 8, and what FAIL_ACT says of that cause. -/
def faultSec : Section := ⟨0x10, 1, 0, List.replicate 71 0 ++ [65] ++ List.replicate 56 0⟩
def faulty (a : Nat) (s : State) : State := { s with bankA := { s.bankA with secs := [faultSec] } }.wfi FE_PARSE.FAIL_ACT.ACT 8 a
/-- The head of ingress strip 0, its run, the state with the run's notes, and the packet as it leaves. -/
def inHead (s : State) : Pkt := (s.headAt (.strip 0)).getD pkt
def inRun (s : State) := (s.advanceTo (inHead s).due).runStrip (inStrip 0) 0 (inHead s) .none
def inNoted (s : State) : State :=
  let u := s.advanceTo (inHead s).due
  ({ u with freeCtr := u.freeCtr + 1 } : State).applyNotes (inRun s).2.notes
def inLeft (s : State) : Pkt :=
  ((fixReason { inHead s with md := (inHead s).exitMd (lanesMd (inRun s).2.lanes), fail := (inRun s).1.fail, vrf := askVrf .none % 4096 }).mdSet 31 1
    (b2n ((inNoted s).cutsThrough (inHead s)))).point 3 (inNoted s).nowNs
def inAct (s : State) : Nat := ((inNoted s).sat FE_PARSE.FAIL_CNT_I.COUNT 0 (inRun s).1.fail 1).failAct (inHead s).bank (inRun s).1.fail
def ingressExit0 : State := up.pkt { pkt with loc := .strip 0 }
def ingressExit1 : State := faulty 0 ingressExit0
def ingressExit2 : State := faulty 1 ingressExit0
def ingressExit3 : State := faulty 2 ingressExit0
theorem witness_ingress_exit :
    (ingressExit3.feOn = true ∧ ingressExit3.headAt (.strip 0) = some (inHead ingressExit3) ∧ ingressExit3.exitTurn (inHead ingressExit3) = true ∧
      (inRun ingressExit3).1.fail ≠ 0 ∧ inAct ingressExit3 = 2) ∧
    (ingressExit0.feOn = true ∧ ingressExit0.headAt (.strip 0) = some (inHead ingressExit0) ∧ ingressExit0.exitTurn (inHead ingressExit0) = true ∧
      (inLeft ingressExit0).prot = false ∧ (inRun ingressExit0).1.fail = 0) ∧
    (ingressExit1.feOn = true ∧ ingressExit1.headAt (.strip 0) = some (inHead ingressExit1) ∧ ingressExit1.exitTurn (inHead ingressExit1) = true ∧
      (inLeft ingressExit1).prot = false ∧ (inRun ingressExit1).1.fail ≠ 0 ∧ inAct ingressExit1 = 0) ∧
    (ingressExit2.feOn = true ∧ ingressExit2.headAt (.strip 0) = some (inHead ingressExit2) ∧ ingressExit2.exitTurn (inHead ingressExit2) = true ∧
      (inLeft ingressExit2).prot = false ∧ (inRun ingressExit2).1.fail ≠ 0 ∧ inAct ingressExit2 = 1) := by
  refine ⟨?_, ?_, ?_, ?_⟩ <;> decide +kernel

/-- The head of egress strip 0, its run, the state with the run's notes, the packet as it leaves and its frame. -/
def outHead (s : State) : Pkt := (s.headAt (.estrip 0)).getD pkt
def outRun (s : State) := (s.advanceTo (outHead s).due).runStrip (outStrip 0) 0 (outHead s) .none
def outNoted (s : State) : State :=
  let u := s.advanceTo (outHead s).due
  ({ u with freeCtr := u.freeCtr + 1 } : State).applyNotes (outRun s).2.notes
def outLeft (s : State) : Pkt :=
  (fixReason { outHead s with md := (outHead s).exitMd (lanesMd (outRun s).2.lanes), fail := (outRun s).1.fail }).point 11 (outNoted s).nowNs
def outAct (s : State) : Nat := ((outNoted s).sat FE_PARSE.FAIL_CNT_E.COUNT 0 (outRun s).1.fail 1).failAct (outHead s).bank (outRun s).1.fail
def outFrame (s : State) : Bytes × Bool := (emitFrame (outRun s).2.lanes (outHead s)).getD ([], false)
def outTimed (s : State) : Pkt := { outLeft s with data := (outFrame s).1, ts := laneGet (outRun s).2.lanes 158 % 2 ^ 28 }
def outPadded (s : State) : State := if (outFrame s).2 then (outNoted s).inc1 FE_PARSE.EMIT_PAD.COUNT else outNoted s
/-- The packet first in egress strip 0 leaves it now. -/
def atExit (s : State) : Prop := s.feOn = true ∧ s.headAt (.estrip 0) = some (outHead s) ∧ s.exitTurn (outHead s) = true
def estrip (p : Pkt) : State := up.pkt { p with loc := .estrip 0, egr := true }
def egressExit0 : State := estrip pkt
def egressExit1 : State := faulty 0 (estrip pkt)
def egressExit2 : State := faulty 1 (estrip pkt)
def egressExit3 : State := faulty 2 (estrip pkt)
def egressExit4 : State := estrip (pkt.mdSet 127 1 1)
def egressExit5 : State := estrip { pkt with data := List.replicate 16000 7 }
def egressExit6 : State := estrip (pkt.mdSet 175 9 256)
def egressExit8 : State := (estrip pkt).wf FE_PG.PORT_CFG.MAX_FRAME 64
theorem witness_egress_faults :
    ((outRun egressExit3).1.fail ≠ 0 ∧ outAct egressExit3 = 2) ∧ ((outRun egressExit2).1.fail ≠ 0 ∧ outAct egressExit2 = 1) ∧
    ((outRun egressExit1).1.fail ≠ 0 ∧ outAct egressExit1 = 0) ∧ ((outRun egressExit4).1.fail = 0 ∧ (outLeft egressExit4).punt = true) ∧
    ((outRun egressExit5).1.fail = 0 ∧ (outLeft egressExit5).punt = false ∧
      emitFrame (outRun egressExit5).2.lanes (outHead egressExit5) = none) := by
  refine ⟨?_, ?_, ?_, ?_, ?_⟩ <;> decide +kernel
theorem witness_egress_exit :
    atExit egressExit0 ∧ atExit egressExit1 ∧ atExit egressExit2 ∧ atExit egressExit3 ∧ atExit egressExit4 ∧ atExit egressExit5 ∧
      atExit egressExit6 ∧
    atExit egressExit8 ∧
    ((outRun egressExit6).1.fail = 0 ∧ (outLeft egressExit6).punt = false ∧
      emitFrame (outRun egressExit6).2.lanes (outHead egressExit6) = some (outFrame egressExit6) ∧ 256 ≤ (outHead egressExit6).outPort) ∧
    ((outRun egressExit0).1.fail = 0 ∧ (outLeft egressExit0).punt = false ∧
      emitFrame (outRun egressExit0).2.lanes (outHead egressExit0) = some (outFrame egressExit0) ∧ (outHead egressExit0).outPort < 256 ∧
      ((outTimed egressExit0).mdSet 175 9 (outHead egressExit0).outPort).prot = false ∧
      (outHead egressExit0).frameLen ((outHead egressExit0).length - 4) (outFrame egressExit0).1 + 4 ≤
        (outPadded egressExit0).maxFrame (outHead egressExit0).outPort) ∧
    ((outRun egressExit8).1.fail = 0 ∧ (outLeft egressExit8).punt = false ∧
      emitFrame (outRun egressExit8).2.lanes (outHead egressExit8) = some (outFrame egressExit8) ∧ (outHead egressExit8).outPort < 256 ∧
      ((outTimed egressExit8).mdSet 175 9 (outHead egressExit8).outPort).prot = false ∧
      (outPadded egressExit8).maxFrame (outHead egressExit8).outPort <
        (outHead egressExit8).frameLen ((outHead egressExit8).length - 4) (outFrame egressExit8).1 + 4) := by
  unfold atExit
  refine ⟨?_, ?_, ?_, ?_, ?_, ?_, ?_, ?_, ?_, ?_, ?_⟩ <;> decide +kernel

/-- What an egress selection of pipeline 0 and a loopback selection work on: the swept state, the work there is, the rounds, the choice. -/
def egPorts : List Nat := (List.range 16).map (16 * 0 + ·)
def egU (s : State) : State := s.oversizeSweep egPorts
def egW (s : State) : Work := (egU s).workOf ((egU s).egrQueues egPorts)
def egV (s : State) : State := (egU s).syncRounds (fun k => egPorts.contains k) ((egU s).egrQueues egPorts)
def lpU (s : State) : State := s.oversizeSweep [256]
def lpW (s : State) : Work := (lpU s).workOf ((lpU s).egrQueues [256])
def lpV (s : State) : State := (lpU s).syncRounds (fun k => decide (k = 256)) ((lpU s).egrQueues [256])
def lpTrial (s : State) : Option (Nat × Bool × List Nat × State) :=
  ((lpV s).portTrial (lpW s) 256 true).orElse (fun _ => (lpV s).portTrial (lpW s) 256 false)
def lpHead (s : State) : Pkt := ((lpV s).queueHead 0).getD pkt
/-- A packet that waits in queue 0, of channel 0, for the port. -/
def queued (port : Nat) : State :=
  ((up.pkt { pkt with loc := .queue 0, egr := true }).setChan 0 ⟨true, false, 1, true, port, 0, 0, false, port, 0, none, 0⟩).wfi
    TM_QUEUE.PORT_STATE.STATE port tmUp
/-- A packet in the MAC buffer of port 0. -/
def atMac (p : Pkt) : State := (up.wf FE_PG.PORT_CFG.ENABLE 1).pkt { p with loc := .mac 0 0 }
def egressCommands0 : State := up.pkt { pkt with loc := .loopFifo 0, egr := true }
def egressCommands5 : State := (atMac pkt).wf FE_PG.PORT_STATUS.LINK_UP 1
def egressCommands6 : State := (atMac { pkt with bad := true }).wf FE_PG.PORT_STATUS.LINK_UP 1
def egressCommands7 : State := (up.wf FE_PG.PORT_CFG.ENABLE 1).pkt { pkt with loc := .wire 0, egr := true }
def egressCommands8 : State := { queued 0 with timers := [⟨.depthGap, 1, 5000⟩] }
def egressCommands9 : State := up.pkt { pkt with loc := .eread 0, egr := true }
def egressCommands11 : State := (atMac pkt).wf FE_PG.PORT_CFG.PROT_MEMBER 1
/-- The loopback FIFO's pipeline is full: a packet waits in its input already. -/
def egressCommands12 : State := (queued 256).pkt { pkt with id := 2, loc := .loopIn 0 }
def macReady (s : State) : Prop :=
  s.feOn = true ∧ s.portEnabled 0 = true ∧ s.operating (pgPage 0) = true ∧ s.wireFree 0 = true
def macHead (s : State) : Pkt := ((s.pfcFlush 0).macChoice 0).getD pkt
theorem witness_egress_selections :
    (egressCommands8.tmOn = true ∧ egressCommands8.egrTurn 0 = true ∧ egressCommands8.egrOpen 0 = false) ∧
    (egressCommands9.tmOn = true ∧ egressCommands9.egrTurn 0 = true ∧ egressCommands9.egrOpen 0 = true ∧
      (egressCommands9.egrRead 0).isSome = true) ∧
    (up.tmOn = true ∧ up.egrTurn 0 = true ∧ up.egrOpen 0 = true ∧ up.egrRead 0 = none ∧ ((egV up).egrCandidate (egW up) 0).isNone = true) ∧
    (egressCommands0.tmOn = true ∧ egressCommands0.egrTurn 0 = true ∧ egressCommands0.egrOpen 0 = true ∧ egressCommands0.egrRead 0 = none ∧
      ((egV egressCommands0).egrCandidate (egW egressCommands0) 0).map (fun x => (x.1, x.2.isNone)) = some (16, true) ∧
      ((egV egressCommands0).headAt (.loopFifo 0)).isSome = true) ∧
    ((queued 0).tmOn = true ∧ (queued 0).egrTurn 0 = true ∧ (queued 0).egrOpen 0 = true ∧ (queued 0).egrRead 0 = none ∧
      ((egV (queued 0)).egrCandidate (egW (queued 0)) 0).map (fun x => (x.1, x.2.map (fun t => (t.1, t.2.1)))) = some (0, some (0, false)) ∧
      ((egV (queued 0)).queueHead 0).isSome = true) := by
  refine ⟨?_, ?_, ?_, ?_, ?_⟩ <;> decide +kernel
theorem witness_egress_commands :
    (egressCommands12.tmOn = true ∧ egressCommands12.operating 4151 = true ∧ (egressCommands12.hdr 4149).enable = true ∧
      egressCommands12.buffersReset = false ∧ egressCommands12.sc.loopNext ≤ egressCommands12.cycle * 250 ∧
      (lpTrial egressCommands12).map (fun t => (t.1, t.2.1)) = some (0, false) ∧
      (lpV egressCommands12).queueHead 0 = some (lpHead egressCommands12) ∧
      (lpV egressCommands12).loopOpen ((lpHead egressCommands12).flowHash % 16) = false) ∧
    ((queued 256).tmOn = true ∧ (queued 256).operating 4151 = true ∧ ((queued 256).hdr 4149).enable = true ∧ (queued 256).buffersReset = false ∧
      (queued 256).sc.loopNext ≤ (queued 256).cycle * 250 ∧ (lpTrial (queued 256)).map (fun t => (t.1, t.2.1)) = some (0, false) ∧
      (lpV (queued 256)).queueHead 0 = some (lpHead (queued 256)) ∧ (lpV (queued 256)).loopOpen ((lpHead (queued 256)).flowHash % 16) = true) ∧
    (∃ d, { up with timers := [⟨.pacer, 0, 5000⟩] }.timerAt .pacer 0 = some d) ∧
    (macReady egressCommands5 ∧ (egressCommands5.pfcFlush 0).macChoice 0 = some (macHead egressCommands5) ∧
      (egressCommands5.pfcFlush 0).linkUp 0 = true ∧ ¬((macHead egressCommands5).bad = true ∧ (macHead egressCommands5).whole = true)) ∧
    (macReady egressCommands6 ∧ (egressCommands6.pfcFlush 0).macChoice 0 = some (macHead egressCommands6) ∧
      (egressCommands6.pfcFlush 0).linkUp 0 = true ∧ (macHead egressCommands6).bad = true ∧ (macHead egressCommands6).whole = true) ∧
    (macReady (atMac pkt) ∧ ((atMac pkt).pfcFlush 0).macChoice 0 = some (macHead (atMac pkt)) ∧ ((atMac pkt).pfcFlush 0).linkUp 0 = false ∧
      ((atMac pkt).pfcFlush 0).pgb FE_PG.PORT_CFG.PROT_MEMBER 0 = false) ∧
    (macReady egressCommands11 ∧ (egressCommands11.pfcFlush 0).macChoice 0 = some (macHead egressCommands11) ∧
      (egressCommands11.pfcFlush 0).linkUp 0 = false ∧ (egressCommands11.pfcFlush 0).pgb FE_PG.PORT_CFG.PROT_MEMBER 0 = true ∧
      (macHead egressCommands11).prot = false) ∧
    (egressCommands7.feOn = true ∧ ((egressCommands7.at_ (.wire 0)).getLast?).map (fun p => p.whole) = some true) := by
  unfold macReady
  refine ⟨?_, ?_, ⟨5000, ?_⟩, ?_, ?_, ?_, ?_, ?_⟩ <;> decide +kernel

def tmIngress0 : State := up.pkt { pkt with loc := .tmArrive 0 }
def tmIngress1 : State := { up.wfi TM_HPKT.INJ_CTRL.ENABLE 2 1 with hp := { up.hp with injTail := [(2, 3)] } }
def tmIngress2 : State := { up with sc := { up.sc with pProf := [(0, 2^128 + 2^131)] } }.pkt { pkt with loc := .tmArrive 0 }
def tmIngress3 : State := { up.wf TM_SCHED.EXP_CTRL.ENABLE 1 with sc := { up.sc with express := ⟨0, 0⟩, expressCyc := 4000 } }.pkt (({ pkt with loc := .tmArrive 0 }.mdSet 10 3 7).mdSet 16 14 104)
def tmIngress4 : State := up.pkt ({ pkt with loc := .tmArrive 0 }.mdSet 30 1 1)
theorem witness_tm_ingress :
    (tmIngress2.tmOn = true ∧ ([4148, 4149, 4150, 4153].all fun (P : Nat) => (tmIngress2.hdr P).enable) = true ∧
      tmIngress2.headAt (Loc.tmArrive 0) = some (theHead tmIngress2 (Loc.tmArrive 0)) ∧
      tmIngress2.arriveTurn (theHead tmIngress2 (Loc.tmArrive 0)) = true ∧
      (tmIngress2.policeStep ((theHead tmIngress2 (Loc.tmArrive 0)).point 4 tmIngress2.nowNs)).1 = false) ∧
    (tmIngress3.tmOn = true ∧ ([4148, 4149, 4150, 4153].all fun (P : Nat) => (tmIngress3.hdr P).enable) = true ∧
      tmIngress3.headAt (Loc.tmArrive 0) = some (theHead tmIngress3 (Loc.tmArrive 0)) ∧
      tmIngress3.arriveTurn (theHead tmIngress3 (Loc.tmArrive 0)) = true ∧
      (tmIngress3.policeStep ((theHead tmIngress3 (Loc.tmArrive 0)).point 4 tmIngress3.nowNs)).1 = true ∧
      ((tmIngress3.policeStep ((theHead tmIngress3 (Loc.tmArrive 0)).point 4 tmIngress3.nowNs)).2.2.expressStep (tmIngress3.policeStep ((theHead tmIngress3 (Loc.tmArrive 0)).point 4 tmIngress3.nowNs)).2.1 0).1 = false) ∧
    (tmIngress4.tmOn = true ∧ ([4148, 4149, 4150, 4153].all fun (P : Nat) => (tmIngress4.hdr P).enable) = true ∧
      tmIngress4.headAt (Loc.tmArrive 0) = some (theHead tmIngress4 (Loc.tmArrive 0)) ∧
      tmIngress4.arriveTurn (theHead tmIngress4 (Loc.tmArrive 0)) = true ∧
      (tmIngress4.policeStep ((theHead tmIngress4 (Loc.tmArrive 0)).point 4 tmIngress4.nowNs)).1 = true ∧
      ((tmIngress4.policeStep ((theHead tmIngress4 (Loc.tmArrive 0)).point 4 tmIngress4.nowNs)).2.2.expressStep (tmIngress4.policeStep ((theHead tmIngress4 (Loc.tmArrive 0)).point 4 tmIngress4.nowNs)).2.1 0).1 = true ∧ (tmIngress4.policeStep ((theHead tmIngress4 (Loc.tmArrive 0)).point 4 tmIngress4.nowNs)).2.1.mcast = true) ∧
    (tmIngress0.tmOn = true ∧ ([4148, 4149, 4150, 4153].all fun (P : Nat) => (tmIngress0.hdr P).enable) = true ∧
      tmIngress0.headAt (Loc.tmArrive 0) = some (theHead tmIngress0 (Loc.tmArrive 0)) ∧
      tmIngress0.arriveTurn (theHead tmIngress0 (Loc.tmArrive 0)) = true ∧
      (tmIngress0.policeStep ((theHead tmIngress0 (Loc.tmArrive 0)).point 4 tmIngress0.nowNs)).1 = true ∧
      ((tmIngress0.policeStep ((theHead tmIngress0 (Loc.tmArrive 0)).point 4 tmIngress0.nowNs)).2.2.expressStep (tmIngress0.policeStep ((theHead tmIngress0 (Loc.tmArrive 0)).point 4 tmIngress0.nowNs)).2.1 0).1 = true ∧ (tmIngress0.policeStep ((theHead tmIngress0 (Loc.tmArrive 0)).point 4 tmIngress0.nowNs)).2.1.mcast = false) ∧
    (tmIngress0.tmOn = true ∧ tmIngress0.operating 4151 = true ∧ tmIngress0.operating 4146 = true ∧ (tmIngress0.hdr 4149).enable = true ∧
      tmIngress0.buffersReset = false) ∧
    (tmIngress1.tmOn = true ∧ tmIngress1.fetchStopped = false ∧ tmIngress1.injWaits 2 = true) := by
  refine ⟨?_, ?_, ?_, ?_, ?_, ?_⟩ <;> decide +kernel

def cellReceive0 : State := (up.setFl TM_FLINK.LINK_CFG.ENABLE 0 1).setFl TM_FLINK.LINK_STATUS.ALIGN 0 alInFrame
def cellReceive1 : State := ((up.setFl TM_FLINK.LINK_CFG.ENABLE 0 1).setFl TM_FLINK.LINK_STATUS.ALIGN 0 alInFrame).setFl TM_FLINK.LINK_STATUS.STATE 0 lsInService
theorem witness_cell_receive :
    (cellReceive0.tmOn = true ∧ cellReceive0.flEnabled 0 = true ∧ cellReceive0.fl TM_FLINK.LINK_STATUS.ALIGN 0 = alInFrame ∧
      cellReceive0.flLooped 0 = false ∧
      hdrBits (List.take 16 (scramble (64 + 256 * 0) (List.take 256 (List.replicate 256 0)))) 0 16 ≠ crc16 (List.take 14 (List.take 16 (scramble (64 + 256 * 0) (List.take 256 (List.replicate 256 0)))))) ∧
    (cellReceive0.tmOn = true ∧ cellReceive0.flEnabled 0 = true ∧ cellReceive0.fl TM_FLINK.LINK_STATUS.ALIGN 0 = alInFrame ∧
      cellReceive0.flLooped 0 = false ∧
      hdrBits (List.take 16 (scramble (64 + 256 * 0) (List.take 256 (scramble 64 (mkHdr (List.replicate 14 0) ++ List.replicate 240 5))))) 0 16 = crc16 (List.take 14 (List.take 16 (scramble (64 + 256 * 0) (List.take 256 (scramble 64 (mkHdr (List.replicate 14 0) ++ List.replicate 240 5)))))) ∧ hdrBits (List.take 16 (scramble (64 + 256 * 0) (List.take 256 (scramble 64 (mkHdr (List.replicate 14 0) ++ List.replicate 240 5))))) 126 2 = 0) ∧
    (cellReceive0.tmOn = true ∧ cellReceive0.flEnabled 0 = true ∧ cellReceive0.fl TM_FLINK.LINK_STATUS.ALIGN 0 = alInFrame ∧
      cellReceive0.flLooped 0 = false ∧
      hdrBits (List.take 16 (scramble (64 + 256 * 0) (List.take 256 (scramble 64 (mkHdr (64 :: List.replicate 13 0) ++ List.replicate 240 5))))) 0 16 = crc16 (List.take 14 (List.take 16 (scramble (64 + 256 * 0) (List.take 256 (scramble 64 (mkHdr (64 :: List.replicate 13 0) ++ List.replicate 240 5)))))) ∧ hdrBits (List.take 16 (scramble (64 + 256 * 0) (List.take 256 (scramble 64 (mkHdr (64 :: List.replicate 13 0) ++ List.replicate 240 5))))) 126 2 ≠ 0 ∧ (cellReceive0.inService 0 = false ∨ hdrBits (List.take 16 (scramble (64 + 256 * 0) (List.take 256 (scramble 64 (mkHdr (64 :: List.replicate 13 0) ++ List.replicate 240 5))))) 126 2 ≠ 1 ∨ hdrBits (List.take 16 (scramble (64 + 256 * 0) (List.take 256 (scramble 64 (mkHdr (64 :: List.replicate 13 0) ++ List.replicate 240 5))))) 112 10 ≠ cellReceive0.fabId ∨ cellReceive0.noEpoch = true)) ∧
    (cellReceive1.tmOn = true ∧ cellReceive1.flEnabled 0 = true ∧ cellReceive1.fl TM_FLINK.LINK_STATUS.ALIGN 0 = alInFrame ∧
      cellReceive1.flLooped 0 = false ∧
      hdrBits (List.take 16 (scramble (64 + 256 * 0) (List.take 256 (scramble 64 (mkHdr (64 :: List.replicate 13 0) ++ List.replicate 240 5))))) 0 16 = crc16 (List.take 14 (List.take 16 (scramble (64 + 256 * 0) (List.take 256 (scramble 64 (mkHdr (64 :: List.replicate 13 0) ++ List.replicate 240 5)))))) ∧ cellReceive1.inService 0 = true ∧ hdrBits (List.take 16 (scramble (64 + 256 * 0) (List.take 256 (scramble 64 (mkHdr (64 :: List.replicate 13 0) ++ List.replicate 240 5))))) 126 2 = 1 ∧ hdrBits (List.take 16 (scramble (64 + 256 * 0) (List.take 256 (scramble 64 (mkHdr (64 :: List.replicate 13 0) ++ List.replicate 240 5))))) 112 10 = cellReceive1.fabId ∧ cellReceive1.noEpoch = false ∧ cellReceive1.inReset 4146 = false ∧ (cellReceive1.flInc TM_FLINK.CNT.CELLS_RX 0 1).admitStopped = false ∧ ((cellReceive1.flInc TM_FLINK.CNT.CELLS_RX 0 1).staged (16 + 0 / 10)).length < 256) := by
  refine ⟨?_, ?_, ?_, ?_⟩ <;> decide +kernel

def cl : Cell := ⟨true, true, false, false, 5, 0, 0, 3, 10, 0, [1], false, 1, none, 3, 4⟩
def cl2 : Cell := { cl with tx := some (3, 2) }
def sc0 (f : Fabric → Fabric) : State := up.setFab f
def switchCore1 : State := up.wf TM_EPOCH.STATE.STATE 0
def switchCore2 : State := sc0 (fun f => { f with staging := [(3, [cl])] })
def switchCore3 : State := sc0 (fun f => { f with banks := [(bankKey (up.stageBank (up.cellBank cl2) (64 + up.cycle % 64) 3) 3 cl2.exp, [cl2])] })
theorem witness_switch_core :
    (switchCore1.tmOn = true ∧ (switchCore1.noEpoch = true ∨ switchCore1.operating 4146 = false)) ∧
    (up.tmOn = true ∧ up.noEpoch = false ∧ up.operating 4146 = true) ∧
    (switchCore2.tmOn = true ∧ switchCore2.noEpoch = false ∧ switchCore2.operating 4146 = true ∧ switchCore2.pkts = [] ∧
      switchCore2.fab.staging = [(3, [cl])] ∧ switchCore2.fab.banks = []) ∧
    (switchCore3.tmOn = true ∧ switchCore3.noEpoch = false ∧ switchCore3.operating 4146 = true ∧ cl2.tx = some (3, 2) ∧ switchCore3.pkts = [] ∧
      switchCore3.fab.staging = [] ∧
      switchCore3.fab.banks = [(bankKey (switchCore3.stageBank (switchCore3.cellBank cl2) (64 + switchCore3.cycle % 64) 3) 3 cl2.exp, [cl2])]) := by
  refine ⟨?_, ?_, ?_, ?_⟩ <;> decide +kernel

def tl : State := (up.setFl TM_FLINK.LINK_CFG.ENABLE 0 1)
def transmitFrames1 : State := { up with fab := { up.fab with pos := 3, patBank := some false } }
def transmitFrames2 : State := { tl with fab := { up.fab with pos := 3, patBank := none } }
def transmitFrames4 : State := { up with fab := { up.fab with pos := 0, mfi := 0 } }
theorem witness_transmit_frames :
    (transmitFrames1.tmOn = true ∧ transmitFrames1.fab.pos < 31) ∧
    (transmitFrames2.tmOn = true ∧ transmitFrames2.fab.pos < 31 ∧ transmitFrames2.fab.patBank = none ∧
      (∀ n < 320, transmitFrames2.flLooped n = false)) ∧
    (up.tmOn = true ∧ 31 ≤ up.fab.pos ∧ (∀ n < 320, up.flLooped n = false)) ∧
    (transmitFrames4.tmOn = true ∧ transmitFrames4.atBoundary = true) := by
  refine ⟨?_, ?_, ?_, ?_⟩ <;> decide +kernel

def reorderTimers0 : State := { up with timers := [⟨.reordCollect, ctxKey 3 0, 5000⟩, ⟨.reordGap, ctxKey 3 0, 5000⟩, ⟨.reordIdle, ctxKey 3 0, 5000⟩] }
def reorderTimers1 : State := { up with timers := [⟨.reordIdle, ctxKey 3 0, 5000⟩], fab := { up.fab with ctxs := [(ctxKey 3 0, ⟨some 5, [(⟨true, true, false, false, 5, 0, 0, 3, 10, 7, [1], false, 1, none, 3, 4⟩, 4000)]⟩)] } }
theorem witness_reorder_timers :
    (reorderTimers0.tmOn = true ∧ (reorderTimers0.timerAt .reordCollect (ctxKey 3 (b2n false))).isSome = true) ∧
    (reorderTimers0.tmOn = true ∧ (reorderTimers0.timerAt .reordGap (ctxKey 3 (b2n false))).isSome = true) ∧
    (reorderTimers0.tmOn = true ∧ (reorderTimers0.timerAt .reordIdle (ctxKey 3 (b2n false))).isSome = true ∧
      ((reorderTimers0.expired .reordIdle (ctxKey 3 (b2n false)) (Option.get (reorderTimers0.timerAt .reordIdle (ctxKey 3 (b2n false))) (by decide +kernel))).ctx (ctxKey 3 (b2n false))).held.isEmpty = true) ∧
    (reorderTimers1.tmOn = true ∧ (reorderTimers1.timerAt .reordIdle (ctxKey 3 (b2n false))).isSome = true ∧
      ((reorderTimers1.expired .reordIdle (ctxKey 3 (b2n false)) (Option.get (reorderTimers1.timerAt .reordIdle (ctxKey 3 (b2n false))) (by decide +kernel))).ctx (ctxKey 3 (b2n false))).held.isEmpty = false) := by
  refine ⟨?_, ?_, ?_, ?_⟩ <;> decide +kernel

def multicastRegisters2 : State := { up.wf TM_SPRAY.INSTALL.PENDING 1 with fab := { up.fab with pos := 0, mfi := 0 } }
def multicastRegisters3 : State := { up with timers := [⟨.residueRetry, 0, 5000⟩] }
def multicastRegisters4 : State := { up with fab := { up.fab with residue := [⟨false, 3, 4, 1, 20⟩] } }
theorem witness_multicast_registers :
    (up.tmOn = true ∧ up.blockOpen 4146 = true ∧ up.rfb TM_SPRAY.INSTALL.PENDING = false ∧
      installCause (up.pendSec up.pendWords) (if List.isEmpty up.sprayNow = true then 0 else sprayLen up.sprayNow) (sprayExp up.sprayNow) = some (4, some 256)) ∧
    (multicastRegisters2.tmOn = true ∧ multicastRegisters2.rfb TM_SPRAY.INSTALL.PENDING = true ∧ multicastRegisters2.epochState = esIdle ∧
      multicastRegisters2.atBoundary = true) ∧
    (up.tmOn = true ∧ up.blockOpen 4155 = true) ∧
    (up.tmOn = true ∧ (up.fab.walk.any fun (id : Nat) => (up.pktById id).isSome) = false) ∧
    (multicastRegisters3.tmOn = true ∧ (multicastRegisters3.timerAt .residueRetry 0).isSome = true ∧
      (multicastRegisters3.expired .residueRetry 0 (theTime multicastRegisters3 .residueRetry 0)).operating 4155 = true) ∧
    (multicastRegisters4.tmOn = true ∧
      (List.find? (fun (b : Branch) => decide (b.egr = false) && decide (b.rec_ = 4)) multicastRegisters4.fab.residue).isSome = true) := by
  refine ⟨?_, ?_, ?_, ?_, ?_, ?_⟩ <;> decide +kernel

def lkM (s : State) : State := { s with tm := { s.tm with locks := (List.range 64).map (fun k => (⟨0, 10, ⟨4, 1, 0, 64⟩, k⟩ : SegLock)) ++ (List.range 64).map (fun k => (⟨0, 9, ⟨0, 1, 0, 64⟩, k⟩ : SegLock)) } }
def lost0 (s : State) : State := { s with tm := { s.tm with ecc := (List.range 8).map (fun k => (128 * k, (⟨true, []⟩ : Ecc))) } }
def tableCommands0 : State := (cu 0x10 [(64, 10), (128, 77)]).tbl
def tableCommands1 : State := (cu 0x11 [(64, 10), (128, 77)]).tbl
def tableCommands2 : State := (cu 0x15 [(64, 9), (72, 1), (96, 3)]).tbl
def tableCommands3 : State := (cu 0x16 [(64, 10), (128, 77)]).tbl
def tableCommands4 : State := (cu 0x12 [(64, 10), (128, 77)]).tbl
def tableCommands5 : State := (cu 0x12 [(64, 11), (72, 1), (96, 3)]).tbl
def tableCommands6 : State := (cu 0x13 [(64, 10), (128, 77)]).tbl
def tableCommands7 : State := (cu 0x14 [(64, 9), (72, 1), (96, 3)]).tbl
def tableCommands8 : State := (cu 0x17 [(64, 10), (192, 3), (256, 32)]).tbl
def tableCommands9 : State := (cu 0x13 [(64, 99)])
def tableCommands10 : State := (cu 0x14 [(64, 99)])
def tableCommands11 : State := (cu 0x17 [(64, 99)])
def tableCommands12 : State := lkM (cu 0x13 [(64, 10), (128, 77)]).tbl
def tableCommands13 : State := lkM (cu 0x14 [(64, 9), (72, 1), (96, 3)]).tbl
def tableCommands15 : State := lost0 (cu 0x14 [(64, 9), (72, 1), (96, 3)]).tbl
def tableCommands16 : State := (cu 0x14 [(64, 10), (72, 1), (96, 3)]).tbl
def tableCommands17 : State := ((cu 0x17 [(64, 10), (192, 3), (256, 32)]).tbl).wf TM_EPOCH.STATE.STATE 3
theorem witness_table_commands :
    (tableCommands0.feOn = true ∧ tableCommands0.cmd 1 = some (theCmd tableCommands0) ∧ tableCommands0.mayStart (theCmd tableCommands0) = true ∧
      (theCmd tableCommands0).opcode = opInsert) ∧
    (tableCommands1.feOn = true ∧ tableCommands1.cmd 1 = some (theCmd tableCommands1) ∧ tableCommands1.mayStart (theCmd tableCommands1) = true ∧
      (theCmd tableCommands1).opcode = opDelete) ∧
    (tableCommands2.feOn = true ∧ tableCommands2.cmd 1 = some (theCmd tableCommands2) ∧ tableCommands2.mayStart (theCmd tableCommands2) = true ∧
      (theCmd tableCommands2).opcode = opCas) ∧
    (tableCommands3.feOn = true ∧ tableCommands3.cmd 1 = some (theCmd tableCommands3) ∧ tableCommands3.mayStart (theCmd tableCommands3) = true ∧
      (theCmd tableCommands3).opcode = opAgeDelete) ∧
    (tableCommands4.feOn = true ∧ tableCommands4.cmd 1 = some (theCmd tableCommands4) ∧ tableCommands4.mayStart (theCmd tableCommands4) = true ∧
      (theCmd tableCommands4).opcode = opModify ∧ (∀ (t : Tbl), tableCommands4.tblOf (theCmd tableCommands4).tblId = some t → t.bytes ≠ 64)) ∧
    (tableCommands5.feOn = true ∧ tableCommands5.cmd 1 = some (theCmd tableCommands5) ∧ tableCommands5.mayStart (theCmd tableCommands5) = true ∧
      (theCmd tableCommands5).opcode = opModify ∧ (tableCommands5.tblOf (theCmd tableCommands5).tblId).isSome = true ∧
      (Option.get (tableCommands5.tblOf (theCmd tableCommands5).tblId) (by decide +kernel)).bytes = 64) ∧
    (tableCommands9.feOn = true ∧ tableCommands9.cmd 1 = some (theCmd tableCommands9) ∧ tableCommands9.mayStart (theCmd tableCommands9) = true ∧
      tableCommands9.tblCheck (theCmd tableCommands9) 0 = Except.error (9, 12) ∧ (theCmd tableCommands9).opcode = opLookup) ∧
    (tableCommands10.feOn = true ∧ tableCommands10.cmd 1 = some (theCmd tableCommands10) ∧
      tableCommands10.mayStart (theCmd tableCommands10) = true ∧ tableCommands10.tblCheck (theCmd tableCommands10) 0 = Except.error (9, 12) ∧
      (theCmd tableCommands10).opcode = opReadIndex) ∧
    (tableCommands11.feOn = true ∧ tableCommands11.cmd 1 = some (theCmd tableCommands11) ∧
      tableCommands11.mayStart (theCmd tableCommands11) = true ∧ tableCommands11.tblCheck (theCmd tableCommands11) 0 = Except.error (9, 12) ∧
      (theCmd tableCommands11).opcode = opSwitch) ∧
    (tableCommands12.feOn = true ∧ tableCommands12.cmd 1 = some (theCmd tableCommands12) ∧
      tableCommands12.mayStart (theCmd tableCommands12) = true ∧ tableCommands12.tblCheck (theCmd tableCommands12) 0 = Except.ok tMac ∧
      (tableCommands12.lockedSeg tMac (tableCommands12.cmdLine (theCmd tableCommands12) tMac)).isSome = true ∧
      (theCmd tableCommands12).opcode = opLookup) ∧
    (tableCommands13.feOn = true ∧ tableCommands13.cmd 1 = some (theCmd tableCommands13) ∧
      tableCommands13.mayStart (theCmd tableCommands13) = true ∧ tableCommands13.tblCheck (theCmd tableCommands13) 0 = Except.ok tIdx ∧
      (tableCommands13.lockedSeg tIdx (tableCommands13.cmdLine (theCmd tableCommands13) tIdx)).isSome = true ∧
      (theCmd tableCommands13).opcode = opReadIndex) ∧
    (tableCommands6.feOn = true ∧ tableCommands6.cmd 1 = some (theCmd tableCommands6) ∧ tableCommands6.mayStart (theCmd tableCommands6) = true ∧
      tableCommands6.tblCheck (theCmd tableCommands6) 0 = Except.ok tMac ∧ (theCmd tableCommands6).opcode = opLookup ∧
      tableCommands6.lockedSeg tMac (tableCommands6.cmdLine (theCmd tableCommands6) tMac) = none) ∧
    (tableCommands7.feOn = true ∧ tableCommands7.cmd 1 = some (theCmd tableCommands7) ∧ tableCommands7.mayStart (theCmd tableCommands7) = true ∧
      tableCommands7.tblCheck (theCmd tableCommands7) 0 = Except.ok tIdx ∧ (theCmd tableCommands7).opcode = opReadIndex ∧
      tableCommands7.lockedSeg tIdx (tableCommands7.cmdLine (theCmd tableCommands7) tIdx) = none ∧
      tableCommands7.entryLost tIdx (theCmd tableCommands7).index = false ∧
      (tIdx.hashed = false ∨ tIdx.occupied (tableCommands7.slotOf tIdx (theCmd tableCommands7).index) = true)) ∧
    (tableCommands15.feOn = true ∧ tableCommands15.cmd 1 = some (theCmd tableCommands15) ∧
      tableCommands15.mayStart (theCmd tableCommands15) = true ∧ tableCommands15.tblCheck (theCmd tableCommands15) 0 = Except.ok tIdx ∧
      (theCmd tableCommands15).opcode = opReadIndex ∧
      tableCommands15.lockedSeg tIdx (tableCommands15.cmdLine (theCmd tableCommands15) tIdx) = none ∧
      tableCommands15.entryLost tIdx (theCmd tableCommands15).index = true) ∧
    (tableCommands16.feOn = true ∧ tableCommands16.cmd 1 = some (theCmd tableCommands16) ∧
      tableCommands16.mayStart (theCmd tableCommands16) = true ∧ tableCommands16.tblCheck (theCmd tableCommands16) 0 = Except.ok tMac ∧
      (theCmd tableCommands16).opcode = opReadIndex ∧
      tableCommands16.lockedSeg tMac (tableCommands16.cmdLine (theCmd tableCommands16) tMac) = none ∧
      tableCommands16.entryLost tMac (theCmd tableCommands16).index = false ∧ tMac.hashed = true ∧
      tMac.occupied (tableCommands16.slotOf tMac (theCmd tableCommands16).index) = false) ∧
    (tableCommands17.feOn = true ∧ tableCommands17.cmd 1 = some (theCmd tableCommands17) ∧
      tableCommands17.mayStart (theCmd tableCommands17) = true ∧ tableCommands17.tblCheck (theCmd tableCommands17) 0 = Except.ok tMac ∧
      (theCmd tableCommands17).opcode = opSwitch ∧ (tableCommands17.epochState = esStaging ∨ tableCommands17.epochState = esStaged ∨
      tableCommands17.layoutMoving tMac = true)) ∧
    (tableCommands8.feOn = true ∧ tableCommands8.cmd 1 = some (theCmd tableCommands8) ∧ tableCommands8.mayStart (theCmd tableCommands8) = true ∧
      tableCommands8.tblCheck (theCmd tableCommands8) 0 = Except.ok tMac ∧ (theCmd tableCommands8).opcode = opSwitch ∧
      tableCommands8.epochState ≠ esStaging ∧ tableCommands8.epochState ≠ esStaged ∧ tableCommands8.layoutMoving tMac = false ∧
      (tMac.region !tMac.live).used = true ∧ (theCmd tableCommands8).bits 192 64 % 2 = 1 ∧ (theCmd tableCommands8).bits 256 32 ≠ 0 ∧
      tMac.minLines ≤ (theCmd tableCommands8).bits 256 32 ∧ (theCmd tableCommands8).bits 256 32 ≤ tMac.capacity !tMac.live ∧
      List.filter (fun (x : SegLock) => decide (x.dir = tMac.dir) && decide (x.table = tMac.id) && decide (x.reg = tMac.region !tMac.live)) tableCommands8.tm.locks = []) := by
  refine ⟨?_, ?_, ?_, ?_, ?_, ?_, ?_, ?_, ?_, ?_, ?_, ?_, ?_, ?_, ?_, ?_, ?_⟩ <;> decide +kernel

def tableMemory1 : State := { up.tbl with tm := { up.tm with locks := [⟨0, 9, ⟨0, 1, 0, 64⟩, 0⟩] } }
def tableMemory2 : State := { up with tm := { up.tm with ecc := [(0, ⟨true, []⟩),(128, ⟨true, []⟩),(256, ⟨true, []⟩),(384, ⟨true, []⟩),(512, ⟨true, []⟩),(640, ⟨true, []⟩),(768, ⟨true, []⟩),(896, ⟨true, []⟩)] } }
def tableMemory4 : State := up.wf FE_TCMD.HOLD.ENABLE 1
def tableMemory5 : State := { up with ca := { up.ca with strips := [(0, ⟨[⟨5, 10, none, none, 128, some 1, true, true, false⟩], 0⟩)] } }
theorem witness_table_memory :
    (tableMemory5.feOn = true ∧ (tableMemory5.dmaStops 8 = true ∨ tableMemory5.tm.dmaHeld ≠ [])) ∧
    (up.feOn = true ∧ up.operating 69 = true ∧ up.dmaStops 8 = false ∧ up.tm.dmaHeld = [] ∧ 8 % 4 = 0 ∧ 4 % 4 = 0) ∧
    (up.feOn = true ∧ up.operating 69 = true ∧ up.dmaStops 8 = false ∧ up.tm.dmaHeld = [] ∧ (8 % 4 ≠ 0 ∨ 2 % 4 ≠ 0 ∨ 2 = 0)) ∧
    (up.feOn = true ∧ up.operating 69 = true ∧ up.dmaStops 536870912 = false ∧ up.tm.dmaHeld = [] ∧ 536870912 % 4 = 0 ∧ 5 < 2 ^ 32 ∧
      bar2Of 536870912 = none) ∧
    (tableMemory1.feOn = true ∧ tableMemory1.operating 69 = true ∧ tableMemory1.dmaStops 8 = false ∧ tableMemory1.tm.dmaHeld = [] ∧ 8 % 4 = 0 ∧
      5 < 2 ^ 32 ∧ bar2Of 8 = some (0, 0, 0, 2) ∧ tableMemory1.lineLocked 0 0 0 = true) ∧
    (up.feOn = true ∧ up.operating 69 = true ∧ up.dmaStops 8 = false ∧ up.tm.dmaHeld = [] ∧ 8 % 4 = 0 ∧ 5 < 2 ^ 32 ∧
      bar2Of 8 = some (0, 0, 0, 2) ∧ up.lineLocked 0 0 0 = false) ∧
    (up.feOn = true ∧ bar2Of 8 = some (0, 0, 0, 2) ∧ up.wordLost 0 0 0 2 = false) ∧
    (tableMemory2.feOn = true ∧ bar2Of 8 = some (0, 0, 0, 2) ∧ tableMemory2.wordLost 0 0 0 2 = true) ∧
    (tableMemory1.feOn = true ∧ tableMemory1.blockOpen 69 = true ∧
      ((fun (v : Nat) => (((((tableMemory1.wf FE_TDMA.LOCK_CTRL.TABLE_ID (bits v 0 8)).wf FE_TDMA.LOCK_CTRL.REGION (bits v 8 1)).wf FE_TDMA.LOCK_CTRL.STAGED (bits v 9 1)).wf FE_TDMA.LOCK_CTRL.OP (bits v 10 1)).wf FE_TDMA.LOCK_CTRL.FIRST_SEG (bits v 16 8)).wf FE_TDMA.LOCK_CTRL.LAST_SEG (bits v 24 8)) (setBit (setBit (9 % 2 ^ 32) 11 true) 10 true)).lockTarget = some (tIdx, false) ∧ bits 9 16 8 ≤ bits 9 24 8) ∧
    (tableMemory1.feOn = true ∧ tableMemory1.blockOpen 69 = true ∧
      ((fun (v : Nat) => (((((tableMemory1.wf FE_TDMA.LOCK_CTRL.TABLE_ID (bits v 0 8)).wf FE_TDMA.LOCK_CTRL.REGION (bits v 8 1)).wf FE_TDMA.LOCK_CTRL.STAGED (bits v 9 1)).wf FE_TDMA.LOCK_CTRL.OP (bits v 10 1)).wf FE_TDMA.LOCK_CTRL.FIRST_SEG (bits v 16 8)).wf FE_TDMA.LOCK_CTRL.LAST_SEG (bits v 24 8)) (setBit (setBit (9 % 2 ^ 32) 11 true) 10 false)).lockTarget = some (tIdx, false) ∧ bits 9 16 8 ≤ bits 9 24 8) ∧
    (up.feOn = true ∧ up.blockOpen 69 = true ∧
      (((fun (v : Nat) => (((((up.wf FE_TDMA.LOCK_CTRL.TABLE_ID (bits v 0 8)).wf FE_TDMA.LOCK_CTRL.REGION (bits v 8 1)).wf FE_TDMA.LOCK_CTRL.STAGED (bits v 9 1)).wf FE_TDMA.LOCK_CTRL.OP (bits v 10 1)).wf FE_TDMA.LOCK_CTRL.FIRST_SEG (bits v 16 8)).wf FE_TDMA.LOCK_CTRL.LAST_SEG (bits v 24 8)) (setBit (setBit (9 % 2 ^ 32) 11 true) 10 true)).lockTarget = none ∨ bits 9 24 8 < bits 9 16 8)) ∧
    (up.feOn = true ∧ up.blockOpen 69 = true ∧
      (((fun (v : Nat) => (((((up.wf FE_TDMA.LOCK_CTRL.TABLE_ID (bits v 0 8)).wf FE_TDMA.LOCK_CTRL.REGION (bits v 8 1)).wf FE_TDMA.LOCK_CTRL.STAGED (bits v 9 1)).wf FE_TDMA.LOCK_CTRL.OP (bits v 10 1)).wf FE_TDMA.LOCK_CTRL.FIRST_SEG (bits v 16 8)).wf FE_TDMA.LOCK_CTRL.LAST_SEG (bits v 24 8)) (setBit (setBit (9 % 2 ^ 32) 11 true) 10 false)).lockTarget = none ∨ bits 9 24 8 < bits 9 16 8)) ∧
    (up.feOn = true ∧ up.blockOpen 68 = true) ∧
    (tableMemory4.feOn = true ∧ tableMemory4.rfb FE_TCMD.HOLD.ENABLE = true ∧
      (∀ d ∈ tableMemory4.ln.dels, d.1 ≠ tableMemory4.rf FE_TCMD.HOLD.TABLE)) ∧
    (up.feOn = true ∧ up.cellMapped 0 0 = true ∧ (∀ x < 16, up.remapNow x = none) ∧ up.operating 68 = true ∧
      (∀ w < 8, up.wordLost (0 / 8) 0 0 w = false)) ∧
    (tableMemory2.feOn = true ∧ tableMemory2.cellMapped 0 0 = true ∧ (∀ x < 16, tableMemory2.remapNow x = none) ∧
      tableMemory2.operating 68 = true ∧ (∃ w < 8, tableMemory2.wordLost (0 / 8) 0 0 w = true)) := by
  refine ⟨?_, ?_, ?_, ?_, ?_, ?_, ?_, ?_, ?_, ?_, ?_, ?_, ?_, ?_, ?_, ?_⟩ <;> decide +kernel

def lkMx30 (s : State) : State := { s with tm := { s.tm with locks := (List.range 64).map (fun k => (⟨0, 10, ⟨4, 1, 0, 64⟩, k⟩ : SegLock)) ++ (List.range 64).map (fun k => (⟨0, 9, ⟨0, 1, 0, 64⟩, k⟩ : SegLock)) } }
def lev : LearnEv := ⟨0x1234, 5, 0, 2, 17, 10⟩
def lq : State := { up with ln := { up.ln with queue := [lev] } }.tbl
def lput (f : Nat → Nat) : State := (tMac.lineSlots (tMac.hash 0 lev.key).1).foldl (fun s sl => s.writeEntry tMac tMac.live sl (f (s.macEntry { lev with mac := 0x1234 + 0 }) )) lq
def lfull : State := (tMac.lineSlots (tMac.hash 0 lev.key).1).foldl (fun s sl => s.writeEntry tMac tMac.live sl (s.macEntry { lev with mac := 0x9999 })) lq
def lot : Nat → Nat := fun v => setBits v 84 9 18
def tableEngines0 : State := up.tbl
def tableEngines1 : State := { (cu 0x17 [(64, 10)]) with tm := { up.tm with switches := [1] }, hc := { up.hc with cmds := [cmdOf 0x17 [(64, 10), (256, 32)] (phase := .begun)] } }.tbl
def tableEngines2 : State := { up with ln := { up.ln with queue := [⟨0x1234, 5, 0, 2, 17, 99⟩] } }
def tableEngines3 : State := { up with ln := { up.ln with queue := [⟨0x1234, 5, 0, 2, 17, 10⟩] } }.tbl
def tableEngines4 : State := { up with ln := { up.ln with hits := [⟨10, 3, 77⟩] } }.tbl
def tableEngines5 : State := { up with ln := { up.ln with damps := [⟨77, 2, 100⟩] } }
def tableEngines7 : State := lput (setBit · 61 true)
def tableEngines8 : State := lput id
def tableEngines9 : State := lput lot
def tableEngines10 : State := { lput lot with ln := { lq.ln with damps := [⟨lev.key, 99999, 4000⟩] } }
def tableEngines11 : State := lkMx30 { up with ln := { up.ln with hits := [⟨10, 3, 77⟩] } }.tbl
theorem witness_table_engines :
    tableEngines0.feOn = true ∧
    (tableEngines1.feOn = true ∧ tableEngines1.cmd 1 = some (theCmd tableEngines1) ∧ tableEngines1.tm.switches.contains 1 = true ∧
      (theCmd tableEngines1).phase = .begun ∧ (tableEngines1.tblOf (theCmd tableEngines1).tblId).isSome = true ∧
      (tableEngines1.tm.wq.any fun (e : Nat × Nat) => match tableEngines1.cmd e.1 with | some d => decide (d.phase = .begun) && decide (d.tblId = (Option.get (tableEngines1.tblOf (theCmd tableEngines1).tblId) (by decide +kernel)).id) | none => false) = false) ∧
    (tableEngines2.feOn = true ∧
      tableEngines2.learnHead = some ({ mac := 4660, bd := 5, kind := 0, pipe := 2, port := 17, table := 99 : LearnEv }, none)) ∧
    (tableEngines3.feOn = true ∧
      tableEngines3.learnHead = some ({ mac := 4660, bd := 5, kind := 0, pipe := 2, port := 17, table := 10 : LearnEv }, some tMac) ∧
      (tableEngines3.setLearnQueue (List.drop 1 tableEngines3.ln.queue)).findSlot true tMac (tMac.hash 0 { mac := 4660, bd := 5, kind := 0, pipe := 2, port := 17, table := 10 : LearnEv }.key).1 { mac := 4660, bd := 5, kind := 0, pipe := 2, port := 17, table := 10 : LearnEv }.key = none ∧ ((tableEngines3.setLearnQueue (List.drop 1 tableEngines3.ln.queue)).freeSlot tMac (tMac.hash 0 { mac := 4660, bd := 5, kind := 0, pipe := 2, port := 17, table := 10 : LearnEv }.key).1).isSome = true) ∧
    (lfull.feOn = true ∧ lfull.learnHead = some ({ mac := 4660, bd := 5, kind := 0, pipe := 2, port := 17, table := 10 : LearnEv }, some tMac) ∧
      (lfull.setLearnQueue (List.drop 1 lfull.ln.queue)).findSlot true tMac (tMac.hash 0 { mac := 4660, bd := 5, kind := 0, pipe := 2, port := 17, table := 10 : LearnEv }.key).1 { mac := 4660, bd := 5, kind := 0, pipe := 2, port := 17, table := 10 : LearnEv }.key = none ∧ (lfull.setLearnQueue (List.drop 1 lfull.ln.queue)).freeSlot tMac (tMac.hash 0 { mac := 4660, bd := 5, kind := 0, pipe := 2, port := 17, table := 10 : LearnEv }.key).1 = none) ∧
    (tableEngines7.feOn = true ∧
      tableEngines7.learnHead = some ({ mac := 4660, bd := 5, kind := 0, pipe := 2, port := 17, table := 10 : LearnEv }, some tMac) ∧
      ((tableEngines7.setLearnQueue (List.drop 1 tableEngines7.ln.queue)).findSlot true tMac (tMac.hash 0 { mac := 4660, bd := 5, kind := 0, pipe := 2, port := 17, table := 10 : LearnEv }.key).1 { mac := 4660, bd := 5, kind := 0, pipe := 2, port := 17, table := 10 : LearnEv }.key).isSome = true ∧ bit ((tableEngines7.setLearnQueue (List.drop 1 tableEngines7.ln.queue)).slotOf tMac (Option.get ((tableEngines7.setLearnQueue (List.drop 1 tableEngines7.ln.queue)).findSlot true tMac (tMac.hash 0 { mac := 4660, bd := 5, kind := 0, pipe := 2, port := 17, table := 10 : LearnEv }.key).1 { mac := 4660, bd := 5, kind := 0, pipe := 2, port := 17, table := 10 : LearnEv }.key) (by decide +kernel))) 61 = true) ∧
    (tableEngines8.feOn = true ∧
      tableEngines8.learnHead = some ({ mac := 4660, bd := 5, kind := 0, pipe := 2, port := 17, table := 10 : LearnEv }, some tMac) ∧
      ((tableEngines8.setLearnQueue (List.drop 1 tableEngines8.ln.queue)).findSlot true tMac (tMac.hash 0 { mac := 4660, bd := 5, kind := 0, pipe := 2, port := 17, table := 10 : LearnEv }.key).1 { mac := 4660, bd := 5, kind := 0, pipe := 2, port := 17, table := 10 : LearnEv }.key).isSome = true ∧ bit ((tableEngines8.setLearnQueue (List.drop 1 tableEngines8.ln.queue)).slotOf tMac (Option.get ((tableEngines8.setLearnQueue (List.drop 1 tableEngines8.ln.queue)).findSlot true tMac (tMac.hash 0 { mac := 4660, bd := 5, kind := 0, pipe := 2, port := 17, table := 10 : LearnEv }.key).1 { mac := 4660, bd := 5, kind := 0, pipe := 2, port := 17, table := 10 : LearnEv }.key) (by decide +kernel))) 61 = false ∧ bits ((tableEngines8.setLearnQueue (List.drop 1 tableEngines8.ln.queue)).slotOf tMac (Option.get ((tableEngines8.setLearnQueue (List.drop 1 tableEngines8.ln.queue)).findSlot true tMac (tMac.hash 0 { mac := 4660, bd := 5, kind := 0, pipe := 2, port := 17, table := 10 : LearnEv }.key).1 { mac := 4660, bd := 5, kind := 0, pipe := 2, port := 17, table := 10 : LearnEv }.key) (by decide +kernel))) 84 9 = { mac := 4660, bd := 5, kind := 0, pipe := 2, port := 17, table := 10 : LearnEv }.port) ∧
    (tableEngines10.feOn = true ∧
      tableEngines10.learnHead = some ({ mac := 4660, bd := 5, kind := 0, pipe := 2, port := 17, table := 10 : LearnEv }, some tMac) ∧
      ((tableEngines10.setLearnQueue (List.drop 1 tableEngines10.ln.queue)).findSlot true tMac (tMac.hash 0 { mac := 4660, bd := 5, kind := 0, pipe := 2, port := 17, table := 10 : LearnEv }.key).1 { mac := 4660, bd := 5, kind := 0, pipe := 2, port := 17, table := 10 : LearnEv }.key).isSome = true ∧ bit ((tableEngines10.setLearnQueue (List.drop 1 tableEngines10.ln.queue)).slotOf tMac (Option.get ((tableEngines10.setLearnQueue (List.drop 1 tableEngines10.ln.queue)).findSlot true tMac (tMac.hash 0 { mac := 4660, bd := 5, kind := 0, pipe := 2, port := 17, table := 10 : LearnEv }.key).1 { mac := 4660, bd := 5, kind := 0, pipe := 2, port := 17, table := 10 : LearnEv }.key) (by decide +kernel))) 61 = false ∧ bits ((tableEngines10.setLearnQueue (List.drop 1 tableEngines10.ln.queue)).slotOf tMac (Option.get ((tableEngines10.setLearnQueue (List.drop 1 tableEngines10.ln.queue)).findSlot true tMac (tMac.hash 0 { mac := 4660, bd := 5, kind := 0, pipe := 2, port := 17, table := 10 : LearnEv }.key).1 { mac := 4660, bd := 5, kind := 0, pipe := 2, port := 17, table := 10 : LearnEv }.key) (by decide +kernel))) 84 9 ≠ { mac := 4660, bd := 5, kind := 0, pipe := 2, port := 17, table := 10 : LearnEv }.port ∧ (tableEngines10.setLearnQueue (List.drop 1 tableEngines10.ln.queue)).damped { mac := 4660, bd := 5, kind := 0, pipe := 2, port := 17, table := 10 : LearnEv }.key = true) ∧
    (tableEngines9.feOn = true ∧
      tableEngines9.learnHead = some ({ mac := 4660, bd := 5, kind := 0, pipe := 2, port := 17, table := 10 : LearnEv }, some tMac) ∧
      ((tableEngines9.setLearnQueue (List.drop 1 tableEngines9.ln.queue)).findSlot true tMac (tMac.hash 0 { mac := 4660, bd := 5, kind := 0, pipe := 2, port := 17, table := 10 : LearnEv }.key).1 { mac := 4660, bd := 5, kind := 0, pipe := 2, port := 17, table := 10 : LearnEv }.key).isSome = true ∧ bit ((tableEngines9.setLearnQueue (List.drop 1 tableEngines9.ln.queue)).slotOf tMac (Option.get ((tableEngines9.setLearnQueue (List.drop 1 tableEngines9.ln.queue)).findSlot true tMac (tMac.hash 0 { mac := 4660, bd := 5, kind := 0, pipe := 2, port := 17, table := 10 : LearnEv }.key).1 { mac := 4660, bd := 5, kind := 0, pipe := 2, port := 17, table := 10 : LearnEv }.key) (by decide +kernel))) 61 = false ∧ bits ((tableEngines9.setLearnQueue (List.drop 1 tableEngines9.ln.queue)).slotOf tMac (Option.get ((tableEngines9.setLearnQueue (List.drop 1 tableEngines9.ln.queue)).findSlot true tMac (tMac.hash 0 { mac := 4660, bd := 5, kind := 0, pipe := 2, port := 17, table := 10 : LearnEv }.key).1 { mac := 4660, bd := 5, kind := 0, pipe := 2, port := 17, table := 10 : LearnEv }.key) (by decide +kernel))) 84 9 ≠ { mac := 4660, bd := 5, kind := 0, pipe := 2, port := 17, table := 10 : LearnEv }.port ∧ (tableEngines9.setLearnQueue (List.drop 1 tableEngines9.ln.queue)).damped { mac := 4660, bd := 5, kind := 0, pipe := 2, port := 17, table := 10 : LearnEv }.key = false) ∧
    (tableEngines11.feOn = true ∧ tableEngines11.ln.hits = [{ table := 10, slot := 3, key := 77 : HitSet }] ∧
      ({ tableEngines11 with ln := { tableEngines11.ln with hits := [] } }.tblOf { table := 10, slot := 3, key := 77 : HitSet }.table).isSome = true ∧ ({ tableEngines11 with ln := { tableEngines11.ln with hits := [] } }.held (Option.get ({ tableEngines11 with ln := { tableEngines11.ln with hits := [] } }.tblOf { table := 10, slot := 3, key := 77 : HitSet }.table) (by decide +kernel)).id = true ∨ { tableEngines11 with ln := { tableEngines11.ln with hits := [] } }.lockedSeg (Option.get ({ tableEngines11 with ln := { tableEngines11.ln with hits := [] } }.tblOf { table := 10, slot := 3, key := 77 : HitSet }.table) (by decide +kernel)) ({ table := 10, slot := 3, key := 77 : HitSet }.slot / (Option.get ({ tableEngines11 with ln := { tableEngines11.ln with hits := [] } }.tblOf { table := 10, slot := 3, key := 77 : HitSet }.table) (by decide +kernel)).perLine) ≠ none)) ∧
    (tableEngines4.feOn = true ∧ tableEngines4.ln.hits = [{ table := 10, slot := 3, key := 77 : HitSet }] ∧
      ({ tableEngines4 with ln := { tableEngines4.ln with hits := [] } }.tblOf { table := 10, slot := 3, key := 77 : HitSet }.table).isSome = true ∧ { tableEngines4 with ln := { tableEngines4.ln with hits := [] } }.held (Option.get ({ tableEngines4 with ln := { tableEngines4.ln with hits := [] } }.tblOf { table := 10, slot := 3, key := 77 : HitSet }.table) (by decide +kernel)).id = false ∧ { tableEngines4 with ln := { tableEngines4.ln with hits := [] } }.lockedSeg (Option.get ({ tableEngines4 with ln := { tableEngines4.ln with hits := [] } }.tblOf { table := 10, slot := 3, key := 77 : HitSet }.table) (by decide +kernel)) ({ table := 10, slot := 3, key := 77 : HitSet }.slot / (Option.get ({ tableEngines4 with ln := { tableEngines4.ln with hits := [] } }.tblOf { table := 10, slot := 3, key := 77 : HitSet }.table) (by decide +kernel)).perLine) = none) ∧
    (tableEngines5.feOn = true ∧ (List.find? (fun (d : Damp) => decide (d.key = 77)) tableEngines5.ln.damps).isSome = true) := by
  refine ⟨?_, ?_, ?_, ?_, ?_, ?_, ?_, ?_, ?_, ?_, ?_, ?_⟩ <;> decide +kernel

def lkMx31 (s : State) : State := { s with tm := { s.tm with locks := (List.range 64).map (fun k => (⟨0, 10, ⟨4, 1, 0, 64⟩, k⟩ : SegLock)) ++ (List.range 64).map (fun k => (⟨0, 9, ⟨0, 1, 0, 64⟩, k⟩ : SegLock)) } }
def agerCommands0 : State := up.wf FE_AGE.CTRL.ENABLE 1
def agerCommands1 : State := { up.wf FE_AGE.CTRL.ENABLE 1 with ln := { up.ln with walk := some ⟨[10], 3, 50, false⟩ } }.tbl
def agerCommands2 : State := { up.wf FE_AGE.CTRL.ENABLE 1 with ln := { up.ln with walk := some ⟨[], 3, 50, false⟩ } }
def agerCommands3 : State := { up with ln := { up.ln with dels := [(10, 3, 77, false)] } }.tbl
def agerCommands4 : State := { up with ln := { up.ln with dels := [(10, 4, 78, true)] } }.tbl
def agerCommands5 : State := ({ up with ln := { up.ln with dels := [(10, 4, 78, true)] } }.tbl).writeEntry tMac tMac.live 4 (78 + 2^60)
def agerCommands6 : State := lkMx31 { up with ln := { up.ln with dels := [(10, 3, 77, false)] } }.tbl
theorem witness_ager_commands :
    (agerCommands0.feOn = true ∧ agerCommands0.operating 71 = true ∧ agerCommands0.rfb FE_AGE.CTRL.ENABLE = true ∧ agerCommands0.ln.walk = none) ∧
    (agerCommands2.feOn = true ∧ (agerCommands2.ln.walk).isSome = true ∧ agerCommands2.operating 71 = true ∧
      agerCommands2.rfb FE_AGE.CTRL.ENABLE = true ∧ (Option.get (agerCommands2.ln.walk) (by decide +kernel)).tables = []) ∧
    (agerCommands1.feOn = true ∧ (agerCommands1.ln.walk).isSome = true ∧ agerCommands1.operating 71 = true ∧
      agerCommands1.rfb FE_AGE.CTRL.ENABLE = true ∧ (Option.get (agerCommands1.ln.walk) (by decide +kernel)).tables = [10] ∧
      (agerCommands1.tblOf 10).isSome = true ∧
      (Option.get (agerCommands1.ln.walk) (by decide +kernel)).line < (Option.get (agerCommands1.tblOf 10) (by decide +kernel)).lines ∧
      agerCommands1.held 10 = false ∧ agerCommands1.layoutMoving (Option.get (agerCommands1.tblOf 10) (by decide +kernel)) = false) ∧
    (agerCommands6.feOn = true ∧ agerCommands6.ln.dels = [(10, 3, 77, false)] ∧
      ({ agerCommands6 with ln := { agerCommands6.ln with dels := [] } }.tblOf 10).isSome = true ∧
      ({ agerCommands6 with ln := { agerCommands6.ln with dels := [] } }.lockedSeg (Option.get ({ agerCommands6 with ln := { agerCommands6.ln with dels := [] } }.tblOf 10) (by decide +kernel)) ((Option.get ({ agerCommands6 with ln := { agerCommands6.ln with dels := [] } }.tblOf 10) (by decide +kernel)).hash 0 77).1 ≠ none ∨ { agerCommands6 with ln := { agerCommands6.ln with dels := [] } }.layoutMoving (Option.get ({ agerCommands6 with ln := { agerCommands6.ln with dels := [] } }.tblOf 10) (by decide +kernel)) = true)) ∧
    (agerCommands3.feOn = true ∧ agerCommands3.ln.dels = [(10, 3, 77, false)] ∧
      ({ agerCommands3 with ln := { agerCommands3.ln with dels := [] } }.tblOf 10).isSome = true ∧
      { agerCommands3 with ln := { agerCommands3.ln with dels := [] } }.lockedSeg (Option.get ({ agerCommands3 with ln := { agerCommands3.ln with dels := [] } }.tblOf 10) (by decide +kernel)) ((Option.get ({ agerCommands3 with ln := { agerCommands3.ln with dels := [] } }.tblOf 10) (by decide +kernel)).hash 0 77).1 = none ∧ { agerCommands3 with ln := { agerCommands3.ln with dels := [] } }.layoutMoving (Option.get ({ agerCommands3 with ln := { agerCommands3.ln with dels := [] } }.tblOf 10) (by decide +kernel)) = false) ∧
    (agerCommands5.feOn = true ∧ agerCommands5.ln.dels = [(10, 4, 78, true)] ∧
      ({ agerCommands5 with ln := { agerCommands5.ln with dels := [] } }.tblOf 10).isSome = true ∧
      { agerCommands5 with ln := { agerCommands5.ln with dels := [] } }.lockedSeg (Option.get ({ agerCommands5 with ln := { agerCommands5.ln with dels := [] } }.tblOf 10) (by decide +kernel)) ((Option.get ({ agerCommands5 with ln := { agerCommands5.ln with dels := [] } }.tblOf 10) (by decide +kernel)).hash 0 78).1 = none ∧ { agerCommands5 with ln := { agerCommands5.ln with dels := [] } }.layoutMoving (Option.get ({ agerCommands5 with ln := { agerCommands5.ln with dels := [] } }.tblOf 10) (by decide +kernel)) = false ∧ ({ agerCommands5 with ln := { agerCommands5.ln with dels := [] } }.inc FE_TCMD.AGER_WRITES.COUNT 0 0 1).slotHolds (Option.get ({ agerCommands5 with ln := { agerCommands5.ln with dels := [] } }.tblOf 10) (by decide +kernel)) 4 78 = true) ∧
    (agerCommands4.feOn = true ∧ agerCommands4.ln.dels = [(10, 4, 78, true)] ∧
      ({ agerCommands4 with ln := { agerCommands4.ln with dels := [] } }.tblOf 10).isSome = true ∧
      { agerCommands4 with ln := { agerCommands4.ln with dels := [] } }.lockedSeg (Option.get ({ agerCommands4 with ln := { agerCommands4.ln with dels := [] } }.tblOf 10) (by decide +kernel)) ((Option.get ({ agerCommands4 with ln := { agerCommands4.ln with dels := [] } }.tblOf 10) (by decide +kernel)).hash 0 78).1 = none ∧ { agerCommands4 with ln := { agerCommands4.ln with dels := [] } }.layoutMoving (Option.get ({ agerCommands4 with ln := { agerCommands4.ln with dels := [] } }.tblOf 10) (by decide +kernel)) = false ∧ ({ agerCommands4 with ln := { agerCommands4.ln with dels := [] } }.inc FE_TCMD.AGER_WRITES.COUNT 0 0 1).slotHolds (Option.get ({ agerCommands4 with ln := { agerCommands4.ln with dels := [] } }.tblOf 10) (by decide +kernel)) 4 78 = false) := by
  refine ⟨?_, ?_, ?_, ?_, ?_, ?_, ?_⟩ <;> decide +kernel

def portCommands1 : State := up.wf FE_PG.PORT_CFG.ENABLE 1
def portCommands2 : State := (up.wf FE_PG.PORT_CFG.ENABLE 1).wf FE_PG.PORT_CFG.AN_EN 1
def portCommands3 : State := (up.wf FE_PG.PORT_CFG.ENABLE 1).wf FE_PG.PORT_STATUS.LINK_UP 1
theorem witness_port_commands :
    (up.feOn = true ∧ up.blockOpen (pgPage 0) = true ∧ up.portEnabled 0 = false ∧
      laneRate (bits (setBit (7 % 2 ^ 32) 0 true) 3 3) (bits (setBit (7 % 2 ^ 32) 0 true) 1 2) = none) ∧
    (up.feOn = true ∧ up.blockOpen (pgPage 1) = true ∧ up.portEnabled 1 = false ∧
      (1 % lanesOf (bits (setBit (7 % 2 ^ 32) 0 true) 1 2) ≠ 0 ∨ up.lanesTaken 1 (lanesOf (bits (setBit (7 % 2 ^ 32) 0 true) 1 2)) = true)) ∧
    (up.feOn = true ∧ up.blockOpen (pgPage 0) = true ∧ up.portEnabled 0 = false ∧
      (laneRate (bits (setBit (0 % 2 ^ 32) 0 true) 3 3) (bits (setBit (0 % 2 ^ 32) 0 true) 1 2)).isSome = true ∧
      0 % lanesOf (bits (setBit (0 % 2 ^ 32) 0 true) 1 2) = 0 ∧ up.lanesTaken 0 (lanesOf (bits (setBit (0 % 2 ^ 32) 0 true) 1 2)) = false) ∧
    (portCommands1.feOn = true ∧ portCommands1.blockOpen (pgPage 0) = true ∧ portCommands1.portEnabled 0 = true ∧
      bits (setBit (0 % 2 ^ 32) 0 true) 1 2 = portCommands1.pg FE_PG.PORT_CFG.WIDTH 0 ∧
      bits (setBit (0 % 2 ^ 32) 0 true) 3 3 = portCommands1.pg FE_PG.PORT_CFG.SPEED 0) ∧
    (portCommands1.feOn = true ∧ portCommands1.blockOpen (pgPage 0) = true ∧ portCommands1.portEnabled 0 = true ∧
      (¬(bits (setBit (7 % 2 ^ 32) 0 true) 1 2 = portCommands1.pg FE_PG.PORT_CFG.WIDTH 0 ∧
      bits (setBit (7 % 2 ^ 32) 0 true) 3 3 = portCommands1.pg FE_PG.PORT_CFG.SPEED 0))) ∧
    (portCommands1.feOn = true ∧ portCommands1.blockOpen (pgPage 0) = true ∧ portCommands1.portEnabled 0 = true ∧
      bits (setBit (0 % 2 ^ 32) 0 false) 1 2 = portCommands1.pg FE_PG.PORT_CFG.WIDTH 0 ∧
      bits (setBit (0 % 2 ^ 32) 0 false) 3 3 = portCommands1.pg FE_PG.PORT_CFG.SPEED 0) ∧
    (portCommands1.feOn = true ∧ portCommands1.blockOpen (pgPage 0) = true ∧ portCommands1.portEnabled 0 = true ∧
      (¬(bits (setBit (7 % 2 ^ 32) 0 false) 1 2 = portCommands1.pg FE_PG.PORT_CFG.WIDTH 0 ∧
      bits (setBit (7 % 2 ^ 32) 0 false) 3 3 = portCommands1.pg FE_PG.PORT_CFG.SPEED 0))) ∧
    (portCommands1.feOn = true ∧ portCommands1.portEnabled 0 = true ∧ portCommands1.operating (pgPage 0) = true ∧
      portCommands1.operating (sdnPage 0) = true ∧ portCommands1.pgb FE_PG.PORT_STATUS.LINK_UP 0 = false) ∧
    (portCommands3.feOn = true ∧ portCommands3.portEnabled 0 = true ∧ portCommands3.pgb FE_PG.PORT_STATUS.LINK_UP 0 = true) ∧
    (portCommands2.feOn = true ∧ portCommands2.portEnabled 0 = true ∧ portCommands2.pgb FE_PG.PORT_CFG.AN_EN 0 = true ∧
      portCommands2.operating (pgPage 0) = true) := by
  refine ⟨?_, ?_, ?_, ?_, ?_, ?_, ?_, ?_, ?_, ?_⟩ <;> decide +kernel

/-- Port 0 and link 3 after an interval of the given errors: the counted state and the run of bad and good intervals. -/
def degU (s : State) (corr : Nat) : State := ((s.prbsCount 0 []).pgInc FE_PG.CNT.FEC_CORR_SYM 0 corr).pgSat FE_PG.CNT.FEC_UNCORR_CW 0 0
def degV (s : State) (corr : Nat) : State :=
  let bad := decide ((degU s corr).pg FE_PG.DEG_CFG.DEG_THR 0 < corr + 16 * 0)
  (degU s corr).updNetPort 0 (fun x => { x with bad := if bad then x.bad + 1 else 0, good := if bad then 0 else x.good + 1 })
def degM (s : State) (corr : Nat) : Nat := orWhenZero ((degU s corr).pg FE_PG.DEG_CFG.DEG_M 0) 1
def ldegU (s : State) (corr : Nat) : State := ((s.flinkPrbs 3 (([] : List Nat).getD 0 0)).flInc TM_FLINK.CNT.FEC_CORR_SYM 3 corr).flSat TM_FLINK.CNT.FEC_UNCORR_CW 3 0
def ldegV (s : State) (corr : Nat) : State :=
  let bad := decide ((ldegU s corr).fl TM_FLINK.DEG_CFG.DEG_THR 3 < corr + 16 * 0)
  (ldegU s corr).updLink 3 (fun x => { x with bad := if bad then x.bad + 1 else 0, good := if bad then 0 else x.good + 1 })
def ldegM (s : State) (corr : Nat) : Nat := orWhenZero ((ldegU s corr).fl TM_FLINK.DEG_CFG.DEG_M 3) 1
def portOn (s : State) : Prop := s.feOn = true ∧ s.portEnabled 0 = true ∧ s.operating (pgPage 0) = true
def degradation0 : State := up.wf FE_PG.PORT_CFG.ENABLE 1
def degradation1 : State := degradation0.wf FE_PG.PORT_STATUS.LINK_UP 1
def degradation2 : State := degradation1.updNetPort 0 (fun x => { x with bad := 20000 })
def degradation3 : State := (degradation1.wf FE_PG.PORT_STATUS.DEG 1).updNetPort 0 (fun x => { x with good := 20000 })
def degradation4 : State := up.setFl TM_FLINK.LINK_CFG.ENABLE 3 1
def degradation5 : State := degradation4.setFl TM_FLINK.LINK_STATUS.ALIGN 3 alInFrame
def degradation6 : State := degradation5.updLink 3 (fun l => { l with bad := 70000 })
def degradation7 : State := (degradation5.setFl TM_FLINK.LINK_STATUS.DEG 3 1).updLink 3 (fun l => { l with good := 70000 })
theorem witness_degradation :
    (portOn degradation0 ∧ (degU degradation0 0).pgb FE_PG.PORT_STATUS.LINK_UP 0 = false) ∧
    (portOn degradation2 ∧ (degU degradation2 100000).pgb FE_PG.PORT_STATUS.LINK_UP 0 = true ∧
      degM degradation2 100000 ≤ ((degV degradation2 100000).netPort 0).bad ∧ (degV degradation2 100000).pgb FE_PG.PORT_STATUS.DEG 0 = false) ∧
    (portOn degradation3 ∧ (degU degradation3 0).pgb FE_PG.PORT_STATUS.LINK_UP 0 = true ∧
      degM degradation3 0 ≤ ((degV degradation3 0).netPort 0).good ∧ (degV degradation3 0).pgb FE_PG.PORT_STATUS.DEG 0 = true) ∧
    (portOn degradation1 ∧ (degU degradation1 0).pgb FE_PG.PORT_STATUS.LINK_UP 0 = true ∧
      ((degV degradation1 0).netPort 0).bad < degM degradation1 0 ∧ (degV degradation1 0).pgb FE_PG.PORT_STATUS.DEG 0 = false) ∧
    (degradation4.tmOn = true ∧ degradation4.flEnabled 3 = true ∧ (ldegU degradation4 0).fl TM_FLINK.LINK_STATUS.ALIGN 3 ≠ alInFrame) ∧
    (degradation6.tmOn = true ∧ degradation6.flEnabled 3 = true ∧ (ldegU degradation6 100000).fl TM_FLINK.LINK_STATUS.ALIGN 3 = alInFrame ∧
      ldegM degradation6 100000 ≤ ((ldegV degradation6 100000).link 3).bad ∧ (ldegV degradation6 100000).flb TM_FLINK.LINK_STATUS.DEG 3 = false) ∧
    (degradation7.tmOn = true ∧ degradation7.flEnabled 3 = true ∧ (ldegU degradation7 0).fl TM_FLINK.LINK_STATUS.ALIGN 3 = alInFrame ∧
      ldegM degradation7 0 ≤ ((ldegV degradation7 0).link 3).good ∧ (ldegV degradation7 0).flb TM_FLINK.LINK_STATUS.DEG 3 = true) ∧
    (degradation5.tmOn = true ∧ degradation5.flEnabled 3 = true ∧ (ldegU degradation5 0).fl TM_FLINK.LINK_STATUS.ALIGN 3 = alInFrame ∧
      ((ldegV degradation5 0).link 3).bad < ldegM degradation5 0 ∧ (ldegV degradation5 0).flb TM_FLINK.LINK_STATUS.DEG 3 = false) := by
  unfold portOn
  refine ⟨?_, ?_, ?_, ?_, ?_, ?_, ?_, ?_⟩ <;> decide +kernel

def pauseAndPreemption0 : State := ((up.wf FE_PG.PORT_CFG.ENABLE 1).wf FE_PG.PORT_STATUS.LINK_UP 1).wf FE_PG.PFC_CFG.PFC_EN 0xFF
def pauseAndPreemption1 : State := { up.wf FE_PG.PFC_THR.PFC_XON 0 with timers := [⟨.pfcPause, 3, 5000⟩, ⟨.pfcRefresh, 3, 5000⟩, ⟨.preempt, 0, 5000⟩], net := { up.net with ports := [(0, ⟨0, 0, true, 0, 8, [], false, 0, 0⟩)] } }
def pauseAndPreemption2 : State := { up with timers := [⟨.pfcRefresh, 3, 5000⟩] }
theorem witness_pause_and_preemption :
    (pauseAndPreemption0.feOn = true ∧ pauseAndPreemption0.linkUp 0 = true ∧ pauseAndPreemption0.loopedLanes 0 = false) ∧
    (pauseAndPreemption1.feOn = true ∧ (pauseAndPreemption1.timerAt .pfcPause (0 * 8 + 3)).isSome = true) ∧
    (pauseAndPreemption1.feOn = true ∧ (pauseAndPreemption1.timerAt .pfcRefresh (0 * 8 + 3)).isSome = true ∧
      bit ((pauseAndPreemption1.expired .pfcRefresh (0 * 8 + 3) (theTime pauseAndPreemption1 .pfcRefresh (0 * 8 + 3))).netPort 0).xoff 3 = true ∧
      (pauseAndPreemption1.expired .pfcRefresh (0 * 8 + 3) (theTime pauseAndPreemption1 .pfcRefresh (0 * 8 + 3))).pg FE_PG.PFC_THR.PFC_XON 0 * 256 ≤ (pauseAndPreemption1.expired .pfcRefresh (0 * 8 + 3) (theTime pauseAndPreemption1 .pfcRefresh (0 * 8 + 3))).pfcBytes 0 3) ∧
    (pauseAndPreemption2.feOn = true ∧ (pauseAndPreemption2.timerAt .pfcRefresh (0 * 8 + 3)).isSome = true ∧
      (bit ((pauseAndPreemption2.expired .pfcRefresh (0 * 8 + 3) (theTime pauseAndPreemption2 .pfcRefresh (0 * 8 + 3))).netPort 0).xoff 3 = false ∨ (pauseAndPreemption2.expired .pfcRefresh (0 * 8 + 3) (theTime pauseAndPreemption2 .pfcRefresh (0 * 8 + 3))).pfcBytes 0 3 < (pauseAndPreemption2.expired .pfcRefresh (0 * 8 + 3) (theTime pauseAndPreemption2 .pfcRefresh (0 * 8 + 3))).pg FE_PG.PFC_THR.PFC_XON 0 * 256)) ∧
    (pauseAndPreemption0.feOn = true ∧ pauseAndPreemption0.blockOpen (pgPage 0) = true ∧ bit 8 3 = true) ∧
    (pauseAndPreemption0.feOn = true ∧ pauseAndPreemption0.blockOpen (pgPage 0) = true ∧ bit 0 3 = false) ∧
    (pauseAndPreemption1.feOn = true ∧ (pauseAndPreemption1.timerAt .preempt 0).isSome = true) := by
  refine ⟨?_, ?_, ?_, ?_, ?_, ?_, ?_⟩ <;> decide +kernel

def protectionCommands1 : State := { up with timers := [⟨.rcvyReset, 3, 5000⟩] }
def protectionCommands2 : State := { up.wf FE_PG.PORT_STATUS.PROT_STATE protWait with timers := [⟨.protWtr, 0, 5000⟩] }
def protectionCommands3 : State := { up with timers := [⟨.protWtr, 0, 5000⟩] }
def protectionCommands5 : State := { up.wfp FE_PG.TS_CTRL.TS_VALID 0 0 1 with net := { up.net with ts := [(0, [⟨1, 2, 3, 4⟩])] } }
def protectionCommands6 : State := up.wfi FE_PROT.DATA.DATA 0 0x10
theorem witness_protection_commands :
    (up.feOn = true ∧ up.blockOpen 75 = true ∧ bit 65539 16 = true) ∧
    (up.feOn = true ∧ up.blockOpen 75 = true ∧ bit 3 16 = false ∧
      bits (up.rfi FE_PROT.DATA.DATA 0) 0 8 / 16 = bits (up.rfi FE_PROT.DATA.DATA 0) 8 8 / 16) ∧
    (protectionCommands6.feOn = true ∧ protectionCommands6.blockOpen 75 = true ∧ bit 3 16 = false ∧
      bits (protectionCommands6.rfi FE_PROT.DATA.DATA 0) 0 8 / 16 ≠ bits (protectionCommands6.rfi FE_PROT.DATA.DATA 0) 8 8 / 16) ∧
    (protectionCommands1.feOn = true ∧ (protectionCommands1.timerAt .rcvyReset 3).isSome = true) ∧
    (protectionCommands2.feOn = true ∧ (protectionCommands2.timerAt .protWtr 0).isSome = true ∧
      (protectionCommands2.expired .protWtr 0 (theTime protectionCommands2 .protWtr 0)).pg FE_PG.PORT_STATUS.PROT_STATE 0 = protWait) ∧
    (protectionCommands3.feOn = true ∧ (protectionCommands3.timerAt .protWtr 0).isSome = true ∧
      (protectionCommands3.expired .protWtr 0 (theTime protectionCommands3 .protWtr 0)).pg FE_PG.PORT_STATUS.PROT_STATE 0 ≠ protWait) ∧
    (up.feOn = true ∧ up.blockOpen 75 = true ∧ 5 < 2 ^ 32) ∧
    (protectionCommands5.feOn = true ∧ protectionCommands5.blockOpen (16 + 0) = true ∧ protectionCommands5.rfp FE_PG.TS_CTRL.TS_VALID 0 0 = 1) := by
  refine ⟨?_, ?_, ?_, ?_, ?_, ?_, ?_, ?_⟩ <;> decide +kernel

/-- Link 3 enabled, its codewords locked, its alignment in the state. -/
def aligned (a : Nat) : State :=
  ((up.setFl TM_FLINK.LINK_CFG.ENABLE 3 1).setFl TM_FLINK.LINK_STATUS.CW_LOCK 3 1).setFl TM_FLINK.LINK_STATUS.ALIGN 3 a
theorem witness_link_alignment :
    ((up.setFl TM_FLINK.LINK_CFG.ENABLE 3 1).tmOn = true ∧ (up.setFl TM_FLINK.LINK_CFG.ENABLE 3 1).flEnabled 3 = true) ∧
    ((aligned alHunt).tmOn = true ∧ (aligned alHunt).flEnabled 3 = true ∧ (aligned alHunt).flb TM_FLINK.LINK_STATUS.CW_LOCK 3 = true ∧
      (aligned alHunt).fl TM_FLINK.LINK_STATUS.ALIGN 3 = alHunt ∧ ((aligned alHunt).link 3).start < 64000) ∧
    ((aligned alPresync).tmOn = true ∧ (aligned alPresync).flEnabled 3 = true ∧ (aligned alPresync).flb TM_FLINK.LINK_STATUS.CW_LOCK 3 = true ∧
      ((aligned alPresync).link 3).cand < 64000 ∧ (aligned alPresync).fl TM_FLINK.LINK_STATUS.ALIGN 3 = alPresync) ∧
    ((aligned alInFrame).tmOn = true ∧ (aligned alInFrame).flEnabled 3 = true ∧ (aligned alInFrame).flb TM_FLINK.LINK_STATUS.CW_LOCK 3 = true ∧
      ((aligned alInFrame).link 3).cand < 64000 ∧ (aligned alInFrame).fl TM_FLINK.LINK_STATUS.ALIGN 3 = alInFrame) := by decide +kernel
/-- A scan that meets no exact word, and one that meets a single one at the last phase: both with the word of the checked phase broken. -/
theorem witness_link_scan :
    (∀ q, ¬(q = 5 ∧ 4 = 0 ∨ q ∈ ([] : List Nat) ∧ q < 64000)) ∧
    ((63999 = 5 ∧ 4 = 0 ∨ 63999 ∈ [63999] ∧ 63999 < 64000) ∧
      ∀ r, (r = 5 ∧ 4 = 0 ∨ r ∈ [63999] ∧ r < 64000) →
        (63999 + 64000 - ((aligned alHunt).link 3).start) % 64000 ≤ (r + 64000 - ((aligned alHunt).link 3).start) % 64000) := by
  refine ⟨by simp, by simp, fun r h => ?_⟩
  obtain ⟨_, h⟩ | ⟨h, _⟩ := h
  · cases h
  · rw [List.mem_singleton.mp h]

def overheadReceive0 : State := (up.setFl TM_FLINK.LINK_CFG.ENABLE 3 1).setFl TM_FLINK.LINK_STATUS.ALIGN 3 2
def overheadReceive1 : State := ((up.setFl TM_FLINK.LINK_CFG.ENABLE 3 1).setFl TM_FLINK.LINK_STATUS.ALIGN 3 2).updLink 3 (fun l => { l with steps := 1 })
def overheadReceive2 : State := (up.setFl TM_FLINK.LINK_CFG.ENABLE 3 1).setFl TM_FLINK.LINK_STATUS.ALIGN 3 3
theorem witness_overhead_receive :
    (overheadReceive0.tmOn = true ∧ overheadReceive0.flEnabled 3 = true ∧ overheadReceive0.flLooped 3 = false ∧
      overheadReceive0.fl TM_FLINK.LINK_STATUS.ALIGN 3 = alCheck ∧
      ohGood (List.take 8 (ohOf 7) ++ scramble 8 (List.drop 8 (ohOf 7))) false = true ∧ (overheadReceive0.link 3).steps = 0) ∧
    (overheadReceive1.tmOn = true ∧ overheadReceive1.flEnabled 3 = true ∧ overheadReceive1.flLooped 3 = false ∧
      overheadReceive1.fl TM_FLINK.LINK_STATUS.ALIGN 3 = alCheck ∧
      ohGood (List.take 8 (ohOf 7) ++ scramble 8 (List.drop 8 (ohOf 7))) false = true ∧ (overheadReceive1.link 3).steps ≠ 0) ∧
    (overheadReceive0.tmOn = true ∧ overheadReceive0.flEnabled 3 = true ∧ overheadReceive0.flLooped 3 = false ∧
      overheadReceive0.fl TM_FLINK.LINK_STATUS.ALIGN 3 = alCheck ∧ ohGood (List.take 8 [] ++ scramble 8 (List.drop 8 [])) false = false) ∧
    (overheadReceive2.tmOn = true ∧ overheadReceive2.flEnabled 3 = true ∧ overheadReceive2.flLooped 3 = false ∧
      overheadReceive2.fl TM_FLINK.LINK_STATUS.ALIGN 3 = alInFrame ∧
      ohGood (List.take 8 (ohOf 7) ++ scramble 8 (List.drop 8 (ohOf 7))) false = true) ∧
    (overheadReceive2.tmOn = true ∧ overheadReceive2.flEnabled 3 = true ∧ overheadReceive2.flLooped 3 = false ∧
      overheadReceive2.fl TM_FLINK.LINK_STATUS.ALIGN 3 = alInFrame ∧ ohGood (List.take 8 [] ++ scramble 8 (List.drop 8 [])) false = false) := by
  refine ⟨?_, ?_, ?_, ?_, ?_⟩ <;> decide +kernel

def linkControl1 : State := up.setFl TM_FLINK.LINK_CFG.ENABLE 3 1
def linkControl2 : State := shut up 4136
def linkControl3 : State := { up with timers := [⟨.flinkWtr, 3, 5000⟩, ⟨.flinkTrain, 3, 5000⟩, ⟨.fcTimeout, 35, 5000⟩] }
def linkControl4 : State := { up with links := [(3, { FLink.zero with accepted := some [1, 2] })] }
theorem witness_link_control :
    (linkControl1.tmOn = true ∧ linkControl1.blockOpen (flPage 3) = true ∧ linkControl1.flb TM_FLINK.LINK_CFG.ENABLE 3 = true) ∧
    (up.tmOn = true ∧ up.blockOpen (flPage 3) = true ∧ up.flb TM_FLINK.LINK_CFG.ENABLE 3 = false) ∧
    (linkControl1.tmOn = true ∧ linkControl1.blockOpen (flPage 3) = true ∧ linkControl1.flEnabled 3 = true) ∧
    (linkControl2.tmOn = true ∧ (320 ≤ 3 ∨ linkControl2.blockOpen (flPage 3) = false)) ∧
    (linkControl3.tmOn = true ∧ (linkControl3.timerAt .flinkWtr 3).isSome = true) ∧
    (linkControl3.tmOn = true ∧ (linkControl3.timerAt .flinkTrain 3).isSome = true) ∧
    (linkControl3.tmOn = true ∧ (linkControl3.timerAt .fcTimeout (1 * 32 + 3)).isSome = true) ∧
    (up.tmOn = true ∧ up.blockOpen (4136 + 0) = true ∧ bits 3 5 3 = 0) ∧
    (up.tmOn = true ∧ up.blockOpen (4136 + 0) = true ∧ bits 35 5 3 = 1) ∧
    (linkControl4.tmOn = true ∧ linkControl4.blockOpen (4136 + 0) = true ∧ bits 67 5 3 = 2 ∧
      ((linkControl4.link (32 * 0 + bits 67 0 5)).accepted).isSome = true) ∧
    (up.tmOn = true ∧ up.blockOpen (4136 + 0) = true ∧ bits 67 5 3 = 2 ∧ (up.link (32 * 0 + bits 67 0 5)).accepted = none) ∧
    (up.tmOn = true ∧ up.blockOpen (4136 + 0) = true ∧ (bits 99 5 3 = 3 ∨ bits 99 5 3 = 4)) ∧
    (up.tmOn = true ∧ up.blockOpen (4136 + 0) = true ∧ 5 ≤ bits 163 5 3) ∧
    (up.tmOn = true ∧ up.blockOpen (4136 + 0) = true ∧ 2 ≤ bits 67 5 3) := by
  refine ⟨?_, ?_, ?_, ?_, ?_, ?_, ?_, ?_, ?_, ?_, ?_, ?_, ?_, ?_⟩ <;> decide +kernel

def channelCommands0 : State := (cu 0x20 [(144, 3), (160, 300)])
def channelCommands1 : State := (cu 0x20 [(144, 3), (192, 1), (128,1)])
def channelCommands2 : State := (cu 0x20 [(144, 3), (192, 1), (128,1)]).setChan 3 ⟨true, false, 1, true, 0, 0, 1, false, 0, 0, none, 0⟩
def channelCommands4 : State := (cu 0x22 [(64, 99)])
def channelCommands5 : State := cu 0x21 [(64, 99)]
def channelCommands6 : State := cu 0x23 [(64, 99)]
def channelCommands7 : State := (cu 0x22 [(64, 65539)]).setChan 3 ⟨true, false, 1, true, 0, 0, 1, false, 0, 0, none, 0⟩
def channelCommands8 : State := (cu 0x22 [(64, 65539), (192, 4)]).setChan 3 ⟨true, false, 1, true, 0, 0, 1, false, 0, 0, none, 0⟩
def channelCommands9 : State := ((cu 0x21 [(64, 65539)]).setChan 3 ⟨true, false, 1, true, 0, 0, 1, false, 0, 0, none, 0⟩).pkt { pkt with loc := .queue 24, egr := true }
def channelCommands10 : State := (cu 0x23 [(64, 65539)]).setChan 3 ⟨true, false, 1, true, 0, 0, 1, false, 0, 0, none, 0⟩
def channelCommands11 : State := (cu 0x21 [(64, 65539), (128, 1)]).setChan 3 ⟨true, false, 1, true, 0, 0, 1, false, 0, 0, none, 0⟩
theorem witness_channel_commands :
    (channelCommands0.tmOn = true ∧ channelCommands0.cmd 1 = some (theCmd channelCommands0) ∧
      channelCommands0.mayStart (theCmd channelCommands0) = true ∧ (theCmd channelCommands0).opcode = 32 ∧
      (((fun (port : Nat) (voq : Bool) => if 256 < port ∨ (theCmd channelCommands0).bits 129 1 = 1 ∧
      voq = true then some 16 else if 16383 < (theCmd channelCommands0).bits 200 14 then some 17 else if (theCmd channelCommands0).bits 192 8 = 0 then some 19 else none) ((theCmd channelCommands0).bits 160 9) ((theCmd channelCommands0).bits 128 1 != 1)).isSome = true)) ∧
    (channelCommands2.tmOn = true ∧ channelCommands2.cmd 1 = some (theCmd channelCommands2) ∧
      channelCommands2.mayStart (theCmd channelCommands2) = true ∧ (theCmd channelCommands2).opcode = 32 ∧
      ((fun (port : Nat) (voq : Bool) => if 256 < port ∨ (theCmd channelCommands2).bits 129 1 = 1 ∧
      voq = true then some 16 else if 16383 < (theCmd channelCommands2).bits 200 14 then some 17 else if (theCmd channelCommands2).bits 192 8 = 0 then some 19 else none) ((theCmd channelCommands2).bits 160 9) ((theCmd channelCommands2).bits 128 1 != 1) = none) ∧ (theCmd channelCommands2).bits 130 1 ≠ 1 ∧ (channelCommands2.chan ((theCmd channelCommands2).bits 144 16)).used = true) ∧
    (channelCommands1.tmOn = true ∧ channelCommands1.cmd 1 = some (theCmd channelCommands1) ∧
      channelCommands1.mayStart (theCmd channelCommands1) = true ∧ (theCmd channelCommands1).opcode = 32 ∧
      ((fun (port : Nat) (voq : Bool) => if 256 < port ∨ (theCmd channelCommands1).bits 129 1 = 1 ∧
      voq = true then some 16 else if 16383 < (theCmd channelCommands1).bits 200 14 then some 17 else if (theCmd channelCommands1).bits 192 8 = 0 then some 19 else none) ((theCmd channelCommands1).bits 160 9) ((theCmd channelCommands1).bits 128 1 != 1) = none) ∧ (channelCommands1.chan 3).used = false ∧ ((theCmd channelCommands1).bits 130 1 ≠ 1 ∧ 3 = (theCmd channelCommands1).bits 144 16 ∨ (theCmd channelCommands1).bits 130 1 = 1 ∧ 3 < 65536 ∧ ∀ y < 3, (channelCommands1.chan y).used = true)) ∧
    (channelCommands4.tmOn = true ∧ channelCommands4.cmd 1 = some (theCmd channelCommands4) ∧
      channelCommands4.mayStart (theCmd channelCommands4) = true ∧ channelCommands4.cmdChan (theCmd channelCommands4) = none ∧
      (theCmd channelCommands4).opcode = 34) ∧
    (channelCommands5.tmOn = true ∧ channelCommands5.cmd 1 = some (theCmd channelCommands5) ∧
      channelCommands5.mayStart (theCmd channelCommands5) = true ∧ channelCommands5.cmdChan (theCmd channelCommands5) = none ∧
      (theCmd channelCommands5).opcode = 33) ∧
    (channelCommands6.tmOn = true ∧ channelCommands6.cmd 1 = some (theCmd channelCommands6) ∧
      channelCommands6.mayStart (theCmd channelCommands6) = true ∧ channelCommands6.cmdChan (theCmd channelCommands6) = none ∧
      (theCmd channelCommands6).opcode = 35) ∧
    (channelCommands7.tmOn = true ∧ channelCommands7.cmd 1 = some (theCmd channelCommands7) ∧
      channelCommands7.mayStart (theCmd channelCommands7) = true ∧ (channelCommands7.cmdChan (theCmd channelCommands7)).isSome = true ∧
      (theCmd channelCommands7).opcode = 34 ∧ ((((fun (port : Nat) (voq : Bool) => if 256 < port ∨ (theCmd channelCommands7).bits 129 1 = 1 ∧
      voq = true then some 16 else if 16383 < (theCmd channelCommands7).bits 200 14 then some 17 else if (theCmd channelCommands7).bits 192 8 = 0 then some 19 else none) (channelCommands7.chan (Option.get (channelCommands7.cmdChan (theCmd channelCommands7)) (by decide +kernel))).outPort !(channelCommands7.chan (Option.get (channelCommands7.cmdChan (theCmd channelCommands7)) (by decide +kernel))).egress)).isSome = true)) ∧
    (channelCommands8.tmOn = true ∧ channelCommands8.cmd 1 = some (theCmd channelCommands8) ∧
      channelCommands8.mayStart (theCmd channelCommands8) = true ∧ (channelCommands8.cmdChan (theCmd channelCommands8)).isSome = true ∧
      (theCmd channelCommands8).opcode = 34 ∧ (((fun (port : Nat) (voq : Bool) => if 256 < port ∨ (theCmd channelCommands8).bits 129 1 = 1 ∧
      voq = true then some 16 else if 16383 < (theCmd channelCommands8).bits 200 14 then some 17 else if (theCmd channelCommands8).bits 192 8 = 0 then some 19 else none) (channelCommands8.chan (Option.get (channelCommands8.cmdChan (theCmd channelCommands8)) (by decide +kernel))).outPort !(channelCommands8.chan (Option.get (channelCommands8.cmdChan (theCmd channelCommands8)) (by decide +kernel))).egress) = none)) ∧
    (channelCommands11.tmOn = true ∧ channelCommands11.cmd 1 = some (theCmd channelCommands11) ∧
      channelCommands11.mayStart (theCmd channelCommands11) = true ∧ (channelCommands11.cmdChan (theCmd channelCommands11)).isSome = true ∧
      (theCmd channelCommands11).opcode = 33 ∧
      ((if (theCmd channelCommands11).bits 128 1 = 1 then ((((((channelCommands11.begin 1).tookEffect 1).clearPortChan (channelCommands11.handleOf (Option.get (channelCommands11.cmdChan (theCmd channelCommands11)) (by decide +kernel)))).setChan (Option.get (channelCommands11.cmdChan (theCmd channelCommands11)) (by decide +kernel)) { (channelCommands11.chan (Option.get (channelCommands11.cmdChan (theCmd channelCommands11)) (by decide +kernel))) with dying := true, gen := if (channelCommands11.chan (Option.get (channelCommands11.cmdChan (theCmd channelCommands11)) (by decide +kernel))).gen = 65535 then 1 else (channelCommands11.chan (Option.get (channelCommands11.cmdChan (theCmd channelCommands11)) (by decide +kernel))).gen + 1, portDefault := false, cmd := some 1, drops := 0 }).arm .destroy (Option.get (channelCommands11.cmdChan (theCmd channelCommands11)) (by decide +kernel)) (orWhenZero (((((channelCommands11.begin 1).tookEffect 1).clearPortChan (channelCommands11.handleOf (Option.get (channelCommands11.cmdChan (theCmd channelCommands11)) (by decide +kernel)))).setChan (Option.get (channelCommands11.cmdChan (theCmd channelCommands11)) (by decide +kernel)) { (channelCommands11.chan (Option.get (channelCommands11.cmdChan (theCmd channelCommands11)) (by decide +kernel))) with dying := true, gen := if (channelCommands11.chan (Option.get (channelCommands11.cmdChan (theCmd channelCommands11)) (by decide +kernel))).gen = 65535 then 1 else (channelCommands11.chan (Option.get (channelCommands11.cmdChan (theCmd channelCommands11)) (by decide +kernel))).gen + 1, portDefault := false, cmd := some 1, drops := 0 }).rf TM_CHAN.DESTROY_TIMEOUT.MS) 1 * cyMs)).chanFlush (Option.get (channelCommands11.cmdChan (theCmd channelCommands11)) (by decide +kernel))).2 else ((((channelCommands11.begin 1).tookEffect 1).clearPortChan (channelCommands11.handleOf (Option.get (channelCommands11.cmdChan (theCmd channelCommands11)) (by decide +kernel)))).setChan (Option.get (channelCommands11.cmdChan (theCmd channelCommands11)) (by decide +kernel)) { (channelCommands11.chan (Option.get (channelCommands11.cmdChan (theCmd channelCommands11)) (by decide +kernel))) with dying := true, gen := if (channelCommands11.chan (Option.get (channelCommands11.cmdChan (theCmd channelCommands11)) (by decide +kernel))).gen = 65535 then 1 else (channelCommands11.chan (Option.get (channelCommands11.cmdChan (theCmd channelCommands11)) (by decide +kernel))).gen + 1, portDefault := false, cmd := some 1, drops := 0 }).arm .destroy (Option.get (channelCommands11.cmdChan (theCmd channelCommands11)) (by decide +kernel)) (orWhenZero (((((channelCommands11.begin 1).tookEffect 1).clearPortChan (channelCommands11.handleOf (Option.get (channelCommands11.cmdChan (theCmd channelCommands11)) (by decide +kernel)))).setChan (Option.get (channelCommands11.cmdChan (theCmd channelCommands11)) (by decide +kernel)) { (channelCommands11.chan (Option.get (channelCommands11.cmdChan (theCmd channelCommands11)) (by decide +kernel))) with dying := true, gen := if (channelCommands11.chan (Option.get (channelCommands11.cmdChan (theCmd channelCommands11)) (by decide +kernel))).gen = 65535 then 1 else (channelCommands11.chan (Option.get (channelCommands11.cmdChan (theCmd channelCommands11)) (by decide +kernel))).gen + 1, portDefault := false, cmd := some 1, drops := 0 }).rf TM_CHAN.DESTROY_TIMEOUT.MS) 1 * cyMs)).chanPkts (Option.get (channelCommands11.cmdChan (theCmd channelCommands11)) (by decide +kernel))).isEmpty = true) ∧
    (channelCommands9.tmOn = true ∧ channelCommands9.cmd 1 = some (theCmd channelCommands9) ∧
      channelCommands9.mayStart (theCmd channelCommands9) = true ∧ (channelCommands9.cmdChan (theCmd channelCommands9)).isSome = true ∧
      (theCmd channelCommands9).opcode = 33 ∧
      ((if (theCmd channelCommands9).bits 128 1 = 1 then ((((((channelCommands9.begin 1).tookEffect 1).clearPortChan (channelCommands9.handleOf (Option.get (channelCommands9.cmdChan (theCmd channelCommands9)) (by decide +kernel)))).setChan (Option.get (channelCommands9.cmdChan (theCmd channelCommands9)) (by decide +kernel)) { (channelCommands9.chan (Option.get (channelCommands9.cmdChan (theCmd channelCommands9)) (by decide +kernel))) with dying := true, gen := if (channelCommands9.chan (Option.get (channelCommands9.cmdChan (theCmd channelCommands9)) (by decide +kernel))).gen = 65535 then 1 else (channelCommands9.chan (Option.get (channelCommands9.cmdChan (theCmd channelCommands9)) (by decide +kernel))).gen + 1, portDefault := false, cmd := some 1, drops := 0 }).arm .destroy (Option.get (channelCommands9.cmdChan (theCmd channelCommands9)) (by decide +kernel)) (orWhenZero (((((channelCommands9.begin 1).tookEffect 1).clearPortChan (channelCommands9.handleOf (Option.get (channelCommands9.cmdChan (theCmd channelCommands9)) (by decide +kernel)))).setChan (Option.get (channelCommands9.cmdChan (theCmd channelCommands9)) (by decide +kernel)) { (channelCommands9.chan (Option.get (channelCommands9.cmdChan (theCmd channelCommands9)) (by decide +kernel))) with dying := true, gen := if (channelCommands9.chan (Option.get (channelCommands9.cmdChan (theCmd channelCommands9)) (by decide +kernel))).gen = 65535 then 1 else (channelCommands9.chan (Option.get (channelCommands9.cmdChan (theCmd channelCommands9)) (by decide +kernel))).gen + 1, portDefault := false, cmd := some 1, drops := 0 }).rf TM_CHAN.DESTROY_TIMEOUT.MS) 1 * cyMs)).chanFlush (Option.get (channelCommands9.cmdChan (theCmd channelCommands9)) (by decide +kernel))).2 else ((((channelCommands9.begin 1).tookEffect 1).clearPortChan (channelCommands9.handleOf (Option.get (channelCommands9.cmdChan (theCmd channelCommands9)) (by decide +kernel)))).setChan (Option.get (channelCommands9.cmdChan (theCmd channelCommands9)) (by decide +kernel)) { (channelCommands9.chan (Option.get (channelCommands9.cmdChan (theCmd channelCommands9)) (by decide +kernel))) with dying := true, gen := if (channelCommands9.chan (Option.get (channelCommands9.cmdChan (theCmd channelCommands9)) (by decide +kernel))).gen = 65535 then 1 else (channelCommands9.chan (Option.get (channelCommands9.cmdChan (theCmd channelCommands9)) (by decide +kernel))).gen + 1, portDefault := false, cmd := some 1, drops := 0 }).arm .destroy (Option.get (channelCommands9.cmdChan (theCmd channelCommands9)) (by decide +kernel)) (orWhenZero (((((channelCommands9.begin 1).tookEffect 1).clearPortChan (channelCommands9.handleOf (Option.get (channelCommands9.cmdChan (theCmd channelCommands9)) (by decide +kernel)))).setChan (Option.get (channelCommands9.cmdChan (theCmd channelCommands9)) (by decide +kernel)) { (channelCommands9.chan (Option.get (channelCommands9.cmdChan (theCmd channelCommands9)) (by decide +kernel))) with dying := true, gen := if (channelCommands9.chan (Option.get (channelCommands9.cmdChan (theCmd channelCommands9)) (by decide +kernel))).gen = 65535 then 1 else (channelCommands9.chan (Option.get (channelCommands9.cmdChan (theCmd channelCommands9)) (by decide +kernel))).gen + 1, portDefault := false, cmd := some 1, drops := 0 }).rf TM_CHAN.DESTROY_TIMEOUT.MS) 1 * cyMs)).chanPkts (Option.get (channelCommands9.cmdChan (theCmd channelCommands9)) (by decide +kernel))).isEmpty = false) ∧
    (channelCommands9.tmOn = true ∧ channelCommands9.cmd 1 = some (theCmd channelCommands9) ∧
      channelCommands9.mayStart (theCmd channelCommands9) = true ∧ (channelCommands9.cmdChan (theCmd channelCommands9)).isSome = true ∧
      (theCmd channelCommands9).opcode = 33 ∧
      (channelCommands9.chanPkts (Option.get (channelCommands9.cmdChan (theCmd channelCommands9)) (by decide +kernel))).isEmpty = false ∧
      (theCmd channelCommands9).bits 128 1 ≠ 1) ∧
    (channelCommands10.tmOn = true ∧ channelCommands10.cmd 1 = some (theCmd channelCommands10) ∧
      channelCommands10.mayStart (theCmd channelCommands10) = true ∧ (channelCommands10.cmdChan (theCmd channelCommands10)).isSome = true ∧
      (theCmd channelCommands10).opcode = 35) := by
  refine ⟨?_, ?_, ?_, ?_, ?_, ?_, ?_, ?_, ?_, ?_, ?_, ?_⟩ <;> decide +kernel

def channelDestroyEnds0 : State := up.setChan 3 ⟨true, true, 2, true, 0, 0, 1, false, 0, 0, some 1, 0⟩
def channelDestroyEnds1 : State := { (up.setChan 3 ⟨true, true, 2, true, 0, 0, 1, false, 0, 0, some 1, 0⟩).pkt { pkt with loc := .queue 24, egr := true } with timers := [⟨.destroy, 3, 5000⟩] }
theorem witness_channel_destroy_ends :
    (channelDestroyEnds0.tmOn = true ∧ (channelDestroyEnds0.chan 3).dying = true ∧ (channelDestroyEnds0.chanPkts 3).isEmpty = true) ∧
    (channelDestroyEnds1.tmOn = true ∧ (channelDestroyEnds1.chan 3).dying = true ∧ (channelDestroyEnds1.chanPkts 3).isEmpty = false) ∧
    (channelDestroyEnds1.tmOn = true ∧ (channelDestroyEnds1.timerAt .destroy 3).isSome = true ∧
      ((channelDestroyEnds1.expired .destroy 3 (theTime channelDestroyEnds1 .destroy 3)).chan 3).dying = true) := by
  refine ⟨?_, ?_, ?_⟩ <;> decide +kernel

def queueCommands2 : State := { up with timers := [⟨.portHold, 0, 5000⟩] }
def queueCommands4 : State := ((up.wf FE_PG.PORT_CFG.ENABLE 1).wf FE_PG.PORT_STATUS.LINK_UP 1).wfi TM_QUEUE.PORT_STATE.STATE 0 tmDown
theorem witness_queue_commands :
    (up.tmOn = true ∧ up.tmPort 0 = tmUp ∧ up.tmPortDown 0 = true) ∧
    (queueCommands4.tmOn = true ∧ queueCommands4.tmPort 0 ≠ tmUp ∧ queueCommands4.tmPortDown 0 = false) ∧
    (queueCommands2.tmOn = true ∧ (queueCommands2.timerAt .portHold 0).isSome = true) ∧
    (up.tmOn = true ∧ up.blockOpen 4149 = true) := by
  refine ⟨?_, ?_, ?_, ?_⟩ <;> decide +kernel

def schedulerRecords0 : State := wild up
theorem witness_scheduler_records :
    (schedulerRecords0.tmOn = true ∧ schedulerRecords0.blockOpen 4151 = true ∧ schedulerRecords0.nodeAt (bits 3 0 2) (bits 3 2 16) = none) ∧
    (schedulerRecords0.tmOn = true ∧ schedulerRecords0.blockOpen 4151 = true ∧
      (schedulerRecords0.nodeAt (bits 5 0 2) (bits 5 2 16)).isSome = true ∧ (bits 5 0 2 = 1 ∧
      257 < schedulerRecords0.rf TM_SCHED.NODE_DATA0.PARENT ∨ bits 5 0 2 = 2 ∧
      4095 < schedulerRecords0.rf TM_SCHED.NODE_DATA0.PARENT ∨ bits 5 0 2 ≠ 0 ∧ schedulerRecords0.rf TM_SCHED.NODE_DATA1.SHAPE_EN = 1 ∧
      schedulerRecords0.calLimit (bits 5 0 2) ≤ Option.get (schedulerRecords0.nodeAt (bits 5 0 2) (bits 5 2 16)) (by decide +kernel) % 65536)) ∧
    (up.tmOn = true ∧ up.blockOpen 4151 = true ∧ (up.nodeAt (bits 5 0 2) (bits 5 2 16)).isSome = true ∧ (¬(bits 5 0 2 = 1 ∧
      257 < up.rf TM_SCHED.NODE_DATA0.PARENT)) ∧ (¬(bits 5 0 2 = 2 ∧ 4095 < up.rf TM_SCHED.NODE_DATA0.PARENT)) ∧ (¬(bits 5 0 2 ≠ 0 ∧
      up.rf TM_SCHED.NODE_DATA1.SHAPE_EN = 1 ∧
      up.calLimit (bits 5 0 2) ≤ Option.get (up.nodeAt (bits 5 0 2) (bits 5 2 16)) (by decide +kernel) % 65536))) ∧
    (schedulerRecords0.tmOn = true ∧ schedulerRecords0.blockOpen 4152 = true) := by
  refine ⟨?_, ?_, ?_, ?_⟩ <;> decide +kernel

def policerRecords0 : State := wild up
theorem witness_policer_records :
    policerRecords0.tmOn = true ∧ policerRecords0.blockOpen 4153 = true := by decide +kernel

def calendar1 : State := { up with sc := { up.sc with cal := [⟨50000000000, 3, false⟩, ⟨50000000000, 4, false⟩] } }
def calendar2 : State := { up with sc := { up.sc with cal := [⟨50000000000, 3, true⟩, ⟨50000000000, 4, true⟩] } }
def calendar3 : State := { up with sc := { up.sc with cal := List.replicate 1030 ⟨50000000000, 3, false⟩ } }
theorem witness_calendar :
    (up.tmOn = true ∧ (∀ e ∈ up.sc.cal, e.coarse = true)) ∧
    (up.tmOn = true ∧ (∀ e ∈ up.sc.cal, e.coarse = false)) ∧
    (calendar1.tmOn = true ∧ { slot := 50000000000, node := 3, coarse := false : CalEnt } ∈ calendar1.sc.cal ∧
      { slot := 50000000000, node := 3, coarse := false : CalEnt }.coarse = false ∧
      (∀ x ∈ calendar1.sc.cal, x.coarse = false → { slot := 50000000000, node := 3, coarse := false : CalEnt }.slot ≤ x.slot) ∧
      (List.filter (fun (x : CalEnt) => !x.coarse && decide (x.slot = { slot := 50000000000, node := 3, coarse := false : CalEnt }.slot)) calendar1.sc.cal).length ≤ 1024) ∧
    (calendar3.tmOn = true ∧ { slot := 50000000000, node := 3, coarse := false : CalEnt } ∈ calendar3.sc.cal ∧
      { slot := 50000000000, node := 3, coarse := false : CalEnt }.coarse = false ∧
      (∀ x ∈ calendar3.sc.cal, x.coarse = false → { slot := 50000000000, node := 3, coarse := false : CalEnt }.slot ≤ x.slot) ∧
      1024 < (List.filter (fun (x : CalEnt) => !x.coarse && decide (x.slot = { slot := 50000000000, node := 3, coarse := false : CalEnt }.slot)) calendar3.sc.cal).length) ∧
    (calendar2.tmOn = true ∧ { slot := 50000000000, node := 3, coarse := true : CalEnt } ∈ calendar2.sc.cal ∧
      { slot := 50000000000, node := 3, coarse := true : CalEnt }.coarse = true ∧
      (∀ x ∈ calendar2.sc.cal, x.coarse = true → { slot := 50000000000, node := 3, coarse := true : CalEnt }.slot / 65536 ≤ x.slot / 65536)) := by
  refine ⟨?_, ?_, ?_, ?_, ?_⟩ <;> decide +kernel

def samplesAndRings0 : State := { up with freeCtr := 1 }
def samplesAndRings2 : State := { ((up.wf TM_SAMPLE.DEPTH_INTERVAL.NS 100).setChan 3 ⟨true, false, 1, true, 0, 0, 1, false, 0, 0, none, 0⟩).pkt { pkt with loc := .queue 24 } with timers := [⟨.depth, 0, 5000⟩] }
def samplesAndRings3 : State := { up with timers := [⟨.depth, 0, 5000⟩] }
theorem witness_samples_and_rings :
    (samplesAndRings0.tmOn = true ∧ samplesAndRings0.blockOpen 4156 = true) ∧
    (samplesAndRings2.tmOn = true ∧ (samplesAndRings2.timerAt .depth 0).isSome = true ∧
      (samplesAndRings2.expired .depth 0 (theTime samplesAndRings2 .depth 0)).operating 4156 = true ∧
      ((samplesAndRings2.expired .depth 0 (theTime samplesAndRings2 .depth 0)).nextDepthQueue ((samplesAndRings2.expired .depth 0 (theTime samplesAndRings2 .depth 0)).rf TM_SAMPLE.DEPTH_POS.QUEUE)).isSome = true) ∧
    (samplesAndRings3.tmOn = true ∧ (samplesAndRings3.timerAt .depth 0).isSome = true ∧
      ((samplesAndRings3.expired .depth 0 (theTime samplesAndRings3 .depth 0)).operating 4156 = false ∨
      (samplesAndRings3.expired .depth 0 (theTime samplesAndRings3 .depth 0)).nextDepthQueue ((samplesAndRings3.expired .depth 0 (theTime samplesAndRings3 .depth 0)).rf TM_SAMPLE.DEPTH_POS.QUEUE) = none)) ∧
    (samplesAndRings0.tmOn = true ∧ samplesAndRings0.timerAt .depth 0 = none) ∧
    (samplesAndRings0.tmOn = true ∧ samplesAndRings0.blockOpen (recRingOf RecRingId.sample).1 = true ∧ 6 ≤ bits 7 0 5 ∧ bits 7 0 5 ≤ 16) ∧
    (samplesAndRings0.tmOn = true ∧ samplesAndRings0.blockOpen (recRingOf RecRingId.sample).1 = true ∧ (bits 3 0 5 < 6 ∨ 16 < bits 3 0 5)) := by
  refine ⟨?_, ?_, ?_, ?_, ?_, ?_⟩ <;> decide +kernel

def gateCommands0 : State := wild up
def gateCommands2 : State := { up.wf TM_GATE.GATE_SEL.PORT 3 with sc := { up.sc with gates := [(3, { GatePort.mk true ⟨[(0, 0x100000000)], 0, 1, 0, 0, false⟩ ⟨[], 1000, 1, 0, 0, true⟩ true 6000000000 0 0 with en := true })] } }
def gateCommands3 : State := { up.wf TM_GATE.GATE_SEL.PORT 3 with sc := { up.sc with gates := [(3, GatePort.mk true ⟨[(0, 0x64000000FF), (1, 0x1)], 200, 2, 0, 0, false⟩ ⟨[(0, 0x64000000FF), (1, 0x1)], 1000, 1, 0, 0, true⟩ false 6000000000 0 0)] } }
theorem witness_gate_commands :
    (gateCommands0.tmOn = true ∧ gateCommands0.blockOpen 4154 = true ∧
      (gateCause { (gateCommands0.gate (gateCommands0.rf TM_GATE.GATE_SEL.PORT)) with en := bit 0 0, pend := if (gateCommands0.gate (gateCommands0.rf TM_GATE.GATE_SEL.PORT)).pending = true then (gateCommands0.gate (gateCommands0.rf TM_GATE.GATE_SEL.PORT)).pend else { ((gateCommands0.gate (gateCommands0.rf TM_GATE.GATE_SEL.PORT)).pend) with guarded := bit 0 1 } }).isSome = true) ∧
    (gateCommands3.tmOn = true ∧ gateCommands3.blockOpen 4154 = true ∧
      gateCause { (gateCommands3.gate (gateCommands3.rf TM_GATE.GATE_SEL.PORT)) with en := bit 0 0, pend := if (gateCommands3.gate (gateCommands3.rf TM_GATE.GATE_SEL.PORT)).pending = true then (gateCommands3.gate (gateCommands3.rf TM_GATE.GATE_SEL.PORT)).pend else { ((gateCommands3.gate (gateCommands3.rf TM_GATE.GATE_SEL.PORT)).pend) with guarded := bit 0 1 } } = none) ∧
    (gateCommands0.tmOn = true ∧ gateCommands0.blockOpen 4154 = true ∧ (bit 3 8 = false ∨ (gateCommands0.gate (bits 3 0 8)).pending = true)) ∧
    (gateCommands0.tmOn = true ∧ gateCommands0.blockOpen 4154 = true ∧ bit 259 8 = true ∧ (gateCommands0.gate (bits 259 0 8)).pending = false) ∧
    (gateCommands2.tmOn = true ∧ (gateCommands2.gate 3).pending = true) ∧
    (gateCommands0.tmOn = true ∧ (gateCommands0.gate 3).pending = false) ∧
    (gateCommands3.tmOn = true ∧ (gateCommands3.gate 3).en = true ∧
      ((gateCommands3.gate 3).listAt gateCommands3.time).ahead gateCommands3.time = (((((gateCommands3.gate 3).listAt gateCommands3.time).ahead gateCommands3.time).headD (0, 0, 0)).1, ((((gateCommands3.gate 3).listAt gateCommands3.time).ahead gateCommands3.time).headD (0, 0, 0)).2) :: List.drop 1 (((gateCommands3.gate 3).listAt gateCommands3.time).ahead gateCommands3.time)) ∧
    (gateCommands0.tmOn = true ∧ (gateCommands0.gate 3).en = false) := by
  refine ⟨?_, ?_, ?_, ?_, ?_, ?_, ?_, ?_⟩ <;> decide +kernel

theorem witness_gate_switch_time :
    0 < { entries := [], cycleNs := 1000, len := 1, baseNs := 7, baseSec := 1, guarded := true : GateList }.cycleNs ∧
      5 * secUnits + 1000 * ns32 ≤ ({ entries := [], cycleNs := 1000, len := 1, baseNs := 7, baseSec := 1, guarded := true : GateList }.base + 4000001 * { entries := [], cycleNs := 1000, len := 1, baseNs := 7, baseSec := 1, guarded := true : GateList }.cycleNs) * ns32 := by decide +kernel

def ready (s : State) : State := (List.range 16).foldl (fun s c => (s.wfp TM_DMC.STATUS.STATE c 0 dmcReady).wfp TM_DMC.CFG.DENSITY c 0 1) s
def memoryService1 : State := up.wfp TM_DMC.STATUS.STATE 3 0 dmcTraining
def memoryService2 : State := { up.wfp TM_DMC.STATUS.STATE 3 0 dmcTraining with timers := [⟨.dmcTrain, 3, 5000⟩] }
def memoryService3 : State := ready up
def memoryService4 : State := { ready up with dm := { up.dm with hot := [3] } }
def memoryService5 : State := { up with timers := [⟨.dmcTrain, 3, 5000⟩] }
def memoryService6 : State := up.updHdr 4160 (fun h => { h with lock := true })
def memoryService7 : State := up.wf TM_DMC.DDR_CTRL.ENABLE 1
theorem witness_memory_service :
    (memoryService1.tmOn = true ∧ memoryService1.dmcState 3 = dmcTraining) ∧
    (up.tmOn = true ∧ up.dmcState 3 ≠ dmcTraining) ∧
    (memoryService2.tmOn = true ∧ (memoryService2.timerAt .dmcTrain 3).isSome = true ∧
      (memoryService2.expired .dmcTrain 3 (theTime memoryService2 .dmcTrain 3)).dmcState 3 = dmcTraining) ∧
    (memoryService5.tmOn = true ∧ (memoryService5.timerAt .dmcTrain 3).isSome = true ∧
      (memoryService5.expired .dmcTrain 3 (theTime memoryService5 .dmcTrain 3)).dmcState 3 ≠ dmcTraining) ∧
    (memoryService6.tmOn = true ∧ memoryService6.blockOpen 4160 = true ∧ (memoryService6.hdr 4160).lock = true) ∧
    (memoryService7.tmOn = true ∧ memoryService7.blockOpen 4160 = true ∧ (memoryService7.hdr 4160).lock = false ∧
      memoryService7.rfb TM_DMC.DDR_CTRL.ENABLE = true) ∧
    (memoryService3.tmOn = true ∧ memoryService3.blockOpen 4160 = true ∧ (memoryService3.hdr 4160).lock = false ∧
      memoryService3.rfb TM_DMC.DDR_CTRL.ENABLE = false ∧ memoryService3.ddrObstacle = none) ∧
    (up.tmOn = true ∧ up.blockOpen 4160 = true ∧ (up.hdr 4160).lock = false ∧ up.rfb TM_DMC.DDR_CTRL.ENABLE = false ∧
      (up.ddrObstacle).isSome = true) ∧
    (memoryService4.tmOn = true ∧ memoryService4.dmcState 3 = dmcReady ∧ 3 ∈ memoryService4.dm.hot) ∧
    (memoryService3.tmOn = true ∧ memoryService3.dmcState 3 = dmcReady ∧ 3 ∉ memoryService3.dm.hot) := by
  refine ⟨?_, ?_, ?_, ?_, ?_, ?_, ?_, ?_, ?_, ?_⟩ <;> decide +kernel

def frequencyChange0 : State := up.wf TM_DMC.FREQ.BUSY 1
def frequencyChange1 : State := up.wfp TM_DMC.STATUS.STATE 3 0 dmcReady
def frequencyChange2 : State := (up.wfp TM_DMC.STATUS.STATE 3 0 dmcReady).wfp TM_DMC.TSETk_A.RATE 3 1 20
def frequencyChange3 : State := { up with dm := { up.dm with freq := [⟨3, false, 0⟩] } }
def frequencyChange4 : State := { up with dm := { up.dm with freq := [⟨3, true, 4⟩] } }
def frequencyChange5 : State := { up with dm := { up.dm with freq := [⟨3, false, 0⟩], reqs := [⟨1, false, 0, 1, 0, 0, 0, true, false⟩, ⟨1, false, 1, 1, 0, 0, 0, true, false⟩, ⟨1, false, 2, 1, 0, 0, 0, true, false⟩,⟨1, false, 3, 1, 0, 0, 0, true, false⟩] } }
theorem witness_frequency_change :
    (frequencyChange0.tmOn = true ∧ frequencyChange0.blockOpen 4160 = true ∧ frequencyChange0.rfb TM_DMC.FREQ.BUSY = true) ∧
    (frequencyChange1.tmOn = true ∧ frequencyChange1.blockOpen 4160 = true ∧ frequencyChange1.rfb TM_DMC.FREQ.BUSY = false ∧
      (List.find? (fun (c : Nat) => decide (frequencyChange1.otherRate c < 16) || decide (40 < frequencyChange1.otherRate c)) (List.filter (fun (c : Nat) => decide (frequencyChange1.dmcState c = dmcReady)) (List.range 16))).isSome = true) ∧
    (frequencyChange2.tmOn = true ∧ frequencyChange2.blockOpen 4160 = true ∧ frequencyChange2.rfb TM_DMC.FREQ.BUSY = false ∧
      (∀ c ∈ List.filter (fun (c : Nat) => decide (frequencyChange2.dmcState c = dmcReady)) (List.range 16), 16 ≤ frequencyChange2.otherRate c ∧
      frequencyChange2.otherRate c ≤ 40) ∧ List.filter (fun (c : Nat) => decide (frequencyChange2.dmcState c = dmcReady)) (List.range 16) ≠ []) ∧
    (frequencyChange5.tmOn = true ∧ (List.find? (fun (f : Freq) => decide (f.ctl = 3)) frequencyChange5.dm.freq).isSome = true ∧
      (frequencyChange5.dm.reqs.any fun (r : DReq) => r.active && decide (unitCtl r.unit_ = 3)) = true) ∧
    (frequencyChange3.tmOn = true ∧ (List.find? (fun (f : Freq) => decide (f.ctl = 3)) frequencyChange3.dm.freq).isSome = true ∧
      (frequencyChange3.dm.reqs.any fun (r : DReq) => r.active && decide (unitCtl r.unit_ = 3)) = false ∧
      (Option.get (List.find? (fun (f : Freq) => decide (f.ctl = 3)) frequencyChange3.dm.freq) (by decide +kernel)).again = false) ∧
    (frequencyChange4.tmOn = true ∧ (List.find? (fun (f : Freq) => decide (f.ctl = 3)) frequencyChange4.dm.freq).isSome = true ∧
      (frequencyChange4.dm.reqs.any fun (r : DReq) => r.active && decide (unitCtl r.unit_ = 3)) = false ∧
      (Option.get (List.find? (fun (f : Freq) => decide (f.ctl = 3)) frequencyChange4.dm.freq) (by decide +kernel)).again = true) := by
  refine ⟨?_, ?_, ?_, ?_, ?_, ?_⟩ <;> decide +kernel

def memoryWindow1 : State := { (up.wf TM_DMC.CTR_REGION.UNITS 65536).wf TM_DMC.CFG.DENSITY 1 with dm := { up.dm with pend := [(5, ⟨1, 2, 3, 4⟩)] } }
def memoryWindow2 : State := (up.wf TM_DMC.DDR_CTRL.ENABLE 1)
def memoryWindow3 : State := up.wf TM_DMC.MEM.BUSY 1
theorem witness_memory_window :
    (memoryWindow1.tmOn = true ∧ memoryWindow1.ctrUnits ≠ 0 ∧ SMap.get QInc.zero memoryWindow1.dm.pend 5 ≠ QInc.zero ∧
      (∀ r ∈ memoryWindow1.dm.reqs, ¬(r.who = 2 ∧ r.ref = 5))) ∧
    (up.tmOn = true ∧ up.ctrUnits = 0) ∧
    (up.tmOn = true ∧ up.blockOpen 4160 = true ∧ up.rfb TM_DMC.MEM.BUSY = false ∧
      (up.inCtrRegion (up.rf TM_DMC.MEM_ADDR.UNIT) = true ∨ up.rfb TM_DMC.DDR_CTRL.ENABLE = false)) ∧
    (memoryWindow2.tmOn = true ∧ memoryWindow2.blockOpen 4160 = true ∧ memoryWindow2.rfb TM_DMC.MEM.BUSY = false ∧
      memoryWindow2.inCtrRegion (memoryWindow2.rf TM_DMC.MEM_ADDR.UNIT) = false ∧ memoryWindow2.rfb TM_DMC.DDR_CTRL.ENABLE = true) ∧
    (memoryWindow3.tmOn = true ∧ memoryWindow3.rfb TM_DMC.MEM.BUSY = true) ∧
    (memoryWindow1.tmOn = true ∧ memoryWindow1.blockOpen 4160 = true ∧ memoryWindow1.rfb TM_DMC.EXPORT.BUSY = false ∧ memoryWindow1.ctrUnits ≠ 0) ∧
    (up.tmOn = true ∧ up.rfb TM_DMC.EXPORT.BUSY = false) := by
  refine ⟨?_, ?_, ?_, ?_, ?_, ?_, ?_⟩ <;> decide +kernel

def readyx55 (s : State) : State := (List.range 16).foldl (fun s c => (s.wfp TM_DMC.STATUS.STATE c 0 dmcReady).wfp TM_DMC.CFG.DENSITY c 0 1) s
def memoryActivates0 : State := { readyx55 up with dm := { up.dm with reqs := [⟨1, false, 0, 0, 0, 0, 0, false, false⟩] } }
def memoryActivates2 : State := { up with timers := [⟨.throttle, 9, 5000⟩] }
theorem witness_memory_activates :
    (memoryActivates0.tmOn = true ∧ memoryActivates0.dmcState 0 = dmcReady ∧ memoryActivates0.timerAt .wck (0 * 4 + 0) = none ∧
      (List.find? (fun (i : Nat) => ((List.filter (fun (x : Nat × DReq) => x.2.write == memoryActivates0.writeMode (0 * 4 + 0) (memoryActivates0.chanReady (0 * 4 + 0))) (memoryActivates0.chanReady (0 * 4 + 0))).any fun (x : Nat × DReq) => decide (unitBank x.2.unit_ = (0 * 4 + 0) * 16 + i)) && { memoryActivates0 with dm := { memoryActivates0.dm with wmode := SMap.put false memoryActivates0.dm.wmode (0 * 4 + 0) (memoryActivates0.writeMode (0 * 4 + 0) (memoryActivates0.chanReady (0 * 4 + 0))) } }.bankAllows ((0 * 4 + 0) * 16 + i)) (List.map (fun (i : Nat) => (SMap.get 0 memoryActivates0.dm.ptr (0 * 4 + 0) + i) % 16) (List.range 16))).isSome = true ∧ (List.find? (fun (x : Nat × DReq) => decide (unitBank x.2.unit_ = (0 * 4 + 0) * 16 + Option.get (List.find? (fun (i : Nat) => ((List.filter (fun (x : Nat × DReq) => x.2.write == memoryActivates0.writeMode (0 * 4 + 0) (memoryActivates0.chanReady (0 * 4 + 0))) (memoryActivates0.chanReady (0 * 4 + 0))).any fun (x : Nat × DReq) => decide (unitBank x.2.unit_ = (0 * 4 + 0) * 16 + i)) && { memoryActivates0 with dm := { memoryActivates0.dm with wmode := SMap.put false memoryActivates0.dm.wmode (0 * 4 + 0) (memoryActivates0.writeMode (0 * 4 + 0) (memoryActivates0.chanReady (0 * 4 + 0))) } }.bankAllows ((0 * 4 + 0) * 16 + i)) (List.map (fun (i : Nat) => (SMap.get 0 memoryActivates0.dm.ptr (0 * 4 + 0) + i) % 16) (List.range 16))) (by decide +kernel))) (List.filter (fun (x : Nat × DReq) => x.2.write == memoryActivates0.writeMode (0 * 4 + 0) (memoryActivates0.chanReady (0 * 4 + 0))) (memoryActivates0.chanReady (0 * 4 + 0)))).isSome = true) ∧
    (up.tmOn = true ∧ (16 ≤ 0 ∨ 4 ≤ 0 ∨ up.dmcState 0 ≠ dmcReady ∨ ∃ (d : Nat), up.timerAt .wck (0 * 4 + 0) = some d ∧ up.cycle < d)) ∧
    (memoryActivates2.tmOn = true ∧ (memoryActivates2.timerAt .throttle (2 * 4 + 1)).isSome = true) ∧
    (up.tmOn = true ∧ (16 ≤ 0 ∨ up.dmcState 0 ≠ dmcReady)) := by
  refine ⟨?_, ?_, ?_, ?_⟩ <;> decide +kernel

def readyx56 (s : State) : State := (List.range 16).foldl (fun s c => (s.wfp TM_DMC.STATUS.STATE c 0 dmcReady).wfp TM_DMC.CFG.DENSITY c 0 1) s
def memoryAccessEnds0 : State := { up with dm := { up.dm with reqs := [⟨1, false, 0, 1, 0, 0, 0, false, false⟩] } }
def memoryAccessEnds1 : State := { readyx56 up with dm := { up.dm with reqs := [⟨1, false, 0, 1, 0, 0, 0, true, false⟩] } }
def memoryAccessEnds2 : State := { readyx56 up with dm := { up.dm with reqs := [⟨1, false, 0, 1, 0, 0, 2, true, false⟩] } }
theorem witness_memory_access_ends :
    (memoryAccessEnds0.tmOn = true ∧
      firstIdx (fun (r : DReq) => decide (r.unit_ = 0) && r.write == false && (r.active || (decide (memoryAccessEnds0.dmcState (unitCtl 0) = dmcDown) || decide (memoryAccessEnds0.dmcState (unitCtl 0) = dmcOff)))) memoryAccessEnds0.dm.reqs = some 0 ∧ (memoryAccessEnds0.dm.reqs[0]?).isSome = true ∧ (decide (memoryAccessEnds0.dmcState (unitCtl 0) = dmcDown) || decide (memoryAccessEnds0.dmcState (unitCtl 0) = dmcOff)) = true) ∧
    (memoryAccessEnds2.tmOn = true ∧
      firstIdx (fun (r : DReq) => decide (r.unit_ = 0) && r.write == false && (r.active || (decide (memoryAccessEnds2.dmcState (unitCtl 0) = dmcDown) || decide (memoryAccessEnds2.dmcState (unitCtl 0) = dmcOff)))) memoryAccessEnds2.dm.reqs = some 0 ∧ (memoryAccessEnds2.dm.reqs[0]?).isSome = true ∧ (decide (memoryAccessEnds2.dmcState (unitCtl 0) = dmcDown) || decide (memoryAccessEnds2.dmcState (unitCtl 0) = dmcOff)) = false ∧ 2 ≤ (Option.get (memoryAccessEnds2.dm.reqs[0]?) (by decide +kernel)).tries) ∧
    (memoryAccessEnds1.tmOn = true ∧
      firstIdx (fun (r : DReq) => decide (r.unit_ = 0) && r.write == false && (r.active || (decide (memoryAccessEnds1.dmcState (unitCtl 0) = dmcDown) || decide (memoryAccessEnds1.dmcState (unitCtl 0) = dmcOff)))) memoryAccessEnds1.dm.reqs = some 0 ∧ (memoryAccessEnds1.dm.reqs[0]?).isSome = true ∧ (decide (memoryAccessEnds1.dmcState (unitCtl 0) = dmcDown) || decide (memoryAccessEnds1.dmcState (unitCtl 0) = dmcOff)) = false ∧ (Option.get (memoryAccessEnds1.dm.reqs[0]?) (by decide +kernel)).tries < 2) := by
  refine ⟨?_, ?_, ?_⟩ <;> decide +kernel

/-- The rows met so far, and one more: row 3 comes back after 40 others and is known by the table's spare counter. -/
def activates : List Nat := List.range 40 ++ [3, 3, 3]
theorem counts_first_key : ∀ (l : List (Nat × Nat)), (∀ n, (1, n) ∉ l) ↔ 1 ∉ l.map Prod.fst := by
  intro l; simp
theorem witness_activate_counts :
    ((1, 2) ∈ List.foldl (fun t row => (countRow t row).1) [] [1, 2, 1, 3]) ∧
    (∀ n, (1, n) ∉ List.foldl (fun t row => (countRow t row).1) [] activates) ∧ 0 < List.count 1 activates ∧
      (33, 2) ∈ List.foldl (fun t row => (countRow t row).1) [] activates := by
  rw [counts_first_key]; decide +kernel

def aRec : LogRec := ⟨72, 1, 0, 0, 0, .event, false, 0, 5, 6, 7⟩
def faultRecords0 : State := { up with log := ⟨[], [aRec], [], 0, none⟩ }
def faultRecords1 : State := { up.wf TM_FAULT.STATUS.BRIDGE_UP 0 with log := ⟨[], [aRec], [], 0, none⟩ }
def faultRecords2 : State := { up.wf TM_LOG.RING_CTRL.ENABLE 1 with log := ⟨[aRec], [], [], 0, none⟩ }
def faultRecords3 : State := { up.wf TM_LOG.RING_CTRL.ENABLE 1 with log := ⟨[aRec], [], [], 0, none⟩, hc := { up.hc with bme := false } }
def faultRecords4 : State := up.wf TM_LOG.RING_STATUS.ERROR 1
def faultRecords5 : State := { up.wf TM_LOG.SQUALL_STATUS.ACTIVE 1 with timers := [⟨.squall, 0, 5000⟩] }
def faultRecords6 : State := { up.wf TM_LOG.SQUALL_STATUS.ACTIVE 1 with timers := [⟨.squall, 0, 5000⟩], log := ⟨List.replicate 8192 aRec, [], [(2309, ⟨4, 5, 6, 7⟩)], 0, none⟩ }
def swept (s : State) : State :=
  let u := s.expired .squall 0 5000
  let v := u.wf TM_LOG.SQUALL_STATUS.WINDOWS (satAdd 16 (u.rf TM_LOG.SQUALL_STATUS.WINDOWS) 1)
  v.log.sums.foldl (fun s e => s.summary e.1 e.2) v
theorem witness_fault_records :
    (faultRecords0.feOn = true ∧ (faultRecords0.log.fwd = [aRec]) ∧ faultRecords0.bridgeUp = true) ∧
    (faultRecords1.feOn = true ∧ (faultRecords1.log.fwd = [aRec]) ∧ faultRecords1.bridgeUp = false) ∧
    (faultRecords2.tmOn = true ∧ (faultRecords2.log.ring = [aRec]) ∧ faultRecords2.operating 4177 = true ∧
      faultRecords2.rfb TM_LOG.RING_CTRL.ENABLE = true ∧ faultRecords2.rfb TM_LOG.RING_STATUS.ERROR = false ∧
      faultRecords2.recFull logRing = false ∧ ((faultRecords2.recWrite logRing false aRec.word).1 = true)) ∧
    (faultRecords3.tmOn = true ∧ (faultRecords3.log.ring = [aRec]) ∧ faultRecords3.operating 4177 = true ∧
      faultRecords3.rfb TM_LOG.RING_CTRL.ENABLE = true ∧ faultRecords3.rfb TM_LOG.RING_STATUS.ERROR = false ∧
      faultRecords3.recFull logRing = false ∧ ((faultRecords3.recWrite logRing false aRec.word).1 = false)) ∧
    (faultRecords4.tmOn = true ∧ (faultRecords4.operating 4177 = false ∨ faultRecords4.rfb TM_LOG.RING_STATUS.ERROR = true ∨
      faultRecords4.recFull logRing = true)) ∧
    (faultRecords5.tmOn = true ∧ ((faultRecords5.timerAt .squall 0) = some 5000) ∧
      ((swept faultRecords5).log.ring.length ≤ (swept faultRecords5).squallExitThr) ∧ ((swept faultRecords5).log.sums = [])) ∧
    (faultRecords6.tmOn = true ∧ ((faultRecords6.timerAt .squall 0) = some 5000) ∧
      (¬((swept faultRecords6).log.ring.length ≤ (swept faultRecords6).squallExitThr ∧ (swept faultRecords6).log.sums = []))) ∧
    (faultRecords0.tmOn = true ∧ faultRecords0.blockOpen 4176 = true) := by
  refine ⟨?_, ?_, ?_, ?_, ?_, ?_, ?_, ?_⟩ <;> decide +kernel

def aliveCommands1 : State := { up with timers := [⟨.heartbeat, 0, 9000⟩] }
def aliveCommands2 : State := shut up 4176
theorem witness_alive_commands :
    (up.tmOn = true ∧ up.blockOpen 4176 = true ∧ (up.criticalLatched = true ∨ up.beating = false)) ∧
    (aliveCommands1.tmOn = true ∧ aliveCommands1.blockOpen 4176 = true ∧ aliveCommands1.criticalLatched = false ∧ aliveCommands1.beating = true) ∧
    (aliveCommands2.tmOn = true ∧ aliveCommands2.blockOpen 4176 = false) := by
  refine ⟨?_, ?_, ?_⟩ <;> decide +kernel

def bridgeCommands0 : State := (up.wf FE_D2D.CTRL.REPAIR_THR 3 |>.wfi FE_D2D.SPARES.SPARES 3 1).wf FE_D2D.CTRL.AUTO_REPAIR 1
def bridgeCommands2 : State := { (up.pkt { pkt with loc := .tmArrive 0 }) with log := ⟨[], [⟨72, 1, 0, 0, 0, .event, false, 0, 5, 6, 7⟩], [], 0, none⟩ }
def bridgeCommands3 : State := (up.wf TM_FAULT.STATUS.BRIDGE_UP 0).wf FE_D2D.STATUS.UP 0
theorem witness_bridge_commands :
    (bridgeCommands0.tmOn = true ∧ bridgeCommands0.bridgeUp = true ∧
      (¬((List.foldl (fun (s : State) (x : Nat) => s.raise Ev.FE_D2D.CORRECTED 0 0 3 2) (bridgeCommands0.sat FE_D2D.CORR.COUNT 0 0 0) (List.range 0)).rfb FE_D2D.CTRL.AUTO_REPAIR = true ∧ orWhenZero ((List.foldl (fun (s : State) (x : Nat) => s.raise Ev.FE_D2D.CORRECTED 0 0 3 2) (bridgeCommands0.sat FE_D2D.CORR.COUNT 0 0 0) (List.range 0)).rf FE_D2D.CTRL.REPAIR_THR) 1 < 0 ∧ 0 < (List.foldl (fun (s : State) (x : Nat) => s.raise Ev.FE_D2D.CORRECTED 0 0 3 2) (bridgeCommands0.sat FE_D2D.CORR.COUNT 0 0 0) (List.range 0)).rfi FE_D2D.SPARES.SPARES 3))) ∧
    (bridgeCommands0.tmOn = true ∧ bridgeCommands0.bridgeUp = true ∧
      (List.foldl (fun (s : State) (x : Nat) => s.raise Ev.FE_D2D.CORRECTED 0 0 3 2) (bridgeCommands0.sat FE_D2D.CORR.COUNT 0 0 5) (List.range 5)).rfb FE_D2D.CTRL.AUTO_REPAIR = true ∧ orWhenZero ((List.foldl (fun (s : State) (x : Nat) => s.raise Ev.FE_D2D.CORRECTED 0 0 3 2) (bridgeCommands0.sat FE_D2D.CORR.COUNT 0 0 5) (List.range 5)).rf FE_D2D.CTRL.REPAIR_THR) 1 < 5 ∧ 0 < (List.foldl (fun (s : State) (x : Nat) => s.raise Ev.FE_D2D.CORRECTED 0 0 3 2) (bridgeCommands0.sat FE_D2D.CORR.COUNT 0 0 5) (List.range 5)).rfi FE_D2D.SPARES.SPARES 3) ∧
    (bridgeCommands2.tmOn = true ∧ bridgeCommands2.bridgeUp = true ∧ (bridgeCommands2.crossing 3 0).isSome = true) ∧
    (bridgeCommands2.tmOn = true ∧ bridgeCommands2.bridgeUp = true ∧
      bridgeCommands2.log.fwd = [{ page := 72, src := 1, sev := 0, act := 0, cause := 0, kind := RecKind.event, forced := false, seq := 0, time := 5, d0 := 6, d1 := 7 : LogRec }]) ∧
    (bridgeCommands3.tmOn = true ∧ bridgeCommands3.bridgeUp = false) := by
  refine ⟨?_, ?_, ?_, ?_, ?_⟩ <;> decide +kernel

def countersAndTrace1 : State := { up.wf TM_PERF.FREEZE.FREEZE 1 with timers := [⟨.freeze, 0, 5000⟩] }
def countersAndTrace2 : State := (cu 0x50 [])
def countersAndTrace3 : State := (cu 0x50 [(192, 0xFFFFFFFF)]).wf TM_FAULT.STATUS.BRIDGE_UP 0
def countersAndTrace4 : State := (cu 0x50 [(192, 0xFFFFFFFF)])
def countersAndTrace6 : State := { (cu 0x50 []) with snap := some ⟨1, some ([1, 2], 77)⟩ }
def countersAndTrace7 : State := { up.wf tmTraceRing.enable 1 with tr := { up.tr with tm := [5] } }
def countersAndTrace8 : State := { up.wf tmTraceRing.enable 1 with tr := { up.tr with tm := [5] }, hc := { up.hc with bme := false } }
def countersAndTrace9 : State := { (cu 0x50 []).wf TM_FAULT.STATUS.BRIDGE_UP 0 with timers := [⟨.snapshot, 0, 5000⟩], snap := some ⟨1, none⟩ }
def countersAndTrace10 : State := { cu 0x50 [] with timers := [⟨.snapshot, 0, 5000⟩], snap := some ⟨1, none⟩, hdrs := [(72, openHdr 72), (4178, openHdr 4178)] }
def countersAndTrace11 : State := { cu 0x50 [(224, 1)] with timers := [⟨.snapshot, 0, 5000⟩], snap := some ⟨1, none⟩, hdrs := [(72, openHdr 72), (4178, openHdr 4178)] }
def countersAndTrace12 : State := { (cu 0x50 []).wf TM_FAULT.STATUS.BRIDGE_UP 0 with snap := some ⟨1, some ([1, 2], 77)⟩ }
def countersAndTrace13 : State := { up.wf feTraceRing.enable 1 with tr := { up.tr with fe := [5] } }
def countersAndTrace14 : State := { up.wf feTraceRing.enable 1 with tr := { up.tr with fe := [5] }, hc := { up.hc with bme := false } }
theorem witness_counters_and_trace :
    (up.tmOn = true ∧ up.blockOpen 4178 = true) ∧
    (countersAndTrace1.tmOn = true ∧ (countersAndTrace1.timerAt .freeze 0).isSome = true) ∧
    (countersAndTrace2.tmOn = true ∧ countersAndTrace2.cmd 1 = some (theCmd countersAndTrace2) ∧
      countersAndTrace2.mayStart (theCmd countersAndTrace2) = true ∧ (theCmd countersAndTrace2).opcode = 80 ∧ countersAndTrace2.snap = none ∧
      (∀ x ∈ countersAndTrace2.hc.cmds, x.opcode = 80 → x.id < 1 → countersAndTrace2.mayStart x = false) ∧
      ((theCmd countersAndTrace2).bits 128 6 ≠ 0 ∨ (theCmd countersAndTrace2).bits 192 32 < snapLen)) ∧
    (countersAndTrace3.tmOn = true ∧ countersAndTrace3.cmd 1 = some (theCmd countersAndTrace3) ∧
      countersAndTrace3.mayStart (theCmd countersAndTrace3) = true ∧ (theCmd countersAndTrace3).opcode = 80 ∧ countersAndTrace3.snap = none ∧
      (∀ x ∈ countersAndTrace3.hc.cmds, x.opcode = 80 → x.id < 1 → countersAndTrace3.mayStart x = false) ∧
      (theCmd countersAndTrace3).bits 128 6 = 0 ∧ snapLen ≤ (theCmd countersAndTrace3).bits 192 32 ∧ countersAndTrace3.bridgeUp = false) ∧
    (countersAndTrace4.tmOn = true ∧ countersAndTrace4.cmd 1 = some (theCmd countersAndTrace4) ∧
      countersAndTrace4.mayStart (theCmd countersAndTrace4) = true ∧ (theCmd countersAndTrace4).opcode = 80 ∧ countersAndTrace4.snap = none ∧
      (∀ x ∈ countersAndTrace4.hc.cmds, x.opcode = 80 → x.id < 1 → countersAndTrace4.mayStart x = false) ∧
      (theCmd countersAndTrace4).bits 128 6 = 0 ∧ snapLen ≤ (theCmd countersAndTrace4).bits 192 32 ∧ countersAndTrace4.bridgeUp = true) ∧
    (countersAndTrace9.tmOn = true ∧ (countersAndTrace9.timerAt .snapshot 0).isSome = true ∧
      countersAndTrace9.snap = some { cmd := 1, image := none : Snap } ∧
      (countersAndTrace9.expired .snapshot 0 (theTime countersAndTrace9 .snapshot 0)).bridgeUp = false) ∧
    (countersAndTrace11.tmOn = true ∧ (countersAndTrace11.timerAt .snapshot 0).isSome = true ∧
      countersAndTrace11.snap = some { cmd := 1, image := none : Snap } ∧
      (countersAndTrace11.expired .snapshot 0 (theTime countersAndTrace11 .snapshot 0)).bridgeUp = true ∧
      ((countersAndTrace11.expired .snapshot 0 (theTime countersAndTrace11 .snapshot 0)).cmd 1).isSome = true ∧
      (theCmd (countersAndTrace11.expired .snapshot 0 (theTime countersAndTrace11 .snapshot 0))).bits 224 1 = 1) ∧
    (countersAndTrace10.tmOn = true ∧ (countersAndTrace10.timerAt .snapshot 0).isSome = true ∧
      countersAndTrace10.snap = some { cmd := 1, image := none : Snap } ∧
      (countersAndTrace10.expired .snapshot 0 (theTime countersAndTrace10 .snapshot 0)).bridgeUp = true ∧
      ((countersAndTrace10.expired .snapshot 0 (theTime countersAndTrace10 .snapshot 0)).cmd 1).isSome = true ∧
      (theCmd (countersAndTrace10.expired .snapshot 0 (theTime countersAndTrace10 .snapshot 0))).bits 224 1 ≠ 1) ∧
    (countersAndTrace12.tmOn = true ∧ countersAndTrace12.snap = some { cmd := 1, image := some ([1, 2], 77) : Snap } ∧
      countersAndTrace12.cmd 1 = some (theCmd countersAndTrace12) ∧ countersAndTrace12.bridgeUp = false) ∧
    (countersAndTrace6.tmOn = true ∧ countersAndTrace6.snap = some { cmd := 1, image := some ([1, 2], 77) : Snap } ∧
      countersAndTrace6.cmd 1 = some (theCmd countersAndTrace6) ∧ countersAndTrace6.bridgeUp = true) ∧
    (up.feOn = true ∧ up.blockOpen 77 = true) ∧
    (countersAndTrace7.tmOn = true ∧ countersAndTrace7.tr.tm = [5] ∧ countersAndTrace7.operating 4178 = true ∧
      countersAndTrace7.rf tmTraceRing.enable ≠ 0 ∧ countersAndTrace7.rfb TM_PERF.RING_STATUS.ERROR = false ∧
      countersAndTrace7.recFull tmTraceRing = false ∧ (countersAndTrace7.recWrite tmTraceRing false 5).1 = true) ∧
    (countersAndTrace8.tmOn = true ∧ countersAndTrace8.tr.tm = [5] ∧ countersAndTrace8.operating 4178 = true ∧
      countersAndTrace8.rf tmTraceRing.enable ≠ 0 ∧ countersAndTrace8.rfb TM_PERF.RING_STATUS.ERROR = false ∧
      countersAndTrace8.recFull tmTraceRing = false ∧ (countersAndTrace8.recWrite tmTraceRing false 5).1 = false) ∧
    (countersAndTrace13.feOn = true ∧ countersAndTrace13.tr.fe = [5] ∧ countersAndTrace13.operating 77 = true ∧
      countersAndTrace13.rf feTraceRing.enable ≠ 0 ∧ countersAndTrace13.rfb FE_TRACE.RING_STATUS.ERROR = false ∧
      countersAndTrace13.recFull feTraceRing = false ∧ countersAndTrace13.bridgeUp = true ∧
      (countersAndTrace13.recWrite feTraceRing false 5).1 = true) ∧
    (countersAndTrace14.feOn = true ∧ countersAndTrace14.tr.fe = [5] ∧ countersAndTrace14.operating 77 = true ∧
      countersAndTrace14.rf feTraceRing.enable ≠ 0 ∧ countersAndTrace14.rfb FE_TRACE.RING_STATUS.ERROR = false ∧
      countersAndTrace14.recFull feTraceRing = false ∧ countersAndTrace14.bridgeUp = true ∧
      (countersAndTrace14.recWrite feTraceRing false 5).1 = false) := by
  refine ⟨?_, ?_, ?_, ?_, ?_, ?_, ?_, ?_, ?_, ?_, ?_, ?_, ?_, ?_, ?_⟩ <;> decide +kernel

theorem witness_clock_faults :
    (up.tmOn = true ∧ up.rf TM_PWR.STATE.STATE = 0 ∧ (23749 < 23750 ∨ 26250 < 23749)) ∧
    (up.tmOn = true ∧ up.feOn = true ∧ 1048576 % 2 ^ 64 = (up.advanceTo ((up.cycle / 2 ^ 20 + 1) * 2 ^ 20)).cycle) ∧
    (up.tmOn = true ∧ up.feOn = true ∧ 5 % 2 ^ 64 ≠ (up.advanceTo ((up.cycle / 2 ^ 20 + 1) * 2 ^ 20)).cycle) := by
  refine ⟨?_, ?_, ?_⟩ <;> decide +kernel

def timeAdjustments1 : State := up.wf FE_PTP.TIME_CTRL.BUSY 1
def timeAdjustments2 : State := { up with ptp := ⟨[(5000, .step 7 9)], false, 0⟩ }
theorem witness_time_adjustments :
    (up.feOn = true ∧ up.blockOpen 76 = true ∧ up.rfb FE_PTP.TIME_CTRL.BUSY = false) ∧
    (timeAdjustments1.feOn = true ∧ timeAdjustments1.rfb FE_PTP.TIME_CTRL.BUSY = true) ∧
    (up.feOn = true ∧ up.ptp.adjs = []) ∧
    (timeAdjustments2.feOn = true ∧ timeAdjustments2.ptp.adjs = [(5000, TimeAdj.step 7 9)]) := by
  refine ⟨?_, ?_, ?_, ?_⟩ <;> decide +kernel

def timeOfDay0 : State := (up.wf FE_PTP.PPS_CTRL.OUT_EN 1)
def timeOfDay1 : State := { up with ptp := ⟨[], true, 7⟩, timers := [⟨.ppsWidth, 0, 5000⟩, ⟨.ppsMissing, 0, 6000⟩, ⟨.todSend, 0, 7000⟩] }
def timeOfDay3 : State := (up.wf FE_PTP.PPS_CTRL.IN_EN 1).wf FE_PTP.PPS_CAP_CTRL.VALID 1
def timeOfDay4 : State := (up.wf FE_PTP.PPS_CTRL.IN_EN 1)
def timeOfDay5 : State := (up.wf FE_PTP.TOD_CTRL.RX_EN 1)
def timeOfDay7 : State := ((up.wf FE_PTP.TOD_CTRL.RX_EN 1).wf FE_PTP.TOD_RX_CTRL.VALID 1)
theorem witness_time_of_day :
    (timeOfDay0.feOn = true ∧ timeOfDay0.rfb FE_PTP.PPS_CTRL.OUT_EN = true ∧ timeOfDay0.timeRun = true) ∧
    (timeOfDay1.feOn = true ∧ (timeOfDay1.timerAt .ppsWidth 0).isSome = true) ∧
    (timeOfDay0.feOn = true ∧ (timeOfDay0.rfb FE_PTP.PPS_CTRL.IN_EN = false ∨ false ≠ timeOfDay0.rfb FE_PTP.PPS_CTRL.IN_FALLING)) ∧
    (timeOfDay3.feOn = true ∧ timeOfDay3.rfb FE_PTP.PPS_CTRL.IN_EN = true ∧ timeOfDay3.rfb FE_PTP.PPS_CAP_CTRL.VALID = true) ∧
    (timeOfDay4.feOn = true ∧ timeOfDay4.rfb FE_PTP.PPS_CTRL.IN_EN = true ∧ timeOfDay4.rfb FE_PTP.PPS_CAP_CTRL.VALID = false) ∧
    (timeOfDay1.feOn = true ∧ (timeOfDay1.timerAt .ppsMissing 0).isSome = true) ∧
    (timeOfDay1.feOn = true ∧ (timeOfDay1.timerAt .todSend 0).isSome = true) ∧
    (timeOfDay5.feOn = true ∧ timeOfDay5.rfb FE_PTP.TOD_CTRL.RX_EN = true ∧ (todFault [] none).isSome = true) ∧
    (timeOfDay5.feOn = true ∧ timeOfDay5.rfb FE_PTP.TOD_CTRL.RX_EN = true ∧ todFault (todMessage 77 true) none = none ∧
      timeOfDay5.rfb FE_PTP.TOD_RX_CTRL.VALID = false) ∧
    (timeOfDay7.feOn = true ∧ timeOfDay7.rfb FE_PTP.TOD_CTRL.RX_EN = true ∧ todFault (todMessage 77 true) none = none ∧
      timeOfDay7.rfb FE_PTP.TOD_RX_CTRL.VALID = true) ∧
    (timeOfDay0.feOn = true ∧ timeOfDay0.blockOpen 76 = true) := by
  refine ⟨?_, ?_, ?_, ?_, ?_, ?_, ?_, ?_, ?_, ?_, ?_⟩ <;> decide +kernel

def thermalCommands1 : State := up.wf TM_THERM.AVS_CTRL.AVS_EN 1
def thermalCommands2 : State := { up.wf TM_THERM.AVS_CTRL.AVS_EN 1 with th := { up.th with excluded := List.range 20 } }
def thermalCommands4 : State := up.updHdr 4179 (fun h => { h with lock := true })
def thermalCommands5 : State := shut up 4179
def thermalCommands6 : State := shut up 4102
theorem witness_thermal_commands :
    (thermalCommands4.tmOn = true ∧ thermalCommands4.blockOpen 4179 = true ∧ (thermalCommands4.hdr 4179).lock = true) ∧
    (up.tmOn = true ∧ up.blockOpen 4179 = true ∧ (up.hdr 4179).lock = false) ∧
    (up.tmOn = true ∧ up.operating 4179 = true ∧
      (((List.foldl (fun (s : State) (r : Nat × Nat) => if r.1 < 128 then s.report r.1 r.2 else s) up []).showMin false).showMin true).rfb TM_THERM.AVS_CTRL.AVS_EN = false) ∧
    (thermalCommands2.tmOn = true ∧ thermalCommands2.operating 4179 = true ∧
      (((List.foldl (fun (s : State) (r : Nat × Nat) => if r.1 < 128 then s.report r.1 r.2 else s) thermalCommands2 []).showMin false).showMin true).rfb TM_THERM.AVS_CTRL.AVS_EN = true ∧ 16 < (((List.foldl (fun (s : State) (r : Nat × Nat) => if r.1 < 128 then s.report r.1 r.2 else s) thermalCommands2 []).showMin false).showMin true).th.excluded.length) ∧
    (thermalCommands1.tmOn = true ∧ thermalCommands1.operating 4179 = true ∧
      (((List.foldl (fun (s : State) (r : Nat × Nat) => if r.1 < 128 then s.report r.1 r.2 else s) thermalCommands1 []).showMin false).showMin true).rfb TM_THERM.AVS_CTRL.AVS_EN = true ∧ (((List.foldl (fun (s : State) (r : Nat × Nat) => if r.1 < 128 then s.report r.1 r.2 else s) thermalCommands1 []).showMin false).showMin true).th.excluded.length ≤ 16 ∧ ((((List.foldl (fun (s : State) (r : Nat × Nat) => if r.1 < 128 then s.report r.1 r.2 else s) thermalCommands1 []).showMin false).showMin true).lowest ((((List.foldl (fun (s : State) (r : Nat × Nat) => if r.1 < 128 then s.report r.1 r.2 else s) thermalCommands1 []).showMin false).showMin true).canaries false ++ (((List.foldl (fun (s : State) (r : Nat × Nat) => if r.1 < 128 then s.report r.1 r.2 else s) thermalCommands1 []).showMin false).showMin true).canaries true)).isSome = true) ∧
    (thermalCommands5.tmOn = true ∧ thermalCommands5.operating 4179 = false) ∧
    ((if true = true then up.tmOn else up.feOn) = true ∧ toSigned 8 (up.rf (thermFlds true).warn) < toSigned 8 120 ∧
      (SMap.get 0 up.th.warned (b2n true) = 0 ∨
      (decide (SMap.get 0 up.th.warned (b2n true) ≠ 0) && [(3, 120)].any fun (e : Nat × Nat) => decide (e.1 + 1 = SMap.get 0 up.th.warned (b2n true)) && decide (toSigned 8 e.2 ≤ toSigned 8 (up.rf (thermFlds true).warn) - 5)) = true)) ∧
    ((if true = true then up.tmOn else up.feOn) = true ∧ (toSigned 8 10 ≤ toSigned 8 (up.rf (thermFlds true).warn) ∨
      SMap.get 0 up.th.warned (b2n true) ≠ 0 ∧
      (decide (SMap.get 0 up.th.warned (b2n true) ≠ 0) && [(3, 10)].any fun (e : Nat × Nat) => decide (e.1 + 1 = SMap.get 0 up.th.warned (b2n true)) && decide (toSigned 8 e.2 ≤ toSigned 8 (up.rf (thermFlds true).warn) - 5)) = false)) ∧
    ((if true = true then up.tmOn else up.feOn) = true ∧ 125 ≤ toSigned 8 125) ∧
    ((if true = true then up.tmOn else up.feOn) = true ∧ toSigned 8 10 < 125) ∧
    (thermalCommands6.tmOn = true ∧ (thermalCommands6.inReset 4102 = true ∨ thermalCommands6.mc.halted = true)) ∧
    (up.tmOn = true ∧ up.inReset 4102 = false ∧ up.mc.halted = false) := by
  refine ⟨?_, ?_, ?_, ?_, ?_, ?_, ?_, ?_, ?_, ?_, ?_, ?_⟩ <;> decide +kernel

def voltageRange0 : State := (up.wf TM_THERM.AVS_STATE.TARGET 700)
theorem witness_voltage_range :
    voltageRange0.rf TM_THERM.AVS_STATE.TARGET < 2 ^ TM_THERM.AVS_STATE.TARGET.w ∧
      voltageRange0.vMin ≤ voltageRange0.rf TM_THERM.AVS_STATE.TARGET ∧ voltageRange0.rf TM_THERM.AVS_STATE.TARGET ≤ voltageRange0.vMax ∧
      voltageRange0.rf TM_THERM.AVS_STATE.TARGET < (voltageRange0.avsLoop 20 (some 700)).rf TM_THERM.AVS_STATE.TARGET := by decide +kernel

def powerRequests1 : State := up.wf TM_PWR.STATE.STATE psC
def powerRequests2 : State := up.wf TM_PWR.STATE.STATE psW
def powerRequests4 : State := up.wf TM_MGMT.CFG.PEC_REQ 1
def powerRequests5 : State := shut up 4102
def powerRequests7 : State := { up with pw := { up.pw with wake := 4 } }
def powerRequests8 : State := { up with pw := { up.pw with entry := 2, target := 2 } }
theorem witness_power_requests :
    ((3 ≤ 3 ∨ 3 = 1 ∧ up.pwr = psC)) ∧
    (up.powerGoal < 3 ∧ (¬(up.powerGoal = 1 ∧ up.pwr = psC))) ∧
    ((¬(1 = 1 ∧ powerRequests7.pwr = psC)) ∧ 1 ≠ powerRequests7.powerGoal ∧ powerRequests7.waking = true) ∧
    (up.waking = false ∧ up.pw.entry = 0 ∧ up.pwr = psActive ∧ up.inReset 4102 = false) ∧
    (powerRequests2.waking = false ∧ powerRequests2.pw.entry = 0 ∧ powerRequests2.pwr = psW) ∧
    (powerRequests1.waking = false ∧ powerRequests1.pw.entry = 0 ∧ powerRequests1.pwr = psC) ∧
    (powerRequests5.waking = false ∧ powerRequests5.pw.entry = 0 ∧ powerRequests5.pwr = psActive ∧ powerRequests5.inReset 4102 = true) ∧
    ((¬(1 = 1 ∧ powerRequests8.pwr = psC)) ∧ 1 ≠ powerRequests8.powerGoal ∧ powerRequests8.waking = false ∧ powerRequests8.pw.entry ≠ 0) ∧
    ((¬(0 = 1 ∧ powerRequests8.pwr = psC)) ∧ 0 ≠ powerRequests8.powerGoal ∧ powerRequests8.waking = false ∧ powerRequests8.pw.entry ≠ 0) ∧
    (up.tmOn = true ∧ up.blockOpen 4098 = true) ∧
    (powerRequests4.pw.rst = 0 ∧ powerRequests4.rfb TM_MGMT.CFG.PEC_REQ = true ∧ powerRequests4.mgmtServes = true) ∧
    (powerRequests1.pw.rst = 0 ∧ powerRequests1.mgmtServes = false) ∧
    (up.pw.rst = 0 ∧ up.mgmtServes = true ∧ (up.rfb TM_MGMT.CFG.PEC_REQ = false ∨ false = true)) ∧
    (powerRequests1.pw.rst = 0 ∧ powerRequests1.inDoldrums = true ∧ powerRequests1.waking = false ∧
      powerRequests1.rfb TM_PWR.DOLD_CFG.MGMT_WAKE_EN = true ∧ powerRequests1.rfb TM_PWR.STATE.WAKE_FAIL = false) ∧
    (up.pw.rst = 0 ∧ up.inDoldrums = false) := by
  refine ⟨?_, ?_, ?_, ?_, ?_, ?_, ?_, ?_, ?_, ?_, ?_, ?_, ?_, ?_, ?_⟩ <;> decide +kernel

def doldrumsEntry1 : State := { up with pw := { up.pw with entry := 1 } }
def doldrumsEntry2 : State := { up with pw := { up.pw with entry := 3, abort := true } }
def doldrumsEntry3 : State := { up with pw := { up.pw with entry := 2 } }
def doldrumsEntry4 : State := { (up.pkt pkt) with pw := { up.pw with entry := 3 } }
def doldrumsEntry5 : State := { up with pw := { up.pw with entry := 3 } }
def doldrumsEntry6 : State := { up with timers := [⟨.doldDrain, 0, 5000⟩] }
def doldrumsEntry8 : State := { up with pw := { up.pw with entry := 4, abort := true } }
def doldrumsEntry9 : State := { up with pw := { up.pw with entry := 4 } }
def doldrumsEntry10 : State := { up with pw := { up.pw with entry := 5, abort := true } }
def doldrumsEntry11 : State := { up with pw := { up.pw with entry := 5, target := 2 } }
def doldrumsEntry12 : State := { up with pw := { up.pw with entry := 5, target := 1 } }
def doldrumsEntry13 : State := { up with pw := { up.pw with entry := 6, abort := true } }
def doldrumsEntry14 : State := { up with pw := { up.pw with entry := 6 } }
theorem witness_doldrums_entry :
    (up.pw.rst = 0 ∧ up.pw.entry = 0) ∧
    (doldrumsEntry2.pw.rst = 0 ∧ doldrumsEntry2.pw.entry ≠ 0 ∧ doldrumsEntry2.pw.abort = true ∧ doldrumsEntry2.pw.entry ≤ 3) ∧
    (doldrumsEntry4.pw.rst = 0 ∧ doldrumsEntry4.pw.entry ≠ 0 ∧ (¬(doldrumsEntry4.pw.abort = true ∧ doldrumsEntry4.pw.entry ≤ 3)) ∧
      doldrumsEntry4.entryWaitOver = false) ∧
    (doldrumsEntry1.pw.rst = 0 ∧ doldrumsEntry1.pw.entry ≠ 0 ∧ (¬(doldrumsEntry1.pw.abort = true ∧ doldrumsEntry1.pw.entry ≤ 3)) ∧
      doldrumsEntry1.entryWaitOver = true ∧ doldrumsEntry1.pw.entry = 1) ∧
    (doldrumsEntry3.pw.rst = 0 ∧ doldrumsEntry3.pw.entry ≠ 0 ∧ (¬(doldrumsEntry3.pw.abort = true ∧ doldrumsEntry3.pw.entry ≤ 3)) ∧
      doldrumsEntry3.entryWaitOver = true ∧ doldrumsEntry3.pw.entry = 2) ∧
    (doldrumsEntry5.pw.rst = 0 ∧ doldrumsEntry5.pw.entry ≠ 0 ∧ (¬(doldrumsEntry5.pw.abort = true ∧ doldrumsEntry5.pw.entry ≤ 3)) ∧
      doldrumsEntry5.entryWaitOver = true ∧ doldrumsEntry5.pw.entry = 3) ∧
    (doldrumsEntry8.pw.rst = 0 ∧ doldrumsEntry8.pw.entry ≠ 0 ∧ (¬(doldrumsEntry8.pw.abort = true ∧ doldrumsEntry8.pw.entry ≤ 3)) ∧
      doldrumsEntry8.entryWaitOver = true ∧ doldrumsEntry8.pw.entry = 4 ∧ doldrumsEntry8.pw.abort = true) ∧
    (doldrumsEntry9.pw.rst = 0 ∧ doldrumsEntry9.pw.entry ≠ 0 ∧ (¬(doldrumsEntry9.pw.abort = true ∧ doldrumsEntry9.pw.entry ≤ 3)) ∧
      doldrumsEntry9.entryWaitOver = true ∧ doldrumsEntry9.pw.entry = 4 ∧ doldrumsEntry9.pw.abort = false) ∧
    (doldrumsEntry10.pw.rst = 0 ∧ doldrumsEntry10.pw.entry ≠ 0 ∧ (¬(doldrumsEntry10.pw.abort = true ∧ doldrumsEntry10.pw.entry ≤ 3)) ∧
      doldrumsEntry10.entryWaitOver = true ∧ doldrumsEntry10.pw.entry = 5 ∧ doldrumsEntry10.powerDown.pw.abort = true) ∧
    (doldrumsEntry11.pw.rst = 0 ∧ doldrumsEntry11.pw.entry ≠ 0 ∧ (¬(doldrumsEntry11.pw.abort = true ∧ doldrumsEntry11.pw.entry ≤ 3)) ∧
      doldrumsEntry11.entryWaitOver = true ∧ doldrumsEntry11.pw.entry = 5 ∧ doldrumsEntry11.powerDown.pw.abort = false ∧
      doldrumsEntry11.powerDown.pw.target = 2) ∧
    (doldrumsEntry12.pw.rst = 0 ∧ doldrumsEntry12.pw.entry ≠ 0 ∧ (¬(doldrumsEntry12.pw.abort = true ∧ doldrumsEntry12.pw.entry ≤ 3)) ∧
      doldrumsEntry12.entryWaitOver = true ∧ doldrumsEntry12.pw.entry = 5 ∧ doldrumsEntry12.powerDown.pw.abort = false ∧
      doldrumsEntry12.powerDown.pw.target ≠ 2) ∧
    (doldrumsEntry13.pw.rst = 0 ∧ doldrumsEntry13.pw.entry ≠ 0 ∧ (¬(doldrumsEntry13.pw.abort = true ∧ doldrumsEntry13.pw.entry ≤ 3)) ∧
      doldrumsEntry13.entryWaitOver = true ∧ doldrumsEntry13.pw.entry = 6 ∧ doldrumsEntry13.pw.abort = true) ∧
    (doldrumsEntry14.pw.rst = 0 ∧ doldrumsEntry14.pw.entry ≠ 0 ∧ (¬(doldrumsEntry14.pw.abort = true ∧ doldrumsEntry14.pw.entry ≤ 3)) ∧
      doldrumsEntry14.entryWaitOver = true ∧ doldrumsEntry14.pw.entry = 6 ∧ doldrumsEntry14.pw.abort = false) ∧
    (doldrumsEntry6.tmOn = true ∧ (doldrumsEntry6.timerAt .doldDrain 0).isSome = true) := by
  refine ⟨?_, ?_, ?_, ?_, ?_, ?_, ?_, ?_, ?_, ?_, ?_, ?_, ?_, ?_⟩ <;> decide +kernel

def dold : State := { (((up.wf FE_CLK.STATUS.ROOT_LOCK 0).wf TM_CLK.STATUS.ROOT_LOCK 0).wf TM_PWR.STATE.STATE psW) with timers := [⟨.doldSample, 0, 5000⟩] }
def doldrumsWake4 : State := { dold with pw := { dold.pw with wake := 1, left := 2 } }
def doldrumsWake5 : State := { dold with pw := { dold.pw with wake := 2, left := 2 } }
def doldrumsWake6 : State := { dold with pw := { dold.pw with wake := 3, left := 2 } }
def doldrumsWake7 : State := { dold with pw := { dold.pw with wake := 1, left := 3 } }
def doldrumsWake8 : State := { dold with pw := { dold.pw with wake := 2, left := 3 } }
def doldrumsWake9 : State := { dold with pw := { dold.pw with wake := 3, left := 3 } }
def doldrumsWake10 : State := { dold.wf TM_PWR.STATE.STATE psWaking with pw := { dold.pw with wake := 2, left := 3 }, timers := [⟨.wakeStep, 0, 9000⟩] }
def doldrumsWake11 : State := { dold.wf TM_PWR.STATE.STATE psWaking with pw := { dold.pw with wake := 2, left := 3, fails := 2 }, timers := [⟨.wakeStep, 0, 9000⟩] }
def doldrumsWake12 : State := { dold with timers := [⟨.wakeRetry, 0, 9000⟩] }
def doldrumsWake14 : State := dold.wf TM_PWR.STATE.STATE psC
def doldrumsWake15 : State := { dold.wfp TM_DMC.STATUS.STATE 3 0 1 with pw := { dold.pw with wake := 4, left := 2 } }
def doldrumsWake16 : State := { dold with pw := { dold.pw with wake := 4, left := 2 } }
def doldrumsWake17 : State := { dold with pw := { dold.pw with wake := 4, left := 2 }, timers := [⟨.heartbeat, 0, 9000⟩] }
theorem witness_doldrums_wake :
    (dold.pw.rst = 0 ∧ dold.waking = false ∧ (dold.timerAt .doldSample 0).isSome = true ∧
      ((if (((((dold.expired .doldSample 0 (theTime dold .doldSample 0)).watch.wfi TM_PWR.LS_LAST.LAST 0 (bits 0 0 32)).wfi TM_PWR.LS_LAST.LAST 1 (bits 0 32 32)).wf TM_PWR.TEMP_THR.TEMP_LAST 30).inc1 TM_PWR.SAMPLES.COUNT).lsMiss 0 = true ∨ (((((dold.expired .doldSample 0 (theTime dold .doldSample 0)).watch.wfi TM_PWR.LS_LAST.LAST 0 (bits 0 0 32)).wfi TM_PWR.LS_LAST.LAST 1 (bits 0 32 32)).wf TM_PWR.TEMP_THR.TEMP_LAST 30).inc1 TM_PWR.SAMPLES.COUNT).tempMiss 30 = true then dold.pw.run + 1 else 0) < orWhenZero ((((((dold.expired .doldSample 0 (theTime dold .doldSample 0)).watch.wfi TM_PWR.LS_LAST.LAST 0 (bits 0 0 32)).wfi TM_PWR.LS_LAST.LAST 1 (bits 0 32 32)).wf TM_PWR.TEMP_THR.TEMP_LAST 30).inc1 TM_PWR.SAMPLES.COUNT).rf TM_PWR.DOLD_CFG.DEBOUNCE) 1 ∨ (((((dold.expired .doldSample 0 (theTime dold .doldSample 0)).watch.wfi TM_PWR.LS_LAST.LAST 0 (bits 0 0 32)).wfi TM_PWR.LS_LAST.LAST 1 (bits 0 32 32)).wf TM_PWR.TEMP_THR.TEMP_LAST 30).inc1 TM_PWR.SAMPLES.COUNT).rfb TM_PWR.WAKE_N_CTRL.ASSERTED = true)) ∧
    (dold.pw.rst = 0 ∧ dold.waking = false ∧ (dold.timerAt .doldSample 0).isSome = true ∧
      (orWhenZero ((((((dold.expired .doldSample 0 (theTime dold .doldSample 0)).watch.wfi TM_PWR.LS_LAST.LAST 0 (bits 0 0 32)).wfi TM_PWR.LS_LAST.LAST 1 (bits 0 32 32)).wf TM_PWR.TEMP_THR.TEMP_LAST 130).inc1 TM_PWR.SAMPLES.COUNT).rf TM_PWR.DOLD_CFG.DEBOUNCE) 1 ≤ if (((((dold.expired .doldSample 0 (theTime dold .doldSample 0)).watch.wfi TM_PWR.LS_LAST.LAST 0 (bits 0 0 32)).wfi TM_PWR.LS_LAST.LAST 1 (bits 0 32 32)).wf TM_PWR.TEMP_THR.TEMP_LAST 130).inc1 TM_PWR.SAMPLES.COUNT).lsMiss 0 = true ∨ (((((dold.expired .doldSample 0 (theTime dold .doldSample 0)).watch.wfi TM_PWR.LS_LAST.LAST 0 (bits 0 0 32)).wfi TM_PWR.LS_LAST.LAST 1 (bits 0 32 32)).wf TM_PWR.TEMP_THR.TEMP_LAST 130).inc1 TM_PWR.SAMPLES.COUNT).tempMiss 130 = true then dold.pw.run + 1 else 0) ∧ (((((dold.expired .doldSample 0 (theTime dold .doldSample 0)).watch.wfi TM_PWR.LS_LAST.LAST 0 (bits 0 0 32)).wfi TM_PWR.LS_LAST.LAST 1 (bits 0 32 32)).wf TM_PWR.TEMP_THR.TEMP_LAST 130).inc1 TM_PWR.SAMPLES.COUNT).rfb TM_PWR.WAKE_N_CTRL.ASSERTED = false) ∧
    (doldrumsWake4.pw.rst = 0 ∧ doldrumsWake4.pw.left = 2 ∧ doldrumsWake4.pw.wake = 1) ∧
    (doldrumsWake5.pw.rst = 0 ∧ doldrumsWake5.pw.left = 2 ∧ doldrumsWake5.pw.wake = 2) ∧
    (doldrumsWake6.pw.rst = 0 ∧ doldrumsWake6.pw.left = 2 ∧ doldrumsWake6.pw.wake = 3) ∧
    (doldrumsWake15.pw.rst = 0 ∧ doldrumsWake15.pw.left = 2 ∧ doldrumsWake15.pw.wake = 4 ∧ (∃ c < 16, doldrumsWake15.dmcState c = dmcTraining)) ∧
    (doldrumsWake17.pw.rst = 0 ∧ doldrumsWake17.pw.left = 2 ∧ doldrumsWake17.pw.wake = 4 ∧ (∀ c < 16, doldrumsWake17.dmcState c ≠ dmcTraining) ∧
      doldrumsWake17.armed .heartbeat 0 = true ∧ doldrumsWake17.reachActive.pwr = psActive) ∧
    (doldrumsWake16.pw.rst = 0 ∧ doldrumsWake16.pw.left = 2 ∧ doldrumsWake16.pw.wake = 4 ∧ (∀ c < 16, doldrumsWake16.dmcState c ≠ dmcTraining) ∧
      (doldrumsWake16.armed .heartbeat 0 = false ∨ doldrumsWake16.reachActive.pwr ≠ psActive)) ∧
    (doldrumsWake7.pw.rst = 0 ∧ doldrumsWake7.pw.left = 3 ∧ doldrumsWake7.pw.wake = 1) ∧
    (doldrumsWake8.pw.rst = 0 ∧ doldrumsWake8.pw.left = 3 ∧ doldrumsWake8.pw.wake = 2) ∧
    (doldrumsWake9.pw.rst = 0 ∧ doldrumsWake9.pw.left = 3 ∧ doldrumsWake9.pw.wake = 3) ∧
    (doldrumsWake10.pw.rst = 0 ∧ (doldrumsWake10.timerAt .wakeStep 0).isSome = true ∧ doldrumsWake10.pw.fails < 2) ∧
    (doldrumsWake11.pw.rst = 0 ∧ (doldrumsWake11.timerAt .wakeStep 0).isSome = true ∧ 2 ≤ doldrumsWake11.pw.fails) ∧
    (doldrumsWake12.pw.rst = 0 ∧ (doldrumsWake12.timerAt .wakeRetry 0).isSome = true) ∧
    (doldrumsWake10.pw.rst = 0 ∧ doldrumsWake10.pwr ≠ psW) ∧
    (dold.pw.rst = 0 ∧ dold.pwr ≠ psC) ∧
    (dold.pw.rst = 0 ∧ dold.pwr = psW) ∧
    (doldrumsWake14.pw.rst = 0 ∧ doldrumsWake14.pwr = psC ∧ doldrumsWake14.tmOn = false) := by
  refine ⟨?_, ?_, ?_, ?_, ?_, ?_, ?_, ?_, ?_, ?_, ?_, ?_, ?_, ?_, ?_, ?_, ?_, ?_⟩ <;> decide +kernel

def powerOnReset1 : State := { up with pw := { up.pw with rst := 1 } }
theorem witness_power_on_reset :
    up.pw.rst ≠ 1 ∧
    powerOnReset1.pw.rst = 1 := by
  refine ⟨?_, ?_⟩ <;> decide +kernel

def chipReset0 : State := { up with pw := { up.pw with rst := 1 } }
def chipReset2 : State := { up with chipReq := true }
def chipReset3 : State := { up with pw := { up.pw with rst := 2 } }
def chipReset4 : State := up.wf TM_PWR.STATE.STATE psW
def chipReset5 : State := { up with pw := { up.pw with sysLow := true } }
theorem witness_chip_reset :
    chipReset0.pw.rst ≠ 0 ∧
    (chipReset4.pw.rst = 0 ∧ (chipReset4.inDoldrums = true ∨ chipReset4.waking = true ∧ (chipReset4.pw.cause = 3 ∨ chipReset4.pw.wake ≠ 4))) ∧
    (up.pw.rst = 0 ∧ up.inDoldrums = false ∧ (up.waking = false ∨ up.pw.cause ≠ 3 ∧ up.pw.wake = 4)) ∧
    (chipReset2.pw.rst = 0 ∧ chipReset2.chipReq = true) ∧
    (up.pw.rst = 0 ∧ up.chipReq = false) ∧
    chipReset3.pw.rst = 2 ∧
    chipReset0.pw.rst ≠ 2 ∧
    (up.tmOn = true ∧ up.blockOpen 4102 = true ∧ bit 3290103809 0 = true ∧ bits 3290103809 16 16 = 50203) ∧
    (up.tmOn = true ∧ up.blockOpen 4102 = true ∧ (¬(bit 3290103808 0 = true ∧ bits 3290103808 16 16 = 50203))) ∧
    (TM_LOG.SEQ_NEXT.SEQ ∈ chipKept) ∧
    ((∀ g ∈ chipKept, g.key 0 0 ≠ TM_LOG.SEQ_NEXT.SEQ.key 1 0)) ∧
    chipReset5.pw.sysLow = true ∧
    chipReset0.pw.sysLow = false := by
  refine ⟨?_, ?_, ?_, ?_, ?_, ?_, ?_, ?_, ?_, ?_, ?_, ?_, ?_⟩ <;> decide +kernel

def fw : State := up.sets [(TM_SEC.BOOT.STATE, 2)]
def rst2 : State := shut (up.sets [(TM_SEC.BOOT.STATE, 1)]) 4102
def controllerReset1 : State := shut up 4102
def controllerReset4 : State := { up with timers := [⟨.heartbeat, 0, 5000⟩] }
def controllerReset6 : State := { rst2 with pw := { up.pw with wake := 4, left := 3 } }
def controllerReset7 : State := { rst2.wfp TM_DMC.STATUS.STATE 3 0 1 with pw := { up.pw with wake := 4, left := 3 } }
def controllerReset8 : State := up.wf TM_PWR.STATE.STATE psW
theorem witness_controller_reset :
    (controllerReset1.tmOn = true ∧ controllerReset1.inReset 4102 = true) ∧
    (up.tmOn = true ∧ up.inReset 4102 = false) ∧
    (fw.tmOn = true ∧ fw.rf TM_SEC.BOOT.STATE = 2 ∧ fw.blockOpen 4101 = true) ∧
    (up.tmOn = true ∧ up.rf TM_SEC.BOOT.STATE ≠ 2) ∧
    (controllerReset7.tmOn = true ∧ controllerReset7.inReset 4102 = true ∧ controllerReset7.rf TM_SEC.BOOT.STATE = 1 ∧
      controllerReset7.mc.halted = false ∧ controllerReset7.pw.wake = 4 ∧ controllerReset7.pw.left = 3 ∧
      (∃ c < 16, controllerReset7.dmcState c = dmcTraining)) ∧
    (controllerReset6.tmOn = true ∧ controllerReset6.inReset 4102 = true ∧ controllerReset6.rf TM_SEC.BOOT.STATE = 1 ∧
      controllerReset6.mc.halted = false ∧ controllerReset6.pw.wake = 4 ∧ controllerReset6.pw.left = 3 ∧
      (∀ c < 16, controllerReset6.dmcState c ≠ dmcTraining)) ∧
    (rst2.tmOn = true ∧ rst2.inReset 4102 = true ∧ rst2.rf TM_SEC.BOOT.STATE = 1 ∧ rst2.mc.halted = false ∧ (¬(rst2.pw.wake = 4 ∧
      rst2.pw.left = 3))) ∧
    (up.tmOn = true ∧ (up.inReset 4102 = false ∨ up.rf TM_SEC.BOOT.STATE ≠ 1 ∨ up.mc.halted = true)) ∧
    (controllerReset4.tmOn = true ∧ (controllerReset4.timerAt .heartbeat 0).isSome = true ∧ controllerReset4.rf TM_PWR.STATE.STATE = 0) ∧
    (controllerReset8.tmOn = true ∧ controllerReset8.rf TM_PWR.STATE.STATE ≠ 0) ∧
    (up.tmOn = true ∧ up.timerAt .heartbeat 0 = none) := by
  refine ⟨?_, ?_, ?_, ?_, ?_, ?_, ?_, ?_, ?_, ?_, ?_⟩ <;> decide +kernel

def stg : State := up.sets [(TM_MC.FW_CTRL.BUSY, 1), (TM_MC.FW_LEN.BYTES, 4096)]
def sgd : State := up.sets [(TM_MC.FW_CTRL.STAGED, 1)]
def trl : State := up.sets [(TM_MC.STATUS.TRIAL, 1)]
theorem witness_firmware_update :
    (up.tmOn = true ∧ up.blockOpen 4102 = true ∧ up.rfb TM_MC.FW_CTRL.BUSY = false ∧ up.rfb TM_MC.FW_CTRL.STAGED = false) ∧
    (sgd.tmOn = true ∧ sgd.blockOpen 4102 = true ∧ sgd.rfb TM_MC.FW_CTRL.BUSY = false ∧ sgd.rfb TM_MC.FW_CTRL.STAGED = true) ∧
    (stg.tmOn = true ∧ stg.blockOpen 4102 = true ∧ stg.rfb TM_MC.FW_CTRL.BUSY = true ∧ stg.mc.update = false ∧ stg.mc.halted = false ∧
      (imageCheck (List.take (stg.rf TM_MC.FW_LEN.BYTES) []) false stg.otp.helriSvn).isSome = true) ∧
    (up.tmOn = true ∧ up.blockOpen 4102 = true ∧ up.rfb TM_MC.STATUS.TRIAL = false) ∧
    (trl.tmOn = true ∧ trl.blockOpen 4102 = true ∧ trl.rfb TM_MC.STATUS.TRIAL = true ∧ trl.inReset 4102 = false ∧ trl.mc.halted = false) := by
  refine ⟨?_, ?_, ?_, ?_, ?_⟩ <;> decide +kernel

def aP (op slot arg : Nat) : List (Nat × Nat) := [(256, 320), (128, op), (132, slot), (136, arg)]
def owned : State := { up.wf TM_SEC.BOOT.IMAGE_SVN 3 with otp := { up.otp with slots := [⟨1, [1]⟩, ⟨1, [2]⟩, ⟨0, []⟩, ⟨0, []⟩] } }
def pv (op slot arg : Nat) : State := (owned.put (cmdOf 0x61 (aP op slot arg)))
def pz (op : Nat) : State := (owned.put (cmdOf 0x61 [(128, op)]))
def keyProvision0 : State := pv 1 3 0
def keyProvision1 : State := pz 1
def aPx77 (op slot arg : Nat) : List (Nat × Nat) := [(256, 320), (128, op), (132, slot), (136, arg)]
def ownedx77 : State := { up.wf TM_SEC.BOOT.IMAGE_SVN 3 with otp := { up.otp with slots := [⟨1, [1]⟩, ⟨1, [2]⟩, ⟨0, []⟩, ⟨0, []⟩] } }
def pvx77 (op slot arg : Nat) : State := (ownedx77.put (cmdOf 0x61 (aPx77 op slot arg)))
def pzx77 (op : Nat) : State := (ownedx77.put (cmdOf 0x61 [(128, op)]))
def keyProvision0x77 : State := pvx77 2 1 0
def keyProvision1x77 : State := pzx77 2
def aPx78 (op slot arg : Nat) : List (Nat × Nat) := [(256, 320), (128, op), (132, slot), (136, arg)]
def ownedx78 : State := { up.wf TM_SEC.BOOT.IMAGE_SVN 3 with otp := { up.otp with slots := [⟨1, [1]⟩, ⟨1, [2]⟩, ⟨0, []⟩, ⟨0, []⟩] } }
def pvx78 (op slot arg : Nat) : State := (ownedx78.put (cmdOf 0x61 (aPx78 op slot arg)))
def pzx78 (op : Nat) : State := (ownedx78.put (cmdOf 0x61 [(128, op)]))
def keyProvision0x78 : State := pvx78 3 0 1
def keyProvision1x78 : State := pzx78 3
def aPx79 (op slot arg : Nat) : List (Nat × Nat) := [(256, 320), (128, op), (132, slot), (136, arg)]
def ownedx79 : State := { up.wf TM_SEC.BOOT.IMAGE_SVN 3 with otp := { up.otp with slots := [⟨1, [1]⟩, ⟨1, [2]⟩, ⟨0, []⟩, ⟨0, []⟩] } }
def pvx79 (op slot arg : Nat) : State := (ownedx79.put (cmdOf 0x61 (aPx79 op slot arg)))
def pzx79 (op : Nat) : State := (ownedx79.put (cmdOf 0x61 [(128, op)]))
def keyProvision0x79 : State := pvx79 4 0 768
def keyProvision1x79 : State := pzx79 4
def aPx80 (op slot arg : Nat) : List (Nat × Nat) := [(256, 320), (128, op), (132, slot), (136, arg)]
def ownedx80 : State := { up.wf TM_SEC.BOOT.IMAGE_SVN 3 with otp := { up.otp with slots := [⟨1, [1]⟩, ⟨1, [2]⟩, ⟨0, []⟩, ⟨0, []⟩] } }
def pvx80 (op slot arg : Nat) : State := (ownedx80.put (cmdOf 0x61 (aPx80 op slot arg)))
def pzx80 (op : Nat) : State := (ownedx80.put (cmdOf 0x61 [(128, op)]))
def keyProvision0x80 : State := pvx80 5 0 0
def keyProvision1x80 : State := pzx80 5
theorem witness_key_provision :
    (keyProvision1.tmOn = true ∧ keyProvision1.cmd 1 = some (theCmd keyProvision1) ∧ keyProvision1.mayStart (theCmd keyProvision1) = true ∧
      (theCmd keyProvision1).opcode = 97 ∧ keyProvision1.mc.halted = false ∧ keyProvision1.mcTurn 1 = true ∧
      ((theCmd keyProvision1).kpOp = opAddOwner ∨ (theCmd keyProvision1).kpOp = 0 ∨ 5 < (theCmd keyProvision1).kpOp) ∧
      (¬(theCmd keyProvision1).bits 256 32 = 320)) ∧
    (keyProvision0.tmOn = true ∧ keyProvision0.cmd 1 = some (theCmd keyProvision0) ∧ keyProvision0.mayStart (theCmd keyProvision0) = true ∧
      (theCmd keyProvision0).opcode = 97 ∧ keyProvision0.mc.halted = false ∧ keyProvision0.mcTurn 1 = true ∧
      ((theCmd keyProvision0).kpOp = opAddOwner ∨ (theCmd keyProvision0).kpOp = 0 ∨ 5 < (theCmd keyProvision0).kpOp) ∧
      (theCmd keyProvision0).bits 256 32 = 320 ∧
      (keyProvision0.emit (Out.hostRead ((theCmd keyProvision0).bits 192 64) 320)).kpCheck (theCmd keyProvision0) (List.take 320 []) = some (stInvalid, 21)) ∧
    (keyProvision1x77.tmOn = true ∧ keyProvision1x77.cmd 1 = some (theCmd keyProvision1x77) ∧
      keyProvision1x77.mayStart (theCmd keyProvision1x77) = true ∧ (theCmd keyProvision1x77).opcode = 97 ∧ keyProvision1x77.mc.halted = false ∧
      keyProvision1x77.mcTurn 1 = true ∧ (theCmd keyProvision1x77).kpOp = opRevokeOwner ∧ (¬(theCmd keyProvision1x77).bits 256 32 = 320)) ∧
    (keyProvision0x77.tmOn = true ∧ keyProvision0x77.cmd 1 = some (theCmd keyProvision0x77) ∧
      keyProvision0x77.mayStart (theCmd keyProvision0x77) = true ∧ (theCmd keyProvision0x77).opcode = 97 ∧ keyProvision0x77.mc.halted = false ∧
      keyProvision0x77.mcTurn 1 = true ∧ (theCmd keyProvision0x77).kpOp = opRevokeOwner ∧ (theCmd keyProvision0x77).bits 256 32 = 320 ∧
      (keyProvision0x77.emit (Out.hostRead ((theCmd keyProvision0x77).bits 192 64) 320)).kpCheck (theCmd keyProvision0x77) (List.take 320 []) = some (stInvalid, 21)) ∧
    (keyProvision1x78.tmOn = true ∧ keyProvision1x78.cmd 1 = some (theCmd keyProvision1x78) ∧
      keyProvision1x78.mayStart (theCmd keyProvision1x78) = true ∧ (theCmd keyProvision1x78).opcode = 97 ∧ keyProvision1x78.mc.halted = false ∧
      keyProvision1x78.mcTurn 1 = true ∧ (theCmd keyProvision1x78).kpOp = opLifecycle ∧ (¬(theCmd keyProvision1x78).bits 256 32 = 320)) ∧
    (keyProvision0x78.tmOn = true ∧ keyProvision0x78.cmd 1 = some (theCmd keyProvision0x78) ∧
      keyProvision0x78.mayStart (theCmd keyProvision0x78) = true ∧ (theCmd keyProvision0x78).opcode = 97 ∧ keyProvision0x78.mc.halted = false ∧
      keyProvision0x78.mcTurn 1 = true ∧ (theCmd keyProvision0x78).kpOp = opLifecycle ∧ (theCmd keyProvision0x78).bits 256 32 = 320 ∧
      (keyProvision0x78.emit (Out.hostRead ((theCmd keyProvision0x78).bits 192 64) 320)).kpCheck (theCmd keyProvision0x78) (List.take 320 []) = some (stInvalid, 21)) ∧
    (keyProvision1x79.tmOn = true ∧ keyProvision1x79.cmd 1 = some (theCmd keyProvision1x79) ∧
      keyProvision1x79.mayStart (theCmd keyProvision1x79) = true ∧ (theCmd keyProvision1x79).opcode = 97 ∧ keyProvision1x79.mc.halted = false ∧
      keyProvision1x79.mcTurn 1 = true ∧ (theCmd keyProvision1x79).kpOp = opAdvanceSvn ∧ (¬(theCmd keyProvision1x79).bits 256 32 = 320)) ∧
    (keyProvision0x79.tmOn = true ∧ keyProvision0x79.cmd 1 = some (theCmd keyProvision0x79) ∧
      keyProvision0x79.mayStart (theCmd keyProvision0x79) = true ∧ (theCmd keyProvision0x79).opcode = 97 ∧ keyProvision0x79.mc.halted = false ∧
      keyProvision0x79.mcTurn 1 = true ∧ (theCmd keyProvision0x79).kpOp = opAdvanceSvn ∧ (theCmd keyProvision0x79).bits 256 32 = 320 ∧
      (keyProvision0x79.emit (Out.hostRead ((theCmd keyProvision0x79).bits 192 64) 320)).kpCheck (theCmd keyProvision0x79) (List.take 320 []) = some (stInvalid, 21)) ∧
    (keyProvision1x80.tmOn = true ∧ keyProvision1x80.cmd 1 = some (theCmd keyProvision1x80) ∧
      keyProvision1x80.mayStart (theCmd keyProvision1x80) = true ∧ (theCmd keyProvision1x80).opcode = 97 ∧ keyProvision1x80.mc.halted = false ∧
      keyProvision1x80.mcTurn 1 = true ∧ (theCmd keyProvision1x80).kpOp = opOwnerOnly ∧ (¬(theCmd keyProvision1x80).bits 256 32 = 320)) ∧
    (keyProvision0x80.tmOn = true ∧ keyProvision0x80.cmd 1 = some (theCmd keyProvision0x80) ∧
      keyProvision0x80.mayStart (theCmd keyProvision0x80) = true ∧ (theCmd keyProvision0x80).opcode = 97 ∧ keyProvision0x80.mc.halted = false ∧
      keyProvision0x80.mcTurn 1 = true ∧ (theCmd keyProvision0x80).kpOp = opOwnerOnly ∧ (theCmd keyProvision0x80).bits 256 32 = 320 ∧
      (keyProvision0x80.emit (Out.hostRead ((theCmd keyProvision0x80).bits 192 64) 320)).kpCheck (theCmd keyProvision0x80) (List.take 320 []) = some (stInvalid, 21)) := by
  refine ⟨?_, ?_, ?_, ?_, ?_, ?_, ?_, ?_, ?_, ?_⟩ <;> decide +kernel

def attestQuote0 : State := cu 0x60 []
def attestQuote1 : State := cu 0x60 [(448, 300)]
def attestQuote2 : State := { cu 0x60 [] with otp := { up.otp with lifecycle := 3 } }
theorem witness_attest_quote :
    (attestQuote2.tmOn = true ∧ attestQuote2.cmd 1 = some (theCmd attestQuote2) ∧ attestQuote2.mayStart (theCmd attestQuote2) = true ∧
      (theCmd attestQuote2).opcode = 96 ∧ attestQuote2.mc.halted = false ∧ attestQuote2.mcTurn 1 = true ∧ attestQuote2.otp.lifecycle = lcRetired) ∧
    (attestQuote0.tmOn = true ∧ attestQuote0.cmd 1 = some (theCmd attestQuote0) ∧ attestQuote0.mayStart (theCmd attestQuote0) = true ∧
      (theCmd attestQuote0).opcode = 96 ∧ attestQuote0.mc.halted = false ∧ attestQuote0.mcTurn 1 = true ∧
      attestQuote0.otp.lifecycle ≠ lcRetired ∧ ((theCmd attestQuote0).bits 448 32 < 288 + List.length (if (theCmd attestQuote0).bits 480 1 = 1 ∧
      attestQuote0.rfb TM_SEC.LIFECYCLE.CHAIN_BAD = false then toLe 4 (List.length Config.certChain) ++ Config.certChain else []))) ∧
    (attestQuote1.tmOn = true ∧ attestQuote1.cmd 1 = some (theCmd attestQuote1) ∧ attestQuote1.mayStart (theCmd attestQuote1) = true ∧
      (theCmd attestQuote1).opcode = 96 ∧ attestQuote1.mc.halted = false ∧ attestQuote1.mcTurn 1 = true ∧
      attestQuote1.otp.lifecycle ≠ lcRetired ∧ (288 + List.length (if (theCmd attestQuote1).bits 480 1 = 1 ∧
      attestQuote1.rfb TM_SEC.LIFECYCLE.CHAIN_BAD = false then toLe 4 (List.length Config.certChain) ++ Config.certChain else []) ≤ (theCmd attestQuote1).bits 448 32)) := by
  refine ⟨?_, ?_, ?_⟩ <;> decide +kernel

theorem witness_lifecycle_effect :
    0 ≠ lcRetired ∧
    up.otp.slots.length = 4 := by
  refine ⟨?_, ?_⟩ <;> decide +kernel

theorem witness_unlock_rights :
    up.otp.lifecycle ≤ 3 := by decide +kernel

def lv (n : Nat) : State := up.sets [(TM_SEC.DEBUG.LEVEL, n)]
def jtagPort1 : State := lv 1
def jtagPort2 : State := lv 2
def jtagPort3 : State := up.sets [(TM_PWR.STATE.STATE, 3)]
def jtagPort4 : State := { lv 2 with mc := { up.mc with sram := [(4, 6)] } }
theorem witness_jtag_port :
    (up.pw.rst ≠ 1 ∧ (255 = 255 ∨ jtagLevel 255 = none)) ∧
    (up.pw.rst ≠ 1 ∧ (jtagLevel 0).isSome = true ∧ (up.fullyActive = false ∨
      up.rf TM_SEC.DEBUG.LEVEL < Option.get (jtagLevel 0) (by decide +kernel))) ∧
    (jtagPort3.pw.rst ≠ 1 ∧ (jtagLevel 16).isSome = true ∧ (jtagPort3.fullyActive = false ∨
      jtagPort3.rf TM_SEC.DEBUG.LEVEL < Option.get (jtagLevel 16) (by decide +kernel))) ∧
    (jtagPort3.pw.rst ≠ 1 ∧ (jtagLevel 18).isSome = true ∧ (jtagPort3.fullyActive = false ∨
      jtagPort3.rf TM_SEC.DEBUG.LEVEL < Option.get (jtagLevel 18) (by decide +kernel))) ∧
    (jtagPort3.pw.rst ≠ 1 ∧ (jtagLevel 17).isSome = true ∧ (jtagPort3.fullyActive = false ∨
      jtagPort3.rf TM_SEC.DEBUG.LEVEL < Option.get (jtagLevel 17) (by decide +kernel))) ∧
    (up.pw.rst ≠ 1 ∧ (jtagLevel 2).isSome = true ∧ (up.fullyActive = false ∨
      up.rf TM_SEC.DEBUG.LEVEL < Option.get (jtagLevel 2) (by decide +kernel))) ∧
    (up.pw.rst ≠ 1 ∧ (jtagLevel 32).isSome = true ∧ (up.fullyActive = false ∨
      up.rf TM_SEC.DEBUG.LEVEL < Option.get (jtagLevel 32) (by decide +kernel))) ∧
    (up.pw.rst ≠ 1 ∧ (jtagLevel 33).isSome = true ∧ (up.fullyActive = false ∨
      up.rf TM_SEC.DEBUG.LEVEL < Option.get (jtagLevel 33) (by decide +kernel))) ∧
    (up.pw.rst ≠ 1 ∧ (jtagLevel 34).isSome = true ∧ (up.fullyActive = false ∨
      up.rf TM_SEC.DEBUG.LEVEL < Option.get (jtagLevel 34) (by decide +kernel))) ∧
    (up.pw.rst ≠ 1 ∧ (jtagLevel 35).isSome = true ∧ (up.fullyActive = false ∨
      up.rf TM_SEC.DEBUG.LEVEL < Option.get (jtagLevel 35) (by decide +kernel))) ∧
    (up.pw.rst ≠ 1 ∧ up.fullyActive = true) ∧
    (jtagPort1.pw.rst ≠ 1 ∧ jtagPort1.fullyActive = true ∧ 1 ≤ jtagPort1.rf TM_SEC.DEBUG.LEVEL) ∧
    (jtagPort2.pw.rst ≠ 1 ∧ jtagPort2.fullyActive = true ∧ 2 ≤ jtagPort2.rf TM_SEC.DEBUG.LEVEL ∧ 4 < 2 ^ 20) ∧
    (jtagPort2.pw.rst ≠ 1 ∧ jtagPort2.fullyActive = true ∧ 2 ≤ jtagPort2.rf TM_SEC.DEBUG.LEVEL ∧ 2 ^ 20 ≤ 1048576) ∧
    (jtagPort4.pw.rst ≠ 1 ∧ jtagPort4.fullyActive = true ∧ 2 ≤ jtagPort4.rf TM_SEC.DEBUG.LEVEL ∧ SMap.get 0 jtagPort4.mc.sram 4 = 5 + 1) ∧
    (jtagPort2.pw.rst ≠ 1 ∧ jtagPort2.fullyActive = true ∧ 2 ≤ jtagPort2.rf TM_SEC.DEBUG.LEVEL ∧ SMap.get 0 jtagPort2.mc.sram 4 = 0) ∧
    (jtagPort2.pw.rst ≠ 1 ∧ jtagPort2.fullyActive = true ∧ 2 ≤ jtagPort2.rf TM_SEC.DEBUG.LEVEL ∧ (2 ≤ 0 ∨ 128 ≤ 200 ∨ 49152 ≤ 1 ∨ 8 ≤ 2)) := by
  refine ⟨?_, ?_, ?_, ?_, ?_, ?_, ?_, ?_, ?_, ?_, ?_, ?_, ?_, ?_, ?_, ?_, ?_⟩ <;> decide +kernel

def debugUnlock1 : State := { up with timers := [⟨.unlock, 0, 5000⟩] }
def debugUnlock2 : State := { up with timers := [⟨.lockout, 0, 5000⟩] }
theorem witness_debug_unlock :
    up.responseOk [1, 0, 5, 0] = false ∧ up.jt.challenge = none ∧ (up.tmOn = true ∧ up.blockOpen 4101 = true) ∧
    (debugUnlock1.tmOn = true ∧ (debugUnlock1.timerAt .unlock 0).isSome = true) ∧
    (debugUnlock2.tmOn = true ∧ (debugUnlock2.timerAt .lockout 0).isSome = true) := by decide +kernel

theorem witness_step_takes_front :
    up.pending = [] := by decide +kernel

theorem witness_register_store :
    FE_PG.PORT_CFG.ENABLE.key 1 0 ≠ TM_LOG.SEQ_NEXT.SEQ.key 0 0 ∧
    up.regs.rising = true := by
  refine ⟨?_, ?_⟩ <;> decide +kernel

def ev2 : State := up.updHdr 3 (fun h => { h with evtEn := 1, capValid := true })
def ev3 : State := up.updHdr 3 (fun h => { h with evtEn := 1, capValid := true, lostCount := 65535 })
def eventCapture1 : State := up.updHdr 3 (fun h => { h with evtEn := 0 })
theorem witness_event_capture :
    (srcImplemented 3 { page := 3, src := 0, cause := 1, d0 := 2, d1 := 3 : Raise }.src = true ∧
      { page := 3, src := 0, cause := 1, d0 := 2, d1 := 3 : Raise }.src < 32 ∧
      bit (eventCapture1.hdr 3).evtEn { page := 3, src := 0, cause := 1, d0 := 2, d1 := 3 : Raise }.src = false) ∧
    (srcImplemented 3 { page := 3, src := 0, cause := 1, d0 := 2, d1 := 3 : Raise }.src = true ∧
      { page := 3, src := 0, cause := 1, d0 := 2, d1 := 3 : Raise }.src < 32 ∧
      bit (up.hdr 3).evtEn { page := 3, src := 0, cause := 1, d0 := 2, d1 := 3 : Raise }.src = true ∧ (up.hdr 3).capValid = false) ∧
    (srcImplemented 3 { page := 3, src := 0, cause := 1, d0 := 2, d1 := 3 : Raise }.src = true ∧
      { page := 3, src := 0, cause := 1, d0 := 2, d1 := 3 : Raise }.src < 32 ∧
      bit (ev3.hdr 3).evtEn { page := 3, src := 0, cause := 1, d0 := 2, d1 := 3 : Raise }.src = true ∧ (ev3.hdr 3).capValid = true ∧
      (ev3.hdr 3).lostCount = 65535) ∧
    (srcImplemented 3 { page := 3, src := 0, cause := 1, d0 := 2, d1 := 3 : Raise }.src = true ∧
      { page := 3, src := 0, cause := 1, d0 := 2, d1 := 3 : Raise }.src < 32 ∧
      bit (ev2.hdr 3).evtEn { page := 3, src := 0, cause := 1, d0 := 2, d1 := 3 : Raise }.src = true ∧ (ev2.hdr 3).capValid = true ∧
      (ev2.hdr 3).lostCount ≠ 65535) := by
  refine ⟨?_, ?_, ?_, ?_⟩ <;> decide +kernel

theorem witness_block_reset_state :
    ((fun x => false) (TM_LOG.SEQ_NEXT.SEQ.key 0 0) = true ∨ TM_LOG.SEQ_NEXT.SEQ.key 0 0 < 4152 * 32768 + 2048 ∨
      (4152 + 1) * 32768 ≤ TM_LOG.SEQ_NEXT.SEQ.key 0 0) := by decide +kernel

theorem witness_alive_restart :
    up.tmOn = true ∧ up.blockOpen 4176 = true := by decide +kernel

def blockBytes1 : State := { up with timers := [⟨.preempt, 3, 5000⟩] }
theorem witness_block_bytes :
    (up.feOn = true ∧ up.blockOpen (pgPage 3) = true ∧ bit 8 3 = true) ∧
    (blockBytes1.feOn = true ∧ (blockBytes1.timerAt .preempt 3).isSome = true) := by
  refine ⟨?_, ?_⟩ <;> decide +kernel

/-- An active section of 512 words, and pending words that hold no slot and an empty list for each reach class. -/
def sprayEmpty : State :=
  { up with bankA := { up.bankA with secs := [⟨0x41, 0, 0, List.replicate 2112 0⟩] },
            fab := { up.fab with pend := (List.range 16).map (fun r => (256 + 16 * r, 255)) } }
theorem slotEntry_past (d : Bytes) (n j : Nat) (h : d.length ≤ 2112) : slotEntry d n j = 0 := by
  have hd : d.drop (2112 + 2 * (320 * j + n)) = [] := List.drop_eq_nil_of_le (by omega)
  unfold slotEntry leAt; rw [hd]; rfl
theorem sprayEmpty_length : (sprayEmpty.pendSec sprayEmpty.pendWords).length ≤ 2112 := by decide +kernel
theorem sprayEmpty_lists : ∀ r ∈ List.range 16, spreadList (sprayEmpty.pendSec sprayEmpty.pendWords) r = [] := by decide +kernel
theorem unserved (d : Bytes) (h : ((d.drop 64).take 1024).all (fun x => decide (x = 0)) = true) (dev : Nat) (hd : dev < 1024) :
    devRclass d dev = none := by
  have hb : byteAt d (64 + dev) = 0 := by
    unfold byteAt
    rw [← List.getElem?_drop, ← List.getElem?_take_of_lt hd]
    cases hx : ((d.drop 64).take 1024)[dev]? with
    | none => rfl
    | some x =>
      have := List.all_eq_true.mp h x (List.mem_of_getElem? hx)
      simp only [decide_eq_true_eq] at this; subst this; rfl
  unfold devRclass; rw [hb]; rfl
theorem sprayEmpty_served : (((sprayEmpty.pendSec sprayEmpty.pendWords).drop 64).take 1024).all (fun x => decide (x = 0)) = true := by
  decide +kernel
theorem sprayFault_none (d : Bytes) (len : Nat) (h : d.length ≤ 2112) (hl : ∀ r ∈ List.range 16, spreadList d r = [])
    (hs : ∀ dev, dev < 1024 → devRclass d dev = none) : sprayFault d len 0 = none := by
  have a : ∀ r, r < 16 → spreadList d r = [] := fun r hr => hl r (List.mem_range.mpr hr)
  unfold sprayFault
  rw [if_neg (by simp [slotEntry_past _ _ _ h, bits]), if_neg (by simp [slotEntry_past _ _ _ h, bits]),
    if_neg (by simp [slotEntry_past _ _ _ h, bits]), if_neg (by simp +contextual [a]), if_neg (by simp +contextual [a]),
    if_neg (by simp +contextual [hs])]
theorem installCause_none (d : Bytes) (len exp : Nat) (h : d.length ≤ 2112) (hl : ∀ r ∈ List.range 16, spreadList d r = [])
    (hs : ∀ dev, dev < 1024 → devRclass d dev = none) (he : exp = 0) : installCause d len exp = none := by
  subst he; unfold installCause; rw [sprayFault_none d len h hl hs]
theorem witness_spray_install : sprayEmpty.tmOn = true ∧ sprayEmpty.blockOpen 4146 = true ∧ sprayEmpty.rfb TM_SPRAY.INSTALL.PENDING = false ∧
    installCause (sprayEmpty.pendSec sprayEmpty.pendWords) (if sprayEmpty.sprayNow.isEmpty then 0 else sprayLen sprayEmpty.sprayNow)
      (sprayExp sprayEmpty.sprayNow) = none := by
  refine ⟨by decide +kernel, by decide +kernel, by decide +kernel, ?_⟩
  exact installCause_none _ _ _ sprayEmpty_length sprayEmpty_lists (unserved _ sprayEmpty_served) (by decide +kernel)

theorem get_of_list (d v : Chan) (l : List Nat) (x : Nat) (h : x ∈ l) : SMap.get d (l.map (fun i => (i, v))) x = v := by
  induction l with
  | nil => cases h
  | cons a l ih =>
    simp only [List.map_cons, SMap.get]
    split
    · rfl
    · rename_i hne
      exact ih ((List.mem_cons.mp h).resolve_left (fun e => hne e.symm))
/-- All 65,536 channels are in use. -/
def channelsFull : State :=
  { cu 0x20 [(130, 1), (192, 1)] with chans := (List.range 65536).map (fun i => (i, { Chan.free with used := true })) }
theorem witness_channels_full : channelsFull.tmOn = true ∧ channelsFull.cmd 1 = some (cmdOf 0x20 [(130, 1), (192, 1)]) ∧
    channelsFull.mayStart (cmdOf 0x20 [(130, 1), (192, 1)]) = true ∧ (cmdOf 0x20 [(130, 1), (192, 1)]).opcode = 0x20 ∧
    (cmdOf 0x20 [(130, 1), (192, 1)]).bits 130 1 = 1 ∧ (∀ x, x < 65536 → (channelsFull.chan x).used = true) := by
  refine ⟨by decide +kernel, by decide +kernel, by decide +kernel, by decide +kernel, by decide +kernel, fun x hx => ?_⟩
  unfold State.chan channelsFull
  rw [get_of_list _ _ _ _ (List.mem_range.mpr hx)]

/-- Signatures verify: what the spec leaves to the cryptography (log entry 6). -/
abbrev SignaturesVerify : Prop := ∀ key digest sig, Config.verifies key digest sig = true

/-- An image of four bytes, security version 0, with its hash in the header. -/
def anImage : Bytes :=
  toLe 4 0x524C4548 ++ ([1, 0, 0, 0] ++ (toLe 4 7 ++ (toLe 4 4 ++ (toBe 48 (Config.sha384 [1, 2, 3, 4]).toNat ++
    (List.replicate 128 0 ++ [1, 2, 3, 4])))))
theorem anImage_body : imageBody anImage = [1, 2, 3, 4] := by rfl
theorem anImage_hash : (anImage.drop 16).take 48 = toBe 48 (Config.sha384 [1, 2, 3, 4]).toNat := by rfl
theorem anImage_good (h : SignaturesVerify) : imageCheck anImage false 0 = none := by
  have h0 : le32 anImage 0 = 0x524C4548 := by rfl
  have h1 : leAt anImage 4 2 = 1 := by rfl
  have h2 : le32 anImage 12 = 4 := by rfl
  unfold imageCheck
  rw [anImage_body, anImage_hash, h0, h1, h2]
  simp [h]
theorem witness_image_accepted (h : SignaturesVerify) (hf : Config.flashError up.freeCtr = false) :
    let s : State := { up with flash := { up.flash with slots := [(0, anImage)] } }
    s.tmOn = true ∧ (s.slotCheck 0).1 = none := by
  refine ⟨by decide +kernel, ?_⟩
  show imageCheck anImage (Config.flashError up.freeCtr) 0 = none
  rw [hf]; exact anImage_good h
def staging : State := up.sets [(TM_MC.FW_CTRL.BUSY, 1), (TM_MC.FW_LEN.BYTES, 196)]
theorem witness_image_staged (h : SignaturesVerify) :
    staging.tmOn = true ∧ staging.blockOpen 4102 = true ∧ staging.rfb TM_MC.FW_CTRL.BUSY = true ∧ staging.mc.update = false ∧
      staging.mc.halted = false ∧ imageCheck (anImage.take (staging.rf TM_MC.FW_LEN.BYTES)) false staging.otp.helriSvn = none := by
  refine ⟨by decide +kernel, by decide +kernel, by decide +kernel, by decide +kernel, by decide +kernel, ?_⟩
  have h1 : staging.rf TM_MC.FW_LEN.BYTES = 196 := by decide +kernel
  have h2 : anImage.take 196 = anImage := by rfl
  rw [h1, h2]; exact anImage_good h

/-- A record of an operation, slot and argument that the vendor or an owner signs alone. -/
def aRecord (op slot arg signer : Nat) : Bytes :=
  toLe 4 0x5652504B ++ toLe 1 op ++ toLe 1 slot ++ toLe 2 arg ++ List.replicate 89 0 ++ toLe 1 signer ++ toLe 1 0xFF ++ List.replicate 221 0
def aProvision (op slot arg : Nat) : List (Nat × Nat) := [(256, 320), (128, op), (132, slot), (136, arg)]
/-- Two owners, and an image of security version 3 booted. -/
def twoOwners : State := { up.wf TM_SEC.BOOT.IMAGE_SVN 3 with otp := { up.otp with slots := [⟨1, [1]⟩, ⟨1, [2]⟩, ⟨0, []⟩, ⟨0, []⟩] } }
def provision (op slot arg : Nat) : State := (twoOwners.put (cmdOf 0x61 (aProvision op slot arg)))
theorem signed_ok (h : SignaturesVerify) (o : Otp) (b : Bytes) : o.signed b = true := by
  unfold Otp.signed; simp [h]
theorem kpCheck_ok (h : SignaturesVerify) (s : State) (c : Cmd) (b : Bytes) (h1 : s.recordOk c b = true)
    (h2 : (b.drop 16).take 32 = s.provNonce)
    (h3 : (1 ≤ c.kpOp ∧ c.kpOp ≤ 5) ∧ s.otp.lifecycle = lcManufacture)
    (h4 : s.otp.signersOk c.kpOp c.kpArg (byteAt b 97) (byteAt b 98) = true)
    (h5 : (c.kpOp = opAddOwner → s.otp.slotIs c.kpSlot 0 = true) ∧
      (c.kpOp = opRevokeOwner → s.otp.slotIs c.kpSlot 1 = true ∧ 2 ≤ s.otp.valid.length) ∧
      (c.kpOp = opLifecycle → transition s.otp.lifecycle (c.kpArg % 4) = true) ∧
      (c.kpOp = opAdvanceSvn → s.svnOk c.kpArg = true)) : s.kpCheck c b = none := by
  obtain ⟨h3, h6⟩ := h3
  obtain ⟨ha, hr, hl, hs⟩ := h5
  unfold State.kpCheck
  rw [if_neg (by simp [h1]), if_neg (by simp [h2]), if_neg (by simp [h3, h6]), if_neg (by simp [h4]), if_neg (by simp [signed_ok h]),
    if_neg (by simpa using ha), if_neg (by simpa [Nat.lt_iff_add_one_le] using hr), if_neg (by simpa using hl), if_neg (by simpa using hs)]
/-- What the statements about provisioning ask of a command and a record that pass each check. -/
def Accepted (op slot arg signer : Nat) : Prop :=
  let s := provision op slot arg
  let c := cmdOf 0x61 (aProvision op slot arg)
  s.tmOn = true ∧ s.cmd 1 = some c ∧ s.mayStart c = true ∧ c.opcode = 0x61 ∧ s.mc.halted = false ∧ s.mcTurn 1 = true ∧ c.bits 256 32 = 320 ∧
    c.kpOp = op ∧
    (s.emit (.hostRead (c.bits 192 64) 320)).kpCheck c ((aRecord op slot arg signer).take 320) = none
theorem witness_key_provision_accepted (h : SignaturesVerify) : Accepted opAddOwner 3 0 0 ∧ Accepted opRevokeOwner 1 0 1 ∧
    Accepted opLifecycle 0 1 0 ∧ Accepted opAdvanceSvn 0 (3 * 256) 1 ∧ Accepted opOwnerOnly 0 0 1 := by
  refine ⟨?_, ?_, ?_, ?_, ?_⟩ <;>
    refine ⟨by decide +kernel, by decide +kernel, by decide +kernel, by decide +kernel, by decide +kernel, by decide +kernel, by decide +kernel,
      by decide +kernel, kpCheck_ok h _ _ _ (by decide +kernel) (by decide +kernel) (by decide +kernel) (by decide +kernel) (by decide +kernel)⟩
theorem witness_lifecycle_order (h : SignaturesVerify) :
    (provision opLifecycle 0 1).kpCheck (cmdOf 0x61 (aProvision opLifecycle 0 1)) (aRecord opLifecycle 0 1 0) = none ∧
      (cmdOf 0x61 (aProvision opLifecycle 0 1)).kpOp = opLifecycle :=
  ⟨kpCheck_ok h _ _ _ (by decide +kernel) (by decide +kernel) (by decide +kernel) (by decide +kernel) (by decide +kernel), by decide +kernel⟩
/-- An observer's response to a fresh challenge, from the vendor. -/
theorem witness_unlock_accepted (h : SignaturesVerify) :
    ({ up with jt := { up.jt with challenge := some ([1, 2, 3], 3000) } } : State).responseOk [1, 0, 5, 0] = true := by
  have h1 : up.armed .lockout 0 = false := by decide +kernel
  have h2 : up.otp.mayUnlock 0 1 = true := by decide +kernel
  unfold State.responseOk
  simp only [h, Bool.and_true]
  decide +kernel

def exporting : State := up.wf TM_DMC.EXPORT.BUSY 1
theorem witness_export_done : exporting.tmOn = true ∧ exporting.rfb TM_DMC.EXPORT.BUSY = true ∧ ∃ q ∈ [3], q < 524288 := by decide +kernel
/-- The loop runs at 700 mV with a margin above HIGH_PS that has lasted long enough to step down. -/
def tooFast : State := { up.sets [(TM_THERM.AVS_STATE.TARGET, 700), (TM_THERM.AVS_CTRL.AVS_EN, 1)] with th := { up.th with run := 59 } }
theorem witness_voltage_down : tooFast.vMin ≤ 700 ∧ 700 ≤ tooFast.vMax ∧ tooFast.rf TM_THERM.AVS_STATE.TARGET = 700 ∧
    (tooFast.avsLoop 80 (some 695)).rf TM_THERM.AVS_STATE.TARGET = 695 := by decide +kernel
def waking : State := { up with pw := { up.pw with wake := 2 } }
theorem witness_request_while_waking : 1 < 3 ∧ ¬((1 : Nat) = 1 ∧ waking.pwr = psC) ∧ 1 ≠ waking.powerGoal ∧ waking.waking = true := by
  decide +kernel
theorem witness_block_reset_fields : 4152 * 32768 + 2048 ≤ TM_SHAPE.SHPROF_DATA.DATA.key 0 0 ∧
    TM_SHAPE.SHPROF_DATA.DATA.key 0 0 < (4152 + 1) * 32768 := by decide +kernel
/-- An ordinary record (WARNING) and a protected one (CRITICAL). -/
def plainRec : LogRec := ⟨72, 1, 1, 0, 0, .event, false, 0, 5, 6, 7⟩
def guardedRec : LogRec := ⟨72, 1, 3, 0, 0, .event, false, 0, 5, 6, 7⟩
def ringFull : State := { up with log := ⟨List.replicate 7680 plainRec, [], [], 0, none⟩ }
theorem witness_device_ring :
    (plainRec.isProtected = false ∧ up.rfb TM_LOG.SQUALL_STATUS.ACTIVE = false ∧ up.log.ring.length < 7680 ∧
      up.log.ring.length + 1 < up.squallEnterThr) ∧
    (ringFull.log.ring.length ≤ 8192 ∧ 7680 ≤ ringFull.log.ring.length) ∧
    (guardedRec.isProtected = true ∧ ringFull.log.ring.length < 8192) := by
  refine ⟨?_, ?_, ?_⟩ <;> decide +kernel
theorem witness_otp_steps : up.otpLegal ∧ (∃ t, step up = .next t) ∧
    (∀ id r n, Instr.jtagTapReset ≠ .addOwner id r n ∧ Instr.jtagTapReset ≠ .revokeOwner id r n ∧ Instr.jtagTapReset ≠ .lifecycle id r n ∧
      Instr.jtagTapReset ≠ .advanceSvn id r n ∧ Instr.jtagTapReset ≠ .ownerOnly id r n) ∧ ∃ t, exec .jtagTapReset up = .next t :=
  ⟨by unfold State.otpLegal Otp.legal; decide +kernel, ⟨_, rfl⟩, fun _ _ _ => ⟨nofun, nofun, nofun, nofun, nofun⟩, ⟨_, rfl⟩⟩

/-- Neither flash slot holds an image, whatever the flash answers: no slot boots. -/
def blankFlash : State := { up with flash := { up.flash with slots := [(0, [0]), (1, [0])] } }
theorem blank_fails (e : Bool) (v : Nat) : imageCheck [0] e v = some 1 := by
  unfold imageCheck; exact if_pos (by decide)
theorem witness_no_slot_boots :
    let u := (blankFlash.showOtp.wf TM_SEC.BOOT.STATE 0).wf TM_MC.STATUS.INIT_STAGE 0
    blankFlash.tmOn = true ∧ (u.slotCheck 0).1 = some 1 ∧ ((u.slotCheck 0).2.slotCheck 1).1 = some 1 := by
  intro u
  have h0 : u.slotImage 0 = [0] := by rfl
  have h1 : (u.slotCheck 0).2.slotImage 1 = [0] := by rfl
  refine ⟨by decide +kernel, ?_, ?_⟩
  · show imageCheck (u.slotImage 0) (Config.flashError u.freeCtr) u.otp.helriSvn = _
    rw [h0, blank_fails]
  · show imageCheck ((u.slotCheck 0).2.slotImage 1) (Config.flashError (u.slotCheck 0).2.freeCtr) (u.slotCheck 0).2.otp.helriSvn = _
    rw [h1, blank_fails]

/-! ### Values of the spec's worked examples -/

/-- The device of the example "400G and 1.6T" of chapter 14, with the ports 44 (400G, preemption) and 128 (1.6T). -/
def express : State :=
  let b : Bank := { up.bankA with depthI := 600, depthE := 480, secs := [⟨0x41, 0, 0, [0, 0, 10, 0]⟩] }
  let s : State := { up with bankA := b, bankB := b }
  let s := (List.range 320).reverse.foldl (fun s n => s.setFl TM_FLINK.LINK_STATUS.STATE n 0) s
  let s := s.sets [(TM_GLOBAL.MIN_LEN7.BYTES, 200), (TM_GLOBAL.F_WIRE.FACTOR, fWire 200), (TM_GLOBAL.F_CELL.FACTOR, fCell 200),
    (TM_GLOBAL.T_PAT.NS, 1280), (TM_QUEUE.EXP_QLIM.BYTES, 16384), (TM_QUEUE.EXP_VOQ_LIM.BYTES, 262144)]
  let s := (s.wfBank TM_REORD.WINDOW_EXP.NS false 0 2000).wfBank TM_REORD.WINDOW_EXP.NS true 0 2000
  let s := [(FE_PG.PORT_CFG.ENABLE, 1), (FE_PG.PORT_CFG.SPEED, 2), (FE_PG.PORT_CFG.MAX_FRAME, 9600), (FE_PG.HOLD.BLOCK_BYTES, 151)].foldl
    (fun s e => s.setPg e.1 44 e.2) s
  ([(FE_PG.PORT_CFG.ENABLE, 1), (FE_PG.PORT_CFG.SPEED, 4), (FE_PG.PORT_CFG.MAX_FRAME, 9600), (FE_PG.HOLD.BLOCK_BYTES, 9620)].foldl
    (fun s e => s.setPg e.1 128 e.2) s).wfi TM_GATE.GMAX.NS 128 2000
/-- R355's example: L_IG of the pipelines 2 and 8, L_EG of both ports. -/
theorem test_express_bounds : express.lIg 2 = 3277 ∧ express.lIg 8 = 3132 ∧ express.lEg 44 = 2834 ∧ express.lEg 128 = 4599 := by
  decide +kernel
/-- R352's example: F_WIRE and F_CELL of M = 64 and M = 200 with 16 fraction bits. -/
theorem test_express_factors : fWire 64 = 21 * 65536 / 16 ∧ fCell 64 = 15 * 65536 / 4 ∧ fWire 200 = 0x1199A ∧ fCell 200 = 0x26667 := by
  decide +kernel
/-- Chapter 15's example: where unit 0x09C4_1A75 lies. -/
theorem test_memory_unit : unitCtl 0x09C41A75 = 5 ∧ unitChan 0x09C41A75 = 5 * 4 + 3 ∧ unitBank 0x09C41A75 % 16 = 9 ∧
    unitRow 0x09C41A75 = 20000 ∧ unitCtl 0x09C41A76 = 6 := by decide
/-- Chapter 8's examples: line 1,000 of position 61 in BAR2, and bits [63:0] of a learn event. -/
theorem test_bar2_line : bar2Of 0x07A07D00 = some (0, 61, 1000, 0) := by decide +kernel
theorem test_learn_key : (⟨0x001B4C0A7702, 30, 0, 0, 12, 0⟩ : LearnEv).key = 0x001E001B4C0A7702 := by decide
/-- Chapter 7's example: the member of a flow in a group of 12 members from 40,000. -/
theorem test_ecmp_member : memberIndex 40000 12 0x9E3779B9 = 40007 := by decide
/-- Chapter 2's example: link 100 is handled by FLINK3, local link 4. -/
theorem test_flink_page : TM_FLINK.LINK_CFG.ENABLE.key 3 4 = 0x102B000 * 8 + (TM_FLINK.LINK_CFG.ENABLE.key 0 4 - 0x1028000 * 8) := by decide
/-- Chapter 11's example: the entry of link 123 for slot 517 lies at byte 333,238 of the section, and 0x01CA is EXPRESS, class 2, alternate 7. -/
theorem test_spray_entry : 2112 + 2 * (320 * 517 + 123) = 333238 ∧ bits 0x01CA 0 2 = 2 ∧ bits 0x01CA 2 4 = 2 ∧ bits 0x01CA 6 4 = 7 := by decide
/-- Chapter 13's example: a shaper of 10 Gbit/s at -1,440 bytes stands at 0 after 1,152 ns, 1,843.2 core cycles. -/
theorem test_shaper_refill : (Shaper.upTo ⟨-1440 * 65536, 0, 0, 10000000 + 32000 * 2 ^ 32⟩ 1843).credit ≤ 0 ∧
    0 < (Shaper.upTo ⟨-1440 * 65536, 0, 0, 10000000 + 32000 * 2 ^ 32⟩ 1844).credit := by decide +kernel

/-! ### Well-formedness refuses an ill-formed command for each of its checks, and takes the operands at the ends of their ranges -/

theorem test_ill_formed_0 : [Instr.registerWrite .host (2 ^ 25) 8 (2 ^ 64 - 1) .bar0, .registerWrite .host (2 ^ 20) 8 (2 ^ 64 - 1) .bar4, .registerWrite .host 4096 4 0 .config, .registerWrite .host (2 ^ 25 - 8) 3 0 .bar0, .registerWrite .host 0 8 0 .config, .registerWrite .host (2 ^ 25 - 8) 1 256 .bar0, .pageEnable .host 8192 false, .softReset .host 8192, .markerActionStart 8192, .markerWaitLimit 8192, .blockResetDone 8192, .evtLatchClear 8192 (2 ^ 32 - 1), .evtLatchClear 8191 (2 ^ 32), .evtForce 8192 (2 ^ 32 - 1), .evtForce 8191 (2 ^ 32), .evtCaptureRelease 8192, .evtLostClear 8192, .pageLockWrite .host 8192 false, .perfCntPreset 8192 3 false (2 ^ 32 - 1), .perfCntPreset 8191 4 false (2 ^ 32 - 1), .perfCntPreset 8191 3 false (2 ^ 32), .counterLoReadLatch (2 ^ 25) .bar0 8, .counterLoReadLatch (2 ^ 20) .bar4 8, .counterLoReadLatch 4096 .config 4, .counterLoReadLatch (2 ^ 25 - 8) .bar0 3, .counterLoReadLatch 0 .config 8, .counterReadRearm (2 ^ 25) 8, .counterReadRearm (2 ^ 25 - 1) 3, .pcieLinkTrained 0 3 false, .sqTailDoorbell 64 8 (2 ^ 64 - 1), .sqTailDoorbell 63 3 0, .sqTailDoorbell 63 1 256, .cqHeadDoorbell 64 8 (2 ^ 64 - 1), .cqHeadDoorbell 63 3 0, .cqHeadDoorbell 63 1 256, .puntTailDoorbell 64 8 (2 ^ 64 - 1), .puntTailDoorbell 63 3 0, .puntTailDoorbell 63 1 256, .injectTailDoorbell 64 8 (2 ^ 64 - 1), .injectTailDoorbell 63 3 0].all (fun i => !i.wellFormed) = true := by decide +kernel

theorem test_ill_formed_1 : [Instr.injectTailDoorbell 63 1 256, .ringEnable (.cmd 64) (2 ^ 32 - 1), .ringEnable (.punt 64) (2 ^ 32 - 1), .ringEnable (.inject 64) (2 ^ 32 - 1), .ringEnable (.cmd 63) (2 ^ 32), .ringDisable (.cmd 64) (2 ^ 32 - 1), .ringDisable (.punt 64) (2 ^ 32 - 1), .ringDisable (.inject 64) (2 ^ 32 - 1), .ringDisable (.cmd 63) (2 ^ 32), .completionWrite 64 false, .puntDeliver 64 .fail false false, .injectFetch 64 .fail .fail false, .selectorLane 8, .cellCheckError 2112 .parity 0, .remapDone 16 0, .fencedCellActivity 2112, .cellTestDone 2112 .pass, .frameRx 256 [7] .good, .frameRx 255 [] .good, .pipelineInputAdmit 16, .stripExit 16 .none, .tmIngressArrival 16, .fabricCellRx 320 0 (List.replicate 256 0) false, .fabricCellRx 319 0 (List.replicate 255 0) false, .reorderCollectionExpire 1024 false, .reorderGapExpire 1024 false, .reorderCtxIdle 1024 false, .egressSelect 16 [], .expressPacerOpen 256, .egressStripExit 16, .macFrameBoundary 256, .frameTxEnd 256, .bar2Write (2 ^ 32) 8 (2 ^ 64 - 1), .bar2Write (2 ^ 32 - 1) 3 0, .bar2Write (2 ^ 32 - 1) 1 256, .bar2Read (2 ^ 32), .tdmaLock (2 ^ 32), .tdmaUnlock (2 ^ 32), .holdWrite (2 ^ 32), .tableScrub 16 0 0 [] [] false].all (fun i => !i.wellFormed) = true := by decide +kernel

theorem test_ill_formed_2 : [Instr.portEnable 256 (2 ^ 32 - 1), .portEnable 255 (2 ^ 32), .portDisable 256 (2 ^ 32 - 1), .portDisable 255 (2 ^ 32), .linkUp 256, .linkDown 256 3, .linkDown 255 0, .linkDown 255 4, .anFail 256 0, .degIntervalEnd (.port 256) 0 0 [], .degIntervalEnd (.link 320) 0 0 [], .pfcFrameRx 256 255 (List.replicate 8 65535), .pfcFrameRx 255 256 (List.replicate 8 65535), .pfcFrameRx 255 255 [0], .pfcFrameRx 255 255 (List.replicate 8 65536), .pfcPauseExpire 256 7, .pfcPauseExpire 255 8, .pfcRefreshTimer 256 7, .pfcRefreshTimer 255 8, .preemptEnable 256 (2 ^ 32 - 1), .preemptEnable 255 (2 ^ 32), .preemptVerifyTimer 256 false, .tsAck 32, .protRecordRead (2 ^ 32), .protRecordWrite (2 ^ 32), .protWtrExpire 256, .protForceOut 0 (2 ^ 32), .codewordLock 320, .flinkLos 320 false, .fawCheck 320 0 0 [], .overheadRx 320 (List.replicate 64 0) false, .overheadRx 319 (List.replicate 63 0) false, .fcTimeoutExpire 1024 31, .fcTimeoutExpire 1023 32, .flinkEnable 320 (2 ^ 32 - 1), .flinkEnable 319 (2 ^ 32), .flinkDisable 320 (2 ^ 32 - 1), .flinkDisable 319 (2 ^ 32), .flinkForceOut 320 false, .flinkWtrExpire 320].all (fun i => !i.wellFormed) = true := by decide +kernel

theorem test_ill_formed_3 : [Instr.trainFailTimeout 320, .traceSelRead 8192 (2 ^ 32 - 1), .traceSelRead 8191 (2 ^ 32), .traceSelWrite 8192 (2 ^ 32 - 1), .traceSelWrite 8191 (2 ^ 32), .pendDataAccess (some (2 ^ 32)), .mcastGroupRead (2 ^ 32), .mcastGroupWrite (2 ^ 32), .mcastRecordRead (2 ^ 32), .mcastRecordWrite (2 ^ 32), .chanDestroyDrained 65536, .destroyTimeout 65536, .tmPortDown 257, .portHoldExpire 257, .tmPortUp 257, .qprofRead (2 ^ 32), .qprofWrite (2 ^ 32), .queueStatsLoad (2 ^ 32), .nodeRead (2 ^ 32), .nodeWrite (2 ^ 32), .clsprofRead (2 ^ 32), .clsprofWrite (2 ^ 32), .shprofRead (2 ^ 32), .shprofWrite (2 ^ 32), .shaperLoad (2 ^ 32), .pprofRead (2 ^ 32), .pprofWrite (2 ^ 32), .policerRead (2 ^ 32), .policerWrite (2 ^ 32), .gateEntryRead (2 ^ 32), .gateEntryWrite (2 ^ 32), .gateEn (2 ^ 32), .gateSwitchRequest (2 ^ 32), .gateAbort (2 ^ 32), .gateSwitchApply 257, .gateEntryChange 257, .sampleNWrite (2 ^ 32), .recordRingEnable .log (2 ^ 32), .recordRingHeadWrite .log (2 ^ 32), .dmcTrainingDone 16 none].all (fun i => !i.wellFormed) = true := by decide +kernel

theorem test_ill_formed_4 : [Instr.dmcTrainTimeout 16, .wckRealign 16 3, .wckRealign 15 4, .dmcActivate 16 3, .dmcActivate 15 4, .refreshInterval 16, .dmcTempRead 16 0 false, .throttleExpire 1024 0, .freqChangeDone 16 false 0, .freqStepTimeout 16 0, .counterWriteback 524288, .counterExportDone [0, 524288], .hbHoldWrite (2 ^ 32), .bridgeLaneInterval 128 0 0, .bridgeWordUncorrectable 128 .register, .bridgeDown 128, .summaryCountLoad (2 ^ 32), .freezeWrite (2 ^ 32), .traceSeedWrite (2 ^ 32), .addOwner 0 .fail 4, .revokeOwner 0 .fail 4, .lifecycle 0 .fail 4, .advanceSvn 0 .fail 4, .ownerOnly 0 .fail 4, .jtagBypass 256, .secResponse (List.replicate 103 0), .jtagRegRead (2 ^ 32), .jtagRegWrite (2 ^ 32) (2 ^ 32 - 1), .jtagRegWrite (2 ^ 32 - 1) (2 ^ 32), .memAccess (.mc 0) (some (2 ^ 32)), .addendWrite (2 ^ 32), .powerRequest 4, .mgmtPowerReq 256 false, .mgmtClear 256 false, .mgmtRegAddr (2 ^ 32) false, .mgmtRegWrite (2 ^ 32) false, .resetReq (2 ^ 32)].all (fun i => !i.wellFormed) = true := by decide +kernel

theorem test_well_formed_0 : [Instr.registerWrite .host (2 ^ 25 - 8) 8 (2 ^ 64 - 1) .bar0, .pageEnable .host 8191 false, .softReset .host 8191, .markerActionStart 8191, .markerWaitLimit 8191, .blockResetDone 8191, .evtLatchClear 8191 (2 ^ 32 - 1), .evtForce 8191 (2 ^ 32 - 1), .evtCaptureRelease 8191, .evtLostClear 8191, .pageLockWrite .host 8191 false, .perfCntPreset 8191 3 false (2 ^ 32 - 1), .counterLoReadLatch (2 ^ 25 - 8) .bar0 8, .counterReadRearm (2 ^ 25 - 1) 8, .pcieLinkTrained 0 8 false, .sqTailDoorbell 63 8 (2 ^ 64 - 1), .cqHeadDoorbell 63 8 (2 ^ 64 - 1), .puntTailDoorbell 63 8 (2 ^ 64 - 1), .injectTailDoorbell 63 8 (2 ^ 64 - 1), .ringEnable (.cmd 63) (2 ^ 32 - 1), .ringDisable (.cmd 63) (2 ^ 32 - 1), .completionWrite 63 false, .puntDeliver 63 .fail false false, .injectFetch 63 .fail .fail false, .selectorLane 7, .cellCheckError 2111 .parity 0, .remapDone 15 0, .fencedCellActivity 2111, .cellTestDone 2111 .pass, .frameRx 255 [7] .good, .pipelineInputAdmit 15, .stripExit 15 .none, .tmIngressArrival 15, .fabricCellRx 319 0 (List.replicate 256 0) false, .reorderCollectionExpire 1023 false, .reorderGapExpire 1023 false, .reorderCtxIdle 1023 false, .egressSelect 15 [], .expressPacerOpen 255, .egressStripExit 15].all (fun i => i.wellFormed) = true := by decide +kernel

theorem test_well_formed_1 : [Instr.macFrameBoundary 255, .frameTxEnd 255, .bar2Write (2 ^ 32 - 1) 8 (2 ^ 64 - 1), .bar2Read (2 ^ 32 - 1), .tdmaLock (2 ^ 32 - 1), .tdmaUnlock (2 ^ 32 - 1), .holdWrite (2 ^ 32 - 1), .tableScrub 15 0 0 [] [] false, .portEnable 255 (2 ^ 32 - 1), .portDisable 255 (2 ^ 32 - 1), .linkUp 255, .linkDown 255 3, .anFail 255 0, .degIntervalEnd (.port 255) 0 0 [], .pfcFrameRx 255 255 (List.replicate 8 65535), .pfcPauseExpire 255 7, .pfcRefreshTimer 255 7, .preemptEnable 255 (2 ^ 32 - 1), .preemptVerifyTimer 255 false, .tsAck 31, .protRecordRead (2 ^ 32 - 1), .protRecordWrite (2 ^ 32 - 1), .protWtrExpire 255, .protForceOut 0 (2 ^ 32 - 1), .codewordLock 319, .flinkLos 319 false, .fawCheck 319 0 0 [], .overheadRx 319 (List.replicate 64 0) false, .fcTimeoutExpire 1023 31, .flinkEnable 319 (2 ^ 32 - 1), .flinkDisable 319 (2 ^ 32 - 1), .flinkForceOut 319 false, .flinkWtrExpire 319, .trainFailTimeout 319, .traceSelRead 8191 (2 ^ 32 - 1), .traceSelWrite 8191 (2 ^ 32 - 1), .pendDataAccess (some 7), .mcastGroupRead (2 ^ 32 - 1), .mcastGroupWrite (2 ^ 32 - 1), .mcastRecordRead (2 ^ 32 - 1)].all (fun i => i.wellFormed) = true := by decide +kernel

theorem test_well_formed_2 : [Instr.mcastRecordWrite (2 ^ 32 - 1), .chanDestroyDrained 65535, .destroyTimeout 65535, .tmPortDown 256, .portHoldExpire 256, .tmPortUp 256, .qprofRead (2 ^ 32 - 1), .qprofWrite (2 ^ 32 - 1), .queueStatsLoad (2 ^ 32 - 1), .nodeRead (2 ^ 32 - 1), .nodeWrite (2 ^ 32 - 1), .clsprofRead (2 ^ 32 - 1), .clsprofWrite (2 ^ 32 - 1), .shprofRead (2 ^ 32 - 1), .shprofWrite (2 ^ 32 - 1), .shaperLoad (2 ^ 32 - 1), .pprofRead (2 ^ 32 - 1), .pprofWrite (2 ^ 32 - 1), .policerRead (2 ^ 32 - 1), .policerWrite (2 ^ 32 - 1), .gateEntryRead (2 ^ 32 - 1), .gateEntryWrite (2 ^ 32 - 1), .gateEn (2 ^ 32 - 1), .gateSwitchRequest (2 ^ 32 - 1), .gateAbort (2 ^ 32 - 1), .gateSwitchApply 256, .gateEntryChange 256, .sampleNWrite (2 ^ 32 - 1), .recordRingEnable .log (2 ^ 32 - 1), .recordRingHeadWrite .log (2 ^ 32 - 1), .dmcTrainingDone 15 none, .dmcTrainTimeout 15, .wckRealign 15 3, .dmcActivate 15 3, .refreshInterval 15, .dmcTempRead 15 0 false, .throttleExpire 1023 0, .freqChangeDone 15 false 0, .freqStepTimeout 15 0, .counterWriteback 524287].all (fun i => i.wellFormed) = true := by decide +kernel

theorem test_well_formed_3 : [Instr.counterExportDone [0, 524287], .hbHoldWrite (2 ^ 32 - 1), .bridgeLaneInterval 127 0 0, .bridgeWordUncorrectable 127 .register, .bridgeDown 127, .summaryCountLoad (2 ^ 32 - 1), .freezeWrite (2 ^ 32 - 1), .traceSeedWrite (2 ^ 32 - 1), .addOwner 0 .fail 3, .revokeOwner 0 .fail 3, .lifecycle 0 .fail 3, .advanceSvn 0 .fail 3, .ownerOnly 0 .fail 3, .jtagBypass 255, .secResponse (List.replicate 104 0), .jtagRegRead (2 ^ 32 - 1), .jtagRegWrite (2 ^ 32 - 1) (2 ^ 32 - 1), .memAccess (.mc 0) (some 7), .addendWrite (2 ^ 32 - 1), .powerRequest 3, .mgmtPowerReq 255 false, .mgmtClear 255 false, .mgmtRegAddr (2 ^ 32 - 1) false, .mgmtRegWrite (2 ^ 32 - 1) false, .resetReq (2 ^ 32 - 1)].all (fun i => i.wellFormed) = true := by decide +kernel


end Sys2Proof.Tests
end

section
/-! SUPPORT and PROOF. The member index of an ECMP group (R169), in arithmetic. -/

namespace Sys2Proof.Machine

/-- A field of a word, by division: the form in which its bounds are arithmetic. -/
theorem bits_eq_div_mod (v lo w : Nat) : bits v lo w = v / 2 ^ lo % 2 ^ w := by
  rw [bits, Nat.shiftRight_eq_div_pow]

/-- A field of `w` bits is below `2 ^ w`. -/
theorem bits_lt_two_pow (v lo w : Nat) : bits v lo w < 2 ^ w :=
  Nat.mod_lt _ (Nat.two_pow_pos w)

/-- R169's formula, with the shift as a division. -/
theorem memberIndex_eq_add_div (base size flow : Nat) :
    memberIndex base size flow = base + bits flow 16 16 * size / 2 ^ 16 := by
  rw [memberIndex, Nat.shiftRight_eq_div_pow]

/-- A half hash, which is below `2 ^ 16`, takes less than the whole of SIZE, so a group that has members never
reads past its last one. -/
theorem memberIndex_lt (base : Nat) {size : Nat} (hsize : 0 < size) (flow : Nat) :
    memberIndex base size flow < base + size := by
  have hscaled : bits flow 16 16 * size < 2 ^ 16 * size :=
    Nat.mul_lt_mul_of_pos_right (bits_lt_two_pow flow 16 16) hsize
  rw [memberIndex_eq_add_div]
  exact Nat.add_lt_add_left (Nat.div_lt_of_lt_mul hscaled) base

/-- Settles O59: the formula and its range by the lemmas above; the example by evaluation. -/
theorem ecmpMember : Obligations.EcmpMember := by
  refine ⟨fun base size p => ⟨?formula, fun hsize => ⟨?lower, ?upper⟩⟩, ?sameFlow, ?groupExample⟩
  case formula => rw [memberIndex_eq_add_div, bits_eq_div_mod]
  case lower => exact Nat.le_add_right base _
  case upper => exact memberIndex_lt base hsize p.flowHash
  case sameFlow => exact fun base size _ _ hflow => congrArg (memberIndex base size) hflow
  case groupExample => decide

end Sys2Proof.Machine
end

section
/-! SUPPORT and PROOF. A write of ALIVE_CTRL.RESTART (R394, log entry 24). The model reads "a heartbeat has arrived in the
last 100 ms" off the heartbeat timer. -/

namespace Sys2Proof.Machine

/-- R394's first condition fails: an enabled CRITICAL source has its latch set, FE.D2D source 4 through BD_LATCH (R398). -/
theorem State.criticalLatched_iff (s : State) :
    s.criticalLatched = true ↔
      (∃ P n, n < 32 ∧ ∃ h, (P, h) ∈ s.hdrs ∧ bit h.latch n = true ∧ bit h.evtEn n = true ∧ h.sevOf n = 3) ∨
      (s.rf TM_FAULT.STATUS.BD_LATCH = 1 ∧ bit (s.hdr 78).evtEn 4 = true ∧ (s.hdr 78).sevOf 4 = 3) := by
  simp only [State.criticalLatched, State.rfb, Bool.or_eq_true, Bool.and_eq_true, decide_eq_true_eq, List.any_eq_true,
    List.mem_range, and_assoc]
  refine or_congr_left ⟨?_, ?_⟩
  · rintro ⟨⟨P, h⟩, hmem, n, hn, hsrc⟩
    exact ⟨P, n, hn, h, hmem, hsrc⟩
  · rintro ⟨P, n, hn, h, hmem, hsrc⟩
    exact ⟨(P, h), hmem, n, hn, hsrc⟩

/-- R394's second condition: the heartbeat timer runs and its deadline has not passed. -/
theorem State.beating_iff (s : State) :
    s.beating = true ↔ ∃ d, s.timerAt .heartbeat 0 = some d ∧ s.cycle ≤ d := by
  unfold State.beating
  cases s.timerAt .heartbeat 0 <;> simp

/-- A refused RESTART sets RESTART_REFUSED and nothing else. -/
theorem State.aliveRestart_refused (s : State) (hopen : s.blockOpen 4176 = true)
    (hbad : s.criticalLatched = true ∨ ¬s.beating = true) :
    s.aliveRestart = s.wf TM_FAULT.ALIVE_STATUS.RESTART_REFUSED 1 := by
  have hrefuse : (s.criticalLatched || !s.beating) = true := by simpa using hbad
  simp only [State.aliveRestart, hopen, hrefuse, Bool.not_true, Bool.false_eq_true, if_false, if_true]

/-- An accepted RESTART makes STATE RUNNING and clears RESTART_REFUSED. -/
theorem State.aliveRestart_accepted (s : State) (hopen : s.blockOpen 4176 = true)
    (hno : ¬s.criticalLatched = true) (hbeat : s.beating = true) :
    s.aliveRestart = (s.wf TM_FAULT.ALIVE_STATUS.STATE 1).wf TM_FAULT.ALIVE_STATUS.RESTART_REFUSED 0 := by
  simp [State.aliveRestart, hopen, hno, hbeat]

theorem exec_aliveRestart_on (s : State) (hon : s.tmOn = true) : exec .aliveRestart s = .next s.aliveRestart :=
  congrArg Host.Outcome.next (State.onTm_on s State.aliveRestart hon)

/-- RESTART_REFUSED as a write of it leaves it. -/
theorem State.restartRefused_wf (s : State) {v : Nat} (hv : v < 2) :
    (s.wf TM_FAULT.ALIVE_STATUS.RESTART_REFUSED v).rf TM_FAULT.ALIVE_STATUS.RESTART_REFUSED = v :=
  (State.rf_wf_same s _ v).trans (Nat.mod_eq_of_lt hv)

/-- STATE and RESTART_REFUSED are two places of the register file: a write of the second leaves the first. -/
theorem State.aliveState_wf_restartRefused (s : State) (v : Nat) :
    (s.wf TM_FAULT.ALIVE_STATUS.RESTART_REFUSED v).rf TM_FAULT.ALIVE_STATUS.STATE = s.rf TM_FAULT.ALIVE_STATUS.STATE :=
  State.rf_wf_ne s _ _ v (by decide)

/-- STATE RUNNING, written, reads RUNNING. -/
theorem State.aliveState_wf_running (s : State) :
    (s.wf TM_FAULT.ALIVE_STATUS.STATE 1).rf TM_FAULT.ALIVE_STATUS.STATE = 1 :=
  (State.rf_wf_same s _ 1).trans (by decide)

/-- Settles O58: the two conditions of R394 decide between the accepted and the refused write, each of which touches the
register file alone. -/
theorem aliveRestart : Obligations.AliveRestart := by
  intro s hon hopen critical beats
  have hcritical : s.criticalLatched = true ↔ critical := s.criticalLatched_iff
  have hbeats : s.beating = true ↔ beats := s.beating_iff
  refine ⟨s.aliveRestart, exec_aliveRestart_on s hon, ?_⟩
  by_cases hok : ¬critical ∧ beats
  case pos =>
    obtain ⟨hno, hbeat⟩ := hok
    rw [s.aliveRestart_accepted hopen (mt hcritical.mp hno) (hbeats.mpr hbeat)]
    refine ⟨rfl, fun _ _ => ⟨?_, State.restartRefused_wf _ Nat.zero_lt_two⟩,
      fun hbad => absurd hbad (not_or_intro hno (not_not_intro hbeat))⟩
    rw [State.aliveState_wf_restartRefused, State.aliveState_wf_running]
  case neg =>
    have hbad : critical ∨ ¬beats := (not_and_or.mp hok).imp_left not_not.mp
    rw [s.aliveRestart_refused hopen (hbad.imp hcritical.mpr (mt hbeats.mp))]
    exact ⟨rfl, fun hno hbeat => absurd ⟨hno, hbeat⟩ hok,
      fun _ => ⟨State.aliveState_wf_restartRefused _ _, State.restartRefused_wf _ Nat.one_lt_two⟩⟩

end Sys2Proof.Machine
end

section
/-! SUPPORT and PROOF. Every command answers a next state; but for the five provisioning operations it leaves the OTP
array as it was, and none touches the queue behind it. -/

namespace Sys2Proof.Machine

/-- `t` agrees with `s` on the OTP array and on the queue of waiting commands. -/
def State.Kept (s t : State) : Prop := t.otp = s.otp ∧ t.pending = s.pending

/-- A next state that agrees with `s` on the OTP array and on the queue. -/
def State.NextKept (s : State) (o : Host.Outcome State Fault Refusal) : Prop := ∃ t, o = .next t ∧ s.Kept t

theorem State.Kept.refl (s : State) : s.Kept s := ⟨rfl, rfl⟩

theorem State.Kept.next {s t : State} (h : s.Kept t) : s.NextKept (.next t) := ⟨t, rfl, h⟩

theorem State.NextKept.next {s t : State} (h : s.Kept t) : s.NextKept (.next t) := h.next

theorem State.NextKept.ite {c : Prop} [Decidable c] {s : State} {a b : Host.Outcome State Fault Refusal}
    (ha : s.NextKept a) (hb : s.NextKept b) : s.NextKept (if c then a else b) := by split <;> assumption

theorem State.Kept.ite {c : Prop} [Decidable c] {s a b : State} (ha : s.Kept a) (hb : s.Kept b) :
    s.Kept (if c then a else b) := by split <;> assumption

/-- An operation behind a gate keeps what it keeps: a shut gate changes nothing. -/
theorem State.Kept.onTm {s : State} {f : State → State} (h : s.Kept (f s)) : s.Kept (s.onTm f) :=
  State.onTm_rel State.Kept s f (.refl s) h
theorem State.Kept.onFe {s : State} {f : State → State} (h : s.Kept (f s)) : s.Kept (s.onFe f) :=
  State.onFe_rel State.Kept s f (.refl s) h
theorem State.Kept.onPhy {s : State} {f : State → State} (h : s.Kept (f s)) : s.Kept (s.onPhy f) :=
  State.onPhy_rel State.Kept s f (.refl s) h
theorem State.Kept.onBus {s : State} {P : Nat} {f : State → State} (h : s.Kept (f s)) : s.Kept (s.onBus P f) :=
  State.onBus_rel State.Kept s P f (.refl s) h
theorem State.Kept.onDie {s : State} {P : Nat} {f : State → State} (h : s.Kept (f s)) : s.Kept (s.onDie P f) :=
  State.onDie_rel State.Kept s P f (.refl s) h
theorem State.Kept.onAon {s : State} {f : State → State} (h : s.Kept (f s)) : s.Kept (s.onAon f) :=
  State.onAon_rel State.Kept s f (.refl s) h
theorem State.Kept.onTap {s : State} {f : State → State} (h : s.Kept (f s)) : s.Kept (s.onTap f) :=
  State.onTap_rel State.Kept s f (.refl s) h

theorem State.Kept.onPtp {s : State} {f : State → State} (h : s.Kept (f s)) : s.Kept (s.onPtp f) :=
  State.onPtp_rel State.Kept s f (.refl s) h
theorem State.Kept.onFw {s : State} {f : State → State} (h : s.Kept (f s)) : s.Kept (s.onFw f) :=
  State.onFw_rel State.Kept s f (.refl s) h

/-- A JTAG instruction keeps what its action keeps. -/
theorem State.Kept.jtag {s : State} {code : Nat} {f : State → State}
    (h : ∀ u, s.Kept u → s.Kept (f u)) : s.Kept (s.jtag code f) := by
  have hir : s.Kept (s.jtagIr code) := s.jtagIr_keep code
  refine .onTap ?_
  show s.Kept (if (s.jtagIr code).jtagAllows code then f (s.jtagIr code) else _)
  split
  · exact h _ hir
  · exact ⟨by simp, by simp⟩

/-- A register command of the management interface keeps what its action keeps. -/
theorem State.Kept.onMgmtReg {s : State} {f : State → State} (h : s.Kept (f s)) : s.Kept (s.onMgmtReg f) := by
  refine .onAon ?_
  split
  · exact h
  · exact s.mgmtNack_keep

/-- A write of the management interface keeps what its action keeps. -/
theorem State.Kept.mgmtWrite {s : State} {code : Nat} {pec : Bool} {f : State → State} (h : s.Kept (f s)) :
    s.Kept (s.mgmtWrite code pec f) := by
  unfold State.mgmtWrite
  split
  · exact ⟨by simp, by simp⟩
  · exact h

/-- A write of an RWL field keeps what its action keeps. -/
theorem State.Kept.rwlWrite {s : State} {g : Fld} {data v : Nat} {f : State → State} (h : s.Kept (f s)) :
    s.Kept (s.rwlWrite g data v f) := by
  unfold State.rwlWrite
  exact .ite (.ite ⟨by simp, by simp⟩ (.refl s)) h

/-- A timer that expires keeps OTP and queue. -/
theorem State.Kept.expire (s : State) (k : TimerKind) (i : Nat) : s.Kept ((s.expire k i).getD s) := by
  cases h : s.expire k i with
  | none => exact .refl s
  | some t => exact State.expire_some h

/-- The commands that change OTP (R430, R435, R437). -/
def provisions : Instr → Bool
  | .addOwner .. | .revokeOwner .. | .lifecycle .. | .advanceSvn .. | .ownerOnly .. => true
  | _ => false

/-- A command that is no provisioning operation answers a next state with the OTP and the queue as they were. -/
theorem exec_nextKept (c : Instr) (s : State) (hc : provisions c = false) : s.NextKept (exec c s) := by
  cases c
  case addOwner | revokeOwner | lifecycle | advanceSvn | ownerOnly => cases hc
  case pageEnable | softReset | evtLatchClear | evtForce | evtCaptureRelease | evtLostClear | pageLockWrite | perfCntPreset =>
    exact .next (.onBus ⟨by simp, by simp⟩)
  case markerActionStart | markerWaitLimit | blockResetDone => exact .next (.onDie ⟨by simp, by simp⟩)
  case pcieLinkTrained | pcieLinkDown | hostInterfaceReset | pciePowerState => exact .next (.onPhy ⟨by simp, by simp⟩)
  case entrySafePoint | doldrumsSample | mgmtAddressMatch | mgmtStatus | mgmtTimeout | wakeStepDone | wakeStepTimeout |
      pwrGoodFall | aonBrownout | wakeRetry =>
    exact .next (.onAon ⟨by simp, by simp⟩)
  case degIntervalEnd lane _ _ _ =>
    cases lane with
    | port p => exact .next (.onFe ⟨by simp, by simp⟩)
    | link n => exact .next (.onTm ⟨by simp, by simp⟩)
  case traceExport | pllUnlock | tempWarn | thermTrip =>
    exact .next (.ite (.onTm ⟨by simp, by simp⟩) (.onFe ⟨by simp, by simp⟩))
  case cycleCheckMarker => exact .next (.onTm (.onFe ⟨by simp, by simp⟩))
  case mgmtPowerReq | mgmtClear => exact .next (.onAon (.mgmtWrite ⟨by simp, by simp⟩))
  case mgmtRegAddr | mgmtRegWrite => exact .next (.onMgmtReg (.mgmtWrite ⟨by simp, by simp⟩))
  case mgmtRegRead => exact .next (.onMgmtReg ⟨by simp, by simp⟩)
  case por => exact .next s.porClear_keep
  case chipReset pin => exact .next (s.chipReset_keep pin)
  case porNRelease => exact .next s.porRelease_keep
  case sysRstNRelease => exact State.Kept.next s.sysRelease_keep
  case jtagIdcode | secChallenge | secResponse | secStatus | samplePreload | extest | jtagRegRead | jtagRegWrite | memAccess |
      mcDebug =>
    exact .next (.jtag fun u ⟨ho, hp⟩ => ⟨by simp [ho], by simp [hp]⟩)
  case jtagBypass code => exact .next (s.jtagBypass_keep code)
  case jtagTapReset => exact .next (.onTap ⟨by simp, by simp⟩)
  case expressPacerOpen | unlockLockoutExpire => exact .next (.onTm (.expire s _ _))
  case pfcPauseExpire => exact .next (.onFe (.expire s _ _))
  case debugUnlockExpire =>
    refine .next (.onTm ?_)
    split
    case h_1 t ht => exact ⟨t.endUnlock_keep.1.trans (State.expire_some ht).1, t.endUnlock_keep.2.trans (State.expire_some ht).2⟩
    case h_2 => exact .refl s
  case coalTimerExpire cause =>
    refine .ite (.next (.refl s)) ?_
    cases h : s.expire .coal cause with
    | none => exact .next (.refl s)
    | some t => exact State.Kept.next ⟨by simp [State.expire_some h], by simp [State.expire_some h]⟩
  case msixUnblock ctl =>
    refine .ite (.next (.refl s)) ?_
    cases ctl with
    | control => exact State.Kept.next ⟨by simp, by simp⟩
    | vector => exact .ite (.next ⟨by simp, by simp⟩) (.next (.refl s))
  case fence | unknownOpcode | dampWindowExpire =>
    refine .ite (.next (.refl s)) ?_
    split
    · exact .next (.refl s)
    · exact State.Kept.next ⟨by simp, by simp⟩
  case linkDown | anFail | tsAck =>
    exact .ite (.next (.refl s)) (.ite (.next ⟨by simp, by simp⟩) (.next (.refl s)))
  case rcvyResetExpire stream =>
    refine .ite (.next (.refl s)) ?_
    cases h : s.expire .rcvyReset stream with
    | none => exact .next (.refl s)
    | some t => exact State.Kept.next ⟨by simp [State.expire_some h], by simp [State.expire_some h]⟩
  case protWtrExpire port =>
    refine .ite (.next (.refl s)) ?_
    cases h : s.expire .protWtr port with
    | none => exact .next (.refl s)
    | some t => exact .ite (.next ⟨by simp [State.expire_some h], by simp [State.expire_some h]⟩) (.next (State.expire_some h))
  case frameRx | pfcFrameRx => exact .next (.onFe (.ite (.refl s) ⟨by simp, by simp⟩))
  case fabricCellRx | overheadRx => exact .next (.onTm (.ite (.refl s) ⟨by simp, by simp⟩))
  case fcTimeoutExpire | aliveStop | debugRelock | powerRequest | wakeNRelease | avsPeriod =>
    exact .next (.onTm (.ite ⟨by simp, by simp⟩ (.refl s)))
  case ddrEnable | ddrDisable | avsEnable =>
    exact .next (.onTm (.ite (.rwlWrite ⟨by simp, by simp⟩) (.refl s)))
  case timeStepWrite | timeOffsetWrite | addendWrite | ppsCapAck | todRxAck =>
    exact .next (.onPtp ⟨by simp, by simp⟩)
  case fwStage | fwStageDone | fwSwitch | fwConfirm =>
    exact .next (.onFw ⟨by simp, by simp⟩)
  case selectorLane | depthGapEnd | cellCheckError | slotScrub | slotStoreScrub | remapDone | fencedCellActivity |
      cellRemap | cellTest | cellTestDone | cellUnfence | pipelineInputAdmit | stripExit | egressStripExit |
      macFrameBoundary | frameTxEnd | tblInsert | tblDelete | tblModify | tblLookup | tblReadIndex | tblCas |
      tblAgeDelete | tblSwitchRegion | regionSwitchApply | tableWriteSlot | bar2Write | bar2Read | tdmaLock |
      tdmaUnlock | holdWrite | holdDrained | tableScrub | learnEventProcess | hitSetWrite | ageTick | ageWalkLine |
      ageDeletion | portEnable | portDisable | linkUp | pfcRefreshTimer | preemptEnable |
      preemptVerifyTimer | protRecordRead | protRecordWrite | protForceOut | feRecordForward | traceSeedWrite |
      timeAdjustApply | ppsOutEdge | ppsInEdge | ppsInMissing | todTxSend | todRxMessage | ppsOutPulseEnd =>
    exact .next (.onFe ⟨by simp, by simp⟩)
  -- every other command acts behind the gate of the TM die
  all_goals exact .next (.onTm ⟨by simp, by simp⟩)

/-! ### The provisioning operations -/

/-- A completion and a fresh nonce keep OTP and queue. -/
theorem State.Kept.finishNonce {s t : State} (h : s.Kept t) (id st det res : Nat) :
    s.Kept (t.finishR id st det res).freshNonce := by
  obtain ⟨ho, hp⟩ := h
  exact ⟨by simp [ho], by simp [hp]⟩

/-- The queue is the one before, and the OTP either that before or its image under `f`. -/
def State.BurntBy (s : State) (f : Otp → Otp) (t : State) : Prop := (t.otp = s.otp ∨ t.otp = f s.otp) ∧ t.pending = s.pending

theorem State.Kept.burntBy {s t : State} (h : s.Kept t) (f : Otp → Otp) : s.BurntBy f t := ⟨.inl h.1, h.2⟩

/-- A stopped burn leaves OTP as it was or wholly changed. -/
theorem State.stopBurn_burntBy (s : State) (id copies : Nat) (f : Otp → Otp) (after : State → State)
    (hafter : ∀ u : State, u.Kept (after u)) : s.BurntBy f (s.stopBurn id copies f after) := by
  have hbegin : s.Kept (s.begin id) := s.begin_keep id
  unfold State.stopBurn
  dsimp only
  split
  · exact hbegin.burntBy f
  · obtain ⟨ho, hp⟩ := hafter { ({ s.begin id with otp := (s.begin id).otp.torn (f (s.begin id).otp) } : State).showOtp with
      otp := f (s.begin id).otp }
    exact ⟨.inr (by rw [ho, hbegin.1]), by rw [hp]; simp⟩

/-- A whole burn with its completion leaves OTP changed. -/
theorem State.burn_burntBy (s : State) (id : Nat) (f : Otp → Otp) (after : State → State) (hafter : ∀ u : State, u.Kept (after u)) :
    s.BurntBy f (((after (s.burn f)).finishR id stOK 0 0).freshNonce) := by
  obtain ⟨ho, hp⟩ := (hafter (s.burn f)).finishNonce id stOK 0 0
  exact ⟨.inr (ho.trans (by simp [State.burn])), hp.trans (by simp [State.burn])⟩

/-- What KEY_PROVISION of an operation can do to OTP: nothing, or the change of a record of that operation that passed every
check of R440. -/
theorem State.keyProvision_cases (s : State) (id : Nat) (mine : Nat → Bool) (record : ReadResult) (copies : Nat)
    (f : Cmd → Bytes → Otp → Otp) (after : Cmd → Bytes → Otp → State → State) (hafter : ∀ c b o (u : State), u.Kept (after c b o u)) :
    s.Kept (s.keyProvision id mine record copies f after) ∨
      ∃ c b, mine c.kpOp = true ∧ s.kpCheck c b = none ∧ s.BurntBy (f c b) (s.keyProvision id mine record copies f after) := by
  unfold State.keyProvision
  split
  case h_1 => exact .inl (.refl s)
  case h_2 c _ =>
  by_cases hidle : (!mine c.kpOp || s.mc.halted || !s.mcTurn id) = true
  case pos => rw [if_pos hidle]; exact .inl (.refl s)
  rw [if_neg hidle]
  split
  · exact .inl (State.Kept.finishNonce (.refl s) id _ _ _)
  dsimp only
  have hread : s.Kept (s.emit (.hostRead (c.bits 192 64) 320)) := ⟨rfl, rfl⟩
  cases record with
  | fail => exact .inl (hread.finishNonce id _ _ _)
  | data d =>
    dsimp only
    split
    · exact .inl (hread.finishNonce id _ _ _)
    · next hcheck =>
      refine .inr ⟨c, d.take 320, by simp_all, hcheck, ?_⟩
      split
      · exact State.stopBurn_burntBy (s.emit _) id copies _ _ (hafter _ _ _)
      · exact State.burn_burntBy (s.emit _) id _ _ (hafter _ _ _)

end Sys2Proof.Machine
end

section
/-! SUPPORT and PROOF. What the records of R437 to R440 do to the one-time-programmable memory: the checks a record passes,
and that each operation keeps the OTP legal and moves it forward. -/

namespace Sys2Proof.Machine

theorem listSet_eq_set {α : Type} (l : List α) (n : Nat) (v : α) : listSet l n v = l.set n v := by
  induction l generalizing n with
  | nil => rfl
  | cons x xs ih => cases n <;> simp [listSet, ih]

/-! ### The checks of R440 -/

/-- The checks of R440 that bear on OTP, as a record that passes them all meets them. -/
structure State.Admits (s : State) (c : Cmd) (b : Bytes) : Prop where
  op_range : 1 ≤ c.kpOp ∧ c.kpOp ≤ 5
  state : s.otp.lifecycle = lcManufacture ∨ s.otp.lifecycle = lcDeployed ∨ c.kpOp = opLifecycle
  signers : s.otp.signersOk c.kpOp c.kpArg (byteAt b 97) (byteAt b 98) = true
  slot_empty : c.kpOp = opAddOwner → s.otp.slotIs c.kpSlot 0 = true
  slot_valid : c.kpOp = opRevokeOwner → s.otp.slotIs c.kpSlot 1 = true
  exists_transition : c.kpOp = opLifecycle → transition s.otp.lifecycle (c.kpArg % 4) = true
  svn : c.kpOp = opAdvanceSvn → s.svnOk c.kpArg = true

theorem ite_some_eq_none {α : Type} {p : Prop} [Decidable p] {a : α} {o : Option α} :
    (if p then some a else o) = none ↔ ¬p ∧ o = none := by split <;> simp_all

theorem State.admits_of_kpCheck {s : State} {c : Cmd} {b : Bytes} (h : s.kpCheck c b = none) : s.Admits c b := by
  simp only [State.kpCheck, ite_some_eq_none] at h
  obtain ⟨-, -, hop, hsigners, -, hadd, hrevoke, hlife, hsvn, -⟩ := h
  simp only [Bool.and_eq_true, Bool.or_eq_true, Bool.not_eq_true', Bool.not_eq_false, decide_eq_true_eq, not_and] at hop hsigners hadd hrevoke hlife hsvn
  exact ⟨hop.1, or_assoc.mp hop.2, hsigners, hadd, fun e => (hrevoke e).1, hlife, hsvn⟩

/-! ### Each change keeps the OTP legal -/

section
variable {o : Otp}

/-- A legal OTP outside RETIRED has its slots whole. -/
theorem Otp.erased_of_not_retired (h : o.legal) (hl : o.lifecycle ≠ lcRetired) : o.erased = false := by
  obtain ⟨-, -, -, -, -, herased, -⟩ := h
  exact Bool.eq_false_iff.mpr fun e => hl (herased.mp e)

theorem Otp.legal_setSlot (h : o.legal) (hl : o.lifecycle ≠ lcRetired) (k : Nat) {x : OwnerSlot} (hx : x.st ≤ 3) :
    (o.setSlot k x).legal := by
  have hwhole := Otp.erased_of_not_retired h hl
  obtain ⟨hlen, hst, hlife, hhelri, halm, herased, -⟩ := h
  refine ⟨?_, ?_, hlife, hhelri, halm, herased, fun e => absurd (hwhole.symm.trans e) (by decide)⟩
  · simpa [Otp.setSlot, listSet_eq_set] using hlen
  · intro y hy
    rw [Otp.setSlot, listSet_eq_set] at hy
    exact (List.mem_or_eq_of_mem_set hy).elim (hst y) (fun e => e ▸ hx)

theorem Otp.legal_revoke (h : o.legal) (hl : o.lifecycle ≠ lcRetired) (k : Nat) : (o.revoke k).legal := by
  unfold Otp.revoke
  split
  · exact Otp.legal_setSlot h hl k (Nat.le_of_lt (by decide : 2 < 3))
  · exact h

@[simp] theorem Otp.revoke_lifecycle (k : Nat) : (o.revoke k).lifecycle = o.lifecycle := by unfold Otp.revoke; split <;> rfl

theorem Otp.legal_foldl_revoke (h : o.legal) (hl : o.lifecycle ≠ lcRetired) (ks : List Nat) :
    (ks.foldl (fun o k => o.revoke k) o).legal := by
  induction ks generalizing o with
  | nil => exact h
  | cons k ks ih => exact ih (Otp.legal_revoke h hl k) (by simpa using hl)

/-- The lifecycle word alone moves between the states before RETIRED. -/
theorem Otp.legal_lifecycle (h : o.legal) (hl : o.lifecycle ≠ lcRetired) {new : Nat} (hnew : new < lcRetired) :
    ({ o with lifecycle := new } : Otp).legal := by
  have hwhole := Otp.erased_of_not_retired h hl
  obtain ⟨hlen, hst, -, hhelri, halm, -, hslots⟩ := h
  refine ⟨hlen, hst, Nat.le_of_lt hnew, hhelri, halm, ?_, hslots⟩
  show o.erased = true ↔ new = 3
  have hne : new ≠ 3 := Nat.ne_of_lt hnew
  simp [hwhole, hne]

/-- The erase makes RETIRED legal. -/
theorem Otp.legal_erase (h : o.legal) : ({ o with lifecycle := lcRetired } : Otp).erase.legal := by
  obtain ⟨-, -, -, hhelri, halm, -⟩ := h
  exact ⟨rfl, by simp [Otp.erase], Nat.le_refl 3, hhelri, halm, by simp [Otp.erase, lcRetired], fun _ => rfl⟩

theorem Otp.legal_advance (h : o.legal) (arg : Nat) : (o.advance arg).legal := by
  obtain ⟨hlen, hst, hlife, hhelri, halm, herased, hslots⟩ := h
  have hbyte : bits arg 8 8 < 256 := bits_lt_two_pow arg 8 8
  unfold Otp.advance
  split
  · exact ⟨hlen, hst, hlife, hbyte, halm, herased, hslots⟩
  · exact ⟨hlen, hst, hlife, hhelri, hbyte, herased, hslots⟩

end

/-! ### Transitions -/

/-- The transitions of R437 lead forward, and none leaves RETIRED. -/
theorem transition_cases {a b : Nat} (h : transition a b = true) :
    (b = lcRetired ∧ a < lcRetired) ∨ (a = lcManufacture ∧ b = lcDeployed) ∨ (a = lcDeployed ∧ b = lcReturned) := by
  simp only [transition, List.contains_cons, List.contains_nil, Bool.or_false, Bool.or_eq_true, beq_iff_eq, Prod.mk.injEq] at h
  simp only [lcManufacture, lcDeployed, lcReturned, lcRetired] at h ⊢
  omega

theorem Otp.enter_retired (o : Otp) : o.enter lcRetired = ({ o with lifecycle := lcRetired } : Otp).erase := rfl

theorem Otp.enter_returned (o : Otp) : o.enter lcReturned =
    ({ o with lifecycle := lcReturned } : Otp).valid.foldl (fun o k => o.revoke k) { o with lifecycle := lcReturned } := rfl

theorem Otp.enter_of_lt {new : Nat} (o : Otp) (h : new < lcReturned) : o.enter new = { o with lifecycle := new } := by
  have hretired : new ≠ lcRetired := Nat.ne_of_lt (Nat.lt_trans h (by decide))
  simp only [Otp.enter, if_neg hretired, if_neg (Nat.ne_of_lt h)]

theorem Otp.legal_enter {o : Otp} (h : o.legal) {new : Nat} (ht : transition o.lifecycle new = true) : (o.enter new).legal := by
  rcases transition_cases ht with ⟨rfl, -⟩ | ⟨ho, rfl⟩ | ⟨ho, rfl⟩
  · exact Otp.legal_erase h
  · rw [Otp.enter_of_lt o (by decide)]
    exact Otp.legal_lifecycle h (by rw [ho]; decide) (by decide)
  · exact Otp.legal_foldl_revoke (Otp.legal_lifecycle h (by rw [ho]; decide) (by decide)) (Nat.ne_of_lt (by decide : 2 < 3)) _

/-! ### Each change moves the OTP forward -/

theorem Otp.follows_refl (o : Otp) : o.follows o :=
  ⟨rfl, rfl, Nat.le_refl _, Nat.le_refl _, Nat.le_refl _, id, id⟩

theorem Otp.follows_trans {o p q : Otp} (h : o.follows p) (h' : p.follows q) : o.follows q := by
  obtain ⟨hid, hcert, hlife, hhelri, halm, honly, herased⟩ := h
  obtain ⟨hid', hcert', hlife', hhelri', halm', honly', herased'⟩ := h'
  exact ⟨hid'.trans hid, hcert'.trans hcert, hlife.trans hlife', hhelri.trans hhelri', halm.trans halm', honly' ∘ honly,
    herased' ∘ herased⟩

theorem Otp.follows_setSlot (o : Otp) (k : Nat) (x : OwnerSlot) : o.follows (o.setSlot k x) :=
  ⟨rfl, rfl, Nat.le_refl _, Nat.le_refl _, Nat.le_refl _, id, id⟩

theorem Otp.follows_revoke (o : Otp) (k : Nat) : o.follows (o.revoke k) := by
  unfold Otp.revoke
  split
  · exact o.follows_setSlot k _
  · exact o.follows_refl

theorem Otp.follows_foldl_revoke (o : Otp) (ks : List Nat) : o.follows (ks.foldl (fun o k => o.revoke k) o) := by
  induction ks generalizing o with
  | nil => exact o.follows_refl
  | cons k ks ih => exact Otp.follows_trans (o.follows_revoke k) (ih _)

theorem Otp.follows_lifecycle (o : Otp) {new : Nat} (h : o.lifecycle ≤ new) : o.follows { o with lifecycle := new } :=
  ⟨rfl, rfl, h, Nat.le_refl _, Nat.le_refl _, id, id⟩

theorem Otp.follows_erase (o : Otp) : o.follows o.erase :=
  ⟨rfl, rfl, Nat.le_refl _, Nat.le_refl _, Nat.le_refl _, id, fun _ => rfl⟩

theorem Otp.follows_enter (o : Otp) {new : Nat} (h : o.lifecycle ≤ new) : o.follows (o.enter new) := by
  have hmove := o.follows_lifecycle h
  unfold Otp.enter
  dsimp only
  split
  · exact Otp.follows_trans hmove (Otp.follows_erase _)
  split
  · exact Otp.follows_trans hmove (Otp.follows_foldl_revoke _ _)
  · exact hmove

/-- R440's last check lets a security version only rise. -/
theorem State.svnOk_lt {s : State} {arg : Nat} (h : s.svnOk arg = true) :
    (arg % 256 = 0 → s.otp.helriSvn < bits arg 8 8) ∧ (arg % 256 ≠ 0 → s.otp.almSvn < bits arg 8 8) := by
  unfold State.svnOk at h
  dsimp only at h
  split at h
  case isTrue h0 =>
    simp only [Bool.and_eq_true, decide_eq_true_eq] at h
    exact ⟨fun _ => h.1, fun hne => absurd h0 hne⟩
  case isFalse h0 =>
    split at h
    · simp only [Bool.and_eq_true, decide_eq_true_eq] at h
      exact ⟨fun e => absurd e h0, fun _ => h.1⟩
    · cases h

theorem State.follows_advance {s : State} {arg : Nat} (h : s.svnOk arg = true) : s.otp.follows (s.otp.advance arg) := by
  obtain ⟨hhelri, halm⟩ := State.svnOk_lt h
  unfold Otp.advance
  split
  case isTrue h0 => exact ⟨rfl, rfl, Nat.le_refl _, Nat.le_of_lt (hhelri h0), Nat.le_refl _, id, id⟩
  case isFalse h0 => exact ⟨rfl, rfl, Nat.le_refl _, Nat.le_refl _, Nat.le_of_lt (halm h0), id, id⟩

/-! ### The provisioning commands -/

/-- What a command may leave of OTP `o`: a successor that is legal where `o` was. -/
def Otp.Succ (o p : Otp) : Prop := o.follows p ∧ (o.legal → p.legal)

/-- A command's outcome: a next state whose OTP succeeds the one before, with the queue as it was. -/
def State.NextSucc (s : State) (out : Host.Outcome State Fault Refusal) : Prop :=
  ∃ t, out = .next t ∧ s.otp.Succ t.otp ∧ t.pending = s.pending

theorem State.NextKept.nextSucc {s : State} {out : Host.Outcome State Fault Refusal} (h : s.NextKept out) : s.NextSucc out := by
  obtain ⟨t, hnext, hotp, hpending⟩ := h
  exact ⟨t, hnext, hotp ▸ ⟨Otp.follows_refl _, id⟩, hpending⟩

/-- A provisioning command whose change is a success for every record of its own that passes the checks. -/
theorem State.keyProvision_nextSucc (s : State) (id : Nat) (mine : Nat → Bool) (record : ReadResult) (copies : Nat)
    (f : Cmd → Bytes → Otp → Otp) (after : Cmd → Bytes → Otp → State → State) (hafter : ∀ c b o (u : State), u.Kept (after c b o u))
    (hf : ∀ c b, mine c.kpOp = true → s.Admits c b → s.otp.Succ (f c b s.otp)) :
    s.NextSucc (.next (s.onTm (fun s => s.keyProvision id mine record copies f after))) := by
  have hsame : s.otp.Succ s.otp := ⟨s.otp.follows_refl, fun h => h⟩
  refine ⟨_, rfl, State.onTm_rel (fun s t => s.otp.Succ t.otp ∧ t.pending = s.pending) s _ ⟨hsame, rfl⟩ ?_⟩
  rcases s.keyProvision_cases id mine record copies f after hafter with ⟨hotp, hpending⟩ | ⟨c, b, hmine, hcheck, hotp, hpending⟩
  · exact ⟨hotp ▸ hsame, hpending⟩
  · refine ⟨?_, hpending⟩
    rcases hotp with hotp | hotp
    · exact hotp ▸ hsame
    · exact hotp ▸ hf c b hmine (State.admits_of_kpCheck hcheck)

/-- Outside RETIRED and RETURNED, a record of any operation but a lifecycle transition. -/
theorem State.Admits.not_retired {s : State} {c : Cmd} {b : Bytes} (h : s.Admits c b) (hop : c.kpOp ≠ opLifecycle) :
    s.otp.lifecycle ≠ lcRetired := by
  rcases h.state with e | e | e
  · exact e ▸ (by decide)
  · exact e ▸ (by decide)
  · exact absurd e hop

theorem State.lifecycle_kept (s : State) (old new signers : Nat) : s.Kept (s.lifecycle old new signers) := by
  unfold State.lifecycle
  exact ⟨by simp, by simp⟩

/-- Every command answers a next state whose OTP succeeds the one before, and leaves the queue. -/
theorem exec_nextSucc (c : Instr) (s : State) : s.NextSucc (exec c s) := by
  by_cases hc : provisions c = true
  case neg => exact (exec_nextKept c s (Bool.eq_false_iff.mpr hc)).nextSucc
  have hplain : ∀ (c : Cmd) (b : Bytes) (o : Otp) (u : State), u.Kept u := fun _ _ _ u => .refl u
  cases c
  case addOwner id r k =>
    refine s.keyProvision_nextSucc id _ r k _ _ hplain fun c b hmine h => ⟨Otp.follows_setSlot _ _ _, fun hl => ?_⟩
    have hop : c.kpOp ≠ opLifecycle := by
      rintro e
      simp [e, opLifecycle, opAddOwner] at hmine
    exact Otp.legal_setSlot hl (h.not_retired hop) _ (Nat.le_of_lt (by decide : 1 < 3))
  case revokeOwner id r k =>
    refine s.keyProvision_nextSucc id _ r k _ _ hplain fun c b hmine h => ⟨Otp.follows_revoke _ _, fun hl => ?_⟩
    have hop : c.kpOp ≠ opLifecycle := by
      rw [of_decide_eq_true hmine]; decide
    exact Otp.legal_revoke hl (h.not_retired hop) _
  case lifecycle id r k =>
    refine s.keyProvision_nextSucc id _ r k _ _ (fun _ _ _ u => u.lifecycle_kept _ _ _) fun c b hmine h => ?_
    have ht := h.exists_transition (of_decide_eq_true hmine)
    have hle : s.otp.lifecycle ≤ c.kpArg % 4 := by
      have := transition_cases ht
      simp only [lcManufacture, lcDeployed, lcReturned, lcRetired] at this
      omega
    exact ⟨Otp.follows_enter _ hle, fun hl => Otp.legal_enter hl ht⟩
  case advanceSvn id r k =>
    refine s.keyProvision_nextSucc id _ r k _ _ hplain fun c b hmine h => ?_
    exact ⟨State.follows_advance (h.svn (of_decide_eq_true hmine)), fun hl => Otp.legal_advance hl _⟩
  case ownerOnly id r k =>
    exact s.keyProvision_nextSucc id _ r k _ _ hplain fun _ _ _ _ =>
      ⟨⟨rfl, rfl, Nat.le_refl _, Nat.le_refl _, Nat.le_refl _, fun _ => rfl, fun h => h⟩, fun h => h⟩
  all_goals cases hc

/-- A step keeps what every command keeps: the empty queue leaves OTP alone. -/
theorem step_succ {s t : State} (h : step s = .next t) : s.otp.Succ t.otp := by
  unfold step at h
  split at h
  case h_1 =>
    cases h
    simp only [State.advance_keep]
    exact ⟨s.otp.follows_refl, id⟩
  case h_2 c rest _ =>
    obtain ⟨u, hnext, hsucc, -⟩ := exec_nextSucc c { s with pending := rest }
    cases h.symm.trans hnext
    exact hsucc

/-- Settles O55: every command leaves a legal OTP legal. -/
theorem stepKeepsOtpLegal : Obligations.StepKeepsOtpLegal :=
  fun _ _ hlegal hstep => (step_succ hstep).2 hlegal

/-- Settles O56: every command moves OTP forward or leaves it. -/
theorem stepMovesOtpForward : Obligations.StepMovesOtpForward :=
  fun _ _ hstep => (step_succ hstep).1

/-- Settles O53. -/
theorem everyCommandCompletes : Obligations.EveryCommandCompletes := by
  intro c s
  obtain ⟨t, hnext, -, hpending⟩ := exec_nextSucc c s
  exact ⟨t, hnext, hpending⟩

/-- Settles O54. -/
theorem otpOnlyByProvisioning : Obligations.OtpOnlyByProvisioning := by
  intro c s t hother hexec
  have hc : provisions c = false := by
    cases c
    case addOwner id r k => exact absurd rfl (hother id r k).1
    case revokeOwner id r k => exact absurd rfl (hother id r k).2.1
    case lifecycle id r k => exact absurd rfl (hother id r k).2.2.1
    case advanceSvn id r k => exact absurd rfl (hother id r k).2.2.2.1
    case ownerOnly id r k => exact absurd rfl (hother id r k).2.2.2.2
    all_goals rfl
  obtain ⟨u, hnext, hotp, -⟩ := exec_nextKept c s hc
  cases hexec.symm.trans hnext
  exact hotp

/-! ### Lifecycle and unlock rights -/

/-- A revoked slot keeps its key. -/
def OwnerSlot.revoked (x : OwnerSlot) : OwnerSlot := { x with st := 2 }

theorem Otp.revoke_slots_get (o : Otp) {k : Nat} (hk : 1 ≤ k) (i : Nat) :
    (o.revoke k).slots[i]? = if i + 1 = k then (o.slots[i]?).map OwnerSlot.revoked else o.slots[i]? := by
  unfold Otp.revoke
  split
  case h_1 x hx =>
    obtain ⟨hlt, rfl⟩ := List.getElem?_eq_some_iff.mp hx
    rw [Otp.setSlot, listSet_eq_set, List.getElem?_set]
    by_cases hi : i + 1 = k
    · subst hi
      rw [Nat.add_sub_cancel] at hlt
      simp [OwnerSlot.revoked, hlt]
    · rw [if_neg (by omega), if_neg hi]
  case h_2 hx =>
    split
    case isTrue hi =>
      subst hi
      rw [Nat.add_sub_cancel] at hx
      simp [hx]
    case isFalse => rfl

theorem Otp.foldl_revoke_slots_get (o : Otp) {ks : List Nat} (hks : ∀ k ∈ ks, 1 ≤ k) (i : Nat) :
    (ks.foldl (fun o k => o.revoke k) o).slots[i]? =
      if i + 1 ∈ ks then (o.slots[i]?).map OwnerSlot.revoked else o.slots[i]? := by
  induction ks generalizing o with
  | nil => simp
  | cons k ks ih =>
    rw [List.foldl_cons, ih _ (fun k hk => hks k (List.mem_cons_of_mem _ hk)), o.revoke_slots_get (hks k List.mem_cons_self)]
    by_cases hi : i + 1 = k
    · have hidem : OwnerSlot.revoked ∘ OwnerSlot.revoked = OwnerSlot.revoked := rfl
      by_cases hmem : i + 1 ∈ ks <;> simp [← hi, hmem, hidem]
    · simp [hi]

/-- The VALID slots are those in state 1. -/
theorem Otp.mem_valid (o : Otp) (i : Nat) : i + 1 ∈ o.valid ↔ i < 4 ∧ ∃ x, o.slots[i]? = some x ∧ x.st = 1 := by
  have hrange : i + 1 ∈ [1, 2, 3, 4] ↔ i < 4 := by simp; omega
  cases hx : o.slots[i]? <;> simp [Otp.valid, Otp.slotIs, List.mem_filter, hrange, hx]

/-- RETURNED revokes exactly the VALID slots (R437). -/
theorem Otp.revoke_valid_slots (o : Otp) (hlen : o.slots.length = 4) :
    (o.valid.foldl (fun o k => o.revoke k) o).slots = o.slots.map (fun x => if x.st = 1 then { x with st := 2 } else x) := by
  refine List.ext_getElem? fun i => ?_
  have hpos : ∀ k ∈ o.valid, 1 ≤ k := by simp [Otp.valid]
  rw [o.foldl_revoke_slots_get hpos, List.getElem?_map]
  cases hx : o.slots[i]? with
  | none => simp
  | some x =>
    obtain ⟨hlt, -⟩ := List.getElem?_eq_some_iff.mp hx
    by_cases hst : x.st = 1 <;> simp [o.mem_valid, hx, hst, hlen ▸ hlt, OwnerSlot.revoked]

/-- A revocation touches the slots alone. -/
theorem Otp.foldl_revoke_frame (o : Otp) (ks : List Nat) :
    ks.foldl (fun o k => o.revoke k) o = { o with slots := (ks.foldl (fun o k => o.revoke k) o).slots } := by
  induction ks generalizing o with
  | nil => rfl
  | cons k ks ih =>
    have hone : o.revoke k = { o with slots := (o.revoke k).slots } := by unfold Otp.revoke; split <;> rfl
    rw [List.foldl_cons, ih, hone]

/-- A transition changes the lifecycle word, the slots and the erase. -/
theorem Otp.enter_frame (o : Otp) (new : Nat) :
    o.enter new = { o with lifecycle := new, slots := (o.enter new).slots, erased := decide (new = lcRetired) || o.erased } := by
  unfold Otp.enter
  dsimp only
  split
  case isTrue h => simp [h, Otp.erase]
  split
  case isFalse.isTrue h _ => rw [Otp.foldl_revoke_frame]; simp [h]
  case isFalse.isFalse h _ => simp [h]

theorem lifecycleOrder : Claims.LifecycleOrder := by
  intro s c b hcheck hop
  have ht := transition_cases ((State.admits_of_kpCheck hcheck).exists_transition hop)
  simp only [lcManufacture, lcDeployed, lcReturned, lcRetired] at ht ⊢
  omega

theorem unlockRights : Claims.UnlockRights := by
  intro o key level hlife
  by_cases hlevel : level = 1
  case pos =>
    subst hlevel
    by_cases hdep : o.lifecycle = lcDeployed
    · simp [Otp.mayUnlock, hdep, lcManufacture, lcDeployed, lcReturned]
      tauto
    · have hrest : o.lifecycle ≠ lcRetired ↔ o.lifecycle = lcManufacture ∨ o.lifecycle = lcReturned := by
        simp only [lcManufacture, lcDeployed, lcReturned, lcRetired] at hdep ⊢
        omega
      simp [Otp.mayUnlock, hdep, hrest]
  case neg =>
    by_cases hlevel2 : level = 2 <;> simp [Otp.mayUnlock, hlevel, hlevel2]

/-- Settles O45. -/
theorem securityRights : Obligations.SecurityRights := ⟨lifecycleOrder, unlockRights⟩

end Sys2Proof.Machine
end

section
/-! SUPPORT. What raising an event can change (R31 to R33, R380 to R392): the page headers but for their settings, the
registers of `raiseFlds`, the Squall timer, the fault log, waiting actions and reset requests, held interrupts, and outputs. -/

namespace Sys2Proof.Machine

/-! ### The registers that a raise writes -/

/-- The fields a raise can write, with the number of page instances. -/
def raiseFlds : List (Fld × Nat) :=
  [(TM_FAULT.SEV_CNT.COUNT, 1), (TM_MSIX.CAUSE_MAP.PEND, 1), (TM_LOG.SEQ_NEXT.SEQ, 1), (TM_LOG.SQUALL_STATUS.ACTIVE, 1),
   (TM_LOG.SQUALL_STATUS.WINDOWS, 1), (TM_LOG.FOLDED.COUNT, 1), (TM_LOG.REPLACED.COUNT, 1), (TM_LOG.CRIT_OVF.COUNT, 1),
   (TM_FLINK.LINK_STATUS.STATE, 10), (TM_FLINK.LINKS_UP.COUNT, 10), (TM_GLOBAL.BOUND_STATUS.IG_OVER, 1),
   (TM_GLOBAL.BOUND_STATUS.EG_OVER, 1), (TM_FAULT.ALIVE_STATUS.STATE, 1), (TM_FAULT.ALIVE_STATUS.CAUSE, 1),
   (TM_FAULT.LAST_CHIP_RESET.PAGE, 1), (TM_FAULT.LAST_CHIP_RESET.DIE, 1), (TM_FAULT.LAST_CHIP_RESET.SOURCE, 1),
   (TM_FAULT.LAST_CHIP_RESET.VALID, 1)]

/-- `k` is the place of a register that a raise can write. -/
def raiseKey (k : Nat) : Bool :=
  raiseFlds.any fun g => (List.range g.2).any fun p => (List.range g.1.cnt).any fun i => decide (g.1.key p i = k)

theorem raiseKey_key {g : Fld} {n : Nat} (hg : (g, n) ∈ raiseFlds) {p i : Nat} (hp : p < n) (hi : i < g.cnt) :
    raiseKey (g.key p i) = true := by
  simp only [raiseKey, List.any_eq_true, List.mem_range, decide_eq_true_eq]
  exact ⟨(g, n), hg, p, hp, i, hi, rfl⟩

/-- The pages on which those registers lie. -/
def raisePages : List Nat := [4096, 4107, 4136, 4137, 4138, 4139, 4140, 4141, 4142, 4143, 4144, 4145, 4176, 4177]

theorem raisePages_raiseFlds : (raiseFlds.all fun g => (List.range g.2).all fun p => (List.range g.1.cnt).all fun i =>
    raisePages.contains (g.1.key p i / 32768)) = true := by decide +kernel

/-- A register on another page is none of them. -/
theorem raiseKey_of_page {k : Nat} (h : k / 32768 ∉ raisePages) : raiseKey k = false := by
  refine Bool.eq_false_iff.mpr fun hk => h ?_
  simp only [raiseKey, List.any_eq_true, List.mem_range, decide_eq_true_eq] at hk
  obtain ⟨g, hg, p, hp, i, hi, rfl⟩ := hk
  have hall := raisePages_raiseFlds
  simp only [List.all_eq_true, List.mem_range, List.contains_iff_mem] at hall
  exact hall g hg p hp i hi

/-! ### The relation -/

/-- What a raise leaves of a page header: ENABLE, IN_RESET, LOCK and the event settings, and a fence that stands. -/
structure PageHdr.Raised (h h' : PageHdr) : Prop where
  enable : h'.enable = h.enable
  inReset : h'.inReset = h.inReset
  lock : h'.lock = h.lock
  evtEn : h'.evtEn = h.evtEn
  sev : h'.sev = h.sev
  act : h'.act = h.act
  fenced : h.fenced = true → h'.fenced = true

/-- `s` with those parts of `t` that a raise can change. -/
def State.raiseOver (s t : State) : State :=
  { s with hdrs := t.hdrs, regs := t.regs, timers := t.timers, log := t.log, acts := t.acts, chipReq := t.chipReq,
           mc := t.mc, irq := t.irq, out := t.out, fab := t.fab, freeCtr := t.freeCtr }

/-- `t` is reached from `s` by raising events. -/
structure State.Raised (s t : State) : Prop where
  rest : t = s.raiseOver t
  regs : ∀ (d k : Nat), raiseKey k = false → SMap.get d t.regs k = SMap.get d s.regs k
  timers : ∀ k i, k ≠ .squall → t.timerAt k i = s.timerAt k i
  hdr : ∀ P, (s.hdr P).Raised (t.hdr P)
  accessBad : t.log.accessBad = s.log.accessBad
  mc : t.mc = { s.mc with nmis := t.mc.nmis }
  irq : t.irq = { s.irq with vecs := t.irq.vecs }
  fab : t.fab = { s.fab with away := t.fab.away }

theorem PageHdr.Raised.refl (h : PageHdr) : h.Raised h := ⟨rfl, rfl, rfl, rfl, rfl, rfl, id⟩

theorem PageHdr.Raised.trans {a b c : PageHdr} (h : a.Raised b) (h' : b.Raised c) : a.Raised c :=
  ⟨h'.enable.trans h.enable, h'.inReset.trans h.inReset, h'.lock.trans h.lock, h'.evtEn.trans h.evtEn, h'.sev.trans h.sev,
    h'.act.trans h.act, h'.fenced ∘ h.fenced⟩

theorem State.Raised.refl (s : State) : s.Raised s :=
  ⟨rfl, fun _ _ _ => rfl, fun _ _ _ => rfl, fun _ => .refl _, rfl, rfl, rfl, rfl⟩

theorem State.Raised.trans {s t u : State} (h : s.Raised t) (h' : t.Raised u) : s.Raised u where
  rest := by rw [h'.rest, h.rest]; rfl
  regs d k hk := (h'.regs d k hk).trans (h.regs d k hk)
  timers k i hk := (h'.timers k i hk).trans (h.timers k i hk)
  hdr P := (h.hdr P).trans (h'.hdr P)
  accessBad := h'.accessBad.trans h.accessBad
  mc := by rw [h'.mc, h.mc]
  irq := by rw [h'.irq, h.irq]
  fab := by rw [h'.fab, h.fab]

theorem State.Raised.ite {c : Prop} [Decidable c] {s a b : State} (ha : s.Raised a) (hb : s.Raised b) :
    s.Raised (if c then a else b) := by split <;> assumption

theorem State.Raised.foldl {α : Type} {g : State → α → State} (h : ∀ (s : State) a, s.Raised (g s a)) (l : List α) (s : State) :
    s.Raised (l.foldl g s) := by
  induction l generalizing s with
  | nil => exact .refl s
  | cons a l ih => exact (h s a).trans (ih _)

section
variable {s t : State} (h : s.Raised t)
include h

theorem State.Raised.rfp {f : Fld} {p i : Nat} (hk : raiseKey (f.key p i) = false) : t.rfp f p i = s.rfp f p i := h.regs _ _ hk

theorem State.Raised.rf {f : Fld} (hk : raiseKey (f.key 0 0) = false) : t.rf f = s.rf f := h.rfp hk

theorem State.Raised.rfi {f : Fld} {i : Nat} (hk : raiseKey (f.key 0 i) = false) : t.rfi f i = s.rfi f i := h.rfp hk

theorem State.Raised.rfb {f : Fld} (hk : raiseKey (f.key 0 0) = false) : t.rfb f = s.rfb f := by
  simp only [State.rfb, h.rf hk]

/-- The parts of the state that no raise touches. -/
theorem State.Raised.frame :
    t.cycle = s.cycle ∧ t.time = s.time ∧ t.addend = s.addend ∧ t.timeRun = s.timeRun ∧ t.regsB = s.regsB ∧
    t.hiLatch = s.hiLatch ∧ t.later = s.later ∧ t.pw = s.pw ∧ t.ptp = s.ptp ∧ t.flash = s.flash ∧ t.th = s.th ∧ t.jt = s.jt ∧
    t.hc = s.hc ∧ t.hp = s.hp ∧ t.pkts = s.pkts ∧ t.nextPkt = s.nextPkt ∧ t.ep = s.ep ∧ t.bankA = s.bankA ∧ t.bankB = s.bankB ∧
    t.tm = s.tm ∧ t.ca = s.ca ∧ t.ln = s.ln ∧ t.net = s.net ∧ t.tr = s.tr ∧ t.snap = s.snap ∧ t.meters = s.meters ∧
    t.chans = s.chans ∧ t.sc = s.sc ∧ t.links = s.links ∧ t.dm = s.dm ∧ t.otp = s.otp ∧ t.pending = s.pending := by
  rw [h.rest]
  simp [State.raiseOver]

end

/-! ### The operations a raise is made of -/

theorem State.Raised.updHdr (s : State) (P : Nat) {f : PageHdr → PageHdr} (hf : ∀ h, PageHdr.Raised h (f h)) :
    s.Raised (s.updHdr P f) where
  rest := rfl
  regs _ _ _ := rfl
  timers _ _ _ := rfl
  hdr Q := by
    by_cases hQ : Q = P
    · subst hQ
      rw [State.hdr_updHdr_same]
      exact hf _
    · rw [State.hdr_updHdr_ne s P Q f hQ]
      exact .refl _
  accessBad := rfl
  mc := rfl
  irq := rfl
  fab := rfl

theorem State.Raised.wfp (s : State) {f : Fld} {p i : Nat} (v : Nat) (hk : raiseKey (f.key p i) = true) :
    s.Raised (s.wfp f p i v) where
  rest := rfl
  regs d k hn := SMap.get_put_ne _ _ _ _ _ _ (fun e => by rw [e, hk] at hn; cases hn)
  timers _ _ _ := rfl
  hdr _ := .refl _
  accessBad := rfl
  mc := rfl
  irq := rfl
  fab := rfl

theorem State.Raised.wf (s : State) {f : Fld} (v : Nat) (hk : raiseKey (f.key 0 0) = true) : s.Raised (s.wf f v) :=
  .wfp s v hk

theorem State.Raised.perf (s : State) (P ev n : Nat) : s.Raised (s.perf P ev n) := by
  unfold State.perf
  exact .ite (.updHdr s P fun h => ⟨rfl, rfl, rfl, rfl, rfl, rfl, id⟩) (.refl s)

theorem State.Raised.perfFld (s : State) (f : Fld) (p n : Nat) : s.Raised (s.perfFld f p n) := by
  unfold State.perfFld
  refine .ite ?_ (.refl s)
  split
  · exact .perf s _ _ _
  · exact .refl s

theorem State.Raised.sat1 (s : State) {f : Fld} (hk : raiseKey (f.key 0 0) = true) : s.Raised (s.sat1 f) :=
  (State.Raised.wfp s _ hk).trans (.perfFld _ _ _ _)

theorem State.Raised.inc (s : State) {f : Fld} {p i : Nat} (n : Nat) (hk : raiseKey (f.key p i) = true) :
    s.Raised (s.inc f p i n) :=
  (State.Raised.wfp s _ hk).trans (.perfFld _ _ _ _)

theorem State.Raised.log (s : State) {l : LogState} (hl : l.accessBad = s.log.accessBad) : s.Raised { s with log := l } :=
  ⟨rfl, fun _ _ _ => rfl, fun _ _ _ => rfl, fun _ => .refl _, hl, rfl, rfl, rfl⟩

theorem State.Raised.acts (s : State) (l : List PendAct) : s.Raised { s with acts := l } :=
  ⟨rfl, fun _ _ _ => rfl, fun _ _ _ => rfl, fun _ => .refl _, rfl, rfl, rfl, rfl⟩

theorem State.Raised.emit (s : State) (o : Out) : s.Raised (s.emit o) :=
  ⟨rfl, fun _ _ _ => rfl, fun _ _ _ => rfl, fun _ => .refl _, rfl, rfl, rfl, rfl⟩

theorem State.Raised.away (s : State) (l : List Nat) : s.Raised { s with fab := { s.fab with away := l } } :=
  ⟨rfl, fun _ _ _ => rfl, fun _ _ _ => rfl, fun _ => .refl _, rfl, rfl, rfl, rfl⟩

theorem State.Raised.vecs (s : State) (v : SMap MsixVec) : s.Raised { s with irq := { s.irq with vecs := v } } :=
  ⟨rfl, fun _ _ _ => rfl, fun _ _ _ => rfl, fun _ => .refl _, rfl, rfl, rfl, rfl⟩

theorem State.Raised.nmis (s : State) (l : List (Nat × Nat)) : s.Raised { s with mc := { s.mc with nmis := l } } :=
  ⟨rfl, fun _ _ _ => rfl, fun _ _ _ => rfl, fun _ => .refl _, rfl, rfl, rfl, rfl⟩

theorem State.Raised.freeVal (s : State) : s.Raised s.freeVal.2 :=
  ⟨rfl, fun _ _ _ => rfl, fun _ _ _ => rfl, fun _ => .refl _, rfl, rfl, rfl, rfl⟩

theorem State.Raised.armSquall (s : State) (n : Nat) : s.Raised (s.arm .squall 0 n) where
  rest := rfl
  regs _ _ _ := rfl
  timers k i hk := State.timerAt_armAt_ne s .squall k 0 i _ (fun e => hk e.1)
  hdr _ := .refl _
  accessBad := rfl
  mc := rfl
  irq := rfl
  fab := rfl

theorem State.Raised.foldEvent (s : State) (r : LogRec) : s.Raised (s.foldEvent r) := by
  unfold State.foldEvent
  dsimp only
  refine .trans (.log s ?_) (.sat1 _ (by decide +kernel))
  rfl

theorem State.Raised.unrecord (s : State) (r : LogRec) : s.Raised (s.unrecord r) := by
  unfold State.unrecord
  split
  · exact .log s (by rfl)
  · exact .foldEvent s r

theorem State.Raised.ringPush (s : State) (r : LogRec) : s.Raised (s.ringPush r) := by
  unfold State.ringPush
  dsimp only
  refine .trans (.log s ?_) (.wf _ _ (by decide +kernel))
  rfl

theorem State.Raised.aliveStop (s : State) (cause : Nat) : s.Raised (s.aliveStop cause).1 := by
  unfold State.aliveStop
  split
  · exact .refl s
  · exact (State.Raised.wf s 2 (by decide +kernel)).trans (.wf _ _ (by decide +kernel))

theorem State.Raised.latchBounds (s : State) : s.Raised s.latchBounds := by
  unfold State.latchBounds
  dsimp only
  have hig (c : Bool) : s.Raised (if c = true then s.wf TM_GLOBAL.BOUND_STATUS.IG_OVER 1 else s) :=
    .ite (.wf s _ (by decide +kernel)) (.refl s)
  exact (hig _).trans (.ite (.wf _ _ (by decide +kernel)) (.refl _))

/-- The places that a fence of a link writes. -/
theorem raiseKey_linkOut {n : Nat} (hn : n < 320) :
    raiseKey (TM_FLINK.LINK_STATUS.STATE.key (n / 32) (n % 32)) = true ∧ raiseKey (TM_FLINK.LINKS_UP.COUNT.key (n / 32) 0) = true :=
  have hstate : (TM_FLINK.LINK_STATUS.STATE, 10) ∈ raiseFlds := by decide +kernel
  have hup : (TM_FLINK.LINKS_UP.COUNT, 10) ∈ raiseFlds := by decide +kernel
  ⟨raiseKey_key hstate (by omega) (Nat.mod_lt n (by decide : 0 < 32)), raiseKey_key hup (by omega) (by decide : 0 < 1)⟩

theorem State.Raised.linkOut (s : State) {n : Nat} (hn : n < 320) : s.Raised (s.linkOut n) := by
  obtain ⟨hstate, hup⟩ := raiseKey_linkOut hn
  unfold State.linkOut
  dsimp only
  refine .ite ?_ (.refl s)
  exact .trans (.wfp s _ hstate) (.trans (.wfp _ _ hup) (.trans (.away _ _) (.latchBounds _)))

theorem pageLinks_lt {P n : Nat} (h : n ∈ pageLinks P) : n < 320 := by
  unfold pageLinks at h
  split at h
  · simp only [List.mem_map, List.mem_range] at h
    omega
  split at h
  · simp only [List.mem_map, List.mem_range] at h
    omega
  · cases h

theorem State.Raised.fenceStart (s : State) (P : Nat) : s.Raised (s.fenceStart P) := by
  unfold State.fenceStart
  dsimp only
  have hfence : ∀ h : PageHdr, h.Raised { h with fenced := true } := fun h => ⟨rfl, rfl, rfl, rfl, rfl, rfl, fun _ => rfl⟩
  refine (State.Raised.updHdr s P hfence).trans ?_
  generalize s.updHdr P _ = t
  have hall : ∀ n ∈ pageLinks P, n < 320 := fun n => pageLinks_lt
  generalize pageLinks P = ns at hall
  induction ns generalizing t with
  | nil => exact .refl t
  | cons n ns ih =>
    exact (State.Raised.linkOut t (hall n List.mem_cons_self)).trans (ih _ fun m hm => hall m (List.mem_cons_of_mem _ hm))

theorem State.Raised.nmi (s : State) (P src : Nat) : s.Raised (s.nmi P src) := by
  unfold State.nmi
  exact .ite (.nmis s _) (.emit s _)

theorem State.Raised.causeFire (s : State) {n : Nat} (hn : n < 768) : s.Raised (s.causeFire n) := by
  unfold State.causeFire
  refine .ite (.refl s) (.ite ?_ (.emit s _))
  have hkey : raiseKey (TM_MSIX.CAUSE_MAP.PEND.key 0 n) = true := raiseKey_key (n := 1) (by decide +kernel) (by decide) hn
  exact .trans (.wfp s 1 hkey) (.vecs _ _)

/-- A record written opens an episode where the ring stands at its threshold, and nothing else (R391). -/
theorem State.Raised.admitRec (s : State) (r : LogRec) : s.Raised (s.admitRec r).1 := by
  unfold State.admitRec
  extract_lets n squall enter mark
  have henter (u : State) : u.Raised (enter u).1 := by
    simp -zeta only [enter]
    split
    case isFalse => exact .refl u
    case isTrue =>
      extract_lets occ _ u1 u2 u3 u4
      have h1 : u.Raised u1 := .log u (by rfl)
      have h2 : u1.Raised u2 := (State.Raised.wf u1 1 (by decide +kernel)).trans (.wf _ 0 (by decide +kernel))
      have h3 : u2.Raised u3 := .ite (.ringPush u2 _) (.refl u2)
      exact h1.trans (h2.trans (h3.trans (.armSquall u3 _)))
  have hmark (u : State) : u.Raised (mark u) := .ite (.acts u _) (.refl u)
  split
  case isTrue =>
    split
    case isTrue => exact (State.Raised.ringPush s r).trans ((hmark _).trans (henter _))
    case isFalse =>
      split
      case h_1 ring' old _ =>
        extract_lets s1 s2
        have h1 : s.Raised s1 := .log s (by rfl)
        have h2 : s1.Raised s2 := (State.Raised.unrecord s1 old).trans (.sat1 _ (by decide +kernel))
        exact h1.trans (h2.trans ((State.Raised.ringPush s2 r).trans ((hmark _).trans (henter _))))
      case h_2 => exact .sat1 s (by decide +kernel)
  case isFalse => 
    split
    case isTrue => exact .foldEvent s r
    case isFalse => exact (State.Raised.ringPush s r).trans (henter _)

theorem PageHdr.Raised.loseEvent (h : PageHdr) : h.Raised h.loseEvent := by
  unfold PageHdr.loseEvent
  split <;> exact ⟨rfl, rfl, rfl, rfl, rfl, rfl, id⟩

theorem State.Raised.sendRec (s : State) (r : LogRec) : s.Raised (s.sendRec r).1 := by
  unfold State.sendRec
  split
  · exact .admitRec s r
  split
  · exact .log s (by rfl)
  · exact (State.Raised.updHdr s 79 PageHdr.Raised.loseEvent).trans (.perf _ _ _ _)

/-- Records sent one after the other, with what they raise in turn. -/
theorem State.Raised.sendRecs (l : List LogRec) (q : State × List Raise) :
    q.1.Raised (l.foldl (fun (a : State × List Raise) r => let (s', n) := a.1.sendRec r; (s', a.2 ++ n)) q).1 := by
  induction l generalizing q with
  | nil => exact .refl _
  | cons r l ih => exact (State.Raised.sendRec q.1 r).trans (ih ((q.1.sendRec r).1, q.2 ++ (q.1.sendRec r).2))

/-- Every assigned page lies below 4180. -/
theorem lt_of_pageAssigned {P : Nat} (h : pageAssigned P = true) : P < 4180 := by
  obtain ⟨k, hk⟩ := Option.isSome_iff_exists.mp h
  have hend : ∀ k ∈ pageKinds, k.1 + k.2.1 ≤ 4180 := by decide +kernel
  have hmem := hend k (List.mem_of_find?_eq_some hk)
  have hin := List.find?_some hk
  simp only [Bool.and_eq_true, decide_eq_true_eq] at hin
  omega

theorem lt_of_srcImplemented {P n : Nat} (h : srcImplemented P n = true) : P < 4180 := by
  simp only [srcImplemented, Bool.and_eq_true] at h
  exact lt_of_pageAssigned h.1

/-- The events that one page takes in one core cycle (R33): the first of each implemented source, in the order of the sources. -/
def taken (P : Nat) (evs : List Raise) : List Raise :=
  (List.range 32).filterMap (fun n => evs.find? (fun e => decide (e.src = n) && srcImplemented P n))

theorem mem_taken {P : Nat} {evs : List Raise} {e : Raise} (h : e ∈ taken P evs) :
    e ∈ evs ∧ e.src < 32 ∧ srcImplemented P e.src = true := by
  simp only [taken, List.mem_filterMap, List.mem_range] at h
  obtain ⟨n, hn, hfind⟩ := h
  have hsrc := List.find?_some hfind
  simp only [Bool.and_eq_true, decide_eq_true_eq] at hsrc
  obtain ⟨rfl, himp⟩ := hsrc
  exact ⟨List.mem_of_find?_eq_some hfind, hn, himp⟩

theorem raiseKey_sevCnt {i : Nat} (hi : i < 4) : raiseKey (TM_FAULT.SEV_CNT.COUNT.key 0 i) = true :=
  raiseKey_key (n := 1) (by decide +kernel) (by decide) hi

/-- One page's events of one core cycle. -/
theorem State.Raised.raisePage (s : State) (P : Nat) (forced : Bool) (evs : List Raise) : s.Raised (s.raisePage P forced evs).1 := by
  unfold State.raisePage
  extract_lets +onlyGivenNames evs a1 h en
  have h1 : s.Raised a1 := .updHdr s P fun h => ⟨rfl, rfl, rfl, rfl, rfl, rfl, id⟩
  clear_value a1
  split
  · exact h1
  next hne =>
  have hcause : 256 + P / 4096 * 256 + P % 256 < 768 := by
    obtain ⟨e, he⟩ := List.exists_mem_of_ne_nil en (by simpa [List.isEmpty_iff] using hne)
    have := lt_of_srcImplemented (mem_taken (P := P) (List.mem_filter.mp he).1).2.2
    omega
  extract_lets +onlyGivenNames a2
  have h2 : s.Raised a2 := h1.trans (.foldl (fun u e => .inc u _ (raiseKey_sevCnt (bits_lt_two_pow _ _ 2))) _ _)
  clear_value a2
  extract_lets +onlyGivenNames a3 cap a4
  have h4 : s.Raised a4 := by
    refine h2.trans (.trans (.perf _ P 5 en.length) ?_)
    simp only [a4]
    cases cap with
    | none => exact .refl _
    | some e => exact .updHdr _ P fun h => ⟨rfl, rfl, rfl, rfl, rfl, rfl, id⟩
  clear_value a4
  extract_lets +onlyGivenNames lost a5 best r fenceNow resetNow seq rec1 markers a6
  have hlose : ∀ h : PageHdr, h.Raised ((List.range lost).foldl (fun h _ => h.loseEvent) h) := by
    intro h
    induction List.range lost generalizing h with
    | nil => exact .refl h
    | cons _ l ih => exact (PageHdr.Raised.loseEvent h).trans (ih _)
  have h5 : s.Raised a5 := h4.trans (.trans (.updHdr _ P hlose) (.perf _ _ _ _))
  have h6 : s.Raised a6 := h5.trans (.ite (.acts _ _) (.refl _))
  clear_value a5 a6
  extract_lets +onlyGivenNames a7
  have h7 : s.Raised a7 := h6.trans (.ite (.acts _ _) (.refl _))
  clear_value a7
  extract_lets +onlyGivenNames recs
  have h8 := h7.trans (State.Raised.sendRecs recs (a7, []))
  clear_value markers recs
  split
  next a8 nest hq =>
  rw [hq] at h8
  extract_lets +onlyGivenNames nest2 was a9
  have h9 : s.Raised a9 := h8.trans (.ite (.fenceStart _ P) (.refl _))
  clear_value a9
  extract_lets +onlyGivenNames nest3 a10
  have h10 : s.Raised a10 := h9.trans (.ite (.causeFire _ hcause) (.refl _))
  clear_value a10
  extract_lets +onlyGivenNames a11
  have h11 : s.Raised a11 := h10.trans (.ite (.nmi _ P _) (.refl _))
  clear_value a11
  extract_lets +onlyGivenNames a12
  have h12 : s.Raised a12 := h11.trans (.ite (.trans (.wf _ _ (by decide +kernel)) (.trans (.wf _ _ (by decide +kernel))
    (.trans (.wf _ _ (by decide +kernel)) (.wf _ _ (by decide +kernel))))) (.refl _))
  clear_value a12
  extract_lets +onlyGivenNames a13
  have h13 : s.Raised a13 := h12.trans (.ite ⟨rfl, fun _ _ _ => rfl, fun _ _ _ => rfl, fun _ => .refl _, rfl, rfl, rfl, rfl⟩ (.refl _))
  clear_value a13
  split
  · split
    next b n hb =>
    have := h13.trans (.aliveStop a13 1)
    rwa [hb] at this
  · exact h13

theorem State.Raised.raiseDepth (n : Nat) (s : State) (P : Nat) (forced : Bool) (evs : List Raise) :
    s.Raised (s.raiseDepth n P forced evs) := by
  induction n generalizing s P forced evs with
  | zero => exact .refl s
  | succ n ih => exact (State.Raised.raisePage s P forced evs).trans (.foldl (fun u e => ih u _ _ _) _ _)

theorem State.Raised.raise (s : State) (e : Evt) (p cause d0 d1 : Nat) : s.Raised (s.raise e p cause d0 d1) :=
  .raiseDepth 4 s _ _ _

theorem State.Raised.orFree (s : State) (x : Option Nat) : s.Raised (s.orFree x).2 := by
  cases x with
  | none => exact .freeVal s
  | some v => exact .refl s

theorem State.Raised.raiseO (s : State) (e : Evt) (p : Nat) (cause d0 d1 : Option Nat) : s.Raised (s.raiseO e p cause d0 d1) :=
  (State.Raised.orFree s cause).trans ((State.Raised.orFree _ d0).trans ((State.Raised.orFree _ d1).trans (.raise _ _ _ _ _ _)))

theorem State.Raised.accessErr (s : State) (P cause off data : Nat) : s.Raised (s.accessErr P cause off data) :=
  .raiseDepth 4 s _ _ _

theorem State.Raised.capCheck (s : State) (before : Bool) : s.Raised (s.capCheck before) :=
  .foldl (fun u e => .raiseDepth 4 u _ _ _) _ _

theorem State.Raised.raiseBatch (s : State) (P : Nat) (es : List (Evt × Option Nat × Option Nat × Option Nat)) :
    s.Raised (s.raiseBatch P es) := by
  unfold State.raiseBatch
  extract_lets x
  refine State.Raised.trans ?_ (.raiseDepth 4 x.2 P false x.1)
  suffices h : ∀ a : List Raise × State, a.2.Raised (es.foldl (fun (a : List Raise × State) e =>
      let (c, s) := a.2.orFree e.2.1
      let (d0, s) := s.orFree e.2.2.1
      let (d1, s) := s.orFree e.2.2.2
      (a.1 ++ [(⟨P, e.1.src, c, d0, d1⟩ : Raise)], s)) a).2 from h ([], s)
  induction es with
  | nil => exact fun a => .refl _
  | cons e es ih =>
    exact fun a => (State.Raised.orFree a.2 _).trans ((State.Raised.orFree _ _).trans ((State.Raised.orFree _ _).trans
      (ih (_, _))))

end Sys2Proof.Machine
end

section
/-! SUPPORT and PROOF. The register file: its two banks, the access types of R6, and the state that reset leaves. -/

namespace Sys2Proof.Machine

/-! ### The banks of an RWE field -/

theorem State.rfBank_wfBank_same (s : State) (f : Fld) (b : Bool) (i v : Nat) :
    (s.wfBank f b i v).rfBank f b i = v % 2 ^ f.w := by
  cases b
  · exact SMap.get_put_same _ _ _ _
  · exact SMap.get_put_same _ _ _ _

theorem State.rfBank_wfBank_other (s : State) (f : Fld) (b : Bool) (i v : Nat) :
    (s.wfBank f b i v).rfBank f (!b) i = s.rfBank f (!b) i := by
  cases b <;> rfl

/-- A write of bank `b` touches no other place of bank A. -/
theorem State.rfp_wfBank_ne (s : State) (f g : Fld) (b : Bool) (i v q j : Nat) (h : g.key q j ≠ f.key 0 i) :
    (s.wfBank f b i v).rfp g q j = s.rfp g q j := by
  cases b
  · exact s.rfp_wfp_ne f g 0 q i j v h
  · rfl

/-- Settles O50. -/
theorem registerStore : Obligations.RegisterStore := by
  intro s f g p i q j v
  exact ⟨s.rfp_wfp_same f p i v, s.rfp_wfp_ne f g p q i j v, rfl, s.wfp_rising f p i v,
    fun b => ⟨s.rfBank_wfBank_same f b i v, s.rfBank_wfBank_other f b i v⟩,
    fun P Q h => ⟨s.hdr_updHdr_same P h, s.hdr_updHdr_ne P Q h⟩⟩

/-! ### The access types -/

/-- Page counters are no registers. -/
@[simp] theorem State.rfp_perf (s : State) (P ev n : Nat) (g : Fld) (q j : Nat) : (s.perf P ev n).rfp g q j = s.rfp g q j := by
  unfold State.perf; split <;> rfl

@[simp] theorem State.rfp_perfFld (s : State) (f : Fld) (p n : Nat) (g : Fld) (q j : Nat) :
    (s.perfFld f p n).rfp g q j = s.rfp g q j := by
  unfold State.perfFld
  split
  · split
    · exact s.rfp_perf _ _ _ _ _ _
    · rfl
  · rfl

theorem bits_mod (v lo w : Nat) : bits v lo w % 2 ^ w = bits v lo w := Nat.mod_mod _ _

section
variable (s : State) (P v : Nat) (pl : Place)

theorem State.placeWrite_rw (h : pl.fld.acc = .rw ∨ pl.fld.acc = .rwl) :
    s.placeWrite P v pl = (s.wfp pl.fld (P - pageBase P) pl.idx (bits v pl.lo pl.width)).perfFld pl.fld (P - pageBase P)
      (bits v pl.lo pl.width - s.rfp pl.fld (P - pageBase P) pl.idx) := by
  rcases h with h | h <;> simp [State.placeWrite, h]

theorem State.placeWrite_w1c (h : pl.fld.acc = .w1c) :
    s.placeWrite P v pl = s.wfp pl.fld (P - pageBase P) pl.idx (s.rfp pl.fld (P - pageBase P) pl.idx -
      (s.rfp pl.fld (P - pageBase P) pl.idx &&& bits v pl.lo pl.width)) := by
  simp [State.placeWrite, h]

theorem State.placeWrite_w1s (h : pl.fld.acc = .w1s) :
    s.placeWrite P v pl = s.wfp pl.fld (P - pageBase P) pl.idx
      (s.rfp pl.fld (P - pageBase P) pl.idx ||| bits v pl.lo pl.width) := by
  simp [State.placeWrite, h]

theorem State.placeWrite_rwe (h : pl.fld.acc = .rwe) :
    s.placeWrite P v pl = if s.bankInUse then s else s.wfBank pl.fld s.stagedBank pl.idx (bits v pl.lo pl.width) := by
  simp [State.placeWrite, h]

theorem State.placeWrite_ro (h : pl.fld.acc = .ro ∨ pl.fld.acc = .wo) : s.placeWrite P v pl = s := by
  rcases h with h | h <;> simp [State.placeWrite, h]

end

/-- A place written leaves every field at another place. -/
theorem State.rfp_placeWrite_ne (s : State) (P v : Nat) (pl : Place) (g : Fld) (q j : Nat)
    (h : g.key q j ≠ pl.fld.key (P - pageBase P) pl.idx) (h0 : g.key q j ≠ pl.fld.key 0 pl.idx) :
    (s.placeWrite P v pl).rfp g q j = s.rfp g q j := by
  cases hacc : pl.fld.acc
  case rw => rw [s.placeWrite_rw P v pl (.inl hacc), State.rfp_perfFld, State.rfp_wfp_ne _ _ _ _ _ _ _ _ h]
  case rwl => rw [s.placeWrite_rw P v pl (.inr hacc), State.rfp_perfFld, State.rfp_wfp_ne _ _ _ _ _ _ _ _ h]
  case rwe =>
    rw [s.placeWrite_rwe P v pl hacc]
    split
    · rfl
    · exact s.rfp_wfBank_ne _ _ _ _ _ _ _ h0
  case w1c => rw [s.placeWrite_w1c P v pl hacc, State.rfp_wfp_ne _ _ _ _ _ _ _ _ h]
  case w1s => rw [s.placeWrite_w1s P v pl hacc, State.rfp_wfp_ne _ _ _ _ _ _ _ _ h]
  case ro => rw [s.placeWrite_ro P v pl (.inl hacc)]
  case wo => rw [s.placeWrite_ro P v pl (.inr hacc)]

/-- A place of a field of at most 32 bits takes the whole field. -/
theorem width_of_le {f : Fld} (hw : f.w ≤ 32) (i lo : Nat) : (⟨f, i, lo, false⟩ : Place).width = f.w := by
  simp [Place.width, hw]

/-- Settles O4: `placeWrite` by the access type. -/
theorem accessTypes : Obligations.AccessTypes := by
  intro s P v i lo f hw p n t
  have hn : bits v lo (⟨f, i, lo, false⟩ : Place).width = n := by rw [width_of_le hw]
  have hlt : n < 2 ^ f.w := bits_lt_two_pow _ _ _
  refine ⟨fun h => ?_, fun h hold => ?_, fun h hold => ?_, fun h => ?_, fun h hfree => ?_, fun h huse => ?_, fun g q j h h0 => ?_⟩
  · simp only [t, s.placeWrite_rw P v ⟨f, i, lo, false⟩ h, State.rfp_perfFld, hn]
    exact (s.rfp_wfp_same f p i n).trans (Nat.mod_eq_of_lt hlt)
  · simp only [t, s.placeWrite_w1c P v ⟨f, i, lo, false⟩ h, hn]
    exact (s.rfp_wfp_same f p i _).trans (Nat.mod_eq_of_lt (Nat.lt_of_le_of_lt (Nat.sub_le _ _) hold))
  · simp only [t, s.placeWrite_w1s P v ⟨f, i, lo, false⟩ h, hn]
    exact (s.rfp_wfp_same f p i _).trans (Nat.mod_eq_of_lt (Nat.or_lt_two_pow hold hlt))
  · exact s.placeWrite_ro P v _ h
  · simp only [t, s.placeWrite_rwe P v ⟨f, i, lo, false⟩ h, hfree, Bool.false_eq_true, if_false, hn]
    exact ⟨(s.rfBank_wfBank_same _ _ _ _).trans (Nat.mod_eq_of_lt hlt), s.rfBank_wfBank_other _ _ _ _⟩
  · simp only [t, s.placeWrite_rwe P v ⟨f, i, lo, false⟩ h, huse, if_true]
  · exact s.rfp_placeWrite_ne P v _ g q j h h0

/-! ### The state that reset leaves -/

/-- Settles O49. -/
theorem resetState : Obligations.ResetState := by
  refine ⟨rfl, rfl, rfl, by decide +kernel, ?_, fun P => ⟨rfl, rfl, rfl, rfl⟩, fun f p i => rfl, fun f b i => ?_,
    fun x => ⟨rfl, rfl, rfl⟩, rfl, rfl, rfl⟩
  · exact ⟨rfl, by decide, by decide, by decide, by decide, by decide, by decide⟩
  · cases b <;> rfl

end Sys2Proof.Machine
end

section
/-! SUPPORT. What is read of a state, through the parts that hold it: registers, timers and page headers. A read of a state that
was built by updates becomes a read of that part, and the laws below settle it. -/

namespace Sys2Proof.Machine

/-! ### Registers -/

/-- Element `i` of a field in a register file. -/
def regGet (m : SMap Nat) (f : Fld) (p i : Nat) : Nat := SMap.get (f.resetAt i) m (f.key p i)

/-- A register file after a field was written. -/
def regPut (m : SMap Nat) (f : Fld) (p i v : Nat) : SMap Nat := SMap.put (f.resetAt i) m (f.key p i) (v % 2 ^ f.w)

theorem State.rfp_get (s : State) (f : Fld) (p i : Nat) : s.rfp f p i = regGet s.regs f p i := rfl

theorem State.rf_get (s : State) (f : Fld) : s.rf f = regGet s.regs f 0 0 := rfl

theorem State.rfi_get (s : State) (f : Fld) (i : Nat) : s.rfi f i = regGet s.regs f 0 i := rfl

theorem State.rfb_get (s : State) (f : Fld) : s.rfb f = decide (regGet s.regs f 0 0 = 1) := rfl

@[simp] theorem State.wfp_regs (s : State) (f : Fld) (p i v : Nat) : (s.wfp f p i v).regs = regPut s.regs f p i v := rfl

@[simp] theorem State.wf_regs (s : State) (f : Fld) (v : Nat) : (s.wf f v).regs = regPut s.regs f 0 0 v := rfl

@[simp] theorem State.wfi_regs (s : State) (f : Fld) (i v : Nat) : (s.wfi f i v).regs = regPut s.regs f 0 i v := rfl

@[simp] theorem regGet_regPut_same (m : SMap Nat) (f : Fld) (p i v : Nat) : regGet (regPut m f p i v) f p i = v % 2 ^ f.w :=
  SMap.get_put_same _ _ _ _

theorem regGet_regPut_ne (m : SMap Nat) {f g : Fld} {p q i j : Nat} (v : Nat) (h : g.key q j ≠ f.key p i) :
    regGet (regPut m f p i v) g q j = regGet m g q j :=
  SMap.get_put_ne _ _ _ _ _ _ h

/-! ### Timers -/

/-- The deadline of a timer in a list of timers. -/
def timerGet (l : List Timer) (k : TimerKind) (i : Nat) : Option Nat :=
  (l.find? (fun t => decide (t.kind = k) && decide (t.idx = i))).map (·.deadline)

/-- A list of timers without one. -/
def timerDrop (l : List Timer) (k : TimerKind) (i : Nat) : List Timer :=
  l.filter (fun t => !(decide (t.kind = k) && decide (t.idx = i)))

/-- A list of timers with one started. -/
def timerPut (l : List Timer) (k : TimerKind) (i d : Nat) : List Timer := timerDrop l k i ++ [⟨k, i, d⟩]

theorem State.timerAt_get (s : State) (k : TimerKind) (i : Nat) : s.timerAt k i = timerGet s.timers k i := rfl

@[simp] theorem State.disarm_timers_drop (s : State) (k : TimerKind) (i : Nat) : (s.disarm k i).timers = timerDrop s.timers k i := rfl

@[simp] theorem State.armAt_timers_put (s : State) (k : TimerKind) (i d : Nat) : (s.armAt k i d).timers = timerPut s.timers k i d := rfl

@[simp] theorem State.arm_timers_put (s : State) (k : TimerKind) (i n : Nat) :
    (s.arm k i n).timers = timerPut s.timers k i (s.cycle + n) := rfl

/-- A timer's mark in the list. -/
def isTimer (k : TimerKind) (i : Nat) (t : Timer) : Bool := decide (t.kind = k) && decide (t.idx = i)

theorem isTimer_iff {k : TimerKind} {i : Nat} {t : Timer} : isTimer k i t = true ↔ t.kind = k ∧ t.idx = i := by
  simp [isTimer]

theorem timerGet_eq (l : List Timer) (k : TimerKind) (i : Nat) : timerGet l k i = (l.find? (isTimer k i)).map (·.deadline) := rfl

theorem timerDrop_eq (l : List Timer) (k : TimerKind) (i : Nat) : timerDrop l k i = l.filter (fun t => !isTimer k i t) := rfl

@[simp] theorem timerGet_timerDrop_same (l : List Timer) (k : TimerKind) (i : Nat) : timerGet (timerDrop l k i) k i = none := by
  rw [timerGet_eq, timerDrop_eq, Option.map_eq_none_iff, List.find?_eq_none]
  intro t ht
  simpa using (List.mem_filter.mp ht).2

theorem timerGet_timerDrop_ne (l : List Timer) {k k' : TimerKind} {i i' : Nat} (h : ¬(k' = k ∧ i' = i)) :
    timerGet (timerDrop l k i) k' i' = timerGet l k' i' := by
  rw [timerGet_eq, timerGet_eq, timerDrop_eq, List.find?_filter]
  congr 2
  funext t
  cases ht : isTimer k' i' t with
  | false => simp
  | true =>
    obtain ⟨rfl, rfl⟩ := isTimer_iff.mp ht
    have hne : isTimer k i t = false := by
      rw [Bool.eq_false_iff]
      exact fun hk => h (isTimer_iff.mp hk)
    simp [hne]

@[simp] theorem timerGet_timerPut_same (l : List Timer) (k : TimerKind) (i d : Nat) : timerGet (timerPut l k i d) k i = some d := by
  have hgone := timerGet_timerDrop_same l k i
  rw [timerGet_eq, Option.map_eq_none_iff] at hgone
  simp [timerGet_eq, timerPut, List.find?_append, hgone, isTimer]

theorem timerGet_timerPut_ne (l : List Timer) {k k' : TimerKind} {i i' : Nat} (d : Nat) (h : ¬(k' = k ∧ i' = i)) :
    timerGet (timerPut l k i d) k' i' = timerGet l k' i' := by
  have hlast : isTimer k' i' ⟨k, i, d⟩ = false := by
    rw [Bool.eq_false_iff]
    intro ht
    obtain ⟨hk, hi⟩ := isTimer_iff.mp ht
    exact h ⟨hk.symm, hi.symm⟩
  rw [← timerGet_timerDrop_ne l h, timerGet_eq, timerGet_eq, timerPut, List.find?_append]
  simp [hlast]

/-! ### Page headers -/

/-- The header of page `P` among the headers. -/
def hdrGet (m : SMap PageHdr) (P : Nat) : PageHdr := SMap.get (resetHdr P) m P

/-- The headers with that of page `P` replaced by `f` of it. -/
def hdrUpd (m : SMap PageHdr) (P : Nat) (f : PageHdr → PageHdr) : SMap PageHdr := SMap.upd (resetHdr P) m P f

theorem State.hdr_get (s : State) (P : Nat) : s.hdr P = hdrGet s.hdrs P := rfl

@[simp] theorem State.updHdr_hdrs_upd (s : State) (P : Nat) (f : PageHdr → PageHdr) : (s.updHdr P f).hdrs = hdrUpd s.hdrs P f := rfl

@[simp] theorem hdrGet_hdrUpd_same (m : SMap PageHdr) (P : Nat) (f : PageHdr → PageHdr) : hdrGet (hdrUpd m P f) P = f (hdrGet m P) :=
  SMap.get_put_same _ _ _ _

theorem hdrGet_hdrUpd_ne (m : SMap PageHdr) {P Q : Nat} (f : PageHdr → PageHdr) (h : Q ≠ P) :
    hdrGet (hdrUpd m P f) Q = hdrGet m Q :=
  SMap.get_put_ne _ _ _ _ _ _ h

/-! ### Counting -/

/-- Counting for a page counter touches the page headers alone (R414). -/
theorem State.perf_frame (s : State) (P ev n : Nat) : s.perf P ev n = { s with hdrs := (s.perf P ev n).hdrs } := by
  unfold State.perf
  split <;> rfl

theorem State.perfFld_frame (s : State) (f : Fld) (p n : Nat) : s.perfFld f p n = { s with hdrs := (s.perfFld f p n).hdrs } := by
  unfold State.perfFld
  split
  · split
    · exact s.perf_frame _ _ _
    · rfl
  · rfl

theorem State.sat_frame (s : State) (f : Fld) (p i n : Nat) :
    s.sat f p i n = { s with regs := regPut s.regs f p i (satAdd f.w (s.rfp f p i) n), hdrs := (s.sat f p i n).hdrs } := by
  conv_lhs => rw [State.sat, State.perfFld_frame]
  rfl

theorem State.inc_frame (s : State) (f : Fld) (p i n : Nat) :
    s.inc f p i n = { s with regs := regPut s.regs f p i (wrapAdd f.w (s.rfp f p i) n), hdrs := (s.inc f p i n).hdrs } := by
  conv_lhs => rw [State.inc, State.perfFld_frame]
  rfl

end Sys2Proof.Machine
end

section
/-! PROOF. Lifecycle transitions, the switch time of a gate list, the voltage loop, and a step (R437, R438, R444, R332, R484). -/

namespace Sys2Proof.Machine

/-! ### Lifecycle transitions -/

theorem State.endUnlock_shown (s : State) : s.endUnlock.rf TM_SEC.DEBUG.LEVEL = 0 ∧ s.endUnlock.rf TM_SEC.DEBUG.KEY = 0 ∧
    s.endUnlock.timerAt .unlock 0 = none ∧ s.endUnlock.jt.ir = 1 := by
  unfold State.endUnlock
  extract_lets a b
  have hlevel : b.rf TM_SEC.DEBUG.LEVEL = 0 := by simp (disch := decide) [a, b, State.rf_get, regGet_regPut_ne]
  have hkey : b.rf TM_SEC.DEBUG.KEY = 0 := by simp (disch := decide) [a, b, State.rf_get, regGet_regPut_ne]
  have htimer : b.timerAt .unlock 0 = none := by simp [b, State.timerAt_get]
  exact ⟨hlevel, hkey, htimer, rfl⟩

/-- What a transition leaves of the OTP (R437, R438). -/
theorem Otp.enter_slots (o : Otp) (new : Nat) :
    (new = lcRetired → (o.enter new).slots = List.replicate 4 ⟨3, List.replicate 49 0xFF⟩) ∧
    (new = lcDeployed → (o.enter new).slots = o.slots) ∧
    (new = lcReturned → o.slots.length = 4 → (o.enter new).slots = o.slots.map (fun x => if x.st = 1 then { x with st := 2 } else x)) := by
  refine ⟨?_, ?_, ?_⟩
  · rintro rfl
    rfl
  · rintro rfl
    rw [o.enter_of_lt (by decide)]
  · rintro rfl hlen
    rw [o.enter_returned]
    exact Otp.revoke_valid_slots { o with lifecycle := lcReturned } hlen

/-- Settles O44: the OTP is the one that `Otp.enter` leaves, and the event changes nothing of the debug port. -/
theorem lifecycleEffect : Obligations.LifecycleEffect := by
  intro s new signers t
  have hotp : t.otp = s.otp.enter new := by simp [t, State.lifecycle, State.burn]
  obtain ⟨hretired, hdeployed, hreturned⟩ := s.otp.enter_slots new
  obtain ⟨hlevel, hkey, htimer, hir⟩ := (s.burn fun o => o.enter new).endUnlock_shown
  have hraise : ((s.burn fun o => o.enter new).endUnlock).Raised t := .raise _ _ _ _ _ _
  have hjt : t.jt = ((s.burn fun o => o.enter new).endUnlock).jt := by rw [hraise.rest]; rfl
  refine ⟨?_, ?_, ?_, ?_, ?_, ?_, ?_, ?_, ?_, ?_, ?_, ?_, ?_, ?_⟩
  case refine_11 => rw [hraise.rf (by decide +kernel), hlevel]
  case refine_12 => rw [hraise.rf (by decide +kernel), hkey]
  case refine_13 => rw [hraise.timers _ _ (by decide), htimer]
  case refine_14 => rw [hjt, hir]
  all_goals rw [hotp]
  case refine_7 =>
    intro h
    rw [hretired h, Otp.enter_frame]
    exact ⟨by simp [h], rfl⟩
  case refine_8 => rw [Otp.enter_frame]; intro h; simp [h]
  case refine_9 => exact hdeployed
  case refine_10 => exact hreturned
  all_goals rw [Otp.enter_frame]

/-! ### The switch time of a gate list -/

theorem le_ceilDiv_mul (a : Nat) {b : Nat} (hb : 0 < b) : a ≤ ceilDiv a b * b := by
  have := Nat.div_add_mod (a + b - 1) b
  have := Nat.mod_lt (a + b - 1) hb
  rw [ceilDiv, Nat.mul_comm]
  omega

theorem ceilDiv_le {a b n : Nat} (hb : 0 < b) (h : a ≤ n * b) : ceilDiv a b ≤ n := by
  rw [ceilDiv, Nat.div_le_iff_le_mul hb]
  omega

/-- Settles O29. -/
theorem gateSwitchTime : Obligations.GateSwitchTime := by
  intro l time hcycle
  have hns : 0 < ns32 := by decide
  have hpos : 0 < l.cycleNs * ns32 := Nat.mul_pos hcycle hns
  unfold switchTime
  extract_lets soon
  split
  case isTrue hbase => exact ⟨hbase, ⟨0, by simp⟩, fun n _ => Nat.le_add_right _ _⟩
  case isFalse hbase =>
    have hup := le_ceilDiv_mul (soon - l.base * ns32) hpos
    refine ⟨?_, ⟨_, rfl⟩, fun n hn => ?_⟩
    · rw [Nat.add_mul, Nat.mul_assoc]
      omega
    · rw [Nat.add_mul, Nat.mul_assoc] at hn
      exact Nat.add_le_add_left (Nat.mul_le_mul_right _ (ceilDiv_le hpos (by omega))) _

/-! ### The voltage loop -/

theorem State.avsWrite_target (s : State) (v : Nat) (back : Option Nat) :
    (s.avsWrite v back).rf TM_THERM.AVS_STATE.TARGET =
      if back = none then s.rf TM_THERM.AVS_STATE.TARGET else v % 2 ^ TM_THERM.AVS_STATE.TARGET.w := by
  cases back with
  | none => exact (State.Raised.raise _ _ _ _ _ _).rf (by decide +kernel)
  | some r =>
    simp -zeta only [State.avsWrite]
    extract_lets steps a b
    have hb : b.rf TM_THERM.AVS_STATE.TARGET = v % 2 ^ TM_THERM.AVS_STATE.TARGET.w := by
      simp (disch := decide) [a, b, State.rf_get, regGet_regPut_ne]
    split
    · simpa (disch := decide) [State.inc1, State.inc, State.rf, rfp_wfp_ne] using hb
    · exact hb

/-- What a pass of the loop writes to the rail: the target itself, a step up while the margin is low, or a step down while it is
high. -/
theorem State.avsLoop_writes (s : State) (m : Nat) (back : Option Nat) :
    ∃ (u : State) (w : Nat), s.avsLoop m back = u.avsWrite w back ∧ u.rf TM_THERM.AVS_STATE.TARGET = s.rf TM_THERM.AVS_STATE.TARGET ∧
      (w = s.rf TM_THERM.AVS_STATE.TARGET ∨
       toSigned 16 m < s.lowPs ∧ s.rf TM_THERM.AVS_STATE.TARGET < s.vMax ∧ w = min (s.rf TM_THERM.AVS_STATE.TARGET + 5) s.vMax ∨
       s.highPs < toSigned 16 m ∧ s.vMin < s.rf TM_THERM.AVS_STATE.TARGET ∧ w = max (s.rf TM_THERM.AVS_STATE.TARGET - 5) s.vMin) := by
  unfold State.avsLoop
  extract_lets v x a b c
  split
  case isTrue hlow =>
    split
    case isTrue hmax => exact ⟨a, _, rfl, rfl, .inr (.inl ⟨hlow, hmax, rfl⟩)⟩
    case isFalse =>
      have hb : b.rf TM_THERM.AVS_STATE.TARGET = v := by
        simp only [b]
        split
        · rfl
        · exact (State.Raised.raise _ _ _ _ _ _).rf (by decide +kernel)
      exact ⟨b, v, rfl, hb, .inl rfl⟩
  case isFalse =>
    split
    case isTrue hhigh =>
      split
      case isTrue hrun => exact ⟨_, _, rfl, rfl, .inr (.inr ⟨hhigh, of_decide_eq_true (Bool.and_eq_true_iff.mp hrun).2, rfl⟩)⟩
      case isFalse => exact ⟨c, v, rfl, rfl, .inl rfl⟩
    case isFalse => exact ⟨_, v, rfl, rfl, .inl rfl⟩

/-- Settles O38: by the value that a pass writes, and by the read of the target after the write. -/
theorem voltageRange : Obligations.VoltageRange := by
  intro s m back v w
  obtain ⟨u, n, hloop, hu, hn⟩ := s.avsLoop_writes m back
  have hw : w = if back = none then v else n % 2 ^ TM_THERM.AVS_STATE.TARGET.w := by
    simp only [w, hloop, u.avsWrite_target, hu, v]
  refine ⟨fun hback => by simp [hw, hback], fun hv hmin hmax => ?_⟩
  by_cases hback : back = none
  · rw [if_pos hback] at hw
    omega
  have hrail : s.vMax ≤ 800 := Nat.min_le_right _ _
  have hwidth : 2 ^ TM_THERM.AVS_STATE.TARGET.w = 1024 := by decide
  rw [if_neg hback, hwidth] at hw
  omega

end Sys2Proof.Machine
end

section
/-! PROOF. Events at their page: latch, capture and lost count (R31 to R33). -/

namespace Sys2Proof.Machine

/-! ### What a page tells of its events -/

/-- The latch, the capture and the lost count of a header. -/
structure PageHdr.SameTold (h h' : PageHdr) : Prop where
  latch : h'.latch = h.latch
  capValid : h'.capValid = h.capValid
  capSource : h'.capSource = h.capSource
  capCause : h'.capCause = h.capCause
  capForced : h'.capForced = h.capForced
  capTime : h'.capTime = h.capTime
  capD0 : h'.capD0 = h.capD0
  capD1 : h'.capD1 = h.capD1
  lostCount : h'.lostCount = h.lostCount
  lostOvf : h'.lostOvf = h.lostOvf

/-- The page tells the same in both states. -/
def State.Told (P : Nat) (s t : State) : Prop := (s.hdr P).SameTold (t.hdr P)

theorem PageHdr.SameTold.refl (h : PageHdr) : h.SameTold h := ⟨rfl, rfl, rfl, rfl, rfl, rfl, rfl, rfl, rfl, rfl⟩

theorem PageHdr.SameTold.trans {a b c : PageHdr} (h : a.SameTold b) (h' : b.SameTold c) : a.SameTold c :=
  ⟨h'.latch.trans h.latch, h'.capValid.trans h.capValid, h'.capSource.trans h.capSource, h'.capCause.trans h.capCause,
    h'.capForced.trans h.capForced, h'.capTime.trans h.capTime, h'.capD0.trans h.capD0, h'.capD1.trans h.capD1,
    h'.lostCount.trans h.lostCount, h'.lostOvf.trans h.lostOvf⟩

section
variable {P : Nat}

theorem State.Told.refl (s : State) : s.Told P s := PageHdr.SameTold.refl _

theorem State.Told.trans {s t u : State} (h : s.Told P t) (h' : t.Told P u) : s.Told P u := PageHdr.SameTold.trans h h'

theorem State.Told.ite {c : Prop} [Decidable c] {s a b : State} (ha : s.Told P a) (hb : s.Told P b) :
    s.Told P (if c then a else b) := by
  split <;> assumption

theorem State.Told.of_hdrs {s t : State} (h : t.hdrs = s.hdrs) : s.Told P t := by
  rw [State.Told, State.hdr_get, State.hdr_get, h]
  exact .refl _

theorem State.Told.foldl {α : Type} {g : State → α → State} (h : ∀ (s : State) a, s.Told P (g s a)) (l : List α) (s : State) :
    s.Told P (l.foldl g s) := by
  induction l generalizing s with
  | nil => exact .refl s
  | cons a l ih => exact (h s a).trans (ih _)

theorem State.Told.updHdr (s : State) (Q : Nat) {f : PageHdr → PageHdr} (hf : ∀ h : PageHdr, h.SameTold (f h)) :
    s.Told P (s.updHdr Q f) := by
  by_cases hQ : P = Q
  · subst hQ
    rw [State.Told, State.hdr_updHdr_same]
    exact hf _
  · rw [State.Told, State.hdr_updHdr_ne _ _ _ _ hQ]
    exact .refl _

theorem State.Told.updHdr_ne (s : State) {Q : Nat} (f : PageHdr → PageHdr) (hQ : P ≠ Q) : s.Told P (s.updHdr Q f) := by
  rw [State.Told, State.hdr_updHdr_ne _ _ _ _ hQ]
  exact .refl _

/-! ### What a raise keeps of it -/

theorem State.Told.perf (s : State) (Q ev n : Nat) : s.Told P (s.perf Q ev n) :=
  .ite (.updHdr s Q fun _ => ⟨rfl, rfl, rfl, rfl, rfl, rfl, rfl, rfl, rfl, rfl⟩) (.refl s)

theorem State.Told.perfFld (s : State) (f : Fld) (p n : Nat) : s.Told P (s.perfFld f p n) := by
  unfold State.perfFld
  split
  · split
    · exact .perf s _ _ _
    · exact .refl s
  · exact .refl s

theorem State.Told.inc (s : State) (f : Fld) (p i n : Nat) : s.Told P (s.inc f p i n) :=
  State.Told.trans (t := s.wfp f p i _) (.of_hdrs rfl) (.perfFld _ _ _ _)

theorem State.Told.sat1 (s : State) (f : Fld) : s.Told P (s.sat1 f) :=
  State.Told.trans (t := s.wfp f 0 0 _) (.of_hdrs rfl) (.perfFld _ _ _ _)

theorem State.Told.foldEvent (s : State) (r : LogRec) : s.Told P (s.foldEvent r) := by
  unfold State.foldEvent
  dsimp only
  exact .trans (.of_hdrs (by rfl)) (.sat1 _ _)

theorem State.Told.unrecord (s : State) (r : LogRec) : s.Told P (s.unrecord r) := by
  unfold State.unrecord
  split
  · exact .of_hdrs rfl
  · exact .foldEvent s r

theorem State.Told.admitRec (s : State) (r : LogRec) : s.Told P (s.admitRec r).1 := by
  unfold State.admitRec
  extract_lets n squall enter mark
  have henter (u : State) : u.Told P (enter u).1 := by
    simp -zeta only [enter]
    split
    case isFalse => exact .refl u
    case isTrue =>
      extract_lets occ _ u1 u2 u3 u4
      have h3 : u2.Told P u3 := .ite (.of_hdrs (by rfl)) (.refl u2)
      exact State.Told.trans (t := u2) (.of_hdrs rfl) (h3.trans (.of_hdrs rfl))
  have hmark (u : State) : u.Told P (mark u) := .ite (.of_hdrs rfl) (.refl u)
  have hpush (u : State) : u.Told P (u.ringPush r) := .of_hdrs rfl
  split
  case isTrue =>
    split
    case isTrue => exact (hpush s).trans ((hmark _).trans (henter _))
    case isFalse =>
      split
      case h_1 ring' old _ =>
        extract_lets s1 s2
        have h2 : s1.Told P s2 := (State.Told.unrecord s1 old).trans (.sat1 _ _)
        exact State.Told.trans (t := s1) (.of_hdrs rfl) (h2.trans ((hpush s2).trans ((hmark _).trans (henter _))))
      case h_2 => exact .sat1 s _
  case isFalse =>
    split
    case isTrue => exact .foldEvent s r
    case isFalse => exact (hpush s).trans (henter _)

theorem State.Told.sendRec (hP : P ≠ 79) (s : State) (r : LogRec) : s.Told P (s.sendRec r).1 := by
  unfold State.sendRec
  split
  · exact .admitRec s r
  split
  · exact .of_hdrs rfl
  · exact (State.Told.updHdr_ne s _ hP).trans (.perf _ _ _ _)

theorem State.Told.sendRecs (hP : P ≠ 79) (l : List LogRec) (q : State × List Raise) :
    q.1.Told P (l.foldl (fun (a : State × List Raise) r => let (s', n) := a.1.sendRec r; (s', a.2 ++ n)) q).1 := by
  induction l generalizing q with
  | nil => exact .refl _
  | cons r l ih => exact (State.Told.sendRec hP q.1 r).trans (ih ((q.1.sendRec r).1, q.2 ++ (q.1.sendRec r).2))

theorem State.Told.linkOut (s : State) (n : Nat) : s.Told P (s.linkOut n) := by
  unfold State.linkOut
  exact .ite (.of_hdrs (by simp [State.latchBounds, apply_ite State.hdrs])) (.refl s)

theorem State.Told.fenceStart (s : State) (Q : Nat) : s.Told P (s.fenceStart Q) := by
  unfold State.fenceStart
  dsimp only
  have hfence : ∀ h : PageHdr, h.SameTold { h with fenced := true } := fun _ => ⟨rfl, rfl, rfl, rfl, rfl, rfl, rfl, rfl, rfl, rfl⟩
  exact (State.Told.updHdr s Q hfence).trans (.foldl (fun u n => .linkOut u n) _ _)

theorem State.Told.causeFire (s : State) (n : Nat) : s.Told P (s.causeFire n) := by
  unfold State.causeFire
  exact .ite (.refl s) (.ite (.of_hdrs rfl) (.of_hdrs rfl))

theorem State.Told.nmi (s : State) (Q src : Nat) : s.Told P (s.nmi Q src) := by
  unfold State.nmi
  exact .ite (.of_hdrs rfl) (.of_hdrs rfl)

theorem State.Told.aliveStop (s : State) (cause : Nat) : s.Told P (s.aliveStop cause).1 := by
  unfold State.aliveStop
  split
  · exact .refl s
  · exact .of_hdrs rfl

end

/-! ### One event of a page -/

theorem filterMap_range_single {α : Type} (a : α) (n k : Nat) :
    (List.range k).filterMap (fun i => if n = i then some a else none) = if n < k then [a] else [] := by
  induction k with
  | zero => rfl
  | succ k ih =>
    rw [List.range_succ, List.filterMap_append, ih]
    rcases Nat.lt_trichotomy n k with h | rfl | h
    · have hne : n ≠ k := Nat.ne_of_lt h
      simp [h, hne, Nat.lt_succ_of_lt h]
    · simp
    · have hne : n ≠ k := Nat.ne_of_gt h
      have hle : ¬n < k + 1 := by omega
      simp [hne, hle, Nat.le_of_lt h]

/-- A single event of an implemented source is the only one its page takes. -/
theorem taken_single {P : Nat} {e : Raise} (himpl : srcImplemented P e.src = true) (hsrc : e.src < 32) : taken P [e] = [e] := by
  have hpick (n : Nat) : ([e].find? fun e => decide (e.src = n) && srcImplemented P n) = if e.src = n then some e else none := by
    by_cases hn : e.src = n
    · subst hn
      simp [himpl]
    · simp [hn]
  simp only [taken, hpick, filterMap_range_single, if_pos hsrc]

/-- What a page tells once its capture has met an enabled event (R32, R33). -/
def PageHdr.meet (h : PageHdr) (forced : Bool) (time : Nat) (e : Raise) : PageHdr :=
  if h.capValid then h.loseEvent
  else { h with capValid := true, capSource := e.src, capCause := e.cause % 256, capForced := forced,
                capTime := time, capD0 := e.d0 % 2 ^ 32, capD1 := e.d1 % 2 ^ 32 }

theorem PageHdr.SameTold.loseEvent {h h' : PageHdr} (hs : h.SameTold h') : h.loseEvent.SameTold h'.loseEvent := by
  obtain ⟨hlatch, hvalid, hsource, hcause, hforced, htime, hd0, hd1, hlost, hovf⟩ := hs
  unfold PageHdr.loseEvent
  by_cases hfull : h.lostCount = 65535
  · rw [if_pos hfull, if_pos (hlost.trans hfull)]
    exact ⟨hlatch, hvalid, hsource, hcause, hforced, htime, hd0, hd1, hlost, rfl⟩
  · rw [if_neg hfull, if_neg (hlost ▸ hfull)]
    exact ⟨hlatch, hvalid, hsource, hcause, hforced, htime, hd0, hd1, congrArg (· + 1) hlost, hovf⟩

theorem PageHdr.SameTold.meet {h h' : PageHdr} (hs : h.SameTold h') (forced : Bool) (time : Nat) (e : Raise) :
    (h.meet forced time e).SameTold (h'.meet forced time e) := by
  unfold PageHdr.meet
  by_cases hcap : h.capValid = true
  · rw [if_pos hcap, if_pos (hs.capValid.trans hcap)]
    exact hs.loseEvent
  · rw [if_neg hcap, if_neg (hs.capValid ▸ hcap)]
    exact ⟨hs.latch, rfl, rfl, rfl, rfl, rfl, rfl, rfl, hs.lostCount, hs.lostOvf⟩

/-- The latch of a header takes a source. -/
def PageHdr.latched (h : PageHdr) (src : Nat) : PageHdr := { h with latch := h.latch ||| 2 ^ src }

section
variable {s : State} {P : Nat} {forced : Bool} {e : Raise}

/-- A source that is not enabled does no more than latch (R31). -/
theorem State.raisePage_disabled (himpl : srcImplemented P e.src = true) (hsrc : e.src < 32)
    (hen : bit (s.hdr P).evtEn e.src = false) : s.raisePage P forced [e] = (s.updHdr P (·.latched e.src), []) := by
  have ht := taken_single himpl hsrc
  rw [taken] at ht
  unfold State.raisePage
  simp only [ht]
  rw [if_pos (by simp [hen])]
  rfl

/-- An enabled source latches and meets the capture (R32, R33). -/
theorem State.raisePage_enabled (himpl : srcImplemented P e.src = true) (hsrc : e.src < 32) (hP : P ≠ 79)
    (hen : bit (s.hdr P).evtEn e.src = true) :
    (((s.hdr P).latched e.src).meet forced s.timeNs e).SameTold ((s.raisePage P forced [e]).1.hdr P) := by
  have ht := taken_single himpl hsrc
  rw [taken] at ht
  unfold State.raisePage
  extract_lets +onlyGivenNames evs a1 h en
  have hevs : evs = [e] := ht
  have hone : en = [e] := by simp [en, hevs, h, a1, hen]
  have ha1 : a1.hdr P = (s.hdr P).latched e.src := by simp [a1, hevs, PageHdr.latched]
  have hh : h = a1.hdr P := rfl
  have hnow : a1.timeNs = s.timeNs := rfl
  clear_value a1 h en
  subst hone
  clear hevs ht evs
  rw [if_neg (by simp)]
  extract_lets +onlyGivenNames a2 a3 cap a4
  have h3 : a1.Told P a3 := State.Told.trans (.foldl (fun u e => .inc u _ _ _ _) _ _) (.perf _ _ _ _)
  have h3r : a1.Raised a3 :=
    State.Raised.trans (.foldl (fun u e => .inc u _ (raiseKey_sevCnt (bits_lt_two_pow _ _ 2))) _ _) (.perf _ _ _ _)
  have htime : a3.timeNs = s.timeNs := by rw [State.timeNs, h3r.rest]; exact hnow
  have hvalid : h.capValid = (a3.hdr P).capValid := by rw [hh, h3.capValid]
  clear_value a2 a3
  extract_lets +onlyGivenNames lost a5 best r fenceNow resetNow seq rec1 markers a6
  have h5 : ((a3.hdr P).meet forced s.timeNs e).SameTold (a5.hdr P) := by
    refine PageHdr.SameTold.trans ?_ (State.Told.perf _ P 6 lost)
    rw [State.hdr_updHdr_same]
    by_cases hcap : (a3.hdr P).capValid = true
    · simp only [a4, lost, cap, hvalid, hcap, PageHdr.meet]
      exact .refl _
    · simp only [a4, lost, cap, hvalid, hcap, PageHdr.meet, ← htime]
      simp [State.timeNs]
      exact .refl _
  have htold : (((s.hdr P).latched e.src).meet forced s.timeNs e).SameTold (a5.hdr P) := by
    refine PageHdr.SameTold.trans (PageHdr.SameTold.meet ?_ _ _ _) h5
    rw [← ha1]
    exact h3
  have h6 : a5.Told P a6 := .ite (.of_hdrs rfl) (.refl _)
  clear_value a4 a5 a6
  extract_lets +onlyGivenNames a7
  have h7 : a5.Told P a7 := h6.trans (.ite (.of_hdrs rfl) (.refl _))
  clear_value a7
  extract_lets +onlyGivenNames recs
  have h8 := h7.trans (State.Told.sendRecs hP recs (a7, []))
  clear_value markers recs
  split
  next a8 nest hq =>
  rw [hq] at h8
  extract_lets +onlyGivenNames nest2 was a9
  have h9 : a5.Told P a9 := h8.trans (.ite (.fenceStart _ P) (.refl _))
  clear_value a9
  extract_lets +onlyGivenNames nest3 a10
  have h10 : a5.Told P a10 := h9.trans (.ite (.causeFire _ _) (.refl _))
  clear_value a10
  extract_lets +onlyGivenNames a11
  have h11 : a5.Told P a11 := h10.trans (.ite (.nmi _ P _) (.refl _))
  clear_value a11
  extract_lets +onlyGivenNames a12
  have h12 : a5.Told P a12 := h11.trans (.ite (.of_hdrs rfl) (.refl _))
  clear_value a12
  extract_lets +onlyGivenNames a13
  have h13 : a5.Told P a13 := h12.trans (.ite (.of_hdrs rfl) (.refl _))
  clear_value a13
  refine htold.trans ?_
  split
  · split
    next b n hb =>
    have := h13.trans (.aliveStop a13 1)
    rwa [hb] at this
  · exact h13

end

/-- Settles O51. -/
theorem eventCapture : Obligations.EventCapture := by
  intro s P forced e himpl hsrc hP h t
  have hwhen (hen : bit h.evtEn e.src = true) := State.raisePage_enabled (forced := forced) himpl hsrc hP hen
  have hquiet (hen : bit h.evtEn e.src = false) := State.raisePage_disabled (forced := forced) himpl hsrc hen
  refine ⟨?_, fun hen => ?_, fun hen hcap => ?_, fun hen hcap => ?_⟩
  · cases hen : bit h.evtEn e.src with
    | false => simp [t, h, hquiet hen, PageHdr.latched]
    | true =>
      rw [(hwhen hen).latch]
      unfold PageHdr.meet PageHdr.loseEvent
      split <;> [split; skip] <;> rfl
  · simp only [t, hquiet hen]
    exact ⟨rfl, trivial⟩
  · obtain ⟨-, hvalid, hsource, hcause, hforced, htime, hd0, hd1, hlost, hovf⟩ := hwhen hen
    have hcap' : ((s.hdr P).latched e.src).capValid = false := hcap
    simp only [PageHdr.meet, hcap', Bool.false_eq_true, if_false] at hvalid hsource hcause hforced htime hd0 hd1 hlost hovf
    exact ⟨hvalid, hsource, hcause, hforced, htime, hd0, hd1, hlost, hovf⟩
  · obtain ⟨-, hvalid, hsource, hcause, -, htime, hd0, hd1, hlost, hovf⟩ := hwhen hen
    have hcap' : ((s.hdr P).latched e.src).capValid = true := hcap
    have hmeet : ((s.hdr P).latched e.src).meet forced s.timeNs e = ((s.hdr P).latched e.src).loseEvent := if_pos hcap'
    rw [hmeet] at hvalid hsource hcause htime hd0 hd1 hlost hovf
    by_cases hfull : h.lostCount = 65535
    · have hlose : ((s.hdr P).latched e.src).loseEvent = { (s.hdr P).latched e.src with lostOvf := true } := if_pos hfull
      rw [hlose] at hvalid hsource hcause htime hd0 hd1 hlost hovf
      exact ⟨hvalid.trans hcap, hsource, hcause, htime, hd0, hd1, fun _ => ⟨hlost.trans hfull, hovf⟩, fun hne => absurd hfull hne⟩
    · have hlose : ((s.hdr P).latched e.src).loseEvent = { (s.hdr P).latched e.src with lostCount := h.lostCount + 1 } := if_neg hfull
      rw [hlose] at hvalid hsource hcause htime hd0 hd1 hlost hovf
      exact ⟨hvalid.trans hcap, hsource, hcause, htime, hd0, hd1, fun e => absurd e hfull, fun _ => ⟨hlost, hovf⟩⟩

end Sys2Proof.Machine
end

section
/-! PROOF. The activation tables (R364): a bounded table that counts the most active rows without understating one. -/

namespace Sys2Proof.Machine

/-! ### The least count of a table -/

theorem firstIdx_eq_findIdx? {α : Type} (p : α → Bool) (l : List α) : firstIdx p l = l.findIdx? p := by
  induction l with
  | nil => rfl
  | cons a l ih => rw [firstIdx, List.findIdx?_cons, ih]

/-- The least count of a table. -/
def leastCount (t : List (Nat × Nat)) : Nat := t.foldl (fun m e => min m e.2) ((t.head?.map (·.2)).getD 0)

theorem foldl_min_le (t : List (Nat × Nat)) (m : Nat) :
    t.foldl (fun m e => min m e.2) m ≤ m ∧ ∀ e ∈ t, t.foldl (fun m e => min m e.2) m ≤ e.2 := by
  induction t generalizing m with
  | nil => simp
  | cons a t ih =>
    obtain ⟨hstart, hall⟩ := ih (min m a.2)
    rw [List.foldl_cons]
    refine ⟨by omega, fun e he => ?_⟩
    rcases List.mem_cons.mp he with rfl | he
    · omega
    · exact hall e he

theorem foldl_min_mem (t : List (Nat × Nat)) (m : Nat) :
    t.foldl (fun m e => min m e.2) m = m ∨ ∃ e ∈ t, e.2 = t.foldl (fun m e => min m e.2) m := by
  induction t generalizing m with
  | nil => exact .inl rfl
  | cons a t ih =>
    rw [List.foldl_cons]
    rcases ih (min m a.2) with h | ⟨e, he, h⟩
    · rcases Nat.le_total m a.2 with hm | hm
      · exact .inl (h.trans (Nat.min_eq_left hm))
      · exact .inr ⟨a, List.mem_cons_self, (h.trans (Nat.min_eq_right hm)).symm⟩
    · exact .inr ⟨e, List.mem_cons_of_mem _ he, h⟩

theorem leastCount_le {t : List (Nat × Nat)} {e : Nat × Nat} (he : e ∈ t) : leastCount t ≤ e.2 := (foldl_min_le t _).2 e he

theorem exists_leastCount {t : List (Nat × Nat)} (ht : t ≠ []) : ∃ e ∈ t, e.2 = leastCount t := by
  obtain ⟨a, l, rfl⟩ := List.exists_cons_of_ne_nil ht
  rcases foldl_min_mem (a :: l) a.2 with h | h
  · exact ⟨a, List.mem_cons_self, h.symm⟩
  · exact h

/-! ### An activate -/

theorem map_at_row {before after : List (Nat × Nat)} {row n : Nat} (g : Nat × Nat → Nat × Nat)
    (hnodup : ((before ++ (row, n) :: after).map Prod.fst).Nodup) :
    (before ++ (row, n) :: after).map (fun e => if e.1 = row then g e else e) = before ++ g (row, n) :: after := by
  simp only [List.map_append, List.map_cons, List.nodup_append, List.nodup_cons, List.mem_cons, List.mem_map] at hnodup
  obtain ⟨-, ⟨hafter, -⟩, hbefore⟩ := hnodup
  have hskip {l : List (Nat × Nat)} (hl : ∀ e ∈ l, e.1 ≠ row) : l.map (fun e => if e.1 = row then g e else e) = l := by
    rw [List.map_congr_left (fun e he => if_neg (hl e he)), List.map_id']
  rw [List.map_append, List.map_cons, hskip, hskip]
  · simp
  · exact fun e he h => hafter ⟨e, he, h⟩
  · exact fun e he h => hbefore e.1 ⟨e, he, rfl⟩ row (.inl rfl) h

/-- What an activate does to a table (R364): the row's count rises; a row that is not listed enters while there is room, and else
takes the place of one with the least count, one above that. -/
theorem countRow_cases {t : List (Nat × Nat)} (hnodup : (t.map Prod.fst).Nodup) (row : Nat) :
    (∃ before n after, t = before ++ (row, n) :: after ∧ (countRow t row).1 = before ++ (row, n + 1) :: after) ∨
    (∀ n, (row, n) ∉ t) ∧ t.length < 32 ∧ (countRow t row).1 = t ++ [(row, 1)] ∨
    (∀ n, (row, n) ∉ t) ∧ 32 ≤ t.length ∧ ∃ before old after, t = before ++ (old, leastCount t) :: after ∧
      (countRow t row).1 = before ++ (row, leastCount t + 1) :: after := by
  unfold countRow
  split
  case h_1 a n hfind =>
    obtain ⟨ha, before, after, rfl, -⟩ := List.find?_eq_some_iff_append.mp hfind
    obtain rfl : a = row := of_decide_eq_true ha
    exact .inl ⟨before, n, after, rfl, map_at_row (fun _ => (a, n + 1)) hnodup⟩
  case h_2 hfind =>
    have habsent : ∀ n, (row, n) ∉ t := fun n hn => by simpa using List.find?_eq_none.mp hfind _ hn
    split
    case isTrue hroom => exact .inr (.inl ⟨habsent, hroom, rfl⟩)
    case isFalse hfull =>
      have hne : t ≠ [] := by rintro rfl; simp at hfull
      obtain ⟨least, hmem, hleast⟩ := exists_leastCount hne
      have hfound : (firstIdx (fun (e : Nat × Nat) => decide (e.2 = leastCount t)) t).isSome = true := by
        rw [firstIdx_eq_findIdx?, List.findIdx?_isSome, List.any_eq_true]
        exact ⟨least, hmem, by simpa using hleast⟩
      obtain ⟨i, hi⟩ := Option.isSome_iff_exists.mp hfound
      have hi' := hi
      rw [firstIdx_eq_findIdx?, List.findIdx?_eq_some_iff_getElem] at hi'
      obtain ⟨hlt, hval, -⟩ := hi'
      refine .inr (.inr ⟨habsent, Nat.le_of_not_lt hfull, t.take i, t[i].1, t.drop (i + 1), ?_, ?_⟩)
      · rw [← of_decide_eq_true hval]
        rw [← List.drop_eq_getElem_cons hlt, List.take_append_drop]
      · show listSet t ((firstIdx (fun (e : Nat × Nat) => decide (e.2 = leastCount t)) t).getD 0) (row, leastCount t + 1) = _
        rw [hi, listSet_eq_set]
        exact List.set_eq_take_append_cons_drop .. |>.trans (if_pos hlt)

/-! ### The tables of a run -/

/-- What the obligation claims of a table after the activates `acts`. -/
structure Tallies (acts : List Nat) (t : List (Nat × Nat)) : Prop where
  size : t.length ≤ 32
  rows : (t.map Prod.fst).Nodup
  listed : ∀ row n, (row, n) ∈ t → acts.count row ≤ n
  unlisted : ∀ row, (∀ n, (row, n) ∉ t) → 0 < acts.count row → t.length = 32 ∧ ∀ r n, (r, n) ∈ t → acts.count row ≤ n

theorem count_append_single (acts : List Nat) (row r : Nat) :
    (acts ++ [row]).count r = acts.count r + if r = row then 1 else 0 := by
  by_cases h : r = row
  · simp [h]
  · simp [h, Ne.symm h]

/-- A row with the count `m` gives its place to `row`, one above: the same row, or one with the least count of a full table. -/
theorem Tallies.replace {acts : List Nat} {before after : List (Nat × Nat)} {old m row : Nat}
    (h : Tallies acts (before ++ (old, m) :: after))
    (hold : old = row ∨ (∀ n, (row, n) ∉ before ++ (old, m) :: after) ∧ (before ++ (old, m) :: after).length = 32 ∧
      ∀ e ∈ before ++ (old, m) :: after, m ≤ e.2) :
    Tallies (acts ++ [row]) (before ++ (row, m + 1) :: after) := by
  obtain ⟨hsize, hrows, hlisted, hunlisted⟩ := h
  have hmem (r n x y : Nat) : (r, n) ∈ before ++ (x, y) :: after ↔ (r = x ∧ n = y) ∨ (r, n) ∈ before ++ after := by
    simp; tauto
  have hkeys : (old :: (before ++ after).map Prod.fst).Nodup := by
    rw [List.map_append, List.map_cons, List.nodup_middle] at hrows
    rwa [List.map_append]
  have hother : ∀ n, (row, n) ∉ before ++ after := by
    rcases hold with rfl | ⟨habsent, -⟩
    · exact fun n hn => (List.nodup_cons.mp hkeys).1 (List.mem_map_of_mem hn)
    · exact fun n hn => habsent n ((hmem ..).mpr (.inr hn))
  have hcount : acts.count row ≤ m := by
    rcases hold with rfl | ⟨habsent, -, -⟩
    · exact hlisted _ _ ((hmem ..).mpr (.inl ⟨rfl, rfl⟩))
    · rcases Nat.eq_zero_or_pos (acts.count row) with h0 | hpos
      · omega
      · exact (hunlisted row habsent hpos).2 old m ((hmem ..).mpr (.inl ⟨rfl, rfl⟩))
  refine ⟨by simpa using hsize, ?_, fun r n hn => ?_, fun r hr hpos => ?_⟩
  · rw [List.map_append, List.map_cons, List.nodup_middle, ← List.map_append, List.nodup_cons]
    refine ⟨fun hrow => ?_, (List.nodup_cons.mp hkeys).2⟩
    obtain ⟨⟨r, n⟩, he, rfl⟩ := List.mem_map.mp hrow
    exact hother n he
  · rw [count_append_single]
    rcases (hmem ..).mp hn with ⟨rfl, rfl⟩ | hrest
    · simpa using hcount
    · rw [if_neg (by rintro rfl; exact hother n hrest)]
      exact hlisted r n ((hmem ..).mpr (.inr hrest))
  · have hne : r ≠ row := by rintro rfl; exact hr (m + 1) ((hmem ..).mpr (.inl ⟨rfl, rfl⟩))
    rw [count_append_single, if_neg hne, Nat.add_zero] at hpos ⊢
    have hlow : acts.count r ≤ m ∧ (before ++ (old, m) :: after).length = 32 ∧ ∀ r' n, (r', n) ∈ before ++ after → acts.count r ≤ n := by
      by_cases hro : r = old
      · obtain ⟨-, hsize, hleast⟩ := hold.resolve_left (hro ▸ hne)
        have hm : acts.count r ≤ m := hlisted r m ((hmem ..).mpr (.inl ⟨hro, rfl⟩))
        exact ⟨hm, hsize, fun r' n hn => hm.trans (hleast _ ((hmem ..).mpr (.inr hn)))⟩
      · obtain ⟨hsize, hall⟩ := hunlisted r (fun n hn => ((hmem ..).mp hn).elim (fun e => hro e.1) fun hn => hr n ((hmem ..).mpr (.inr hn))) hpos
        exact ⟨hall old m ((hmem ..).mpr (.inl ⟨rfl, rfl⟩)), hsize, fun r' n hn => hall r' n ((hmem ..).mpr (.inr hn))⟩
    obtain ⟨hm, hfull, hrest⟩ := hlow
    refine ⟨by simpa using hfull, fun r' n hn => ?_⟩
    rcases (hmem ..).mp hn with ⟨-, rfl⟩ | hn
    · exact Nat.le_succ_of_le hm
    · exact hrest r' n hn

theorem Tallies.enter {acts : List Nat} {t : List (Nat × Nat)} (h : Tallies acts t) {row : Nat} (hrow : ∀ n, (row, n) ∉ t)
    (hroom : t.length < 32) : Tallies (acts ++ [row]) (t ++ [(row, 1)]) := by
  obtain ⟨hsize, hrows, hlisted, hunlisted⟩ := h
  have hnone : ∀ r, (∀ n, (r, n) ∉ t) → acts.count r = 0 := fun r hr =>
    Nat.eq_zero_of_not_pos fun hpos => absurd (hunlisted r hr hpos).1 (Nat.ne_of_lt hroom)
  refine ⟨by simpa using hroom, ?_, fun r n hn => ?_, fun r hr hpos => ?_⟩
  · rw [List.map_append]
    exact hrows.append (List.nodup_singleton row) (by simpa using hrow)
  · rw [count_append_single]
    rcases List.mem_append.mp hn with hlist | hn
    · rw [if_neg (by rintro rfl; exact hrow n hlist)]
      exact hlisted r n hlist
    · obtain ⟨rfl, rfl⟩ : r = row ∧ n = 1 := by simpa using hn
      simp [hnone r hrow]
  · have hne : r ≠ row := by rintro rfl; exact hr 1 (by simp)
    rw [count_append_single, if_neg hne, hnone r fun n hn => hr n (List.mem_append_left _ hn)] at hpos
    exact absurd hpos (Nat.lt_irrefl 0)

theorem Tallies.countRow {acts : List Nat} {t : List (Nat × Nat)} (h : Tallies acts t) (row : Nat) :
    Tallies (acts ++ [row]) (countRow t row).1 := by
  rcases countRow_cases h.rows row with ⟨before, n, after, rfl, heq⟩ | ⟨hrow, hroom, heq⟩ | ⟨hrow, hfull, before, old, after, ht, heq⟩
  · rw [heq]
    exact h.replace (.inl rfl)
  · rw [heq]
    exact h.enter hrow hroom
  · rw [heq]
    have hleast : ∀ e ∈ t, leastCount t ≤ e.2 := fun e => leastCount_le
    have hsize := Nat.le_antisymm h.size hfull
    generalize leastCount t = m at *
    subst ht
    exact h.replace (.inr ⟨hrow, hsize, hleast⟩)

/-- Settles O32: the claim is kept by each activate. -/
theorem activateCounts : Obligations.ActivateCounts := by
  intro acts table
  suffices h : Tallies acts table from ⟨h.size, h.rows, h.listed, h.unlisted⟩
  simp only [table]
  induction acts using List.reverseRecOn with
  | nil => exact ⟨by simp, by simp, by simp, by simp⟩
  | append_singleton acts row ih =>
    rw [List.foldl_concat]
    exact ih.countRow row

end Sys2Proof.Machine
end

section
/-! PROOF. The device ring (R384, R388), a step with an empty queue, and the state that a BLOCK reset leaves (R30). -/

namespace Sys2Proof.Machine

/-! ### The device ring -/

theorem State.foldEvent_ring (s : State) (r : LogRec) : (s.foldEvent r).log.ring = s.log.ring := by
  rw [State.foldEvent]
  dsimp only
  rw [State.sat1, State.sat_frame]

theorem State.foldEvent_count (s : State) (r : LogRec) :
    (SMap.get SumCtr.zero (s.foldEvent r).log.sums (r.page * 32 + r.src)).count =
      satAdd 32 (SMap.get SumCtr.zero s.log.sums (r.page * 32 + r.src)).count 1 := by
  unfold State.foldEvent
  extract_lets k c c' _ u
  have hlog : (u.sat1 TM_LOG.FOLDED.COUNT).log = u.log := by rw [State.sat1, State.sat_frame]
  have hget : SMap.get SumCtr.zero u.log.sums k = c' := SMap.get_put_same _ _ _ _
  rw [hlog, hget]
  simp only [c']
  split
  case isTrue hzero =>
    show 1 = satAdd 32 c.count 1
    rw [hzero]
    rfl
  case isFalse => rfl

theorem State.unrecord_ring (s : State) (r : LogRec) : (s.unrecord r).log.ring = s.log.ring := by
  unfold State.unrecord
  split
  · rfl
  · exact s.foldEvent_ring r

theorem State.ringPush_ring (s : State) (r : LogRec) :
    (s.ringPush r).log.ring = s.log.ring ++ [{ r with seq := s.rf TM_LOG.SEQ_NEXT.SEQ }] := rfl

theorem dropLastOrdinary_length {ring ring' : List LogRec} {old : LogRec} (h : dropLastOrdinary ring = some (ring', old)) :
    ring'.length + 1 = ring.length := by
  unfold dropLastOrdinary at h
  split at h
  · cases h
  · extract_lets j at h
    obtain ⟨r, hr, heq⟩ := Option.map_eq_some_iff.mp h
    obtain ⟨hlt, -⟩ := List.getElem?_eq_some_iff.mp hr
    obtain ⟨rfl, -⟩ := Prod.mk.inj heq
    simp
    omega

/-- The part of `State.admitRec` that may open an episode (R391). -/
def State.squallCheck (squall : Bool) (s : State) : State × List Raise :=
  if !squall && s.squallEnterThr ≤ s.log.ring.length then
    let occ := s.log.ring.length
    let s := { s with log := { s.log with episode := 0 } }
    let s := (s.wf TM_LOG.SQUALL_STATUS.ACTIVE 1).wf TM_LOG.SQUALL_STATUS.WINDOWS 0
    let s := if occ < 8192 then
        s.ringPush ⟨4177, 0, s.hdr 4177 |>.sevOf 0, s.hdr 4177 |>.actOf 0, 0, .squallStart, false, 0, s.time80, occ, s.rf TM_LOG.SQUALL_WINDOW.MS⟩
      else s
    let s := s.arm .squall 0 (orWhenZero (s.rf TM_LOG.SQUALL_WINDOW.MS) 1 * cyMs)
    (s, [⟨4177, 0, 0, occ, 0⟩])
  else (s, [])

/-- The opening of an episode adds at most one record, and only where there is room. -/
theorem State.squallCheck_ring (squall : Bool) (s : State) :
    ∃ l, (s.squallCheck squall).1.log.ring = s.log.ring ++ l ∧ (s.log.ring.length ≤ 8192 → s.log.ring.length + l.length ≤ 8192) := by
  unfold State.squallCheck
  split
  case isFalse => exact ⟨[], by simp, by simp⟩
  case isTrue =>
    extract_lets occ _ u1 u2 u3 u4
    by_cases hroom : occ < 8192
    · have hpush : ∃ r, u3.log.ring = s.log.ring ++ [r] := by
        simp only [u3, if_pos hroom]
        exact ⟨_, rfl⟩
      obtain ⟨r, hr⟩ := hpush
      exact ⟨[r], hr, fun _ => hroom⟩
    · refine ⟨[], ?_, fun h => h⟩
      show u3.log.ring = _
      simp only [u3, if_neg hroom, List.append_nil]
      rfl

/-- How a record meets the ring, by the opening of an episode. -/
theorem State.admitRec_cases (s : State) (r : LogRec) :
    (r.isProtected = true ∧ s.log.ring.length < 8192 ∧ ∃ u, (s.admitRec r).1 = (State.squallCheck (s.rfb TM_LOG.SQUALL_STATUS.ACTIVE) u).1 ∧
        u.log.ring = (s.ringPush r).log.ring) ∨
    (r.isProtected = true ∧ 8192 ≤ s.log.ring.length ∧ ∃ u, ((s.admitRec r).1 = u ∧ u.log.ring = s.log.ring) ∨
      (s.admitRec r).1 = (State.squallCheck (s.rfb TM_LOG.SQUALL_STATUS.ACTIVE) u).1 ∧ u.log.ring.length = s.log.ring.length) ∨
    (r.isProtected = false ∧ (s.rfb TM_LOG.SQUALL_STATUS.ACTIVE || decide (7680 ≤ s.log.ring.length)) = true ∧
      s.admitRec r = (s.foldEvent r, [])) ∨
    (r.isProtected = false ∧ (s.rfb TM_LOG.SQUALL_STATUS.ACTIVE || decide (7680 ≤ s.log.ring.length)) = false ∧
      s.admitRec r = State.squallCheck (s.rfb TM_LOG.SQUALL_STATUS.ACTIVE) (s.ringPush r)) := by
  unfold State.admitRec
  extract_lets n squall enter mark
  have hmark (u : State) : (mark u).log.ring = u.log.ring := by
    simp only [mark]
    split <;> rfl
  split
  case isTrue hprot =>
    split
    case isTrue hroom => exact .inl ⟨hprot, hroom, _, rfl, hmark _⟩
    case isFalse hfull =>
      refine .inr (.inl ⟨hprot, Nat.le_of_not_lt hfull, ?_⟩)
      split
      case h_1 ring' old hdrop =>
        extract_lets s1 s2
        refine ⟨mark (s2.ringPush r), .inr ⟨rfl, ?_⟩⟩
        have hring : s2.log.ring = ring' := by
          simp only [s2]
          rw [State.sat1, State.sat_frame]
          exact s1.unrecord_ring old
        rw [hmark, State.ringPush_ring, hring, List.length_append, List.length_singleton, dropLastOrdinary_length hdrop]
      case h_2 =>
        refine ⟨_, .inl ⟨rfl, ?_⟩⟩
        dsimp only
        rw [State.sat1, State.sat_frame]
  case isFalse hord =>
    have hord' : r.isProtected = false := Bool.eq_false_iff.mpr hord
    split
    case isTrue hfold => exact .inr (.inr (.inl ⟨hord', hfold, rfl⟩))
    case isFalse hpush => exact .inr (.inr (.inr ⟨hord', Bool.eq_false_iff.mpr hpush, rfl⟩))

/-- Settles O52. -/
theorem deviceRing : Obligations.DeviceRing := by
  intro s r
  refine ⟨fun hlen => ?_, fun hord hquiet hroom henter => ?_, fun hord hfold => ?_, fun hprot hroom => ?_⟩
  · rcases s.admitRec_cases r with ⟨-, hroom, u, h, hu⟩ | ⟨-, -, u, ⟨h, hu⟩ | ⟨h, hu⟩⟩ | ⟨-, -, h⟩ | ⟨-, hpush, h⟩
    · obtain ⟨l, hl, hbound⟩ := State.squallCheck_ring (s.rfb TM_LOG.SQUALL_STATUS.ACTIVE) u
      have hulen : u.log.ring.length = s.log.ring.length + 1 := by rw [hu, State.ringPush_ring]; simp
      rw [h, hl, List.length_append]
      omega
    · rw [h, hu]
      exact hlen
    · obtain ⟨l, hl, hbound⟩ := State.squallCheck_ring (s.rfb TM_LOG.SQUALL_STATUS.ACTIVE) u
      rw [h, hl, List.length_append]
      omega
    · rw [h, State.foldEvent_ring]
      exact hlen
    · obtain ⟨l, hl, hbound⟩ := State.squallCheck_ring (s.rfb TM_LOG.SQUALL_STATUS.ACTIVE) (s.ringPush r)
      have hulen : (s.ringPush r).log.ring.length = s.log.ring.length + 1 := by rw [State.ringPush_ring]; simp
      have hsmall : s.log.ring.length < 7680 := by simpa using (Bool.or_eq_false_iff.mp hpush).2
      rw [h, hl, List.length_append]
      omega
  · have hthr : (s.ringPush r).squallEnterThr = s.squallEnterThr := by
      have henter : (s.ringPush r).rf TM_LOG.SQUALL_CTRL.ENTER = s.rf TM_LOG.SQUALL_CTRL.ENTER :=
        State.rf_wf_ne _ _ _ _ (by decide)
      simp only [State.squallEnterThr, henter]
    rcases s.admitRec_cases r with ⟨h, -⟩ | ⟨h, -⟩ | ⟨-, h, -⟩ | ⟨-, -, h⟩
    · simp [hord] at h
    · simp [hord] at h
    · simp only [hquiet, Bool.false_or, decide_eq_true_eq] at h
      exact absurd h (Nat.not_le_of_lt hroom)
    · refine ⟨?_, rfl, State.rf_wf_same _ _ _⟩
      rw [h, State.squallCheck, hthr, State.ringPush_ring, List.length_append, List.length_singleton,
        if_neg (by simpa using fun _ => henter)]
  · rcases s.admitRec_cases r with ⟨h, -⟩ | ⟨h, -⟩ | ⟨-, -, h⟩ | ⟨-, h, -⟩
    · simp [hord] at h
    · simp [hord] at h
    · rw [h]
      exact ⟨rfl, s.foldEvent_ring r, s.foldEvent_count r⟩
    · simp only [Bool.or_eq_false_iff, decide_eq_false_iff_not] at h
      rcases hfold with hactive | hfull
      · simp [hactive] at h
      · exact absurd hfull h.2
  · rcases s.admitRec_cases r with ⟨-, -, u, h, hu⟩ | ⟨-, hfull, -⟩ | ⟨h, -⟩ | ⟨h, -⟩
    · obtain ⟨l, hl, -⟩ := State.squallCheck_ring (s.rfb TM_LOG.SQUALL_STATUS.ACTIVE) u
      exact ⟨l, by rw [h, hl, hu, State.ringPush_ring]; simp⟩
    · omega
    · simp [hprot] at h
    · simp [hprot] at h

end Sys2Proof.Machine
end

section
/-! PROOF. A step with an empty queue, and the state that a BLOCK reset leaves (R30). -/

namespace Sys2Proof.Machine

/-! ### A step -/

/-- What a sparse array reads as after every entry has changed, where the change keeps a part of the content. -/
theorem SMap.get_map_eq {β γ : Type} (d : β) (m : SMap β) (g : Nat → β → β) (part : β → γ) (hg : ∀ k v, part (g k v) = part v) (k : Nat) :
    part (SMap.get d (m.map (fun e => (e.1, g e.1 e.2))) k) = part (SMap.get d m k) := by
  induction m with
  | nil => rfl
  | cons e m ih =>
    simp only [List.map_cons, SMap.get]
    split
    · exact hg _ _
    · exact ih

/-- What passing time leaves of a header. -/
def PageHdr.settings (h : PageHdr) : Bool × Bool × Bool × Nat × Bool := (h.enable, h.fenced, h.inReset, h.latch, h.lock)

theorem State.advance_settings (s : State) (n P : Nat) : ((s.advance n).hdr P).settings = (s.hdr P).settings := by
  unfold State.advance State.hdr
  extract_lets ticks frozen cnt
  refine SMap.get_map_eq (resetHdr P) s.hdrs cnt PageHdr.settings (fun Q h => ?_) P
  have hperf (h : PageHdr) (ev n : Nat) : (h.perfCycles ev n).settings = h.settings := rfl
  simp only [cnt, apply_ite PageHdr.settings, hperf, ite_self]

theorem State.advance_frame (s : State) (n : Nat) :
    s.advance n = { s with cycle := (s.advance n).cycle, time := (s.advance n).time, hdrs := (s.advance n).hdrs } := rfl

/-- Settles O48. -/
theorem stepTakesFront : Obligations.StepTakesFront := by
  refine ⟨fun s c r => rfl, fun s hempty => ⟨s.advance 1, ?_, s.advance_frame 1, rfl, ?_, fun P => ?_⟩⟩
  · rw [step, hempty]
  · have hodd : (s.cycle + 1) / 2 - s.cycle / 2 = s.cycle % 2 := by omega
    have hbit : s.cycle % 2 < 2 := Nat.mod_lt _ (by decide)
    simp only [State.advance, hodd]
    cases s.timeRun
    · simp
    · by_cases h : s.cycle % 2 = 1
      · simp [h]
      · have h0 : s.cycle % 2 = 0 := by omega
        simp [h0]
  · have h := s.advance_settings 1 P
    simp only [PageHdr.settings, Prod.mk.injEq] at h
    exact h

/-! ### A BLOCK reset -/

theorem State.rfp_resetBlockRegs (s : State) (P : Nat) (keep : Nat → Bool) (f : Fld) (p i : Nat) :
    (s.resetBlockRegs P keep).rfp f p i =
      if P * 32768 + 2048 ≤ f.key p i ∧ f.key p i < (P + 1) * 32768 ∧ keep (f.key p i) = false then f.resetAt i else s.rfp f p i := by
  have hlo : (P * 4096 + 0x100) * 8 = P * 32768 + 2048 := by omega
  have hhi : (P + 1) * 4096 * 8 = (P + 1) * 32768 := by omega
  simp only [State.resetBlockRegs, State.rfp, SMap.get_drop, hlo, hhi]
  congr 1
  simp [and_assoc]

/-- Whether EXP_RATE exceeds what express slots carry is read from the banks, the state of the epochs, the links and EXP_RATE. -/
theorem State.expOver_congr {s t : State} (hep : t.ep = s.ep) (ha : t.bankA = s.bankA) (hb : t.bankB = s.bankB)
    (hregs : ∀ f ∈ [TM_EPOCH.STATE.STATE, TM_EPOCH.STATE.ACTIVE_BANK, TM_SCHED.EXP_RATE.KBPS], t.rf f = s.rf f)
    (hlinks : ∀ p i, p < 10 → i < 32 → t.rfp TM_FLINK.LINK_STATUS.STATE p i = s.rfp TM_FLINK.LINK_STATUS.STATE p i) :
    t.expOver = s.expOver := by
  have hup : t.nLinksUp = s.nLinksUp := by
    unfold State.nLinksUp
    congr 1
    refine List.filter_congr fun n hn => ?_
    rw [hlinks _ _ (by have := List.mem_range.mp hn; omega) (Nat.mod_lt n (by decide))]
  have hnone : t.noEpoch = s.noEpoch := by
    rw [State.noEpoch, State.noEpoch, State.epochState, State.epochState, hep, hregs TM_EPOCH.STATE.STATE (by simp)]
  have hactive : t.activeBank = s.activeBank := by
    simp only [State.activeBank, State.rfb, hregs TM_EPOCH.STATE.ACTIVE_BANK (by simp)]
  have hrate : t.rFabExp = s.rFabExp := by
    unfold State.rFabExp State.bank
    rw [hnone, hactive, ha, hb, hup]
  rw [State.expOver, State.expOver, hrate, hregs TM_SCHED.EXP_RATE.KBPS (by simp)]

/-- Where the rate was over before, or is not over now, nothing is raised. -/
theorem State.capCheck_of_expOver {s : State} {was : Bool} (h : s.expOver = was) : s.capCheck was = s := by
  subst h
  cases hover : s.expOver <;> simp [State.capCheck, State.capRaise, hover]

theorem State.latchBounds_frame (s : State) : s.latchBounds = { s with regs := s.latchBounds.regs } := by
  unfold State.latchBounds
  dsimp only
  split <;> split <;> rfl

/-- Only the two fields that say a bound is exceeded are written. -/
theorem State.rfp_latchBounds (s : State) {f : Fld} {p i : Nat} (hig : f.key p i ≠ TM_GLOBAL.BOUND_STATUS.IG_OVER.key 0 0)
    (heg : f.key p i ≠ TM_GLOBAL.BOUND_STATUS.EG_OVER.key 0 0) : s.latchBounds.rfp f p i = s.rfp f p i := by
  unfold State.latchBounds
  extract_lets ig eg u
  have hu : u.rfp f p i = s.rfp f p i := by
    simp only [u]
    split
    · exact State.rfp_wfp_ne _ _ _ _ _ _ _ _ hig
    · rfl
  split
  · exact (State.rfp_wfp_ne _ _ _ _ _ _ _ _ heg).trans hu
  · exact hu

theorem linkState_key {p i : Nat} (hp : p < 10) (hi : i < 32) :
    4136 * 32768 ≤ TM_FLINK.LINK_STATUS.STATE.key p i ∧ TM_FLINK.LINK_STATUS.STATE.key p i < 4146 * 32768 := by
  simp only [Fld.key, TM_FLINK.LINK_STATUS.STATE, fldN]
  omega

/-- The shaping page's reset: its shapers and its calendar empty. -/
theorem State.resetEffect_shape (s : State) :
    s.resetEffect 4152 = { s with sc := { s.sc with shapers := [], cal := [] } } := by
  rfl

theorem State.resetAfter_shape (s : State) : s.resetAfter 4152 = s.showDdr := by
  rfl

theorem State.showDdr_frame (s : State) : s.showDdr = { s with regs := s.showDdr.regs } := by
  unfold State.showDdr
  dsimp only
  split <;> rfl

/-- Only DDR_TOTAL and DDR_FREE are shown anew. -/
theorem State.rfp_showDdr (s : State) {f : Fld} {p i : Nat} (htotal : f.key p i ≠ TM_BUF.DDR_TOTAL.UNITS.key 0 0)
    (hfree : f.key p i ≠ TM_BUF.DDR_FREE.UNITS.key 0 0) : s.showDdr.rfp f p i = s.rfp f p i := by
  unfold State.showDdr
  extract_lets u
  have hu : u.rfp f p i = s.rfp f p i := by
    simp only [u]
    split
    · exact State.rfp_wfp_ne _ _ _ _ _ _ _ _ htotal
    · rfl
  exact (State.rfp_wfp_ne _ _ _ _ _ _ _ _ hfree).trans hu

/-- The state in which the shaping page's reset has returned its registers. -/
def State.shapeReset (s : State) : State :=
  (((((s.updHdr 4152 (fun h => { h with fenced := false })).resetEffect 4152).updHdr 4152
    (fun h => { h with inReset := true, fenced := false })).resetBlockRegs 4152 (blockKeep 4152)).showDdr).arm .blockReset 4152 (100 * cyUs)

theorem State.rfp_shapeReset (s : State) {f : Fld} {p i : Nat} (hpage : f.key p i < 4152 * 32768 ∨ 4153 * 32768 ≤ f.key p i)
    (htotal : f.key p i ≠ TM_BUF.DDR_TOTAL.UNITS.key 0 0) (hfree : f.key p i ≠ TM_BUF.DDR_FREE.UNITS.key 0 0) :
    s.shapeReset.rfp f p i = s.rfp f p i := by
  refine (State.rfp_armAt _ _ _ _ _ _ _).trans ((State.rfp_showDdr _ htotal hfree).trans ?_)
  rw [State.rfp_resetBlockRegs, if_neg (by omega)]
  rfl

/-- What the shaping page's reset touches beside registers. -/
theorem State.shapeReset_parts (s : State) : let t := s.shapeReset.latchBounds
    t.ep = s.ep ∧ t.bankA = s.bankA ∧ t.bankB = s.bankB ∧ t.pkts = s.pkts ∧ t.sc.shapers = [] ∧ t.sc.cal = [] ∧
    t.hdr 4152 = { s.hdr 4152 with inReset := true, fenced := false } ∧ t.timerAt .blockReset 4152 = some (s.cycle + 100 * cyUs) := by
  rw [State.latchBounds_frame, State.shapeReset, State.showDdr_frame, State.resetEffect_shape]
  simp only [State.resetBlockRegs, State.arm_ep, State.arm_bankA, State.arm_bankB, State.arm_pkts, State.arm_sc, State.updHdr_ep,
    State.updHdr_bankA, State.updHdr_bankB, State.updHdr_pkts, State.updHdr_sc, true_and, State.hdr_get, State.arm_hdrs,
    State.updHdr_hdrs_upd, hdrGet_hdrUpd_same, State.timerAt_get, State.arm_timers_put, timerGet_timerPut_same, State.updHdr_cycle]

/-- EXP_RATE is judged by what the shaping page does not hold: its reset raises nothing. -/
theorem State.blockReset_shape (s : State) : s.blockReset 4152 = s.shapeReset.latchBounds := by
  have hkeep {f : Fld} {p i : Nat} (hpage : f.key p i < 4152 * 32768 ∨ 4153 * 32768 ≤ f.key p i)
      (hbuf : f.key p i < 4150 * 32768 ∨ 4151 * 32768 ≤ f.key p i) (hglob : 4097 * 32768 ≤ f.key p i) :
      s.shapeReset.latchBounds.rfp f p i = s.rfp f p i := by
    have htotal : TM_BUF.DDR_TOTAL.UNITS.key 0 0 / 32768 = 4150 := by decide
    have hfree : TM_BUF.DDR_FREE.UNITS.key 0 0 / 32768 = 4150 := by decide
    have hig : TM_GLOBAL.BOUND_STATUS.IG_OVER.key 0 0 / 32768 = 4096 := by decide
    have heg : TM_GLOBAL.BOUND_STATUS.EG_OVER.key 0 0 / 32768 = 4096 := by decide
    rw [State.rfp_latchBounds _ (by omega) (by omega), s.rfp_shapeReset hpage (by omega) (by omega)]
  obtain ⟨hep, ha, hb, -⟩ := s.shapeReset_parts
  suffices hover : s.shapeReset.latchBounds.expOver = s.expOver from State.capCheck_of_expOver hover
  refine State.expOver_congr ?_ ?_ ?_ (fun f hf => ?_) (fun p i hp hi => ?_)
  · exact hep
  · exact ha
  · exact hb
  · simp only [List.mem_cons, List.not_mem_nil, or_false] at hf
    rcases hf with rfl | rfl | rfl
    · exact hkeep (by decide) (by decide) (by decide)
    · exact hkeep (by decide) (by decide) (by decide)
    · exact hkeep (by decide) (by decide) (by decide)
  · have := linkState_key hp hi
    exact hkeep (by omega) (by omega) (by omega)

/-- Settles O57. -/
theorem blockResetState : Obligations.BlockResetState := by
  refine ⟨fun s f P p i keep => ⟨fun hlo hhi hkeep => ?_, fun hout => ?_⟩, fun s => ?_⟩
  · rw [s.rfp_resetBlockRegs, if_pos ⟨hlo, hhi, hkeep⟩]
  · rw [s.rfp_resetBlockRegs, if_neg]
    rintro ⟨hlo, hhi, hkeep⟩
    rcases hout with hk | hk | hk
    · simp [hk] at hkeep
    · omega
    · omega
  · intro t
    have ht : t = s.shapeReset.latchBounds := s.blockReset_shape
    obtain ⟨-, -, -, hpkts, hshapers, hcal, hhdr, htimer⟩ := s.shapeReset_parts
    rw [← ht] at hpkts hshapers hcal hhdr htimer
    rw [hhdr]
    exact ⟨hshapers, hcal, rfl, rfl, rfl, rfl, rfl, htimer, hpkts⟩

end Sys2Proof.Machine
end

section
/-! PROOF. POR and CHIP reset (R412, R473 to R476, R489, R500). -/

namespace Sys2Proof.Machine

/-! ### POR -/

/-- A power-on reset abandons a staged image, and keeps the rest of the flash. -/
theorem State.flashKept_parts (s : State) : s.flashKept.hours = s.flash.hours ∧ s.flashKept.record = s.flash.record := by
  unfold State.flashKept State.fwAbandon
  split
  · exact ⟨rfl, rfl⟩
  · split <;> exact ⟨rfl, rfl⟩

theorem powerOnReset : Claims.PowerOnReset := by
  intro s
  refine ⟨⟨s.porClear, rfl, rfl, s.flashKept_parts.1, s.flashKept_parts.2, rfl, rfl, rfl, rfl, rfl, rfl, rfl, rfl, rfl, rfl, ?_, ?_⟩,
    fun h => ?_, fun h => ⟨s.porRelease, rfl, ?_⟩⟩
  · simp [State.tmOn, State.porClear, Power.por]
  · simp [State.feOn, State.porClear, Power.por]
  · show Host.Outcome.next s.porRelease = _
    rw [State.porRelease, if_pos h]
  · rw [State.porRelease, if_neg (by simpa using h)]
    exact ⟨State.rf_wf_same s TM_PWR.STATE.STATE psWaking, rfl, State.timerAt_arm_same _ _ _ _, rfl⟩

/-! ### CHIP reset -/

/-- Keeping registers by their place: a kept one stands, the others are at their reset values. -/
theorem SMap.get_filter {β : Type} (d : β) (keep : Nat → Bool) (m : SMap β) (k : Nat) :
    SMap.get d (m.filter (fun e => keep e.1)) k = if keep k = true then SMap.get d m k else d := by
  have hdrop : m.filter (fun e => keep e.1) = SMap.drop (fun k => !keep k) m := by simp [SMap.drop]
  rw [hdrop, SMap.get_drop]
  cases keep k <;> rfl

theorem State.rfp_chipClear (s : State) (pin : Bool) (f : Fld) (p i : Nat) : (s.chipClear pin).rfp f p i =
    if chipKept.any (fun g => decide (g.key 0 0 = f.key p i)) = true then s.rfp f p i else f.resetAt i :=
  SMap.get_filter _ (fun k => chipKept.any (fun g => decide (g.key 0 0 = k))) s.regs _

theorem State.chipRelease_held {s : State} (h : s.pw.sysLow = true) : s.chipRelease = { s with pw := { s.pw with rst := 2 } } :=
  if_pos h

theorem State.chipRelease_free {s : State} (h : s.pw.sysLow = false) : s.chipRelease =
    if (s.rf FE_CLK.STATUS.ROOT_LOCK = 1 ∧ s.rf TM_CLK.STATUS.ROOT_LOCK = 1)
      then ({ s.wf TM_PWR.STATE.STATE psWaking with pw := { s.pw with rst := 0 } } : State).coldStart
      else ({ s.wf TM_PWR.STATE.STATE psWaking with pw := { s.pw with rst := 0 } } : State).wakeStep 3 (if s.pw.pwrEn then 2 else 1) := by
  have hfe : (s.wf TM_PWR.STATE.STATE psWaking).rfb FE_CLK.STATUS.ROOT_LOCK = s.rfb FE_CLK.STATUS.ROOT_LOCK :=
    State.rfb_wf_ne _ _ _ _ (by decide)
  have htm : (s.wf TM_PWR.STATE.STATE psWaking).rfb TM_CLK.STATUS.ROOT_LOCK = s.rfb TM_CLK.STATUS.ROOT_LOCK :=
    State.rfb_wf_ne _ _ _ _ (by decide)
  rw [State.chipRelease, if_neg (by simp [h])]
  extract_lets u
  have hu : (u.rfb FE_CLK.STATUS.ROOT_LOCK && u.rfb TM_CLK.STATUS.ROOT_LOCK) =
      (s.rfb FE_CLK.STATUS.ROOT_LOCK && s.rfb TM_CLK.STATUS.ROOT_LOCK) := congrArg₂ and hfe htm
  rw [hu]
  simp only [State.rfb, Bool.and_eq_true, decide_eq_true_eq]
  rfl

/-- The pin goes low while no reset pin is low. -/
theorem State.chipReset_pin {s : State} (h : s.pw.rst = 0) : s.chipReset true =
    if s.sysBlind = true then { s with pw := { s.pw with sysLow := true } }
    else ({ s with pw := { s.pw with sysLow := true } } : State).chipClear true := by
  have hrst : ¬({ s with pw := { s.pw with sysLow := true } } : State).pw.rst ≠ 0 := not_not.mpr h
  exact if_neg hrst

theorem State.chipReset_held {s : State} (h : s.pw.rst ≠ 0) (pin : Bool) : s.chipReset pin =
    if pin = true then { s with pw := { s.pw with sysLow := true } } else s := by
  cases pin
  · exact if_pos h
  · have hrst : ({ s with pw := { s.pw with sysLow := true } } : State).pw.rst ≠ 0 := h
    exact if_pos hrst

theorem State.chipReset_request {s : State} (h : s.pw.rst = 0) : s.chipReset false =
    if s.chipReq = true then (s.chipClear false).chipRelease else s := if_neg (not_not.mpr h)

/-- The register's request, with its key (R474). -/
theorem State.resetReq_eq {s : State} (h : s.blockOpen 4102 = true) (v : Nat) : s.resetReq v =
    if bit v 0 = true ∧ bits v 16 16 = 0xC41B then (s.chipClear false).chipRelease else s := by
  simp only [State.resetReq, h, Bool.true_and, Bool.and_eq_true, decide_eq_true_eq]

theorem chipReset : Claims.ChipReset := by
  intro s low high
  refine ⟨fun hrst => ⟨?_, ?_⟩, fun hrst hblind => ?_, fun hrst hawake hsees => ?_, fun hrst hreq => ?_, fun hrst hreq => ?_, fun hrst => ?_,
    fun hrst => ?_, fun htm hopen v => ?_, fun pin => ?_, State.chipRelease_held, State.chipRelease_free⟩
  · exact congrArg Host.Outcome.next (State.chipReset_held hrst false)
  · exact congrArg Host.Outcome.next (State.chipReset_held hrst true)
  · have hb : s.sysBlind = true := by simpa [State.sysBlind] using hblind
    exact congrArg Host.Outcome.next ((State.chipReset_pin hrst).trans (if_pos hb))
  · have hb : ¬s.sysBlind = true := by
      rw [State.sysBlind, hawake]
      rcases hsees with hw | ⟨hcause, hwake⟩
      · simp [hw]
      · simp [hcause, hwake]
    exact congrArg Host.Outcome.next ((State.chipReset_pin hrst).trans (if_neg hb))
  · exact congrArg Host.Outcome.next ((State.chipReset_request hrst).trans (if_pos hreq))
  · exact congrArg Host.Outcome.next ((State.chipReset_request hrst).trans (if_neg (by simp [hreq])))
  · have hhigh : high.pw.rst = 2 := hrst
    exact congrArg Host.Outcome.next (if_pos hhigh)
  · have hhigh : high.pw.rst ≠ 2 := hrst
    exact congrArg Host.Outcome.next (if_neg hhigh)
  · have hexec : exec (.resetReq v) s = .next (s.resetReq v) := congrArg Host.Outcome.next (s.onTm_on _ htm)
    rw [hexec, State.resetReq_eq hopen]
    exact ⟨fun hv hkey => by rw [if_pos ⟨hv, hkey⟩], fun hno => by rw [if_neg hno]⟩
  · refine ⟨rfl, rfl, rfl, rfl, rfl, rfl, rfl, rfl, rfl, rfl, fun f hf => ?_, fun f p i hf => ?_⟩
    · exact (s.rfp_chipClear pin f 0 0).trans (if_pos (List.any_eq_true.mpr ⟨f, hf, by simp⟩))
    · refine (s.rfp_chipClear pin f p i).trans (if_neg fun hany => ?_)
      obtain ⟨g, hg, hkey⟩ := List.any_eq_true.mp hany
      exact hf g hg (of_decide_eq_true hkey)

/-- Settles O41. -/
theorem deviceResets : Obligations.DeviceResets := ⟨powerOnReset, chipReset⟩

end Sys2Proof.Machine
end

section
/-! SUPPORT. The map of the register fields (R6, section 02): no two fields, instances or elements share a place. -/

namespace Sys2Proof.Machine

/-! ### Distinct numbers, checked with a bit mask -/

/-- No number of the list is marked in the mask, and none stands in it twice. -/
def freshBits : Nat → List Nat → Bool
  | _, [] => true
  | m, k :: ks => !m.testBit k && freshBits (m ||| 1 <<< k) ks

theorem freshBits_nodup {m : Nat} {ks : List Nat} (h : freshBits m ks = true) : (∀ k ∈ ks, m.testBit k = false) ∧ ks.Nodup := by
  induction ks generalizing m with
  | nil => simp
  | cons k ks ih =>
    simp only [freshBits, Bool.and_eq_true, Bool.not_eq_true'] at h
    obtain ⟨hall, hnodup⟩ := ih h.2
    have hrest : ∀ j ∈ ks, m.testBit j = false ∧ j ≠ k := by
      intro j hj
      have hbits := hall j hj
      rw [Nat.testBit_or, Bool.or_eq_false_iff] at hbits
      refine ⟨hbits.1, ?_⟩
      rintro rfl
      simp [Nat.one_shiftLeft, Nat.testBit_two_pow_self] at hbits
    refine ⟨fun j hj => ?_, List.nodup_cons.mpr ⟨fun hk => (hrest k hk).2 rfl, hnodup⟩⟩
    rcases List.mem_cons.mp hj with rfl | hj
    · exact h.1
    · exact (hrest j hj).1

/-! ### The check of the page kinds -/

/-- The bit addresses of a kind's fields within its first page. -/
def kindBits (k : Nat × Nat × List Fld × List Fld) : List Nat :=
  k.2.2.1.flatMap fun f => (List.range f.cnt).map fun i => f.key 0 i - k.1 * 32768

/-- The fields of a kind stand in its page, each element at a place of its own. -/
def kindOk (k : Nat × Nat × List Fld × List Fld) : Bool :=
  k.2.2.1.all (fun f => decide (f.page = k.1) && (List.range f.cnt).all fun i => decide (f.key 0 i / 32768 = k.1)) &&
    freshBits 0 (kindBits k)

theorem pageKinds_kindOk : pageKinds.all kindOk = true := by decide +kernel

/-- The pages of two kinds do not overlap. -/
theorem pageKinds_apart : (pageKinds.all fun k => pageKinds.all fun l =>
    (decide (k.1 = l.1) || decide (k.1 + k.2.1 ≤ l.1) || decide (l.1 + l.2.1 ≤ k.1))) = true := by decide +kernel

theorem pageKinds_bases_nodup : (pageKinds.map (·.1)).Nodup := by decide +kernel

theorem Fld.key_add (f : Fld) (p i : Nat) : f.key p i = f.key 0 i + p * 32768 := by
  simp only [Fld.key]
  omega

section
variable {k : Nat × Nat × List Fld × List Fld} {f : Fld} (hk : k ∈ pageKinds) (hf : f ∈ k.2.2.1)
include hk hf

theorem fld_page : f.page = k.1 := by
  have h := List.all_eq_true.mp pageKinds_kindOk k hk
  simp only [kindOk, Bool.and_eq_true, List.all_eq_true, decide_eq_true_eq] at h
  exact (h.1 f hf).1

theorem key_div {i : Nat} (hi : i < f.cnt) (p : Nat) : f.key p i / 32768 = k.1 + p := by
  have h := List.all_eq_true.mp pageKinds_kindOk k hk
  simp only [kindOk, Bool.and_eq_true, List.all_eq_true, decide_eq_true_eq] at h
  have hbase := (h.1 f hf).2 i (List.mem_range.mpr hi)
  rw [f.key_add]
  omega

/-- Two elements of one kind's fields at one place are one element. -/
theorem key_inj {g : Fld} (hg : g ∈ k.2.2.1) {i j : Nat} (hi : i < f.cnt) (hj : j < g.cnt) {p : Nat} (h : f.key p i = g.key p j) :
    f = g ∧ i = j := by
  have hok := List.all_eq_true.mp pageKinds_kindOk k hk
  simp only [kindOk, Bool.and_eq_true] at hok
  obtain ⟨heach, hpair⟩ := List.nodup_flatMap.mp (freshBits_nodup hok.2).2
  have hsame : f.key 0 i - k.1 * 32768 = g.key 0 j - k.1 * 32768 := by
    rw [f.key_add, g.key_add] at h
    omega
  have hmem (e : Fld) (n : Nat) (hn : n < e.cnt) :
      e.key 0 n - k.1 * 32768 ∈ (List.range e.cnt).map fun n => e.key 0 n - k.1 * 32768 :=
    List.mem_map.mpr ⟨n, List.mem_range.mpr hn, rfl⟩
  have hfg : f = g := by
    by_contra hne
    have hsymm : Std.Symm (Function.onFun List.Disjoint fun e : Fld => (List.range e.cnt).map fun n => e.key 0 n - k.1 * 32768) :=
      ⟨fun _ _ h => List.Disjoint.symm h⟩
    have hdisjoint := hpair.forall hf hg hne
    have hshared := hmem g j hj
    rw [← hsame] at hshared
    exact hdisjoint (hmem f i hi) hshared
  subst hfg
  exact ⟨rfl, List.inj_on_of_nodup_map (heach f hf) (List.mem_range.mpr hi) (List.mem_range.mpr hj) hsame⟩

end

/-! ### The map -/

/-- Every field of the register map, with the number of pages of its kind. -/
def mapFlds : List (Fld × Nat) := pageKinds.flatMap fun k => k.2.2.1.map fun f => (f, k.2.1)

theorem mem_mapFlds {f : Fld} {n : Nat} : (f, n) ∈ mapFlds ↔ ∃ k ∈ pageKinds, f ∈ k.2.2.1 ∧ k.2.1 = n := by
  simp [mapFlds]

/-- The place of an element of a field lies in its own page. -/
theorem mapFlds_key_div {f : Fld} {n : Nat} (hf : (f, n) ∈ mapFlds) {i : Nat} (hi : i < f.cnt) (p : Nat) :
    f.key p i / 32768 = f.page + p := by
  obtain ⟨k, hk, hfk, -⟩ := mem_mapFlds.mp hf
  rw [key_div hk hfk hi, fld_page hk hfk]

/-- Elements of the map at one place are one element. -/
theorem mapFlds_key_inj {f g : Fld} {n m : Nat} (hf : (f, n) ∈ mapFlds) (hg : (g, m) ∈ mapFlds) {p q i j : Nat} (hp : p < n) (hq : q < m)
    (hi : i < f.cnt) (hj : j < g.cnt) (h : f.key p i = g.key q j) : f = g ∧ p = q ∧ i = j := by
  obtain ⟨k, hk, hfk, rfl⟩ := mem_mapFlds.mp hf
  obtain ⟨l, hl, hgl, rfl⟩ := mem_mapFlds.mp hg
  have hpage : k.1 + p = l.1 + q := by rw [← key_div hk hfk hi, ← key_div hl hgl hj, h]
  have hapart := List.all_eq_true.mp (List.all_eq_true.mp pageKinds_apart k hk) l hl
  simp only [Bool.and_eq_true, Bool.or_eq_true, decide_eq_true_eq] at hapart
  have hbase : k.1 = l.1 := by omega
  obtain rfl : k = l := List.inj_on_of_nodup_map pageKinds_bases_nodup hk hl hbase
  obtain rfl : p = q := by omega
  obtain ⟨rfl, rfl⟩ := key_inj hk hfk hgl hi hj h
  exact ⟨rfl, rfl, rfl⟩

end Sys2Proof.Machine
end

section
/-! PROOF. A full-word write of a block register (R6, R22, R23, R414). -/

namespace Sys2Proof.Machine

/-! ### An access of one whole word -/

theorem busParts_aligned (off width v : Nat) (halign : off % 4 = 0) (hpos : 1 ≤ width) (hwidth : width ≤ 4) (hv : v < 2 ^ (8 * width)) :
    busParts off width v = [(off, width, v)] := by
  have hone : (off % 4 + width + 3) / 4 = 1 := by omega
  have hoff : off / 4 * 4 = off := by omega
  have hmin : min width 4 = width := Nat.min_eq_left hwidth
  have hval : bits v 0 (8 * width) = v := by rw [bits, Nat.shiftRight_zero, Nat.mod_eq_of_lt hv]
  simp [busParts, hone, hoff, hmin, hval, hwidth]

section
variable {s : State} {P o : Nat}

theorem wordAddress (hP : P < 8192) (ho : o < 4096) : (P * 4096 + o) / 4096 % 8192 = P ∧ (P * 4096 + o) % 4096 = o := by
  omega

/-- A write within one word reaches its page, where there is one (R23). -/
theorem State.exec_registerWrite_store (who : Agent) {width v : Nat} (htm : s.tmOn = true) (hdie : s.dieOn P = true)
    (hreach : s.reachable P = true) (hP : P < 8192) (ho : o < 4096) (halign : o % 4 = 0) (hpos : 1 ≤ width) (hwidth : width ≤ 4)
    (hv : v < 2 ^ (8 * width)) (hgood : P < 4096 → s.log.accessBad = none) :
    exec (.registerWrite who (P * 4096 + o) width v .bar0) s =
      .next (if pageAssigned P = true then (s.hostAccess who P).wordStore who P o v (decide (width < 4)) else s.unassigned P o v) := by
  obtain ⟨hpage, hoff⟩ := wordAddress hP ho
  have hspoilt : s.writeSpoilt P = false := by
    unfold State.writeSpoilt
    split
    case h_1 b hb =>
      have hge : ¬P < 4096 := fun hlt => by simp [hgood hlt] at hb
      simp [hge]
    case h_2 => rfl
  have hexec : exec (.registerWrite who (P * 4096 + o) width v .bar0) s = .next (s.busWrite who (P * 4096 + o) width v) :=
    congrArg Host.Outcome.next (s.onTm_on _ htm)
  rw [hexec, State.busWrite, busParts_aligned _ _ _ (by omega) hpos hwidth hv]
  cases hassigned : pageAssigned P <;> simp [State.busStore, hpage, hoff, htm, hdie, hreach, hspoilt, hassigned]

/-- The write of a whole word reaches the registers of its page. -/
theorem State.exec_registerWrite_word (who : Agent) {v : Nat} (hopen : s.headerOpen P = true) (ho : o < 4096) (halign : o % 4 = 0)
    (hv : v < 2 ^ 32) (hgood : P < 4096 → s.log.accessBad = none) :
    exec (.registerWrite who (P * 4096 + o) 4 v .bar0) s = .next ((s.hostAccess who P).wordStore who P o v false) := by
  simp only [State.headerOpen, Bool.and_eq_true, decide_eq_true_eq] at hopen
  obtain ⟨⟨⟨⟨htm, hdie⟩, hreach⟩, hassigned⟩, hP⟩ := hopen
  rw [State.exec_registerWrite_store who htm hdie hreach hP ho halign (by decide) (by decide) hv hgood, if_pos hassigned]
  rfl

/-! ### An access that the page counts -/

theorem State.hostAccess_frame (s : State) (who : Agent) (P : Nat) : s.hostAccess who P = { s with hdrs := (s.hostAccess who P).hdrs } := by
  unfold State.hostAccess
  split
  · exact s.perf_frame _ _ _
  · rfl

theorem State.perf_settings (s : State) (P ev n Q : Nat) : ((s.perf P ev n).hdr Q).settings = (s.hdr Q).settings := by
  unfold State.perf
  split
  · by_cases hQ : Q = P
    · subst hQ
      rw [State.hdr_updHdr_same]
      rfl
    · rw [State.hdr_updHdr_ne _ _ _ _ hQ]
  · rfl

theorem State.hostAccess_settings (s : State) (who : Agent) (P Q : Nat) : ((s.hostAccess who P).hdr Q).settings = (s.hdr Q).settings := by
  unfold State.hostAccess
  split
  · exact s.perf_settings _ _ _ _
  · rfl

theorem State.rfp_hostAccess (s : State) (who : Agent) (P : Nat) (f : Fld) (p i : Nat) :
    (s.hostAccess who P).rfp f p i = s.rfp f p i := by
  rw [s.hostAccess_frame]
  rfl

theorem State.hostAccess_blockOpen (s : State) (who : Agent) (P Q : Nat) : (s.hostAccess who P).blockOpen Q = s.blockOpen Q := by
  have h := s.hostAccess_settings who P Q
  simp only [PageHdr.settings, Prod.mk.injEq] at h
  obtain ⟨-, hfenced, hreset, -⟩ := h
  have hup : (s.hostAccess who P).rfb TM_FAULT.STATUS.BRIDGE_UP = s.rfb TM_FAULT.STATUS.BRIDGE_UP := by
    rw [State.rfb, State.rfb, State.rf, State.rfp_hostAccess, State.rf]
  rw [State.blockOpen, State.blockOpen, State.reachable, State.reachable, hup, hfenced, hreset]

theorem State.hostAccess_bankInUse (s : State) (who : Agent) (P : Nat) : (s.hostAccess who P).bankInUse = s.bankInUse := by
  rw [s.hostAccess_frame]
  rfl

theorem State.hostAccess_lock (s : State) (who : Agent) (P Q : Nat) : ((s.hostAccess who P).hdr Q).lock = (s.hdr Q).lock := by
  have h := s.hostAccess_settings who P Q
  simp only [PageHdr.settings, Prod.mk.injEq] at h
  exact h.2.2.2.2

/-! ### A word of plain fields -/

/-- A word whose write does nothing else, with no lock and no bank in use, gives its fields their parts. -/
theorem State.wordStore_plain {u : State} {P o : Nat} (who : Agent) {v : Nat} (hopen : u.blockOpen P = true) (ho : 0x100 ≤ o)
    (hplaces : pagePlaces P o ≠ []) (hlock : (u.hdr P).lock = false) (hbank : u.bankInUse = false)
    (hqueue : ¬(P = 4149 ∧ (o = 0x100 ∨ o = 0x104))) (hbuf : ¬(P = 4150 ∧ o = 0x108)) (hact : u.actWrite who P o v = none) :
    u.wordStore who P o v false = ((u.plainWrite P o v).capCheck u.expOver).latchBounds := by
  have hblock : ¬o < 0x80 := by omega
  have hhead : ¬o < 0x100 := by omega
  have hsome : (pagePlaces P o).isEmpty = false := by simpa using hplaces
  have hreserve : ((P = 4149 && (o = 0x100 || o = 0x104)) || (P = 4150 && o = 0x108) : Bool) = false := by
    simpa [not_and_or] using And.intro hqueue hbuf
  rw [State.wordStore, if_neg (by simp), if_neg hblock, if_neg hhead, if_neg (by simp [hopen]), State.blockWrite]
  simp [hsome, hlock, hbank, hact, hreserve]

end

theorem registerWrites : Claims.RegisterWrites := by
  intro s who P o v hopen hblock hlo hhi halign hv hplaces hlock hbank hgood hqueue hbuf u hact
  rw [State.exec_registerWrite_word who hopen hhi halign hv hgood]
  refine congrArg Host.Outcome.next (State.wordStore_plain who ?_ hlo hplaces ?_ ?_ hqueue hbuf hact)
  · exact (s.hostAccess_blockOpen who P P).trans hblock
  · exact (s.hostAccess_lock who P P).trans hlock
  · exact (s.hostAccess_bankInUse who P).trans hbank

/-! ### The places of a word -/

/-- The places of a field in the register at an offset, or in the low word of the 64-bit one. -/
def rowPlaces (f : Fld) (o : Nat) (hi : Bool) : List Place :=
  match f.row o with
  | some j => ((List.range f.per).map (j * f.per + ·)).filterMap (fun i =>
      if i < f.cnt then some (⟨f, i, f.lo + f.bs * (i % f.per), hi⟩ : Place) else none)
  | none => []

theorem places_eq (f : Fld) (o : Nat) : f.places o =
    if 32 < f.w then rowPlaces f o false ++ (if 4 ≤ o then rowPlaces f (o - 4) true else []) else rowPlaces f o false := rfl

theorem mem_rowPlaces {f : Fld} {o : Nat} {hi : Bool} {pl : Place} (h : pl ∈ rowPlaces f o hi) :
    pl.fld = f ∧ pl.idx < f.cnt ∧ pl.lo = f.lo + f.bs * (pl.idx % f.per) ∧ pl.hi = hi := by
  unfold rowPlaces at h
  split at h
  · obtain ⟨i, -, hi⟩ := List.mem_filterMap.mp h
    split at hi
    case isTrue hlt =>
      obtain rfl := Option.some.inj hi
      exact ⟨rfl, hlt, rfl, rfl⟩
    case isFalse => cases hi
  · cases h

theorem rowPlaces_nodup (f : Fld) (o : Nat) (hi : Bool) : (rowPlaces f o hi).Nodup := by
  unfold rowPlaces
  split
  · refine List.Nodup.filterMap (fun i j pl hpi hpj => ?_) (List.Nodup.map (fun i j h => Nat.add_left_cancel h) List.nodup_range)
    split at hpi
    · split at hpj
      · exact (congrArg Place.idx (Option.some.inj hpi)).trans (congrArg Place.idx (Option.some.inj hpj)).symm
      · cases hpj
    · cases hpi
  · exact List.nodup_nil

theorem mem_places {f : Fld} {o : Nat} {pl : Place} (h : pl ∈ f.places o) :
    pl.fld = f ∧ pl.idx < f.cnt ∧ pl.lo = f.lo + f.bs * (pl.idx % f.per) ∧ (pl.hi = true → 32 < f.w) := by
  rw [places_eq] at h
  split at h
  case isTrue hwide =>
    have hrow : pl ∈ rowPlaces f o false ∨ pl ∈ rowPlaces f (o - 4) true := by
      rcases List.mem_append.mp h with h | h
      · exact .inl h
      · split at h
        · exact .inr h
        · cases h
    rcases hrow with h | h <;> obtain ⟨hf, hi, hlo, -⟩ := mem_rowPlaces h <;> exact ⟨hf, hi, hlo, fun _ => hwide⟩
  case isFalse =>
    obtain ⟨hf, hi, hlo, hlow⟩ := mem_rowPlaces h
    exact ⟨hf, hi, hlo, fun hhi => by rw [hlow] at hhi; cases hhi⟩

theorem places_nodup (f : Fld) (o : Nat) : (f.places o).Nodup := by
  rw [places_eq]
  split
  · split
    · refine (rowPlaces_nodup f o false).append (rowPlaces_nodup f (o - 4) true) fun pl hlow hhigh => ?_
      have h := (mem_rowPlaces hlow).2.2.2.symm.trans (mem_rowPlaces hhigh).2.2.2
      cases h
    · rw [List.append_nil]
      exact rowPlaces_nodup f o false
  · exact rowPlaces_nodup f o false

theorem pageKinds_fields_nodup : (pageKinds.all fun k => decide k.2.2.1.Nodup) = true := by decide +kernel

theorem pagePlaces_nodup (P o : Nat) : (pagePlaces P o).Nodup := by
  unfold pagePlaces
  split
  · exact List.nodup_nil
  cases hkind : pageKind P with
  | none => exact List.nodup_nil
  | some k =>
    have hfields : k.2.2.1.Nodup := of_decide_eq_true (List.all_eq_true.mp pageKinds_fields_nodup k (List.mem_of_find?_eq_some hkind))
    refine List.nodup_flatMap.mpr ⟨fun f _ => places_nodup f o, hfields.imp fun {f g} hne pl hf hg => hne ?_⟩
    exact (mem_places hf).1.symm.trans (mem_places hg).1

/-- The kind of a page that has registers at an offset. -/
theorem mem_pagePlaces {P o : Nat} {pl : Place} (h : pl ∈ pagePlaces P o) : ∃ k ∈ pageKinds, pageBase P = k.1 ∧ k.1 ≤ P ∧ P < k.1 + k.2.1 ∧
    pl.fld ∈ k.2.2.1 ∧ pl.idx < pl.fld.cnt ∧ pl.lo = pl.fld.lo + pl.fld.bs * (pl.idx % pl.fld.per) ∧ (pl.hi = true → 32 < pl.fld.w) := by
  unfold pagePlaces at h
  split at h
  · cases h
  cases hkind : pageKind P with
  | none => rw [hkind] at h; cases h
  | some k =>
    rw [hkind] at h
    obtain ⟨f, hf, hpl⟩ := List.mem_flatMap.mp h
    obtain ⟨rfl, hi, hlo, hhi⟩ := mem_places hpl
    have hk := List.find?_some hkind
    simp only [Bool.and_eq_true, decide_eq_true_eq] at hk
    exact ⟨k, List.mem_of_find?_eq_some hkind, by simp [pageBase, hkind], hk.1, hk.2, hf, hi, hlo, hhi⟩

/-- Places of one word are one place where they hold the same bits. -/
theorem pagePlaces_key_inj {P o : Nat} {pl pl' : Place} (h : pl ∈ pagePlaces P o) (h' : pl' ∈ pagePlaces P o) (hw : pl.fld.w ≤ 32) {p' : Nat}
    (hp' : p' = P - pageBase P ∨ p' = 0) (hkey : pl.fld.key (P - pageBase P) pl.idx = pl'.fld.key p' pl'.idx) : pl = pl' := by
  obtain ⟨k, hk, hbase, hle, hlt, hf, hi, hlo, hhi⟩ := mem_pagePlaces h
  obtain ⟨l, hl, hbase', -, -, hf', hi', hlo', hhi'⟩ := mem_pagePlaces h'
  obtain rfl : k = l := List.inj_on_of_nodup_map pageKinds_bases_nodup hk hl (hbase.symm.trans hbase')
  rw [hbase] at hkey hp'
  obtain ⟨hfld, -, hidx⟩ := mapFlds_key_inj (mem_mapFlds.mpr ⟨k, hk, hf, rfl⟩) (mem_mapFlds.mpr ⟨k, hk, hf', rfl⟩)
    (by omega) (by omega) hi hi' hkey
  have hlow : pl.hi = false := Bool.eq_false_iff.mpr fun hh => by have := hhi hh; omega
  have hlow' : pl'.hi = false := Bool.eq_false_iff.mpr fun hh => by have := hhi' hh; rw [← hfld] at this; omega
  cases pl
  cases pl'
  simp only at hfld hidx hlo hlo' hlow hlow'
  subst hfld hidx hlow hlow'
  rw [hlo, hlo']

section
variable {s : State} {P o v : Nat}

/-- A place's field reads, after the word was written, what the write of that place leaves. -/
theorem State.rfp_plainWrite_mem {pl : Place} (h : pl ∈ pagePlaces P o) (hw : pl.fld.w ≤ 32) : ∃ u : State,
    u.rfp pl.fld (P - pageBase P) pl.idx = s.rfp pl.fld (P - pageBase P) pl.idx ∧
    (s.plainWrite P o v).rfp pl.fld (P - pageBase P) pl.idx = (u.placeWrite P v pl).rfp pl.fld (P - pageBase P) pl.idx := by
  obtain ⟨before, after, hsplit⟩ := List.append_of_mem h
  have hnodup := pagePlaces_nodup P o
  rw [hsplit, List.nodup_middle, List.nodup_cons] at hnodup
  have hskip {l : List Place} (hl : ∀ x ∈ l, x ∈ pagePlaces P o ∧ x ≠ pl) (u : State) :
      (l.foldl (fun (s : State) x => s.placeWrite P v x) u).rfp pl.fld (P - pageBase P) pl.idx = u.rfp pl.fld (P - pageBase P) pl.idx := by
    induction l generalizing u with
    | nil => rfl
    | cons x l ih =>
      obtain ⟨hx, hne⟩ := hl x List.mem_cons_self
      rw [List.foldl_cons, ih fun y hy => hl y (List.mem_cons_of_mem _ hy)]
      exact u.rfp_placeWrite_ne P v x _ _ _ (fun hk => hne (pagePlaces_key_inj h hx hw (.inl rfl) hk).symm)
        (fun hk => hne (pagePlaces_key_inj h hx hw (.inr rfl) hk).symm)
  refine ⟨before.foldl (fun (s : State) x => s.placeWrite P v x) s, hskip (fun x hx => ⟨?_, ?_⟩) s, ?_⟩
  · rw [hsplit]
    exact List.mem_append_left _ hx
  · rintro rfl
    exact hnodup.1 (List.mem_append_left _ hx)
  · rw [State.plainWrite, hsplit, List.foldl_append, List.foldl_cons]
    refine hskip (fun x hx => ⟨?_, ?_⟩) _
    · rw [hsplit]
      exact List.mem_append_right _ (List.mem_cons_of_mem _ hx)
    · rintro rfl
      exact hnodup.1 (List.mem_append_right _ hx)

theorem State.rfp_plainWrite_ne {g : Fld} {q j : Nat}
    (h : ∀ pl ∈ pagePlaces P o, (pl.fld.acc = .ro ∨ pl.fld.acc = .wo) ∨
      g.key q j ≠ pl.fld.key (P - pageBase P) pl.idx ∧ g.key q j ≠ pl.fld.key 0 pl.idx) :
    (s.plainWrite P o v).rfp g q j = s.rfp g q j := by
  unfold State.plainWrite
  generalize pagePlaces P o = l at h
  induction l generalizing s with
  | nil => rfl
  | cons x l ih =>
    rw [List.foldl_cons, ih fun y hy => h y (List.mem_cons_of_mem _ hy)]
    rcases h x List.mem_cons_self with hro | ⟨hne, hne0⟩
    · rw [s.placeWrite_ro P v x hro]
    · exact s.rfp_placeWrite_ne P v x _ _ _ hne hne0

/-- A field of another page stands, and one that the host only reads. -/
theorem State.rfp_plainWrite_other {g : Fld} {n : Nat} (hg : (g, n) ∈ mapFlds) (hother : g.acc = .ro ∨ g.page ≠ pageBase P) {q j : Nat}
    (hq : q < n) (hj : j < g.cnt) : (s.plainWrite P o v).rfp g q j = s.rfp g q j := by
  refine State.rfp_plainWrite_ne fun pl hpl => ?_
  obtain ⟨k, hk, hbase, hle, hlt, hf, hi, -⟩ := mem_pagePlaces hpl
  by_cases hfld : g = pl.fld
  · refine .inl (.inl (hfld ▸ hother.resolve_right fun hpage => hpage ?_))
    rw [hfld, fld_page hk hf, hbase]
  · have hne {p : Nat} (hp : p < k.2.1) : g.key q j ≠ pl.fld.key p pl.idx := fun hkey =>
      hfld (mapFlds_key_inj hg (mem_mapFlds.mpr ⟨k, hk, hf, rfl⟩) hq hp hj hi hkey).1
    exact .inr ⟨hne (by omega), hne (by omega)⟩

end

/-! ### What a word of plain fields leaves alone -/

/-- `t` differs from `s` in the registers and in the header of page `P` alone. -/
def State.PageWritten (P : Nat) (s t : State) : Prop :=
  t = { s with regs := t.regs, regsB := t.regsB, hdrs := t.hdrs } ∧ ∀ Q, Q ≠ P → t.hdr Q = s.hdr Q

theorem State.PageWritten.refl (P : Nat) (s : State) : s.PageWritten P s := ⟨rfl, fun _ _ => rfl⟩

theorem State.PageWritten.trans {P : Nat} {s t u : State} (h : s.PageWritten P t) (h' : t.PageWritten P u) : s.PageWritten P u := by
  refine ⟨?_, fun Q hQ => (h'.2 Q hQ).trans (h.2 Q hQ)⟩
  rw [h'.1, h.1]

theorem State.PageWritten.perf (s : State) (P ev n : Nat) : s.PageWritten P (s.perf P ev n) := by
  unfold State.perf
  split
  · exact ⟨rfl, fun Q hQ => State.hdr_updHdr_ne _ _ _ _ hQ⟩
  · exact .refl P s

theorem State.PageWritten.perfFld (s : State) {P : Nat} (f : Fld) {p : Nat} (n : Nat) (hp : f.page + p = P) :
    s.PageWritten P (s.perfFld f p n) := by
  unfold State.perfFld
  rw [hp]
  split
  · split
    · exact .perf s P _ _
    · exact .refl P s
  · exact .refl P s

theorem State.PageWritten.wfp (s : State) (P : Nat) (f : Fld) (p i v : Nat) : s.PageWritten P (s.wfp f p i v) := ⟨rfl, fun _ _ => rfl⟩

theorem State.PageWritten.placeWrite (s : State) {P : Nat} (v : Nat) {pl : Place} (hp : pl.fld.page + (P - pageBase P) = P) :
    s.PageWritten P (s.placeWrite P v pl) := by
  cases hacc : pl.fld.acc
  case rw => rw [s.placeWrite_rw P v pl (.inl hacc)]; exact (State.PageWritten.wfp s P _ _ _ _).trans (.perfFld _ _ _ hp)
  case rwl => rw [s.placeWrite_rw P v pl (.inr hacc)]; exact (State.PageWritten.wfp s P _ _ _ _).trans (.perfFld _ _ _ hp)
  case w1c => rw [s.placeWrite_w1c P v pl hacc]; exact .wfp s P _ _ _ _
  case w1s => rw [s.placeWrite_w1s P v pl hacc]; exact .wfp s P _ _ _ _
  case ro => rw [s.placeWrite_ro P v pl (.inl hacc)]; exact .refl P s
  case wo => rw [s.placeWrite_ro P v pl (.inr hacc)]; exact .refl P s
  case rwe =>
    rw [s.placeWrite_rwe P v pl hacc]
    split
    · exact .refl P s
    · unfold State.wfBank
      split <;> exact ⟨rfl, fun _ _ => rfl⟩

theorem State.PageWritten.plainWrite (s : State) (P o v : Nat) : s.PageWritten P (s.plainWrite P o v) := by
  unfold State.plainWrite
  have hpage : ∀ pl ∈ pagePlaces P o, pl.fld.page + (P - pageBase P) = P := by
    intro pl hpl
    obtain ⟨k, hk, hbase, hle, -, hf, -⟩ := mem_pagePlaces hpl
    rw [fld_page hk hf, hbase]
    omega
  generalize pagePlaces P o = l at hpage
  induction l generalizing s with
  | nil => exact .refl P s
  | cons x l ih => exact (State.PageWritten.placeWrite s v (hpage x List.mem_cons_self)).trans (ih _ fun y hy => hpage y (List.mem_cons_of_mem _ hy))

theorem State.PageWritten.latchBounds (s : State) (P : Nat) : s.PageWritten P s.latchBounds := by
  rw [s.latchBounds_frame]
  exact ⟨rfl, fun _ _ => rfl⟩

theorem State.PageWritten.hostAccess (s : State) (who : Agent) (P : Nat) : s.PageWritten P (s.hostAccess who P) := by
  unfold State.hostAccess
  split
  · exact .perf s P _ _
  · exact .refl P s

/-- Outside TM_SCHED no plain field is one that EXP_CAPACITY is judged by (R344). -/
theorem State.expOver_plainWrite (s : State) {P : Nat} (o v : Nat) (hP : pageBase P ≠ 4151) :
    (s.plainWrite P o v).expOver = s.expOver := by
  obtain ⟨hframe, -⟩ := State.PageWritten.plainWrite s P o v
  refine State.expOver_congr (by rw [hframe]) (by rw [hframe]) (by rw [hframe]) (fun f hf => ?_) (fun p i hp hi => ?_)
  · have hmap : (f, 1) ∈ mapFlds ∧ 0 < f.cnt ∧ (f.acc = .ro ∨ f.page = 4151) := by
      simp only [List.mem_cons, List.not_mem_nil, or_false] at hf
      rcases hf with rfl | rfl | rfl <;> decide +kernel
    obtain ⟨hmap, hcnt, hother⟩ := hmap
    exact State.rfp_plainWrite_other hmap (hother.imp_right fun h => h ▸ Ne.symm hP) (by decide) hcnt
  · have hmap : (TM_FLINK.LINK_STATUS.STATE, 10) ∈ mapFlds := by decide +kernel
    exact State.rfp_plainWrite_other hmap (.inl (by decide)) hp hi

/-- The pages of a kind. -/
theorem pageBase_range {P : Nat} (h : pageAssigned P = true) : ∃ k ∈ pageKinds, pageBase P = k.1 ∧ k.1 ≤ P ∧ P < k.1 + k.2.1 := by
  obtain ⟨k, hkind⟩ := Option.isSome_iff_exists.mp h
  have hk := List.find?_some hkind
  simp only [Bool.and_eq_true, decide_eq_true_eq] at hk
  exact ⟨k, List.mem_of_find?_eq_some hkind, by simp [pageBase, hkind], hk.1, hk.2⟩

/-- The kinds whose registers do nothing but hold settings. -/
def plainKinds : List Nat := [1, 3, 48, 64, 66, 67, 71, 73, 74, 78, 79, 80, 4096, 4097, 4099, 4104, 4108, 4112, 4147]

theorem plainPage_iff {P : Nat} : plainPage P = true ↔ pageBase P ∈ plainKinds := List.contains_iff_mem

/-- The pages of these kinds are none of those that `State.actHost` names, and lie on their kind's side of its bounds. -/
theorem plainKinds_apart : ∀ k ∈ pageKinds, k.1 ∈ plainKinds → ∀ p ∈ List.range k.2.1, k.1 + p ∉ [4098, 4101, 4102, 4105, 4107, 4106] ∧
    k.1 + p < 4160 := by
  decide +kernel

/-- Pages whose registers do nothing but hold settings. -/
theorem State.actWrite_plainPage (s : State) (who : Agent) {P : Nat} (o v : Nat) (hassigned : pageAssigned P = true)
    (hplain : plainPage P = true) : s.actWrite who P o v = none := by
  obtain ⟨k, hk, hbase, hle, hlt⟩ := pageBase_range hassigned
  obtain ⟨hhost, hhigh⟩ := plainKinds_apart k hk (hbase ▸ plainPage_iff.mp hplain) (P - k.1) (List.mem_range.mpr (by omega))
  rw [show k.1 + (P - k.1) = P by omega] at hhost hhigh
  have hnot (b : Nat) (hb : b ∉ plainKinds) : pageBase P ≠ b := fun heq => hb (heq ▸ plainPage_iff.mp hplain)
  unfold State.actWrite
  split
  · unfold State.actFe
    split
    case h_10 => rfl
    all_goals exact absurd ‹pageBase P = _› (hnot _ (by decide))
  split
  · unfold State.actHost
    split
    case h_7 => rfl
    all_goals exact absurd (by decide) hhost
  unfold State.actFabric
  split
  case h_10 => rfl
  all_goals exact absurd ‹pageBase P = _› (hnot _ (by decide))

/-- Of the fields that say a bound is exceeded, neither takes its part of a written word. -/
theorem boundStatus_acc : ∀ f ∈ [TM_GLOBAL.BOUND_STATUS.IG_OVER, TM_GLOBAL.BOUND_STATUS.EG_OVER], (f, 1) ∈ mapFlds ∧ f.acc = .w1c ∧ 0 < f.cnt := by
  decide +kernel

/-- A place that is no bound's field keeps its value when the bounds are judged anew. -/
theorem State.rfp_latchBounds_place (s : State) {P o : Nat} {pl : Place} (hpl : pl ∈ pagePlaces P o)
    (hother : pl.fld.acc ≠ .w1c ∨ P ≠ 4096) :
    s.latchBounds.rfp pl.fld (P - pageBase P) pl.idx = s.rfp pl.fld (P - pageBase P) pl.idx := by
  obtain ⟨k, hk, hbase, hle, hlt, hf, hi, -⟩ := mem_pagePlaces hpl
  have hne : ∀ f ∈ [TM_GLOBAL.BOUND_STATUS.IG_OVER, TM_GLOBAL.BOUND_STATUS.EG_OVER],
      pl.fld.key (P - pageBase P) pl.idx ≠ f.key 0 0 := by
    intro f hmem hkey
    obtain ⟨hmap, hacc, hcnt⟩ := boundStatus_acc f hmem
    have hpage : f.page = 4096 := by
      simp only [List.mem_cons, List.not_mem_nil, or_false] at hmem
      rcases hmem with rfl | rfl <;> rfl
    obtain ⟨hfld, hp, -⟩ := mapFlds_key_inj (mem_mapFlds.mpr ⟨k, hk, hf, rfl⟩) hmap (by omega) (by decide) hi hcnt hkey
    rcases hother with h | h
    · exact h (hfld ▸ hacc)
    · have := fld_page hk hf
      rw [hfld, hpage] at this
      omega
  exact s.rfp_latchBounds (hne _ (by simp)) (hne _ (by simp))

theorem width_of_mem {P o : Nat} {pl : Place} (hpl : pl ∈ pagePlaces P o) (hw : pl.fld.w ≤ 32) : pl.width = pl.fld.w := by
  obtain ⟨k, -, -, -, -, -, -, -, hhi⟩ := mem_pagePlaces hpl
  have hlow : ¬pl.hi = true := fun h => by have := hhi h; omega
  rw [Place.width, if_neg hlow, Nat.min_eq_left hw]

theorem registerStores : Claims.RegisterStores := by
  intro s who P o v hopen hblock hplain hlo hhi halign hv hplaces hlock hbank hgood p
  have hassigned : pageAssigned P = true := by
    simp only [State.headerOpen, Bool.and_eq_true] at hopen
    exact hopen.1.2
  let u := s.hostAccess who P
  have hact : u.actWrite who P o v = none := u.actWrite_plainPage who o v hassigned hplain
  have hbase (b : Nat) (hb : b ∉ plainKinds) : pageBase P ≠ b := fun heq => hb (heq ▸ plainPage_iff.mp hplain)
  have hexec := registerWrites s who P o v hopen hblock hlo hhi halign hv hplaces hlock hbank hgood
    (fun h => hbase 4149 (by decide) (by rw [h.1]; decide +kernel)) (fun h => hbase 4150 (by decide) (by rw [h.1]; decide +kernel)) hact
  rw [State.capCheck_of_expOver (u.expOver_plainWrite o v (hbase 4151 (by decide)))] at hexec
  have hwritten : s.PageWritten P (u.plainWrite P o v).latchBounds :=
    (State.PageWritten.hostAccess s who P).trans ((State.PageWritten.plainWrite u P o v).trans (.latchBounds _ P))
  refine ⟨_, hexec, fun pl hpl hw => ⟨fun hacc => ?_, fun hacc hP hold => ?_⟩, fun g q j hne hig heg => ?_, hwritten.2, hwritten.1⟩
  · obtain ⟨x, -, hx⟩ := State.rfp_plainWrite_mem (s := u) (v := v) hpl hw
    have hsettings : pl.fld.acc ≠ .w1c := by rcases hacc with h | h <;> simp [h]
    rw [State.rfp_latchBounds_place _ hpl (.inl hsettings), hx, x.placeWrite_rw P v pl hacc, State.rfp_perfFld, State.rfp_wfp_same,
      width_of_mem hpl hw, bits_mod]
  · obtain ⟨x, hsame, hx⟩ := State.rfp_plainWrite_mem (s := u) (v := v) hpl hw
    rw [State.rfp_latchBounds_place _ hpl (.inr hP), hx, x.placeWrite_w1c P v pl hacc, State.rfp_wfp_same, width_of_mem hpl hw, hsame,
      s.rfp_hostAccess, Nat.mod_eq_of_lt (Nat.lt_of_le_of_lt (Nat.sub_le _ _) hold)]
  · rw [State.rfp_latchBounds _ hig heg, State.rfp_plainWrite_ne fun pl hpl => .inr (hne pl hpl), s.rfp_hostAccess]

/-- Settles O3. -/
theorem registerWrite : Obligations.RegisterWrite := ⟨registerWrites, registerStores⟩

end Sys2Proof.Machine
end

section
/-! PROOF. Writes of a page's header and BLOCK resets (R29 to R38, R406, R407, R409). -/

namespace Sys2Proof.Machine

/-! ### Masks -/

/-- A mask of the indexes below `n` that satisfy `c`. -/
theorem sumN_mask (c : Nat → Bool) (n : Nat) :
    sumN ((List.range n).map fun i => if c i then 2 ^ i else 0) < 2 ^ n ∧
    ∀ i, i < n → bit (sumN ((List.range n).map fun i => if c i then 2 ^ i else 0)) i = c i := by
  induction n with
  | zero => simp [sumN]
  | succ n ih =>
    obtain ⟨hlt, hbits⟩ := ih
    have hsum : sumN ((List.range (n + 1)).map fun i => if c i then 2 ^ i else 0) =
        sumN ((List.range n).map fun i => if c i then 2 ^ i else 0) + if c n then 2 ^ n else 0 := by
      simp [sumN, List.range_succ]
    rw [hsum]
    generalize sumN ((List.range n).map fun i => if c i then 2 ^ i else 0) = m at *
    cases hc : c n with
    | false =>
      refine ⟨by simp; omega, fun i hi => ?_⟩
      rcases Nat.lt_succ_iff_lt_or_eq.mp hi with hi | rfl
      · simpa using hbits i hi
      · simp [hc, bit, Nat.testBit_lt_two_pow hlt]
    | true =>
      have hor : m + 2 ^ n = 2 ^ n ||| m := by
        rw [Nat.add_comm]
        simpa using Nat.two_pow_add_eq_or_of_lt hlt 1
      refine ⟨by simp; omega, fun i hi => ?_⟩
      rw [if_pos rfl, hor, bit, Nat.testBit_or, Nat.testBit_two_pow]
      rcases Nat.lt_succ_iff_lt_or_eq.mp hi with hi | rfl
      · have hne : n ≠ i := by omega
        simpa [hne, bit] using hbits i hi
      · simp [hc]

/-! ### Writes that reach a page -/

section
variable {s : State} {P : Nat}

theorem State.onBus_of_headerOpen (h : s.headerOpen P = true) (f : State → State) : s.onBus P f = f s := by
  simp only [State.headerOpen, Bool.and_eq_true] at h
  exact s.onBus_on P f (by simp [h.1.1])

theorem State.headerOpen_assigned (h : s.headerOpen P = true) : pageAssigned P = true ∧ P < 8192 := by
  simp only [State.headerOpen, Bool.and_eq_true, decide_eq_true_eq] at h
  exact ⟨h.1.2, h.2⟩

/-- ENABLE takes its value; a link page then judges its links anew, and a controller's page may start training (R29, R359). -/
theorem State.pageEnable_eq (h : s.headerOpen P = true) (en : Bool) : s.pageEnable P en =
    let u := s.updHdr P (fun h => { h with enable := en })
    if en = true ∧ 4136 ≤ P ∧ P < 4146 then (pageLinks P).foldl (fun s n => s.linkEval n) u
    else if en = true ∧ 4160 ≤ P ∧ P < 4176 ∧ s.blockOpen P = true ∧ s.dmcState (P - 4160) = dmcOff ∧ s.density (P - 4160) ≠ 0 then
      u.trainStart (P - 4160)
    else u := by
  obtain ⟨hassigned, hP⟩ := State.headerOpen_assigned h
  have hpage : ¬8192 ≤ P := Nat.not_le_of_lt hP
  unfold State.pageEnable
  rw [if_neg hpage, if_neg (by simp [hassigned])]
  extract_lets u v
  have hfenced : (u.hdr P).fenced = (s.hdr P).fenced := by simp [u]
  have hreset : (u.hdr P).inReset = (s.hdr P).inReset := by simp [u]
  have hopen : u.blockOpen P = s.blockOpen P := by
    rw [State.blockOpen, State.blockOpen, hfenced, hreset]
    rfl
  by_cases hlinks : en = true ∧ 4136 ≤ P ∧ P < 4146
  · obtain ⟨hen, hlo, hhi⟩ := hlinks
    have hdmc : ¬4160 ≤ P := by omega
    have hv : v = u := by simp [v, hdmc]
    simp [hv, hen, hlo, hhi]
  · rw [if_neg (by simpa [and_assoc] using hlinks), if_neg hlinks]
    simp only [v, Bool.and_eq_true, decide_eq_true_eq, and_assoc, ne_eq, hopen]
    by_cases hpage : 4160 ≤ P
    · have hstate : u.dmcState (P - 4160) = s.dmcState (P - 4160) := by
        rw [State.dmcState, State.dmcState, State.fenced, State.fenced, Nat.add_sub_cancel' hpage, hfenced]
        rfl
      rw [hstate]
      rfl
    · rw [if_neg (fun h => hpage h.2.1), if_neg (fun h => hpage h.2.1)]

/-- The bits written 1 clear in the latch, but for those whose condition stands (R31). -/
theorem State.latchClear_eq (h : s.headerOpen P = true) (mask : Nat) : ∃ v, s.latchClear P mask = s.updHdr P (fun h => { h with latch := v }) ∧
    ∀ n, n < 32 → bit v n = (bit (s.hdr P).latch n && (!bit mask n || s.evtRaw P n)) := by
  obtain ⟨hassigned, -⟩ := State.headerOpen_assigned h
  unfold State.latchClear
  rw [if_neg (by simp [hassigned])]
  exact ⟨_, rfl, (sumN_mask (fun n => bit (s.hdr P).latch n && (!bit mask n || s.evtRaw P n)) 32).2⟩

end

theorem pageHeaderCommands : Claims.PageHeaderCommands := by
  intro s P who hopen
  obtain ⟨hassigned, hP⟩ := State.headerOpen_assigned hopen
  have henable (en : Bool) : exec (.pageEnable who P en) s = .next (s.pageEnable P en) :=
    congrArg Host.Outcome.next (State.onBus_of_headerOpen hopen _)
  have hok : ¬(!pageAssigned P) = true := by simp [hassigned]
  refine ⟨?_, fun hpage => ?_, fun hpage => ?_, fun hpage hblock hoff hdense => ?_, fun hpage hno => ?_, fun mask => ?_, ?_, ?_, ?_, ?_, ?_,
    fun k v hk => ⟨?_, ?_⟩⟩
  · rw [henable, State.pageEnable_eq hopen]
    simp
  · rw [henable, State.pageEnable_eq hopen, if_neg (by omega), if_neg (by omega)]
  · rw [henable, State.pageEnable_eq hopen, if_pos ⟨rfl, hpage⟩]
  · rw [henable, State.pageEnable_eq hopen, if_neg (by omega), if_pos ⟨rfl, hpage.1, hpage.2, hblock, hoff, hdense⟩]
  · have hstay : ¬(true = true ∧ 4160 ≤ P ∧ P < 4176 ∧ s.blockOpen P = true ∧ s.dmcState (P - 4160) = dmcOff ∧ s.density (P - 4160) ≠ 0) := by
      rintro ⟨-, -, -, hblock, hoff, hdense⟩
      rcases hno with h | h | h
      · simp [h] at hblock
      · exact h hoff
      · exact hdense h
    rw [henable, State.pageEnable_eq hopen, if_neg (by omega), if_neg hstay]
  · obtain ⟨v, hclear, hbits⟩ := State.latchClear_eq hopen mask
    have hexec : exec (.evtLatchClear P mask) s = .next (s.latchClear P mask) :=
      congrArg Host.Outcome.next (State.onBus_of_headerOpen hopen _)
    refine ⟨_, hexec, ?_⟩
    rw [hclear]
    refine ⟨rfl, fun Q hQ => State.hdr_updHdr_ne _ _ _ _ hQ, ?_, ?_⟩
    · rw [State.hdr_updHdr_same]
    · rw [State.hdr_updHdr_same]
      exact hbits
  · exact congrArg Host.Outcome.next ((State.onBus_of_headerOpen hopen _).trans (if_neg hok))
  · exact congrArg Host.Outcome.next ((State.onBus_of_headerOpen hopen _).trans (if_pos hassigned))
  · exact congrArg Host.Outcome.next ((State.onBus_of_headerOpen hopen _).trans ((if_neg hok).trans (if_pos rfl)))
  · exact congrArg Host.Outcome.next ((State.onBus_of_headerOpen hopen _).trans ((if_neg hok).trans ((if_neg (by decide)).trans (if_pos rfl))))
  · exact congrArg Host.Outcome.next
      ((State.onBus_of_headerOpen hopen _).trans ((if_neg hok).trans ((if_neg (by decide)).trans (if_neg (by decide)))))
  · exact congrArg Host.Outcome.next ((State.onBus_of_headerOpen hopen _).trans (if_neg hok))
  · exact congrArg Host.Outcome.next ((State.onBus_of_headerOpen hopen _).trans (if_neg hok))

/-! ### Forced events -/

/-- The events of EVT_FORCE: each source with free values for what the spec leaves open, and the state after those were taken. -/
def forcedRaises (P : Nat) (ns : List Nat) (q : List Raise × State) : List Raise × State :=
  ns.foldl (fun (a : List Raise × State) n =>
    let (c, s) := a.2.freeVal
    let (d0, s) := s.freeVal
    let (d1, s) := s.freeVal
    (a.1 ++ [(⟨P, n, c, d0, d1⟩ : Raise)], s)) q

/-- One forced event, and the state after its free values were taken. -/
def forcedRaise (P n : Nat) (s : State) : Raise := ⟨P, n, s.freeVal.1, s.freeVal.2.freeVal.1, s.freeVal.2.freeVal.2.freeVal.1⟩

theorem forcedRaises_cons (P n : Nat) (ns : List Nat) (q : List Raise × State) : forcedRaises P (n :: ns) q =
    forcedRaises P ns (q.1 ++ [forcedRaise P n q.2], { q.2 with freeCtr := q.2.freeCtr + 3 }) := rfl

theorem forcedRaises_spec (P : Nat) (ns : List Nat) (q : List Raise × State) : ∃ evs : List Raise,
    forcedRaises P ns q = (q.1 ++ evs, { q.2 with freeCtr := q.2.freeCtr + 3 * evs.length }) ∧ evs.map (·.src) = ns ∧ ∀ e ∈ evs, e.page = P := by
  induction ns generalizing q with
  | nil => exact ⟨[], by simp [forcedRaises], rfl, by simp⟩
  | cons n ns ih =>
    obtain ⟨evs, hfold, hsrc, hpage⟩ := ih (q.1 ++ [forcedRaise P n q.2], { q.2 with freeCtr := q.2.freeCtr + 3 })
    refine ⟨forcedRaise P n q.2 :: evs, ?_, congrArg (n :: ·) hsrc, ?_⟩
    · rw [forcedRaises_cons, hfold]
      simp only [List.append_assoc, List.singleton_append, List.length_cons, Nat.mul_add, Nat.mul_one, Nat.add_assoc, Nat.add_comm 3]
    · intro e he
      rcases List.mem_cons.mp he with rfl | he
      · rfl
      · exact hpage e he

theorem eventForce : Claims.EventForce := by
  intro s P mask hopen hsome
  obtain ⟨hassigned, -⟩ := State.headerOpen_assigned hopen
  obtain ⟨n, hn, hbit, himpl⟩ := hsome
  let ns := (List.range 32).filter (fun n => bit mask n && srcImplemented P n)
  have hne : ¬ns.isEmpty = true := by
    rw [List.isEmpty_iff]
    exact List.ne_nil_of_mem (List.mem_filter.mpr ⟨List.mem_range.mpr hn, by simp [hbit, himpl]⟩)
  obtain ⟨evs, hfold, hsrc, hpage⟩ := forcedRaises_spec P ns ([], s)
  have hforce : s.evtForce P mask = (forcedRaises P ns ([], s)).2.raiseDepth 4 P true (forcedRaises P ns ([], s)).1 :=
    (if_neg (by simp [hassigned])).trans (if_neg hne)
  rw [hfold] at hforce
  exact ⟨evs, congrArg Host.Outcome.next ((State.onBus_of_headerOpen hopen _).trans hforce), hsrc, hpage⟩

/-- Settles O1. -/
theorem pageCommands : Obligations.PageCommands := ⟨pageHeaderCommands, eventForce⟩

/-! ### BLOCK resets -/

theorem State.actWaits_iff (s : State) (P : Nat) (fence : Bool) :
    s.actWaits P fence = true ↔ ∃ a ∈ s.acts, a.page = P ∧ a.fence = fence := by
  simp [State.actWaits]

/-- Settles O2. -/
theorem blockResetCommands : Obligations.BlockResetCommands := by
  intro s P who
  have hexec (hopen : s.headerOpen P = true) : exec (.softReset who P) s = .next (s.softReset P) :=
    congrArg Host.Outcome.next (State.onBus_of_headerOpen hopen _)
  refine ⟨fun hopen hkeep hout hacts => ?_, fun hopen hno => ?_, fun hdie a hfind => ⟨fun hadm => ?_, ?_⟩, fun hdie htrain d hd => ?_⟩
  · obtain ⟨hassigned, -⟩ := State.headerOpen_assigned hopen
    have hwaits : ¬s.actWaits P false = true := fun h => by
      obtain ⟨a, ha, hpage, hfence⟩ := (s.actWaits_iff P false).mp h
      simp [hacts a ha hpage] at hfence
    refine ⟨_, _, rfl, ?_⟩
    rw [hexec hopen, State.softReset, if_neg (by simp [hassigned]), if_neg (by simp [hkeep, hout, hwaits])]
    rfl
  · obtain ⟨hassigned, -⟩ := State.headerOpen_assigned hopen
    have hstop : (softResetDiscarded P || s.inReset P || s.actWaits P false) = true := by
      simpa [← s.actWaits_iff P false, or_assoc] using hno
    rw [hexec hopen, State.softReset, if_neg (by simp [hassigned]), if_pos hstop]
  · have hboth : s.acts.find? (fun a => decide (a.page = P) && a.admitted) = some a := by
      obtain ⟨hpage, before, after, hsplit, hbefore⟩ := List.find?_eq_some_iff_append.mp hfind
      refine List.find?_eq_some_iff_append.mpr ⟨by simp [hpage, hadm], before, after, hsplit, fun x hx => ?_⟩
      have hx' := hbefore x hx
      simp only [Bool.not_eq_true'] at hx' ⊢
      rw [hx', Bool.false_and]
    have hstart : s.markerStart P = s.actStart a := by rw [State.markerStart, hboth]
    exact congrArg Host.Outcome.next ((s.onDie_on P _ hdie).trans hstart)
  · have hlimit : s.markerLimit P = (s.advanceTo a.limit).actStart a := by rw [State.markerLimit, hfind]
    exact congrArg Host.Outcome.next ((s.onDie_on P _ hdie).trans hlimit)
  · have hdone : s.resetDone P = ((s.expired .blockReset P d).updHdr P (fun h => { h with inReset := false })).countLater P := by
      rw [State.resetDone, if_neg (by simpa [and_assoc] using htrain), State.expire_armed _ _ _ _ hd]
      rfl
    exact congrArg Host.Outcome.next ((s.onDie_on P _ hdie).trans hdone)

end Sys2Proof.Machine
end

section
/-! PROOF. Register accesses that are refused, reads with effects, the other address spaces and the management interface (R22, R23, R38,
R39, R43, R44, R414, R463). -/

namespace Sys2Proof.Machine

/-! ### Accesses that are not answered as asked -/

theorem State.blockWrite_empty {s : State} {who : Agent} {P o v : Nat} (h : pagePlaces P o = []) :
    s.blockWrite who P o v = s.accessErr P 2 (P * 4096 + o) v := by
  simp only [State.blockWrite, h, List.isEmpty_nil, if_true]

theorem accessErrors : Claims.AccessErrors := by
  intro s who P o v htm hdie hreach hP ho halign hv hgood u off
  have hstore (width : Nat) (hpos : 1 ≤ width) (hwidth : width ≤ 4) (hv : v < 2 ^ (8 * width)) :=
    State.exec_registerWrite_store who htm hdie hreach hP ho halign hpos hwidth hv hgood
  have hword (hassigned : pageAssigned P = true) : exec (.registerWrite who off 4 v .bar0) s = .next (u.wordStore who P o v false) :=
    (hstore 4 (by decide) (by decide) hv).trans (congrArg Host.Outcome.next (if_pos hassigned))
  refine ⟨fun hassigned hv => ?_, fun hassigned hlo hhi => ?_, fun hassigned hopen hlo hnone => ?_, fun hassigned hopen hlo => ?_,
    fun hassigned => ?_⟩
  · rw [hstore 2 (by decide) (by decide) hv, if_pos hassigned, State.wordStore, if_pos (by decide)]
  · have hblock : ¬o < 0x80 := by omega
    rw [hword hassigned, State.wordStore, if_neg (by decide), if_neg hblock, if_pos hhi]
  · have hblock : ¬o < 0x80 := by omega
    have hhead : ¬o < 0x100 := by omega
    have hopen' : u.blockOpen P = true := (s.hostAccess_blockOpen who P P).trans hopen
    rw [hword hassigned, State.wordStore, if_neg (by decide), if_neg hblock, if_neg hhead, if_neg (by simp [hopen']), State.blockWrite_empty hnone]
  · have hblock : ¬o < 0x80 := by omega
    have hhead : ¬o < 0x100 := by omega
    have hopen' : u.blockOpen P = false := (s.hostAccess_blockOpen who P P).trans hopen
    rw [hword hassigned, State.wordStore, if_neg (by decide), if_neg hblock, if_neg hhead, if_pos (by simp [hopen'])]
  · rw [hstore 4 (by decide) (by decide) hv, if_neg (by simp [hassigned])]
    rfl

/-! ### Reads within one word -/

theorem readParts_aligned (word : State → Nat → Nat × State) (s : State) {off width : Nat} (halign : off % 4 = 0) (hpos : 1 ≤ width)
    (hwidth : width ≤ 4) : readParts word s off width = ((word s off).1 % 2 ^ (8 * width), (word s off).2) := by
  have hone : (off % 4 + width + 3) / 4 = 1 := by omega
  have hoff : off / 4 * 4 = off := by omega
  have hdvd : 2 ^ (8 * width) ∣ 2 ^ 32 := Nat.pow_dvd_pow 2 (by omega)
  rw [readParts, hone, hoff]
  simp only [List.range_one, List.foldl_cons, List.foldl_nil, Nat.mul_zero, Nat.add_zero, List.nil_append, leWords, halign, Nat.pow_zero,
    Nat.div_one, Nat.mod_mod_of_dvd _ hdvd]

/-! ### Reads of counters -/

section
variable {s : State} {P o : Nat}

theorem State.busWord_open (who : Agent) (hopen : s.headerOpen P = true) (ho : o < 4096) (halign : o % 4 = 0)
    (hgood : P < 4096 → s.log.accessBad = none) : s.busWord who (P * 4096 + o) = s.wordRead who P o := by
  simp only [State.headerOpen, Bool.and_eq_true, decide_eq_true_eq] at hopen
  obtain ⟨⟨⟨⟨htm, hdie⟩, hreach⟩, -⟩, hP⟩ := hopen
  obtain ⟨hpage, hoff⟩ := wordAddress hP ho
  have hword : o / 4 * 4 = o := by omega
  have hbad : (if P < 4096 then s.log.accessBad else none) = none := by
    split
    case isTrue h => exact hgood h
    case isFalse => rfl
  unfold State.busWord
  simp only [hpage, hoff, hword, htm, hdie, hreach, Bool.not_true, Bool.or_false, Bool.false_eq_true, if_false, hbad]

/-- The read of a word of block registers by the host. -/
theorem State.hostRead_block (hopen : s.headerOpen P = true) (hblock : s.blockOpen P = true) (hlo : 0x100 ≤ o) (ho : o < 4096)
    (halign : o % 4 = 0) (hgood : P < 4096 → s.log.accessBad = none) :
    s.hostRead (P * 4096 + o) 4 = ((s.hostAccess .host P).blockRead P o).2.emit
      (.readData (((s.hostAccess .host P).blockRead P o).1 % 2 ^ 32)) := by
  have hassigned := (State.headerOpen_assigned hopen).1
  have h1 : ¬o < 0x80 := by omega
  have h2 : ¬o < 0x100 := by omega
  have hopen' := (s.hostAccess_blockOpen .host P P).trans hblock
  have hread : s.wordRead .host P o = (s.hostAccess .host P).blockRead P o := by
    rw [State.wordRead, if_neg (by simp [hassigned]), if_neg h1, if_neg h2, if_neg (by simp [hopen'])]
  rw [State.hostRead, State.busRead, readParts_aligned _ _ (by omega) (by decide) (by decide), State.busWord_open _ hopen ho halign hgood, hread]

/-- A field that the host only reads, and that no other state is shown in, reads as the register file holds it. -/
theorem State.placeVal_ro {u : State} {f : Fld} {i : Nat} (hacc : f.acc = .ro) (hw : f.w = 32 ∨ f.w = 64)
    (hfe : u.derivedFe f (P - pageBase P) i = none) (htm : u.derivedTm f (P - pageBase P) i = none) :
    u.placeVal P ⟨f, i, 0, false⟩ = u.rfp f (P - pageBase P) i % 2 ^ 32 := by
  have hval : (if P < 4096 then u.derivedFe f (P - pageBase P) i else u.derivedTm f (P - pageBase P) i) = none := by
    split <;> assumption
  unfold State.placeVal
  simp only [hacc, hval, Option.getD_none, reduceCtorEq, if_false]
  rcases hw with hw | hw
  · simp [hw]
  · simp [hw, bits]

/-- The read of a word that is one such field. -/
theorem State.blockRead_single {u : State} {f : Fld} {i : Nat} (hplaces : pagePlaces P o = [⟨f, i, 0, false⟩]) (hgate : P ≠ 4154)
    (hspray : P ≠ 4146) (hacc : f.acc = .ro) (hw : f.w = 32 ∨ f.w = 64) (hfe : u.derivedFe f (P - pageBase P) i = none)
    (htm : u.derivedTm f (P - pageBase P) i = none) :
    u.blockRead P o = (u.rfp f (P - pageBase P) i % 2 ^ 32, (u.readLatch P ⟨f, i, 0, false⟩).rearm P o) := by
  unfold State.blockRead
  simp only [hplaces, List.isEmpty_cons, Bool.false_eq_true, if_false, hgate, hspray, decide_false, Bool.false_and, List.map_cons, List.map_nil,
    State.placeVal_ro hacc hw hfe htm, List.foldl_cons, List.foldl_nil, sumN, Nat.pow_zero, Nat.mul_one, Nat.zero_add]

theorem State.readLatch_frame (u : State) (P : Nat) (pl : Place) : u.readLatch P pl = { u with hiLatch := (u.readLatch P pl).hiLatch } := by
  unfold State.readLatch
  dsimp only
  split
  · rfl
  · split <;> rfl

theorem State.rearm_frame (u : State) (P o : Nat) : u.rearm P o = { u with sc := (u.rearm P o).sc, tr := (u.rearm P o).tr } := by
  unfold State.rearm
  split
  · rfl
  split
  · rfl
  split
  · rfl
  split <;> rfl

end

/-- The read of a counter that re-arms its event. -/
theorem State.hostRead_rearm {s : State} {P o : Nat} {f : Fld} (hopen : s.headerOpen P = true) (hblock : s.blockOpen P = true)
    (hlo : 0x100 ≤ o) (ho : o < 4096) (halign : o % 4 = 0) (hgood : P < 4096 → s.log.accessBad = none)
    (hplaces : pagePlaces P o = [⟨f, 0, 0, false⟩]) (hbase : pageBase P = P) (hgate : P ≠ 4154) (hspray : P ≠ 4146) (hacc : f.acc = .ro)
    (hw : f.w = 32 ∨ f.w = 64) (hfe : (s.hostAccess .host P).derivedFe f 0 0 = none) (htm : (s.hostAccess .host P).derivedTm f 0 0 = none) :
    ∃ lat hd, s.hostRead (P * 4096 + o) 4 =
      (({ s with hiLatch := lat, hdrs := hd } : State).rearm P o).emit (.readData (s.rf f % 2 ^ 32)) := by
  have hp : P - pageBase P = 0 := by omega
  rw [State.hostRead_block hopen hblock hlo ho halign hgood,
    State.blockRead_single hplaces hgate hspray hacc hw (by rw [hp]; exact hfe) (by rw [hp]; exact htm), hp, s.rfp_hostAccess, Nat.mod_mod,
    State.readLatch_frame]
  generalize State.hiLatch (State.readLatch _ P _) = lat
  rw [s.hostAccess_frame]
  exact ⟨lat, _, rfl⟩

theorem counterReads : Claims.CounterReads := by
  intro s htm
  have hheader {P : Nat} (hdie : s.dieOn P = true) (hblock : s.blockOpen P = true) (hassigned : pageAssigned P = true) (hP : P < 8192) :
      s.headerOpen P = true := by
    have hreach : s.reachable P = true := by
      simp only [State.blockOpen, Bool.and_eq_true] at hblock
      exact hblock.1.1
    simp [State.headerOpen, htm, hdie, hreach, hassigned, hP]
  have hread (off : Nat) : exec (.counterReadRearm off 4) s = .next (s.hostRead off 4) := congrArg Host.Outcome.next (s.onTm_on _ htm)
  refine ⟨fun P o i f hopen hblock hlo ho halign hgate hspray hgood hplaces hlat hw hacc => ?_, fun hblock => ?_, fun hblock => ?_,
    fun hfeOn hblock hgood => ?_, fun hblock => ?_⟩
  · intro u hfe hder
    have hexec : exec (.counterLoReadLatch (P * 4096 + o) .bar0 4) s = .next (s.hostRead (P * 4096 + o) 4) :=
      congrArg Host.Outcome.next (s.onTm_on _ htm)
    have hval : (if P < 4096 then u.derivedFe f (P - pageBase P) i else u.derivedTm f (P - pageBase P) i) = none := by
      split <;> assumption
    have hlatch : u.readLatch P ⟨f, i, 0, false⟩ =
        { u with hiLatch := SMap.put 0 u.hiLatch (f.key (P - pageBase P) i) (bits (s.rfp f (P - pageBase P) i) 32 32) } := by
      unfold State.readLatch
      simp only [hlat, hval, Bool.not_false, Bool.and_self, if_true, Option.getD_none, u, s.rfp_hostAccess]
    refine ⟨_, hexec, ?_⟩
    rw [State.hostRead_block hopen hblock hlo ho halign hgood, State.blockRead_single hplaces hgate hspray hacc (.inr hw) hfe hder,
      s.rfp_hostAccess, Nat.mod_mod, hlatch, State.rearm_frame]
    generalize State.sc (State.rearm _ P o) = x
    generalize State.tr (State.rearm _ P o) = y
    rw [show u = _ from s.hostAccess_frame .host P]
    exact ⟨rfl, SMap.get_put_same _ _ _ _, rfl⟩
  · obtain ⟨lat, hd, hhost⟩ := State.hostRead_rearm (s := s) (P := 4156) (o := 0x120) (f := TM_SAMPLE.SAMPLE_DROP.COUNT)
      (hheader htm hblock (by decide +kernel) (by decide)) hblock (by decide) (by decide) (by decide) (fun h => absurd h (by decide)) (by decide +kernel)
      (by decide +kernel) (by decide) (by decide) (by decide) (by decide) rfl rfl
    exact ⟨_, (hread _).trans (congrArg Host.Outcome.next hhost), rfl, rfl, rfl⟩
  · obtain ⟨lat, hd, hhost⟩ := State.hostRead_rearm (s := s) (P := 4148) (o := TM_CHAN.STALE_DROP.COUNT.off) (f := TM_CHAN.STALE_DROP.COUNT)
      (hheader htm hblock (by decide +kernel) (by decide)) hblock (by decide) (by decide) (by decide) (fun h => absurd h (by decide)) (by decide +kernel)
      (by decide +kernel) (by decide) (by decide) (by decide) (by decide) rfl rfl
    exact ⟨_, (hread _).trans (congrArg Host.Outcome.next hhost), rfl, rfl, rfl⟩
  · obtain ⟨lat, hd, hhost⟩ := State.hostRead_rearm (s := s) (P := 77) (o := FE_TRACE.TRACE_DROP.COUNT.off) (f := FE_TRACE.TRACE_DROP.COUNT)
      (hheader hfeOn hblock (by decide +kernel) (by decide)) hblock (by decide) (by decide) (by decide) (fun _ => hgood) (by decide +kernel)
      (by decide +kernel) (by decide) (by decide) (by decide) (by decide) rfl rfl
    exact ⟨_, (hread _).trans (congrArg Host.Outcome.next hhost), rfl, rfl, rfl⟩
  · obtain ⟨lat, hd, hhost⟩ := State.hostRead_rearm (s := s) (P := 4178) (o := TM_PERF.TRACE_DROP.COUNT.off) (f := TM_PERF.TRACE_DROP.COUNT)
      (hheader htm hblock (by decide +kernel) (by decide)) hblock (by decide) (by decide) (by decide) (fun h => absurd h (by decide)) (by decide +kernel)
      (by decide +kernel) (by decide) (by decide) (by decide) (by decide) rfl rfl
    exact ⟨_, (hread _).trans (congrArg Host.Outcome.next hhost), rfl, rfl, rfl⟩

/-! ### BAR4 and configuration space -/

theorem State.exec_bar4Read {s : State} (htm : s.tmOn = true) {off : Nat} (halign : off % 4 = 0) (hoff : off < 2 ^ 20) :
    exec (.counterLoReadLatch off .bar4 4) s = .next (s.emit (.readData (s.bar4Word off % 2 ^ 32))) := by
  have hexec : exec (.counterLoReadLatch off .bar4 4) s = .next (s.bar4Read off 4) := congrArg Host.Outcome.next (s.onTm_on _ htm)
  rw [hexec, State.bar4Read, Nat.mod_eq_of_lt hoff, readParts_aligned _ _ halign (by decide) (by decide)]

theorem State.exec_cfgRead {s : State} (htm : s.tmOn = true) (off width : Nat) :
    exec (.counterLoReadLatch off .config width) s = .next (s.cfgRead off width) := congrArg Host.Outcome.next (s.onTm_on _ htm)

theorem bar4Of_sqTail {off : Nat} (hlt : off < 0x40000) (hrow : off % 4096 = 0) : bar4Of off = .sqTail (off / 4096) := by
  rw [bar4Of, if_pos hlt, if_pos hrow]

theorem bar4Of_cqHead {off : Nat} (hlt : off < 0x40000) (hrow : off % 4096 = 4) : bar4Of off = .cqHead (off / 4096) := by
  rw [bar4Of, if_pos hlt, if_neg (by omega), if_pos hrow]

/-- The identity and the revision of configuration space (R39, R513). -/
theorem State.cfgWord_identity (s : State) : s.cfgWord 0 = 0x51201F7B := by
  unfold State.cfgWord
  split
  case h_1 => rfl
  all_goals contradiction

theorem State.cfgWord_revision (s : State) : s.cfgWord 8 = 0x028000B0 := by
  unfold State.cfgWord
  split
  case h_3 => rfl
  all_goals contradiction

theorem bar4Of_reserved {off : Nat} (h : 0x88100 ≤ off) : bar4Of off = .reserved := by
  have h1 : ¬off < 0x40000 := by omega
  have h2 : ¬off < 0x80000 := by omega
  have h3 : ¬off < 0x88000 := by omega
  have h4 : ¬off < 0x88100 := by omega
  rw [bar4Of, if_neg h1, if_neg h2, if_neg h3, if_neg h4]

theorem otherSpaces : Claims.OtherSpaces := by
  intro s who htm
  refine ⟨fun n hn => ⟨?_, ?_⟩, fun off v hlo hhi halign hv => ⟨?_, ?_⟩, fun hserves => ⟨?_, ?_, ?_⟩, fun hserves off width v => ⟨?_, ?_⟩⟩
  · have hrow : n * 0x1000 / 4096 = n := by omega
    rw [State.exec_bar4Read htm (by omega) (by omega), State.bar4Word, bar4Of_sqTail (by omega) (by omega), hrow]
  · have hrow : (n * 0x1000 + 4) / 4096 = n := by omega
    rw [State.exec_bar4Read htm (by omega) (by omega), State.bar4Word, bar4Of_cqHead (by omega) (by omega), hrow]
  · rw [State.exec_bar4Read htm halign hhi, State.bar4Word, bar4Of_reserved hlo]
    rfl
  · have hexec : exec (.registerWrite who off 4 v .bar4) s = .next (s.bar4Write off 4 v) := congrArg Host.Outcome.next (s.onTm_on _ htm)
    rw [hexec, State.bar4Write, Nat.mod_eq_of_lt hhi, busParts_aligned _ _ _ halign (by decide) (by decide) hv]
    have hword : off / 4 * 4 = off := by omega
    simp only [List.foldl_cons, List.foldl_nil, State.bar4Store, hword, bar4Of_reserved hlo]
  · rw [State.exec_cfgRead htm, State.cfgRead, if_pos hserves, readParts_aligned _ _ (by decide) (by decide) (by decide)]
    simp only [Nat.zero_mod, s.cfgWord_identity]
    rfl
  · rw [State.exec_cfgRead htm, State.cfgRead, if_pos hserves]
    simp only [readParts, Nat.reduceMod, Nat.reduceDiv, Nat.reduceAdd, Nat.reduceMul, List.range_one, List.foldl_cons, List.foldl_nil,
      List.nil_append, s.cfgWord_identity]
    rfl
  · rw [State.exec_cfgRead htm, State.cfgRead, if_pos hserves, readParts_aligned _ _ (by decide) (by decide) (by decide)]
    simp only [Nat.reduceMod, s.cfgWord_revision]
    rfl
  · rw [State.exec_cfgRead htm, State.cfgRead, if_neg (by simp [hserves])]
  · have hexec : exec (.registerWrite who off width v .config) s = .next (s.cfgWrite off width v) := congrArg Host.Outcome.next (s.onTm_on _ htm)
    rw [hexec, State.cfgWrite, if_neg (by simp [hserves])]

/-! ### The management interface -/

theorem mgmtRegisters : Claims.MgmtRegisters := by
  intro s hrst
  have hwrite (v : Nat) (pec : Bool) : exec (.mgmtRegWrite v pec) s = .next (if s.mgmtServes then
      s.mgmtWrite 0x12 pec (fun s => s.busWrite .host s.pw.regAddr 4 v) else s.mgmtNack) :=
    congrArg Host.Outcome.next (s.onAon_on _ hrst)
  have hread : exec .mgmtRegRead s = .next (if s.mgmtServes then
      (s.busRead .host s.pw.regAddr 4).2.emit (.mgmt (toLe 4 (s.busRead .host s.pw.regAddr 4).1)) else s.mgmtNack) :=
    congrArg Host.Outcome.next (s.onAon_on _ hrst)
  refine ⟨fun hserves v pec => ⟨?_, ?_⟩, fun hserves => ?_, fun hserves v pec hpec => ?_, fun hserves v hpec => ?_⟩
  · rw [hwrite, hserves]
    rfl
  · rw [hread, hserves]
    rfl
  · rw [hread, if_pos hserves]
  · rw [hwrite, if_pos hserves, State.mgmtWrite, if_neg]
    rcases hpec with h | h <;> simp [h]
  · rw [hwrite, if_pos hserves, State.mgmtWrite, if_pos (by simp [hpec])]

/-- Settles O5. -/
theorem registerAccess : Obligations.RegisterAccess := ⟨accessErrors, counterReads, otherSpaces, mgmtRegisters⟩

end Sys2Proof.Machine
end

section
/-! PROOF. The PCI Express link, host resets, MSI-X and coalescing (R40 to R45, R70). -/

namespace Sys2Proof.Machine

/-! ### A packet's departure leaves the host's command state -/

theorem State.Raised.hc {s t : State} (h : s.Raised t) : t.hc = s.hc := by rw [h.rest]; rfl

@[simp] theorem State.raise_hc (s : State) (e : Evt) (p cause d0 d1 : Nat) : (s.raise e p cause d0 d1).hc = s.hc :=
  (State.Raised.raise s e p cause d0 d1).hc

@[simp] theorem State.raiseO_hc (s : State) (e : Evt) (p : Nat) (cause d0 d1 : Option Nat) : (s.raiseO e p cause d0 d1).hc = s.hc :=
  (State.Raised.raiseO s e p cause d0 d1).hc

@[simp] theorem State.sat_hc (s : State) (f : Fld) (p i n : Nat) : (s.sat f p i n).hc = s.hc := by rw [State.sat_frame]

@[simp] theorem State.showDdr_hc (s : State) : s.showDdr.hc = s.hc := by simp [State.showDdr, apply_ite State.hc]

@[simp] theorem State.causeFire_hc (s : State) (n : Nat) : (s.causeFire n).hc = s.hc := by simp [State.causeFire, apply_ite State.hc]

@[simp] theorem State.coalesce_hc (s : State) (n count us : Nat) : (s.coalesce n count us).hc = s.hc := by
  simp [State.coalesce, apply_ite State.hc]

@[simp] theorem State.post_hc (s : State) (bad : Bool) (addr : Nat) (data : Bytes) : (s.post bad addr data).2.hc = s.hc := by
  simp [State.post, apply_ite Prod.snd, apply_ite State.hc]

@[simp] theorem State.injBack_hc (s : State) (c addr ph status : Nat) : (s.injBack c addr ph status).hc = s.hc := by
  simp [State.injBack, apply_ite State.hc]

@[simp] theorem State.injDone_hc (s : State) (p : Pkt) (status : Nat) : (s.injDone p status).hc = s.hc := by
  unfold State.injDone
  split <;> simp

@[simp] theorem State.retireUnit_hc (s : State) (u : Nat) : (s.retireUnit u).hc = s.hc := by
  simp [State.retireUnit, apply_ite State.hc]

theorem State.foldl_hc {α : Type} {g : State → α → State} (hg : ∀ (s : State) a, (g s a).hc = s.hc) (l : List α) (s : State) :
    (l.foldl g s).hc = s.hc := by
  induction l generalizing s with
  | nil => rfl
  | cons a l ih => rw [List.foldl_cons, ih, hg]

@[simp] theorem State.ddrRelease_hc (s : State) (us : List Nat) : (s.ddrRelease us).hc = s.hc := by
  unfold State.ddrRelease
  split
  · rfl
  · dsimp only
    rw [State.showDdr_hc, State.foldl_hc]
    intro u a
    split <;> simp

@[simp] theorem State.freeUnits_hc (s : State) (p : Pkt) : (s.freeUnits p).hc = s.hc := by
  unfold State.freeUnits
  split
  · rfl
  · split
    · rfl
    · simp [apply_ite State.hc]

@[simp] theorem State.departCount_hc (s : State) (b : Bool) : (s.departCount b).hc = s.hc := by
  simp [State.departCount, apply_ite State.hc]

@[simp] theorem State.departPkt_hc (s : State) (p : Pkt) : (s.departPkt p).hc = s.hc := by
  simp [State.departPkt, State.removePkt, apply_ite State.hc]

@[simp] theorem State.tracePush_hc (s : State) (tm : Bool) (v : Nat) : (s.tracePush tm v).hc = s.hc := by
  unfold State.tracePush
  have hinc (f : Fld) (p i n : Nat) : (s.inc f p i n).hc = s.hc := by rw [State.inc_frame]
  simp [State.sat1, apply_ite State.hc, hinc]

@[simp] theorem State.dropPkt_hc (s : State) (p : Pkt) : (s.dropPkt p).hc = s.hc := by
  have hcount (u : State) (q n : Nat) : (u.countDrop q n).hc = u.hc := by
    simp [State.countDrop, State.countQ, apply_ite State.hc]
  unfold State.dropPkt
  simp only [State.departPkt_hc, State.traceHalf, apply_ite State.hc, State.tracePush_hc, ite_self]
  split
  · exact hcount s _ _
  · split
    · exact hcount s _ _
    · rfl
  · split
    · exact hcount s _ _
    · rfl
  · rfl
  · rfl

@[simp] theorem State.dropAll_hc (s : State) (ps : List Pkt) : (s.dropAll ps).hc = s.hc :=
  State.foldl_hc (fun u p => u.dropPkt_hc _) ps s

@[simp] theorem State.dropHostQueues_hc (s : State) : s.dropHostQueues.hc = s.hc := by
  unfold State.dropHostQueues
  generalize List.range 64 = l
  exact State.foldl_hc (fun u c => by simp) l s

/-! ### The link and its resets -/

/-- The command state once the host interface has lost its commands: those begun go on as orphans. -/
def HostCmd.lost (h : HostCmd) : HostCmd :=
  { h with cmds := (h.cmds.filter (fun c => decide (c.phase = .begun))).map (fun c => { c with orphan := true }), turn := 0,
           sqTail := [], cqHead := [] }

theorem State.loseCommands_hc (s : State) : s.loseCommands.hc = s.hc.lost := by
  rw [State.loseCommands]
  simp only [State.sat_hc]
  rfl

theorem State.foldl_resetBlockRegs_hc (s : State) (Ps : List Nat) (keep : Nat → Bool) :
    (Ps.foldl (fun s P => s.resetBlockRegs P keep) s).hc = s.hc :=
  State.foldl_hc (g := fun s P => s.resetBlockRegs P keep) (fun _ _ => rfl) Ps s

/-- A reset of the host interface with its pages at their reset values, its commands lost and its queues dropped. -/
def State.hostLost (s : State) : State :=
  let keep := fun key => decide (key = TM_HCMD.HCMD_STATUS.LOST_CPL.key 0 0)
  let s : State := [4104, 4105, 4106, 4107].foldl (fun s P => s.resetBlockRegs P keep) s
  ((s.loseCommands).dropHostQueues).clearIrq

theorem State.hostLost_hc (s : State) : s.hostLost.hc = s.hc.lost := by
  have hirq (x : State) : x.clearIrq.hc = x.hc := rfl
  rw [State.hostLost, hirq, State.dropHostQueues_hc, State.loseCommands_hc, State.foldl_resetBlockRegs_hc]

/-- The command state after a reset of the host interface. -/
def HostCmd.cleared (h : HostCmd) : HostCmd :=
  { h with bme := false, d3hot := false, pci := { PciFn.reset with subsys := h.pci.subsys, boardRead := h.pci.boardRead } }

/-- The state of a reset of the host interface, before a function-level reset shows the link again. -/
def State.hostCleared (s : State) : State :=
  { s.hostLost with irq := Irq.mk false false [] [], tm := { s.hostLost.tm with dmaHeld := [] }, hc := s.hostLost.hc.cleared }

theorem State.hostInterfaceReset_eq (s : State) (k : HostResetKind) : s.hostInterfaceReset k =
    if k = .flr then
      (((s.hostCleared.wf TM_PCIE.LINK_STATUS.SPEED (s.rf TM_PCIE.LINK_STATUS.SPEED)).wf TM_PCIE.LINK_STATUS.WIDTH
        (s.rf TM_PCIE.LINK_STATUS.WIDTH)).wf TM_PCIE.LINK_STATUS.FLIT (s.rf TM_PCIE.LINK_STATUS.FLIT)).wf TM_PCIE.LINK_STATUS.LINK_UP
        (s.rf TM_PCIE.LINK_STATUS.LINK_UP)
    else s.hostCleared := by
  unfold State.hostInterfaceReset State.hostCleared State.hostLost
  dsimp only
  generalize State.clearIrq (State.dropHostQueues _) = v
  rfl

theorem hostLink : Claims.HostLink := by
  intro s hphy
  refine ⟨fun speed width flit hlo hhi hwidth => ⟨_, rfl, ?_⟩, ⟨s.pcieLinkDown, ?_, rfl, ?_, ?_, ?_, ?_, ?_⟩, fun kind => ?_⟩
  · have hlegal : (1 ≤ speed && speed ≤ 6 && [1, 2, 4, 8, 16].contains width : Bool) = true := by simpa [hlo, hhi] using hwidth
    exact congrArg Host.Outcome.next (by rw [State.onPhy, if_pos hphy, State.pcieLinkTrained, if_pos hlegal])
  · exact congrArg Host.Outcome.next (if_pos hphy)
  · simp (disch := decide) [State.pcieLinkDown, State.rf_get, regGet_regPut_ne]
  · simp (disch := decide) [State.pcieLinkDown, State.rf_get, regGet_regPut_ne]
  · simp (disch := decide) [State.pcieLinkDown, State.rf_get, regGet_regPut_ne]
  · simp (disch := decide) [State.pcieLinkDown, State.rf_get, regGet_regPut_ne]
  · simp (disch := decide) [State.pcieLinkDown, State.canPost, State.rfb_get, regGet_regPut_ne]
  · have hexec : exec (.hostInterfaceReset kind) s = .next (s.hostInterfaceReset kind) := congrArg Host.Outcome.next (if_pos hphy)
    have hframe : (s.hostInterfaceReset kind).hc = s.hostCleared.hc ∧ (s.hostInterfaceReset kind).irq = s.hostCleared.irq ∧
        (s.hostInterfaceReset kind).tm = s.hostCleared.tm ∧ (s.hostInterfaceReset kind).hp = s.hostCleared.hp := by
      rw [s.hostInterfaceReset_eq]
      split <;> exact ⟨rfl, rfl, rfl, rfl⟩
    obtain ⟨hhc, hirq, htm, hhp⟩ := hframe
    have hcleared : s.hostCleared.hc = s.hc.lost.cleared := by rw [State.hostCleared, s.hostLost_hc]
    refine ⟨_, hexec, ?_⟩
    rw [hhc, hirq, htm, hhp, hcleared]
    refine ⟨rfl, rfl, rfl, rfl, rfl, rfl, rfl, fun c hc => ?_, rfl, rfl, fun hkind => ?_⟩
    · simp only [HostCmd.cleared, HostCmd.lost, List.mem_map, List.mem_filter, decide_eq_true_eq] at hc
      obtain ⟨x, ⟨-, hx⟩, rfl⟩ := hc
      exact ⟨rfl, hx⟩
    · rw [s.hostInterfaceReset_eq, if_pos hkind]
      exact State.rf_wf_same _ _ _

/-! ### MSI-X -/

theorem causeFires : Claims.CauseFires := by
  intro s n
  refine ⟨fun hidle => ?_, fun hen hpend => ⟨fun hfree => ?_, fun hblocked => ?_⟩, fun d htm hd => ?_⟩
  · rw [State.causeFire, if_pos (by simpa using hidle)]
  · rw [State.causeFire, if_neg (by simp [hen, hpend])]
    simp [hfree]
  · have hfire : s.causeFire n = { s.wfi TM_MSIX.CAUSE_MAP.PEND n 1 with irq :=
        { s.irq with vecs := SMap.upd MsixVec.reset s.irq.vecs (s.rfi TM_MSIX.CAUSE_MAP.VECTOR n) (fun x => { x with pba := true }) } } := by
      rw [State.causeFire, if_neg (by simp [hen, hpend])]
      simp [hblocked]
    rw [hfire]
    refine ⟨State.rfi_wfi_same s _ n 1, rfl, ?_⟩
    exact congrArg MsixVec.pba (SMap.get_put_same _ _ _ _)
  · show execCoalTimerExpire n s = _
    rw [execCoalTimerExpire, if_neg (by simp [htm]), State.expire_armed _ _ _ _ hd]
    rfl

/-! ### Causes that wait -/

/-- A cause waits in PEND and nothing blocks its vector. -/
def State.causeFree (s : State) (n : Nat) : Bool :=
  decide (s.rfi TM_MSIX.CAUSE_MAP.PEND n = 1) && !s.irqBlocked (s.rfi TM_MSIX.CAUSE_MAP.VECTOR n)

/-- The message of a waiting cause that nothing blocks. -/
def State.sendOne (s : State) (n : Nat) : State :=
  if s.causeFree n then
    (if s.rfi TM_MSIX.CAUSE_MAP.ENABLE n = 1 then
      (s.wfi TM_MSIX.CAUSE_MAP.PEND n 0).emit (.msix (s.rfi TM_MSIX.CAUSE_MAP.VECTOR n))
     else s.wfi TM_MSIX.CAUSE_MAP.PEND n 0)
  else s

theorem State.sendHeld_eq (s : State) (ns : List Nat) : s.sendHeld ns = ns.foldl State.sendOne s := rfl

/-- The messages of the causes of a list. -/
def State.messages (s : State) (ns : List Nat) : List Out :=
  (ns.filter (fun n => s.causeFree n && decide (s.rfi TM_MSIX.CAUSE_MAP.ENABLE n = 1))).map
    (fun n => Out.msix (s.rfi TM_MSIX.CAUSE_MAP.VECTOR n))

theorem causeMap_mem : (TM_MSIX.CAUSE_MAP.PEND, 1) ∈ mapFlds ∧ (TM_MSIX.CAUSE_MAP.VECTOR, 1) ∈ mapFlds ∧
    (TM_MSIX.CAUSE_MAP.ENABLE, 1) ∈ mapFlds := by
  decide +kernel

theorem State.rfi_wfi_pend_ne (s : State) {f : Fld} {n m v : Nat} (hf : f = TM_MSIX.CAUSE_MAP.VECTOR ∨ f = TM_MSIX.CAUSE_MAP.ENABLE ∨
    f = TM_MSIX.CAUSE_MAP.PEND ∧ m ≠ n) (hn : n < 768) (hm : m < 768) : (s.wfi TM_MSIX.CAUSE_MAP.PEND n v).rfi f m = s.rfi f m := by
  obtain ⟨hpend, hvector, henable⟩ := causeMap_mem
  refine State.rfp_wfp_ne _ _ _ _ _ _ _ _ fun hkey => ?_
  rcases hf with rfl | rfl | ⟨rfl, hne⟩
  · exact absurd (mapFlds_key_inj hvector hpend (by decide) (by decide) hm hn hkey).1 (by decide)
  · exact absurd (mapFlds_key_inj henable hpend (by decide) (by decide) hm hn hkey).1 (by decide)
  · exact hne (mapFlds_key_inj hpend hpend (by decide) (by decide) hm hn hkey).2.2

theorem State.sendOne_frame (s : State) (n : Nat) :
    s.sendOne n = { s with regs := (s.sendOne n).regs, out := s.messages [n] ++ s.out } := by
  unfold State.sendOne State.messages
  cases hfree : s.causeFree n with
  | false => simp [hfree]
  | true =>
    by_cases hen : s.rfi TM_MSIX.CAUSE_MAP.ENABLE n = 1
    · simp [hfree, hen]
      rfl
    · simp [hfree, hen]
      rfl

theorem State.rfi_sendOne (s : State) {n : Nat} (hn : n < 768) {f : Fld} {m : Nat} (hf : f = TM_MSIX.CAUSE_MAP.VECTOR ∨
    f = TM_MSIX.CAUSE_MAP.ENABLE ∨ f = TM_MSIX.CAUSE_MAP.PEND ∧ m ≠ n) (hm : m < 768) : (s.sendOne n).rfi f m = s.rfi f m := by
  have hw := s.rfi_wfi_pend_ne (v := 0) hf hn hm
  rw [State.sendOne]
  split
  · split
    · exact hw
    · exact hw
  · rfl

theorem State.sendOne_pend (s : State) (n : Nat) : (s.sendOne n).rfi TM_MSIX.CAUSE_MAP.PEND n =
    if s.causeFree n then 0 else s.rfi TM_MSIX.CAUSE_MAP.PEND n := by
  have hclear : (s.wfi TM_MSIX.CAUSE_MAP.PEND n 0).rfi TM_MSIX.CAUSE_MAP.PEND n = 0 := State.rfi_wfi_same s _ n 0
  rw [State.sendOne]
  split
  · split
    · exact hclear
    · exact hclear
  · rfl

/-- A cause's message leaves the other causes as they were. -/
theorem State.causeFree_sendOne (s : State) {n m : Nat} (hn : n < 768) (hm : m < 768) (hne : m ≠ n) :
    (s.sendOne n).causeFree m = s.causeFree m := by
  have hblocked (v : Nat) : (s.sendOne n).irqBlocked v = s.irqBlocked v := by
    rw [s.sendOne_frame]
    rfl
  rw [State.causeFree, State.causeFree, s.rfi_sendOne hn (.inr (.inr ⟨rfl, hne⟩)) hm, s.rfi_sendOne hn (.inl rfl) hm, hblocked]

theorem State.sendHeld_spec (ns : List Nat) (s : State) (hnodup : ns.Nodup) (hlt : ∀ n ∈ ns, n < 768) :
    s.sendHeld ns = { s with regs := (s.sendHeld ns).regs, out := (s.messages ns).reverse ++ s.out } ∧
    ∀ m, m < 768 → (s.sendHeld ns).rfi TM_MSIX.CAUSE_MAP.PEND m =
      if m ∈ ns ∧ s.causeFree m = true then 0 else s.rfi TM_MSIX.CAUSE_MAP.PEND m := by
  rw [State.sendHeld_eq]
  induction ns generalizing s with
  | nil => exact ⟨rfl, fun m _ => by simp⟩
  | cons n ns ih =>
    obtain ⟨hout, hnodup⟩ := List.nodup_cons.mp hnodup
    have hn := hlt n List.mem_cons_self
    have hne : ∀ m ∈ ns, m ≠ n := fun m hm e => hout (e ▸ hm)
    obtain ⟨hframe, hpend⟩ := ih (s.sendOne n) hnodup fun m hm => hlt m (List.mem_cons_of_mem _ hm)
    have hmsgs : (s.sendOne n).messages ns = s.messages ns := by
      have hall : ∀ m ∈ ns, (s.sendOne n).causeFree m = s.causeFree m ∧
          (s.sendOne n).rfi TM_MSIX.CAUSE_MAP.ENABLE m = s.rfi TM_MSIX.CAUSE_MAP.ENABLE m ∧
          (s.sendOne n).rfi TM_MSIX.CAUSE_MAP.VECTOR m = s.rfi TM_MSIX.CAUSE_MAP.VECTOR m := fun m hm =>
        have hm768 := hlt m (List.mem_cons_of_mem _ hm)
        ⟨s.causeFree_sendOne hn hm768 (hne m hm), s.rfi_sendOne hn (.inr (.inl rfl)) hm768, s.rfi_sendOne hn (.inl rfl) hm768⟩
      rw [State.messages, State.messages, List.filter_congr fun m hm => by rw [(hall m hm).1, (hall m hm).2.1]]
      exact List.map_congr_left fun m hm => by rw [(hall m (List.mem_of_mem_filter hm)).2.2]
    have hsplit : s.messages (n :: ns) = s.messages [n] ++ s.messages ns := by
      simp only [State.messages, List.filter_cons, List.filter_nil]
      split <;> rfl
    have hshort : (s.messages [n]).reverse = s.messages [n] := by
      simp only [State.messages, List.filter_cons, List.filter_nil]
      split <;> rfl
    rw [List.foldl_cons]
    refine ⟨?_, fun m hm => ?_⟩
    · rw [hframe, hmsgs, s.sendOne_frame, hsplit, List.reverse_append, hshort, List.append_assoc]
    · rw [hpend m hm]
      by_cases hmn : m = n
      · subst hmn
        simp [hout, s.sendOne_pend]
      · simp [hmn, s.causeFree_sendOne hn hm hmn, s.rfi_sendOne hn (.inr (.inr ⟨rfl, hmn⟩)) hm]

/-- What MSI-X leaves when what blocks its vectors has changed (R70): from `u` to `t`, for the causes of a list. -/
structure State.Sent (ns : List Nat) (u t : State) : Prop where
  frame : t = { u with irq := t.irq, regs := t.regs, out := t.out }
  enable : t.irq.enable = u.irq.enable
  fnMask : t.irq.fnMask = u.irq.fnMask
  coal : t.irq.coal = u.irq.coal
  pend : ∀ n, n < 768 → t.rfi TM_MSIX.CAUSE_MAP.PEND n = if n ∈ ns ∧ u.causeFree n = true then 0 else u.rfi TM_MSIX.CAUSE_MAP.PEND n
  out : t.out = (u.messages ns).reverse ++ u.out

theorem State.settlePba_frame (s : State) : ∃ vecs, s.settlePba = { s with irq := { s.irq with vecs := vecs } } := ⟨_, rfl⟩

theorem State.sent_settled (u : State) {ns : List Nat} (hnodup : ns.Nodup) (hlt : ∀ n ∈ ns, n < 768) :
    u.Sent ns (u.sendHeld ns).settlePba := by
  obtain ⟨hframe, hpend⟩ := State.sendHeld_spec ns u hnodup hlt
  generalize u.sendHeld ns = x at hframe hpend
  obtain ⟨vecs, hvecs⟩ := x.settlePba_frame
  rw [hvecs]
  have hreads (n : Nat) : ({ x with irq := { x.irq with vecs := vecs } } : State).rfi TM_MSIX.CAUSE_MAP.PEND n =
      x.rfi TM_MSIX.CAUSE_MAP.PEND n := rfl
  refine ⟨?_, ?_, ?_, ?_, fun n hn => (hreads n).trans (hpend n hn), ?_⟩ <;> rw [hframe]

theorem interrupts : Claims.Interrupts := by
  intro s free sent
  have hsent (u : State) (hregs : u.regs = s.regs) (hout : u.out = s.out) : sent u u.sendPending := by
    have hread (f : Fld) (n : Nat) : u.rfi f n = s.rfi f n := by rw [State.rfi_get, State.rfi_get, hregs]
    have hfree (n : Nat) : u.causeFree n = free u n := by simp only [State.causeFree, hread, free]
    have hsettled : u.Sent (List.range 768) u.sendPending := u.sent_settled List.nodup_range fun n hn => List.mem_range.mp hn
    obtain ⟨hframe, hen, hmask, hcoal, hpend, hmsgs⟩ := hsettled
    refine ⟨hframe, hen, hmask, hcoal, fun n hn => ?_, ?_⟩
    · rw [hpend n hn, hread]
      simp only [List.mem_range, hn, true_and, hfree]
    · rw [hmsgs, hout]
      simp only [State.messages, hfree, hread]
  refine ⟨fun hphy d3 bme => ?_, fun htm en fm => ?_, fun htm v a d m hv => ?_⟩
  · have hexec : exec (.pciePowerState d3 bme) s = .next (({ s with hc := { s.hc with d3hot := d3, bme := bme } } : State).sendPending) :=
      congrArg Host.Outcome.next (if_pos hphy)
    have h := hsent { s with hc := { s.hc with d3hot := d3, bme := bme } } rfl rfl
    generalize State.sendPending _ = t at hexec h
    exact ⟨t, hexec, by rw [h.1], by rw [h.1], h⟩
  · have hexec : exec (.msixUnblock (.control en fm)) s = .next (({ s with irq := { s.irq with enable := en, fnMask := fm } } : State).sendPending) :=
      if_neg (by simp [htm])
    have h := hsent { s with irq := { s.irq with enable := en, fnMask := fm } } rfl rfl
    generalize State.sendPending _ = t at hexec h
    exact ⟨t, hexec, h.2.1, h.2.2.1, h⟩
  · have hexec : exec (.msixUnblock (.vector v a d m)) s = .next (({ s with irq := { s.irq with vecs := SMap.upd MsixVec.reset s.irq.vecs v (fun x =>
        { x with addr := a % 2 ^ 64, data := d % 2 ^ 32, masked := m }) } } : State).sendPending) :=
      (if_neg (by simp [htm])).trans (if_pos hv)
    exact ⟨_, hexec, hsent _ rfl rfl⟩

/-- Settles O6. -/
theorem hostInterrupts : Obligations.HostInterrupts := ⟨hostLink, interrupts, causeFires⟩

end Sys2Proof.Machine
end

section
/-! SUPPORT. Bit fields of a word, and sibling fields of one register array. -/

namespace Sys2Proof.Machine

/-! ### Bit fields -/

theorem bits_testBit (v lo w j : Nat) : (bits v lo w).testBit j = (decide (j < w) && v.testBit (lo + j)) := by
  simp [bits, Nat.testBit_mod_two_pow, Nat.testBit_shiftRight]

theorem setBits_eq (v lo w x : Nat) : setBits v lo w x = 2 ^ lo * (2 ^ w * (v / 2 ^ lo / 2 ^ w) + x % 2 ^ w) + v % 2 ^ lo := by
  have hlow := Nat.div_add_mod v (2 ^ lo)
  have hmid := Nat.div_add_mod (v / 2 ^ lo) (2 ^ w)
  rw [setBits, bits, Nat.shiftRight_eq_div_pow]
  generalize v / 2 ^ lo = u at hlow hmid ⊢
  rw [Nat.mul_comm (u % 2 ^ w), Nat.mul_comm (x % 2 ^ w), Nat.mul_add]
  rw [← hmid, Nat.mul_add] at hlow
  omega

theorem setBits_testBit (v lo w x j : Nat) :
    (setBits v lo w x).testBit j = if lo ≤ j ∧ j < lo + w then x.testBit (j - lo) else v.testBit j := by
  rw [setBits_eq, Nat.testBit_two_pow_mul_add _ (Nat.mod_lt _ (Nat.two_pow_pos lo))]
  by_cases hlow : j < lo
  · simp [hlow, Nat.testBit_mod_two_pow]
  · rw [if_neg hlow, Nat.testBit_two_pow_mul_add _ (Nat.mod_lt _ (Nat.two_pow_pos w))]
    by_cases hmid : j - lo < w
    · rw [if_pos hmid, if_pos (by omega), Nat.testBit_mod_two_pow, decide_eq_true hmid, Bool.true_and]
    · rw [if_neg hmid, if_neg (by omega), Nat.testBit_div_two_pow, Nat.testBit_div_two_pow]
      congr 1
      omega

@[simp] theorem bits_setBits_same (v lo w x : Nat) : bits (setBits v lo w x) lo w = x % 2 ^ w := by
  refine Nat.eq_of_testBit_eq fun j => ?_
  rw [bits_testBit, setBits_testBit, Nat.testBit_mod_two_pow]
  by_cases hj : j < w <;> simp [hj]

theorem bits_setBits_apart (v x : Nat) {lo w l n : Nat} (h : l + n ≤ lo ∨ lo + w ≤ l) : bits (setBits v lo w x) l n = bits v l n := by
  refine Nat.eq_of_testBit_eq fun j => ?_
  rw [bits_testBit, bits_testBit, setBits_testBit]
  by_cases hj : j < n
  · rw [if_neg (by omega)]
  · simp [hj]

theorem bits_setBit_apart (v : Nat) (b : Bool) {k l n : Nat} (h : l + n ≤ k ∨ k + 1 ≤ l) : bits (setBit v k b) l n = bits v l n :=
  bits_setBits_apart v _ h

@[simp] theorem bit_setBit_same (v k : Nat) (b : Bool) : bit (setBit v k b) k = b := by
  rw [bit, setBit, setBits_testBit, if_pos (by omega)]
  cases b <;> simp [b2n]

theorem bit_setBit_apart (v : Nat) (b : Bool) {k l : Nat} (h : l ≠ k) : bit (setBit v k b) l = bit v l := by
  rw [bit, setBit, setBits_testBit, if_neg (by omega), bit]

theorem bits_lt (v lo w : Nat) : bits v lo w < 2 ^ w := Nat.mod_lt _ (Nat.two_pow_pos w)

theorem bits_mod_two_pow (v : Nat) {lo w n : Nat} (h : lo + w ≤ n) : bits (v % 2 ^ n) lo w = bits v lo w := by
  refine Nat.eq_of_testBit_eq fun j => ?_
  rw [bits_testBit, bits_testBit, Nat.testBit_mod_two_pow]
  by_cases hj : j < w
  · rw [decide_eq_true (by omega : lo + j < n), Bool.true_and]
  · simp [hj]

/-! ### Sibling fields -/

/-- Two fields of one register array, at different places of each register. -/
def Fld.siblings (f g : Fld) : Bool :=
  decide (f.page = g.page) && decide (f.stride = g.stride) && decide (f.per = g.per) && decide (f.bs = g.bs) &&
    decide (f.off * 8 + f.lo ≠ g.off * 8 + g.lo)

theorem Fld.key_ne_of_siblings {f g : Fld} (h : f.siblings g = true) (p i : Nat) : f.key p i ≠ g.key p i := by
  simp only [Fld.siblings, Bool.and_eq_true, decide_eq_true_eq] at h
  obtain ⟨⟨⟨⟨hpage, hstride⟩, hper⟩, hbs⟩, hplace⟩ := h
  simp only [Fld.key, hpage, hstride, hper, hbs]
  omega

/-- A sibling written leaves a field. -/
theorem regGet_regPut_sibling (m : SMap Nat) {f g : Fld} (p i v : Nat) (h : g.siblings f = true) :
    regGet (regPut m f p i v) g p i = regGet m g p i :=
  regGet_regPut_ne m v (Fld.key_ne_of_siblings h p i)

/-! ### Windows: a register array filled word by word -/

/-- A register file with the first `n` elements of a field written. -/
def regFill (m : SMap Nat) (f : Fld) (n : Nat) (g : Nat → Nat) : SMap Nat := (List.range n).foldl (fun m k => regPut m f 0 k (g k)) m

theorem regFill_succ (m : SMap Nat) (f : Fld) (n : Nat) (g : Nat → Nat) :
    regFill m f (n + 1) g = regPut (regFill m f n g) f 0 n (g n) := by
  simp [regFill, List.range_succ]

theorem regGet_regFill_ne (m : SMap Nat) {f g : Fld} {p i n : Nat} (v : Nat → Nat) (h : ∀ k < n, g.key p i ≠ f.key 0 k) :
    regGet (regFill m f n v) g p i = regGet m g p i := by
  induction n with
  | zero => rfl
  | succ n ih =>
    rw [regFill_succ, regGet_regPut_ne _ _ (h n (by omega))]
    exact ih fun k hk => h k (by omega)

/-- The elements of a register array with one field to a register stand at places of their own. -/
theorem Fld.key_inj_of_stride {f : Fld} (hper : f.per = 1) (hstride : 0 < f.stride) {p i j : Nat} (h : f.key p i = f.key p j) : i = j := by
  simp only [Fld.key, hper, Nat.div_one, Nat.mod_one] at h
  exact Nat.eq_of_mul_eq_mul_left hstride (by omega)

theorem regGet_regFill_same (m : SMap Nat) {f : Fld} {n k : Nat} (v : Nat → Nat) (hper : f.per = 1) (hstride : 0 < f.stride) (hk : k < n) :
    regGet (regFill m f n v) f 0 k = v k % 2 ^ f.w := by
  induction n with
  | zero => omega
  | succ n ih =>
    rw [regFill_succ]
    by_cases hkn : k = n
    · rw [hkn, regGet_regPut_same]
    · rw [regGet_regPut_ne _ _ (fun h => hkn (Fld.key_inj_of_stride hper hstride h)), ih (by omega)]

/-- A register array filled from a part of the state that holds no registers. -/
theorem State.foldl_wfi_fill (s : State) (f : Fld) (n : Nat) (g : State → Nat → Nat) (hg : ∀ r k, g { s with regs := r } k = g s k) :
    (List.range n).foldl (fun s k => s.wfi f k (g s k)) s = { s with regs := regFill s.regs f n (g s) } := by
  induction n with
  | zero => rfl
  | succ n ih =>
    rw [List.range_succ, List.foldl_append, ih, List.foldl_cons, List.foldl_nil, regFill_succ, hg]
    rfl

/-! ### What a field written leaves -/

theorem State.wfp_frame (s : State) (f : Fld) (p i v : Nat) : s.wfp f p i v = { s with regs := regPut s.regs f p i v } := rfl

theorem State.wf_frame (s : State) (f : Fld) (v : Nat) : s.wf f v = { s with regs := regPut s.regs f 0 0 v } := rfl

theorem State.wfi_frame (s : State) (f : Fld) (i v : Nat) : s.wfi f i v = { s with regs := regPut s.regs f 0 i v } := rfl

/-! ### What a timer's start and stop leave -/

theorem State.disarm_frame (s : State) (k : TimerKind) (i : Nat) : s.disarm k i = { s with timers := timerDrop s.timers k i } := rfl

theorem State.armAt_frame (s : State) (k : TimerKind) (i d : Nat) : s.armAt k i d = { s with timers := timerPut s.timers k i d } := rfl

theorem State.arm_frame (s : State) (k : TimerKind) (i n : Nat) :
    s.arm k i n = { s with timers := timerPut s.timers k i (s.cycle + n) } := rfl

/-! ### Commands taken up and timers run out -/

/-- A command that may start, of an operation the predicate admits, is the one taken up. -/
theorem State.startable_some {s : State} {id : Nat} {c : Cmd} {p : Nat → Bool} (hc : s.cmd id = some c) (hmay : s.mayStart c = true)
    (hp : p c.opcode = true) : s.startable id p = some c := by
  simp [State.startable, hc, hmay, hp]

theorem State.expire_expired {s : State} {k : TimerKind} {i d : Nat} (h : s.timerAt k i = some d) :
    s.expire k i = some (s.expired k i d) := s.expire_armed k i d h

/-- A timer that ran out leaves everything but the clock, device time, the page counters and the timers. -/
theorem State.expired_frame (s : State) (k : TimerKind) (i d : Nat) :
    s.expired k i d = { s with cycle := (s.expired k i d).cycle, time := (s.expired k i d).time, hdrs := (s.expired k i d).hdrs,
                               timers := timerDrop s.timers k i } := rfl

end Sys2Proof.Machine
end

section
/-! PROOF. Doorbells, ring enables and punt delivery (R44 to R47, R51, R61 to R64). -/

namespace Sys2Proof.Machine

/-! ### Doorbells -/

theorem doorbells : Claims.Doorbells := by
  intro s n width v htm hn hw
  have hn' : ¬64 ≤ n := by omega
  have hw' : ¬width < 4 := by omega
  have hsq (w : Nat) : exec (.sqTailDoorbell n w v) s = .next (s.sqTailWrite n w v) := congrArg Host.Outcome.next (s.onTm_on _ htm)
  have hcq (w : Nat) : exec (.cqHeadDoorbell n w v) s = .next (s.cqHeadWrite n w v) := congrArg Host.Outcome.next (s.onTm_on _ htm)
  have hpunt (w : Nat) : exec (.puntTailDoorbell n w v) s = .next (s.puntTailWrite n w v) :=
    congrArg Host.Outcome.next (s.onTm_on _ htm)
  have hinj (w : Nat) : exec (.injectTailDoorbell n w v) s = .next (s.injTailWrite n w v) :=
    congrArg Host.Outcome.next (s.onTm_on _ htm)
  refine ⟨fun hr hv => ?_, fun hr hv => ?_, fun hr hv => ?_, fun hr hv => ?_, fun hr hv => ?_, fun hr hv => ?_, fun hr hv => ?_,
    fun hr hv => ?_, fun w hlt => ⟨fun hr => ⟨?_, ?_⟩, fun hr => ⟨?_, ?_⟩⟩⟩
  · simp [hsq, State.sqTailWrite, hn', hr, hw', tailInRange, hv, -Nat.reducePow]
  · simp [hsq, State.sqTailWrite, hn', hr, hw', tailInRange, hv, -Nat.reducePow]
  · simp [hcq, State.cqHeadWrite, hn', hr, hw', hv, -Nat.reducePow]
  · simp [hcq, State.cqHeadWrite, hn', hr, hw', hv, -Nat.reducePow]
  · simp [hpunt, State.puntTailWrite, hn', hr, hw', tailInRange, hv, -Nat.reducePow]
  · simp [hpunt, State.puntTailWrite, hn', hr, hw', tailInRange, hv, -Nat.reducePow]
  · simp [hinj, State.injTailWrite, hn', hr, hw', tailInRange, hv, -Nat.reducePow]
  · simp [hinj, State.injTailWrite, hn', hr, hw', tailInRange, hv, -Nat.reducePow]
  · simp [hsq, State.sqTailWrite, hn', hr, hlt]
  · simp [hcq, State.cqHeadWrite, hn', hr, hlt]
  · simp [hpunt, State.puntTailWrite, hn', hr, hlt]
  · simp [hinj, State.injTailWrite, hn', hr, hlt]

/-! ### Ring enables -/

/-- The state in which an idle command ring is enabled, empty, at entry 0 and phase 1. -/
def State.ringOpened (s : State) (n log mx : Nat) : State :=
  let s := (s.wfi TM_HCMD.RING_CTRL.LOG2_SIZE n log).wfi TM_HCMD.RING_CTRL.MAX_INFLIGHT n mx
  let s := (s.wfi TM_HCMD.RING_STATUS.SQ_HEAD n 0).wfi TM_HCMD.CQ_STATUS.CQ_TAIL n 0
  let s := (s.wfi TM_HCMD.CQ_STATUS.CQ_PHASE n 1).wfi TM_HCMD.RING_STATUS.ERROR n 0
  let s := { s with hc := { s.hc with sqTail := SMap.put 0 s.hc.sqTail n 0, cqHead := SMap.put 0 s.hc.cqHead n 0 } }
  s.wfi TM_HCMD.RING_CTRL.ENABLE n 1

section
variable (s : State) {n v : Nat} (hopen : s.blockOpen 4105 = true) (hn : n < 64)
include hopen hn

theorem State.ringCtrlWrite_opened (hidle : s.ringActive n = false) (hen : bit v 4 = true) (hlo : 6 ≤ bits v 0 4)
    (hhi : bits v 0 4 ≤ 12) (hmin : 1 ≤ bits v 8 12) (hmax : bits v 8 12 ≤ 2048) : s.ringCtrlWrite n v = s.ringOpened n (bits v 0 4) (bits v 8 12) := by
  have h1 : ¬bits v 0 4 < 6 := by omega
  have h2 : ¬12 < bits v 0 4 := by omega
  have h3 : ¬bits v 8 12 = 0 := by omega
  have h4 : ¬2048 < bits v 8 12 := by omega
  have hn' : ¬64 ≤ n := by omega
  simp [State.ringCtrlWrite, hopen, hn', hidle, hen, h1, h2, h3, h4, State.ringOpened]

theorem State.ringCtrlWrite_refused (hen : bit v 4 = true)
    (hbad : s.ringActive n = true ∨ bits v 0 4 < 6 ∨ 12 < bits v 0 4 ∨ bits v 8 12 = 0 ∨ 2048 < bits v 8 12) :
    s.ringCtrlWrite n v = ((if s.ringActive n then s else s.wfi TM_HCMD.RING_CTRL.LOG2_SIZE n (bits v 0 4)).wfi
      TM_HCMD.RING_CTRL.MAX_INFLIGHT n (bits v 8 12)).raiseO Ev.TM_HCMD.BAD_CONFIG 0 none none none := by
  have hn' : ¬64 ≤ n := by omega
  have hcond : (s.ringActive n || decide (bits v 0 4 < 6) || decide (12 < bits v 0 4) || decide (bits v 8 12 = 0) ||
      decide (2048 < bits v 8 12)) = true := by
    simpa [or_assoc] using hbad
  simp only [State.ringCtrlWrite, hopen, hn', hen, hcond]
  simp
  split <;> simp_all

theorem State.ringCtrlWrite_closed (hen : bit v 4 = false)
    (hsame : s.ringActive n = true → bits v 0 4 = s.rfi TM_HCMD.RING_CTRL.LOG2_SIZE n) :
    s.ringCtrlWrite n v = ((if s.ringActive n then s else s.wfi TM_HCMD.RING_CTRL.LOG2_SIZE n (bits v 0 4)).wfi
      TM_HCMD.RING_CTRL.MAX_INFLIGHT n (bits v 8 12)).wfi TM_HCMD.RING_CTRL.ENABLE n 0 := by
  have hn' : ¬64 ≤ n := by omega
  have hkept : ¬(s.ringActive n = true ∧ ¬bits v 0 4 = s.rfi TM_HCMD.RING_CTRL.LOG2_SIZE n) := fun h => h.2 (hsame h.1)
  simp [State.ringCtrlWrite, hopen, hn', hen, hkept]

end

/-! ### Packet channel rings, punt (`inj = false`) and inject -/

/-- A packet channel's ring goes on: it is enabled, or a packet of it is on its way. -/
def State.chanActive (s : State) (inj : Bool) (c : Nat) : Bool :=
  decide (s.rfi (if inj then TM_HPKT.INJ_CTRL.ENABLE else TM_HPKT.PUNT_CTRL.ENABLE) c = 1) || (inj && s.injInflight c)

/-- The settings that a write of a channel's control register takes. -/
def State.chanSettings (s : State) (inj : Bool) (c v : Nat) : State :=
  ((if s.chanActive inj c then s
    else s.wfi (if inj then TM_HPKT.INJ_CTRL.LOG2_SIZE else TM_HPKT.PUNT_CTRL.LOG2_SIZE) c (bits v 0 4)).wfi
    (if inj then TM_HPKT.INJ_CTRL.COAL_COUNT else TM_HPKT.PUNT_CTRL.COAL_COUNT) c (bits v 8 8)).wfi
    (if inj then TM_HPKT.INJ_CTRL.COAL_TIME_US else TM_HPKT.PUNT_CTRL.COAL_TIME_US) c (bits v 16 16)

/-- The host packet state with a channel's ring emptied and going. -/
def HostPkt.ringOpened (hp : HostPkt) (inj : Bool) (c : Nat) : HostPkt :=
  let hp := if inj then { hp with injTail := SMap.put 0 hp.injTail c 0 } else { hp with puntTail := SMap.put 0 hp.puntTail c 0 }
  { hp with stopped := SMap.put false hp.stopped (if inj then 64 + c else c) false }

/-- The state in which an idle channel's ring is enabled, empty, at entry 0 and phase 1. -/
def State.chanOpened (s : State) (inj : Bool) (c : Nat) : State :=
  let s := s.wfi (if inj then TM_HPKT.INJ_STATUS.HEAD else TM_HPKT.PUNT_STATUS.HEAD) c 0
  let s := s.wfi (if inj then TM_HPKT.INJ_STATUS.PHASE else TM_HPKT.PUNT_STATUS.PHASE) c 1
  ({ s with hp := s.hp.ringOpened inj c }).wfi (if inj then TM_HPKT.INJ_CTRL.ENABLE else TM_HPKT.PUNT_CTRL.ENABLE) c 1

section
variable (s : State) {c v : Nat} (inj : Bool) (hopen : s.blockOpen 4106 = true) (hc : c < 64)
include hopen hc

theorem State.chanCtrlWrite_opened (hidle : s.chanActive inj c = false) (hen : bit v 4 = true) (hlo : 6 ≤ bits v 0 4)
    (hhi : bits v 0 4 ≤ 12) : s.chanCtrlWrite inj c v = (s.chanSettings inj c v).chanOpened inj c := by
  have h1 : ¬bits v 0 4 < 6 := by omega
  have h2 : ¬12 < bits v 0 4 := by omega
  have hc' : ¬64 ≤ c := by omega
  rw [State.chanActive] at hidle
  simp [State.chanCtrlWrite, hopen, hc', hidle, hen, h1, h2, State.chanSettings, State.chanActive, State.chanOpened, HostPkt.ringOpened]

theorem State.chanCtrlWrite_refused (hen : bit v 4 = true)
    (hbad : s.chanActive inj c = true ∨ bits v 0 4 < 6 ∨ 12 < bits v 0 4) :
    s.chanCtrlWrite inj c v = (s.chanSettings inj c v).raiseO Ev.TM_HPKT.BAD_CONFIG 0 none none none := by
  have hc' : ¬64 ≤ c := by omega
  have hcond : (s.chanActive inj c || decide (bits v 0 4 < 6) || decide (12 < bits v 0 4)) = true := by
    simpa [or_assoc] using hbad
  unfold State.chanSettings
  rw [State.chanActive] at hcond ⊢
  simp only [State.chanCtrlWrite, hopen, hc', hen, hcond]
  simp
  split <;> simp_all

theorem State.chanCtrlWrite_closed (hen : bit v 4 = false)
    (hsame : s.chanActive inj c = true →
      bits v 0 4 = s.rfi (if inj then TM_HPKT.INJ_CTRL.LOG2_SIZE else TM_HPKT.PUNT_CTRL.LOG2_SIZE) c) :
    s.chanCtrlWrite inj c v = (s.chanSettings inj c v).wfi (if inj then TM_HPKT.INJ_CTRL.ENABLE else TM_HPKT.PUNT_CTRL.ENABLE) c 0 := by
  have hc' : ¬64 ≤ c := by omega
  have hkept : (s.chanActive inj c &&
      decide (bits v 0 4 ≠ s.rfi (if inj then TM_HPKT.INJ_CTRL.LOG2_SIZE else TM_HPKT.PUNT_CTRL.LOG2_SIZE) c)) = false := by
    cases h : s.chanActive inj c
    · rfl
    · simp [hsame h]
  unfold State.chanSettings
  rw [State.chanActive] at hkept ⊢
  simp only [State.chanCtrlWrite, hopen, hc', hen, hkept]
  simp

end

theorem State.chanSettings_frame (s : State) (inj : Bool) (c v : Nat) :
    s.chanSettings inj c v = { s with regs := (s.chanSettings inj c v).regs } := by
  unfold State.chanSettings
  split <;> rfl

/-- What a command ring's control and status registers hold once it has been enabled, and its indices. -/
structure State.RingOpened (s t : State) (n log mx : Nat) : Prop where
  enable : t.rfi TM_HCMD.RING_CTRL.ENABLE n = 1
  log2 : t.rfi TM_HCMD.RING_CTRL.LOG2_SIZE n = log
  inflight : t.rfi TM_HCMD.RING_CTRL.MAX_INFLIGHT n = mx
  sqHead : t.rfi TM_HCMD.RING_STATUS.SQ_HEAD n = 0
  cqTail : t.rfi TM_HCMD.CQ_STATUS.CQ_TAIL n = 0
  phase : t.rfi TM_HCMD.CQ_STATUS.CQ_PHASE n = 1
  error : t.rfi TM_HCMD.RING_STATUS.ERROR n = 0
  sqTail : t.sqTail n = 0
  cqHead : t.cqHead n = 0
  frame : t = { s with regs := t.regs, hc := t.hc }
  cmds : t.hc.cmds = s.hc.cmds

theorem State.ringOpened_spec (s : State) (n log mx : Nat) : s.RingOpened (s.ringOpened n log mx) n (log % 2 ^ 4) (mx % 2 ^ 12) := by
  constructor
  case frame => simp only [State.ringOpened, State.wfi_frame]
  case cmds => rfl
  case sqTail => simp [State.ringOpened, State.sqTail, SMap.get_put_same]
  case cqHead => simp [State.ringOpened, State.cqHead, SMap.get_put_same]
  all_goals
    simp (disch := decide) only [State.ringOpened, State.rfi_get, State.wfi_regs, regGet_regPut_sibling, regGet_regPut_same]
    rfl

/-- What a packet channel's registers hold once its ring has been enabled. -/
structure State.ChanOpened (s t : State) (inj : Bool) (c log : Nat) : Prop where
  enable : t.rfi (if inj then TM_HPKT.INJ_CTRL.ENABLE else TM_HPKT.PUNT_CTRL.ENABLE) c = 1
  log2 : t.rfi (if inj then TM_HPKT.INJ_CTRL.LOG2_SIZE else TM_HPKT.PUNT_CTRL.LOG2_SIZE) c = log
  head : t.rfi (if inj then TM_HPKT.INJ_STATUS.HEAD else TM_HPKT.PUNT_STATUS.HEAD) c = 0
  phase : t.rfi (if inj then TM_HPKT.INJ_STATUS.PHASE else TM_HPKT.PUNT_STATUS.PHASE) c = 1
  tail : SMap.get 0 (if inj then t.hp.injTail else t.hp.puntTail) c = 0
  frame : t = { s with regs := t.regs, hp := t.hp }

theorem State.chanOpened_spec (s : State) (inj : Bool) (c v : Nat) (hidle : s.chanActive inj c = false) :
    s.ChanOpened ((s.chanSettings inj c v).chanOpened inj c) inj c (bits v 0 4) := by
  have hlog := bits_mod v 0 4
  generalize hs : s.chanSettings inj c v = u
  rw [State.chanSettings, hidle] at hs
  have hframe : u = { s with regs := u.regs } := by
    rw [← hs]
    rfl
  constructor
  case frame =>
    rw [hframe]
    simp only [State.chanOpened, State.wfi_frame]
  case tail =>
    cases inj <;> simp [State.chanOpened, HostPkt.ringOpened, SMap.get_put_same]
  case log2 =>
    subst hs
    cases inj <;> simp (disch := decide) only [State.chanOpened, State.rfi_get, State.wfi_regs, regGet_regPut_sibling,
      regGet_regPut_same, if_true, if_false, Bool.false_eq_true] <;> exact hlog
  all_goals
    cases inj <;>
      simp (disch := decide) only [State.chanOpened, State.rfi_get, State.wfi_regs, regGet_regPut_sibling, regGet_regPut_same,
        if_true, if_false, Bool.false_eq_true]
    all_goals rfl

theorem ringControl : Claims.RingControl := by
  intro s n ctrl htm hn
  have hlog (b : Bool) : bits (setBit ctrl 4 b) 0 4 = bits ctrl 0 4 := bits_setBit_apart _ _ (by omega)
  have hmx (b : Bool) : bits (setBit ctrl 4 b) 8 12 = bits ctrl 8 12 := bits_setBit_apart _ _ (by omega)
  have hcount (b : Bool) : bits (setBit ctrl 4 b) 8 8 = bits ctrl 8 8 := bits_setBit_apart _ _ (by omega)
  have htime (b : Bool) : bits (setBit ctrl 4 b) 16 16 = bits ctrl 16 16 := bits_setBit_apart _ _ (by omega)
  have hon (r : RingId) : exec (.ringEnable r ctrl) s = .next (s.anyRingCtrl r (setBit ctrl 4 true)) :=
    congrArg Host.Outcome.next (s.onTm_on _ htm)
  have hoff (r : RingId) : exec (.ringDisable r ctrl) s = .next (s.anyRingCtrl r (setBit ctrl 4 false)) :=
    congrArg Host.Outcome.next (s.onTm_on _ htm)
  refine ⟨fun ho hidle h1 h2 h3 h4 => ?_, ?_, ?_, ?_, ?_, ?_, ?_, ?_⟩
  · rw [← hlog true] at h1 h2 ⊢
    rw [← hmx true] at h3 h4 ⊢
    have hopened := s.ringOpened_spec n (bits (setBit ctrl 4 true) 0 4) (bits (setBit ctrl 4 true) 8 12)
    rw [bits_mod, bits_mod] at hopened
    have heq : s.anyRingCtrl (.cmd n) (setBit ctrl 4 true) =
        s.ringOpened n (bits (setBit ctrl 4 true) 0 4) (bits (setBit ctrl 4 true) 8 12) :=
      s.ringCtrlWrite_opened ho hn hidle (bit_setBit_same _ _ _) h1 h2 h3 h4
    rw [hon, heq]
    exact ⟨_, rfl, hopened.enable, hopened.log2, hopened.inflight, hopened.sqHead, hopened.cqTail, hopened.phase, hopened.error,
      hopened.sqTail, hopened.cqHead, hopened.frame, hopened.cmds⟩
  · intro ho log mx hbad
    rw [hon]
    have heq := s.ringCtrlWrite_refused (v := setBit ctrl 4 true) ho hn (bit_setBit_same _ _ _) (by rwa [hlog, hmx])
    rw [hlog, hmx] at heq
    exact congrArg Host.Outcome.next heq
  · intro ho
    dsimp only
    rw [hon, hon]
    have heq (inj : Bool) := s.chanCtrlWrite_refused (v := setBit ctrl 4 true) inj ho hn (bit_setBit_same _ _ _)
    simp only [State.chanSettings, State.chanActive, hlog, hcount, htime] at heq
    refine ⟨fun hbad => congrArg Host.Outcome.next ((heq false ?_).trans ?_),
      fun hbad => congrArg Host.Outcome.next ((heq true ?_).trans ?_)⟩
    · simpa using hbad
    · simp
    · simpa [or_assoc] using hbad
    · simp
  · intro ho hidle h1 h2
    rw [← hlog true] at h1 h2 ⊢
    have hstill : s.chanActive false n = false := by simpa [State.chanActive] using hidle
    have hopened := s.chanOpened_spec false n (setBit ctrl 4 true) hstill
    rw [hon, show s.anyRingCtrl (.punt n) (setBit ctrl 4 true) = _ from s.chanCtrlWrite_opened false ho hn hstill (by simp) h1 h2]
    exact ⟨_, rfl, hopened.enable, hopened.log2, hopened.head, hopened.phase, hopened.tail, hopened.frame⟩
  · intro ho hidle hempty h1 h2
    rw [← hlog true] at h1 h2 ⊢
    have hstill : s.chanActive true n = false := by simpa [State.chanActive, hempty] using hidle
    have hopened := s.chanOpened_spec true n (setBit ctrl 4 true) hstill
    rw [hon, show s.anyRingCtrl (.inject n) (setBit ctrl 4 true) = _ from s.chanCtrlWrite_opened true ho hn hstill (by simp) h1 h2]
    exact ⟨_, rfl, hopened.enable, hopened.log2, hopened.head, hopened.phase, hopened.tail, hopened.frame⟩
  · intro ho hsame
    rw [← hlog false] at hsame
    rw [hoff, show s.anyRingCtrl (.cmd n) (setBit ctrl 4 false) = _ from s.ringCtrlWrite_closed ho hn (by simp) hsame]
    refine ⟨_, rfl, State.rfp_wfp_same _ _ _ _ _, ?_⟩
    split <;> rfl
  · intro ho hsame
    rw [← hlog false] at hsame
    rw [hoff, show s.anyRingCtrl (.punt n) (setBit ctrl 4 false) = _ from
      s.chanCtrlWrite_closed false ho hn (by simp) (by simpa [State.chanActive] using hsame)]
    refine ⟨_, rfl, State.rfp_wfp_same _ _ _ _ _, ?_⟩
    conv_lhs => rw [State.chanSettings_frame]
    rfl
  · intro ho hsame
    rw [← hlog false] at hsame
    rw [hoff, show s.anyRingCtrl (.inject n) (setBit ctrl 4 false) = _ from
      s.chanCtrlWrite_closed true ho hn (by simp) (by simpa [State.chanActive] using hsame)]
    refine ⟨_, rfl, State.rfp_wfp_same _ _ _ _ _, ?_⟩
    conv_lhs => rw [State.chanSettings_frame]
    rfl

/-! ### Punt delivery -/

theorem State.puntWriteBack_ok (s : State) (c len status : Nat) (hpost : s.canPost = true) :
    (s.puntWriteBack c len status false).1 = true := by
  simp [State.puntWriteBack, State.post, hpost]

theorem puntDelivery : Claims.PuntDelivery := by
  intro s c p htm hc hd3 hfetch hop hhead hwhole
  have hexec (desc : ReadResult) (bad back : Bool) : exec (.puntDeliver c desc bad back) s = .next (s.puntDeliver c desc bad back) :=
    congrArg Host.Outcome.next (s.onTm_on _ htm)
  have hc' : ¬64 ≤ c := by omega
  refine ⟨?_, ?_, ?_⟩
  · intro d hgood husable hpost h1 h2 h3
    obtain ⟨hen, hgoing, hbuf⟩ := husable
    intro size trunc body u
    have hsize : ¬(decide (size < 256) || decide (16384 < size) || decide (size % 64 ≠ 0)) = true := by
      simp only [Bool.or_eq_true, decide_eq_true_eq]
      omega
    have hput (addr : Nat) (data : Bytes) : s.postPkt false addr data =
        (true, s.emit (.packetWrite addr data (bit s.hc.pci.devCtl 4) (bit s.hc.pci.devCtl 11))) := by
      simp [State.postPkt, hpost]
    have hback : (State.puntWriteBack (s.emit (.packetWrite (le64 d 0 / 64 * 64) body (bit s.hc.pci.devCtl 4) (bit s.hc.pci.devCtl 11)))
        c body.length (if trunc then 1 else 0) false) = (true, u) := Prod.ext (State.puntWriteBack_ok _ _ _ _ hpost) rfl
    rw [hexec, State.puntDeliver, if_neg (by simp [hc', hd3, hfetch, hop]), hhead]
    refine congrArg Host.Outcome.next ?_
    simp only [hwhole, hgood, hen, hgoing, hbuf, hput, decide_false, Bool.or_self, Bool.not_true, Bool.false_eq_true, if_false]
    exact (if_neg hsize).trans (if_pos (congrArg Prod.fst hback))
  · intro bad back hgood husable
    obtain ⟨hen, hgoing, hbuf⟩ := husable
    rw [hexec]
    simp [State.puntDeliver, hc', hd3, hfetch, hop, hhead, hwhole, hgood, hen, hgoing, hbuf, State.puntDrop]
  · intro desc bad back hnone
    rw [hexec]
    have hnone' : (p.bad || (decide (s.rfi TM_HPKT.PUNT_CTRL.ENABLE c = 0) || SMap.get false s.hp.stopped c ||
        decide (s.rfi TM_HPKT.PUNT_STATUS.HEAD c = SMap.get 0 s.hp.puntTail c))) = true := by
      simpa [or_assoc] using hnone
    simp [State.puntDeliver, hc', hd3, hfetch, hop, hhead, hwhole, hnone', State.puntDrop]

/-- Settles O7. -/
theorem hostRings : Obligations.HostRings := ⟨doorbells, ringControl, puntDelivery⟩

end Sys2Proof.Machine
end

section
/-! PROOF. EPOCH_STATUS, the stage limit and the registers of a flip (R74, R81, R82, R88 to R90, R98). -/

namespace Sys2Proof.Machine

theorem epochStatus : Claims.EpochStatus := by
  intro s htm
  refine ⟨fun id c hc hmay hop => ?_, fun d id prev htimer hstage => ?_, fun u prev step => ⟨fun hstep => ?_, fun hstep => ?_⟩⟩
  · have hstart : s.startable id (fun op => decide (op = 0x33)) = some c := State.startable_some hc hmay (by simp [hop])
    refine congrArg Host.Outcome.next ((s.onTm_on _ htm).trans ?_)
    rw [State.epochStatus, hstart]
  · have hstill : (s.expired .stage 0 d).ep.stage = some (id, prev) := by
      rw [s.expired_frame]
      exact hstage
    refine congrArg Host.Outcome.next ((s.onTm_on _ htm).trans ?_)
    rw [State.stageTimeout, s.expire_armed _ _ d htimer]
    show (match (s.expired .stage 0 d).ep.stage with | none => _ | some (id, prev) => _) = _
    rw [hstill]
    rfl
  · rw [State.stageFailed, if_pos hstep, State.epochState]
    have hlatch := State.rfp_latchBounds (u.stagedUndefined.setEpochState esFailed) (f := TM_EPOCH.STATE.STATE) (p := 0) (i := 0)
      (by decide) (by decide)
    exact hlatch.trans (State.rf_wf_same _ _ _)
  · rw [State.stageFailed, if_neg (by omega)]

theorem nextSeq_lt {q : Nat} (h : q < 2 ^ 32) : nextSeq q < 2 ^ 32 := by
  unfold nextSeq
  split <;> omega

/-- The registers after a flip to bank `b`. -/
def State.flipRegs (s : State) (b : Bool) : SMap Nat :=
  let q := nextSeq (s.rf TM_EPOCH.EPOCH_SEQ.SEQ)
  let m := regPut s.regs TM_EPOCH.EPOCH_SEQ.SEQ 0 0 q
  let m := regPut m (if b then TM_EPOCH.BANK_SEQ_B.SEQ else TM_EPOCH.BANK_SEQ_A.SEQ) 0 0 q
  let m := regPut m TM_EPOCH.STATE.ACTIVE_BANK 0 0 (b2n b)
  let m := regPut (regPut m FE_EPOCH.SELECTOR.BANK 0 0 (b2n b)) FE_EPOCH.SELECTOR.LANES 0 0 (7 * b2n b)
  let m := regPut (regPut m TM_EPOCH.FLIP_CYCLE.CYCLE 0 0 s.cycle) FE_EPOCH.FLIP_CYCLE.CYCLE 0 0 s.cycle
  regPut (regPut m TM_EPOCH.FLIP_TIME_NS.NS 0 0 s.timeNs) TM_EPOCH.FLIP_TIME_SEC.SEC 0 0 s.timeSec

theorem State.flipTo_frame (s : State) (b : Bool) :
    s.flipTo b = { s with regs := s.flipRegs b, ep := { s.ep with flipAt := s.cycle } } := by
  simp only [State.flipTo, State.wf_frame, State.flipRegs, State.timeNs, State.timeSec]

theorem flipRegisters : Claims.FlipRegisters := by
  intro s b hlt
  have hseq := Nat.mod_eq_of_lt (nextSeq_lt hlt)
  have hns : s.timeNs % 2 ^ 32 = s.timeNs := Nat.mod_eq_of_lt (by
    rw [State.timeNs]
    omega)
  rw [s.flipTo_frame b]
  simp only [State.bankSeq, State.activeBank, State.feBank, State.epochState, State.rf_get, State.rfb_get, State.flipRegs]
  cases b <;>
    simp (disch := decide) only [regGet_regPut_same, regGet_regPut_ne, if_true, if_false, Bool.false_eq_true, Bool.not_true,
      Bool.not_false]
  · exact ⟨hseq, hseq, trivial, rfl, rfl, rfl, rfl, rfl, hns, trivial, trivial⟩
  · exact ⟨hseq, hseq, trivial, rfl, rfl, rfl, rfl, rfl, hns, trivial, trivial⟩

/-- Settles O10. -/
theorem epochRegisters : Obligations.EpochRegisters := ⟨epochStatus, flipRegisters⟩

end Sys2Proof.Machine
end

section
/-! PROOF. A frame at a port whose lanes hear themselves (R238). -/

namespace Sys2Proof.Machine

/-- A running forwarding engine out of its reset, with port 0 enabled, its link up and its lane 0 in NEAR_LOOPBACK. -/
def nearLooped : State :=
  let s : State := { State.reset with
    pw := { Power.por with rst := 0, wake := 0, left := 0, pwrEn := true }
    hdrs := (List.range 128).map fun P => (P, { resetHdr P with enable := true, inReset := false }) }
  (((s.wf FE_CLK.STATUS.ROOT_LOCK 1).wf FE_PG.PORT_CFG.ENABLE 1).wf FE_PG.PORT_STATUS.LINK_UP 1).wf FE_SDN.LANE_CFG.NEAR_LOOPBACK 1

/-- The bytes of a frame that port 0 would count. -/
def nearLoopedFrame : Bytes := List.replicate 80 9

theorem nearLooped_hears : nearLooped.feOn = true ∧ nearLooped.linkUp 0 = true ∧ nearLooped.loopedLanes 0 = true := by decide +kernel

theorem nearLooped_counted :
    let u := (nearLooped.pgInc FE_PG.CNT.RX_FRAMES 0 1).pgInc FE_PG.CNT.RX_BYTES 0 (nearLoopedFrame.length + 4)
    nearLoopedFrame.length + 4 ≤ u.maxFrame 0 ∧ u.noEpoch = true ∧
      u.pg FE_PG.CNT.RX_FRAMES 0 ≠ nearLooped.pg FE_PG.CNT.RX_FRAMES 0 := by decide +kernel

/-- Refutes O13: a good frame whose port is up meets every premise of FRAME_RX's first part, yet where a lane of the port is in
NEAR_LOOPBACK the port hears itself alone (R238) and the frame is not counted. -/
theorem not_ingressCommands : ¬ Obligations.IngressCommands := by
  intro h
  obtain ⟨hon, hup, hlooped⟩ := nearLooped_hears
  obtain ⟨hmax, hnone, hcount⟩ := nearLooped_counted
  have hclaim := (h.1 nearLooped 0 nearLoopedFrame hon (by decide) hup (by decide) (by decide) hmax).1 hnone
  have hexec : exec (.frameRx 0 nearLoopedFrame .good) nearLooped = .next nearLooped :=
    congrArg Host.Outcome.next ((nearLooped.onFe_on _ hon).trans (if_pos hlooped))
  have heq := Host.Outcome.next.inj (hexec.symm.trans hclaim)
  exact hcount (congrArg (fun s => State.pg s FE_PG.CNT.RX_FRAMES 0) heq.symm)

end Sys2Proof.Machine
end

section
/-! PROOF. Alignment of a fabric link and its overhead (R242, R246, R247, R253 to R256, R259). -/

namespace Sys2Proof.Machine

/-! ### The phase at which a FAW is seen first -/

/-- How far the search for the FAW has to go from `start` to a phase. -/
def phaseAhead (start q : Nat) : Nat := (q + 64000 - start) % 64000

theorem firstPhase_spec {start : Nat} {l : List Nat} {q : Nat} (h : firstPhase start l = some q) :
    q ∈ l ∧ ∀ r ∈ l, phaseAhead start q ≤ phaseAhead start r := by
  induction l generalizing q with
  | nil => simp [firstPhase] at h
  | cons p l ih =>
    rw [firstPhase] at h
    cases hl : firstPhase start l with
    | none =>
      obtain rfl : p = q := by simpa [hl] using h
      have hempty : l = [] := by
        cases l with
        | nil => rfl
        | cons a l =>
          rw [firstPhase] at hl
          split at hl <;> cases hl
      simp [hempty]
    | some r =>
      obtain ⟨hr, hmin⟩ := ih hl
      rw [hl] at h
      obtain rfl := Option.some.inj h
      have hif : (if (p + 64000 - start) % 64000 ≤ (r + 64000 - start) % 64000 then p else r) =
        if phaseAhead start p ≤ phaseAhead start r then p else r := rfl
      rw [hif]
      simp only [List.mem_cons, forall_eq_or_imp]
      split
      case isTrue hle => exact ⟨Or.inl rfl, le_rfl, fun x hx => hle.trans (hmin x hx)⟩
      case isFalse hgt => exact ⟨Or.inr hr, (not_le.mp hgt).le, hmin⟩

theorem firstPhase_none {start : Nat} {l : List Nat} : firstPhase start l = none ↔ l = [] := by
  cases l with
  | nil => simp [firstPhase]
  | cons p l =>
    rw [firstPhase]
    split <;> simp

theorem phaseAhead_inj {start p q : Nat} (hs : start < 64000) (hp : p < 64000) (hq : q < 64000)
    (h : phaseAhead start p = phaseAhead start q) : p = q := by
  unfold phaseAhead at h
  omega

theorem linkAlignment : Claims.LinkAlignment := by
  intro s n htm hen
  refine ⟨?_, fun signal => ?_, fun phase diff exact hcw hphase => ?_⟩
  · intro a
    refine ⟨(Config.freeWord a.freeCtr).toNat, congrArg Host.Outcome.next ((s.onTm_on _ htm).trans ?_)⟩
    rw [State.codewordLock, if_neg (by simp [hen])]
    rfl
  · refine congrArg Host.Outcome.next ((s.onTm_on _ htm).trans ?_)
    rw [State.flinkLos, if_neg (by simp [hen])]
    by_cases hal : s.fl TM_FLINK.LINK_STATUS.ALIGN n = alInFrame
    · simp [hal]
    · simp [hal]
  · have hexec : exec (.fawCheck n phase diff exact) s = .next (s.fawCheck n phase diff exact) :=
      congrArg Host.Outcome.next (s.onTm_on _ htm)
    have hphase' : ¬64000 ≤ phase := by omega
    have hmem (q : Nat) : q ∈ (if diff = 0 then [phase] else []) ++ exact.filter (fun q => decide (q < 64000)) ↔
        (q = phase ∧ diff = 0) ∨ (q ∈ exact ∧ q < 64000) := by
      by_cases hd : diff = 0 <;> simp [hd]
    refine ⟨fun hal hnone => ?_, fun hal hstart q hq hmin => ?_, fun hal hcand hd => ?_, fun hal hcand hd => ?_, fun hal hcand hd => ?_,
      fun hal hcand hd => ?_⟩
    all_goals rw [hexec, State.fawCheck, if_neg (by simp [hen, hcw, hphase']), hal]
    · have hnil : firstPhase (s.link n).start ((if diff = 0 then [phase] else []) ++ exact.filter (fun q => decide (q < 64000))) = none :=
        firstPhase_none.mpr (List.eq_nil_iff_forall_not_mem.mpr fun q h => hnone q ((hmem q).mp h))
      simp only [alHunt, hnil]
    · obtain ⟨p, hp⟩ : ∃ p, firstPhase (s.link n).start
          ((if diff = 0 then [phase] else []) ++ exact.filter (fun q => decide (q < 64000))) = some p := by
        rw [← Option.ne_none_iff_exists', ne_eq, firstPhase_none]
        exact List.ne_nil_of_mem ((hmem q).mpr hq)
      obtain ⟨hpmem, hpmin⟩ := firstPhase_spec hp
      have hseen := (hmem p).mp hpmem
      have hlt (r : Nat) (hr : (r = phase ∧ diff = 0) ∨ (r ∈ exact ∧ r < 64000)) : r < 64000 := by omega
      obtain rfl : p = q := phaseAhead_inj hstart (hlt p hseen) (hlt q hq) (le_antisymm (hpmin q ((hmem q).mpr hq)) (hmin p hseen))
      simp only [alHunt, hp]
    · simp [alPresync, ← hcand, Nat.not_lt.mpr hd]
    · simp [alPresync, ← hcand, hd]
    · simp [alInFrame, ← hcand, hd]
    · simp [alInFrame, ← hcand, Nat.not_le.mpr hd]

theorem overheadReceive : Claims.OverheadReceive := by
  intro s n raw marked htm hen hloop b mfi
  have hexec : exec (.overheadRx n raw marked) s = .next (s.overheadRx n raw marked) :=
    congrArg Host.Outcome.next ((s.onTm_on _ htm).trans (if_neg (by simp [hloop])))
  rw [hexec, State.overheadRx, if_neg (by simp [hen])]
  refine ⟨fun hal hg hst => ?_, fun hal hg hst => ?_, fun hal hg => ?_, fun hal hg => ?_, fun hal hg => ?_⟩
  · simp [hal, b, hg, hst, mfi]
  · simp [hal, b, hg, hst]
  · simp [hal, b, hg]
  · simp [hal, b, hg, alInFrame, alCheck]
  · simp [hal, b, hg, alInFrame, alCheck]

/-- Settles O22. -/
theorem linkReceive : Obligations.LinkReceive := ⟨linkAlignment, overheadReceive⟩

end Sys2Proof.Machine
end

section
/-! PROOF. The ends of a cell test and of a remap's copy (R122, R124, R129). -/

namespace Sys2Proof.Machine

/-- Settles O12. -/
theorem cellEngines : Obligations.CellEngines := by
  intro s hon
  refine ⟨fun n tst htest => ?_, fun st extra d m src htimer hnow hsrc => ?_⟩
  · have hexec (o : TestOutcome) : exec (.cellTestDone n o) s = .next (s.cellTestDone n o) :=
      congrArg Host.Outcome.next (s.onFe_on _ hon)
    refine ⟨?_, fun unit line => ?_, fun d htimer => ?_⟩
    · rw [hexec, State.cellTestDone, htest]
    · rw [hexec, State.cellTestDone, htest]
      simp only [State.testFail, htest]
    · rw [hexec, State.cellTestDone, htest]
      simp only [s.expire_armed _ _ d htimer]
      rfl
  · refine congrArg Host.Outcome.next ((s.onFe_on _ hon).trans (congrArg State.dmaDrain ?_))
    rw [State.remapDone, htimer, hnow]
    simp only [hsrc]

end Sys2Proof.Machine
end

section
/-! PROOF. Debug unlock, lockout and relock (R443, R444). -/

namespace Sys2Proof.Machine

/-- The state in which an accepted response has taken its level, key and time. -/
def State.unlocked (s : State) (b : Bytes) : State :=
  let s := (s.setJt (fun j => { j with challenge := none })).setJt (fun j => { j with fails := 0 })
  let s := ((s.wf TM_SEC.DEBUG.LEVEL (byteAt b 0)).wf TM_SEC.DEBUG.KEY (byteAt b 1)).wf TM_SEC.DEBUG.MIN_LEFT
    (if leAt b 2 2 = 0 then 0xFFFF else leAt b 2 2)
  if leAt b 2 2 = 0 then s.disarm .unlock 0 else s.arm .unlock 0 (leAt b 2 2 * 60 * cySec)

/-- The state in which a refused response counts. -/
def State.refusedUnlock (s : State) : State :=
  let n := s.jt.fails + 1
  let s := (s.setJt (fun j => { j with challenge := none })).setJt (fun j => { j with fails := n })
  if 4 ≤ n && !s.armed .lockout 0 then s.arm .lockout 0 (60 * cySec) else s

theorem State.secResponse_ok (s : State) (b : Bytes) (h : s.responseOk b = true) :
    s.secResponse b = (s.unlocked b).raise Ev.TM_SEC.DEBUG_UNLOCKED 0 (byteAt b 0) (leAt b 2 2) (byteAt b 1) := by
  rw [State.secResponse, h]
  rfl

theorem State.secResponse_refused (s : State) (b : Bytes) (h : s.responseOk b = false) :
    s.secResponse b = (s.refusedUnlock.sat1 TM_SEC.UNLOCK_FAIL.COUNT).raise Ev.TM_SEC.UNLOCK_FAIL 0 0 (s.jt.fails + 1) (byteAt b 1) := by
  rw [State.secResponse, h]
  rfl

theorem State.unlocked_frame (s : State) (b : Bytes) : s.unlocked b =
    { s with
      regs := regPut (regPut (regPut s.regs TM_SEC.DEBUG.LEVEL 0 0 (byteAt b 0)) TM_SEC.DEBUG.KEY 0 0 (byteAt b 1)) TM_SEC.DEBUG.MIN_LEFT 0 0
        (if leAt b 2 2 = 0 then 0xFFFF else leAt b 2 2)
      timers := if leAt b 2 2 = 0 then timerDrop s.timers .unlock 0
        else timerPut s.timers .unlock 0 (s.cycle + leAt b 2 2 * 60 * cySec)
      jt := { s.jt with challenge := none, fails := 0 } } := by
  by_cases hm : leAt b 2 2 = 0 <;>
    simp only [State.unlocked, hm, if_true, if_false, State.wf_frame, State.disarm_frame, State.arm_frame, State.setJt]

theorem State.unlocked_timerAt (s : State) (b : Bytes) :
    (s.unlocked b).timerAt .unlock 0 = if leAt b 2 2 = 0 then none else some (s.cycle + leAt b 2 2 * 60 * cySec) := by
  rw [State.unlocked_frame, State.timerAt_get]
  split <;> simp

theorem State.refusedUnlock_frame (s : State) : s.refusedUnlock =
    { s with
      timers := if 4 ≤ s.jt.fails + 1 ∧ s.armed .lockout 0 = false then timerPut s.timers .lockout 0 (s.cycle + 60 * cySec) else s.timers
      jt := { s.jt with challenge := none, fails := s.jt.fails + 1 } } := by
  have harmed (j : Jtag) : State.armed { s with jt := j } .lockout 0 = s.armed .lockout 0 := rfl
  have hcond : (decide (4 ≤ s.jt.fails + 1) && !s.armed .lockout 0) = true ↔ 4 ≤ s.jt.fails + 1 ∧ s.armed .lockout 0 = false := by simp
  by_cases hfull : (decide (4 ≤ s.jt.fails + 1) && !s.armed .lockout 0) = true
  · simp only [State.refusedUnlock, State.setJt, harmed, if_pos hfull, if_pos (hcond.mp hfull), State.arm_frame]
  · simp only [State.refusedUnlock, State.setJt, harmed, if_neg hfull, if_neg (mt hcond.mpr hfull)]

theorem State.refusedUnlock_timerAt (s : State) : s.refusedUnlock.timerAt .lockout 0 =
    if 4 ≤ s.jt.fails + 1 ∧ s.armed .lockout 0 = false then some (s.cycle + 60 * cySec) else s.timerAt .lockout 0 := by
  rw [State.refusedUnlock_frame, State.timerAt_get]
  split
  · simp
  · rfl

theorem State.endUnlock_spec (s : State) : let t := s.endUnlock
    t.rf TM_SEC.DEBUG.LEVEL = 0 ∧ t.rf TM_SEC.DEBUG.KEY = 0 ∧ t.rf TM_SEC.DEBUG.MIN_LEFT = 0 ∧ t.timerAt .unlock 0 = none ∧
      t.jt = { s.jt with ir := 1, extest := false } := by
  refine ⟨?_, ?_, ?_, State.timerAt_disarm_same _ _ _, rfl⟩
  all_goals
    simp (disch := decide) only [State.endUnlock, State.rf_get, State.wf_regs, State.disarm_regs, regGet_regPut_same, regGet_regPut_ne]
    rfl

/-- Settles O47. -/
theorem debugUnlock : Obligations.DebugUnlock := by
  intro s
  refine ⟨fun b hok => ⟨s.unlocked b, s.secResponse_ok b hok, ?_⟩, fun b hbad => ⟨s.refusedUnlock, s.secResponse_refused b hbad, ?_⟩,
    fun b hbad => ?_, fun htm d htimer => ?_, fun htm hopen => ?_, fun htm d htimer => ?_, s.endUnlock_spec⟩
  · refine ⟨?_, ?_, ?_, s.unlocked_timerAt b, ?_⟩
    all_goals rw [s.unlocked_frame b]
    · exact State.rf_get _ _ |>.trans (by simp (disch := decide) [regGet_regPut_ne])
    · exact State.rf_get _ _ |>.trans (by simp (disch := decide) [regGet_regPut_ne])
  · refine ⟨?_, s.refusedUnlock_timerAt, ?_⟩
    all_goals rw [s.refusedUnlock_frame]
  · rw [State.responseOk]
    rcases hbad with hnone | hlock | hmay
    · rw [hnone]
    · split <;> simp [hlock]
    · split <;> simp [hmay]
  · refine congrArg Host.Outcome.next ((s.onTm_on _ htm).trans ?_)
    rw [s.expire_armed _ _ d htimer]
    rfl
  · exact congrArg Host.Outcome.next ((s.onTm_on _ htm).trans (if_pos hopen))
  · refine congrArg Host.Outcome.next ((s.onTm_on _ htm).trans ?_)
    rw [s.expire_armed _ _ d htimer]
    rfl

end Sys2Proof.Machine
end

section
/-! PROOF. The JTAG port under each unlock level and power state (R442, R445). -/

namespace Sys2Proof.Machine

@[simp] theorem toLe_length (n v : Nat) : (toLe n v).length = n := by
  induction n generalizing v with
  | zero => rfl
  | succ n ih => simp [toLe, ih]

section
variable {s : State} (hrst : s.pw.rst ≠ 1)
include hrst

theorem State.onTap_on (f : State → State) : s.onTap f = f s := if_neg hrst

/-- An instruction that the level and the power state allow acts, on the state with it in the instruction register. -/
theorem State.jtag_allowed {code : Nat} (h : s.jtagAllows code = true) (f : State → State) : s.jtag code f = f (s.jtagIr code) :=
  (State.onTap_on hrst _).trans (if_pos h)

/-- An instruction that they refuse acts as BYPASS and is counted. -/
theorem State.jtag_refused {code : Nat} (h : s.jtagAllows code = false) (f : State → State) :
    s.jtag code f = (s.jtagIr code).bypass.sat1 TM_SEC.DBG_DENIED.COUNT :=
  (State.onTap_on hrst _).trans (if_neg (by rw [Bool.not_eq_true]; exact h))

end

theorem State.jtagAllows_level {s : State} {code l : Nat} (hactive : s.fullyActive = true) (hcode : jtagLevel code = some l)
    (hl : l ≤ s.rf TM_SEC.DEBUG.LEVEL) : s.jtagAllows code = true := by
  simp [State.jtagAllows, hcode, hactive, hl]

theorem State.jtagAllows_refused {s : State} {code l : Nat} (hbypass : code ≠ 0xFF) (hid : code ≠ 1) (hcode : jtagLevel code = some l)
    (h : s.fullyActive = false ∨ s.rf TM_SEC.DEBUG.LEVEL < l) : s.jtagAllows code = false := by
  rcases h with h | h <;> simp [State.jtagAllows, hbypass, hid, hcode, h]

theorem State.jtagIr_eq (s : State) {code : Nat} (h : code < 256) :
    s.jtagIr code = { s with jt := { s.jt with ir := code, extest := decide (code = 0) && s.jt.extest } } := by
  rw [State.jtagIr, Nat.mod_eq_of_lt h]
  rfl

/-- The challenge that the port answers next: a random number, the device, its lifecycle and its level. -/
def State.challengeWord (s : State) : Bytes :=
  toLe 32 (Config.random s.freeCtr).toNat ++ toLe 8 s.otp.deviceId ++ toLe 1 s.otp.lifecycle ++ toLe 1 (s.rf TM_SEC.DEBUG.LEVEL) ++
    List.replicate 22 0

theorem State.challengeWord_spec (s : State) : s.challengeWord.length = 64 ∧ (s.challengeWord.drop 32).take 8 = toLe 8 s.otp.deviceId ∧
    byteAt s.challengeWord 40 = s.otp.lifecycle % 256 := by
  refine ⟨by simp [State.challengeWord], by simp [State.challengeWord], ?_⟩
  have hat : s.challengeWord[40]? = some (BitVec.ofNat 8 s.otp.lifecycle) := by
    simp [State.challengeWord, toLe]
  simp [byteAt, hat]

/-- Settles O46. -/
theorem jtagPort : Obligations.JtagPort := by
  intro s hrst ir free
  have hir (code : Nat) (h : code < 256) : s.jtagIr code = ir code := s.jtagIr_eq h
  refine ⟨?_, ?_, fun code hlt hcode => ?_, fun code l hlt hne hid hcode hlow => ?_, fun hactive => ?_,
    fun hactive hlevel => ?_, fun hactive hlevel => ?_⟩
  · exact congrArg Host.Outcome.next (State.jtag_allowed hrst rfl _)
  · exact congrArg Host.Outcome.next (State.onTap_on hrst _)
  · refine congrArg Host.Outcome.next ((State.onTap_on hrst _).trans ?_)
    rw [Nat.mod_eq_of_lt hlt, if_pos (by simpa using hcode), hir code hlt]
    rfl
  · intro no
    have hall := State.jtagAllows_refused hne hid hcode hlow
    have hno (f : State → State) : s.jtag code f = no := by
      rw [State.jtag_refused hrst hall, hir code hlt]
      rfl
    have hall' (k : Nat) (f : State → State) (hk : code = k) :
        Host.Outcome.next (s.jtag k f) = (.next no : Host.Outcome State Fault Refusal) := by
      rw [← hk, hno]
    refine ⟨?_, hall' _ _, hall' _ _, fun b => hall' _ _, fun pins load => ⟨hall' _ _, hall' _ _⟩, fun off v => ⟨hall' _ _, hall' _ _⟩,
      fun m w op => ⟨hall' _ _, hall' _ _⟩⟩
    refine congrArg Host.Outcome.next ((State.onTap_on hrst _).trans ?_)
    rw [Nat.mod_eq_of_lt hlt, if_neg (by simp [hne, hcode]), if_neg (by simp [hall]), hir code hlt]
    rfl
  · have hall (code : Nat) (hcode : jtagLevel code = some 0) (f : State → State) : s.jtag code f = f (s.jtagIr code) :=
      State.jtag_allowed hrst (State.jtagAllows_level hactive hcode (Nat.zero_le _)) f
    refine ⟨congrArg Host.Outcome.next (hall 0x12 rfl _), fun b => congrArg Host.Outcome.next (hall 0x11 rfl _),
      ⟨s.challengeWord, congrArg Host.Outcome.next (hall 0x10 rfl _), s.challengeWord_spec⟩⟩
  · have hall (code : Nat) (hcode : jtagLevel code = some 1) (f : State → State) : s.jtag code f = f (s.jtagIr code) :=
      State.jtag_allowed hrst (State.jtagAllows_level hactive hcode hlevel) f
    exact ⟨fun pins load => congrArg Host.Outcome.next (hall 0x02 rfl _), fun off => congrArg Host.Outcome.next (hall 0x20 rfl _)⟩
  · have hall (code : Nat) (hcode : jtagLevel code = some 2) (f : State → State) : s.jtag code f = f (s.jtagIr code) :=
      State.jtag_allowed hrst (State.jtagAllows_level hactive hcode hlevel) f
    have hmem (m : MemRef) (w : Option Nat) : exec (.memAccess m w) s = .next ((ir 0x22).memAccess m w) :=
      congrArg Host.Outcome.next (hall 0x22 rfl _)
    refine ⟨fun pins load => congrArg Host.Outcome.next (hall 0 rfl _), fun off v => congrArg Host.Outcome.next (hall 0x21 rfl _),
      fun a v => ⟨fun ha => ?_, fun ha => ?_, fun ha => ?_, fun ha => ?_⟩, fun dir pos line w v => ⟨fun h1 h2 h3 h4 => ?_, fun hout => ?_⟩,
      fun x v => ⟨hmem _ _, hmem _ _⟩, congrArg Host.Outcome.next (hall 0x23 rfl _), congrArg Host.Outcome.next (hall 0x23 rfl _),
      congrArg Host.Outcome.next (hall 0x23 rfl _)⟩
    · exact (hmem _ _).trans (congrArg Host.Outcome.next (if_pos ha))
    · exact (hmem _ _).trans (congrArg Host.Outcome.next (if_neg (by omega)))
    · refine (hmem _ _).trans (congrArg Host.Outcome.next ?_)
      show (if SMap.get 0 s.mc.sram a = 0 then _ else _) = _
      rw [if_neg (by omega), ha]
      rfl
    · refine (hmem _ _).trans (congrArg Host.Outcome.next (if_pos ha))
    · have hin : (decide (dir < 2) && decide (pos < 128) && decide (line < 49152) && decide (w < 8)) = true := by simp [h1, h2, h3, h4]
      exact ⟨(hmem _ _).trans (congrArg Host.Outcome.next (if_pos hin)), (hmem _ _).trans (congrArg Host.Outcome.next (if_pos hin))⟩
    · have hin : ¬(decide (dir < 2) && decide (pos < 128) && decide (line < 49152) && decide (w < 8)) = true := by
        simp only [Bool.and_eq_true, decide_eq_true_eq]
        omega
      exact ⟨(hmem _ _).trans (congrArg Host.Outcome.next (if_neg hin)), (hmem _ _).trans (congrArg Host.Outcome.next (if_neg hin))⟩

end Sys2Proof.Machine
end

section
/-! PROOF. Ports down and up in the TM, queue profiles and statistics (R302, R309, R312). -/

namespace Sys2Proof.Machine

theorem State.setCnt_frame (s : State) (f : Fld) (i v : Nat) :
    s.setCnt f i v = { s with regs := regPut s.regs f 0 i v, hdrs := (s.setCnt f i v).hdrs } := by
  conv_lhs => rw [State.setCnt, State.perfFld_frame]
  rfl

@[simp] theorem State.setCnt_regs (s : State) (f : Fld) (i v : Nat) : (s.setCnt f i v).regs = regPut s.regs f 0 i v := by
  rw [State.setCnt_frame]

theorem State.qprof_setQprof_same (s : State) (i v : Nat) : (s.setQprof i v).qprof i = v := SMap.get_put_same _ _ _ _

/-- The time since which a port is down. -/
def State.downSince (s : State) (p c : Nat) : State := { s with sc := { s.sc with downAt := SMap.put 0 s.sc.downAt p c } }

theorem State.foldl_workEnds_cycle (s : State) (g : Nat → WorkEnd) (l : List Nat) :
    (l.foldl (fun (t : State) c => t.workEnds (g c)) s).cycle = s.cycle := by
  induction l generalizing s with
  | nil => rfl
  | cons c l ih => rw [List.foldl_cons, ih, State.workEnds]

theorem qprofRead_window (s : State) (v k : Nat) (hopen : s.blockOpen 4149 = true) (hk : k < 4) :
    (s.qprofRead v).rfi TM_QUEUE.QPROF_DATA.DATA k = bits (s.qprof (bits v 0 8)) (32 * k) 32 := by
  rw [State.qprofRead, if_neg (by simp [hopen])]
  dsimp only
  rw [State.foldl_wfi_fill _ _ _ _ (fun _ _ => rfl), State.rfi_get, regGet_regFill_same _ _ rfl (by decide) hk]
  exact bits_mod _ _ _

/-- The profile that the window's words make: three words of 28 bits and one of 29 (R302). -/
def State.qprofImage (s : State) : Nat :=
  s.rfi TM_QUEUE.QPROF_DATA.DATA 0 % 2 ^ 28 + s.rfi TM_QUEUE.QPROF_DATA.DATA 1 % 2 ^ 28 * 2 ^ 32 +
    s.rfi TM_QUEUE.QPROF_DATA.DATA 2 % 2 ^ 28 * 2 ^ 64 + s.rfi TM_QUEUE.QPROF_DATA.DATA 3 % 2 ^ 29 * 2 ^ 96

theorem State.qprofImage_words (s : State) : bits s.qprofImage 96 29 = s.rfi TM_QUEUE.QPROF_DATA.DATA 3 % 2 ^ 29 ∧
    ∀ k, k < 3 → profWord s.qprofImage k = s.rfi TM_QUEUE.QPROF_DATA.DATA k % 2 ^ 28 := by
  unfold State.qprofImage profWord bits
  simp only [Nat.shiftRight_eq_div_pow]
  refine ⟨by omega, fun k hk => ?_⟩
  obtain rfl | rfl | rfl : k = 0 ∨ k = 1 ∨ k = 2 := by omega
  · omega
  · omega
  · omega

theorem State.qprofWrite_eq (s : State) (v : Nat) (hopen : s.blockOpen 4149 = true) :
    s.qprofWrite v = (s.qprofSel v).setQprof (bits v 0 8) s.qprofImage := by
  have hdata (k : Nat) (hk : k < 4) : (s.qprofSel v).rfi TM_QUEUE.QPROF_DATA.DATA k = s.rfi TM_QUEUE.QPROF_DATA.DATA k := by
    have hkey (sel : Fld) (h : TM_QUEUE.QPROF_DATA.DATA.key 0 k ≠ sel.key 0 0) (u : State) (x : Nat) :
        (u.wf sel x).rfi TM_QUEUE.QPROF_DATA.DATA k = u.rfi TM_QUEUE.QPROF_DATA.DATA k := State.rfp_wfp_ne _ _ _ _ _ _ _ _ h
    have hsel : TM_QUEUE.QPROF_DATA.DATA.key 0 k ≠ TM_QUEUE.QPROF_SEL.PROFILE.key 0 0 ∧
        TM_QUEUE.QPROF_DATA.DATA.key 0 k ≠ TM_QUEUE.QPROF_SEL.OP.key 0 0 := by
      clear hkey
      revert k
      decide
    rw [State.qprofSel, hkey _ hsel.2, hkey _ hsel.1]
  rw [State.qprofWrite, if_neg (by simp [hopen])]
  simp only [hdata _ (by decide : 0 < 4), hdata _ (by decide : 1 < 4), hdata _ (by decide : 2 < 4), hdata _ (by decide : 3 < 4)]
  rfl

/-- Settles O25. -/
theorem queueCommands : Obligations.QueueCommands := by
  intro s htm
  refine ⟨fun p hp hup hdown => ?_, fun e => rfl, fun p hp hdown hup => ?_, fun p d htimer => ?_, fun hopen sel => ⟨?_, ?_, ?_⟩⟩
  · intro a u
    have hcycle : a.cycle = s.cycle := State.foldl_workEnds_cycle _ _ _
    refine congrArg Host.Outcome.next ((s.onTm_on _ htm).trans ?_)
    rw [State.portGoesDown, if_pos (by simp [hp, hup, hdown])]
    show (a.downSince p a.cycle).raise _ _ _ _ _ = (a.downSince p s.cycle).raise _ _ _ _ _
    rw [hcycle]
  · intro a u
    refine congrArg Host.Outcome.next ((s.onTm_on _ htm).trans ?_)
    rw [State.portComesUp, if_pos (by simp [hp, hup, hdown])]
  · refine congrArg Host.Outcome.next ((s.onTm_on _ htm).trans ?_)
    rw [State.holdExpire, s.expire_armed _ _ d htimer]
    rfl
  · refine ⟨_, congrArg Host.Outcome.next (s.onTm_on _ htm), ?_, fun k hk => ?_⟩
    · rw [State.qprofRead, if_neg (by simp [hopen])]
      dsimp only
      rw [State.foldl_wfi_fill _ _ _ _ (fun _ _ => rfl)]
      rfl
    · rw [qprofRead_window s _ k hopen hk, bits_setBit_apart _ _ (by omega), bits_mod_two_pow _ (by omega)]
  · refine ⟨_, congrArg Host.Outcome.next (s.onTm_on _ htm), ?_⟩
    rw [s.qprofWrite_eq _ hopen, bits_setBit_apart _ _ (by omega), bits_mod_two_pow _ (by omega)]
    refine ⟨by simp only [State.setQprof, State.qprofSel, State.wf_frame], fun i hi => SMap.get_put_ne _ _ _ _ _ _ hi, ?_, fun k hk => ?_⟩
    · rw [State.qprof_setQprof_same]
      exact s.qprofImage_words.1
    · rw [State.qprof_setQprof_same]
      exact s.qprofImage_words.2 k hk
  · refine ⟨_, congrArg Host.Outcome.next (s.onTm_on _ htm), ?_⟩
    rw [State.queueStats, if_neg (by simp [hopen])]
    dsimp only
    refine ⟨?_, ?_, ?_, ?_⟩
    · rw [State.setCnt_frame, State.setCnt_frame, State.setCnt_frame, State.wf_frame]
    all_goals
      simp (disch := decide) only [State.rf_get, State.setCnt_regs, regGet_regPut_ne, regGet_regPut_same]
      rfl

end Sys2Proof.Machine
end

section
/-! PROOF. The die-to-die bridge (R385, R396, R397, R398). -/

namespace Sys2Proof.Machine

/-- The state in which the bridge is shown down. -/
def State.bridgeShownDown (s : State) (b : Nat) : State :=
  ((s.wf FE_D2D.STATUS.UP 0).wf FE_D2D.STATUS.DOWN_BUNDLE b).wf TM_FAULT.STATUS.BRIDGE_UP 0

theorem State.bridgeShownDown_spec (s : State) (b : Nat) : let u := s.bridgeShownDown b
    u = { s with regs := u.regs } ∧ u.rf FE_D2D.STATUS.UP = 0 ∧ u.rf FE_D2D.STATUS.DOWN_BUNDLE = b % 2 ^ FE_D2D.STATUS.DOWN_BUNDLE.w ∧
      u.rf TM_FAULT.STATUS.BRIDGE_UP = 0 ∧ u.bridgeUp = false := by
  refine ⟨?_, ?_, ?_, State.rf_wf_same _ _ _, ?_⟩
  · simp only [State.bridgeShownDown, State.wf_frame]
  · simp (disch := decide) only [State.bridgeShownDown, State.rf_get, State.wf_regs, regGet_regPut_ne, regGet_regPut_same]
    rfl
  · simp (disch := decide) only [State.bridgeShownDown, State.rf_get, State.wf_regs, regGet_regPut_ne, regGet_regPut_same]
  · exact decide_eq_false (by rw [State.bridgeShownDown, State.rf_wf_same]; decide)

/-- Settles O34. -/
theorem bridgeCommands : Obligations.BridgeCommands := by
  intro s b htm hb
  have hb' : ¬128 ≤ b := by omega
  have hlane (lane corr : Nat) : exec (.bridgeLaneInterval b lane corr) s = .next (s.bridgeLane b lane corr) :=
    congrArg Host.Outcome.next (s.onTm_on _ htm)
  have hword (w : BridgeWord) : exec (.bridgeWordUncorrectable b w) s = .next (s.bridgeWord b w) :=
    congrArg Host.Outcome.next (s.onTm_on _ htm)
  have hdown : exec (.bridgeDown b) s = .next (s.bridgeDown b) := congrArg Host.Outcome.next (s.onTm_on _ htm)
  refine ⟨fun hup lane corr => ?_, fun hup => ?_, fun hup => ⟨fun lane corr => ?_, fun w => ?_, ?_⟩⟩
  · intro u left bad w
    rw [hlane, State.bridgeLane, if_neg (by simp [hb', hup])]
    have hbad : (u.rfb FE_D2D.CTRL.AUTO_REPAIR && decide (orWhenZero (u.rf FE_D2D.CTRL.REPAIR_THR) 1 < corr) && decide (0 < left)) = true ↔
        bad := by
      simp [bad, and_assoc]
    refine ⟨fun h => congrArg Host.Outcome.next (if_neg (mt hbad.mp h)), fun h => congrArg Host.Outcome.next ((if_pos (hbad.mpr h)).trans ?_)⟩
    show w.raiseBatch 78 ((Ev.FE_D2D.LANE_REPAIRED, some 0, some b, some lane) ::
      (if left = 1 then [(Ev.FE_D2D.SPARES_EXHAUSTED, some 0, some b, some 0)] else [])) = _
    split <;> rfl
  · have hopen : ¬(decide (128 ≤ b) || !s.bridgeUp) = true := by simp [hb', hup]
    refine ⟨fun i p hcross => ⟨?_, ?_⟩, ?_, fun r rs hfwd => ?_, s.bridgeShownDown b, ?_, s.bridgeShownDown_spec b⟩
    · rw [hword, State.bridgeWord, if_neg hopen]
      simp only [hcross]
    · rw [hword, State.bridgeWord, if_neg hopen]
      simp only [hcross]
    · rw [hword, State.bridgeWord, if_neg hopen]
    · rw [hword, State.bridgeWord, if_neg hopen]
      simp only [hfwd]
    · rw [hdown, State.bridgeDown, if_neg hopen]
      rfl
  · rw [hlane, State.bridgeLane, if_pos (by simp [hup])]
  · rw [hword, State.bridgeWord, if_pos (by simp [hup])]
  · rw [hdown, State.bridgeDown, if_pos (by simp [hup])]

end Sys2Proof.Machine
end

section
/-! PROOF. Requests for a power state, by the register and the management interface (R457, R462, R463). -/

namespace Sys2Proof.Machine

/-! ### The request -/

section
variable {s : State} {t cause : Nat}

theorem State.powerReq_reserved (h : 3 ≤ t ∨ t = 1 ∧ s.pwr = psC) : s.powerReq t cause = s.reqDiscard 3 t := by
  rw [State.powerReq, if_pos (by simpa using h)]

section
variable (hlt : t < 3) (hdown : ¬(t = 1 ∧ s.pwr = psC))
include hlt hdown

theorem State.powerReq_open : s.powerReq t cause =
    if t = s.powerGoal then s.reqDiscard 2 t
    else if s.waking then s.pend t
    else if s.pw.entry ≠ 0 then
      if t = 0 then
        ((if s.rf TM_PWR.STATE.PENDING = 3 then s else (s.reqDiscard 1 (s.rf TM_PWR.STATE.PENDING)).wf TM_PWR.STATE.PENDING 3)).setPw
          (fun w => { w with abort := true })
      else s.pend t
    else if s.pwr = psW && t = 2 then s.setPw (fun w => { w with entry := 6, target := 2, abort := false })
    else if s.pwr = psW then s.startWake 2 1 cause
    else if s.pwr = psC then s.startWake 3 1 cause
    else if s.inReset 4102 then s.pend t
    else s.startEntry t := by
  have hcond : ¬(decide (3 ≤ t) || (decide (t = 1) && decide (s.pwr = psC))) = true := by
    simp only [Bool.or_eq_true, Bool.and_eq_true, decide_eq_true_eq]
    omega
  rw [State.powerReq, if_neg hcond]

theorem State.powerReq_goal (h : t = s.powerGoal) : s.powerReq t cause = s.reqDiscard 2 t := by
  rw [State.powerReq_open hlt hdown, if_pos h]

variable (hgoal : t ≠ s.powerGoal)
include hgoal

theorem State.powerReq_waking (h : s.waking = true) : s.powerReq t cause = s.pend t := by
  rw [State.powerReq_open hlt hdown, if_neg hgoal, if_pos h]

variable (hawake : s.waking = false)
include hawake

theorem State.powerReq_entering (h : s.pw.entry ≠ 0) (ht : t ≠ 0) : s.powerReq t cause = s.pend t := by
  rw [State.powerReq_open hlt hdown, if_neg hgoal, if_neg (by simp [hawake]), if_pos h, if_neg ht]

theorem State.powerReq_steady (h : s.pw.entry = 0) : s.powerReq t cause =
    if s.pwr = psW && t = 2 then s.setPw (fun w => { w with entry := 6, target := 2, abort := false })
    else if s.pwr = psW then s.startWake 2 1 cause
    else if s.pwr = psC then s.startWake 3 1 cause
    else if s.inReset 4102 then s.pend t
    else s.startEntry t := by
  rw [State.powerReq_open hlt hdown, if_neg hgoal, if_neg (by simp [hawake]), if_neg (by simp [h])]

end

end

theorem State.powerGoal_steady {s : State} (hawake : s.waking = false) (hentry : s.pw.entry = 0) :
    s.powerGoal = if s.pwr = psW then 1 else if s.pwr = psC then 2 else 0 := by
  simp [State.powerGoal, hawake, hentry]

section
variable {s : State} {t cause : Nat} (hawake : s.waking = false) (hentry : s.pw.entry = 0)
include hawake hentry

theorem State.powerReq_active (hpos : t ≠ 0) (hlt : t < 3) (hactive : s.pwr = psActive) :
    s.powerReq t cause = if s.inReset 4102 then s.pend t else s.startEntry t := by
  have hgoal : s.powerGoal = 0 := by
    rw [State.powerGoal_steady hawake hentry, hactive]
    rfl
  rw [State.powerReq_steady hlt (by simp [hactive, psActive, psC]) (by rwa [hgoal]) hawake hentry, hactive]
  rfl

theorem State.powerReq_wake (hw : s.pwr = psW) : s.powerReq 0 cause = s.startWake 2 1 cause := by
  have hgoal : s.powerGoal = 1 := by rw [State.powerGoal_steady hawake hentry, if_pos hw]
  rw [State.powerReq_steady (by decide) (by simp) (by simp [hgoal]) hawake hentry, if_neg (by simp), if_pos hw]

theorem State.powerReq_wakeCold (hc : s.pwr = psC) : s.powerReq 0 cause = s.startWake 3 1 cause := by
  have hw : ¬s.pwr = psW := by simp [hc, psC, psW]
  have hgoal : s.powerGoal = 2 := by rw [State.powerGoal_steady hawake hentry, if_neg hw, if_pos hc]
  rw [State.powerReq_steady (by decide) (by simp) (by simp [hgoal]) hawake hentry, if_neg (by simp), if_neg hw, if_pos hc]

theorem State.powerReq_deeper (hw : s.pwr = psW) :
    s.powerReq 2 cause = s.setPw (fun w => { w with entry := 6, target := 2, abort := false }) := by
  have hgoal : s.powerGoal = 1 := by rw [State.powerGoal_steady hawake hentry, if_pos hw]
  rw [State.powerReq_steady (by decide) (by simp) (by simp [hgoal]) hawake hentry, if_pos (by simp [hw])]

end

/-! ### The flags that the management interface clears -/

section
variable (s : State) (b : Bool) {f g : Fld}

theorem State.clearIf_frame : (if b then s.wf f 0 else s) = { s with regs := (if b then s.wf f 0 else s).regs } := by
  cases b <;> rfl

theorem State.clearIf_same : (if b then s.wf f 0 else s).rf f = if b then 0 else s.rf f := by
  cases b
  · rfl
  · exact (State.rf_wf_same _ _ _).trans (Nat.zero_mod _)

theorem State.clearIf_ne (h : g.key 0 0 ≠ f.key 0 0) : (if b then s.wf f 0 else s).rf g = s.rf g := by
  cases b
  · rfl
  · exact State.rf_wf_ne _ _ _ _ h

end

theorem State.mgmtClear_spec (s : State) (v : Nat) : let u := s.mgmtClear v
    u = { s with regs := u.regs } ∧
      u.rf TM_PWR.WAKE_N_CTRL.ASSERTED = (if bit v 0 then 0 else s.rf TM_PWR.WAKE_N_CTRL.ASSERTED) ∧
      u.rf TM_PWR.STATE.WAKE_FAIL = (if bit v 1 then 0 else s.rf TM_PWR.STATE.WAKE_FAIL) ∧
      u.rf TM_PWR.STATE.BROWNOUT = if bit v 2 then 0 else s.rf TM_PWR.STATE.BROWNOUT := by
  unfold State.mgmtClear
  refine ⟨?_, ?_, ?_, ?_⟩
  · dsimp only
    rw [State.clearIf_frame, State.clearIf_frame, State.clearIf_frame]
  · rw [State.clearIf_ne _ _ (by decide), State.clearIf_ne _ _ (by decide), State.clearIf_same]
  · rw [State.clearIf_ne _ _ (by decide), State.clearIf_same, State.clearIf_ne _ _ (by decide)]
  · rw [State.clearIf_same, State.clearIf_ne _ _ (by decide), State.clearIf_ne _ _ (by decide)]

/-- Settles O39. -/
theorem powerRequests : Obligations.PowerRequests := by
  intro s
  refine ⟨fun t cause => ⟨State.powerReq_reserved, State.powerReq_goal, State.powerReq_waking, fun hpos hlt hawake hentry hactive hreset => ?_,
    State.powerReq_wake, State.powerReq_wakeCold, State.powerReq_deeper, fun hpos hlt hawake hentry hactive hreset => ?_,
    fun hlt hdown hgoal hawake hentry => ⟨State.powerReq_entering hlt hdown hgoal hawake hentry, fun hzero => ?_⟩, rfl, rfl, rfl⟩,
    fun htm hopen => ⟨fun t => ?_, ?_⟩, fun hrst => ?_⟩
  · rw [State.powerReq_active hawake hentry hpos hlt hactive, if_neg (by simp [hreset])]
  · rw [State.powerReq_active hawake hentry hpos hlt hactive, if_pos hreset]
  · rw [State.powerReq_open hlt hdown, if_neg hgoal, if_neg (by simp [hawake]), if_pos hentry, if_pos hzero]
    rfl
  · exact congrArg Host.Outcome.next ((s.onTm_on _ htm).trans (if_pos hopen))
  · exact congrArg Host.Outcome.next ((s.onTm_on _ htm).trans (if_pos hopen))
  · intro ok bad
    have hwrite (code : Nat) (pec : Bool) (f : State → State) (h : ok pec) : s.mgmtWrite code pec f = f s :=
      if_neg (by rcases h with h | h <;> simp [h])
    have hbad (code : Nat) (f : State → State) (h : s.rfb TM_MGMT.CFG.PEC_REQ = true) : s.mgmtWrite code false f = bad code :=
      if_pos (by simp [h])
    have haon (f : State → State) : s.onAon f = f s := s.onAon_on f hrst
    refine ⟨fun t v pec h => ⟨congrArg Host.Outcome.next ((haon _).trans (hwrite 2 pec _ h)), _,
      congrArg Host.Outcome.next ((haon _).trans (hwrite 3 pec _ h)), s.mgmtClear_spec v⟩, fun t v off h =>
      ⟨congrArg Host.Outcome.next ((haon _).trans (hbad 2 _ h)), congrArg Host.Outcome.next ((haon _).trans (hbad 3 _ h)), fun hserves =>
      congrArg Host.Outcome.next ((haon _).trans ((if_pos hserves).trans (hbad 0x10 _ h)))⟩, congrArg Host.Outcome.next (haon _), rfl,
      congrArg Host.Outcome.next (haon _), fun off pec hserves => ?_, fun off pec hserves h => ?_, fun hd hawake hen hfail => ?_, fun hd => ?_⟩
    · exact congrArg Host.Outcome.next ((haon _).trans (if_neg (by simp [hserves])))
    · exact congrArg Host.Outcome.next ((haon _).trans ((if_pos hserves).trans (hwrite 0x10 pec _ h)))
    · exact congrArg Host.Outcome.next ((haon _).trans (if_neg (by simp [hd, hawake, hen, hfail])))
    · exact congrArg Host.Outcome.next ((haon _).trans (if_pos (by simp [hd])))

end Sys2Proof.Machine
end

section
/-! PROOF. Freeze, snapshots and trace records on their way to the host (R417 to R421, R426). -/

namespace Sys2Proof.Machine

theorem State.tickAhead_bounds (s : State) : s.cycle + 128 ≤ s.tickAhead ∧ s.tickAhead ≤ s.cycle + 129 ∧ s.tickAhead % 2 = 0 := by
  unfold State.tickAhead
  omega

/-! ### Freeze -/

theorem State.freezeWrite_spec (s : State) (v : Nat) (hopen : s.blockOpen 4178 = true) : let t := s.freezeWrite v
    t.rf TM_PERF.FREEZE.FREEZE = v % 2 ∧ t.rf TM_PERF.FREEZE.FROZEN = s.rf TM_PERF.FREEZE.FROZEN ∧
      t.timerAt .freeze 0 = some s.tickAhead ∧ t = { s with regs := t.regs, timers := t.timers } := by
  intro t
  have ht : t = (s.wf TM_PERF.FREEZE.FREEZE (v % 2)).armAt .freeze 0 s.tickAhead := if_pos hopen
  rw [ht]
  refine ⟨?_, ?_, State.timerAt_armAt_same _ _ _ _, rfl⟩
  · rw [State.rf, State.rfp_armAt]
    exact (State.rf_wf_same _ _ _).trans (Nat.mod_mod _ _)
  · rw [State.rf, State.rfp_armAt]
    exact State.rf_wf_ne _ _ _ _ (by decide)

/-! ### Snapshots -/

section
variable {s : State} {id : Nat} {c : Cmd} (hcmd : s.cmd id = some c) (hmay : s.mayStart c = true) (hop : c.opcode = 0x50)
  (hfree : s.snap = none) (hfirst : ∀ x ∈ s.hc.cmds, x.opcode = 0x50 → x.id < id → s.mayStart x = false)
include hcmd hmay hop hfree hfirst

/-- A snapshot command that is its turn is judged by its record, and starts. -/
theorem State.snapshot_first : s.snapshot id =
    if c.bits 128 6 ≠ 0 || c.bits 192 32 < snapLen then s.finishR id stInvalid 20 snapLen
    else if !s.bridgeUp then s.finishR id stTimeout 0 0
    else (({ s.begin id with snap := some ⟨id, none⟩ } : State).wf TM_PERF.SNAP_STATUS.BUSY 1).armAt .snapshot 0 s.tickAhead := by
  have hstart : s.startable id (fun op => decide (op = 0x50)) = some c := State.startable_some hcmd hmay (by simp [hop])
  have hnone : s.hc.cmds.any (fun d => decide (d.opcode = 0x50) && decide (d.id < id) && s.mayStart d) = false := by
    rw [List.any_eq_false]
    intro x hx h
    simp only [Bool.and_eq_true, decide_eq_true_eq] at h
    obtain ⟨⟨hxop, hxid⟩, hxmay⟩ := h
    rw [hfirst x hx hxop hxid] at hxmay
    exact Bool.false_ne_true hxmay
  rw [State.snapshot, hstart]
  simp only [hfree, hnone]
  rfl

end

/-- The state in which a snapshot has been taken: its number, its time and its image. -/
def State.snapTaken (u : State) (id : Nat) : State :=
  let seq := (u.rf TM_PERF.SNAP_SEQ.SEQ + 1) % 2 ^ 32
  let v := (((u.wf TM_PERF.SNAP_SEQ.SEQ seq).wf TM_PERF.SNAP_TIME_NS.NS u.timeNs).wf TM_PERF.SNAP_TIME_SEC_LO.SEC (u.timeSec % 2 ^ 32)).wf
    TM_PERF.SNAP_TIME_SEC_HI.SEC (u.timeSec / 2 ^ 32)
  { v.tookEffect id with snap := some ⟨id, some (u.snapImage seq, u.time80)⟩ }

/-- What the snapshot's tick does once its timer has run out. -/
def State.snapTick (u : State) (id : Nat) : State :=
  if !u.bridgeUp then u.snapEnd stTimeout 0 []
  else if (match u.cmd id with | some c => decide (c.bits 224 1 = 1) | none => false) then
    { u.snapTaken id with hdrs := (u.snapTaken id).hdrs.map (fun e => (e.1, e.2.clearPerf)) }
  else u.snapTaken id

theorem State.snapLatch_expired {s : State} {d id : Nat} {img : Option (Bytes × Nat)} (htimer : s.timerAt .snapshot 0 = some d)
    (hsnap : s.snap = some ⟨id, img⟩) : s.snapLatch = (s.expired .snapshot 0 d).snapTick id := by
  have hstill : (s.expired .snapshot 0 d).snap = some ⟨id, img⟩ := by
    rw [s.expired_frame]
    exact hsnap
  rw [State.snapLatch, State.expire_expired htimer]
  generalize s.expired .snapshot 0 d = u at hstill
  simp only [hstill]
  rfl

/-- Settles O35. -/
theorem countersAndTrace : Obligations.CountersAndTrace := by
  intro s
  refine ⟨fun htm hopen v => ?_, fun htm d htimer => ?_, fun htm id c hcmd hmay hop hfree hfirst => ?_, fun htm d id img htimer hsnap => ?_,
    fun htm id img time c hsnap hcmd => ?_, fun hfe hopen seed => ?_, fun htm v vs u bad hq hpage hen herr hfull => ?_,
    fun hfe v vs u bad hq hpage hen herr hfull hup => ?_⟩
  · obtain ⟨hfreeze, hfrozen, htimer, hframe⟩ := s.freezeWrite_spec v hopen
    obtain ⟨hlo, hhi, heven⟩ := s.tickAhead_bounds
    exact ⟨_, congrArg Host.Outcome.next (s.onTm_on _ htm), hfreeze, hfrozen, htimer, hlo, hhi, heven, hframe⟩
  · refine congrArg Host.Outcome.next ((s.onTm_on _ htm).trans ?_)
    rw [State.freezeApply, s.expire_armed _ _ d htimer]
    rfl
  · have hexec : exec (.snapshot id) s = .next (s.snapshot id) := congrArg Host.Outcome.next (s.onTm_on _ htm)
    rw [hexec, State.snapshot_first hcmd hmay hop hfree hfirst]
    refine ⟨fun hbad => ?_, fun hmask hlen hup => ?_, fun hmask hlen hup => ?_⟩
    · rw [if_pos (by simpa using hbad)]
    · rw [if_neg (by simp [hmask, hlen]), if_pos (by simp [hup])]
    · rw [if_neg (by simp [hmask, hlen]), if_neg (by simp [hup])]
      refine ⟨_, rfl, rfl, ?_, State.timerAt_armAt_same _ _ _ _, rfl, rfl⟩
      rw [State.rf, State.rfp_armAt]
      exact State.rf_wf_same _ _ _
  · have hexec : exec .snapshotLatch s = .next ((s.expired .snapshot 0 d).snapTick id) :=
      congrArg Host.Outcome.next ((s.onTm_on _ htm).trans (State.snapLatch_expired htimer hsnap))
    rw [hexec]
    refine ⟨fun hup => ?_, fun hup c hcmd => ⟨fun hclear => ?_, fun hclear => ?_⟩⟩
    · exact congrArg Host.Outcome.next (if_pos (by simp [hup]))
    · refine congrArg Host.Outcome.next ((if_neg (by simp [hup])).trans (if_pos ?_))
      simp [hcmd, hclear]
    · refine congrArg Host.Outcome.next ((if_neg (by simp [hup])).trans (if_neg ?_))
      simp [hcmd, hclear]
  · refine ⟨fun hup => congrArg Host.Outcome.next ((s.onTm_on _ htm).trans ?_), fun hup => congrArg Host.Outcome.next ((s.onTm_on _ htm).trans ?_)⟩
    · rw [State.snapCopied, hsnap]
      exact if_pos (by simp [hup])
    · rw [State.snapCopied, hsnap]
      simp [hup, hcmd]
  · exact congrArg Host.Outcome.next ((s.onFe_on _ hfe).trans (if_pos hopen))
  · have hexec : exec (.traceExport true bad) s = .next (s.traceExport true bad) :=
      congrArg Host.Outcome.next ((if_pos rfl).trans (s.onTm_on _ htm))
    refine ⟨fun hw => ?_, fun hw => ?_⟩
    · simp [hexec, State.traceExport, hq, hpage, hen, herr, hfull, hw]
    · simp [hexec, State.traceExport, hq, hpage, hen, herr, hfull, hw]
  · have hexec : exec (.traceExport false bad) s = .next (s.traceExport false bad) :=
      congrArg Host.Outcome.next ((if_neg (by decide)).trans (s.onFe_on _ hfe))
    refine ⟨fun hw => ?_, fun hw => ?_⟩
    · simp [hexec, State.traceExport, hq, hpage, hen, herr, hfull, hup, hw]
    · simp [hexec, State.traceExport, hq, hpage, hen, herr, hfull, hup, hw]

end Sys2Proof.Machine
end

section
/-! PROOF. Clock faults, adjustments of device time, and the time of day (R449 to R455). -/

namespace Sys2Proof.Machine

/-! ### Clock faults -/

theorem State.tmOn_unlocked (s : State) : (s.wf TM_CLK.STATUS.ROOT_LOCK 0).tmOn = false := by
  have hlock : (s.wf TM_CLK.STATUS.ROOT_LOCK 0).rfb TM_CLK.STATUS.ROOT_LOCK = false :=
    decide_eq_false (by rw [State.rf_wf_same]; decide)
  rw [State.tmOn, hlock, Bool.false_and]

theorem State.feOn_unlocked (s : State) : (s.wf FE_CLK.STATUS.ROOT_LOCK 0).feOn = false := by
  have hlock : (s.wf FE_CLK.STATUS.ROOT_LOCK 0).rfb FE_CLK.STATUS.ROOT_LOCK = false :=
    decide_eq_false (by rw [State.rf_wf_same]; decide)
  rw [State.feOn, hlock, Bool.false_and]

theorem State.sat1_cycle (s : State) (f : Fld) : (s.sat1 f).cycle = s.cycle := by rw [State.sat1, State.sat_frame]

theorem clockFaults : Claims.ClockFaults := by
  intro s
  refine ⟨fun htm => ?_, fun hfe => ?_, fun htm => ?_, fun htm hactive khz hk => ?_, fun htm hfe fe => ?_⟩
  · exact ⟨_, congrArg Host.Outcome.next ((if_pos rfl).trans (s.onTm_on _ htm)), State.rf_wf_same _ _ _, State.tmOn_unlocked _, rfl⟩
  · exact ⟨_, congrArg Host.Outcome.next ((if_neg (by decide)).trans (s.onFe_on _ hfe)), State.rf_wf_same _ _ _, State.feOn_unlocked _, rfl⟩
  · exact congrArg Host.Outcome.next (s.onTm_on _ htm)
  · have hexec : exec (.aonOscCheck khz) s = .next (s.aonCheck khz) := congrArg Host.Outcome.next (s.onTm_on _ htm)
    rw [hexec, State.aonCheck, if_neg (by simp [hactive]), Nat.mod_eq_of_lt hk]
    refine ⟨fun hlo hhi => ?_, fun hout => ?_⟩
    · simp [hlo, hhi, b2n]
    · have hbad : (decide (23750 ≤ khz) && decide (khz ≤ 26250)) = false := by
        rw [Bool.and_eq_false_iff, decide_eq_false_iff_not, decide_eq_false_iff_not]
        omega
      simp [hbad, b2n]
  · intro u
    have hexec : exec (.cycleCheckMarker fe) s = .next (s.cycleMarker fe) :=
      congrArg Host.Outcome.next ((s.onTm_on _ htm).trans (s.onFe_on _ hfe))
    rw [hexec]
    refine ⟨fun heq => congrArg Host.Outcome.next (if_pos heq), fun hne => congrArg Host.Outcome.next ((if_neg hne).trans ?_)⟩
    rw [State.sat1_cycle, State.wf_cycle]

/-! ### Adjustments of device time -/

theorem State.onPtp_on (s : State) (f : State → State) (hfe : s.feOn = true) (hopen : s.blockOpen 76 = true) : s.onPtp f = f s :=
  (s.onFe_on _ hfe).trans (if_pos hopen)

theorem State.adjust_spec (s : State) (a : TimeAdj) : let t := s.adjust a
    t.ptp = { s.ptp with adjs := s.ptp.adjs ++ [(s.tickAhead, a)] } ∧ t.rf FE_PTP.TIME_CTRL.BUSY = 1 ∧
      t = { s with regs := t.regs, ptp := t.ptp } :=
  ⟨rfl, State.rf_wf_same _ _ _, rfl⟩

theorem timeAdjustments : Claims.TimeAdjustments := by
  intro s hfe
  have hskip (f : State → State) (hf : f s = s) : s.onPtp f = s := by
    rw [State.onPtp, s.onFe_on _ hfe, hf, ite_self]
  refine ⟨fun hopen hidle => ?_, fun hbusy => ⟨?_, ?_⟩, fun hopen v => ?_, fun hnone => ?_, fun t a rest hadjs => ?_⟩
  · obtain ⟨hptp, hbusy, hframe⟩ := s.adjust_spec (.step (s.rf FE_PTP.SET_SEC_HI.SEC * 2 ^ 32 + s.rf FE_PTP.SET_SEC_LO.SEC)
      (min (s.rf FE_PTP.SET_NS.NS) 999999999))
    obtain ⟨hptp', hbusy', hframe'⟩ := s.adjust_spec (.offset (s.rf FE_PTP.OFFSET_NS.NS))
    exact ⟨_, _, congrArg Host.Outcome.next ((s.onPtp_on _ hfe hopen).trans (if_neg (by simp [hidle]))),
      congrArg Host.Outcome.next ((s.onPtp_on _ hfe hopen).trans (if_neg (by simp [hidle]))), hptp, hbusy, hframe, hptp', hbusy', hframe'⟩
  · exact congrArg Host.Outcome.next (hskip _ (if_pos hbusy))
  · exact congrArg Host.Outcome.next (hskip _ (if_pos hbusy))
  · have hexec : exec (.addendWrite v) s = .next (s.addendWrite v) := congrArg Host.Outcome.next (s.onPtp_on _ hfe hopen)
    obtain ⟨hptp, hbusy, hframe⟩ := (s.wf FE_PTP.ADDEND_NS.NS v).adjust_spec (.addend (v % 2 * 2 ^ 32 + s.rf FE_PTP.ADDEND_FRAC.FRAC))
    have hfrac : (s.wf FE_PTP.ADDEND_NS.NS v).rf FE_PTP.ADDEND_FRAC.FRAC = s.rf FE_PTP.ADDEND_FRAC.FRAC :=
      State.rf_wf_ne _ _ _ _ (by decide)
    rw [hexec, State.addendWrite]
    dsimp only
    rw [hfrac]
    refine ⟨_, rfl, ?_, hptp, hbusy, hframe⟩
    rw [State.adjust, State.rf_wf_ne _ _ _ _ (by decide)]
    exact State.rf_wf_same _ _ _
  · refine congrArg Host.Outcome.next ((s.onFe_on _ hfe).trans ?_)
    rw [State.timeApply, hnone]
  · intro v u since
    have hexec : exec .timeAdjustApply s = .next (u.adjApply t a) := by
      refine congrArg Host.Outcome.next ((s.onFe_on _ hfe).trans ?_)
      rw [State.timeApply, hadjs]
      dsimp only
      cases rest with
      | nil => rfl
      | cons x xs => rfl
    rw [hexec]
    cases a with
    | addend x => rfl
    | step sec ns => rfl
    | offset ns => rfl

/-! ### The time of day -/

/-- The edge out: the pulse rises, and the second it tells is kept. -/
def State.ppsRaised (u : State) : State := { u with ptp := { u.ptp with ppsOut := true, ppsSec := u.timeSec } }

/-- The pulse and its message at the edge out. -/
def State.ppsPulse (u : State) : State :=
  let v := u.ppsRaised.arm .ppsWidth 0 (orWhenZero (u.rf FE_PTP.PPS_CTRL.WIDTH_MS) 1 * cyMs)
  if u.rfb FE_PTP.TOD_CTRL.TX_EN then v.arm .todSend 0 (u.rf FE_PTP.TOD_CTRL.TX_DELAY_MS * cyMs) else v

theorem State.ppsPulse_eq (u : State) : u.ppsPulse =
    let v := u.ppsRaised.arm .ppsWidth 0 (orWhenZero (u.ppsRaised.rf FE_PTP.PPS_CTRL.WIDTH_MS) 1 * cyMs)
    if v.rfb FE_PTP.TOD_CTRL.TX_EN then v.arm .todSend 0 (v.rf FE_PTP.TOD_CTRL.TX_DELAY_MS * cyMs) else v := rfl

theorem State.ppsOut_on {s : State} (hen : s.rfb FE_PTP.PPS_CTRL.OUT_EN = true) (hrun : s.timeRun = true) :
    s.ppsOut = (s.advanceTo (s.cycleOfTime ((s.time / secUnits + 1) * secUnits))).ppsPulse := by
  rw [State.ppsOut, if_neg (by simp [hen, hrun]), State.ppsPulse_eq]
  rfl

/-- The edge in captured at the time `c`. -/
def State.ppsCaptured (u : State) (c : Nat) : State :=
  (((u.wf FE_PTP.PPS_CAP_NS.NS (c / 2 ^ 32 % 1000000000)).wf FE_PTP.PPS_CAP_SEC_LO.SEC (c / secUnits)).wf FE_PTP.PPS_CAP_SEC_HI.SEC
    (c / secUnits / 2 ^ 32)).wf FE_PTP.PPS_CAP_CTRL.VALID 1

theorem State.ppsCaptured_spec (u : State) (c : Nat) : let t := u.ppsCaptured c
    t = { u with regs := t.regs } ∧ t.rf FE_PTP.PPS_CAP_CTRL.VALID = 1 ∧ t.rf FE_PTP.PPS_CAP_NS.NS = c / 2 ^ 32 % 1000000000 ∧
      t.rf FE_PTP.PPS_CAP_SEC_LO.SEC = c / secUnits % 2 ^ 32 ∧
      t.rf FE_PTP.PPS_CAP_SEC_HI.SEC = c / secUnits / 2 ^ 32 % 2 ^ FE_PTP.PPS_CAP_SEC_HI.SEC.w := by
  have hns : c / 2 ^ 32 % 1000000000 % 2 ^ FE_PTP.PPS_CAP_NS.NS.w = c / 2 ^ 32 % 1000000000 :=
    Nat.mod_eq_of_lt ((Nat.mod_lt _ (by decide)).trans (by decide))
  refine ⟨by simp only [State.ppsCaptured, State.wf_frame], State.rf_wf_same _ _ _, ?_, ?_, ?_⟩
  all_goals simp (disch := decide) only [State.ppsCaptured, State.rf_get, State.wf_regs, regGet_regPut_ne, regGet_regPut_same]
  · exact hns
  · rfl

/-- A time-of-day message received with its second and its status. -/
def State.todTaken (s : State) (sec status : Nat) : State :=
  (((s.wf FE_PTP.TOD_RX_SEC_LO.SEC sec).wf FE_PTP.TOD_RX_SEC_HI.SEC (sec / 2 ^ 32)).wf FE_PTP.TOD_RX_SEC_HI.STATUS status).wf
    FE_PTP.TOD_RX_CTRL.VALID 1

theorem State.todTaken_spec (s : State) (sec status : Nat) : let t := s.todTaken sec status
    t = { s with regs := t.regs } ∧ t.rf FE_PTP.TOD_RX_CTRL.VALID = 1 ∧ t.rf FE_PTP.TOD_RX_SEC_LO.SEC = sec % 2 ^ 32 ∧
      t.rf FE_PTP.TOD_RX_SEC_HI.SEC = sec / 2 ^ 32 % 2 ^ FE_PTP.TOD_RX_SEC_HI.SEC.w ∧
      t.rf FE_PTP.TOD_RX_SEC_HI.STATUS = status % 2 ^ FE_PTP.TOD_RX_SEC_HI.STATUS.w := by
  refine ⟨by simp only [State.todTaken, State.wf_frame], State.rf_wf_same _ _ _, ?_, ?_, ?_⟩
  all_goals simp (disch := decide) only [State.todTaken, State.rf_get, State.wf_regs, regGet_regPut_ne, regGet_regPut_same]
  rfl

theorem timeOfDay : Claims.TimeOfDay := by
  intro s hfe
  refine ⟨fun hen hrun => ?_, fun d htimer => ?_, fun f hoff => ?_, fun hen => ?_, fun d htimer => ?_, fun d htimer => ?_, fun hen b cut => ?_,
    fun hopen => ⟨congrArg Host.Outcome.next (s.onPtp_on _ hfe hopen), congrArg Host.Outcome.next (s.onPtp_on _ hfe hopen)⟩⟩
  · exact congrArg Host.Outcome.next ((s.onFe_on _ hfe).trans (State.ppsOut_on hen hrun))
  · have hexec : exec .ppsOutPulseEnd s = .next s.ppsFall := congrArg Host.Outcome.next (s.onFe_on _ hfe)
    rw [hexec, State.ppsFall, State.expire_expired htimer]
    exact ⟨_, rfl, rfl, rfl⟩
  · refine congrArg Host.Outcome.next ((s.onFe_on _ hfe).trans (if_pos ?_))
    simpa using hoff
  · intro f u c
    have hexec : exec (.ppsInEdge f) s = .next (s.ppsIn f) := congrArg Host.Outcome.next (s.onFe_on _ hfe)
    rw [hexec, State.ppsIn, if_neg (by simp [hen, f])]
    refine ⟨fun hvalid => congrArg Host.Outcome.next (if_pos hvalid), fun hvalid => ?_⟩
    exact ⟨u.ppsCaptured c, congrArg Host.Outcome.next (if_neg (Bool.not_eq_true _ ▸ hvalid)), u.ppsCaptured_spec c⟩
  · refine congrArg Host.Outcome.next ((s.onFe_on _ hfe).trans ?_)
    rw [State.ppsMissing, State.expire_expired htimer]
  · refine congrArg Host.Outcome.next ((s.onFe_on _ hfe).trans ?_)
    rw [State.todSend, State.expire_expired htimer]
  · have hexec : exec (.todRxMessage b cut) s = .next (s.todRx b cut) := congrArg Host.Outcome.next (s.onFe_on _ hfe)
    rw [hexec, State.todRx, if_neg (by simp [hen])]
    refine ⟨fun k hk => ?_, fun hgood hvalid => ?_, fun hgood hvalid => ?_⟩
    · rw [hk]
    · rw [hgood]
      refine ⟨s.todTaken (beNat ((b.drop 2).take 6)) (byteAt b 8), congrArg Host.Outcome.next (if_neg (by simp [hvalid])), s.todTaken_spec _ _⟩
    · rw [hgood]
      exact congrArg Host.Outcome.next (if_pos hvalid)

/-- Settles O36. -/
theorem clocksAndTime : Obligations.ClocksAndTime := ⟨clockFaults, timeAdjustments, timeOfDay⟩

end Sys2Proof.Machine
end

section
/-! PROOF. The calendar, the samplers and the record rings (R324, R335, R336, R338). -/

namespace Sys2Proof.Machine

/-! ### The calendar -/

theorem foldl_min_image_le {α : Type} (f : α → Nat) (l : List α) (m : Nat) :
    l.foldl (fun m x => min m (f x)) m ≤ m ∧ ∀ x ∈ l, l.foldl (fun m x => min m (f x)) m ≤ f x := by
  induction l generalizing m with
  | nil => simp
  | cons a l ih =>
    obtain ⟨hm, hl⟩ := ih (min m (f a))
    rw [List.foldl_cons]
    simp only [List.mem_cons, forall_eq_or_imp]
    exact ⟨hm.trans (min_le_left _ _), hm.trans (min_le_right _ _), hl⟩

theorem le_foldl_min {α : Type} (f : α → Nat) (l : List α) {m b : Nat} (hm : b ≤ m) (hl : ∀ x ∈ l, b ≤ f x) :
    b ≤ l.foldl (fun m x => min m (f x)) m := by
  induction l generalizing m with
  | nil => exact hm
  | cons a l ih =>
    rw [List.foldl_cons]
    simp only [List.mem_cons, forall_eq_or_imp] at hl
    exact ih (le_min hm hl.1) hl.2

/-- The least value over a list, started from one of its own, is that of an element that none undercuts. -/
theorem foldl_min_eq {α : Type} (f : α → Nat) {l : List α} {a e : α} (ha : a ∈ l) (he : e ∈ l) (hmin : ∀ x ∈ l, f e ≤ f x) :
    l.foldl (fun m x => min m (f x)) (f a) = f e :=
  le_antisymm ((foldl_min_image_le f l (f a)).2 e he) (le_foldl_min f l (hmin a ha) hmin)

/-- A fine slot served on the state whose clock stands at it. -/
def State.calServe (u : State) (slot : Nat) : State :=
  let due := u.sc.cal.filter (fun e => !e.coarse && decide (e.slot = slot))
  let late := (due.drop 1024).map (fun e => { e with slot := slot + 1 })
  let v := (due.take 1024).foldl (fun (u : State) e => u.calEnter e.node)
    (u.setCal (late ++ u.sc.cal.filter (fun e => e.coarse || decide (e.slot ≠ slot))))
  if late.isEmpty then v else (v.sat TM_SHAPE.CAL_LATE.COUNT 0 0 late.length).raiseO Ev.TM_SHAPE.CAL_LATE 0 (some 0) none (some late.length)

theorem State.calFine_serve {s : State} {a : CalEnt} (ha : (s.sc.cal.filter (fun e => !e.coarse)).head? = some a) {slot : Nat}
    (hslot : (s.sc.cal.filter (fun e => !e.coarse)).foldl (fun m e => min m e.slot) a.slot = slot) :
    s.calFine = (s.advanceTo (s.cycleOfTime (slot * slot32))).calServe slot := by
  subst hslot
  rw [State.calFine]
  dsimp only
  rw [ha]
  rfl

theorem State.calServe_late {u : State} {slot : Nat} {l : List CalEnt} (hl : u.sc.cal = l) :
    let due := l.filter (fun x => !x.coarse && decide (x.slot = slot))
    let late := (due.drop 1024).map (fun x => { x with slot := slot + 1 })
    let v := (due.take 1024).foldl (fun (u : State) x => u.calEnter x.node)
      (u.setCal (late ++ l.filter (fun x => x.coarse || decide (x.slot ≠ slot))))
    (due.length ≤ 1024 → u.calServe slot = v) ∧
    (1024 < due.length → u.calServe slot =
      (v.sat TM_SHAPE.CAL_LATE.COUNT 0 0 late.length).raiseO Ev.TM_SHAPE.CAL_LATE 0 (some 0) none (some late.length)) := by
  intro due late v
  have hlate : late.isEmpty = true ↔ due.length ≤ 1024 := by
    simp [late, List.isEmpty_iff, List.drop_eq_nil_iff]
  subst hl
  exact ⟨fun h => if_pos (hlate.mpr h), fun h => if_neg (by rw [hlate]; omega)⟩

/-- A coarse slot's shapers moved into the fine wheel. -/
def State.calMove (u : State) (l : List CalEnt) (c : Nat) : State :=
  u.setCal (l.filter (fun e => !(e.coarse && decide (e.slot / 65536 = c))) ++
    (l.filter (fun e => e.coarse && decide (e.slot / 65536 = c))).map (fun e => { e with coarse := false }))

theorem State.calCoarse_move {s : State} {a : CalEnt} (ha : (s.sc.cal.filter (fun e => e.coarse)).head? = some a) {c : Nat}
    (hc : (s.sc.cal.filter (fun e => e.coarse)).foldl (fun m e => min m (e.slot / 65536)) (a.slot / 65536) = c) :
    s.calCoarse = (s.advanceTo (s.cycleOfTime (c * 65536 * slot32))).calMove
      (s.advanceTo (s.cycleOfTime (c * 65536 * slot32))).sc.cal c := by
  subst hc
  rw [State.calCoarse]
  dsimp only
  rw [ha]
  rfl

theorem State.advanceTo_cal (s : State) (c : Nat) : (s.advanceTo c).sc.cal = s.sc.cal := rfl

theorem calendar : Claims.Calendar := by
  intro s htm
  have hfine : exec .calendarFineSlot s = .next s.calFine := congrArg Host.Outcome.next (s.onTm_on _ htm)
  have hcoarse : exec .calendarCoarseSlot s = .next s.calCoarse := congrArg Host.Outcome.next (s.onTm_on _ htm)
  refine ⟨fun hnone => ?_, fun hnone => ?_, fun e he hfe hmin => ?_, fun e he hce hmin => ?_⟩
  · have hempty : s.sc.cal.filter (fun e => !e.coarse) = [] := by simpa [List.filter_eq_nil_iff] using hnone
    simp [hfine, State.calFine, hempty]
  · have hempty : s.sc.cal.filter (fun e => e.coarse) = [] := by simpa [List.filter_eq_nil_iff] using hnone
    simp [hcoarse, State.calCoarse, hempty]
  · intro u due late v
    have hef : e ∈ s.sc.cal.filter (fun e => !e.coarse) := List.mem_filter.mpr ⟨he, by simp [hfe]⟩
    obtain ⟨a, ha⟩ : ∃ a, (s.sc.cal.filter (fun e => !e.coarse)).head? = some a := ⟨_, List.head?_eq_some_head (List.ne_nil_of_mem hef)⟩
    have hslot : (s.sc.cal.filter (fun e => !e.coarse)).foldl (fun m e => min m e.slot) a.slot = e.slot :=
      foldl_min_eq CalEnt.slot (List.mem_of_head? ha) hef fun x hx => by
        obtain ⟨hx, hxf⟩ := List.mem_filter.mp hx
        exact hmin x hx (by simpa using hxf)
    have hserve := State.calFine_serve ha hslot
    obtain ⟨hall, hlate⟩ := State.calServe_late (u := u) (slot := e.slot) (s.advanceTo_cal _)
    rw [hfine, hserve]
    exact ⟨fun h => congrArg Host.Outcome.next (hall h), fun h => congrArg Host.Outcome.next (hlate h)⟩
  · have hec : e ∈ s.sc.cal.filter (fun e => e.coarse) := List.mem_filter.mpr ⟨he, hce⟩
    obtain ⟨a, ha⟩ : ∃ a, (s.sc.cal.filter (fun e => e.coarse)).head? = some a := ⟨_, List.head?_eq_some_head (List.ne_nil_of_mem hec)⟩
    have hslot : (s.sc.cal.filter (fun e => e.coarse)).foldl (fun m e => min m (e.slot / 65536)) (a.slot / 65536) = e.slot / 65536 :=
      foldl_min_eq (fun e => e.slot / 65536) (List.mem_of_head? ha) hec fun x hx => by
        obtain ⟨hx, hxc⟩ := List.mem_filter.mp hx
        exact hmin x hx hxc
    rw [hcoarse, State.calCoarse_move ha hslot, State.advanceTo_cal]
    rfl

/-! ### The samplers and the record rings -/

/-- The settings that a write of a record ring's control register takes. -/
def State.recSettings (s : State) (r : RecRingId) (v : Nat) : State :=
  let s := s.wf (recRingOf r).2.1.log2 (bits v 0 5)
  if r = .notify then s.wf FE_LEARN.NOTIFY_CTRL.OUTCOMES (bits v 8 7)
  else (s.wf (recRingOf r).2.1.coalCount (bits v 8 8)).wf (recRingOf r).2.1.coalUs (bits v 16 16)

/-- The state in which a record ring's error is cleared, for the rings that show one. -/
def State.recCleared (s : State) (r : RecRingId) : State :=
  match r with
  | .log => s.wf TM_LOG.RING_STATUS.ERROR 0
  | .feTrace => s.wf FE_TRACE.RING_STATUS.ERROR 0
  | .tmTrace => s.wf TM_PERF.RING_STATUS.ERROR 0
  | _ => s

theorem State.recRingCtrl_on (s : State) (r : RecRingId) {v : Nat} (hopen : s.blockOpen (recRingOf r).1 = true) (hen : bit v 5 = true) :
    s.recRingCtrl r v = if bits v 0 5 < 6 ∨ 16 < bits v 0 5 then
      ((s.recSettings r v).wf (recRingOf r).2.1.enable 0).raise (recRingOf r).2.2 0 1 ((s.recSettings r v).rf (recRingOf r).2.1.tail)
        ((s.recSettings r v).rf (recRingOf r).2.1.head)
      else ((s.recSettings r v).recCleared r).recEnable (recRingOf r).2.1 := by
  have hsize : (decide (bits v 0 5 < 6) || decide (16 < bits v 0 5)) = true ↔ bits v 0 5 < 6 ∨ 16 < bits v 0 5 := by simp
  rw [State.recRingCtrl]
  dsimp only
  rw [if_neg (by simp [hopen]), if_neg (by simp [hen])]
  simp only [hsize]
  rfl

theorem State.recSettings_ne (s : State) (r : RecRingId) (v : Nat) {f : Fld} (hf : f = (recRingOf r).2.1.tail ∨ f = (recRingOf r).2.1.head) :
    (s.recSettings r v).rf f = s.rf f := by
  rcases hf with rfl | rfl <;> cases r <;>
    simp (disch := decide) [State.recSettings, State.rf_get, recRingOf, sampleRing, logRing, feTraceRing, tmTraceRing, regGet_regPut_ne]

/-- A record ring enabled is empty, at phase 1 and of the size written. -/
theorem State.recOpened_spec (s : State) (r : RecRingId) (v : Nat) : let t := ((s.recSettings r v).recCleared r).recEnable (recRingOf r).2.1
    t.rf (recRingOf r).2.1.enable = 1 ∧ t.rf (recRingOf r).2.1.log2 = bits v 0 5 ∧ t.rf (recRingOf r).2.1.tail = 0 ∧
      t.rf (recRingOf r).2.1.head = 0 ∧ t.rf (recRingOf r).2.1.phase = 1 ∧ t.pkts = s.pkts ∧ t.hc = s.hc := by
  have hlog := bits_mod v 0 5
  cases r <;>
    simp (disch := decide) only [State.recSettings, State.recCleared, State.recEnable, State.rf_get, recRingOf, sampleRing, logRing, feTraceRing,
      tmTraceRing, regGet_regPut_ne, regGet_regPut_same, State.wf_regs, State.wf_pkts, State.wf_hc, if_true, if_false, reduceCtorEq]
  all_goals exact ⟨rfl, hlog, rfl, rfl, rfl, trivial, trivial⟩

theorem samplesAndRings : Claims.SamplesAndRings := by
  intro s htm
  refine ⟨fun hopen v => ?_, fun d htimer => ⟨fun hop q hq => ?_, fun hnone => ?_⟩, fun htimer => ?_, fun r ctrl hopen hlo hhi => ?_,
    fun r ctrl hopen hbad => ?_, fun r v hopen => ?_⟩
  · refine ⟨_, congrArg Host.Outcome.next ((s.onTm_on _ htm).trans (if_pos hopen)), State.rf_wf_same _ _ _, rfl, rfl⟩
  · refine congrArg Host.Outcome.next ((s.onTm_on _ htm).trans ?_)
    rw [State.depthSample, State.expire_expired htimer]
    refine (if_pos hop).trans (congrArg State.depthArm ?_)
    rw [State.depthTake, hq]
    rfl
  · refine congrArg Host.Outcome.next ((s.onTm_on _ htm).trans ?_)
    rw [State.depthSample, State.expire_expired htimer]
    rcases hnone with hoff | hnone
    · exact if_neg (by simp [hoff])
    · dsimp only
      rw [State.depthTake, hnone, ite_self]
  · refine congrArg Host.Outcome.next ((s.onTm_on _ htm).trans ?_)
    rw [State.depthSample, s.expire_none _ _ htimer]
  · have hctrl := s.recRingCtrl_on r (v := setBit (ctrl % 2 ^ 32) 5 true) hopen (bit_setBit_same _ _ _)
    have hlog : bits (setBit (ctrl % 2 ^ 32) 5 true) 0 5 = bits ctrl 0 5 := by
      rw [bits_setBit_apart _ _ (by omega), bits_mod_two_pow _ (by omega)]
    rw [hlog, if_neg (by omega)] at hctrl
    refine ⟨_, congrArg Host.Outcome.next (s.onTm_on _ htm), ?_⟩
    rw [hctrl, ← hlog]
    exact s.recOpened_spec r _
  · intro a u
    have hctrl := s.recRingCtrl_on r (v := setBit (ctrl % 2 ^ 32) 5 true) hopen (bit_setBit_same _ _ _)
    rw [State.recSettings_ne _ _ _ (Or.inl rfl), State.recSettings_ne _ _ _ (Or.inr rfl)] at hctrl
    have hbits {l n : Nat} (h : l + n ≤ 5 ∨ 6 ≤ l) (hn : l + n ≤ 32) : bits (setBit (ctrl % 2 ^ 32) 5 true) l n = bits ctrl l n := by
      rw [bits_setBit_apart _ _ h, bits_mod_two_pow _ hn]
    have hset : s.recSettings r (setBit (ctrl % 2 ^ 32) 5 true) = u := by
      rw [State.recSettings, hbits (by omega) (by omega), hbits (by omega) (by omega), hbits (by omega) (by omega), hbits (by omega) (by omega)]
    rw [hbits (by omega) (by omega), if_pos hbad, hset] at hctrl
    exact congrArg Host.Outcome.next ((s.onTm_on _ htm).trans hctrl)
  · exact congrArg Host.Outcome.next ((s.onTm_on _ htm).trans (if_pos hopen))

/-- Settles O27. -/
theorem calendarAndSamples : Obligations.CalendarAndSamples := ⟨calendar, samplesAndRings⟩

end Sys2Proof.Machine
end

section
/-! PROOF. Fault records on their way, Squall, ALIVE and the heartbeat (R383, R385, R390 to R394, R401). -/

namespace Sys2Proof.Machine

/-! ### Records and Squall -/

theorem State.ringPush_rf (s : State) (r : LogRec) {f : Fld} (h : f.key 0 0 ≠ TM_LOG.SEQ_NEXT.SEQ.key 0 0) :
    (s.ringPush r).rf f = s.rf f := State.rf_wf_ne _ _ _ _ h

/-- What a window's end does once its timer has run out: the summaries are written, and the episode ends or goes on. -/
def State.squallClose (v : State) : State :=
  if v.log.ring.length ≤ v.squallExitThr && v.log.sums.isEmpty then
    ((v.wf TM_LOG.SQUALL_STATUS.ACTIVE 0).ringPush ⟨4177, 1, (v.hdr 4177).sevOf 1, (v.hdr 4177).actOf 1, 0, .squallEnd, false, 0, v.time80,
      v.log.episode, v.rf TM_LOG.SQUALL_STATUS.WINDOWS⟩).raise Ev.TM_LOG.SQUALL_EXIT 0 0 v.log.episode (v.rf TM_LOG.SQUALL_STATUS.WINDOWS)
  else v.arm .squall 0 (orWhenZero (v.rf TM_LOG.SQUALL_WINDOW.MS) 1 * cyMs)

theorem State.squallEnd_expired {s : State} {d : Nat} (htimer : s.timerAt .squall 0 = some d) :
    let u := s.expired .squall 0 d
    let w := u.wf TM_LOG.SQUALL_STATUS.WINDOWS (satAdd 16 (u.rf TM_LOG.SQUALL_STATUS.WINDOWS) 1)
    s.squallEnd = (w.log.sums.foldl (fun (s : State) e => s.summary e.1 e.2) w).squallClose := by
  rw [State.squallEnd, State.expire_expired htimer]
  rfl

theorem faultRecords : Claims.FaultRecords := by
  intro s
  refine ⟨fun hfe r rs hfwd => ?_, fun htm r rs hring hop hen herr hfull => ?_, fun htm hoff a b => ?_, fun htm d htimer => ?_,
    fun htm hopen sel => ?_⟩
  · intro u
    have hexec (bad : Bool) : exec (.feRecordForward bad) s = .next (s.recordForward bad) := congrArg Host.Outcome.next (s.onFe_on _ hfe)
    refine ⟨fun hup => ⟨?_, ?_⟩, fun hup bad => ?_⟩
    · rw [hexec, State.recordForward, hfwd]
      exact congrArg Host.Outcome.next ((if_neg (by simp [hup])).trans (if_pos rfl))
    · rw [hexec, State.recordForward, hfwd]
      exact congrArg Host.Outcome.next ((if_neg (by simp [hup])).trans (if_neg (by decide)))
    · rw [hexec, State.recordForward, hfwd]
      exact congrArg Host.Outcome.next (if_pos (by simp [hup]))
  · intro out
    have hexec (a b : Bool) : exec (.logExport a b) s = .next (if a then (out s).loseRec 4177 else
        match s.recWrite logRing b r.word with
        | (true, s) => (out s).inc1 TM_LOG.EXPORTED.COUNT
        | (false, s) =>
          (s.wf TM_LOG.RING_STATUS.ERROR 1).raise Ev.TM_LOG.EXPORT_ERR 0 0 (s.rf TM_LOG.RING_STATUS.TAIL)
            (s.rf TM_LOG.RING_HEAD.HEAD)) := by
      refine congrArg Host.Outcome.next ((s.onTm_on _ htm).trans ?_)
      rw [State.logExport, hring]
      exact if_neg (by simp [hop, hen, herr, hfull])
    refine ⟨fun w => hexec true w, fun u hw => ?_, fun u bad hw => ?_⟩
    · rw [hexec, hw]
      rfl
    · rw [hexec, hw]
      rfl
  · refine congrArg Host.Outcome.next ((s.onTm_on _ htm).trans ?_)
    rw [State.logExport]
    split
    · rfl
    · refine if_pos ?_
      rcases hoff with h | h | h <;> simp [h]
  · intro u w v
    have hexec : exec .squallWindowEnd s = .next v.squallClose :=
      congrArg Host.Outcome.next ((s.onTm_on _ htm).trans (State.squallEnd_expired htimer))
    rw [hexec]
    have hcond : (decide (v.log.ring.length ≤ v.squallExitThr) && v.log.sums.isEmpty) = true ↔
        v.log.ring.length ≤ v.squallExitThr ∧ v.log.sums = [] := by
      rw [Bool.and_eq_true, decide_eq_true_eq, List.isEmpty_iff]
    refine ⟨fun hlen hsums => ⟨_, congrArg Host.Outcome.next (if_pos (hcond.mpr ⟨hlen, hsums⟩)), ?_, rfl⟩,
      fun h => congrArg Host.Outcome.next (if_neg (mt hcond.mp h))⟩
    exact (State.ringPush_rf _ _ (by decide)).trans (State.rf_wf_same _ _ _)
  · refine ⟨_, congrArg Host.Outcome.next ((s.onTm_on _ htm).trans (if_neg (by simp [hopen]))), ?_, ?_⟩
    · rw [State.setCnt_frame]
      simp only [State.wf_frame]
    · rw [State.rf_get, State.setCnt_regs, regGet_regPut_same]
      rfl

/-! ### ALIVE and the heartbeat -/

theorem State.heartbeat_spec (s : State) (hopen : s.blockOpen 4176 = true) : let t := s.heartbeat
    t = { s with regs := t.regs, timers := t.timers } ∧ t.timerAt .hbHold 0 = none ∧
      t.timerAt .heartbeat 0 = some (s.cycle + 100 * cyMs) ∧
      t.rf TM_FAULT.ALIVE_STATUS.STATE = if s.rf TM_FAULT.ALIVE_STATUS.STATE = 0 then 1 else s.rf TM_FAULT.ALIVE_STATUS.STATE := by
  have hbeat : s.heartbeat = ((if s.rf TM_FAULT.ALIVE_STATUS.STATE = 0 then s.wf TM_FAULT.ALIVE_STATUS.STATE 1 else s).disarm
      .hbHold 0).arm .heartbeat 0 (100 * cyMs) := if_neg (by simp [hopen])
  have hgone (u : State) : ((u.disarm .hbHold 0).arm .heartbeat 0 (100 * cyMs)).timerAt .hbHold 0 = none :=
    (State.timerAt_armAt_ne _ _ _ _ _ _ (by decide)).trans (State.timerAt_disarm_same _ _ _)
  rw [hbeat]
  refine ⟨?_, hgone _, (State.timerAt_arm_same _ _ _ _).trans ?_, ?_⟩
  · split <;> rfl
  · split <;> rfl
  · split
    · exact State.rf_wf_same s TM_FAULT.ALIVE_STATUS.STATE 1
    · rfl

theorem aliveCommands : Claims.AliveCommands := by
  intro s htm
  have hbeat : exec .heartbeat s = .next s.heartbeat := congrArg Host.Outcome.next (s.onTm_on _ htm)
  have hrestart : exec .aliveRestart s = .next s.aliveRestart := congrArg Host.Outcome.next (s.onTm_on _ htm)
  refine ⟨fun hopen => ⟨?_, fun ms => ?_, fun hbad => ?_, fun hgood hbeats => ?_, ?_⟩, fun hshut => ⟨?_, ?_, ?_⟩⟩
  · rw [hbeat]
    exact ⟨_, rfl, s.heartbeat_spec hopen⟩
  · refine ⟨_, congrArg Host.Outcome.next ((s.onTm_on _ htm).trans (if_neg (by simp [hopen]))), rfl, ?_, State.timerAt_arm_same _ _ _ _⟩
    exact (State.rf_wf_same _ _ _).trans (Nat.mod_mod _ _)
  · rw [hrestart, State.aliveRestart, if_neg (by simp [hopen]), if_pos (by simpa using hbad)]
    exact ⟨_, rfl, rfl, State.rf_wf_same _ _ _, State.rf_wf_ne _ _ _ _ (by decide)⟩
  · rw [hrestart, State.aliveRestart, if_neg (by simp [hopen]), if_neg (by simp [hgood, hbeats])]
    exact ⟨_, rfl, rfl, State.rf_wf_same _ _ _, (State.rf_wf_ne _ _ _ _ (by decide)).trans (State.rf_wf_same _ _ _)⟩
  · exact congrArg Host.Outcome.next ((s.onTm_on _ htm).trans (if_pos hopen))
  · rw [hbeat, State.heartbeat, if_pos (by simp [hshut])]
  · rw [hrestart, State.aliveRestart, if_pos (by simp [hshut])]
  · exact congrArg Host.Outcome.next ((s.onTm_on _ htm).trans (if_neg (by simp [hshut])))

/-- Settles O33. -/
theorem faultReporting : Obligations.FaultReporting := ⟨faultRecords, aliveCommands⟩

end Sys2Proof.Machine
end

section
/-! PROOF. Gate lists: enable, entries, switch and abort (R330 to R332, R342). -/

namespace Sys2Proof.Machine

/-! ### What keeps the gate lists -/

theorem State.gate_setGate_same (s : State) (p : Nat) (g : GatePort) : (s.setGate p g).gate p = g := SMap.get_put_same _ _ _ _

theorem State.gate_setGate_ne (s : State) {p q : Nat} (g : GatePort) (h : q ≠ p) : (s.setGate p g).gate q = s.gate q :=
  SMap.get_put_ne _ _ _ _ _ _ h

theorem State.rf_setGate (s : State) (p : Nat) (g : GatePort) (f : Fld) : (s.setGate p g).rf f = s.rf f := rfl

theorem State.setGate_settings {s u : State} (h : u = { s with regs := u.regs }) (p : Nat) (g : GatePort) : let t := u.setGate p g
    t = { s with regs := t.regs, sc := t.sc } := by
  generalize u.regs = r at h
  subst h
  rfl

theorem State.gate_showGmax (s : State) (p q : Nat) : (s.showGmax p).gate q = s.gate q := by
  unfold State.showGmax
  dsimp only
  rw [State.latchBounds_frame]
  rfl

theorem State.gate_workEnds (s : State) (e : WorkEnd) (q : Nat) : (s.workEnds e).gate q = s.gate q := rfl

theorem State.gate_gatesShut (s : State) (p q : Nat) : (s.gatesShut p).gate q = s.gate q := by
  unfold State.gatesShut
  generalize List.range 8 = l
  induction l generalizing s with
  | nil => rfl
  | cons c l ih =>
    rw [List.foldl_cons, ih]
    split <;> rfl

/-! ### PORT_CTRL -/

/-- The port's record after EN and GUARDED were written. -/
def GatePort.written (g : GatePort) (v : Nat) : GatePort :=
  { g with en := bit v 0, pend := if g.pending then g.pend else { g.pend with guarded := bit v 1 } }

/-- The state in which EN and GUARDED have been written. -/
def State.gateWritten (s : State) (v : Nat) : State :=
  let p := s.rf TM_GATE.GATE_SEL.PORT
  let a := if (s.gate p).pending = true ∧ (s.gate p).pend.guarded ≠ bit v 1 then s.wf TM_GATE.GATE_SEL.ERR 1 else s
  ((a.setGate p ((s.gate p).written v)).showGmax p).gatesShut p

theorem State.gateWritten_gate (s : State) (v : Nat) :
    (s.gateWritten v).gate (s.rf TM_GATE.GATE_SEL.PORT) = (s.gate (s.rf TM_GATE.GATE_SEL.PORT)).written v := by
  unfold State.gateWritten
  dsimp only
  rw [State.gate_gatesShut, State.gate_showGmax, State.gate_setGate_same]

theorem State.portCtrlWrite_open (s : State) (v : Nat) (hopen : s.blockOpen 4154 = true) : s.portCtrlWrite v =
    let p := s.rf TM_GATE.GATE_SEL.PORT
    let u := if bit v 2 then (s.gateWritten v).gateRequest p else s.gateWritten v
    if bit v 3 then (u.setGate p { u.gate p with pending := false }).showGmax p else u := by
  have hcond : ((s.gate (s.rf TM_GATE.GATE_SEL.PORT)).pending &&
      decide ((s.gate (s.rf TM_GATE.GATE_SEL.PORT)).pend.guarded ≠ bit v 1)) = true ↔
      (s.gate (s.rf TM_GATE.GATE_SEL.PORT)).pending = true ∧ (s.gate (s.rf TM_GATE.GATE_SEL.PORT)).pend.guarded ≠ bit v 1 := by simp
  rw [State.portCtrlWrite, if_neg (by simp [hopen])]
  simp only [hcond]
  rfl

theorem bit_eq_of_div_mod {v w k : Nat} (h : v / 2 ^ k % 2 = w / 2 ^ k % 2) : bit v k = bit w k := by
  rw [bit, bit, Nat.testBit_eq_decide_div_mod_eq, Nat.testBit_eq_decide_div_mod_eq, h]

theorem State.gateWritten_congr (s : State) {v w : Nat} (h0 : bit v 0 = bit w 0) (h1 : bit v 1 = bit w 1) :
    s.gateWritten v = s.gateWritten w := by
  simp only [State.gateWritten, GatePort.written, h0, h1]

theorem State.gateWritten_time (s : State) (v : Nat) : (s.gateWritten v).time = s.time := by
  have hshut (u : State) (p : Nat) : (u.gatesShut p).time = u.time := by
    unfold State.gatesShut
    generalize List.range 8 = l
    induction l generalizing u with
    | nil => rfl
    | cons c l ih =>
      rw [List.foldl_cons, ih]
      split <;> rfl
  have hshow (u : State) (p : Nat) : (u.showGmax p).time = u.time := by
    unfold State.showGmax
    dsimp only
    rw [State.latchBounds_frame]
    rfl
  unfold State.gateWritten
  dsimp only
  rw [hshut, hshow]
  show (if _ then _ else _ : State).time = _
  split <;> rfl

/-- A write of PORT_CTRL with the bits of EN and GUARDED from `v` and the request and abort bits from `k`. -/
theorem State.portCtrlWrite_parts (s : State) (v : Nat) {k : Nat} (hk : k = 0 ∨ k = 4 ∨ k = 8) (hopen : s.blockOpen 4154 = true) :
    let p := s.rf TM_GATE.GATE_SEL.PORT
    s.portCtrlWrite (v % 4 + k) = if k = 4 then (s.gateWritten v).gateRequest p
      else if k = 8 then ((s.gateWritten v).setGate p { ((s.gate p).written v) with pending := false }).showGmax p
      else s.gateWritten v := by
  have h0 : bit (v % 4 + k) 0 = bit v 0 := bit_eq_of_div_mod (by omega)
  have h1 : bit (v % 4 + k) 1 = bit v 1 := bit_eq_of_div_mod (by omega)
  have h2 : bit (v % 4 + k) 2 = bit k 2 := bit_eq_of_div_mod (by omega)
  have h3 : bit (v % 4 + k) 3 = bit k 3 := bit_eq_of_div_mod (by omega)
  have hw := s.gateWritten_gate v
  dsimp only
  rw [s.portCtrlWrite_open _ hopen, s.gateWritten_congr h0 h1, h2, h3]
  rcases hk with rfl | rfl | rfl
  · rfl
  · rfl
  · show (((s.gateWritten v).setGate _ { (s.gateWritten v).gate _ with pending := false }).showGmax _) = _
    rw [hw]
    rfl

section
variable {u : State} {p : Nat} {g : GatePort} (h : u.gate p = g)
include h

theorem State.gateRequest_refused {c : Nat} (hc : gateCause g = some c) : u.gateRequest p =
    (u.setGate p { g with result := stInvalid, cause := c }).raise Ev.TM_GATE.GATE_REFUSED 0 c p 0 := by
  subst h
  rw [State.gateRequest, hc]

theorem State.gateRequest_taken (hc : gateCause g = none) : u.gateRequest p =
    (u.setGate p { g with pending := true, sw := switchTime g.pend u.time, result := stOK, cause := 0 }).showGmax p := by
  subst h
  rw [State.gateRequest, hc]

theorem State.gateSwitch_eq : u.gateSwitch p =
    (((u.setGate p { g with act := g.pend, pend := g.act, pending := false }).showGmax p).raise Ev.TM_GATE.GATE_SWITCHED 0 0 p
      g.pend.len).gatesShut p := by
  subst h
  rfl

end

theorem State.gate_advanceTo (s : State) (c p : Nat) : (s.advanceTo c).gate p = s.gate p := rfl

/-! ### Entries -/

theorem State.gateSel_spec (s : State) (v : Nat) : let t := s.gateSel v
    t = { s with regs := t.regs } ∧ t.rf TM_GATE.GATE_SEL.ERR = 0 ∧
      ∀ k < 2, t.rfi TM_GATE.GATE_DATA.DATA k = s.rfi TM_GATE.GATE_DATA.DATA k := by
  refine ⟨by simp only [State.gateSel, State.wf_frame], State.rf_wf_same _ _ _, fun k hk => ?_⟩
  obtain rfl | rfl : k = 0 ∨ k = 1 := by omega
  · simp (disch := decide) only [State.gateSel, State.rfi_get, State.wf_regs, regGet_regPut_ne]
  · simp (disch := decide) only [State.gateSel, State.rfi_get, State.wf_regs, regGet_regPut_ne]

theorem State.gate_gateSel (s : State) (v p : Nat) : (s.gateSel v).gate p = s.gate p := rfl

section
variable (s : State) {v : Nat} (hopen : s.blockOpen 4154 = true)
include hopen

theorem State.gateRead_spec : let t := s.gateRead v
    t = { s with regs := t.regs } ∧ ∀ k, k < 2 → t.rfi TM_GATE.GATE_DATA.DATA k =
      bits ((if bit v 8 then (s.gate (bits v 0 8)).pend else (s.gate (bits v 0 8)).act).entry (bits v 9 10)) (32 * k) 32 := by
  rw [State.gateRead, if_neg (by simp [hopen])]
  dsimp only
  rw [s.gate_gateSel]
  obtain ⟨hframe, -, -⟩ := s.gateSel_spec v
  generalize s.gateSel v = u at hframe ⊢
  refine ⟨?_, fun k hk => ?_⟩
  · conv_lhs => rw [hframe]
    rfl
  · obtain rfl | rfl : k = 0 ∨ k = 1 := by omega
    · simp (disch := decide) only [State.rfi_get, State.wfi_regs, regGet_regPut_ne, regGet_regPut_same]
      exact bits_mod _ _ _
    · simp only [State.rfi_get, State.wfi_regs, regGet_regPut_same]
      exact bits_mod _ _ _

theorem State.gateWrite_refused (h : bit v 8 = false ∨ (s.gate (bits v 0 8)).pending = true) : let t := s.gateWrite v
    t = { s with regs := t.regs } ∧ t.rf TM_GATE.GATE_SEL.ERR = 1 := by
  have hwrite : s.gateWrite v = (s.gateSel v).wf TM_GATE.GATE_SEL.ERR 1 := by
    rw [State.gateWrite, if_neg (by simp [hopen])]
    refine if_pos ?_
    rw [s.gate_gateSel]
    simpa using h
  obtain ⟨hframe, -, -⟩ := s.gateSel_spec v
  rw [hwrite]
  refine ⟨?_, State.rf_wf_same _ _ _⟩
  conv_lhs => rw [hframe]
  rfl

theorem State.gateWrite_taken (hlist : bit v 8 = true) (hfree : (s.gate (bits v 0 8)).pending = false) : s.gateWrite v =
    (s.gateSel v).setGate (bits v 0 8) { s.gate (bits v 0 8) with pend := { (s.gate (bits v 0 8)).pend with
      entries := SMap.put gateEntryReset (s.gate (bits v 0 8)).pend.entries (bits v 9 10)
        (s.rfi TM_GATE.GATE_DATA.DATA 0 + s.rfi TM_GATE.GATE_DATA.DATA 1 % 256 * 2 ^ 32) } } := by
  obtain ⟨-, -, hdata⟩ := s.gateSel_spec v
  rw [State.gateWrite, if_neg (by simp [hopen])]
  dsimp only
  rw [s.gate_gateSel, if_neg (by simp [hlist, hfree]), hdata 0 (by decide), hdata 1 (by decide)]

end

/-- Settles O28. -/
theorem gateCommands : Obligations.GateCommands := by
  intro s htm
  refine ⟨fun hopen v => ?_, fun hopen sel => ?_, fun p hp hpend => ?_, fun p hnone => ?_, fun p d x rs hp hen hahead => ?_, fun p => rfl,
    fun p hoff => ?_⟩
  · intro p g pend set a u
    have hexec (k : Nat) : s.onTm (fun s => s.portCtrlWrite (v % 4 + k)) = s.portCtrlWrite (v % 4 + k) := s.onTm_on _ htm
    have hset : (s.gateWritten v).gate p = set := s.gateWritten_gate v
    refine ⟨congrArg Host.Outcome.next ((hexec 0).trans (s.portCtrlWrite_parts v (by decide) hopen)),
      congrArg Host.Outcome.next ((hexec 8).trans (s.portCtrlWrite_parts v (by decide) hopen)), fun c hc => ?_, fun hnone => ?_⟩
    · refine congrArg Host.Outcome.next ((hexec 4).trans ((s.portCtrlWrite_parts v (by decide) hopen).trans ?_))
      exact (if_pos rfl).trans (State.gateRequest_refused hset hc)
    · refine congrArg Host.Outcome.next ((hexec 4).trans ((s.portCtrlWrite_parts v (by decide) hopen).trans ((if_pos rfl).trans ?_)))
      rw [State.gateRequest_taken hset hnone, s.gateWritten_time]
      rfl
  · intro g
    have hbits (b : Bool) {l n : Nat} (h : l + n ≤ 19) : bits (setBit (sel % 2 ^ 32) 19 b) l n = bits sel l n := by
      rw [bits_setBit_apart _ _ (by omega), bits_mod_two_pow _ (by omega)]
    have hlist (b : Bool) : bit (setBit (sel % 2 ^ 32) 19 b) 8 = bit sel 8 := by
      rw [bit_setBit_apart _ _ (by decide)]
      exact bit_eq_of_div_mod (by omega)
    refine ⟨?_, fun hbad => ?_, fun hpend hfree => ?_⟩
    · obtain ⟨hframe, hdata⟩ := s.gateRead_spec (v := setBit (sel % 2 ^ 32) 19 false) hopen
      rw [hbits _ (by omega), hbits _ (by omega), hlist] at hdata
      exact ⟨_, congrArg Host.Outcome.next (s.onTm_on _ htm), hframe, hdata⟩
    · exact ⟨_, congrArg Host.Outcome.next (s.onTm_on _ htm), s.gateWrite_refused hopen (by rwa [hlist, hbits _ (by omega)])⟩
    · have hwrite := s.gateWrite_taken (v := setBit (sel % 2 ^ 32) 19 true) hopen (by rwa [hlist]) (by rwa [hbits _ (by omega)])
      obtain ⟨hframe, herr, -⟩ := s.gateSel_spec (setBit (sel % 2 ^ 32) 19 true)
      refine ⟨_, congrArg Host.Outcome.next (s.onTm_on _ htm), ?_⟩
      rw [hwrite, hbits _ (by omega), hbits _ (by omega)]
      refine ⟨?_, (State.rf_setGate _ _ _ _).trans herr, fun p hp => (State.gate_setGate_ne _ _ hp).trans (s.gate_gateSel _ _), ?_, fun k => ?_⟩
      · exact State.setGate_settings hframe _ _
      · rw [State.gate_setGate_same]
      · rw [State.gate_setGate_same]
        split
        case isTrue heq => rw [heq]; exact SMap.get_put_same _ _ _ _
        case isFalse hne => exact SMap.get_put_ne _ _ _ _ _ _ hne
  · refine congrArg Host.Outcome.next ((s.onTm_on _ htm).trans ((if_pos (by simp [hp, hpend])).trans ?_))
    exact State.gateSwitch_eq (s.gate_advanceTo _ _)
  · exact congrArg Host.Outcome.next ((s.onTm_on _ htm).trans (if_neg (by simp [hnone])))
  · refine congrArg Host.Outcome.next ((s.onTm_on _ htm).trans ?_)
    rw [State.gateEntryChange, if_neg (by simp [hen]; omega), hahead]
  · exact congrArg Host.Outcome.next ((s.onTm_on _ htm).trans (if_pos (by simp [hoff])))

end Sys2Proof.Machine
end

section
/-! PROOF. Priority flow control, preemption, path protection and time stamps (R222, R224, R228, R230 to R233, R237). -/

namespace Sys2Proof.Machine

/-! ### Priority flow control and preemption -/

theorem pauseAndPreemption : Claims.PauseAndPreemption := by
  intro s p hfe hp
  have hp' : ¬256 ≤ p := by omega
  refine ⟨fun hup hloop vec quanta => ?_, fun c d htimer => ?_, fun c d htimer => ⟨fun hx hbytes => ?_, fun hno => ?_⟩,
    fun hopen cfg => ⟨fun hdis => ?_, fun hdis => ?_⟩, fun d htimer => ⟨?_, ?_⟩⟩
  · refine congrArg Host.Outcome.next ((s.onFe_on _ hfe).trans ((if_neg (by simp [hloop])).trans ?_))
    rw [State.pfcRx, if_neg (by simp [hp', hup])]
    rfl
  · refine congrArg Host.Outcome.next ((s.onFe_on _ hfe).trans ?_)
    rw [State.expire_expired htimer]
    rfl
  · refine congrArg Host.Outcome.next ((s.onFe_on _ hfe).trans ?_)
    rw [State.pfcRefresh, State.expire_expired htimer]
    exact if_pos (by simp [hx, hbytes])
  · refine congrArg Host.Outcome.next ((s.onFe_on _ hfe).trans ?_)
    rw [State.pfcRefresh, State.expire_expired htimer]
    refine if_neg ?_
    rcases hno with h | h
    · simp [h]
    · simp [Nat.not_le.mpr h]
  · refine congrArg Host.Outcome.next ((s.onFe_on _ hfe).trans ?_)
    have hdis' : bit (setBit (cfg % 2 ^ 32) 0 true) 3 = true := by
      rw [bit_setBit_apart _ _ (by decide), ← hdis]
      exact bit_eq_of_div_mod (by omega)
    rw [State.preemptCfg, if_neg (by simp [hp', hopen])]
    simp only [bit_setBit_same, hdis']
    rfl
  · refine congrArg Host.Outcome.next ((s.onFe_on _ hfe).trans ?_)
    have hdis' : bit (setBit (cfg % 2 ^ 32) 0 true) 3 = false := by
      rw [bit_setBit_apart _ _ (by decide), ← hdis]
      exact bit_eq_of_div_mod (by omega)
    rw [State.preemptCfg, if_neg (by simp [hp', hopen])]
    simp only [bit_setBit_same, hdis']
    rfl
  · refine congrArg Host.Outcome.next ((s.onFe_on _ hfe).trans ?_)
    rw [State.preemptTimer, htimer]
    rfl
  · refine congrArg Host.Outcome.next ((s.onFe_on _ hfe).trans ?_)
    rw [State.preemptTimer, htimer]
    rfl

/-! ### Path protection -/

theorem State.streamSel_spec (s : State) (v : Nat) : let t := s.streamSel v
    t = { s with regs := t.regs } ∧ ∀ k < 4, t.rfi FE_PROT.DATA.DATA k = s.rfi FE_PROT.DATA.DATA k := by
  refine ⟨by simp only [State.streamSel, State.wf_frame], fun k hk => ?_⟩
  have hkey : ∀ k < 4, FE_PROT.DATA.DATA.key 0 k ≠ FE_PROT.STREAM_SEL.STREAM.key 0 0 ∧
      FE_PROT.DATA.DATA.key 0 k ≠ FE_PROT.STREAM_SEL.SIDE.key 0 0 ∧ FE_PROT.DATA.DATA.key 0 k ≠ FE_PROT.STREAM_SEL.OP.key 0 0 := by
    decide
  obtain ⟨hstream, hside, hop⟩ := hkey k hk
  simp only [State.streamSel, State.rfi_get, State.wf_regs, regGet_regPut_ne _ _ hstream, regGet_regPut_ne _ _ hside,
    regGet_regPut_ne _ _ hop]

/-- What a record read leaves in the window. -/
structure State.ProtShown (s t : State) (v d0 d1 d2 : Nat) : Prop where
  frame : t = { s with regs := t.regs }
  stream : t.rf FE_PROT.STREAM_SEL.STREAM = bits v 0 14
  side : t.rf FE_PROT.STREAM_SEL.SIDE = bits v 16 1
  op : t.rf FE_PROT.STREAM_SEL.OP = bits v 17 1
  word0 : t.rfi FE_PROT.DATA.DATA 0 = d0 % 2 ^ 32
  word1 : t.rfi FE_PROT.DATA.DATA 1 = d1 % 2 ^ 32
  word2 : t.rfi FE_PROT.DATA.DATA 2 = d2 % 2 ^ 32
  word3 : t.rfi FE_PROT.DATA.DATA 3 = 0

theorem State.protData_shown (s : State) (v d0 d1 d2 : Nat) : s.ProtShown ((s.streamSel v).protData d0 d1 d2) v d0 d1 d2 := by
  constructor
  case frame => simp only [State.protData, State.streamSel, State.wf_frame, State.wfi_frame]
  all_goals
    simp (disch := decide) only [State.protData, State.streamSel, State.rf_get, State.rfi_get, State.wf_regs, State.wfi_regs,
      regGet_regPut_ne, regGet_regPut_same]
  case stream => exact bits_mod _ _ _
  case side => exact bits_mod _ _ _
  case op => exact bits_mod _ _ _
  all_goals rfl

section
variable {s : State} {v : Nat} (hopen : s.blockOpen 75 = true)
include hopen

theorem State.protRead_rx (hside : bit v 16 = true) : s.protRead v = (s.streamSel v).protData
    ((s.rxRec (bits v 0 14)).seq + b2n (s.rxRec (bits v 0 14)).takeAny * 2 ^ 16 + b2n (s.rxRec (bits v 0 14)).valid * 2 ^ 17)
    ((s.rxRec (bits v 0 14)).hist % 2 ^ 32) ((s.rxRec (bits v 0 14)).hist / 2 ^ 32) := by
  rw [State.protRead, if_neg (by simp [hopen])]
  exact if_pos hside

theorem State.protRead_tx (hside : bit v 16 = false) : s.protRead v = (s.streamSel v).protData
    ((s.txRec (bits v 0 14)).portA + (s.txRec (bits v 0 14)).portB * 2 ^ 8 + b2n (s.txRec (bits v 0 14)).valid * 2 ^ 16 +
      (s.txRec (bits v 0 14)).off * 2 ^ 17) (s.txRec (bits v 0 14)).seq 0 := by
  rw [State.protRead, if_neg (by simp [hopen])]
  exact if_neg (by simp [hside])

theorem State.protWrite_rx (hside : bit v 16 = true) : let d0 := s.rfi FE_PROT.DATA.DATA 0
    let u := ((s.streamSel v).setRxRec (bits v 0 14) ⟨bits d0 0 16, bit d0 16, bit d0 17, 0⟩).wf FE_PROT.STREAM_SEL.ERR 0
    s.protWrite v = if bit d0 17 && !bit d0 16 then
      u.arm .rcvyReset (bits v 0 14) (orWhenZero (u.rf FE_PROT.RCVY_RESET.MS) 1 * cyMs) else u.disarm .rcvyReset (bits v 0 14) := by
  obtain ⟨-, hdata⟩ := s.streamSel_spec v
  rw [State.protWrite, if_neg (by simp [hopen])]
  dsimp only
  rw [hdata 0 (by decide)]
  exact if_pos hside

theorem State.protWrite_tx (hside : bit v 16 = false) : let d0 := s.rfi FE_PROT.DATA.DATA 0
    s.protWrite v = if bits d0 0 8 / 16 ≠ bits d0 8 8 / 16 then (s.streamSel v).wf FE_PROT.STREAM_SEL.ERR 1
      else ((s.streamSel v).setTxRec (bits v 0 14) ⟨bits d0 0 8, bits d0 8 8, bit d0 16, bits d0 17 7,
        bits (s.rfi FE_PROT.DATA.DATA 1) 0 16⟩).wf FE_PROT.STREAM_SEL.ERR 0 := by
  obtain ⟨-, hdata⟩ := s.streamSel_spec v
  rw [State.protWrite, if_neg (by simp [hopen])]
  dsimp only
  rw [hdata 0 (by decide), hdata 1 (by decide)]
  exact if_neg (by simp [hside])

end

theorem State.txRec_setTxRec_same (s : State) (k : Nat) (r : TxRec) : (s.setTxRec k r).txRec k = r := by
  rw [State.setTxRec, State.txRec, State.latchBounds_frame]
  exact SMap.get_put_same _ _ _ _

theorem State.txRec_setTxRec_ne (s : State) {k j : Nat} (r : TxRec) (h : j ≠ k) : (s.setTxRec k r).txRec j = s.txRec j := by
  rw [State.setTxRec, State.txRec, State.latchBounds_frame]
  exact SMap.get_put_ne _ _ _ _ _ _ h

theorem State.setTxRec_settings (s : State) (k : Nat) (r : TxRec) : (s.setTxRec k r) =
    { s with regs := (s.setTxRec k r).regs, net := { s.net with tx := SMap.put TxRec.zero s.net.tx k r } } := by
  conv_lhs => rw [State.setTxRec, State.latchBounds_frame]
  rfl

theorem State.timers_settings {s w : State} (h : w = { s with regs := w.regs, net := w.net }) (l : List Timer) :
    let t : State := { w with timers := l }
    t = { s with regs := t.regs, net := t.net, timers := t.timers } := by
  generalize w.regs = r at h
  generalize w.net = n at h
  subst h
  rfl

theorem State.setRxRec_frameOf {s u : State} (h : u = { s with regs := u.regs }) (k : Nat) (r : RxRec) (f : Fld) (v : Nat) :
    let t := (u.setRxRec k r).wf f v
    t = { s with regs := t.regs, net := t.net } := by
  generalize u.regs = x at h
  subst h
  rfl

theorem State.setTxRec_frameOf {s u : State} (h : u = { s with regs := u.regs }) (k : Nat) (r : TxRec) (f : Fld) (v : Nat) :
    let t := (u.setTxRec k r).wf f v
    t = { s with regs := t.regs, net := t.net } := by
  rw [State.setTxRec_settings]
  generalize (u.setTxRec k r).regs = m
  generalize u.regs = x at h
  subst h
  rfl

theorem State.net_cycle_of_frame {s u : State} (h : u = { s with regs := u.regs }) : u.net = s.net ∧ u.cycle = s.cycle := by
  generalize u.regs = x at h
  subst h
  exact ⟨rfl, rfl⟩

/-- A record of the receiving side stored, on a state that differs in its registers alone. -/
theorem State.protStored_rx {s u : State} (hu : u = { s with regs := u.regs }) (hms : u.rf FE_PROT.RCVY_RESET.MS = s.rf FE_PROT.RCVY_RESET.MS)
    (k : Nat) (r : RxRec) (b : Bool) :
    let w := (u.setRxRec k r).wf FE_PROT.STREAM_SEL.ERR 0
    let t := if b then w.arm .rcvyReset k (orWhenZero (w.rf FE_PROT.RCVY_RESET.MS) 1 * cyMs) else w.disarm .rcvyReset k
    t.rxRec k = r ∧ (∀ j, j ≠ k → t.rxRec j = s.rxRec j) ∧ (∀ j, t.txRec j = s.txRec j) ∧ t.rf FE_PROT.STREAM_SEL.ERR = 0 ∧
      t.timerAt .rcvyReset k = (if b then some (s.cycle + orWhenZero (s.rf FE_PROT.RCVY_RESET.MS) 1 * cyMs) else none) ∧
      t = { s with regs := t.regs, net := t.net, timers := t.timers } := by
  intro w t
  have hw : w.rf FE_PROT.RCVY_RESET.MS = s.rf FE_PROT.RCVY_RESET.MS := (State.rf_wf_ne _ _ _ _ (by decide)).trans hms
  have ht : t = if b then w.arm .rcvyReset k (orWhenZero (s.rf FE_PROT.RCVY_RESET.MS) 1 * cyMs) else w.disarm .rcvyReset k := by rw [← hw]
  have hframe : w = { s with regs := w.regs, net := w.net } := State.setRxRec_frameOf hu k r _ _
  obtain ⟨hnet, hclock⟩ := State.net_cycle_of_frame hu
  have herr : w.rf FE_PROT.STREAM_SEL.ERR = 0 := State.rf_wf_same _ _ _
  have hsame : w.rxRec k = r := SMap.get_put_same _ _ _ _
  have hne (j : Nat) (hj : j ≠ k) : w.rxRec j = s.rxRec j := by
    have hput : w.rxRec j = u.rxRec j := SMap.get_put_ne _ _ _ _ _ _ hj
    rw [hput, State.rxRec, hnet]
    rfl
  have htx (j : Nat) : w.txRec j = s.txRec j := by
    have hkept : w.txRec j = u.txRec j := rfl
    rw [hkept, State.txRec, hnet]
    rfl
  have hcycle : w.cycle = s.cycle := hclock
  clear_value w t
  subst ht
  cases b
  · refine ⟨hsame, hne, htx, herr, State.timerAt_disarm_same _ _ _, ?_⟩
    exact State.timers_settings hframe _
  · refine ⟨hsame, hne, htx, herr, (State.timerAt_arm_same _ _ _ _).trans (by rw [hcycle]; rfl), ?_⟩
    exact State.timers_settings hframe _

/-- A record of the transmitting side stored, on a state that differs in its registers alone. -/
theorem State.protStored_tx {s u : State} (hu : u = { s with regs := u.regs }) (k : Nat) (r : TxRec) :
    let t := (u.setTxRec k r).wf FE_PROT.STREAM_SEL.ERR 0
    t.rf FE_PROT.STREAM_SEL.ERR = 0 ∧ t.txRec k = r ∧ (∀ j, j ≠ k → t.txRec j = s.txRec j) ∧ (∀ j, t.rxRec j = s.rxRec j) ∧
      t = { s with regs := t.regs, net := t.net } := by
  obtain ⟨hnet, -⟩ := State.net_cycle_of_frame hu
  have htx (j : Nat) : u.txRec j = s.txRec j := by
    rw [State.txRec, hnet]
    rfl
  have hrx (j : Nat) : (u.setTxRec k r).rxRec j = s.rxRec j := by
    rw [State.setTxRec_settings, State.rxRec, State.rxRec, ← hnet]
  exact ⟨State.rf_wf_same _ _ _, State.txRec_setTxRec_same _ _ _, fun j hj => (State.txRec_setTxRec_ne _ _ hj).trans (htx j), hrx,
    State.setTxRec_frameOf hu _ _ _ _⟩

theorem protectionCommands : Claims.ProtectionCommands := by
  intro s hfe
  refine ⟨fun hopen sel => ?_, fun k d htimer => ?_, fun p d htimer => ⟨fun hwait => ?_, fun hwait => ?_⟩, fun hopen k mask hk hmask => ?_,
    fun g hg hopen hvalid => ?_⟩
  · intro k d0 d1
    have hbits (b : Bool) {l n : Nat} (h : l + n ≤ 17) : bits (setBit (sel % 2 ^ 32) 17 b) l n = bits sel l n := by
      rw [bits_setBit_apart _ _ (by omega), bits_mod_two_pow _ (by omega)]
    have hside (b : Bool) : bit (setBit (sel % 2 ^ 32) 17 b) 16 = bit sel 16 := by
      rw [bit_setBit_apart _ _ (by decide)]
      exact bit_eq_of_div_mod (by omega)
    have hread : exec (.protRecordRead sel) s = .next (s.protRead (setBit (sel % 2 ^ 32) 17 false)) :=
      congrArg Host.Outcome.next (s.onFe_on _ hfe)
    have hwrite : exec (.protRecordWrite sel) s = .next (s.protWrite (setBit (sel % 2 ^ 32) 17 true)) :=
      congrArg Host.Outcome.next (s.onFe_on _ hfe)
    have hweight (b : Bool) (n : Nat) : b2n b * n = if b then n else 0 := by cases b <;> simp [b2n]
    have hop : bits (setBit (sel % 2 ^ 32) 17 false) 17 1 = 0 := bits_setBits_same _ _ _ _
    refine ⟨?_, fun hrx => ?_, fun htx hpair => ?_, fun htx hpair => ?_⟩
    · cases hs : bit sel 16
      · rw [hread, State.protRead_tx hopen (by rw [hside, hs])]
        obtain ⟨hframe, hstream, hsd, hopv, h0, h1, h2, h3⟩ := s.protData_shown (setBit (sel % 2 ^ 32) 17 false) _ _ _
        rw [hbits false (by decide)] at hstream hsd
        refine ⟨_, rfl, hframe, hstream, hsd, hopv.trans hop, h3, fun _ => ⟨h0.trans ?_, h1.trans ?_, h2⟩, fun h => absurd h (by decide)⟩
        · rw [hweight, hbits false (by decide)]
        · rw [hbits false (by decide)]
      · rw [hread, State.protRead_rx hopen (by rw [hside, hs])]
        obtain ⟨hframe, hstream, hsd, hopv, h0, h1, h2, h3⟩ := s.protData_shown (setBit (sel % 2 ^ 32) 17 false) _ _ _
        rw [hbits false (by decide)] at hstream hsd
        refine ⟨_, rfl, hframe, hstream, hsd, hopv.trans hop, h3, fun h => absurd h (by decide), fun _ => ⟨h0.trans ?_, h1.trans ?_, h2.trans ?_⟩⟩
        · rw [hweight, hweight, hbits false (by decide)]
        · rw [hbits false (by decide), Nat.mod_mod]
        · rw [hbits false (by decide)]
    · obtain ⟨hframe, -⟩ := s.streamSel_spec (setBit (sel % 2 ^ 32) 17 true)
      have hms : (s.streamSel (setBit (sel % 2 ^ 32) 17 true)).rf FE_PROT.RCVY_RESET.MS = s.rf FE_PROT.RCVY_RESET.MS := by
        simp (disch := decide) only [State.streamSel, State.rf_get, State.wf_regs, regGet_regPut_ne]
      rw [hwrite, State.protWrite_rx hopen (by rw [hside, hrx]), hbits true (by decide)]
      exact ⟨_, rfl, State.protStored_rx hframe hms k _ _⟩
    · obtain ⟨hframe, -⟩ := s.streamSel_spec (setBit (sel % 2 ^ 32) 17 true)
      rw [hwrite, State.protWrite_tx hopen (by rw [hside, htx]), if_neg (by simpa using hpair), hbits true (by decide)]
      exact ⟨_, rfl, State.protStored_tx hframe k _⟩
    · rw [hwrite, State.protWrite_tx hopen (by rw [hside, htx]), if_pos hpair]
      obtain ⟨hframe, -⟩ := s.streamSel_spec (setBit (sel % 2 ^ 32) 17 true)
      refine ⟨_, rfl, ?_, State.rf_wf_same _ _ _⟩
      conv_lhs => rw [hframe]
      rfl
  · show (if !s.feOn then _ else _ : Host.Outcome State Fault Refusal) = _
    rw [if_neg (by simp [hfe]), State.expire_expired htimer]
  · show (if !s.feOn then _ else _ : Host.Outcome State Fault Refusal) = _
    rw [if_neg (by simp [hfe]), State.expire_expired htimer]
    exact if_pos hwait
  · show (if !s.feOn then _ else _ : Host.Outcome State Fault Refusal) = _
    rw [if_neg (by simp [hfe]), State.expire_expired htimer]
    exact if_neg hwait
  · refine congrArg Host.Outcome.next ((s.onFe_on _ hfe).trans ?_)
    rw [State.protForceOut, if_neg (by simp [hopen]; omega), Nat.mod_eq_of_lt hmask]
  · show (if !s.feOn then _ else _ : Host.Outcome State Fault Refusal) = _
    rw [if_neg (by simp [hfe])]
    exact if_pos (by simp [hg, hopen, hvalid])

/-- Settles O21. -/
theorem portProtocols : Obligations.PortProtocols := ⟨pauseAndPreemption, protectionCommands⟩

end Sys2Proof.Machine
end

section
/-! PROOF. GDDR7 activates, throttles, refresh and the ends of accesses (R361 to R365, R368 to R371). -/

namespace Sys2Proof.Machine

theorem memoryActivates : Claims.MemoryActivates := by
  intro s c htm
  refine ⟨fun hc hready ch b e hch hwck => ?_, fun ch h => ?_, ?_, fun bank who d htimer => ?_, fun hc hready => ?_, fun h => ?_⟩
  · intro k w u mine ok hbank hreq
    refine congrArg Host.Outcome.next ((s.onTm_on _ htm).trans ?_)
    rw [State.dmcActivate]
    simp only [hwck]
    rw [if_neg (by simp [hready]; omega)]
    show (match ((List.range 16).map (fun i => (SMap.get 0 s.dm.ptr k + i) % 16)).find? ok with | none => _ | some b => _) = _
    rw [hbank]
    show (match mine.find? (fun x => decide (unitBank x.2.unit_ = k * 16 + b)) with | none => _ | some (i, r) => _) = _
    rw [hreq]
    rfl
  · refine congrArg Host.Outcome.next ((s.onTm_on _ htm).trans ?_)
    rw [State.dmcActivate]
    obtain hc | hch | hstate | ⟨d, hd, hlt⟩ := h
    · exact if_pos (by simp [hc])
    · exact if_pos (by simp [hch])
    · exact if_pos (by simp [hstate])
    · exact if_pos (by simp [hd, hlt])
  · exact congrArg Host.Outcome.next (s.onTm_on _ htm)
  · refine congrArg Host.Outcome.next ((s.onTm_on _ htm).trans ?_)
    rw [State.throttleExpire, State.expire_expired htimer]
  · refine congrArg Host.Outcome.next ((s.onTm_on _ htm).trans ?_)
    rw [State.refreshInterval, if_neg (by simp [hready]; omega)]
    rfl
  · refine congrArg Host.Outcome.next ((s.onTm_on _ htm).trans (if_pos ?_))
    simpa using h

theorem State.perf_withDm (s : State) (d : Dmc) (P ev n : Nat) : ({ s with dm := d } : State).perf P ev n = { s.perf P ev n with dm := d } := by
  by_cases h : (s.hdr P).perfOn && decide (s.rf TM_PERF.FREEZE.FROZEN = 0)
  · rw [State.perf, State.perf, if_pos h]
    exact if_pos h
  · rw [State.perf, State.perf, if_neg h]
    exact if_neg h

theorem State.perfFld_withDm (s : State) (d : Dmc) (f : Fld) (p n : Nat) :
    ({ s with dm := d } : State).perfFld f p n = { s.perfFld f p n with dm := d } := by
  by_cases h : (s.hdr (f.page + p)).perfOn
  · rw [State.perfFld, State.perfFld, if_pos h]
    refine (if_pos h).trans ?_
    cases ctrIndex f
    · rfl
    · exact s.perf_withDm d _ _ _
  · rw [State.perfFld, State.perfFld, if_neg h]
    exact if_neg h

theorem State.sat_withDm (s : State) (d : Dmc) (f : Fld) (p i n : Nat) :
    ({ s with dm := d } : State).sat f p i n = { s.sat f p i n with dm := d } :=
  State.perfFld_withDm (s.wfp f p i (satAdd f.w (s.rfp f p i) n)) d f p n

theorem memoryAccessEnds : Claims.MemoryAccessEnds := by
  intro s u i r write htm c dead hidx hreq out free outB
  have hrun (o : AccessOutcome) : exec (.dmcAccessComplete u write o) s = .next (
      if dead then out.accessError r
      else
        let bank := unitBank u
        let s : State := { s with dm := { s.dm with bankFree := free } }
        match o with
        | .good => (outB.accessGood r).forceRefresh bank
        | .corrected =>
          let s := if write then s else s.sat TM_DMC.ODECC_CORR.COUNT c 0 1
          ((s.setDmc (fun d => { d with reqs := d.reqs.take i ++ d.reqs.drop (i + 1) })).accessGood r).forceRefresh bank
        | .crcError =>
          if r.tries < 2 then
            let s := s.sat TM_DMC.CRC_RETRY.COUNT c 0 1
            (s.setDmc (fun d => { d with reqs := listSet d.reqs i { r with tries := r.tries + 1, active := false } })).forceRefresh bank
          else ((outB.accessUnc r false).accessError r).forceRefresh bank
        | .uncorrectable => ((outB.accessUnc r true).accessError r).forceRefresh bank) := by
    refine congrArg Host.Outcome.next ((s.onTm_on _ htm).trans ?_)
    rw [State.accessComplete]
    dsimp only
    rw [hidx]
    dsimp only
    rw [hreq]
    cases o <;> rfl
  refine ⟨fun hdead o => (hrun o).trans (congrArg _ (if_pos hdead)), fun halive => ?_⟩
  have hlive (o : AccessOutcome) := (hrun o).trans (congrArg _ (if_neg (by simp [halive])))
  refine ⟨hlive .good, ?_, hlive .uncorrectable, fun htries => (hlive .crcError).trans (congrArg _ (if_neg (by omega))), fun htries =>
    ⟨_, (hlive .crcError).trans (congrArg _ (if_pos htries)), ?_⟩⟩
  · refine (hlive .corrected).trans ?_
    cases write
    · dsimp only
      rw [State.sat_withDm]
      rfl
    · rfl
  · dsimp only
    rw [State.sat_withDm]
    rw [State.sat_frame]
    exact ⟨State.rfp_wfp_same _ _ _ _ _, rfl, rfl⟩

/-- Settles O31. -/
theorem memoryAccess : Obligations.MemoryAccess := ⟨memoryActivates, memoryAccessEnds⟩

end Sys2Proof.Machine
end

section
/-! PROOF. The indirect registers of the scheduler, the shapers and the policers (R317, R320, R322, R323, R327, R329, R339 to R341). -/

namespace Sys2Proof.Machine

/-! ### Windows of a profile -/

theorem bits_selWord (sel : Nat) {k lo w : Nat} (b : Bool) (h : lo + w ≤ k) (hk : k ≤ 32) :
    bits (setBit (sel % 2 ^ 32) k b) lo w = bits sel lo w := by
  rw [bits_setBit_apart _ _ (.inl h), bits_mod_two_pow _ (by omega)]

/-- A profile shown: its selector written, then the words of its window filled from the profiles' store. -/
theorem State.window_shown (s : State) (a b f : Fld) (x y n : Nat) (g : State → Nat → Nat) (hg : ∀ (u : State) r k, g { u with regs := r } k = g u k)
    (hper : f.per = 1) (hstride : 0 < f.stride) :
    let t := (List.range n).foldl (fun (u : State) k => u.wfi f k (g u k)) ((s.wf a x).wf b y)
    t = { s with regs := t.regs } ∧ ∀ k, k < n → t.rfi f k = g s k % 2 ^ f.w := by
  intro t
  have ht : t = { s with regs := regFill (regPut (regPut s.regs a 0 0 x) b 0 0 y) f n (g s) } := by
    have hgs : g ((s.wf a x).wf b y) = g s := funext fun k => hg s _ k
    rw [← hgs]
    exact State.foldl_wfi_fill _ f n g (hg _)
  rw [ht]
  exact ⟨rfl, fun k hk => regGet_regFill_same _ _ hper hstride hk⟩

/-! ### Scheduler nodes -/

theorem State.node_setNode_same (s : State) (k : Nat) (n : Node) : (s.setNode k n).node k = n := SMap.get_put_same _ _ _ _

/-- Only the registers, the scheduling store and the page counters differ, and no node does. -/
def State.KeepsNodes (s u : State) : Prop := u = { s with regs := u.regs, sc := u.sc, hdrs := u.hdrs } ∧ u.sc.nodes = s.sc.nodes

theorem State.KeepsNodes.refl (s : State) : s.KeepsNodes s := ⟨rfl, rfl⟩

theorem State.frame_of_schedFrame {s t u : State} (hst : t = { s with regs := t.regs, sc := t.sc, hdrs := t.hdrs })
    (htu : u = { t with regs := u.regs, sc := u.sc, hdrs := u.hdrs }) : u = { s with regs := u.regs, sc := u.sc, hdrs := u.hdrs } := by
  generalize t.regs = r at hst
  generalize t.sc = c at hst
  generalize t.hdrs = h at hst
  subst hst
  exact htu

theorem State.KeepsNodes.trans {s t u : State} (hst : s.KeepsNodes t) (htu : t.KeepsNodes u) : s.KeepsNodes u :=
  ⟨State.frame_of_schedFrame hst.1 htu.1, htu.2.trans hst.2⟩

theorem State.unround_keepsNodes (s : State) (k : Nat) : s.KeepsNodes (s.unround k) := ⟨rfl, rfl⟩

theorem State.setShaper_keepsNodes (s : State) (k : Nat) (sh : Option Shaper) : s.KeepsNodes (s.setShaper k sh) := ⟨rfl, rfl⟩

theorem State.unshape_keepsNodes (s : State) (k : Nat) : s.KeepsNodes (s.unshape k) := by
  rw [State.unshape, State.setCal, State.setCnt_frame]
  exact ⟨rfl, rfl⟩

/-- What a changed node does to the rounds it took part in (R320). -/
def State.nodeMoved (s : State) (k : Nat) (n n' : Node) : State := if n'.parent ≠ n.parent then s.unround k else s

/-- What a changed node does to its shaper (R322, R323). -/
def State.nodeShaped (s : State) (k : Nat) (n n' : Node) (sh : Shaper) : State :=
  if n'.shapeEn && !n.shapeEn then s.setShaper k none
  else if n.shapeEn && !n'.shapeEn then s.unshape k
  else if s.shaped k && n'.shprof ≠ n.shprof then s.setShaper k (some (if s.inCalendar k then sh else sh.adopt (s.nodeShProf k)))
  else s

theorem State.nodeMoved_keepsNodes (s : State) (k : Nat) (n n' : Node) : s.KeepsNodes (s.nodeMoved k n n') := by
  rw [State.nodeMoved]
  split
  · exact s.unround_keepsNodes k
  · exact .refl s

theorem State.nodeShaped_keepsNodes (s : State) (k : Nat) (n n' : Node) (sh : Shaper) : s.KeepsNodes (s.nodeShaped k n n' sh) := by
  rw [State.nodeShaped]
  split
  · exact s.setShaper_keepsNodes k _
  · split
    · exact s.unshape_keepsNodes k
    · split
      · exact s.setShaper_keepsNodes k _
      · exact .refl s

/-- A node of the scheduler stored, with what follows from the change. -/
def State.nodeStored (s : State) (k : Nat) (n' : Node) : State :=
  ((s.setNode k n').nodeMoved k (s.node k) n').nodeShaped k (s.node k) n' (s.shaper k)

theorem State.nodeStored_spec (s : State) (k : Nat) (n' : Node) :
    (s.nodeStored k n').node k = n' ∧ (∀ j, j ≠ k → (s.nodeStored k n').node j = s.node j) ∧
    s.nodeStored k n' = { s with regs := (s.nodeStored k n').regs, sc := (s.nodeStored k n').sc, hdrs := (s.nodeStored k n').hdrs } := by
  obtain ⟨hframe, hnodes⟩ : (s.setNode k n').KeepsNodes (s.nodeStored k n') :=
    (State.nodeMoved_keepsNodes _ _ _ _).trans (State.nodeShaped_keepsNodes _ _ _ _ _)
  refine ⟨?_, fun j hj => ?_, State.frame_of_schedFrame rfl hframe⟩
  · rw [State.node, hnodes]
    exact SMap.get_put_same _ _ _ _
  · rw [State.node, hnodes]
    exact (SMap.get_put_ne _ _ _ _ _ _ hj)

/-- The record of a node that the data registers make. -/
def State.nodeRecord (s : State) (level parent : Nat) : Node :=
  ⟨if level = 1 || level = 2 then s.rf TM_SCHED.NODE_DATA0.PARENT else parent, s.rf TM_SCHED.NODE_DATA0.PRIO,
    s.rf TM_SCHED.NODE_DATA0.WEIGHT, s.rf TM_SCHED.NODE_DATA1.SHPROF, s.rfb TM_SCHED.NODE_DATA1.SHAPE_EN && level ≠ 0,
    if level = 3 then s.rf TM_SCHED.NODE_DATA1.CLS_PROF else 0⟩

theorem State.nodeSel_frame (s : State) (v : Nat) (e : Bool) : s.nodeSel v e = { s with regs := (s.nodeSel v e).regs } := rfl

theorem b2n_or_decide (b : Bool) (p : Prop) [Decidable p] : b2n (b || decide p) = if b = true ∨ p then 1 else 0 := by
  rw [b2n]
  exact if_congr (by simp) rfl rfl

theorem State.chan_nodeSel (s : State) (v : Nat) (e : Bool) (x : Nat) : (s.nodeSel v e).chan x = s.chan x := by
  rw [State.nodeSel_frame]
  rfl

theorem State.node_nodeSel (s : State) (v : Nat) (e : Bool) (j : Nat) : (s.nodeSel v e).node j = s.node j := by
  rw [State.nodeSel_frame]
  rfl

/-- A write that the records of the scheduler refuse (R320, R323). -/
def State.NodeRefused (s : State) (level k : Nat) : Prop :=
  level = 1 ∧ 257 < s.rf TM_SCHED.NODE_DATA0.PARENT ∨ level = 2 ∧ 4095 < s.rf TM_SCHED.NODE_DATA0.PARENT ∨
    level ≠ 0 ∧ s.rf TM_SCHED.NODE_DATA1.SHAPE_EN = 1 ∧ s.calLimit level ≤ k % 65536

theorem State.nodeWrite_refused {s : State} {v k : Nat} (hopen : s.blockOpen 4151 = true) (hk : s.nodeAt (bits v 0 2) (bits v 2 16) = some k)
    (hbad : s.NodeRefused (bits v 0 2) k) : s.nodeWrite v = s.nodeSel v true := by
  rw [State.nodeWrite, if_neg (by simp [hopen])]
  simp only [hk]
  refine if_pos ?_
  simpa [State.rfb, State.NodeRefused, and_assoc, or_assoc, and_left_comm] using hbad

theorem State.nodeWrite_stored {s : State} {v k : Nat} (hopen : s.blockOpen 4151 = true) (hk : s.nodeAt (bits v 0 2) (bits v 2 16) = some k)
    (hgood : ¬s.NodeRefused (bits v 0 2) k) : let u := s.nodeSel v false
    s.nodeWrite v = (u.busyChans.filter u.pathOk).foldl (fun (t : State) x => t.orphanCheck x) 
      (u.nodeStored k (s.nodeRecord (bits v 0 2) (u.node k).parent)) := by
  intro u
  have hdata : u.rf TM_SCHED.NODE_DATA0.PRIO = s.rf TM_SCHED.NODE_DATA0.PRIO ∧ u.rf TM_SCHED.NODE_DATA0.WEIGHT = s.rf TM_SCHED.NODE_DATA0.WEIGHT ∧
      u.rf TM_SCHED.NODE_DATA1.SHPROF = s.rf TM_SCHED.NODE_DATA1.SHPROF ∧ u.rf TM_SCHED.NODE_DATA1.CLS_PROF = s.rf TM_SCHED.NODE_DATA1.CLS_PROF := by
    simp (disch := decide) only [u, State.nodeSel, State.rf_get, State.wf_regs, regGet_regPut_ne, and_self]
  obtain ⟨hprio, hweight, hshprof, hcls⟩ := hdata
  rw [State.nodeWrite, if_neg (by simp [hopen])]
  simp only [hk]
  rw [if_neg (by simpa [State.rfb, State.NodeRefused, and_assoc, or_assoc, and_left_comm] using hgood)]
  simp only [u] at hprio hweight hshprof hcls ⊢
  generalize s.nodeSel v false = u at *
  rw [hprio, hweight, hshprof, hcls]
  rfl

theorem State.busyPaths_regs (s : State) (r : SMap Nat) :
    ({ s with regs := r } : State).busyChans.filter ({ s with regs := r } : State).pathOk = s.busyChans.filter s.pathOk := rfl

theorem State.nodeWrite_spec {s : State} {v k : Nat} (hopen : s.blockOpen 4151 = true) (hk : s.nodeAt (bits v 0 2) (bits v 2 16) = some k)
    (hgood : ¬s.NodeRefused (bits v 0 2) k) : ∃ u : State, u = { s with regs := u.regs, sc := u.sc, hdrs := u.hdrs } ∧
      u.node k = s.nodeRecord (bits v 0 2) (s.node k).parent ∧ (∀ j, j ≠ k → u.node j = s.node j) ∧
      s.nodeWrite v = (s.busyChans.filter s.pathOk).foldl (fun (t : State) x => t.orphanCheck x) u := by
  have hwrite := State.nodeWrite_stored hopen hk hgood
  dsimp only at hwrite
  rw [s.node_nodeSel, s.nodeSel_frame, s.busyPaths_regs] at hwrite
  generalize (s.nodeSel v false).regs = r at hwrite
  generalize s.nodeRecord (bits v 0 2) (s.node k).parent = n at hwrite ⊢
  obtain ⟨hsame, hne, hframe⟩ := State.nodeStored_spec { s with regs := r } k n
  exact ⟨_, State.frame_of_schedFrame rfl hframe, hsame, hne, hwrite⟩

/-! ### Profiles -/

theorem bits_bits (v : Nat) {lo w l n : Nat} (h : l + n ≤ w) : bits (bits v lo w) l n = bits v (lo + l) n := by
  refine Nat.eq_of_testBit_eq fun j => ?_
  rw [bits_testBit, bits_testBit, bits_testBit, Nat.add_assoc]
  by_cases hj : j < n
  · simp [hj, show l + j < w by omega]
  · simp [hj]

theorem sumN_range_succ (f : Nat → Nat) (n : Nat) : sumN ((List.range (n + 1)).map f) = sumN ((List.range n).map f) + f n := by
  rw [sumN, List.range_succ, List.map_append, List.foldl_append]
  rfl

/-- A number of digits of 16 bits: its bound, and its digits. -/
theorem bits_digits (a : Nat → Nat) (ha : ∀ c, a c < 2 ^ 16) (n : Nat) :
    sumN ((List.range n).map (fun c => a c * 2 ^ (16 * c))) < 2 ^ (16 * n) ∧
    ∀ c, c < n → bits (sumN ((List.range n).map (fun c => a c * 2 ^ (16 * c)))) (16 * c) 16 = a c := by
  induction n with
  | zero => exact ⟨Nat.one_pos, fun c hc => absurd hc (by omega)⟩
  | succ n ih =>
    obtain ⟨hlt, hdigit⟩ := ih
    rw [sumN_range_succ]
    generalize sumN ((List.range n).map (fun c => a c * 2 ^ (16 * c))) = x at *
    refine ⟨?_, fun c hc => ?_⟩
    · calc x + a n * 2 ^ (16 * n) < 2 ^ (16 * n) + a n * 2 ^ (16 * n) := Nat.add_lt_add_right hlt _
        _ = (a n + 1) * 2 ^ (16 * n) := by rw [Nat.add_mul, Nat.one_mul, Nat.add_comm]
        _ ≤ 2 ^ 16 * 2 ^ (16 * n) := Nat.mul_le_mul_right _ (ha n)
        _ = 2 ^ (16 * (n + 1)) := by rw [← Nat.pow_add, Nat.mul_add, Nat.add_comm]
    · obtain h | rfl : c < n ∨ c = n := by omega
      · rw [← hdigit c h, ← bits_mod_two_pow (x + _) (by omega : 16 * c + 16 ≤ 16 * n), Nat.add_mul_mod_self_right, Nat.mod_eq_of_lt hlt]
      · rw [bits, Nat.shiftRight_eq_div_pow, Nat.add_mul_div_right _ _ (Nat.two_pow_pos _), Nat.div_eq_of_lt hlt, Nat.zero_add,
          Nat.mod_eq_of_lt (ha c)]

/-- The classes' weights and priorities that the window's words make (R339). -/
def clsProfImage (d : Nat) : Nat := sumN ((List.range 7).map (fun c => (bits d (16 * c) 10 + bits d (16 * c + 12) 3 * 2 ^ 12) * 2 ^ (16 * c)))

theorem bits_clsProfImage (d c : Nat) (hc : c < 7) : bits (clsProfImage d) (16 * c) 10 = bits d (16 * c) 10 ∧
    bits (clsProfImage d) (16 * c + 12) 3 = bits d (16 * c + 12) 3 := by
  have hlow (k : Nat) := bits_lt d (16 * k) 10
  have hhigh (k : Nat) := bits_lt d (16 * k + 12) 3
  have hdigit : bits (clsProfImage d) (16 * c) 16 = bits d (16 * c) 10 + bits d (16 * c + 12) 3 * 2 ^ 12 :=
    (bits_digits (fun k => bits d (16 * k) 10 + bits d (16 * k + 12) 3 * 2 ^ 12)
      (fun k => by have := hlow k; have := hhigh k; omega) 7).2 c hc
  have hfirst := bits_bits (clsProfImage d) (lo := 16 * c) (w := 16) (l := 0) (n := 10) (by decide)
  have hsecond := bits_bits (clsProfImage d) (lo := 16 * c) (w := 16) (l := 12) (n := 3) (by decide)
  rw [← hsecond, ← Nat.add_zero (16 * c), ← hfirst, Nat.add_zero, hdigit]
  have h1 := hlow c
  have h2 := hhigh c
  generalize bits d (16 * c) 10 = p at *
  generalize bits d (16 * c + 12) 3 = q at *
  simp only [bits, Nat.shiftRight_eq_div_pow]
  omega
theorem State.setShapers_frame (s : State) (l : List Nat) : let t := l.foldl (fun (u : State) k => u.setShaper k (some (u.shaper k))) s
    t = { s with sc := t.sc } ∧ t.sc.shProf = s.sc.shProf := by
  induction l generalizing s with
  | nil => exact ⟨rfl, rfl⟩
  | cons k l ih =>
    obtain ⟨hframe, hprof⟩ := ih (s.setShaper k (some (s.shaper k)))
    exact ⟨hframe, hprof⟩

/-- The words of a window behind the write of its selector. -/
theorem State.window_words (s : State) {a b f : Fld} {n : Nat} (x y : Nat) (h : ∀ k < n, f.key 0 k ≠ a.key 0 0 ∧ f.key 0 k ≠ b.key 0 0) :
    ∀ k, k < n → ((s.wf a x).wf b y).rfi f k = s.rfi f k := fun k hk =>
  (State.rfp_wfp_ne _ _ _ _ _ _ _ _ (h k hk).2).trans (State.rfp_wfp_ne _ _ _ _ _ _ _ _ (h k hk).1)

theorem State.clsprofWrite_spec (s : State) (v : Nat) (hopen : s.blockOpen 4151 = true) :
    s.clsprofWrite v = { (s.wf TM_SCHED.CLSPROF_SEL.PROFILE (bits v 0 6)).wf TM_SCHED.CLSPROF_SEL.OP (bits v 6 1) with
      sc := { s.sc with clsProf := SMap.put clsProfReset s.sc.clsProf (bits v 0 6) (clsProfImage
        (sumN ((List.range 4).map (fun k => s.rfi TM_SCHED.CLSPROF_DATA.DATA k * 2 ^ (32 * k))))) } } := by
  have hword := s.window_words (a := TM_SCHED.CLSPROF_SEL.PROFILE) (b := TM_SCHED.CLSPROF_SEL.OP) (f := TM_SCHED.CLSPROF_DATA.DATA) (n := 4)
    (bits v 0 6) (bits v 6 1) (by decide)
  have hmap : (List.range 4).map (fun k => s.rfi TM_SCHED.CLSPROF_DATA.DATA k * 2 ^ (32 * k)) = (List.range 4).map (fun k =>
      ((s.wf TM_SCHED.CLSPROF_SEL.PROFILE (bits v 0 6)).wf TM_SCHED.CLSPROF_SEL.OP (bits v 6 1)).rfi TM_SCHED.CLSPROF_DATA.DATA k * 2 ^ (32 * k)) :=
    List.map_congr_left fun k hk => by rw [hword k (List.mem_range.mp hk)]
  rw [State.clsprofWrite, if_neg (by simp [hopen]), hmap]
  rfl

/-- A shaping profile stored: shapers that would gain by a longer burst are settled first (R322). -/
def State.putShProf (s : State) (i x : Nat) : State :=
  let u : State := if shBurst (s.shProf i) < shBurst x then (s.fullShapers i).foldl (fun s k => s.setShaper k (some (s.shaper k))) s else s
  { u with sc := { u.sc with shProf := SMap.put shProfReset u.sc.shProf i x } }

theorem State.putShProf_frame (s : State) (i x : Nat) :
    s.putShProf i x = { s with sc := (s.putShProf i x).sc } ∧ (s.putShProf i x).sc.shProf = SMap.put shProfReset s.sc.shProf i x := by
  rw [State.putShProf]
  split
  · obtain ⟨hframe, hprof⟩ := s.setShapers_frame (s.fullShapers i)
    generalize List.foldl _ _ _ = u at hframe hprof ⊢
    generalize u.sc = c at hframe hprof ⊢
    subst hframe
    exact ⟨rfl, congrArg (SMap.put shProfReset · i x) hprof⟩
  · exact ⟨rfl, rfl⟩

theorem State.putShProf_shProf (s : State) (i x : Nat) :
    (s.putShProf i x).shProf i = x ∧ ∀ j, j ≠ i → (s.putShProf i x).shProf j = s.shProf j := by
  obtain ⟨-, hprof⟩ := s.putShProf_frame i x
  simp only [State.shProf, hprof]
  exact ⟨SMap.get_put_same _ _ _ _, fun j hj => SMap.get_put_ne _ _ _ _ _ _ hj⟩

theorem State.sched_frame {s t : State} {r : SMap Nat} (h : t = { ({ s with regs := r } : State) with sc := t.sc }) :
    t = { s with regs := t.regs, sc := t.sc } := by
  generalize t.sc = c at h
  subst h
  rfl

theorem State.shprofWrite_spec (s : State) (v : Nat) (hopen : s.blockOpen 4152 = true) : ∃ r, s.shprofWrite v =
    ({ s with regs := r } : State).putShProf (bits v 0 12)
      (s.rfi TM_SHAPE.SHPROF_DATA.DATA 0 + s.rfi TM_SHAPE.SHPROF_DATA.DATA 1 % 2 ^ 31 * 2 ^ 32) := by
  have hword := s.window_words (a := TM_SHAPE.SHPROF_SEL.PROFILE) (b := TM_SHAPE.SHPROF_SEL.OP) (f := TM_SHAPE.SHPROF_DATA.DATA) (n := 2)
    (bits v 0 12) (bits v 12 1) (by decide)
  rw [State.shprofWrite, if_neg (by simp [hopen])]
  dsimp only
  rw [hword 0 (by decide), hword 1 (by decide)]
  exact ⟨_, rfl⟩

/-- The registers of a shaper shown (R340). -/
def State.shaperShown (s : State) (k : Nat) : State :=
  ((s.wf TM_SHAPE.SHAPER_SEL.ERR 0).wf TM_SHAPE.SHAPER_CREDIT.BYTES (ofSigned 32 ((s.shaper k).credit / 65536))).wf TM_SHAPE.SHAPER_NEXT.NS
    (match s.sc.cal.find? (fun e => decide (e.node = k)) with
      | some e => ceilDiv (e.slot * slot32 - s.time) (2 ^ 32)
      | none => 0)

theorem State.shaperShown_spec (s : State) (k : Nat) : let t := s.shaperShown k
    t = { s with regs := t.regs } ∧ t.rf TM_SHAPE.SHAPER_SEL.ERR = 0 ∧
      t.rf TM_SHAPE.SHAPER_CREDIT.BYTES = ofSigned 32 ((s.shaper k).credit / 65536) ∧
      (s.inCalendar k = false → t.rf TM_SHAPE.SHAPER_NEXT.NS = 0) := by
  rw [State.shaperShown]
  generalize hnext : (match s.sc.cal.find? (fun e => decide (e.node = k)) with
    | some e => ceilDiv (e.slot * slot32 - s.time) (2 ^ 32)
    | none => 0) = next
  refine ⟨by simp only [State.wf_frame], ?_, ?_, fun hcal => ?_⟩
  · simp (disch := decide) only [State.rf_get, State.wf_regs, regGet_regPut_ne, regGet_regPut_same]
    rfl
  · simp (disch := decide) only [State.rf_get, State.wf_regs, regGet_regPut_ne, regGet_regPut_same]
    rw [ofSigned]
    generalize (s.shaper k).credit / 65536 = c
    show (c % 2 ^ 32).toNat % 2 ^ 32 = _
    omega
  · have hnone : s.sc.cal.find? (fun e => decide (e.node = k)) = none := by
      rw [List.find?_eq_none]
      intro e he
      have := (List.any_eq_false.mp hcal) e he
      simpa using this
    rw [hnone] at hnext
    simp (disch := decide) only [State.rf_get, State.wf_regs, regGet_regPut_same, ← hnext]
    rfl

theorem State.shaperLoad_spec (s : State) (sel : Nat) (hopen : s.blockOpen 4152 = true) : let t := s.shaperLoad sel
    t = { s with regs := t.regs } ∧
      (s.nodeAt (bits sel 0 2) (bits sel 2 16) = none → t.rf TM_SHAPE.SHAPER_SEL.ERR = 1) ∧
      ∀ k, s.nodeAt (bits sel 0 2) (bits sel 2 16) = some k →
        (s.shaped k = false → t.rf TM_SHAPE.SHAPER_SEL.ERR = 1) ∧
        (s.shaped k = true → t.rf TM_SHAPE.SHAPER_SEL.ERR = 0 ∧
          t.rf TM_SHAPE.SHAPER_CREDIT.BYTES = ofSigned 32 ((s.shaper k).credit / 65536) ∧
          (s.inCalendar k = false → t.rf TM_SHAPE.SHAPER_NEXT.NS = 0)) := by
  have hload : s.shaperLoad sel =
      let u := (s.wf TM_SHAPE.SHAPER_SEL.LEVEL (bits sel 0 2)).wf TM_SHAPE.SHAPER_SEL.INDEX (bits sel 2 16)
      match s.nodeAt (bits sel 0 2) (bits sel 2 16) with
      | none => u.wf TM_SHAPE.SHAPER_SEL.ERR 1
      | some k => if !s.shaped k then u.wf TM_SHAPE.SHAPER_SEL.ERR 1 else u.shaperShown k := by
    rw [State.shaperLoad, if_neg (by simp [hopen])]
    rfl
  rw [hload]
  cases hk : s.nodeAt (bits sel 0 2) (bits sel 2 16) with
  | none => exact ⟨rfl, fun _ => State.rf_wf_same _ _ _, fun k h => absurd h (by simp)⟩
  | some k =>
    dsimp only
    cases hshaped : s.shaped k
    · rw [if_pos (by decide)]
      refine ⟨rfl, fun h => absurd h (by simp), fun j hj => ⟨fun _ => State.rf_wf_same _ _ _, fun h => ?_⟩⟩
      rw [← Option.some.inj hj, hshaped] at h
      exact absurd h (by decide)
    · rw [if_neg (by decide)]
      obtain ⟨hframe, herr, hbytes, hns⟩ := State.shaperShown_spec
        ((s.wf TM_SHAPE.SHAPER_SEL.LEVEL (bits sel 0 2)).wf TM_SHAPE.SHAPER_SEL.INDEX (bits sel 2 16)) k
      refine ⟨hframe, fun h => absurd h (by simp), fun j hj => ?_⟩
      rw [← Option.some.inj hj, hshaped]
      exact ⟨fun h => absurd h (by decide), fun _ => ⟨herr, hbytes, hns⟩⟩

/-! ### The scheduler's and the shapers' commands -/

theorem nodeRead_spec (s : State) (v k : Nat) (hopen : s.blockOpen 4151 = true) (hk : s.nodeAt (bits v 0 2) (bits v 2 16) = some k) :
    let t := s.nodeRead v
    t = { s with regs := t.regs } ∧ t.rf TM_SCHED.NODE_SEL.ERR = 0 ∧
      t.rf TM_SCHED.NODE_DATA1.SHPROF = (s.node k).shprof % 2 ^ TM_SCHED.NODE_DATA1.SHPROF.w ∧
      t.rf TM_SCHED.NODE_DATA0.WEIGHT = (s.node k).weight % 2 ^ TM_SCHED.NODE_DATA0.WEIGHT.w ∧
      t.rf TM_SCHED.NODE_DATA0.PRIO = (s.node k).prio % 2 ^ TM_SCHED.NODE_DATA0.PRIO.w ∧
      t.rf TM_SCHED.NODE_DATA0.PARENT = (if bits v 0 2 = 0 then 0 else if bits v 0 2 = 3 then (s.chan (k % 65536)).parent
        else (s.node k).parent) % 2 ^ TM_SCHED.NODE_DATA0.PARENT.w ∧
      t.rf TM_SCHED.NODE_DATA1.SHAPE_EN = (if (s.node k).shapeEn ∨ bits v 0 2 = 0 then 1 else 0) ∧
      t.rf TM_SCHED.NODE_DATA1.CLS_PROF = (s.node k).clsProf % 2 ^ TM_SCHED.NODE_DATA1.CLS_PROF.w := by
  rw [State.nodeRead, if_neg (by simp [hopen]), hk]
  dsimp only
  rw [s.node_nodeSel, s.chan_nodeSel]
  generalize (if bits v 0 2 = 0 then 0 else if bits v 0 2 = 3 then (s.chan (k % 65536)).parent else (s.node k).parent) = parent
  refine ⟨by simp only [State.nodeSel, State.wf_frame], ?_⟩
  simp (disch := decide) only [State.nodeSel, State.rf_get, State.wf_regs, regGet_regPut_ne, regGet_regPut_same, true_and]
  rw [b2n_or_decide]
  refine ⟨rfl, ?_, trivial⟩
  split
  · rfl
  · rfl

theorem schedulerRecords : Claims.SchedulerRecords := by
  intro s sel htm w
  have hlevel (b : Bool) : bits (setBit w 18 b) 0 2 = bits sel 0 2 := bits_selWord _ _ (by decide) (by decide)
  have hidx (b : Bool) : bits (setBit w 18 b) 2 16 = bits sel 2 16 := bits_selWord _ _ (by decide) (by decide)
  have hcls (b : Bool) : bits (setBit w 6 b) 0 6 = bits sel 0 6 := bits_selWord _ _ (by decide) (by decide)
  have hsh (b : Bool) : bits (setBit w 12 b) 0 12 = bits sel 0 12 := bits_selWord _ _ (by decide) (by decide)
  have hrun {i : Instr} {f : State → State} (h : exec i s = .next (s.onTm f)) : exec i s = .next (f s) := h.trans (congrArg _ (s.onTm_on f htm))
  have hnodeRead := hrun (i := .nodeRead sel) rfl
  have hnodeWrite := hrun (i := .nodeWrite sel) rfl
  have hclsRead := hrun (i := .clsprofRead sel) rfl
  have hclsWrite := hrun (i := .clsprofWrite sel) rfl
  have hshRead := hrun (i := .shprofRead sel) rfl
  have hshWrite := hrun (i := .shprofWrite sel) rfl
  have hload := hrun (i := .shaperLoad sel) rfl
  change _ = Host.Outcome.next (s.nodeRead (setBit w 18 false)) at hnodeRead
  change _ = Host.Outcome.next (s.nodeWrite (setBit w 18 true)) at hnodeWrite
  change _ = Host.Outcome.next (s.clsprofRead (setBit w 6 false)) at hclsRead
  change _ = Host.Outcome.next (s.clsprofWrite (setBit w 6 true)) at hclsWrite
  change _ = Host.Outcome.next (s.shprofRead (setBit w 12 false)) at hshRead
  change _ = Host.Outcome.next (s.shprofWrite (setBit w 12 true)) at hshWrite
  clear_value w
  refine ⟨fun hopen => ⟨fun hnone => ⟨hnodeRead.trans ?_, hnodeWrite.trans ?_⟩,
      fun k hk => ⟨?_, fun hbad => hnodeWrite.trans (congrArg _ ?_), fun hparent1 hparent2 hcal => ?_⟩, ?_, ?_⟩,
    fun hopen => ⟨?_, ?_, ?_⟩⟩
  · rw [State.nodeRead, if_neg (by simp [hopen]), hlevel, hidx, hnone]
  · rw [State.nodeWrite, if_neg (by simp [hopen]), hlevel, hidx]
    simp only [hnone]
  · obtain ⟨hframe, herr, hsp, hweight, hprio, hparent, hen, hcp⟩ := nodeRead_spec s (setBit w 18 false) k hopen (by rw [hlevel, hidx, hk])
    rw [hlevel] at hparent hen
    exact ⟨_, hnodeRead, hframe, herr, hsp, hweight, hprio, hparent, hen, hcp⟩
  · exact State.nodeWrite_refused hopen (by rw [hlevel, hidx, hk]) (by rw [hlevel]; exact hbad)
  · obtain ⟨u, hframe, hsame, hne, hwrite⟩ := State.nodeWrite_spec (v := setBit w 18 true) hopen (by rw [hlevel, hidx, hk])
      (by rw [hlevel]; exact fun h => h.elim hparent1 fun h => h.elim hparent2 hcal)
    refine ⟨u, hframe, ?_, hne, hnodeWrite.trans (congrArg _ hwrite)⟩
    rw [hsame, State.nodeRecord, hlevel]
    simp [State.rfb]
  · refine ⟨_, hclsRead, ?_⟩
    rw [State.clsprofRead, if_neg (by simp [hopen]), hcls]
    obtain ⟨hframe, hdata⟩ := s.window_shown TM_SCHED.CLSPROF_SEL.PROFILE TM_SCHED.CLSPROF_SEL.OP TM_SCHED.CLSPROF_DATA.DATA (bits sel 0 6)
      (bits (setBit w 6 false) 6 1) 4 (fun u k => bits (u.clsProf (bits sel 0 6)) (32 * k) 32) (fun _ _ _ => rfl) rfl (by decide)
    exact ⟨hframe, fun k hk => (hdata k hk).trans (bits_mod _ _ _)⟩
  · refine ⟨_, hclsWrite, ?_⟩
    rw [s.clsprofWrite_spec _ hopen, hcls]
    refine ⟨by simp only [State.wf_frame], fun c hc => ?_, fun i hi => SMap.get_put_ne _ _ _ _ _ _ hi⟩
    rw [State.clsProf, SMap.get_put_same]
    exact bits_clsProfImage _ c hc
  · refine ⟨_, hshRead, ?_⟩
    rw [State.shprofRead, if_neg (by simp [hopen]), hsh]
    obtain ⟨hframe, hdata⟩ := s.window_shown TM_SHAPE.SHPROF_SEL.PROFILE TM_SHAPE.SHPROF_SEL.OP TM_SHAPE.SHPROF_DATA.DATA (bits sel 0 12)
      (bits (setBit w 12 false) 12 1) 2 (fun u k => bits (u.shProf (bits sel 0 12)) (32 * k) 32) (fun _ _ _ => rfl) rfl (by decide)
    exact ⟨hframe, fun k hk => (hdata k hk).trans (bits_mod _ _ _)⟩
  · refine ⟨_, hshWrite, ?_⟩
    obtain ⟨r, hwrite⟩ := s.shprofWrite_spec (setBit w 12 true) hopen
    rw [hwrite, hsh]
    obtain ⟨hsame, hne⟩ := State.putShProf_shProf { s with regs := r } (bits sel 0 12)
      (s.rfi TM_SHAPE.SHPROF_DATA.DATA 0 + s.rfi TM_SHAPE.SHPROF_DATA.DATA 1 % 2 ^ 31 * 2 ^ 32)
    exact ⟨State.sched_frame (State.putShProf_frame _ _ _).1, hsame, hne⟩
  · exact ⟨_, hload, s.shaperLoad_spec sel hopen⟩

/-! ### Policers -/

theorem State.policer_setPolicer_same (s : State) (i : Nat) (r : Policer) : (s.setPolicer i r).policer i = r := SMap.get_put_same _ _ _ _

theorem State.pprofWrite_spec (s : State) (v : Nat) (hopen : s.blockOpen 4153 = true) : let d := fun k => s.rfi TM_POLICE.PPROF_DATA.DATA k
    ∃ r x, s.pprofWrite v = { s with regs := r, sc := { s.sc with pProf := SMap.put 0 s.sc.pProf (bits v 0 12) x } } ∧
      x = d 0 + d 1 * 2 ^ 32 + d 2 % 2 ^ 28 * 2 ^ 64 + d 3 % 2 ^ 28 * 2 ^ 96 + d 4 % 2 ^ 11 * 2 ^ 128 := by
  intro d
  have hword := s.window_words (a := TM_POLICE.PPROF_SEL.PROFILE) (b := TM_POLICE.PPROF_SEL.OP) (f := TM_POLICE.PPROF_DATA.DATA) (n := 5)
    (bits v 0 12) (bits v 12 1) (by decide)
  rw [State.pprofWrite, if_neg (by simp [hopen])]
  refine ⟨_, _, rfl, ?_⟩
  beta_reduce
  rw [hword 0 (by decide), hword 1 (by decide), hword 2 (by decide), hword 3 (by decide), hword 4 (by decide)]

theorem State.policerRead_spec (s : State) (v : Nat) (hopen : s.blockOpen 4153 = true) : let t := s.policerRead v
    let r := s.policer (bits v 0 18)
    t = { s with regs := t.regs } ∧ t.rf TM_POLICE.POL_DATA0.PROFILE = r.profile % 2 ^ TM_POLICE.POL_DATA0.PROFILE.w ∧
      t.rf TM_POLICE.POL_DATA1.TC = r.tc.level / 65536 % 2 ^ TM_POLICE.POL_DATA1.TC.w ∧
      t.rf TM_POLICE.POL_DATA2.TE = r.te.level / 65536 % 2 ^ TM_POLICE.POL_DATA2.TE.w ∧ t.rf TM_POLICE.POL_DATA3.GREEN = r.green % 2 ^ 32 ∧
      t.rf TM_POLICE.POL_DATA4.YELLOW = r.yellow % 2 ^ 32 ∧ t.rf TM_POLICE.POL_DATA5.RED = r.red % 2 ^ 32 := by
  rw [State.policerRead, if_neg (by simp [hopen])]
  have hpol : (s.polSel v).policer (bits v 0 18) = s.policer (bits v 0 18) := by
    simp only [State.polSel, State.wf_frame]
    rfl
  dsimp only
  rw [hpol]
  generalize s.policer (bits v 0 18) = r
  refine ⟨by simp only [State.polSel, State.wf_frame], ?_⟩
  simp (disch := decide) only [State.rf_get, State.wf_regs, regGet_regPut_ne, regGet_regPut_same, true_and]
  exact ⟨rfl, rfl, rfl⟩

/-- The record of a policer that the data registers make: full buckets, or the levels written and no more than the bursts (R329). -/
def State.policerRecord (s : State) (full : Bool) : Policer :=
  let x := s.pProf (s.rf TM_POLICE.POL_DATA0.PROFILE)
  ⟨s.rf TM_POLICE.POL_DATA0.PROFILE, ⟨(if full then ppCbs x else min (s.rf TM_POLICE.POL_DATA1.TC) (ppCbs x)) * 65536, 0⟩,
    ⟨(if full then ppEbs x else min (s.rf TM_POLICE.POL_DATA2.TE) (ppEbs x)) * 65536, 0⟩, s.cycle, s.rf TM_POLICE.POL_DATA3.GREEN,
    s.rf TM_POLICE.POL_DATA4.YELLOW, s.rf TM_POLICE.POL_DATA5.RED, x⟩

theorem State.policerWrite_spec (s : State) (v : Nat) (hopen : s.blockOpen 4153 = true) :
    ∃ r, s.policerWrite v = ({ s with regs := r } : State).setPolicer (bits v 0 18) (s.policerRecord (bit v 20)) := by
  have hdata : (s.polSel v).policerRecord (bit v 20) = s.policerRecord (bit v 20) := by
    have hprof (i : Nat) : (s.polSel v).pProf i = s.pProf i := by
      simp only [State.polSel, State.wf_frame]
      rfl
    have hcycle : (s.polSel v).cycle = s.cycle := rfl
    simp only [State.policerRecord, hprof, hcycle]
    simp (disch := decide) only [State.polSel, State.rf_get, State.wf_regs, regGet_regPut_ne]
  rw [← hdata, State.policerWrite, if_neg (by simp [hopen])]
  exact ⟨_, rfl⟩

theorem policerRecords : Claims.PolicerRecords := by
  intro s sel htm hopen pr
  have hprof (b : Bool) : bits (setBit (sel % 2 ^ 32) 12 b) 0 12 = bits sel 0 12 := bits_selWord _ _ (by decide) (by decide)
  have hpol (b : Bool) : bits (setBit (sel % 2 ^ 32) 18 b) 0 18 = bits sel 0 18 := bits_selWord _ _ (by decide) (by decide)
  have hinit (b : Bool) : bit (setBit (sel % 2 ^ 32) 18 b) 20 = bit sel 20 := by
    rw [bit_setBit_apart _ _ (by decide), bit, Nat.testBit_mod_two_pow]
    rfl
  refine ⟨⟨_, congrArg Host.Outcome.next (s.onTm_on _ htm), ?_⟩, ⟨_, congrArg Host.Outcome.next (s.onTm_on _ htm), ?_⟩,
    ⟨_, congrArg Host.Outcome.next (s.onTm_on _ htm), ?_⟩, ⟨_, congrArg Host.Outcome.next (s.onTm_on _ htm), ?_⟩⟩
  · rw [State.pprofRead, if_neg (by simp [hopen]), hprof]
    obtain ⟨hframe, hdata⟩ := s.window_shown TM_POLICE.PPROF_SEL.PROFILE TM_POLICE.PPROF_SEL.OP TM_POLICE.PPROF_DATA.DATA (bits sel 0 12)
      (bits (setBit (sel % 2 ^ 32) 12 false) 12 1) 5 (fun u k => bits (u.pProf (bits sel 0 12)) (32 * k) 32) (fun _ _ _ => rfl) rfl (by decide)
    exact ⟨hframe, fun k hk => (hdata k hk).trans (bits_mod _ _ _)⟩
  · obtain ⟨r, x, hwrite, hx⟩ := s.pprofWrite_spec (setBit (sel % 2 ^ 32) 12 true) hopen
    rw [hwrite, hprof]
    exact ⟨rfl, fun i hi => SMap.get_put_ne _ _ _ _ _ _ hi, rfl, (SMap.get_put_same _ _ _ _).trans hx⟩
  · have hshown := s.policerRead_spec (setBit (sel % 2 ^ 32) 18 false) hopen
    rw [hpol] at hshown
    exact hshown
  · obtain ⟨r, hwrite⟩ := s.policerWrite_spec (setBit (sel % 2 ^ 32) 18 true) hopen
    rw [hwrite, hpol, hinit]
    refine ⟨rfl, fun i hi => SMap.get_put_ne _ _ _ _ _ _ hi, ?_⟩
    rw [State.policer_setPolicer_same]
    refine ⟨rfl, rfl, rfl, rfl, rfl, rfl, fun hfull => ?_, fun hfull => ?_⟩
    · rw [hfull]
      exact ⟨rfl, rfl⟩
    · rw [hfull]
      exact ⟨rfl, rfl⟩

/-- Settles O26. -/
theorem schedulingRecords : Obligations.SchedulingRecords := ⟨schedulerRecords, policerRecords⟩

end Sys2Proof.Machine
end

section
/-! PROOF. Channel commands and the end of a destroy (R293, R295 to R299): refuted. -/

namespace Sys2Proof.Machine

/-! ### A channel created while the calendar's count is behind -/

/-- A CHAN_CREATE of channel 0 with MASK 1. -/
def createZero : Cmd :=
  ⟨0, some 0, 0, BitVec.ofNat 512 (0x20 + 2 ^ 192), .fetched, 0, 0, 0, 0, [], 0, false, false, none⟩

/-- A running TM that has fetched the command, with a shaper in its calendar that CAL_WAITING does not show; a page counter of TM_SHAPE
counts what CAL_WAITING counts. (The claim speaks of every state, and nothing in it ties the register to the calendar.) -/
def behindCalendar : State :=
  let s : State := { State.reset with
    pw := { Power.por with rst := 0 }
    hdrs := [(4105, { resetHdr 4105 with enable := true, inReset := false }), (4148, { resetHdr 4148 with enable := true, inReset := false }),
      (4152, { resetHdr 4152 with enable := true, inReset := false, perf0 := ⟨17, true, 0, 0⟩ })]
    hc := { State.reset.hc with cmds := [createZero] }
    sc := { Sched.reset with cal := [⟨1, 0, false⟩] } }
  s.wf TM_CLK.STATUS.ROOT_LOCK 1

theorem behindCalendar_admits : behindCalendar.tmOn = true ∧ behindCalendar.cmd 0 = some createZero ∧ behindCalendar.mayStart createZero = true := by
  decide +kernel

theorem createZero_legal : createZero.opcode = 0x20 ∧ createZero.bits 160 9 = 0 ∧ createZero.bits 129 1 = 0 ∧ createZero.bits 200 14 = 0 ∧
    createZero.bits 192 8 = 1 ∧ createZero.bits 130 1 = 0 ∧ createZero.bits 144 16 = 0 := by decide +kernel

theorem behindCalendar_counts : ((behindCalendar.chanCreate 0).hdr 4152).perf0.count ≠ (behindCalendar.hdr 4152).perf0.count := by
  decide +kernel

/-- Completing a command of a ring leaves the page headers. -/
theorem State.finishR_hdr {s : State} {id n : Nat} {c : Cmd} (hc : s.cmd id = some c) (horphan : c.orphan = false) (hring : c.ring = some n)
    (status detail result P : Nat) : (s.finishR id status detail result).hdr P = s.hdr P := by
  rw [State.finishR, State.finish, hc]
  dsimp only
  rw [if_neg (by simp [horphan]), hring]
  rfl

/-- Refutes O24: a CHAN_CREATE takes its index's node out of the calendar and so brings CAL_WAITING to the calendar's length; where
that was behind, what TM_SHAPE's page counter counts rises, and a page other than TM_CHAN has changed. -/
theorem not_channels : ¬ Obligations.Channels := by
  intro h
  obtain ⟨hon, hcmd, hmay⟩ := behindCalendar_admits
  obtain ⟨hop, hport, hdflt, hparent, hmask, hany, hidx⟩ := createZero_legal
  obtain ⟨hcreate, -⟩ := h.1 behindCalendar 0 createZero hon hcmd hmay
  obtain ⟨-, -, -, hok⟩ := hcreate hop
  obtain ⟨u, hexec, -, -, -, hkept, hframe⟩ := hok (by rw [hport, hdflt, hparent, hmask]; decide) 0 (by decide +kernel)
    (.inl ⟨by rw [hany]; decide, hidx.symm⟩)
  have hrun : exec (.chanCreate 0) behindCalendar = .next (behindCalendar.chanCreate 0) :=
    congrArg Host.Outcome.next (behindCalendar.onTm_on _ hon)
  have hu : u.cmd 0 = some createZero := by
    rw [hframe]
    exact hcmd
  have hdr : (behindCalendar.chanCreate 0).hdr 4152 = behindCalendar.hdr 4152 := by
    rw [Host.Outcome.next.inj (hrun.symm.trans hexec), State.finishR_hdr hu rfl rfl, hkept 4152 (by decide)]
  exact behindCalendar_counts (congrArg (fun p => p.perf0.count) hdr)

end Sys2Proof.Machine
end

section
/-! PROOF. Canaries, voltage, temperature and the life record (R483 to R485, R487). -/

namespace Sys2Proof.Machine

/-! ### The voltage loop's start -/

/-- The word that a write of AVS_EN = 1 makes of AVS_CTRL. -/
def State.avsWord (s : State) : Nat := 1 + s.rf TM_THERM.AVS_CTRL.PERIOD_MS * 2 ^ 8

theorem avsWord_parts (s : State) : bit s.avsWord 0 = true ∧ s.avsWord % 2 = 1 ∧ s.avsWord / 2 ^ 8 = s.rf TM_THERM.AVS_CTRL.PERIOD_MS := by
  have hodd : s.avsWord % 2 = 1 := by
    rw [State.avsWord]
    omega
  refine ⟨?_, hodd, ?_⟩
  · rw [bit, Nat.testBit_zero, hodd]
    rfl
  · rw [State.avsWord]
    omega

theorem State.avsCtrl_on (s : State) (hon : s.rfb TM_THERM.AVS_CTRL.AVS_EN = true) : s.avsCtrl s.avsWord =
    (s.wf TM_THERM.AVS_CTRL.AVS_EN s.avsWord).wf TM_THERM.AVS_CTRL.PERIOD_MS (s.rf TM_THERM.AVS_CTRL.PERIOD_MS) := by
  obtain ⟨-, -, hperiod⟩ := avsWord_parts s
  rw [State.avsCtrl, hperiod]
  exact if_neg (by simp [hon])

theorem State.avsCtrl_off (s : State) (hoff : s.rfb TM_THERM.AVS_CTRL.AVS_EN = false) : ∃ u : State, s.avsCtrl s.avsWord = u ∧
    u = { s with regs := u.regs, th := { s.th with run := 0 } } ∧ u.rf TM_THERM.AVS_CTRL.AVS_EN = 1 ∧
    u.rf TM_THERM.AVS_CTRL.PERIOD_MS = s.rf TM_THERM.AVS_CTRL.PERIOD_MS % 2 ^ TM_THERM.AVS_CTRL.PERIOD_MS.w ∧
    u.rf TM_THERM.AVS_STATE.READBACK = s.rf TM_THERM.AVS_STATE.READBACK ∧
    u.rf TM_THERM.AVS_STATE.TARGET = s.rf TM_THERM.AVS_START.START_MV % 2 ^ TM_THERM.AVS_STATE.TARGET.w ∧
    u.rf TM_THERM.AVS_STATE.AT_MAX = if s.rf TM_THERM.AVS_START.START_MV = s.vMax then 1 else 0 := by
  obtain ⟨hbit, hen, hperiod⟩ := avsWord_parts s
  refine ⟨_, rfl, ?_⟩
  rw [State.avsCtrl, hperiod]
  dsimp only
  rw [if_pos (by simp [hbit, hoff])]
  simp only [State.vMax, b2n]
  simp (disch := decide) only [State.setTh, State.rf_get, State.wf_regs, regGet_regPut_ne, regGet_regPut_same]
  refine ⟨rfl, hen, trivial, trivial, trivial, ?_⟩
  simp only [decide_eq_true_eq]
  split
  next h => exact (if_pos h).symm
  next h => exact (if_neg h).symm

/-! ### Temperatures -/

theorem State.tempNow_frame (s : State) (tm : Bool) (t : Nat) : s.tempNow tm t = { s with regs := (s.tempNow tm t).regs } := by
  rw [State.tempNow]
  split
  · rfl
  · rfl

@[simp] theorem State.tempNow_th (s : State) (tm : Bool) (t : Nat) : (s.tempNow tm t).th = s.th := by rw [State.tempNow_frame]

theorem exec_tempWarn {s : State} {tm : Bool} (hon : (if tm then s.tmOn else s.feOn) = true) (l : List (Nat × Nat)) :
    exec (.tempWarn tm l) s = .next (s.tempWarn tm l) := by
  cases tm
  · exact congrArg Host.Outcome.next ((if_neg (by decide)).trans (s.onFe_on _ hon))
  · exact congrArg Host.Outcome.next ((if_pos rfl).trans (s.onTm_on _ hon))

theorem exec_thermTrip {s : State} {tm : Bool} (hon : (if tm then s.tmOn else s.feOn) = true) (k x : Nat) :
    exec (.thermTrip tm k x) s = .next (s.thermTrip tm k x) := by
  cases tm
  · exact congrArg Host.Outcome.next ((if_neg (by decide)).trans (s.onFe_on _ hon))
  · exact congrArg Host.Outcome.next ((if_pos rfl).trans (s.onTm_on _ hon))

/-- Settles O37. -/
theorem thermalCommands : Obligations.ThermalCommands := by
  intro s
  refine ⟨fun htm hopen => ⟨fun hlock => ?_, fun hlock => ?_⟩, fun htm hon reports back => ?_, fun htm hoff reports back => ?_,
    fun tm hon k x => ?_, fun htm tj th => ?_⟩
  · refine congrArg Host.Outcome.next ((s.onTm_on _ htm).trans ?_)
    dsimp only
    rw [if_pos hopen, State.rwlWrite]
    refine (if_pos hlock).trans ?_
    rw [ite_not]
    exact if_congr eq_comm rfl rfl
  · have hwrite : exec .avsEnable s = .next (s.avsCtrl s.avsWord) := by
      refine congrArg Host.Outcome.next ((s.onTm_on _ htm).trans ?_)
      dsimp only
      rw [if_pos hopen, State.rwlWrite]
      exact if_neg (ne_true_of_eq_false hlock)
    cases hwas : s.rfb TM_THERM.AVS_CTRL.AVS_EN
    · obtain ⟨u, hu, hframe, hen, hperiod, hback, htarget, hmax⟩ := s.avsCtrl_off hwas
      refine ⟨u, hwrite.trans (congrArg _ hu), ?_, hen, hperiod, hback, fun h => absurd h (by decide), fun _ => ⟨?_, htarget, hmax⟩⟩
      · generalize u.regs = r at hframe
        subst hframe
        rfl
      · rw [hframe]
    · rw [hwrite, s.avsCtrl_on hwas]
      obtain ⟨-, hen, -⟩ := avsWord_parts s
      refine ⟨_, rfl, rfl, ?_, State.rf_wf_same _ _ _, ?_, fun _ => ⟨rfl, ?_⟩, fun h => absurd h (by decide)⟩
      · simp (disch := decide) only [State.rf_get, State.wf_regs, regGet_regPut_ne, regGet_regPut_same]
        exact hen
      · simp (disch := decide) only [State.rf_get, State.wf_regs, regGet_regPut_ne]
      · simp (disch := decide) only [State.rf_get, State.wf_regs, regGet_regPut_ne]
  · intro u
    have hrun : exec (.avsPeriod reports back) s = .next (s.avsPeriod reports back) :=
      congrArg Host.Outcome.next ((s.onTm_on _ htm).trans (if_pos hon))
    refine ⟨fun hoff => hrun.trans (congrArg _ (if_pos (by simp [u, hoff]))), fun hen hlen => hrun.trans (congrArg _ ?_),
      fun hen hlen k hk => hrun.trans (congrArg _ ?_)⟩
    · exact (if_neg (by simp [u, hen])).trans (if_pos hlen)
    · refine (if_neg (by simp [u, hen])).trans ((if_neg (by simp [u] at hlen ⊢; omega)).trans ?_)
      show (match u.lowest (u.canaries false ++ u.canaries true) with | some k => u.avsLoop (u.margin k) back | none => u) = _
      rw [hk]
  · exact congrArg Host.Outcome.next ((s.onTm_on _ htm).trans (if_neg (by simp [hoff])))
  · intro f d v
    refine ⟨?_, fun rest => ?_, fun hhot => ?_, fun hcool => ?_⟩
    · rw [exec_tempWarn hon, State.tempWarn]
      simp
    · intro held rearm a u
      have hrun : exec (.tempWarn tm ((k, x) :: rest)) s = .next (if toSigned 8 (s.rf f.warn) < toSigned 8 x && SMap.get 0 u.th.warned d = 0 then
          (u.setTh (fun x => { x with warned := SMap.put 0 x.warned d (k + 1) })).raise f.warnEvt 0 0 k (x % 256) else u) := exec_tempWarn hon _
      have hu : SMap.get 0 u.th.warned d = if rearm then 0 else held := by
        rw [State.tempNow_th]
        cases hr : rearm
        · simp only [a, hr]
          rfl
        · simp only [a, hr]
          exact SMap.get_put_same 0 s.th.warned d 0
      refine ⟨fun hhot hfree => hrun.trans (congrArg _ (if_pos ?_)), fun hquiet => hrun.trans (congrArg _ (if_neg ?_))⟩
      · rw [hu, Bool.and_eq_true, decide_eq_true_eq, decide_eq_true_eq]
        refine ⟨hhot, ?_⟩
        obtain h | h := hfree
        · rw [h, ite_self]
        · rw [h, if_pos rfl]
      · rw [hu, Bool.and_eq_true, decide_eq_true_eq, decide_eq_true_eq]
        rintro ⟨hhot, hzero⟩
        obtain h | ⟨hheld, hr⟩ := hquiet
        · omega
        · rw [hr] at hzero
          exact hheld hzero
    · rw [exec_thermTrip hon, State.thermTrip, if_neg (by omega)]
    · rw [exec_thermTrip hon, State.thermTrip, if_pos hcool]
  · intro volt
    have hrun : exec (.lifeRecordUpdate tj th) s = .next (s.lifeUpdate tj th) := congrArg Host.Outcome.next (s.onTm_on _ htm)
    refine ⟨fun h => hrun.trans (congrArg _ (if_pos (by simpa using h))), fun hreset hhalted =>
      ⟨_, hrun.trans (congrArg _ (if_neg (by simp [hreset, hhalted]))), ?_⟩⟩
    simp only [State.showLife]
    simp (disch := decide) only [State.rf_get, State.wf_regs, regGet_regPut_ne, regGet_regPut_same]
    exact ⟨rfl, rfl, trivial, trivial, trivial, rfl⟩

end Sys2Proof.Machine
end

section
/-! PROOF. Fabric link configuration, traces and timers (R253, R255, R256, R259, R263, R266). -/

namespace Sys2Proof.Machine

/-! ### What the evaluation of a link leaves -/

theorem flinkKeys_raiseFlds : (raiseFlds.all fun g => (List.range g.2).all fun p => (List.range g.1.cnt).all fun i =>
    let k := g.1.key p i
    decide (k / 32768 < 4136) || decide (4145 < k / 32768) || decide (k % 32 = 10) || decide (k % 32768 = 0x28c * 8)) = true := by
  decide +kernel

/-- Of a fabric link's page a raise can write the state of a link and the count of links up. -/
theorem raiseKey_flink {k : Nat} (hpage : 4136 ≤ k / 32768 ∧ k / 32768 ≤ 4145) (hstate : k % 32 ≠ 10) (hup : k % 32768 ≠ 0x28c * 8) :
    raiseKey k = false := by
  refine Bool.eq_false_iff.mpr fun hk => ?_
  simp only [raiseKey, List.any_eq_true, List.mem_range, decide_eq_true_eq] at hk
  obtain ⟨g, hg, p, hp, i, hi, rfl⟩ := hk
  have hall := flinkKeys_raiseFlds
  simp only [List.all_eq_true, List.mem_range, Bool.or_eq_true, decide_eq_true_eq] at hall
  have := hall g hg p hp i hi
  omega

/-- The fields of a link that its evaluation leaves (R259). -/
def linkKeptFlds : List Fld :=
  [TM_FLINK.LINK_CFG.ENABLE, TM_FLINK.LINK_CFG.LT_EN, TM_FLINK.LINK_CFG.TIM_EN, TM_FLINK.LINK_CFG.TIM_DEV, TM_FLINK.LINK_CFG.TIM_LINK,
   TM_FLINK.LINK_CFG.TIM_PLANE, TM_FLINK.LINK_CFG.TIM_OPER, TM_FLINK.LINK_CFG.FORCE_OUT, TM_FLINK.LINK_CFG.REACT,
   TM_FLINK.LINK_STATUS.ALIGN, TM_FLINK.LINK_STATUS.LOF, TM_FLINK.LINK_STATUS.LOM, TM_FLINK.LINK_STATUS.TIM, TM_FLINK.LINK_STATUS.DEG]

theorem linkKeptFlds_shape : ∀ f ∈ linkKeptFlds, f.page = 4136 ∧ f.off % 4 = 0 ∧ f.off < 0x200 ∧ f.stride = 4 ∧ f.per = 1 ∧ f.lo < 32 ∧ f.lo ≠ 10 := by
  decide +kernel

theorem linkKept_raiseKey {f : Fld} (hf : f ∈ linkKeptFlds) {n : Nat} (hn : n < 320) : raiseKey (f.key (n / 32) (n % 32)) = false := by
  obtain ⟨hpage, halign, hoff, hstride, hper, hlo, hstate⟩ := linkKeptFlds_shape f hf
  have hkey : f.key (n / 32) (n % 32) = ((4136 + n / 32) * 4096 + f.off + n % 32 * 4) * 8 + f.lo := by
    rw [Fld.key, hpage, hstride, hper, Nat.div_one, Nat.mod_one]
    omega
  rw [hkey]
  refine raiseKey_flink ?_ ?_ ?_
  all_goals omega

theorem linkKeptFlds_siblings : ∀ f ∈ linkKeptFlds, f.siblings TM_FLINK.LINK_STATUS.STATE = true := by decide +kernel

theorem State.link_updLink_same (s : State) (n : Nat) (f : FLink → FLink) : (s.updLink n f).link n = f (s.link n) :=
  SMap.get_put_same _ _ _ _

/-- `t` has of link `n` what its evaluation leaves of `s`. -/
structure State.LinkKept (n : Nat) (s t : State) : Prop where
  fl : ∀ f ∈ linkKeptFlds, t.fl f n = s.fl f n
  accepted : (t.link n).accepted = (s.link n).accepted
  train : t.timerAt .flinkTrain n = s.timerAt .flinkTrain n

namespace State.LinkKept
variable {n : Nat} {s t u : State}

theorem refl (s : State) : s.LinkKept n s := ⟨fun _ _ => rfl, rfl, rfl⟩

theorem trans (h : s.LinkKept n t) (h' : t.LinkKept n u) : s.LinkKept n u :=
  ⟨fun f hf => (h'.fl f hf).trans (h.fl f hf), h'.accepted.trans h.accepted, h'.train.trans h.train⟩

theorem of_raised (hn : n < 320) (h : s.Raised t) : s.LinkKept n t where
  fl f hf := h.rfp (linkKept_raiseKey hf hn)
  accepted := by
    rw [h.rest]
    rfl
  train := h.timers _ _ (by decide)

theorem setState (s : State) (v : Nat) : s.LinkKept n (s.setFl TM_FLINK.LINK_STATUS.STATE n v) where
  fl f hf := regGet_regPut_sibling _ _ _ _ (linkKeptFlds_siblings f hf)
  accepted := rfl
  train := rfl

theorem seen (s : State) : s.LinkKept n (s.updLink n (fun l => { l with seenUp := true })) where
  fl _ _ := rfl
  accepted := by rw [State.link_updLink_same]
  train := rfl

theorem arm_wtr (s : State) (c : Nat) : s.LinkKept n (s.arm .flinkWtr n c) where
  fl _ _ := rfl
  accepted := rfl
  train := State.timerAt_armAt_ne _ _ _ _ _ _ (by simp)

theorem disarm_wtr (s : State) : s.LinkKept n (s.disarm .flinkWtr n) where
  fl _ _ := rfl
  accepted := rfl
  train := State.timerAt_disarm_ne _ _ _ _ _ (by simp)

theorem withdraw (hn : n < 320) (s : State) (c : Option Nat) : s.LinkKept n (s.linkWithdraw n c) :=
  .of_raised hn ((State.Raised.linkOut s hn).trans ((State.Raised.raiseO _ _ _ _ _ _).trans (.capCheck _ _)))

theorem linkIn (hn : n < 320) (s : State) : s.LinkKept n (s.linkIn n) :=
  (setState s _).trans ((seen _).trans (of_raised hn (.inc _ _ (raiseKey_key (n := 10) (by decide) (by omega) (by decide)))))

theorem linkWait (s : State) : s.LinkKept n (s.linkWait n) := (setState s _).trans (arm_wtr _ _)

theorem linkEval (hn : n < 320) (s : State) : s.LinkKept n (s.linkEval n) := by
  rw [State.linkEval]
  split
  · exact refl s
  · split
    · refine trans (t := if s.fl TM_FLINK.LINK_STATUS.STATE n = lsInService then s.linkWithdraw n (some 7) else s) ?_
        ((setState _ _).trans (disarm_wtr _))
      split
      · exact withdraw hn s _
      · exact refl s
    · generalize s.fl TM_FLINK.LINK_STATUS.STATE n = st
      generalize s.reacting n = cause
      dsimp only
      split
      · exact withdraw hn s _
      · exact refl s
      · split
        · exact linkWait s
        · exact linkIn hn s
      · exact refl s
      · exact (setState s _).trans (disarm_wtr _)
      · exact refl s
      · exact linkWait s
      · exact setState s _

end State.LinkKept

/-! ### The fields of a link -/

theorem State.fl_setFl_same (s : State) (f : Fld) (n v : Nat) : (s.setFl f n v).fl f n = v % 2 ^ f.w := State.rfp_wfp_same _ _ _ _ _

theorem State.fl_setFl_ne (s : State) {f g : Fld} (n v : Nat) (h : g.siblings f = true) : (s.setFl f n v).fl g n = s.fl g n :=
  regGet_regPut_sibling _ _ _ _ h

theorem State.fl_updLink (s : State) (n : Nat) (g : FLink → FLink) (f : Fld) (k : Nat) : (s.updLink n g).fl f k = s.fl f k := rfl

theorem State.fl_arm (s : State) (k : TimerKind) (i c : Nat) (f : Fld) (n : Nat) : (s.arm k i c).fl f n = s.fl f n := rfl

theorem State.fl_disarm (s : State) (k : TimerKind) (i : Nat) (f : Fld) (n : Nat) : (s.disarm k i).fl f n = s.fl f n := rfl

theorem State.fl_trainArm (s : State) (n : Nat) (f : Fld) (k : Nat) : (s.trainArm n).fl f k = s.fl f k := by
  rw [State.trainArm]
  split
  · rfl
  · rfl

theorem State.fl_hunt_align (s : State) (n start : Nat) : (s.hunt n start).fl TM_FLINK.LINK_STATUS.ALIGN n = alHunt := by
  rw [State.hunt]
  split
  all_goals
    simp (disch := decide) only [State.fl_setFl_ne, State.fl_updLink, State.fl_setFl_same]
    rfl

theorem State.fl_hunt_lof (s : State) (n start : Nat) : (s.hunt n start).fl TM_FLINK.LINK_STATUS.LOF n = 1 := by
  rw [State.hunt]
  split
  all_goals
    simp (disch := decide) only [State.fl_setFl_ne, State.fl_updLink, State.fl_setFl_same]
    rfl

theorem State.fl_hunt_ne (s : State) (n start : Nat) {g : Fld} (halign : g.siblings TM_FLINK.LINK_STATUS.ALIGN = true)
    (hlof : g.siblings TM_FLINK.LINK_STATUS.LOF = true) (hlom : g.siblings TM_FLINK.LINK_STATUS.LOM = true) :
    (s.hunt n start).fl g n = s.fl g n := by
  rw [State.hunt]
  split
  · rw [State.fl_setFl_ne _ _ _ hlom, State.fl_updLink, State.fl_setFl_ne _ _ _ hlof, State.fl_setFl_ne _ _ _ halign]
  · rw [State.fl_updLink, State.fl_setFl_ne _ _ _ hlof, State.fl_setFl_ne _ _ _ halign]

theorem State.hunt_frame (s : State) (n start : Nat) : s.hunt n start = { s with regs := (s.hunt n start).regs, links := (s.hunt n start).links } := by
  rw [State.hunt]
  split
  · rfl
  · rfl

/-! ### A write of LINK_CFG in its parts -/

/-- The configuration fields but ENABLE take their bits of the word. -/
def State.linkWord (s : State) (n v : Nat) : State :=
  [(TM_FLINK.LINK_CFG.LT_EN, 1, 1), (TM_FLINK.LINK_CFG.TIM_EN, 2, 1), (TM_FLINK.LINK_CFG.TIM_DEV, 3, 1),
    (TM_FLINK.LINK_CFG.TIM_LINK, 4, 1), (TM_FLINK.LINK_CFG.TIM_PLANE, 5, 1), (TM_FLINK.LINK_CFG.TIM_OPER, 6, 1),
    (TM_FLINK.LINK_CFG.FORCE_OUT, 7, 1), (TM_FLINK.LINK_CFG.REACT, 8, 5)].foldl
  (fun (s : State) (f : Fld × Nat × Nat) => s.setFl f.1 n (bits v f.2.1 f.2.2)) s

/-- What a write makes of TIM (R256). -/
def State.linkTim (s : State) (n : Nat) (was : Bool) : State :=
  if !s.flb TM_FLINK.LINK_CFG.TIM_EN n then s.setFl TM_FLINK.LINK_STATUS.TIM n 0
  else if was && (s.link n).accepted.isNone then s.setFl TM_FLINK.LINK_STATUS.TIM n 1 else s

/-- A link among those out of service. -/
def State.putAway (s : State) (n : Nat) : State :=
  { s with fab := { s.fab with away := if s.fab.away.contains n then s.fab.away else s.fab.away ++ [n] } }

theorem State.fl_putAway (s : State) (n : Nat) (f : Fld) (k : Nat) : (s.putAway n).fl f k = s.fl f k := rfl

/-- A link started (R253, R259). -/
def State.linkStarted (s : State) (n v : Nat) : State :=
  let s := (s.setFl TM_FLINK.LINK_CFG.ENABLE n 1).hunt n 0
  let s := ((s.setFl TM_FLINK.LINK_STATUS.STATE n lsWithdrawn).setFl TM_FLINK.LINK_STATUS.LOM n 1).setFl
    TM_FLINK.LINK_STATUS.TIM n (bits v 2 1)
  let s := (s.setFl TM_FLINK.LINK_STATUS.DEG n 0).updLink n
    (fun l => { l with seenUp := false, accepted := none, bad := 0, good := 0 })
  (s.putAway n).trainArm n

/-- A link out of service stopped (R259). -/
def State.linkStopped (s : State) (n : Nat) : State :=
  let s := ((s.setFl TM_FLINK.LINK_CFG.ENABLE n 0).hunt n 0).setFl TM_FLINK.LINK_STATUS.STATE n lsWithdrawn
  let s := (s.setFl TM_FLINK.LINK_STATUS.CW_LOCK n 0).setFl TM_FLINK.LINK_STATUS.LOS n 1
  (s.disarm .flinkWtr n).disarm .flinkTrain n

/-- A running link whose training was switched while it had no lock (R253). -/
def State.linkRetrained (s : State) (n : Nat) (was hadLt : Bool) : State :=
  if was && hadLt != s.flb TM_FLINK.LINK_CFG.LT_EN n && !s.flb TM_FLINK.LINK_STATUS.CW_LOCK n then s.trainArm n else s

theorem State.linkCfgSet_eq (s : State) (n v : Nat) :
    let was := s.flb TM_FLINK.LINK_CFG.ENABLE n
    let u := (s.linkWord n v).linkTim n was
    s.linkCfgSet n v = if bit v 0 && !was then (u.linkStarted n v).linkEval n
      else if !bit v 0 && was then (if u.inService n then u.linkWithdraw n none else u).linkStopped n
      else (u.linkRetrained n was (s.flb TM_FLINK.LINK_CFG.LT_EN n)).linkEval n := rfl

theorem State.linkStopped_fl (s : State) (n : Nat) : let t := s.linkStopped n
    t.timerAt .flinkWtr n = none ∧ t.timerAt .flinkTrain n = none ∧
    t.fl TM_FLINK.LINK_CFG.ENABLE n = 0 ∧ t.fl TM_FLINK.LINK_STATUS.STATE n = lsWithdrawn ∧ t.fl TM_FLINK.LINK_STATUS.ALIGN n = alHunt ∧
    t.fl TM_FLINK.LINK_STATUS.LOF n = 1 ∧ t.fl TM_FLINK.LINK_STATUS.CW_LOCK n = 0 ∧ t.fl TM_FLINK.LINK_STATUS.LOS n = 1 := by
  rw [State.linkStopped]
  dsimp only
  refine ⟨(State.timerAt_disarm_ne _ _ _ _ _ (by simp)).trans (State.timerAt_disarm_same _ _ _), State.timerAt_disarm_same _ _ _, ?_⟩
  simp (disch := decide) only [State.fl_setFl_ne, State.fl_setFl_same, State.fl_disarm, State.fl_hunt_ne, State.fl_hunt_align, State.fl_hunt_lof]
  exact ⟨rfl, rfl, trivial, trivial, rfl, rfl⟩

/-! ### What the parts of a write leave -/

theorem State.setFls_frame {α : Type} (l : List α) (f : α → Fld) (n : Nat) (v : α → Nat) (s : State) :
    let t := l.foldl (fun (s : State) a => s.setFl (f a) n (v a)) s
    t = { s with regs := t.regs } := by
  induction l generalizing s with
  | nil => rfl
  | cons a l ih => exact ih (s.setFl (f a) n (v a))

theorem State.linkWord_frame (s : State) (n v : Nat) : s.linkWord n v = { s with regs := (s.linkWord n v).regs } :=
  State.setFls_frame _ _ _ _ s

theorem State.linkWord_fl (s : State) (n v : Nat) : let t := s.linkWord n v
    t.fl TM_FLINK.LINK_CFG.ENABLE n = s.fl TM_FLINK.LINK_CFG.ENABLE n ∧ t.fl TM_FLINK.LINK_STATUS.STATE n = s.fl TM_FLINK.LINK_STATUS.STATE n ∧
    t.fl TM_FLINK.LINK_CFG.LT_EN n = bits v 1 1 ∧ t.fl TM_FLINK.LINK_CFG.TIM_EN n = bits v 2 1 ∧
    t.fl TM_FLINK.LINK_CFG.TIM_DEV n = bits v 3 1 ∧ t.fl TM_FLINK.LINK_CFG.TIM_LINK n = bits v 4 1 ∧
    t.fl TM_FLINK.LINK_CFG.TIM_PLANE n = bits v 5 1 ∧ t.fl TM_FLINK.LINK_CFG.TIM_OPER n = bits v 6 1 ∧
    t.fl TM_FLINK.LINK_CFG.FORCE_OUT n = bits v 7 1 ∧ t.fl TM_FLINK.LINK_CFG.REACT n = bits v 8 5 := by
  rw [State.linkWord]
  simp only [List.foldl]
  simp (disch := decide) only [State.fl_setFl_ne, State.fl_setFl_same]
  exact ⟨trivial, trivial, bits_mod _ _ _, bits_mod _ _ _, bits_mod _ _ _, bits_mod _ _ _, bits_mod _ _ _, bits_mod _ _ _, bits_mod _ _ _,
    bits_mod _ _ _⟩

theorem State.linkTim_frame (s : State) (n : Nat) (was : Bool) : s.linkTim n was = { s with regs := (s.linkTim n was).regs } := by
  rw [State.linkTim]
  split
  · rfl
  · split
    · rfl
    · rfl

theorem State.linkTim_fl (s : State) (n : Nat) (was : Bool) {g : Fld} (h : g.siblings TM_FLINK.LINK_STATUS.TIM = true) :
    (s.linkTim n was).fl g n = s.fl g n := by
  rw [State.linkTim]
  split
  · exact s.fl_setFl_ne n _ h
  · split
    · exact s.fl_setFl_ne n _ h
    · rfl

theorem State.linkRetrained_fl (s : State) (n : Nat) (was hadLt : Bool) (g : Fld) : (s.linkRetrained n was hadLt).fl g n = s.fl g n := by
  rw [State.linkRetrained]
  split
  · exact s.fl_trainArm n g n
  · rfl

/-- The fields that a start of a link writes. -/
def linkStartFlds : List Fld :=
  [TM_FLINK.LINK_CFG.ENABLE, TM_FLINK.LINK_STATUS.ALIGN, TM_FLINK.LINK_STATUS.LOF, TM_FLINK.LINK_STATUS.LOM, TM_FLINK.LINK_STATUS.STATE,
   TM_FLINK.LINK_STATUS.TIM, TM_FLINK.LINK_STATUS.DEG]

theorem State.linkStarted_fl_ne (s : State) (n v : Nat) {g : Fld} (h : ∀ f ∈ linkStartFlds, g.siblings f = true) :
    (s.linkStarted n v).fl g n = s.fl g n := by
  simp only [linkStartFlds, List.forall_mem_cons] at h
  obtain ⟨hen, halign, hlof, hlom, hstate, htim, hdeg, -⟩ := h
  rw [State.linkStarted]
  rw [State.fl_trainArm, State.fl_putAway, State.fl_updLink, State.fl_setFl_ne _ _ _ hdeg, State.fl_setFl_ne _ _ _ htim,
    State.fl_setFl_ne _ _ _ hlom, State.fl_setFl_ne _ _ _ hstate, State.fl_hunt_ne _ _ _ halign hlof hlom, State.fl_setFl_ne _ _ _ hen]

theorem State.trainArm_timer (s : State) (n : Nat) : (s.trainArm n).timerAt .flinkTrain n =
    if s.fl TM_FLINK.LINK_CFG.LT_EN n = 1 then some (s.cycle + 500 * cyMs) else none := by
  rw [State.trainArm, State.flb]
  by_cases h : s.fl TM_FLINK.LINK_CFG.LT_EN n = 1
  · rw [decide_eq_true h, if_pos rfl, if_pos h]
    exact State.timerAt_arm_same _ _ _ _
  · rw [decide_eq_false h, if_neg (by decide), if_neg h]
    exact State.timerAt_disarm_same _ _ _

theorem State.trainArm_links (s : State) (n : Nat) : (s.trainArm n).links = s.links := by
  rw [State.trainArm]
  split
  · rfl
  · rfl

theorem State.linkStarted_fl (s : State) (n v : Nat) : let t := s.linkStarted n v
    t.fl TM_FLINK.LINK_CFG.ENABLE n = 1 ∧ t.fl TM_FLINK.LINK_STATUS.ALIGN n = alHunt ∧ t.fl TM_FLINK.LINK_STATUS.LOF n = 1 ∧
    t.fl TM_FLINK.LINK_STATUS.LOM n = 1 ∧ t.fl TM_FLINK.LINK_STATUS.TIM n = bits v 2 1 ∧ t.fl TM_FLINK.LINK_STATUS.DEG n = 0 := by
  rw [State.linkStarted]
  dsimp only
  simp (disch := decide) only [State.fl_trainArm, State.fl_putAway, State.fl_updLink, State.fl_setFl_ne, State.fl_setFl_same,
    State.fl_hunt_ne, State.fl_hunt_align, State.fl_hunt_lof]
  exact ⟨rfl, trivial, trivial, rfl, bits_mod _ _ _, rfl⟩

theorem State.link_updLink_putAway (s : State) (n : Nat) (f : FLink → FLink) : ((s.updLink n f).putAway n).link n = f (s.link n) :=
  SMap.get_put_same _ _ _ _

theorem State.linkStarted_rest (s : State) (n v : Nat) : let t := s.linkStarted n v
    (t.link n).accepted = none ∧
    t.timerAt .flinkTrain n = if s.fl TM_FLINK.LINK_CFG.LT_EN n = 1 then some (s.cycle + 500 * cyMs) else none := by
  rw [State.linkStarted]
  dsimp only
  generalize hw : ((((s.setFl TM_FLINK.LINK_CFG.ENABLE n 1).hunt n 0).setFl TM_FLINK.LINK_STATUS.STATE n lsWithdrawn).setFl
    TM_FLINK.LINK_STATUS.LOM n 1).setFl TM_FLINK.LINK_STATUS.TIM n (bits v 2 1) = w
  have hlt : w.fl TM_FLINK.LINK_CFG.LT_EN n = s.fl TM_FLINK.LINK_CFG.LT_EN n := by
    rw [← hw]
    simp (disch := decide) only [State.fl_setFl_ne, State.fl_hunt_ne]
  have hcycle : w.cycle = s.cycle := by
    rw [← hw]
    show ((s.setFl TM_FLINK.LINK_CFG.ENABLE n 1).hunt n 0).cycle = _
    rw [State.hunt_frame]
    rfl
  refine ⟨?_, ?_⟩
  · rw [State.link, State.trainArm_links, ← State.link, State.link_updLink_putAway]
  · rw [State.trainArm_timer, State.fl_putAway, State.fl_updLink, State.fl_setFl_ne _ _ _ (by decide), hlt, ← hcycle]
    rfl

/-! ### The links' commands -/

theorem State.linkCfg_open {s : State} {n : Nat} (hn : n < 320) (hopen : s.blockOpen (flPage n) = true) (v : Nat) :
    s.linkCfg n v = s.linkCfgSet n v := if_neg (by simp [hopen]; omega)

theorem State.linkCfg_shut {s : State} {n : Nat} (h : 320 ≤ n ∨ s.blockOpen (flPage n) = false) (v : Nat) : s.linkCfg n v = s :=
  if_pos (by simpa using h)

/-- The fields that a write of LINK_CFG leaves as it finds them or takes from the word, with their values in the end (R253, R259). -/
theorem State.linkCfgSet_enabled {s : State} {n v : Nat} (hn : n < 320) (hv : bit v 0 = true) : let t := s.linkCfgSet n v
    t.fl TM_FLINK.LINK_CFG.ENABLE n = 1 ∧
    t.fl TM_FLINK.LINK_CFG.LT_EN n = bits v 1 1 ∧ t.fl TM_FLINK.LINK_CFG.TIM_EN n = bits v 2 1 ∧
    t.fl TM_FLINK.LINK_CFG.TIM_DEV n = bits v 3 1 ∧ t.fl TM_FLINK.LINK_CFG.TIM_LINK n = bits v 4 1 ∧
    t.fl TM_FLINK.LINK_CFG.TIM_PLANE n = bits v 5 1 ∧ t.fl TM_FLINK.LINK_CFG.TIM_OPER n = bits v 6 1 ∧
    t.fl TM_FLINK.LINK_CFG.FORCE_OUT n = bits v 7 1 ∧ t.fl TM_FLINK.LINK_CFG.REACT n = bits v 8 5 ∧
    (s.flb TM_FLINK.LINK_CFG.ENABLE n = false → t.fl TM_FLINK.LINK_STATUS.ALIGN n = alHunt ∧ t.fl TM_FLINK.LINK_STATUS.LOF n = 1 ∧
      t.fl TM_FLINK.LINK_STATUS.LOM n = 1 ∧ t.fl TM_FLINK.LINK_STATUS.TIM n = bits v 2 1 ∧ t.fl TM_FLINK.LINK_STATUS.DEG n = 0 ∧
      (t.link n).accepted = none ∧
      t.timerAt .flinkTrain n = if bits v 1 1 = 1 then some (s.cycle + 500 * cyMs) else none) := by
  have heq := s.linkCfgSet_eq n v
  have hword := s.linkWord_fl n v
  dsimp only at heq hword
  obtain ⟨hen, -, hlt, htim, hdev, hlink, hplane, hoper, hforce, hreact⟩ := hword
  rw [heq]
  cases hwas : s.flb TM_FLINK.LINK_CFG.ENABLE n
  · rw [if_pos (by simp [hv])]
    generalize hu : (s.linkWord n v).linkTim n false = u
    obtain ⟨sen, salign, slof, slom, stim, sdeg⟩ := u.linkStarted_fl n v
    obtain ⟨sacc, strain⟩ := u.linkStarted_rest n v
    have kept := State.LinkKept.linkEval hn (u.linkStarted n v)
    have hcfg {g : Fld} (hkept : g ∈ linkKeptFlds) (hstart : ∀ f ∈ linkStartFlds, g.siblings f = true)
        (htim : g.siblings TM_FLINK.LINK_STATUS.TIM = true) : ((u.linkStarted n v).linkEval n).fl g n = (s.linkWord n v).fl g n := by
      rw [kept.fl g hkept, u.linkStarted_fl_ne n v hstart, ← hu, State.linkTim_fl _ _ _ htim]
    have hcycle : u.cycle = s.cycle := by rw [← hu, State.linkTim_frame, State.linkWord_frame]
    have hult : u.fl TM_FLINK.LINK_CFG.LT_EN n = bits v 1 1 := by rw [← hu, State.linkTim_fl _ _ _ (by decide), hlt]
    refine ⟨(kept.fl _ (by decide)).trans sen, (hcfg (by decide) (by decide) (by decide)).trans hlt,
      (hcfg (by decide) (by decide) (by decide)).trans htim, (hcfg (by decide) (by decide) (by decide)).trans hdev,
      (hcfg (by decide) (by decide) (by decide)).trans hlink, (hcfg (by decide) (by decide) (by decide)).trans hplane,
      (hcfg (by decide) (by decide) (by decide)).trans hoper, (hcfg (by decide) (by decide) (by decide)).trans hforce,
      (hcfg (by decide) (by decide) (by decide)).trans hreact, fun _ => ?_⟩
    refine ⟨(kept.fl _ (by decide)).trans salign, (kept.fl _ (by decide)).trans slof, (kept.fl _ (by decide)).trans slom,
      (kept.fl _ (by decide)).trans stim, (kept.fl _ (by decide)).trans sdeg, kept.accepted.trans sacc, kept.train.trans ?_⟩
    rw [strain, hult, hcycle]
  · rw [if_neg (by simp), if_neg (by simp [hv])]
    generalize hu : (s.linkWord n v).linkTim n true = u
    have hcfg {g : Fld} (hkept : g ∈ linkKeptFlds) (htim : g.siblings TM_FLINK.LINK_STATUS.TIM = true) :
        ((u.linkRetrained n true (s.flb TM_FLINK.LINK_CFG.LT_EN n)).linkEval n).fl g n = (s.linkWord n v).fl g n := by
      rw [(State.LinkKept.linkEval hn _).fl g hkept, State.linkRetrained_fl, ← hu, State.linkTim_fl _ _ _ htim]
    exact ⟨((hcfg (by decide) (by decide)).trans hen).trans (of_decide_eq_true hwas), (hcfg (by decide) (by decide)).trans hlt,
      (hcfg (by decide) (by decide)).trans htim, (hcfg (by decide) (by decide)).trans hdev, (hcfg (by decide) (by decide)).trans hlink,
      (hcfg (by decide) (by decide)).trans hplane, (hcfg (by decide) (by decide)).trans hoper, (hcfg (by decide) (by decide)).trans hforce,
      (hcfg (by decide) (by decide)).trans hreact, fun h => absurd h (by decide)⟩

theorem State.linkCfgSet_disabled {s : State} {n v : Nat} (hwas : s.flb TM_FLINK.LINK_CFG.ENABLE n = true) (hv : bit v 0 = false) :
    ∃ u : State, s.linkCfgSet n v = u.linkStopped n := by
  have heq := s.linkCfgSet_eq n v
  dsimp only at heq
  rw [heq, hwas, hv]
  exact ⟨_, rfl⟩

theorem State.linkEval_forced {s : State} {n : Nat} (hen : s.flEnabled n = true) (hforce : s.flb TM_FLINK.LINK_CFG.FORCE_OUT n = true) :
    (s.linkEval n).fl TM_FLINK.LINK_STATUS.STATE n = lsForcedOut ∧ (s.linkEval n).timerAt .flinkWtr n = none := by
  rw [State.linkEval, if_neg (by simp [hen])]
  dsimp only
  rw [if_pos (by simp [hforce])]
  exact ⟨(State.fl_disarm _ _ _ _ _).trans (State.fl_setFl_same _ _ _ _), State.timerAt_disarm_same _ _ _⟩

theorem State.flEnabled_congr {s t : State} {n : Nat} (hhdrs : t.hdrs = s.hdrs)
    (hen : t.fl TM_FLINK.LINK_CFG.ENABLE n = s.fl TM_FLINK.LINK_CFG.ENABLE n) : t.flEnabled n = s.flEnabled n := by
  simp only [State.flEnabled, State.flb, State.operating, State.fenced, State.hdr, hhdrs, hen]

theorem State.linkRetrained_hdrs (s : State) (n : Nat) (was hadLt : Bool) : (s.linkRetrained n was hadLt).hdrs = s.hdrs := by
  rw [State.linkRetrained, State.trainArm]
  split
  · split
    · rfl
    · rfl
  · rfl

/-- A write of FORCE_OUT to a link (R259). -/
theorem State.linkCfgSet_forceOut {s : State} {n v : Nat} (hn : n < 320) (hv : s.flb TM_FLINK.LINK_CFG.ENABLE n = true → bit v 0 = true) :
    let t := s.linkCfgSet n v
    t.fl TM_FLINK.LINK_CFG.FORCE_OUT n = bits v 7 1 ∧ (s.flEnabled n = true → bits v 7 1 = 1 →
      t.fl TM_FLINK.LINK_STATUS.STATE n = lsForcedOut ∧ t.timerAt .flinkWtr n = none) := by
  have heq := s.linkCfgSet_eq n v
  have hword := s.linkWord_fl n v
  dsimp only at heq hword
  obtain ⟨hen, -, -, -, -, -, -, -, hforce, -⟩ := hword
  generalize hu : ((s.linkWord n v).linkTim n (s.flb TM_FLINK.LINK_CFG.ENABLE n)).linkRetrained n (s.flb TM_FLINK.LINK_CFG.ENABLE n)
    (s.flb TM_FLINK.LINK_CFG.LT_EN n) = u at heq
  have hufl {g : Fld} (htim : g.siblings TM_FLINK.LINK_STATUS.TIM = true) : u.fl g n = (s.linkWord n v).fl g n := by
    rw [← hu, State.linkRetrained_fl, State.linkTim_fl _ _ _ htim]
  have huhdrs : u.hdrs = s.hdrs := by
    rw [← hu, State.linkRetrained_hdrs, State.linkTim_frame, State.linkWord_frame]
  cases hwas : s.flb TM_FLINK.LINK_CFG.ENABLE n
  · have hoff : s.flEnabled n = false := by simp [State.flEnabled, hwas]
    refine ⟨?_, fun h => absurd (hoff.symm.trans h) (by decide)⟩
    cases hb : bit v 0
    · rw [heq, hwas, if_neg (by simp [hb]), if_neg (by simp), (State.LinkKept.linkEval hn u).fl _ (by decide), hufl (by decide)]
      exact hforce
    · obtain ⟨-, -, -, -, -, -, -, hf, -⟩ := State.linkCfgSet_enabled (s := s) hn hb
      exact hf
  · have hb := hv hwas
    rw [heq, hwas, if_neg (by simp), if_neg (by simp [hb])]
    refine ⟨((State.LinkKept.linkEval hn u).fl _ (by decide)).trans ((hufl (by decide)).trans hforce), fun hon hf => State.linkEval_forced ?_ ?_⟩
    · rw [State.flEnabled_congr huhdrs ((hufl (by decide)).trans hen), hon]
    · rw [State.flb, hufl (by decide), hforce, hf]
      rfl

/-! ### Trace bytes -/

theorem SMap.get_foldl_put (g : Nat → Nat) (b n : Nat) (m : SMap Nat) (i : Nat) :
    SMap.get 0 ((List.range n).foldl (fun m j => SMap.put 0 m (b + j) (g (b + j))) m) i =
      if b ≤ i ∧ i < b + n then g i else SMap.get 0 m i := by
  induction n with
  | zero => exact (if_neg (by omega)).symm
  | succ n ih =>
    rw [List.range_succ, List.foldl_append, List.foldl_cons, List.foldl_nil]
    by_cases h : i = b + n
    · rw [h, SMap.get_put_same, if_pos (by omega)]
    · rw [SMap.get_put_ne _ _ _ _ _ _ h, ih]
      exact if_congr (by omega) rfl rfl

/-- Settles O23. -/
theorem linkControl : Obligations.LinkControl := by
  intro s htm
  have hrun {i : Instr} {f : State → State} (h : exec i s = .next (s.onTm f)) : exec i s = .next (f s) := h.trans (congrArg _ (s.onTm_on f htm))
  refine ⟨fun n cfg hn hopen hwas => ?_, fun n cfg hn hopen => ?_, fun n cfg on hshut => ⟨?_, ?_, ?_⟩, fun n d htimer => ?_, fun n d htimer => ?_,
    fun dev pg d hpg htimer => ?_, fun k sel hk hopen => ?_⟩
  · intro t
    obtain ⟨u, hu⟩ := State.linkCfgSet_disabled (v := setBit (cfg % 2 ^ 32) 0 false) hwas (bit_setBit_same _ _ _)
    refine ⟨(hrun rfl).trans (congrArg _ (State.linkCfg_open hn hopen _)), ?_⟩
    rw [show t = u.linkStopped n from hu]
    exact u.linkStopped_fl n
  · intro t
    have hpart {lo w : Nat} (hlo : 1 ≤ lo) (hw : lo + w ≤ 32) : bits (setBit (cfg % 2 ^ 32) 0 true) lo w = bits cfg lo w := by
      rw [bits_setBit_apart _ _ (.inr hlo), bits_mod_two_pow _ hw]
    have hset := s.linkCfgSet_enabled (v := setBit (cfg % 2 ^ 32) 0 true) hn (bit_setBit_same _ _ _)
    simp (disch := decide) only [hpart] at hset
    obtain ⟨hen, hlt, htim, hdev, hlink, hplane, hoper, hforce, hreact, hfresh⟩ := hset
    refine ⟨(hrun rfl).trans (congrArg _ (State.linkCfg_open hn hopen _)), hen, hlt, htim, hdev, hlink, hplane, hoper, hforce, hreact, hfresh,
      fun on => ?_⟩
    have hword : s.flb TM_FLINK.LINK_CFG.ENABLE n = true → bit (setBit (s.linkCfgWord n) 7 on) 0 = true := by
      intro h
      rw [bit_setBit_apart _ _ (by decide), bit, Nat.testBit_zero, State.linkCfgWord, show s.fl TM_FLINK.LINK_CFG.ENABLE n = 1 from of_decide_eq_true h]
      exact decide_eq_true (by omega)
    have hbit : bits (setBit (s.linkCfgWord n) 7 on) 7 1 = if on then 1 else 0 := by
      rw [setBit, bits_setBits_same]
      cases on
      · rfl
      · rfl
    obtain ⟨hval, hout⟩ := State.linkCfgSet_forceOut hn hword
    rw [hbit] at hval hout
    exact ⟨(hrun rfl).trans (congrArg _ (State.linkCfg_open hn hopen _)), hval, fun h hon => hout h (by rw [hon]; rfl)⟩
  · exact (hrun rfl).trans (congrArg _ (State.linkCfg_shut hshut _))
  · exact (hrun rfl).trans (congrArg _ (State.linkCfg_shut hshut _))
  · exact (hrun rfl).trans (congrArg _ (State.linkCfg_shut hshut _))
  · refine (hrun rfl).trans (congrArg _ ?_)
    rw [State.flinkWtr, State.expire_expired htimer]
    rfl
  · refine (hrun rfl).trans (congrArg _ ?_)
    rw [State.trainFail, State.expire_expired htimer]
  · refine (hrun rfl).trans (congrArg _ ((if_pos hpg).trans ?_))
    rw [State.fcExpire, State.expire_expired htimer]
  · intro n byte r w
    have hpart (b : Bool) {lo w : Nat} (hlo : lo + w ≤ 8) : bits (setBit (sel % 2 ^ 32) 8 b) lo w = bits sel lo w := by
      rw [bits_setBit_apart _ _ (.inl hlo), bits_mod_two_pow _ (by omega)]
    have hread : exec (.traceSelRead k sel) s = .next (s.traceRead k r) := hrun (f := fun s => s.traceRead k r) rfl
    have hwrite : exec (.traceSelWrite k sel) s = .next (s.traceWrite k w) := hrun (f := fun s => s.traceWrite k w) rfl
    have hr5 : bits r 0 5 = bits sel 0 5 := hpart false (by decide)
    have hr3 : bits r 5 3 = bits sel 5 3 := hpart false (by decide)
    have hw5 : bits w 0 5 = bits sel 0 5 := hpart true (by decide)
    have hw3 : bits w 5 3 = bits sel 5 3 := hpart true (by decide)
    rw [State.traceRead, if_neg (by simp [hopen]; omega), hr5, hr3] at hread
    rw [State.traceWrite, if_neg (by simp [hopen]; omega), hw5, hw3] at hwrite
    dsimp only at hread hwrite
    clear_value r w
    have hlow (h : bits sel 5 3 < 5) := hread.trans (congrArg Host.Outcome.next (if_neg (by omega)))
    refine ⟨fun hside => ⟨?_, ?_⟩, fun hside => ⟨?_, ?_⟩, fun b hside hacc => ?_, fun hside hacc => ?_, fun hside => ?_,
      fun hside => hread.trans (congrArg _ (if_pos hside)), fun hside => hwrite.trans (congrArg _ (if_pos hside))⟩
    · rw [hlow (by omega), hside]
      rfl
    · rw [if_neg (by omega), if_pos hside] at hwrite
      refine ⟨_, hwrite, ?_, fun i => ?_⟩
      · rw [State.link_updLink_same]
        rfl
      · rw [State.link_updLink_same]
        exact SMap.get_foldl_put (fun i => if i = 28 then byte i % 4 else byte i) 11 19 _ i
    · rw [hlow (by omega), hside]
      rfl
    · rw [if_neg (by omega), if_neg (by omega)] at hwrite
      refine ⟨_, hwrite, ?_, fun i => ?_⟩
      · rw [State.link_updLink_same]
        rfl
      · rw [State.link_updLink_same]
        have hget := SMap.get_foldl_put byte 0 64 (s.link n).expTrace i
        simp only [Nat.zero_add, Nat.zero_le, true_and] at hget
        exact hget
    · rw [hlow (by omega), hside]
      rw [hacc]
      rfl
    · rw [hlow (by omega), hside]
      rw [hacc]
      rfl
    · rw [hlow (by omega)]
      obtain h | h := hside
      · rw [h]
        rfl
      · rw [h]
        rfl

end Sys2Proof.Machine
end

section
/-! PROOF. GDDR7 service, frequency change, window and exported records (R36, R357 to R359, R363, R366, R367, R371, R373, R374). -/

namespace Sys2Proof.Machine

/-! ### Service -/

theorem State.ddrEnable_run {s : State} (hopen : s.blockOpen 4160 = true) (hoff : s.rfb TM_DMC.DDR_CTRL.ENABLE = false) :
    s.ddrEnable = match s.ddrObstacle with
      | some c => s.raise Ev.TM_DMC.DDR_REFUSED 0 0 c 0
      | none => ((s.wf TM_DMC.DDR_CTRL.ENABLE 1).wf TM_BUF.DDR_TOTAL.UNITS (fittedUnits (s.density 0) - s.ctrUnits)).showDdr := by
  have hdensity : (s.wf TM_DMC.DDR_CTRL.ENABLE 1).density 0 = s.density 0 := State.rfp_wfp_ne _ _ _ _ _ _ _ _ (by decide)
  have hunits : (s.wf TM_DMC.DDR_CTRL.ENABLE 1).ctrUnits = s.ctrUnits := by
    rw [State.ctrUnits, State.rf_wf_ne _ _ _ _ (by decide)]
    rfl
  rw [State.ddrEnable, if_neg (by simp [hopen, hoff])]
  dsimp only
  rw [hdensity, hunits] <;> rfl

theorem exec_ddr {s : State} {i : Instr} {v : Nat} {op : State → State} (htm : s.tmOn = true) (hopen : s.blockOpen 4160 = true)
    (h : exec i s = .next (s.onTm fun s => if s.blockOpen 4160 then s.rwlWrite TM_DMC.DDR_CTRL.ENABLE v v op else s)) :
    ((s.hdr 4160).lock = true → exec i s = .next (if s.rf TM_DMC.DDR_CTRL.ENABLE = v % 2 then s
      else s.accessErr 4160 4 (4160 * 4096 + TM_DMC.DDR_CTRL.ENABLE.off) v)) ∧
    ((s.hdr 4160).lock = false → exec i s = .next (op s)) := by
  have hrun : exec i s = .next (s.rwlWrite TM_DMC.DDR_CTRL.ENABLE v v op) := by
    rw [h, s.onTm_on _ htm, if_pos hopen]
  refine ⟨fun hlock => hrun.trans (congrArg _ ((if_pos hlock).trans ?_)), fun hlock => hrun.trans (congrArg _ (if_neg (ne_true_of_eq_false hlock)))⟩
  rw [ite_not]
  exact if_congr eq_comm rfl rfl

theorem memoryService : Claims.MemoryService := by
  intro s c htm hc
  have hrun {i : Instr} {f : State → State} (h : exec i s = .next (s.onTm f)) : exec i s = .next (f s) := h.trans (congrArg _ (s.onTm_on f htm))
  have hdone (f : Option (Nat × Nat)) : exec (.dmcTrainingDone c f) s = .next (s.trainingDone c f) := hrun (f := fun s => s.trainingDone c f) rfl
  have henable (hopen : s.blockOpen 4160 = true) := exec_ddr (i := .ddrEnable) (v := 1) (op := fun s => s.ddrEnable) htm hopen rfl
  have hdisable (hopen : s.blockOpen 4160 = true) := exec_ddr (i := .ddrDisable) (v := 0) (op := fun s => s.ddrDisable) htm hopen rfl
  refine ⟨fun hstate => ⟨?_, fun ch sq => ?_⟩, fun hstate f => ?_, fun d htimer => ⟨fun hstate => ?_, fun hstate => ?_⟩,
    fun hopen hlock => ⟨?_, ?_⟩, fun hopen hlock hon => ?_, fun hopen hlock hoff => ⟨fun hfree => ?_, fun k hk => ?_⟩, fun hopen hlock => ?_,
    fun ch hch hready => ?_, fun t hready => ?_⟩
  · exact (hdone _).trans (congrArg _ (if_neg (by simp [hstate]; omega)))
  · exact (hdone _).trans (congrArg _ ((if_neg (by simp [hstate]; omega)).trans rfl))
  · exact (hdone _).trans (congrArg _ (if_pos (by simp [hstate])))
  · refine (hrun rfl).trans (congrArg _ ?_)
    rw [State.trainTimeout, State.expire_expired htimer]
    exact if_pos hstate
  · refine (hrun rfl).trans (congrArg _ ?_)
    rw [State.trainTimeout, State.expire_expired htimer]
    exact if_neg hstate
  · exact (henable hopen).1 hlock
  · exact (hdisable hopen).1 hlock
  · exact ((henable hopen).2 hlock).trans (congrArg _ (if_pos (by simp [hon])))
  · refine ((henable hopen).2 hlock).trans (congrArg _ ?_)
    rw [State.ddrEnable_run hopen hoff, hfree]
  · refine ((henable hopen).2 hlock).trans (congrArg _ ?_)
    rw [State.ddrEnable_run hopen hoff, hk]
  · exact ((hdisable hopen).2 hlock).trans (congrArg _ (if_pos hopen))
  · exact (hrun rfl).trans (congrArg _ (if_pos (by simp [hready, hc, hch])))
  · intro u l
    have hread (hot : Bool) : exec (.dmcTempRead c t hot) s = .next (
        let w : State := { u with dm := { s.dm with hot := if hot then (if l.contains c then l else l ++ [c]) else l.filter (fun x => decide (x ≠ c)) } }
        if hot && !l.contains c then w.raise Ev.TM_DMC.TEMP_HIGH c 0 c (t % 256) else w) :=
      (hrun rfl).trans (congrArg _ (if_neg (by simp [hready]; omega)))
    refine ⟨hread false, fun hmem => ?_, fun hmem => ?_⟩
    · rw [hread true, if_neg (by simp [hmem]), if_pos rfl, if_pos (by simp [hmem])]
      rfl
    · rw [hread true, if_pos (by simp [hmem]), if_pos rfl, if_neg (by simp [hmem])]

/-! ### Frequency change -/

theorem State.regsFrame_trans {s t u : State} (h : t = { s with regs := t.regs }) (h' : u = { t with regs := u.regs }) :
    u = { s with regs := u.regs } := by
  generalize t.regs = r at h
  subst h
  exact h'

/-- The places of the controllers' states, each on its own page and apart from the totals that are shown with them. -/
theorem dmcState_places (c : Nat) (hc : c < 16) : TM_DMC.STATUS.STATE.key c 0 ≠ TM_BUF.DDR_TOTAL.UNITS.key 0 0 ∧
    TM_DMC.STATUS.STATE.key c 0 ≠ TM_BUF.DDR_FREE.UNITS.key 0 0 ∧ TM_DMC.STATUS.STATE.key c 0 ≠ TM_DMC.FREQ.BUSY.key 0 0 ∧
    ∀ d, d < 16 → d ≠ c → TM_DMC.STATUS.STATE.key d 0 ≠ TM_DMC.STATUS.STATE.key c 0 := by
  revert c
  decide

theorem State.setDmcState_same (s : State) {c : Nat} (hc : c < 16) (v : Nat) :
    (s.setDmcState c v).rfp TM_DMC.STATUS.STATE c 0 = v % 2 ^ TM_DMC.STATUS.STATE.w := by
  obtain ⟨htotal, hfree, -, -⟩ := dmcState_places c hc
  rw [State.setDmcState, State.rfp_showDdr _ htotal hfree, State.rfp_wfp_same]

theorem State.setDmcState_ne (s : State) {c d : Nat} (hc : c < 16) (hd : d < 16) (hne : d ≠ c) (v : Nat) :
    (s.setDmcState c v).rfp TM_DMC.STATUS.STATE d 0 = s.rfp TM_DMC.STATUS.STATE d 0 := by
  obtain ⟨htotal, hfree, -, -⟩ := dmcState_places d hd
  obtain ⟨-, -, -, hplace⟩ := dmcState_places c hc
  rw [State.setDmcState, State.rfp_showDdr _ htotal hfree, State.rfp_wfp_ne _ _ _ _ _ _ _ _ (hplace d hd hne)]

theorem State.setDmcState_frame (s : State) (c v : Nat) : s.setDmcState c v = { s with regs := (s.setDmcState c v).regs } := by
  conv_lhs => rw [State.setDmcState, State.showDdr_frame]
  rfl

/-- Controllers taken into a state one after the other. -/
def State.setDmcStates (s : State) (cs : List Nat) (v : Nat) : State := cs.foldl (fun s c => s.setDmcState c v) s

theorem State.setDmcStates_frame (s : State) (cs : List Nat) (v : Nat) : s.setDmcStates cs v = { s with regs := (s.setDmcStates cs v).regs } := by
  induction cs generalizing s with
  | nil => rfl
  | cons c cs ih =>
    have hstep : s.setDmcStates (c :: cs) v = (s.setDmcState c v).setDmcStates cs v := rfl
    rw [hstep]
    exact State.regsFrame_trans (s.setDmcState_frame c v) (ih _)

theorem State.setDmcStates_state (s : State) {cs : List Nat} (hcs : ∀ c ∈ cs, c < 16) (v d : Nat) (hd : d < 16) :
    (s.setDmcStates cs v).rfp TM_DMC.STATUS.STATE d 0 = if d ∈ cs then v % 2 ^ TM_DMC.STATUS.STATE.w else s.rfp TM_DMC.STATUS.STATE d 0 := by
  induction cs generalizing s with
  | nil => rfl
  | cons c cs ih =>
    have hstep : s.setDmcStates (c :: cs) v = (s.setDmcState c v).setDmcStates cs v := rfl
    rw [hstep, ih _ fun c hc => hcs c (List.mem_cons_of_mem _ hc)]
    have hc := hcs c List.mem_cons_self
    by_cases hmem : d ∈ cs
    · rw [if_pos hmem, if_pos (List.mem_cons_of_mem _ hmem)]
    · by_cases hdc : d = c
      · rw [if_neg hmem, if_pos (by simp [hdc]), hdc, s.setDmcState_same hc]
      · rw [if_neg hmem, if_neg (by simp [hdc, hmem]), s.setDmcState_ne hc hd hdc]

theorem frequencyChange : Claims.FrequencyChange := by
  intro s htm
  have hrun {i : Instr} {f : State → State} (h : exec i s = .next (s.onTm f)) : exec i s = .next (f s) := h.trans (congrArg _ (s.onTm_on f htm))
  refine ⟨fun hopen => ?_, fun c f hf => ?_⟩
  · intro cs
    have hgo : exec .freqGo s = .next (if s.rfb TM_DMC.FREQ.BUSY then s.raiseO Ev.TM_DMC.FREQ_FAIL 0 (some 3) none none else
        match cs.find? (fun c => decide (s.otherRate c < 16) || decide (40 < s.otherRate c)) with
        | some c => s.raiseO Ev.TM_DMC.FREQ_FAIL 0 (some 4) (some c) none
        | none =>
          if cs.isEmpty then s
          else
            let s : State := cs.foldl (fun s c => s.setDmcState c dmcFreq) s
            (s.wf TM_DMC.FREQ.BUSY 1).setDmc (fun d => { d with
              freq := cs.map (fun c => (⟨c, false, 0⟩ : Freq)), freqAt := s.cycle, freqBad := false })) :=
      (hrun (f := State.freqGo) rfl).trans (congrArg _ (if_neg (by simp [hopen])))
    refine ⟨fun hbusy => hgo.trans (congrArg _ (if_pos hbusy)), fun hbusy c hc => hgo.trans (congrArg _ ?_), fun hbusy hrates hne => ?_⟩
    · rw [if_neg (by simp [hbusy]), hc]
    · have hnone : cs.find? (fun c => decide (s.otherRate c < 16) || decide (40 < s.otherRate c)) = none := by
        rw [List.find?_eq_none]
        intro c hc
        have := hrates c hc
        simp
        omega
      have hall (c : Nat) (hc : c ∈ cs) : c < 16 ∧ s.dmcState c = dmcReady := by
        simpa [cs] using hc
      have hframe := s.setDmcStates_frame cs dmcFreq
      have hstates := s.setDmcStates_state (fun c hc => (hall c hc).1) dmcFreq
      rw [hnone, if_neg (by simp [hbusy])] at hgo
      have hempty : ¬(cs.isEmpty = true) := by simpa using hne
      dsimp only at hgo
      rw [if_neg hempty] at hgo
      change _ = Host.Outcome.next (((s.setDmcStates cs dmcFreq).wf TM_DMC.FREQ.BUSY 1).setDmc (fun d => { d with
        freq := cs.map (fun c => (⟨c, false, 0⟩ : Freq)), freqAt := (s.setDmcStates cs dmcFreq).cycle, freqBad := false })) at hgo
      generalize s.setDmcStates cs dmcFreq = w at hgo hframe hstates
      have hshown (c : Nat) (hc : c ∈ cs) : (w.wf TM_DMC.FREQ.BUSY 1).rfp TM_DMC.STATUS.STATE c 0 = dmcFreq := by
        obtain ⟨-, -, hbusy, -⟩ := dmcState_places c (hall c hc).1
        exact (State.rfp_wfp_ne _ _ _ _ _ _ _ _ hbusy).trans ((hstates c (hall c hc).1).trans (if_pos hc))
      refine ⟨_, hgo, State.rf_wf_same w TM_DMC.FREQ.BUSY 1, fun c hc => ?_, ?_, ?_⟩
      · have hfenced : s.fenced (4160 + c) = false := by
          have hready := (hall c hc).2
          rw [State.dmcState] at hready
          cases hf : s.fenced (4160 + c)
          · rfl
          · rw [if_pos hf] at hready
            exact absurd hready (by decide)
        have hopen : w.fenced (4160 + c) = false := by
          rw [hframe]
          exact hfenced
        exact (if_neg (ne_true_of_eq_false hopen)).trans (hshown c hc)
      · rw [hframe]
        rfl
      · generalize w.regs = r at hframe
        subst hframe
        rfl
  · intro again down busy late
    have hdone (ok : Bool) (step : Nat) : exec (.freqChangeDone c ok step) s = .next (
        if !ok then s.freqFail f step
        else if busy then s
        else
          let s := if f.again then s.raise Ev.TM_DMC.FREQ_FAIL 0 1 c f.step
            else s.wfp TM_DMC.STATUS.TSET c 0 (1 - s.rfp TM_DMC.STATUS.TSET c 0)
          ((s.setDmcState c dmcReady).freqResume c).freqLeave c) := by
      refine (hrun (f := fun s => s.freqDone c ok step) rfl).trans (congrArg _ ?_)
      rw [State.freqDone, hf]
    have hfail (step : Nat) : exec (.freqChangeDone c false step) s = .next (s.freqFail f step) := hdone false step
    have hagain (h : f.again = false) (u : State) (step : Nat) : u.freqFail f step = again u step := if_pos (by simp [h])
    have hdown (h : f.again = true) (u : State) (step : Nat) : u.freqFail f step = down u step := if_neg (by simp [h])
    have htime {step : Nat} (h1 : 1 ≤ step) (h7 : step ≤ 7) : exec (.freqStepTimeout c step) s = .next ((late step).freqFail f step) := by
      refine (hrun (f := fun s => s.freqTimeout c step) rfl).trans (congrArg _ ?_)
      rw [State.freqTimeout, hf]
      exact if_pos (by simp [h1, h7])
    refine ⟨fun hbusy step => ?_, fun hbusy h step => ?_, fun hbusy h step => ?_, fun h step => (hfail step).trans (congrArg _ (hagain h _ _)),
      fun h step => (hfail step).trans (congrArg _ (hdown h _ _)), fun h step h1 h7 => (htime h1 h7).trans (congrArg _ (hagain h _ _)),
      fun h step h1 h7 => (htime h1 h7).trans (congrArg _ (hdown h _ _))⟩
    · rw [hdone, if_neg (by decide), if_pos hbusy]
    · rw [hdone, if_neg (by decide), if_neg (by simp [hbusy]), h]
      rfl
    · rw [hdone, if_neg (by decide), if_neg (by simp [hbusy]), h]
      rfl

/-! ### The counter region, the window and the exported records -/

theorem State.ddrAsk_going (s : State) {r : DReq} (h : r.who ≠ 0 ∨ r.write = false) (hp : r.paused = false) :
    s.ddrAsk r = { s with dm := { s.dm with reqs := s.dm.reqs ++ [r] } } := by
  have hr : ({ r with paused := r.write && decide (r.who = 0) && decide (s.dmcState (unitCtl r.unit_) = dmcFreq) } : DReq) = r := by
    have hgoing : (r.write && decide (r.who = 0) && decide (s.dmcState (unitCtl r.unit_) = dmcFreq)) = false := by
      obtain h | h := h
      · simp [h]
      · simp [h]
    rw [hgoing, ← hp]
  rw [State.ddrAsk, hr]

/-- The value that the window's data registers make. -/
def State.memData (s : State) : Nat := sumN ((List.range 8).map (fun k => s.rfi TM_DMC.MEM_DATA.DATA k * 2 ^ (32 * k)))

/-- What exporting the record of one queue leaves (R374): the packets, the requests, and an error that stands. -/
structure State.Exported (s t : State) : Prop where
  pkts : t.pkts = s.pkts
  reqs : t.dm.reqs = s.dm.reqs
  err : s.rf TM_DMC.EXPORT.ERR = 1 → t.rf TM_DMC.EXPORT.ERR = 1

theorem State.Exported.refl (s : State) : s.Exported s := ⟨rfl, rfl, id⟩

theorem State.Exported.trans {s t u : State} (h : s.Exported t) (h' : t.Exported u) : s.Exported u :=
  ⟨h'.pkts.trans h.pkts, h'.reqs.trans h.reqs, h'.err ∘ h.err⟩

theorem State.Exported.foldl {α : Type} {g : State → α → State} (h : ∀ (s : State) a, s.Exported (g s a)) (l : List α) (s : State) :
    s.Exported (l.foldl g s) := by
  induction l generalizing s with
  | nil => exact .refl s
  | cons a l ih => exact (h s a).trans (ih _)

theorem State.Exported.foldl_snd {α β : Type} {g : β × State → α → β × State} (h : ∀ (a : β × State) x, a.2.Exported (g a x).2)
    (l : List α) (a : β × State) :
    a.2.Exported (l.foldl g a).2 := by
  induction l generalizing a with
  | nil => exact .refl _
  | cons x l ih => exact (h a x).trans (ih _)

/-- Eight free words drawn one after the other. -/
def freeWords (s : State) : Nat × State :=
  (List.range 8).foldl (fun (a : Nat × State) i => let (w, s) := a.2.freeVal; (a.1 + w * 2 ^ (32 * i), s)) (0, s)

theorem freeWords_exported (s : State) : s.Exported (freeWords s).2 :=
  State.Exported.foldl_snd (g := fun (a : Nat × State) i => let (w, s) := a.2.freeVal; (a.1 + w * 2 ^ (32 * i), s))
    (fun _ _ => ⟨rfl, rfl, id⟩) _ (0, s)

theorem State.memPart_exported (s : State) (k : Nat) : s.Exported (s.memPart k).2 := by
  have hfree := freeWords_exported s
  rw [freeWords] at hfree
  rw [State.memPart]
  generalize (List.range 8).foldl _ (0, s) = p at hfree ⊢
  obtain ⟨x, u⟩ := p
  dsimp only
  split
  · exact .refl s
  · exact hfree.trans ⟨rfl, rfl, id⟩

theorem State.post_exported (s : State) (bad : Bool) (addr : Nat) (b : Bytes) : s.Exported (s.post bad addr b).2 := by
  rw [State.post]
  split
  · exact ⟨rfl, rfl, id⟩
  · exact .refl s

/-- One queue's record exported (R374). -/
def State.exportOne (s : State) (bad : List Nat) (base q : Nat) : State :=
  let v := if bad.contains q then freeWords s else s.memPart (s.ctrPart q)
  let p := v.2.post false (base + 32 * q) (toLe 32 v.1)
  if p.1 && !bad.contains q then p.2 else p.2.wf TM_DMC.EXPORT.ERR 1

theorem State.exportOne_exported (s : State) (bad : List Nat) (base q : Nat) : s.Exported (s.exportOne bad base q) := by
  have hread : s.Exported (if bad.contains q then freeWords s else s.memPart (s.ctrPart q)).2 := by
    split
    · exact freeWords_exported s
    · exact s.memPart_exported _
  rw [State.exportOne]
  generalize (if bad.contains q then freeWords s else s.memPart (s.ctrPart q)) = v at hread ⊢
  have hpost := hread.trans (v.2.post_exported false (base + 32 * q) (toLe 32 v.1))
  split
  · exact hpost
  · exact hpost.trans ⟨rfl, rfl, fun _ => State.rf_wf_same _ _ _⟩

theorem State.exportOne_bad (s : State) {bad : List Nat} (base : Nat) {q : Nat} (h : q ∈ bad) : (s.exportOne bad base q).rf TM_DMC.EXPORT.ERR = 1 := by
  rw [State.exportOne, if_neg (by simp [h])]
  exact State.rf_wf_same _ _ _

/-- The records of the first `n` queues exported. -/
def State.exportAll (s : State) (bad : List Nat) (base n : Nat) : State := (List.range n).foldl (fun u q => u.exportOne bad base q) s

theorem State.exportAll_exported (s : State) (bad : List Nat) (base n : Nat) : s.Exported (s.exportAll bad base n) :=
  .foldl (fun u q => u.exportOne_exported bad base q) _ s

theorem State.exportAll_bad (s : State) {bad : List Nat} (base : Nat) {q n : Nat} (h : q ∈ bad) (hq : q < n) :
    (s.exportAll bad base n).rf TM_DMC.EXPORT.ERR = 1 := by
  rw [State.exportAll]
  induction n with
  | zero => omega
  | succ n ih =>
    rw [List.range_succ, List.foldl_append, List.foldl_cons, List.foldl_nil]
    by_cases hqn : q = n
    · exact State.exportOne_bad _ _ (hqn ▸ h)
    · exact (State.exportOne_exported _ _ _ _).err (ih (by omega))

theorem State.exportDone_eq (s : State) (bad : List Nat) (h : s.rfb TM_DMC.EXPORT.BUSY = true) :
    s.exportDone bad = (s.exportAll bad (s.rf TM_DMC.EXPORT_BASE_HI.ADDR * 2 ^ 32 + s.rf TM_DMC.EXPORT_BASE_LO.ADDR * 2 ^ 12) 524288).wf
      TM_DMC.EXPORT.BUSY 0 := by
  have hone (base : Nat) : (fun (s : State) q => s.exportOne bad base q) = fun s q =>
      let isBad := bad.contains q
      let (v, s) := if isBad then
          (List.range 8).foldl (fun (a : Nat × State) i => let (w, s) := a.2.freeVal; (a.1 + w * 2 ^ (32 * i), s)) (0, s)
        else s.memPart (s.ctrPart q)
      let (ok, s) := s.post false (base + 32 * q) (toLe 32 v)
      if ok && !isBad then s else s.wf TM_DMC.EXPORT.ERR 1 := by
    funext s q
    rw [State.exportOne, freeWords]
  rw [State.exportAll, hone, State.exportDone, if_neg (by simp [h])]

/-- What a window's operation reads is apart from the word that names the operation. -/
theorem State.memWindow_op (s : State) (x : Nat) : let t := s.wf TM_DMC.MEM.OP x
    t.rf TM_DMC.MEM_ADDR.UNIT = s.rf TM_DMC.MEM_ADDR.UNIT ∧ t.memData = s.memData ∧ t.rf TM_DMC.MEM_ADDR.PART = s.rf TM_DMC.MEM_ADDR.PART ∧
      (∀ u, t.inCtrRegion u = s.inCtrRegion u) ∧ t.rfb TM_DMC.DDR_CTRL.ENABLE = s.rfb TM_DMC.DDR_CTRL.ENABLE := by
  intro t
  have hrf {f : Fld} (h : f.key 0 0 ≠ TM_DMC.MEM.OP.key 0 0) : t.rf f = s.rf f := State.rf_wf_ne _ _ _ _ h
  have hdata : ∀ k < 8, TM_DMC.MEM_DATA.DATA.key 0 k ≠ TM_DMC.MEM.OP.key 0 0 := by decide
  refine ⟨hrf (by decide), ?_, hrf (by decide), fun u => ?_, ?_⟩
  · refine congrArg sumN (List.map_congr_left fun k hk => ?_)
    rw [show t.rfi TM_DMC.MEM_DATA.DATA k = s.rfi TM_DMC.MEM_DATA.DATA k from
      State.rfp_wfp_ne _ _ _ _ _ _ _ _ (hdata k (List.mem_range.mp hk))]
  · have hunits : t.ctrUnits = s.ctrUnits := congrArg (fun n => if n = 65536 then 65536 else 0) (hrf (by decide))
    have hbase : t.ctrBase = s.ctrBase := congrArg (fun n => fittedUnits n - 65536) (hrf (by decide))
    rw [State.inCtrRegion, State.inCtrRegion, hunits, hbase]
  · rw [State.rfb, State.rfb, hrf (by decide)]

theorem State.memGo_eq {s : State} (hopen : s.blockOpen 4160 = true) (hbusy : s.rfb TM_DMC.MEM.BUSY = false) (write : Bool) :
    s.memGo write = if write && !s.inCtrRegion (s.rf TM_DMC.MEM_ADDR.UNIT) && s.rfb TM_DMC.DDR_CTRL.ENABLE then
        (s.wf TM_DMC.MEM.OP (b2n write)).memEnd stDenied
      else ((s.wf TM_DMC.MEM.OP (b2n write)).wf TM_DMC.MEM.BUSY 1).ddrAsk
        ⟨3, write, s.rf TM_DMC.MEM_ADDR.UNIT, 0, s.rf TM_DMC.MEM_ADDR.PART, s.memData, 0, false, false⟩ := by
  obtain ⟨hunit, hdata, hpart, hregion, hen⟩ := s.memWindow_op (b2n write)
  rw [State.memGo, if_neg (by simp [hopen, hbusy])]
  rw [State.memData] at hdata
  dsimp only
  rw [hunit, hregion, hen, hdata, hpart]

/-- The end of a window's request that is taken up or denied (R373). -/
theorem State.memGo_going {s : State} (hopen : s.blockOpen 4160 = true) (hbusy : s.rfb TM_DMC.MEM.BUSY = false) {write : Bool}
    (h : (write && !s.inCtrRegion (s.rf TM_DMC.MEM_ADDR.UNIT) && s.rfb TM_DMC.DDR_CTRL.ENABLE) = false) : ∃ t, s.memGo write = t ∧
      t.rf TM_DMC.MEM.BUSY = 1 ∧ t.rf TM_DMC.MEM.OP = b2n write ∧ t = { s with regs := t.regs, dm := { s.dm with reqs := s.dm.reqs ++
        [⟨3, write, s.rf TM_DMC.MEM_ADDR.UNIT, 0, s.rf TM_DMC.MEM_ADDR.PART, s.memData, 0, false, false⟩] } } := by
  refine ⟨_, rfl, ?_⟩
  rw [State.memGo_eq hopen hbusy, if_neg (ne_true_of_eq_false h), State.ddrAsk_going _ (.inl (by simp)) rfl]
  generalize s.memData = v
  refine ⟨State.rf_wf_same (s.wf TM_DMC.MEM.OP (b2n write)) TM_DMC.MEM.BUSY 1, ?_, rfl⟩
  refine (State.rf_wf_ne (s.wf TM_DMC.MEM.OP (b2n write)) TM_DMC.MEM.BUSY TM_DMC.MEM.OP 1 (by decide)).trans ((State.rf_wf_same _ _ _).trans ?_)
  cases write
  · rfl
  · rfl

theorem State.memGo_denied {s : State} (hopen : s.blockOpen 4160 = true) (hbusy : s.rfb TM_DMC.MEM.BUSY = false)
    (hout : s.inCtrRegion (s.rf TM_DMC.MEM_ADDR.UNIT) = false) (hon : s.rfb TM_DMC.DDR_CTRL.ENABLE = true) : ∃ t, s.memGo true = t ∧
      t.rf TM_DMC.MEM.BUSY = 0 ∧ t.rf TM_DMC.MEM.STATUS = stDenied ∧ t = { s with regs := t.regs } := by
  refine ⟨_, rfl, ?_⟩
  rw [State.memGo_eq hopen hbusy, if_pos (by simp [hout, hon]), State.memEnd]
  exact ⟨(State.rf_wf_ne _ _ _ _ (by decide)).trans (State.rf_wf_same _ _ _), State.rf_wf_same _ _ _, rfl⟩

theorem State.exportDone_spec (s : State) (bad : List Nat) (h : s.rfb TM_DMC.EXPORT.BUSY = true) : ∃ t, s.exportDone bad = t ∧
    t.rf TM_DMC.EXPORT.BUSY = 0 ∧ ((∃ q ∈ bad, q < 524288) → t.rf TM_DMC.EXPORT.ERR = 1) ∧ t.pkts = s.pkts ∧ t.dm.reqs = s.dm.reqs := by
  refine ⟨_, s.exportDone_eq bad h, ?_⟩
  generalize s.rf TM_DMC.EXPORT_BASE_HI.ADDR * 2 ^ 32 + s.rf TM_DMC.EXPORT_BASE_LO.ADDR * 2 ^ 12 = base
  obtain ⟨hpkts, hreqs, -⟩ := s.exportAll_exported bad base 524288
  have herr {q : Nat} := s.exportAll_bad (bad := bad) base (q := q) (n := 524288)
  generalize s.exportAll bad base 524288 = u at hpkts hreqs herr ⊢
  refine ⟨State.rf_wf_same _ _ _, fun ⟨q, hmem, hq⟩ => ?_, (u.wf_pkts _ _).trans hpkts, (congrArg Dmc.reqs (u.wf_dm _ _)).trans hreqs⟩
  exact (State.rf_wf_ne _ _ _ _ (by decide)).trans (herr hmem hq)

theorem memoryWindow : Claims.MemoryWindow := by
  intro s htm
  have hrun {i : Instr} {f : State → State} (h : exec i s = .next (s.onTm f)) : exec i s = .next (f s) := h.trans (congrArg _ (s.onTm_on f htm))
  refine ⟨fun q hq hunits hpend hfree => ?_, fun q hunits => ⟨?_, ?_⟩, fun hopen hbusy => ?_, fun hbusy => ⟨?_, ?_⟩,
    fun hopen hbusy hunits => ?_, fun bad hbusy => ?_,
    fun bad hbusy => ?_⟩
  · refine (hrun (f := fun s => s.counterWriteback q) rfl).trans (congrArg _ ((if_neg ?_).trans (s.ddrAsk_going (.inr rfl) rfl)))
    simpa [hunits, hpend, hq] using fun r hr hwho href => hfree r hr ⟨hwho, href⟩
  · exact (hrun (f := fun s => s.counterWriteback q) rfl).trans (congrArg _ (if_pos (by simp [hunits])))
  · exact (hrun (f := State.exportGo) rfl).trans (congrArg _ (if_pos (by simp [hunits])))
  · intro u v
    obtain ⟨t, hread, hstarted⟩ := State.memGo_going hopen hbusy (write := false) rfl
    refine ⟨⟨t, (hrun (f := fun s => s.memGo false) rfl).trans (congrArg _ hread), hstarted⟩, fun hfree => ?_, fun hout hon => ?_⟩
    · obtain ⟨t, hwrite, hstarted⟩ := State.memGo_going hopen hbusy (write := true) (by simpa [or_iff_not_imp_left] using hfree)
      exact ⟨t, (hrun (f := fun s => s.memGo true) rfl).trans (congrArg _ hwrite), hstarted⟩
    · obtain ⟨t, hwrite, hended⟩ := State.memGo_denied hopen hbusy hout hon
      exact ⟨t, (hrun (f := fun s => s.memGo true) rfl).trans (congrArg _ hwrite), hended⟩
  · exact (hrun (f := fun s => s.memGo false) rfl).trans (congrArg _ (if_pos (by simp [hbusy])))
  · exact (hrun (f := fun s => s.memGo true) rfl).trans (congrArg _ (if_pos (by simp [hbusy])))
  · exact (hrun (f := State.exportGo) rfl).trans (congrArg _ (if_neg (by simp [hunits, hopen, hbusy])))
  · exact (hrun (f := fun s => s.exportDone bad) rfl).trans (congrArg _ (if_pos (by simp [hbusy])))
  · obtain ⟨t, hdone, hspec⟩ := s.exportDone_spec bad hbusy
    exact ⟨t, (hrun (f := fun s => s.exportDone bad) rfl).trans (congrArg _ hdone), hspec⟩

/-- Settles O30. -/
theorem memoryControl : Obligations.MemoryControl := ⟨memoryService, frequencyChange, memoryWindow⟩

end Sys2Proof.Machine
end

section
/-! PROOF. A packet leaves its ingress or egress strip (R107, R142, R148 to R150, R199, R218). -/

namespace Sys2Proof.Machine

/-! ### Metadata fields -/

theorem Pkt.mdGet_mdSet_apart (p : Pkt) (x : Nat) {lo w l n : Nat} (hl : l + n ≤ 512) (h : l + n ≤ lo ∨ lo + w ≤ l) :
    (p.mdSet lo w x).mdGet l n = p.mdGet l n := by
  rw [Pkt.mdGet, Pkt.mdSet, BitVec.toNat_ofNat]
  exact (bits_mod_two_pow _ hl).trans (bits_setBits_apart _ _ h)

/-- Setting PUNT and its reason leaves PROT. -/
theorem Pkt.prot_setPunt (p : Pkt) (x : Nat) : ((p.mdSet 127 1 1).mdSet 121 6 x).prot = p.prot := by
  rw [Pkt.prot, Pkt.mdGet_mdSet_apart _ _ (by decide) (by decide), Pkt.mdGet_mdSet_apart _ _ (by decide) (by decide)]
  rfl

/-! ### Faults -/

section
variable {s : State} {b : Bool} {egr : Bool} {pipe cause last : Nat} {p : Pkt}

theorem State.failApply_none : s.failApply egr pipe 0 last p = (some p, s) := rfl

/-- The state that has counted a fault. -/
def State.faultCounted (s : State) (egr : Bool) (cause : Nat) : State :=
  s.sat (if egr then FE_PARSE.FAIL_CNT_E.COUNT else FE_PARSE.FAIL_CNT_I.COUNT) 0 cause 1

theorem State.failApply_goOn (hcause : cause ≠ 0) (hact : (s.faultCounted egr cause).failAct p.bank cause = 0) :
    s.failApply egr pipe cause last p = (some p, s.faultCounted egr cause) := by
  rw [State.failApply, if_neg hcause]
  show (match (s.faultCounted egr cause).failAct p.bank cause with | 0 => _ | 1 => _ | _ => _) = _
  rw [hact] <;> rfl

theorem State.failApply_punt (hcause : cause ≠ 0) (hact : (s.faultCounted egr cause).failAct p.bank cause = 1) :
    s.failApply egr pipe cause last p = (some ((p.mdSet 127 1 1).mdSet 121 6 cause), s.faultCounted egr cause) := by
  rw [State.failApply, if_neg hcause]
  show (match (s.faultCounted egr cause).failAct p.bank cause with | 0 => _ | 1 => _ | _ => _) = _
  rw [hact] <;> rfl

theorem State.failApply_drop (hcause : cause ≠ 0) (hact : (s.faultCounted egr cause).failAct p.bank cause = 2) :
    s.failApply egr pipe cause last p = (none,
      ((s.faultCounted egr cause).sat1 (if egr then FE_PARSE.FAIL_DROP_E.COUNT else FE_PARSE.FAIL_DROP_I.COUNT)).raise Ev.FE_PARSE.FAIL_DROP 0
        cause (pipe + (if egr then 16 else 0)) last) := by
  rw [State.failApply, if_neg hcause]
  show (match (s.faultCounted egr cause).failAct p.bank cause with | 0 => _ | 1 => _ | _ => _) = _
  rw [hact] <;> rfl

end

theorem State.eliminate_unprotected {s : State} {p : Pkt} (h : p.prot = false) (lane : Nat) : s.eliminate p lane = (some p, s) :=
  if_pos (by simp [h])

/-! ### The ingress side -/

@[simp] theorem Pkt.mdGet_point (p : Pkt) (k now l n : Nat) : (p.point k now).mdGet l n = p.mdGet l n := rfl

theorem bits_exitMd (p : Pkt) (md : Nat) : bits (p.exitMd md).toNat 9 1 = p.mdGet 9 1 := by
  rw [Pkt.exitMd, BitVec.toNat_ofNat, bits_mod_two_pow _ (by decide), bits_setBits_apart _ _ (by decide),
    bits_setBits_apart _ _ (by decide), bits_setBits_same]
  exact bits_mod _ _ _

theorem Pkt.mdGet_of_md {p : Pkt} {m : BitVec 512} (h : p.md = m) (l n : Nat) : p.mdGet l n = bits m.toNat l n := h ▸ rfl

/-- The bank a packet is stamped with outlives the metadata its program leaves. -/
theorem Pkt.mdGet_of_exitMd {p q : Pkt} {md : Nat} (h : q.md = p.exitMd md) : q.mdGet 9 1 = p.mdGet 9 1 :=
  (Pkt.mdGet_of_md h 9 1).trans (bits_exitMd p md)

theorem fixReason_mdGet (p : Pkt) {l n : Nat} (hl : l + n ≤ 512) (h : l + n ≤ 121 ∨ 127 ≤ l) :
    (fixReason p).mdGet l n = p.mdGet l n := by
  rw [fixReason]
  split
  · exact p.mdGet_mdSet_apart 0 hl h
  · rfl

theorem Pkt.bank_of_md {p q : Pkt} (h : q.mdGet 9 1 = p.mdGet 9 1) : q.bank = p.bank := congrArg (fun x => decide (x = 1)) h

theorem Pkt.bank_exitIn {p q : Pkt} {md k now x : Nat} (h : q.md = p.exitMd md) :
    (((fixReason q).mdSet 31 1 x).point k now).bank = p.bank :=
  Pkt.bank_of_md (by
    rw [Pkt.mdGet_point, Pkt.mdGet_mdSet_apart _ _ (by decide) (by decide), fixReason_mdGet _ (by decide) (by decide),
      Pkt.mdGet_of_exitMd h])

theorem Pkt.bank_exitOut {p q : Pkt} {md k now : Nat} (h : q.md = p.exitMd md) : ((fixReason q).point k now).bank = p.bank :=
  Pkt.bank_of_md (by rw [Pkt.mdGet_point, fixReason_mdGet _ (by decide) (by decide), Pkt.mdGet_of_exitMd h])

/-- What follows an ingress exit that no fault ended: learning, elimination, then the punt meter or the bridge. -/
def State.ingressOn (s : State) (i : Nat) (q : Pkt) (x : Strip) : State :=
  let s := match x.src with
    | some k => s.learnFrom i q k
    | none => s
  match s.eliminate q (laneGet x.lanes 157) with
  | (none, s) => (s.putPkt q).dropPkt q
  | (some q, s) =>
    if q.punt then (s.traceHalf q false false false true).puntMeter q
    else
      let s := s.traceHalf q false false false false
      if s.bridgeUp then s.movePkt q (.tmArrive i) else s.departPkt q

theorem State.ingressOn_unprotected {s : State} {i : Nat} {q : Pkt} {x : Strip} (h : q.prot = false) :
    s.ingressOn i q x =
      let s := match x.src with
        | some k => s.learnFrom i q k
        | none => s
      if q.punt then (s.traceHalf q false false false true).puntMeter q
      else
        let s := s.traceHalf q false false false false
        if s.bridgeUp then s.movePkt q (.tmArrive i) else s.departPkt q := by
  rw [State.ingressOn]
  simp only [State.eliminate_unprotected h]

theorem ingressExit : Claims.IngressExit := by
  intro s i ask p hfe hhead hturn u r v q w sent
  have hbank : q.bank = p.bank := Pkt.bank_exitIn rfl
  have hrun : exec (.stripExit i ask) s = .next (match v.failApply false i r.1.fail r.1.state q with
      | (none, s) => (s.putPkt q).dropPkt q
      | (some q, s) => s.ingressOn i q r.2) := by
    refine congrArg Host.Outcome.next ((s.onFe_on _ hfe).trans ?_)
    rw [State.stripExit, hhead]
    exact if_neg (by simp [hturn])
  refine ⟨fun hc ha => ?_, fun hprot => ⟨fun hc => ?_, fun hc ha => ?_, fun hc ha => ?_⟩⟩
  · rw [hrun, State.failApply_drop hc (hbank ▸ ha)]
    rfl
  · rw [hrun, hc, State.failApply_none]
    exact congrArg _ (State.ingressOn_unprotected hprot)
  · rw [hrun, State.failApply_goOn hc (hbank ▸ ha)]
    exact congrArg _ (State.ingressOn_unprotected hprot)
  · rw [hrun, State.failApply_punt hc (hbank ▸ ha)]
    exact congrArg _ (State.ingressOn_unprotected ((q.prot_setPunt _).trans hprot))

/-! ### The egress side -/

section
variable {s : State} {i : Nat} {p q : Pkt} {x : Strip}

theorem State.egressEmit_punt (h : q.punt = true) :
    s.egressEmit i p q x = ((s.traceHalf q false true false true).putPkt q).puntMeter q := if_pos h

theorem State.egressEmit_none (h : q.punt = false) (he : emitFrame x.lanes p = none) :
    s.egressEmit i p q x = (((s.putPkt q).dropPkt q).sat1 FE_PARSE.EMIT_DROP.COUNT).raiseO Ev.FE_PARSE.EMIT_DROP 0 none (some i)
      (some (bits (laneGet x.lanes 159) 0 10 + bits (laneGet x.lanes 159) 16 10 * 2 ^ 16)) := by
  rw [State.egressEmit, h, he]
  rfl

/-- An emitted frame goes to the loopback input, or through the MAC of its port. -/
theorem State.egressEmit_frame {d : Bytes} {pad : Bool} (h : q.punt = false) (he : emitFrame x.lanes p = some (d, pad)) :
    s.egressEmit i p q x =
      let s := if pad then s.inc1 FE_PARSE.EMIT_PAD.COUNT else s
      let len := p.frameLen (p.length - 4) d
      let f : Pkt := { q with data := d, ts := laneGet x.lanes 158 % 2 ^ 28 }
      let g := f.mdSet 175 9 p.outPort
      if 256 ≤ p.outPort then
        ((s.traceHalf f false true false false).movePkt ((f.mdSet 0 9 256).mdSet 184 3 5) (.loopIn i)).inc FE_PIPEE.LOOP.COUNT 0 i 1
      else if g.prot && (s.putPkt g).rfb FE_PROT.CTRL.TX_ENABLE && (s.putPkt g).operating 75 then (s.putPkt g).protSend g p.outPort len
      else (s.putPkt g).toMac g p.outPort (macBuf g.cls) (len + 4) := by
  simp only [State.egressEmit, h, he, Bool.false_eq_true, if_false, -Nat.reducePow]

/-! What an egress exit makes of the answer of FAIL_ACT. -/

theorem State.egressFate_none {pw : Walk} {v w : State} (h : v.failApply true i pw.fail pw.state q = (none, w)) :
    v.egressFate i p q pw x = (w.putPkt q).dropPkt q := by
  rw [State.egressFate, h]

theorem State.egressFate_some {pw : Walk} {v w : State} {g : Pkt} (h : v.failApply true i pw.fail pw.state q = (some g, w)) :
    v.egressFate i p q pw x = w.egressEmit i p g x := by
  rw [State.egressFate, h]

end

theorem ne_true_of_and_and {a b c : Bool} (h : a = false) : ¬ (a && b && c) = true := by simp [h]

theorem egressExit : Claims.EgressExit := by
  intro s i p hfe hhead hturn u r v q w
  have hbank : q.bank = p.bank := Pkt.bank_exitOut rfl
  have hrun : exec (.egressStripExit i) s = .next (v.egressFate i p q r.1 r.2) := by
    refine congrArg Host.Outcome.next ((s.onFe_on _ hfe).trans ?_)
    rw [State.egressExit, hhead]
    exact if_neg (by simp [hturn])
  have hgood (hc : r.1.fail = 0) : exec (.egressStripExit i) s = .next (v.egressEmit i p q r.2) := by
    exact hrun.trans (congrArg _ (State.egressFate_some (hc ▸ State.failApply_none)))
  refine ⟨fun hc ha => ?_, fun hc ha => ?_, fun hc ha => ?_, fun hc hp => ?_, fun hc hp he => ?_, fun d pad hc hp he => ?_⟩
  · exact hrun.trans (congrArg _ (State.egressFate_none (State.failApply_drop hc (hbank ▸ ha))))
  · exact hrun.trans (congrArg _ (State.egressFate_some (State.failApply_punt hc (hbank ▸ ha))))
  · exact hrun.trans (congrArg _ (State.egressFate_some (State.failApply_goOn hc (hbank ▸ ha))))
  · rw [hgood hc, State.egressEmit_punt hp]
  · rw [hgood hc, State.egressEmit_none hp he]
  · rw [hgood hc, State.egressEmit_frame hp he]
    refine ⟨fun ho => ?_, fun ho hg hlen => ?_, fun ho hg hlen => ?_⟩
    · exact congrArg _ (if_pos ho)
    · exact congrArg _ ((if_neg (by omega)).trans ((if_neg (ne_true_of_and_and hg)).trans (if_neg (Nat.not_lt.2 hlen))))
    · exact congrArg _ ((if_neg (by omega)).trans ((if_neg (ne_true_of_and_and hg)).trans (if_pos hlen)))

/-- Settles O14: both exits, case by case of the fault's FAIL_ACT; the program leaves the bank that FAIL_ACT is read from. -/
theorem stripExits : Obligations.StripExits := ⟨ingressExit, egressExit⟩

end Sys2Proof.Machine
end

section
/-! SUPPORT. What the operations on packets keep: the clock and device time stand, and no packet comes to a place that the operation does
not name, and the epoch machine stands. `State.Still pid l s t` says so of the packet of the number `pid` and the place `l`. -/

namespace Sys2Proof.Machine

/-- Between `s` and `t` no time passes, and `t` has a packet of number `pid` at `l` only where `s` has one. -/
structure State.Still (pid : Nat) (l : Loc) (s t : State) : Prop where
  cycle : t.cycle = s.cycle
  time : t.time = s.time
  ep : t.ep = s.ep
  pkts : ∀ q ∈ t.pkts, q.id = pid → q.loc = l → ∃ r ∈ s.pkts, r.id = pid ∧ r.loc = l

/-- No packet of number `pid` is at `l`. -/
def State.Gone (pid : Nat) (l : Loc) (s : State) : Prop := ∀ q ∈ s.pkts, q.id = pid → q.loc ≠ l

section
variable {pid : Nat} {l : Loc} {s t u : State}

theorem State.Still.refl (s : State) : s.Still pid l s := ⟨rfl, rfl, rfl, fun q hq hid hl => ⟨q, hq, hid, hl⟩⟩

theorem State.Still.trans (h : State.Still pid l s t) (h' : State.Still pid l t u) : State.Still pid l s u where
  cycle := h'.cycle.trans h.cycle
  time := h'.time.trans h.time
  ep := h'.ep.trans h.ep
  pkts q hq hid hl := by
    obtain ⟨r, hr, hrid, hrl⟩ := h'.pkts q hq hid hl
    exact h.pkts r hr hrid hrl

theorem State.Still.gone (h : State.Still pid l s t) (hs : s.Gone pid l) : t.Gone pid l := fun q hq hid hl => by
  obtain ⟨r, hr, hrid, hrl⟩ := h.pkts q hq hid hl
  exact hs r hr hrid hrl

theorem State.Still.ite {c : Prop} [Decidable c] {a b : State} (ha : State.Still pid l s a) (hb : State.Still pid l s b) :
    State.Still pid l s (if c then a else b) := by split <;> assumption

theorem State.Still.foldl {α : Type} {g : State → α → State} (h : ∀ (s : State) a, State.Still pid l s (g s a)) (as : List α)
    (s : State) : State.Still pid l s (as.foldl g s) := by
  induction as generalizing s with
  | nil => exact .refl s
  | cons a as ih => exact (h s a).trans (ih _)

/-- An operation that touches neither the clocks nor the packets. -/
theorem State.Still.of_eq (hcycle : t.cycle = s.cycle) (htime : t.time = s.time) (hpkts : t.pkts = s.pkts)
    (hep : t.ep = s.ep := by rfl) : State.Still pid l s t :=
  ⟨hcycle, htime, hep, fun q hq hid hl => ⟨q, hpkts ▸ hq, hid, hl⟩⟩

theorem State.Raised.still (h : s.Raised t) : State.Still pid l s t := by
  rw [h.rest]
  exact .of_eq rfl rfl rfl

end

section
variable {pid : Nat} {l : Loc} (s : State)

/-! ### Counters and records -/

theorem State.Still.wfp (f : Fld) (p i v : Nat) : State.Still pid l s (s.wfp f p i v) := .of_eq rfl rfl rfl

theorem State.Still.wf (f : Fld) (v : Nat) : State.Still pid l s (s.wf f v) := .wfp s f 0 0 v

theorem State.Still.sat (f : Fld) (p i n : Nat) : State.Still pid l s (s.sat f p i n) :=
  (State.Still.wfp s f p i _).trans (State.Raised.perfFld _ f p n).still

theorem State.Still.inc (f : Fld) (p i n : Nat) : State.Still pid l s (s.inc f p i n) :=
  (State.Still.wfp s f p i _).trans (State.Raised.perfFld _ f p n).still

theorem State.Still.sat1 (f : Fld) : State.Still pid l s (s.sat1 f) := .sat s f 0 0 1

theorem State.Still.inc1 (f : Fld) : State.Still pid l s (s.inc1 f) := .inc s f 0 0 1

theorem State.Still.raise (e : Evt) (p c a b : Nat) : State.Still pid l s (s.raise e p c a b) := (State.Raised.raise s e p c a b).still

theorem State.Still.raiseO (e : Evt) (p : Nat) (c a b : Option Nat) : State.Still pid l s (s.raiseO e p c a b) :=
  (State.Raised.raiseO s e p c a b).still

theorem State.Still.countQ (q : Nat) (f : QInc → QInc) : State.Still pid l s (s.countQ q f) := by
  unfold State.countQ
  exact .ite (.refl s) (.of_eq rfl rfl rfl)

theorem State.Still.tracePush (tm : Bool) (v : Nat) : State.Still pid l s (s.tracePush tm v) := by
  unfold State.tracePush
  dsimp only
  refine .ite (.refl s) ((State.Still.inc s _ _ _ _).trans (.ite ?_ (.ite (.of_eq rfl rfl rfl) (.of_eq rfl rfl rfl))))
  refine (State.Still.sat1 _ _).trans (.ite (State.Still.trans ?_ (.raise _ _ _ _ _ _)) (.refl _))
  exact .ite (.of_eq rfl rfl rfl) (.of_eq rfl rfl rfl)

theorem State.Still.traceHalf (p : Pkt) (tm egr dropped punted : Bool) : State.Still pid l s (s.traceHalf p tm egr dropped punted) := by
  unfold State.traceHalf
  exact .ite (.tracePush s tm _) (.refl s)

/-! ### The store of packets -/

theorem State.Still.removePkt (id : Nat) : State.Still pid l s (s.removePkt id) :=
  ⟨rfl, rfl, rfl, fun q hq hid hl => ⟨q, (List.mem_filter.1 hq).1, hid, hl⟩⟩

/-- A packet written in place of those of its number brings none to `l` that was not there. -/
theorem State.Still.putPkt {p : Pkt} (h : p.id = pid → p.loc = l → ∃ r ∈ s.pkts, r.id = pid ∧ r.loc = l) :
    State.Still pid l s (s.putPkt p) where
  cycle := rfl
  time := rfl
  ep := rfl
  pkts q hq hid hl := by
    obtain ⟨x, hx, rfl⟩ := List.mem_map.1 hq
    split at hid
    case isTrue hxp =>
      rw [if_pos hxp] at hl
      exact h hid hl
    case isFalse hxp =>
      rw [if_neg hxp] at hl
      exact ⟨x, hx, hid, hl⟩

theorem State.Still.movePkt (p : Pkt) {k : Loc} (hk : k ≠ l) : State.Still pid l s (s.movePkt p k) where
  cycle := rfl
  time := rfl
  ep := rfl
  pkts q hq hid hl := by
    rcases List.mem_append.1 hq with hq | hq
    · exact ⟨q, (List.mem_filter.1 hq).1, hid, hl⟩
    · rw [List.mem_singleton.1 hq] at hl
      exact absurd hl hk

theorem State.Still.newPkt {p : Pkt} (hp : p.loc ≠ l) : State.Still pid l s (s.newPkt p).2 where
  cycle := rfl
  time := rfl
  ep := rfl
  pkts q hq hid hl := by
    rcases List.mem_append.1 hq with hq | hq
    · exact ⟨q, hq, hid, hl⟩
    · rw [List.mem_singleton.1 hq] at hl
      exact absurd hl hp

theorem State.gone_removePkt (id : Nat) (k : Loc) : (s.removePkt id).Gone id k := fun q hq hid _ => by
  have hne := (List.mem_filter.1 hq).2
  rw [hid] at hne
  simp at hne

theorem State.gone_movePkt (p : Pkt) {j k : Loc} (hj : j ≠ k) : (s.movePkt p j).Gone p.id k := fun q hq hid hl => by
  rcases List.mem_append.1 hq with hq | hq
  · exact s.gone_removePkt p.id k q hq hid hl
  · rw [List.mem_singleton.1 hq] at hl
    exact hj hl

/-! ### A packet departs -/

theorem State.Still.showDdr : State.Still pid l s s.showDdr := by
  unfold State.showDdr
  extract_lets u
  have hu : State.Still pid l s u := .ite (.wf s _ _) (.refl s)
  exact hu.trans (.wf u _ _)

theorem State.Still.retireUnit (u : Nat) : State.Still pid l s (s.retireUnit u) := by
  unfold State.retireUnit
  dsimp only
  refine .ite (.of_eq rfl rfl rfl) (.ite (.of_eq rfl rfl rfl) (State.Still.trans ?_ (.raise _ _ _ _ _ _)))
  exact .of_eq rfl rfl rfl

theorem State.Still.ddrRelease (us : List Nat) : State.Still pid l s (s.ddrRelease us) := by
  unfold State.ddrRelease
  refine .ite (.refl s) (State.Still.trans ?_ (.showDdr _))
  refine State.Still.trans ?_ (.foldl (fun t u => .ite (.retireUnit t u) (.refl t)) us _)
  exact .of_eq rfl rfl rfl

theorem State.Still.freeUnits (p : Pkt) : State.Still pid l s (s.freeUnits p) := by
  unfold State.freeUnits
  dsimp only
  refine .ite (.refl s) ?_
  split
  next q hq => exact .putPkt s fun hid hl => ⟨q, List.mem_of_find?_eq_some hq, hid, hl⟩
  next =>
    have hdie : State.Still pid l s (if p.dieUnits = 0 then s else s.wf TM_BUF.DIE_FREE.UNITS (s.rf TM_BUF.DIE_FREE.UNITS + p.dieUnits)) :=
      .ite (.refl s) (.wf s _ _)
    generalize (if p.dieUnits = 0 then s else s.wf TM_BUF.DIE_FREE.UNITS (s.rf TM_BUF.DIE_FREE.UNITS + p.dieUnits)) = u at hdie
    have hlost : State.Still pid l u { u with dm := { u.dm with lost := u.dm.lost.filter (· ≠ p.family) } } := .of_eq rfl rfl rfl
    exact hdie.trans (hlost.trans (.ddrRelease _ _))

theorem State.Still.causeFire (n : Nat) : State.Still pid l s (s.causeFire n) := by
  unfold State.causeFire
  exact .ite (.refl s) (.ite (.of_eq rfl rfl rfl) (.of_eq rfl rfl rfl))

theorem State.Still.coalesce (n count us : Nat) : State.Still pid l s (s.coalesce n count us) := by
  unfold State.coalesce
  dsimp only
  refine .ite (State.Still.trans ?_ (.causeFire _ n)) (.ite (.of_eq rfl rfl rfl) (.of_eq rfl rfl rfl))
  exact .of_eq rfl rfl rfl

theorem State.Still.post (bad : Bool) (addr : Nat) (data : Bytes) : State.Still pid l s (s.post bad addr data).2 := by
  unfold State.post
  split
  · exact .of_eq rfl rfl rfl
  · exact .refl s

theorem State.Still.injBack (c addr ph status : Nat) : State.Still pid l s (s.injBack c addr ph status) := by
  unfold State.injBack
  dsimp only
  have hcount : State.Still pid l s (if status = 0 then s else s.sat TM_HPKT.INJ_DROP.COUNT 0 c 1) := .ite (.refl s) (.sat s _ _ _ _)
  exact (hcount.trans (.post _ _ _ _)).trans (.ite (.coalesce _ _ _ _) (.refl _))

theorem State.Still.injDone (p : Pkt) (status : Nat) : State.Still pid l s (s.injDone p status) := by
  unfold State.injDone
  split
  · exact .injBack s _ _ _ _
  · exact .refl s

theorem State.Still.departCount (b : Bool) : State.Still pid l s (s.departCount b) := by
  unfold State.departCount
  dsimp only
  exact .ite (.raiseO s _ _ _ _ _) (.ite (.of_eq rfl rfl rfl) (.of_eq rfl rfl rfl))

theorem State.Still.departed (p : Pkt) : State.Still pid l (s.removePkt p.id) (s.departPkt p) := by
  unfold State.departPkt
  dsimp only
  refine (State.Still.freeUnits _ p).trans (.ite (.refl _) ?_)
  exact (State.Still.injDone _ _ _).trans (.departCount _ _)

theorem State.Still.departPkt (p : Pkt) : State.Still pid l s (s.departPkt p) := (State.Still.removePkt s p.id).trans (.departed s p)

theorem State.gone_departPkt (p : Pkt) (k : Loc) : (s.departPkt p).Gone p.id k := (State.Still.departed s p).gone (s.gone_removePkt _ _)

theorem State.Still.dropPkt (p : Pkt) : State.Still pid l s (s.dropPkt p) := by
  unfold State.dropPkt
  refine State.Still.trans ?_ ((State.Still.traceHalf _ _ _ _ _ _).trans (.departPkt _ _))
  split
  · exact .countQ s _ _
  · exact .ite (.countQ s _ _) (.refl s)
  · exact .ite (.countQ s _ _) (.refl s)
  · exact .of_eq rfl rfl rfl
  · exact .refl s

theorem State.gone_dropPkt (p : Pkt) (k : Loc) : (s.dropPkt p).Gone p.id k := State.gone_departPkt _ _ _

/-! ### The MAC of a port -/

theorem State.Still.wireOut (port : Nat) (o : Out) : State.Still pid l s (s.wireOut port o) := by
  unfold State.wireOut
  exact .ite (.refl s) (.of_eq rfl rfl rfl)

theorem State.Still.updNetPort (port : Nat) (f : NetPort → NetPort) : State.Still pid l s (s.updNetPort port f) := .of_eq rfl rfl rfl

theorem State.Still.pfcFlush (port : Nat) : State.Still pid l s (s.pfcFlush port) := by
  unfold State.pfcFlush
  refine .ite ((State.Still.updNetPort s _ _).trans (.foldl (fun t e => ?_) _ _)) (.refl s)
  exact (State.Still.inc t _ _ _ _).trans ((State.Still.inc _ _ _ _ _).trans ((State.Still.inc _ _ _ _ _).trans (.wireOut _ _ _)))

theorem State.Still.pfcSend (port c q : Nat) : State.Still pid l s (s.pfcSend port c q) := by
  unfold State.pfcSend
  exact .ite (.refl s) ((State.Still.updNetPort s _ _).trans (.pfcFlush _ _))

end

end Sys2Proof.Machine
end

section
/-! PROOF. The egress side of a port: selections, the pacer, and the MAC (R10, R16, R222, R227, R305, R319, R321, R349). -/

namespace Sys2Proof.Machine

/-! ### Selections -/

section
variable {s : State} {i : Nat} {unc : List Nat}

theorem exec_egressSelect (htm : s.tmOn = true) (hturn : s.egrTurn i = true) :
    exec (.egressSelect i unc) s = .next (if s.egrOpen i then
      match (unc.foldl State.dieError s).egrRead i with
      | some p => (unc.foldl State.dieError s).handoff p i
      | none => (unc.foldl State.dieError s).egressPick i
      else s.egrHeld i) := by
  refine congrArg Host.Outcome.next ((s.onTm_on _ htm).trans ?_)
  rw [State.egressSelect, if_neg (by simp [hturn])]
  cases s.egrOpen i <;> rfl

theorem exec_egressSelect_pick (htm : s.tmOn = true) (hturn : s.egrTurn i = true) (hopen : s.egrOpen i = true)
    (hread : (unc.foldl State.dieError s).egrRead i = none) :
    exec (.egressSelect i unc) s = .next ((unc.foldl State.dieError s).egressPick i) := by
  rw [exec_egressSelect htm hturn, if_pos hopen, hread]

end

/-- What an egress selection does with the candidate it has found. -/
def State.egrServe (s : State) (i : Nat) : Option (Nat × Option (Nat × Bool × List Nat × State)) → State
  | none => s
  | some (n, none) =>
    let s : State := { s with sc := { s.sc with rr := SMap.put 0 s.sc.rr i (n - 16 * i + 1) } }
    match s.headAt (.loopFifo i) with
    | some p => s.handoff p i
    | none => s
  | some (port, some (q, e, path, t)) =>
    match s.queueHead q with
    | none => s
    | some p =>
      let ports := (List.range 16).map (16 * i + ·)
      let s := t.served port path e p.length
      let s : State := if e then s else { s with sc := { s.sc with rr := SMap.put 0 s.sc.rr i (port - 16 * i + 1) } }
      let s := if p.cls = 7 then s.armAt .pacer port (s.cycle + s.bitCycles port (8 * (p.length + 20))) else s
      let s := s.egrTake p q i (.eread i)
      s.syncRounds (ports.contains ·) (s.egrQueues ports)

theorem State.egressPick_eq {s u v : State} {i : Nat} {ports : List Nat} (hports : (List.range 16).map (16 * i + ·) = ports)
    (hu : s.oversizeSweep ports = u) (hv : u.syncRounds (fun k => ports.contains k) (u.egrQueues ports) = v) :
    s.egressPick i = v.egrServe i (v.egrCandidate (u.workOf (u.egrQueues ports)) i) := by
  unfold State.egressPick
  simp only [hports, hu, hv]
  generalize v.egrCandidate (u.workOf (u.egrQueues ports)) i = c
  subst hports
  rcases c with _ | ⟨n, _ | ⟨q, e, path, t⟩⟩
  · rfl
  · rfl
  · rfl

theorem State.egrServe_none (s : State) (i : Nat) : s.egrServe i none = s := rfl

theorem State.egrServe_loop {s : State} {i n : Nat} {p : Pkt} (h : s.headAt (.loopFifo i) = some p) :
    s.egrServe i (some (n, none)) = ({ s with sc := { s.sc with rr := SMap.put 0 s.sc.rr i (n - 16 * i + 1) } } : State).handoff p i := by
  show (match s.headAt (.loopFifo i) with | some p => _ | none => _) = _
  rw [h]

theorem State.egrServe_queue {s t : State} {i port q : Nat} {e : Bool} {path : List Nat} {p : Pkt} (h : s.queueHead q = some p) :
    s.egrServe i (some (port, some (q, e, path, t))) =
      let ports := (List.range 16).map (16 * i + ·)
      let a := t.served port path e p.length
      let c : State := if e then a else { a with sc := { a.sc with rr := SMap.put 0 a.sc.rr i (port - 16 * i + 1) } }
      let d := if p.cls = 7 then c.armAt .pacer port (c.cycle + c.bitCycles port (8 * (p.length + 20))) else c
      let y := d.egrTake p q i (.eread i)
      y.syncRounds (ports.contains ·) (y.egrQueues ports) := by
  rw [State.egrServe]
  simp only [h]

theorem State.loopSelect_queue {s u v x : State} {q : Nat} {e : Bool} {path : List Nat} {p : Pkt} (hop : s.operating 4151 = true)
    (hen : (s.hdr 4149).enable = true) (hreset : s.buffersReset = false) (hnext : s.sc.loopNext ≤ s.cycle * 250)
    (hu : s.oversizeSweep [256] = u) (hv : u.syncRounds (fun k => decide (k = 256)) (u.egrQueues [256]) = v)
    (htrial : (v.portTrial (u.workOf (u.egrQueues [256])) 256 true).orElse (fun _ => v.portTrial (u.workOf (u.egrQueues [256])) 256 false) =
      some (q, e, path, x)) (hhead : v.queueHead q = some p) :
    s.loopSelect = if !v.loopOpen (p.flowHash % 16) then v
      else
        let a := x.served 256 path e p.length
        let y := ({ a with sc := { a.sc with loopNext := a.cycle * 250 + p.length } } : State).egrTake p q (p.flowHash % 16)
          (.loopFifo (p.flowHash % 16))
        (y.syncRounds (fun k => decide (k = 256)) (y.egrQueues [256])).flowSweep := by
  rw [State.loopSelect, if_neg (by simp [hop, hen, hreset, hnext])]
  simp only [hu, hv, htrial, hhead]

/-! ### The MAC -/

theorem State.macBoundary_chosen {s : State} {port : Nat} {p : Pkt} (hport : port < 256) (hen : s.portEnabled port = true)
    (hop : s.operating (pgPage port) = true) (hfree : s.wireFree port = true) (hp : (s.pfcFlush port).macChoice port = some p) :
    let f := s.pfcFlush port
    s.macBoundary port = if !f.linkUp port then
        if !f.pgb FE_PG.PORT_CFG.PROT_MEMBER port then f
        else if p.prot then f.dropPkt p
        else (f.dropPkt p).pgSat FE_PG.CNT.LINK_DOWN_DROP port 1
      else if p.bad && p.whole then (f.dropPkt p).pgSat FE_PG.CNT.TX_TAIL_BAD_DROP port 1
      else
        let g := f.updNetPort port (fun x => { x with
          fragAt := s.cycle, fragSent := if (f.at_ (.wire port)).isEmpty then 0 else f.sentBytes port })
        let u := g.movePkt { p with begun := true, since := s.time } (.wire port)
        if bits p.ts 0 2 = 3 then u.tsCapture port (bits p.ts 12 16) else u := by
  have hstill : State.Still 0 (.wire port) s (s.pfcFlush port) := .pfcFlush s port
  rw [State.macBoundary, if_neg (by simp [hen, hop, hfree]; exact hport)]
  simp only [hp, ← hstill.cycle, ← hstill.time]
  rfl

theorem State.frameTxEnd_whole {s : State} {port : Nat} {p : Pkt} (hp : (s.at_ (.wire port)).getLast? = some p) (hwhole : p.whole = true) :
    let u := if (stampFrame p).2 then s.sat FE_PG.TS_ERR.COUNT (port / 8) 0 1 else s
    let v := if p.bad then u.pgSat FE_PG.CNT.TX_STOMPED port 1 else u
    let w := (v.pgInc FE_PG.CNT.TX_FRAMES port 1).pgInc FE_PG.CNT.TX_BYTES port ((stampFrame p).1.length + 4)
    let q := p.point 12 w.nowNs
    let x := ((w.traceHalf q false true false false).departPkt q).wireOut port (.frame port (stampFrame p).1 p.bad)
    let y := (x.updNetPort port (fun x => { x with fragAt := s.cycle })).pfcFlush port
    s.frameTxEnd port = if y.loopedLanes port && !y.txMuted port then
      y.frameRx port (stampFrame p).1 (if p.bad then .fcsError else .good) else y := by
  intro u v w q x y
  have hu : State.Still 0 (.wire port) s u := .ite (.sat s _ _ _ _) (.refl s)
  have hv : State.Still 0 (.wire port) u v := .ite (.sat u _ _ _ _) (.refl u)
  have hw : State.Still 0 (.wire port) v w := (State.Still.inc v _ _ _ _).trans (.inc _ _ _ _ _)
  have hx : State.Still 0 (.wire port) w x :=
    (State.Still.traceHalf w _ _ _ _ _).trans ((State.Still.departPkt _ _).trans (.wireOut _ _ _))
  have hcycle : x.cycle = s.cycle := (hu.trans (hv.trans (hw.trans hx))).cycle
  have hy : y = (x.updNetPort port (fun n => { n with fragAt := x.cycle })).pfcFlush port := by rw [hcycle]
  rw [State.frameTxEnd, hp]
  simp only [hwhole]
  rw [hy]
  rfl

/-- Settles O15: each command is its function on the die that is on, and the function goes the branch of the clause's hypotheses. -/
theorem egressCommands : Obligations.EgressCommands := by
  intro s
  refine ⟨fun htm i unc hturn => ?_, fun htm hop hen hreset hnext => ?_, fun htm port d htimer => ?_, fun hfe port p hport hen hop hfree => ?_,
    fun hfe port p hp hwhole => ?_⟩
  · intro ports mine b u w v
    refine ⟨fun hopen => ?_, fun hopen p hread => ?_, fun hopen hread => ?_⟩
    · exact (exec_egressSelect htm hturn).trans (congrArg _ (if_neg (by rw [hopen]; decide)))
    · rw [exec_egressSelect htm hturn, if_pos hopen, hread]
    · have hpick : exec (.egressSelect i unc) s = .next (v.egrServe i (v.egrCandidate w i)) := by
        exact (exec_egressSelect_pick htm hturn hopen hread).trans 
          (congrArg _ (State.egressPick_eq (u := u) (v := v) (ports := ports) rfl rfl rfl))
      refine ⟨fun hc => ?_, fun n p hc hp => ?_, fun port q e path x p hc hp => ?_⟩
      · exact hpick.trans (congrArg _ ((congrArg (v.egrServe i) hc).trans (v.egrServe_none i)))
      · exact hpick.trans (congrArg _ ((congrArg (v.egrServe i) hc).trans (State.egrServe_loop hp)))
      · exact hpick.trans (congrArg _ ((congrArg (v.egrServe i) hc).trans (State.egrServe_queue hp)))
  · intro mine u w v q e path x p htrial hp i
    have hexec : exec .loopbackSelect s = .next s.loopSelect := congrArg Host.Outcome.next (s.onTm_on _ htm)
    have hrun := hexec.trans (congrArg _ (State.loopSelect_queue hop hen hreset hnext rfl rfl htrial hp))
    refine ⟨fun hopen => hrun.trans (congrArg _ (if_pos ?_)), fun hopen => hrun.trans (congrArg _ (if_neg ?_))⟩
    · rw [hopen]
      rfl
    · rw [hopen]
      decide
  · exact (congrArg Host.Outcome.next (s.onTm_on _ htm)).trans (congrArg _ (congrArg (Option.getD · s) (State.expire_expired htimer)))
  · intro f hp
    have hexec : exec (.macFrameBoundary port) s = .next (s.macBoundary port) := congrArg Host.Outcome.next (s.onFe_on _ hfe)
    have hrun := hexec.trans (congrArg _ (State.macBoundary_chosen hport hen hop hfree hp))
    refine ⟨fun hup hbad => hrun.trans (congrArg _ ?_), fun hup hbad hwhole => hrun.trans (congrArg _ ?_), fun hup hprot =>
      hrun.trans (congrArg _ ?_), fun hup hprot hpp => hrun.trans (congrArg _ ?_)⟩
    · exact (if_neg (by rw [hup]; decide)).trans (if_neg (by simpa using hbad))
    · exact (if_neg (by rw [hup]; decide)).trans (if_pos (by rw [hbad, hwhole]; decide))
    · exact (if_pos (by rw [hup]; decide)).trans (if_pos (by rw [hprot]; decide))
    · exact (if_pos (by rw [hup]; decide)).trans ((if_neg (by rw [hprot]; decide)).trans (if_neg (by rw [hpp]; decide)))
  · exact (congrArg Host.Outcome.next (s.onFe_on _ hfe)).trans (congrArg _ (State.frameTxEnd_whole hp hwhole))

end Sys2Proof.Machine
end

section
/-! PROOF. TM ingress, VOQ selection, inject fetch and cells received (R61, R65, R66, R247 to R250, R263, R300, R321, R326). -/

namespace Sys2Proof.Machine

/-! ### What an arrival does to the other packets -/

theorem apply_ite_id {c : Prop} [Decidable c] (p q : Pkt) (n : Nat) (hp : p.id = n) (hq : q.id = n) : (if c then p else q).id = n := by
  split <;> assumption

section
variable {pid : Nat} {l : Loc} (s : State)

/-- Policing may write the colour of a packet, and leaves its number. -/
theorem State.policeStep_id (p : Pkt) : (s.policeStep p).2.1.id = p.id := by
  unfold State.policeStep
  dsimp only
  split
  · exact apply_ite_id _ _ _ rfl rfl
  · exact apply_ite_id _ _ _ rfl rfl

theorem State.Still.expShort (p : Pkt) : State.Still pid l s (s.expShort p) := by
  unfold State.expShort
  exact .ite (.sat1 s _) (.refl s)

/-! ### Flow control towards the ports -/

theorem State.Still.pfcCheck (p c : Nat) : State.Still pid l s (s.pfcCheck p c) := by
  unfold State.pfcCheck
  dsimp only
  refine .ite (.refl s) (.ite ?_ (.ite ?_ (.refl s)))
  · exact (State.Still.updNetPort s _ _).trans ((State.Still.pfcSend _ _ _ _).trans (.of_eq rfl rfl rfl))
  · exact (State.Still.updNetPort s _ _).trans ((State.Still.pfcSend _ _ _ _).trans (.of_eq rfl rfl rfl))

theorem State.Still.fcCheck (g : Nat) : State.Still pid l s (s.fcCheck g) := by
  unfold State.fcCheck
  exact .ite (.of_eq rfl rfl rfl) (.ite (.of_eq rfl rfl rfl) (.refl s))

theorem State.Still.flowIn (p : Pkt) (port : Nat) : State.Still pid l s (s.flowIn p port) := by
  unfold State.flowIn
  exact .ite (.ite (.fcCheck s _) (.refl s)) (.pfcCheck s _ _)

theorem State.Still.orphanCheck (x : Nat) : State.Still pid l s (s.orphanCheck x) := by
  unfold State.orphanCheck
  exact .ite (.refl s) (.raise s _ _ _ _ _)

/-! ### A packet queued, refused or replicated -/

/-- A packet that finds room in a queue leaves the place it was at. -/
theorem State.gone_enqueue {p : Pkt} {q : Nat} (hl : l ≠ .queue q) (h : (s.enqueue p q).1 = true) : (s.enqueue p q).2.Gone p.id l := by
  unfold State.enqueue at h ⊢
  dsimp only at h ⊢
  split at h
  next => cases h
  next =>
    exact ((State.Still.expShort _ _).trans ((State.Still.flowIn _ _ _).trans (.orphanCheck _ _))).gone (State.gone_movePkt _ _ hl.symm)

theorem State.gone_dropPkt_of {p : Pkt} (h : p.id = pid) : (s.dropPkt p).Gone pid l := h ▸ s.gone_dropPkt p l

theorem State.gone_admitTo (p : Pkt) (h : Nat) (egr : Bool) (hl : ∀ q, l ≠ .queue q) : (s.admitTo p h egr).Gone p.id l := by
  unfold State.admitTo
  dsimp only
  split
  · exact State.gone_dropPkt_of _ rfl
  split
  · exact State.gone_dropPkt_of _ rfl
  next q _ =>
    split
    next t ht =>
      have hgone := State.gone_enqueue (l := l) _ (hl q) (congrArg Prod.fst ht)
      rw [ht] at hgone
      exact hgone
    next => exact State.gone_dropPkt_of _ rfl

theorem State.Still.setFab (f : Fabric → Fabric) : State.Still pid l s (s.setFab f) := .of_eq rfl rfl rfl

theorem State.Still.arm (k : TimerKind) (i n : Nat) : State.Still pid l s (s.arm k i n) := .of_eq rfl rfl rfl

theorem State.Still.residueJoin (b : Branch) : State.Still pid l s (s.residueJoin b) := by
  unfold State.residueJoin
  dsimp only
  refine .ite ?_ ((State.Still.setFab s _).trans (.ite (.refl _) (.arm _ _ _ _)))
  exact (State.Still.setFab s _).trans ((State.Still.sat1 _ _).trans (.raise _ _ _ _ _ _))

theorem State.pktById_id {s : State} {id : Nat} {p : Pkt} (h : s.pktById id = some p) : p.id = id := by
  simpa using List.find?_some h

theorem State.Still.stampCount (b : Bool) : State.Still pid l s (s.stampCount b) := by
  unfold State.stampCount
  dsimp only
  exact (State.Still.inc s _ _ _ _).trans (.ite (.of_eq rfl rfl rfl) (.refl _))

theorem State.Still.ingCopy (p : Pkt) (dev : Nat) (hl : l ≠ .cutq p.stream) : State.Still pid l s (s.ingCopy p dev) := by
  unfold State.ingCopy State.copyPkt
  exact (State.Still.newPkt s hl.symm).trans ((State.Still.stampCount _ _).trans (.inc1 _ _))

theorem State.Still.ingBranch (p : Pkt) (r : Nat) (hl : l ≠ .cutq p.stream) : State.Still pid l s (s.ingBranch p r) := by
  unfold State.ingBranch
  exact .ite (.ingCopy s p _ hl) (.residueJoin s _)

theorem State.Still.ingWalk (n : Nat) (p : Pkt) (r : Nat) (hl : l ≠ .cutq p.stream) : State.Still pid l s (State.ingWalk n s p r) := by
  induction n generalizing s r with
  | zero => exact .refl s
  | succ n ih => exact .ite (.refl s) ((State.Still.ingBranch s p r hl).trans (ih _ _))

theorem State.Still.mcastSweep : State.Still pid l s s.mcastSweep := by
  unfold State.mcastSweep
  exact .foldl (fun t p => .ite (.refl t) ((State.Still.traceHalf t _ _ _ _ _).trans (.departPkt _ _))) _ s

theorem State.gone_ingReplicate (p : Pkt) (hl : l ≠ .cutq p.stream) (h : s.Gone p.id l) : (s.ingReplicate p).Gone p.id l := by
  unfold State.ingReplicate
  dsimp only
  split
  · exact State.gone_dropPkt _ _ _
  · exact ((State.Still.ingWalk s _ p _ hl).trans (.mcastSweep _)).gone h

theorem State.gone_mcastIn (p : Pkt) (hl : ∀ i, l ≠ .cutq i) (hr : l ≠ .residue) : (s.mcastIn p).Gone p.id l := by
  unfold State.mcastIn
  dsimp only
  split
  · exact State.gone_dropPkt _ _ _
  split
  · exact State.gone_dropPkt _ _ _
  split
  · exact State.gone_dropPkt _ _ _
  next d u t _ =>
    have hgone : ((t.movePkt { p with dieUnits := d, ddr := u, since := t.time } .residue).expShort
        { p with dieUnits := d, ddr := u, since := t.time }).Gone p.id l := (State.Still.expShort _ _).gone (t.gone_movePkt _ hr.symm)
    split
    next q hq =>
      have hid : q.id = p.id := State.pktById_id hq
      rw [← hid] at hgone ⊢
      exact State.gone_ingReplicate _ q (hl _) hgone
    next => exact hgone

end

/-! ### An arrival -/

theorem Pkt.with_loc {p : Pkt} {l : Loc} (h : p.loc = l) : { p with loc := l } = p := by subst h; rfl

theorem State.headAt_loc {s : State} {l : Loc} {p : Pkt} (h : s.headAt l = some p) : p.loc = l := by
  simpa using List.find?_some h

/-- What follows the police: the express bucket, then replication or admission. -/
def State.arrived (s : State) (i : Nat) (p : Pkt) : State :=
  let r := s.policeStep p
  let x := r.2.2.expressStep r.2.1 i
  if !r.1 then (r.2.2.putPkt r.2.1).dropPkt r.2.1
  else if !x.1 then (x.2.putPkt r.2.1).dropPkt r.2.1
  else if r.2.1.mcast then (x.2.putPkt r.2.1).mcastIn r.2.1 else (x.2.putPkt r.2.1).admitTo r.2.1 r.2.1.handle false

theorem State.tmArrival_head {s : State} {i : Nat} {p : Pkt}
    (hen : ([4148, 4149, 4150, 4153].all (fun P => (s.hdr P).enable)) = true) (hhead : s.headAt (.tmArrive i) = some p)
    (hturn : s.arriveTurn p = true) : s.tmArrival i = s.arrived i (p.point 4 s.nowNs) := by
  have hturn' : s.arriveTurn (p.point 4 s.nowNs) = true := hturn
  rw [State.tmArrival, if_neg (by simp only [hen]; decide), hhead]
  simp only [Pkt.with_loc (State.headAt_loc hhead), hturn', Bool.not_true, Bool.false_eq_true, if_false]
  rw [State.arrived]
  rcases s.policeStep (p.point 4 s.nowNs) with ⟨_ | _, q, t⟩
  · rfl
  · rcases hx : t.expressStep q i with ⟨_ | _, u⟩
    · simp only [hx]
      rfl
    · simp only [hx]
      rfl

theorem State.gone_arrived (s : State) (i : Nat) (p : Pkt) (j : Nat) : (s.arrived i p).Gone p.id (.tmArrive j) := by
  rw [← s.policeStep_id p, State.arrived]
  split
  · exact State.gone_dropPkt _ _ _
  split
  · exact State.gone_dropPkt _ _ _
  split
  · exact State.gone_mcastIn _ _ (fun _ h => by cases h) (fun h => by cases h)
  · exact State.gone_admitTo _ _ _ _ (fun _ h => by cases h)

theorem tmIngress : Claims.TmIngress := by
  intro s htm
  refine ⟨fun i p hen hhead hturn => ?_, fun hop hop' hen hreset unc => ?_, fun c d b bad hstop hwait => ?_⟩
  · intro r x
    have hrun : exec (.tmIngressArrival i) s = .next (s.arrived i (p.point 4 s.nowNs)) :=
      congrArg Host.Outcome.next ((s.onTm_on _ htm).trans (State.tmArrival_head hen hhead hturn))
    refine ⟨⟨_, hrun, State.gone_arrived s i _ i⟩, fun hr => ?_, fun hr hx => ?_, fun hr hx hm => ?_, fun hr hx hm => ?_⟩
    · exact hrun.trans (congrArg _ (if_pos (by rw [hr]; decide)))
    · exact hrun.trans (congrArg _ ((if_neg (by rw [hr]; decide)).trans (if_pos (by rw [hx]; decide))))
    · exact hrun.trans (congrArg _ ((if_neg (by rw [hr]; decide)).trans ((if_neg (by rw [hx]; decide)).trans (if_pos hm))))
    · exact hrun.trans (congrArg _ ((if_neg (by rw [hr]; decide)).trans
        ((if_neg (by rw [hx]; decide)).trans (if_neg (by rw [hm]; decide)))))
  · refine congrArg Host.Outcome.next ((s.onTm_on _ htm).trans ?_)
    exact if_neg (by simp [hop, hop', hen, hreset])
  · intro h addr len u n v w
    have hrun (x y : ReadResult) : exec (.injectFetch c x y bad) s = .next (s.injFetch c x y bad) :=
      congrArg Host.Outcome.next (s.onTm_on _ htm)
    have hgo : ¬ (s.fetchStopped || !s.injWaits c) = true := by simp [hstop, hwait]
    exact ⟨(hrun _ _).trans (congrArg _ (if_neg hgo)), (hrun _ _).trans (congrArg _ (if_neg hgo)),
      (hrun _ _).trans (congrArg _ (if_neg hgo))⟩

/-! ### A cell received -/

/-- The cell that the unscrambled bytes `b` of a position hold. -/
def cellOf (b : Bytes) : Cell :=
  let h := b.take 16
  { first := decide (hdrBits h 125 1 = 1), last := decide (hdrBits h 124 1 = 1), bad := decide (hdrBits h 123 1 = 1),
    epoch := decide (hdrBits h 122 1 = 1), destDev := hdrBits h 112 10, destPg := hdrBits h 107 5, cls := hdrBits h 104 3,
    srcDev := hdrBits h 94 10, lastLen := hdrBits h 80 8, seq := hdrBits h 48 32,
    data := (b.drop 16).take (if hdrBits h 124 1 = 1 then hdrBits h 80 8 else 240), own := false,
    pkt := 0, tx := none, since := 0, ns := 0 }

section
variable {s : State} {n pos : Nat} {raw : Bytes} (hen : s.flEnabled n = true) (hal : s.fl TM_FLINK.LINK_STATUS.ALIGN n = alInFrame)
  (hpos : pos < 31)
include hen hal hpos

theorem State.cellRx_inFrame (marked : Bool) :
    let b := scramble (64 + 256 * pos) (raw.take 256)
    let h := b.take 16
    let u := s.flInc TM_FLINK.CNT.CELLS_RX n 1
    let src := 16 + n / 10
    s.cellRx n pos raw marked =
      if marked then s.flSat TM_FLINK.CNT.RX_DISCARD n 1
      else if hdrBits h 0 16 ≠ crc16 (h.take 14) then s.flSat TM_FLINK.CNT.HCRC_ERR n 1
      else if hdrBits h 126 2 = 0 then s
      else if !s.inService n || hdrBits h 126 2 ≠ 1 || hdrBits h 112 10 ≠ s.fabId || s.noEpoch || s.inReset 4146 then
        s.flSat TM_FLINK.CNT.RX_DISCARD n 1
      else if u.admitStopped then u.doldDrop 1
      else if 256 ≤ (u.staged src).length then (u.sat1 TM_SPRAY.CORE_DROP.COUNT).raise Ev.TM_SPRAY.CORE_DROP 0 0 src 0
      else u.setStaged src (u.staged src ++ [cellOf b]) := by
  intro b h u src
  have hdata : cellOf b = { cellOf b with data := (b.drop 16).take (if decide (hdrBits h 124 1 = 1) then hdrBits h 80 8 else 240) } := by
    simp only [decide_eq_true_eq]
    rfl
  rw [State.cellRx, if_neg (by simp [hen, hal, hpos]), hdata]
  rfl

end

theorem cellReceive : Claims.CellReceive := by
  intro s n pos raw htm hen hal hpos hloop b h
  have hrun (marked : Bool) : exec (.fabricCellRx n pos raw marked) s = .next (s.cellRx n pos raw marked) :=
    congrArg Host.Outcome.next ((s.onTm_on _ htm).trans (if_neg (by rw [hloop]; decide)))
  have hgood := (hrun false).trans (congrArg _ ((State.cellRx_inFrame (raw := raw) hen hal hpos false).trans (if_neg (by decide))))
  refine ⟨?_, fun hcrc => ?_, fun hcrc hidle => ?_, fun hcrc hidle hbad => ?_, fun hcrc hin hkind hdev hep hreset hadm hroom => ?_⟩
  · exact (hrun true).trans (congrArg _ ((State.cellRx_inFrame (raw := raw) hen hal hpos true).trans (if_pos rfl)))
  · exact hgood.trans (congrArg _ (if_pos hcrc))
  · exact hgood.trans (congrArg _ ((if_neg (not_not.2 hcrc)).trans (if_pos hidle)))
  · refine hgood.trans (congrArg _ ((if_neg (not_not.2 hcrc)).trans ((if_neg hidle).trans (if_pos ?_))))
    show (!s.inService n || hdrBits h 126 2 ≠ 1 || hdrBits h 112 10 ≠ s.fabId || s.noEpoch || s.inReset 4146) = true
    rcases hbad with hin | hkind | hdev | hep
    · simp [hin]
    · simp [hkind]
    · simp [hdev]
    · simp [hep]
  · have hidle : hdrBits h 126 2 ≠ 0 := by rw [hkind]; decide
    have hfor : ¬ (!s.inService n || hdrBits h 126 2 ≠ 1 || hdrBits h 112 10 ≠ s.fabId || s.noEpoch || s.inReset 4146) = true := by
      simp [hin, hkind, hdev, hep, hreset]
    have hstaged := hgood.trans (congrArg _ ((if_neg (not_not.2 hcrc)).trans ((if_neg hidle).trans ((if_neg hfor).trans
      ((if_neg (by rw [hadm]; decide)).trans (if_neg (Nat.not_le.2 hroom)))))))
    exact ⟨_, _, cellOf b, rfl, hstaged, rfl, rfl, rfl, rfl, hdev, rfl, rfl, rfl, rfl, rfl⟩

/-- Settles O16: an arrival's packet leaves its place on the bridge by a drop, a copy's walk or its queue; the other clauses are the
branches of their functions. -/
theorem tmCells : Obligations.TmCells := ⟨tmIngress, cellReceive⟩

end Sys2Proof.Machine
end

section
/-! PROOF. The life of a host command from its fetch to its completion (R42, R46 to R60). -/

namespace Sys2Proof.Machine

/-! ### Posted writes -/

theorem State.postAll_good {s : State} (h : s.canPost = true) (ws : List (Nat × Bytes)) :
    s.postAll false ws = (true, ws.foldl (fun (s : State) e => s.emit (.hostWrite e.1 e.2)) s) := by
  induction ws generalizing s with
  | nil => rfl
  | cons w ws ih =>
    have hpost : s.post false w.1 w.2 = (true, s.emit (.hostWrite w.1 w.2)) := if_pos (by simp [h])
    rw [State.postAll]
    simp only [hpost]
    exact ih h

theorem State.postAll_bad (s : State) {ws : List (Nat × Bytes)} (h : ws ≠ []) : s.postAll true ws = (false, s) := by
  cases ws with
  | nil => exact absurd rfl h
  | cons w ws =>
    have hpost : s.post true w.1 w.2 = (false, s) := if_neg (by simp)
    rw [State.postAll]
    simp only [hpost]
    rfl

/-! ### The table of commands -/

section
variable {s : State} {id : Nat} {c : Cmd}

theorem State.cmd_updCmd {f : Cmd → Cmd} (h : s.cmd id = some c) (hf : ∀ d, (f d).id = d.id) : (s.updCmd id f).cmd id = some (f c) := by
  have hfind : (fun d : Cmd => decide ((if d.id = id then f d else d).id = id)) = fun d => decide (d.id = id) := by
    funext d
    split
    · rw [hf]
    · rfl
  have hid : c.id = id := by simpa using List.find?_some h
  show (s.hc.cmds.map _).find? _ = _
  rw [List.find?_map, Function.comp_def, hfind]
  show Option.map _ (s.cmd id) = _
  rw [h, Option.map_some, if_pos hid]

theorem State.cmd_dropCmd (s : State) (id : Nat) : (s.dropCmd id).cmd id = none := by
  refine List.find?_eq_none.2 fun c hc => ?_
  have := (List.mem_filter.1 hc).2
  simpa using this

theorem State.startable_of {p : Nat → Bool} (h : s.cmd id = some c) (hmay : s.mayStart c = true) (hp : p c.opcode = true) :
    s.startable id p = some c := by
  rw [State.startable, h]
  exact if_pos (by rw [hmay, hp]; rfl)

end

/-! ### What finishing leaves -/

section
variable {s : State} {id status detail result : Nat} {c : Cmd} (h : s.cmd id = some c)
include h

theorem State.finishR_orphan (horphan : c.orphan = true) : s.finishR id status detail result = s.dropCmd id := by
  rw [State.finishR, State.finish, h]
  exact if_pos horphan

/-- The state of a ring command's completion. -/
theorem State.finishR_ring {n : Nat} (horphan : c.orphan = false) (hring : c.ring = some n) :
    s.finishR id status detail result = ({ s with hc := { s.hc with nextFin := s.hc.nextFin + 1 } } : State).updCmd id (fun d => { d with
      phase := .finished, status := status, detail := detail, epochSeq := c.effSeq.getD (s.rf TM_EPOCH.EPOCH_SEQ.SEQ), result := result,
      bufs := [], finSeq := s.hc.nextFin }) := by
  rw [State.finishR, State.finish, h]
  simp only [horphan, hring]
  rfl

/-- The registers of the direct slot once a command has completed there. -/
def dresDone (m : SMap Nat) (w : Nat) : SMap Nat :=
  regPut (regPut (regFill m TM_HCMD.DRES.WORD 8 (fun k => bits w (32 * k) 32)) TM_HCMD.DRES_CTRL.VALID 0 0 1) TM_HCMD.DRES_CTRL.BUSY 0 0 0

theorem State.finishR_direct {w : Nat} (horphan : c.orphan = false) (hring : c.ring = none)
    (hw : completionWord (c.bits 16 16) status 1 0 detail (c.effSeq.getD (s.rf TM_EPOCH.EPOCH_SEQ.SEQ)) result = w) :
    s.finishR id status detail result = ({ s with regs := dresDone s.regs w } : State).dropCmd id := by
  rw [State.finishR, State.finish, h]
  simp only [horphan, hring, hw, State.postAll]
  rw [State.foldl_wfi_fill s TM_HCMD.DRES.WORD 8 (fun _ k => bits w (32 * k) 32) (fun _ _ => rfl)]
  rfl

end

theorem regGet_dresDone_valid (m : SMap Nat) (w : Nat) : regGet (dresDone m w) TM_HCMD.DRES_CTRL.VALID 0 0 = 1 := by
  rw [dresDone, regGet_regPut_ne _ _ (by decide), regGet_regPut_same]
  rfl

theorem regGet_dresDone_busy (m : SMap Nat) (w : Nat) : regGet (dresDone m w) TM_HCMD.DRES_CTRL.BUSY 0 0 = 0 := by
  rw [dresDone, regGet_regPut_same]
  rfl

theorem regGet_dresDone_word (m : SMap Nat) (w : Nat) {k : Nat} (hk : k < 8) :
    regGet (dresDone m w) TM_HCMD.DRES.WORD 0 k = bits w (32 * k) 32 := by
  have hvalid : ∀ j < 8, TM_HCMD.DRES.WORD.key 0 j ≠ TM_HCMD.DRES_CTRL.VALID.key 0 0 := by decide
  have hbusy : ∀ j < 8, TM_HCMD.DRES.WORD.key 0 j ≠ TM_HCMD.DRES_CTRL.BUSY.key 0 0 := by decide
  rw [dresDone, regGet_regPut_ne _ _ (hbusy k hk), regGet_regPut_ne _ _ (hvalid k hk), regGet_regFill_same _ _ rfl (by decide) hk]
  exact bits_mod _ _ _

theorem commandFinishes : Claims.CommandFinishes := by
  intro s id status detail result c h seq
  refine ⟨State.finishR_orphan h, fun horphan hring => ?_, fun horphan hring => ?_⟩
  · obtain ⟨n, hn⟩ := Option.isSome_iff_exists.1 hring
    refine ⟨_, State.finishR_ring h horphan hn, ?_, rfl, rfl⟩
    exact State.cmd_updCmd (s := { s with hc := { s.hc with nextFin := s.hc.nextFin + 1 } }) h fun _ => rfl
  · refine ⟨_, State.finishR_direct h horphan hring rfl, State.cmd_dropCmd _ _, ?_, ?_, fun k hk => ?_, rfl⟩
    · exact regGet_dresDone_valid _ _
    · exact regGet_dresDone_busy _ _
    · exact regGet_dresDone_word _ _ hk

/-! ### Fetch and completion -/

section
variable {s : State} {n : Nat} {c : Cmd}

theorem State.regs_foldl_emit (ws : List (Nat × Bytes)) (s : State) :
    (ws.foldl (fun (s : State) e => s.emit (.hostWrite e.1 e.2)) s).regs = s.regs := by
  induction ws generalizing s with
  | nil => rfl
  | cons w ws ih => exact ih _

theorem State.ringSize_of_regs {s t : State} (h : t.regs = s.regs) (n : Nat) : t.ringSize n = s.ringSize n := by
  rw [State.ringSize, State.rfi_get, h]
  rfl

/-- A completion is written where its buffers and its entry are taken, and lost where they are not. -/
theorem State.completionWrite_oldest (hop : s.operating 4105 = true) (hold : s.oldestFinished n = some c) (hfull : s.cqFull n = false)
    (hreset : c.byReset = false) {bad ok : Bool} {v : State} :
    let t := s.rfi TM_HCMD.CQ_STATUS.CQ_TAIL n
    let ph := s.rfi TM_HCMD.CQ_STATUS.CQ_PHASE n
    let addr := s.rfi TM_HCMD.CQ_BASE_HI.ADDR n * 2 ^ 32 + s.rfi TM_HCMD.CQ_BASE_LO.ADDR n * 2 ^ 12 + t * 32
    let w := toLe 32 (completionWord (c.bits 16 16) c.status ph (s.rfi TM_HCMD.RING_STATUS.SQ_HEAD n) c.detail c.epochSeq c.result)
    s.postAll bad (c.bufs ++ [(addr + 4, w.drop 4), (addr, w.take 4)]) = (ok, v) → v.regs = s.regs →
    s.completionWrite n bad =
      let sent := v.dropCmd c.id
      if ok then
        let moved := sent.wfi TM_HCMD.CQ_STATUS.CQ_TAIL n ((t + 1) % s.ringSize n)
        let u := if (t + 1) % s.ringSize n = 0 then moved.wfi TM_HCMD.CQ_STATUS.CQ_PHASE n (1 - ph) else moved
        u.coalesce n (u.rfi TM_HCMD.IRQ_COAL.COUNT n) (u.rfi TM_HCMD.IRQ_COAL.TIME_US n)
      else (sent.loseCpl.wfi TM_HCMD.RING_STATUS.ERROR n 1).raiseO Ev.TM_HCMD.FETCH_ERR 0 (some 2) none none := by
  intro t ph addr w hpost hregs
  have hsize : (v.dropCmd c.id).ringSize n = s.ringSize n := State.ringSize_of_regs hregs n
  rw [State.completionWrite, if_neg (by simp [hop]), hold]
  simp only [hfull, hreset, Bool.false_eq_true, if_false]
  simp only [t, addr, w, ph] at hpost ⊢
  simp only [hpost, hsize]

end

/-- The command that DCMD holds. -/
def State.directCmd (s : State) : Cmd :=
  ⟨s.hc.nextId, none, 0, BitVec.ofNat 512 ((List.range 16).foldl (fun a k => a + s.rfi TM_HCMD.DCMD.WORD k * 2 ^ (32 * k)) 0), .fetched,
    0, 0, 0, 0, [], 0, false, false, none⟩

theorem State.dcmdGo_free {s : State} (hopen : s.blockOpen 4105 = true) (hbusy : s.rfb TM_HCMD.DRES_CTRL.BUSY = false)
    (hvalid : s.rfb TM_HCMD.DRES_CTRL.VALID = false) (hroom : s.inflightAll < 2048) :
    s.dcmdGo = ({ s with hc := { s.hc with cmds := s.hc.cmds ++ [s.directCmd], nextId := s.hc.nextId + 1 } } : State).wf
      TM_HCMD.DRES_CTRL.BUSY 1 := by
  have hfree : ¬ (s.rfb TM_HCMD.DRES_CTRL.BUSY || s.rfb TM_HCMD.DRES_CTRL.VALID || decide (2048 ≤ s.inflightAll)) = true := by
    simpa [hbusy, hvalid] using hroom
  exact (if_neg (by rw [hopen]; decide)).trans (if_neg hfree)

theorem commandFlow : Claims.CommandFlow := by
  intro s htm
  refine ⟨fun n hstop hturn => ?_, fun id c bs hc hphase => ?_, fun n c hop hold hfull hreset => ?_, fun id c hc hmay hopc => ?_,
    fun id c hc hmay hopc => ?_, fun hopen => ?_⟩
  · intro h addr u
    refine congrArg Host.Outcome.next ((s.onTm_on _ htm).trans ?_)
    rw [State.commandFetch, if_neg (by rw [hstop]; decide), hturn]
    rfl
  · have hrun (r : ReadResult) : exec (.fetchReadDone id r) s = .next (s.fetchReadDone id r) :=
      congrArg Host.Outcome.next (s.onTm_on _ htm)
    refine ⟨?_, fun n hn => ?_⟩
    · rw [hrun, State.fetchReadDone, hc]
      exact congrArg _ (if_neg (not_not.2 hphase))
    · rw [hrun, State.fetchReadDone, hc]
      simp only [hphase, hn]
      rfl
  · intro t ph addr w sent moved u
    have hrun (bad : Bool) : exec (.completionWrite n bad) s = .next (s.completionWrite n bad) :=
      congrArg Host.Outcome.next (s.onTm_on _ htm)
    refine ⟨fun hpost => ?_, ?_⟩
    · exact (hrun false).trans (congrArg _ ((State.completionWrite_oldest hop hold hfull hreset (State.postAll_good hpost _)
        (State.regs_foldl_emit _ _)).trans (if_pos rfl)))
    · exact (hrun true).trans (congrArg _ ((State.completionWrite_oldest hop hold hfull hreset (s.postAll_bad (by simp)) rfl).trans
        (if_neg (by decide))))
  · have hexec : exec (.fence id) s = match s.startable id (fun op => decide (op = 0x01)) with
      | none => .next s
      | some c => .next (s.finishR c.id stOK 0 0) := if_neg (by rw [htm]; decide)
    rw [hexec, State.startable_of hc hmay (by simp [hopc])]
  · have hexec : exec (.unknownOpcode id) s = match s.startable id (fun op => !opcodeKnown op) with
      | none => .next s
      | some c => .next (s.finishR c.id stInvalid 1 0) := if_neg (by rw [htm]; decide)
    rw [hexec, State.startable_of hc hmay (by simp [hopc])]
  · have hgo : exec .dcmdGo s = .next s.dcmdGo := congrArg Host.Outcome.next (s.onTm_on _ htm)
    have hclosed : ¬ (!s.blockOpen 4105) = true := by rw [hopen]; decide
    refine ⟨?_, fun hbusy hvalid hroom => ?_, fun hany => ?_⟩
    · exact congrArg Host.Outcome.next ((s.onTm_on _ htm).trans (if_pos hopen))
    · refine ⟨s.directCmd, _, hgo.trans (congrArg _ (State.dcmdGo_free hopen hbusy hvalid hroom)), rfl, rfl, rfl, rfl, rfl, ?_, rfl⟩
      rw [State.rfb, State.rf_get, State.wf_regs, regGet_regPut_same]
      rfl
    · have hfull : (s.rfb TM_HCMD.DRES_CTRL.BUSY || s.rfb TM_HCMD.DRES_CTRL.VALID || decide (2048 ≤ s.inflightAll)) = true := by
        rcases hany with hbusy | hvalid | hfull
        · simp [hbusy]
        · simp [hvalid]
        · simp [hfull]
      exact hgo.trans (congrArg _ ((if_neg hclosed).trans (if_pos hfull)))

/-- Settles O8: the commands' functions along the hypotheses of each clause, and what finishing leaves in the table and in DRES. -/
theorem commandLife : Obligations.CommandLife := ⟨commandFlow, commandFinishes⟩

end Sys2Proof.Machine
end

section
/-! PROOF. Key provisioning and quotes (R437 to R441). -/

namespace Sys2Proof.Machine

/-! ### A provisioning command -/

section
variable {s : State} {id copies : Nat} {c : Cmd} (hc : s.cmd id = some c) (hmay : s.mayStart c = true) (hop : c.opcode = 0x61)
  (hhalt : s.mc.halted = false) (hturn : s.mcTurn id = true)

/-- A provisioning command ends: its completion, and the fresh nonce. -/
def State.kpEnds (s : State) (id st det : Nat) : State := (s.finishR id st det 0).freshNonce

/-- What a provisioning command that reads its record `d` does. -/
def State.kpJudged (s : State) (id copies : Nat) (c : Cmd) (b : Bytes) (f : Otp → Otp) (after : State → State) : State :=
  match s.kpCheck c b with
  | some (st, det) => s.kpEnds id st det
  | none => if copies < 3 then s.stopBurn id copies f after else (after (s.burn f)).kpEnds id stOK 0

theorem State.kpJudged_some {b : Bytes} {f : Otp → Otp} {after : State → State} {st det : Nat} (h : s.kpCheck c b = some (st, det)) :
    s.kpJudged id copies c b f after = s.kpEnds id st det := by
  unfold State.kpJudged
  rw [h]

theorem State.kpJudged_none {b : Bytes} {f : Otp → Otp} {after : State → State} (h : s.kpCheck c b = none) :
    s.kpJudged id copies c b f after = if copies < 3 then s.stopBurn id copies f after else (after (s.burn f)).kpEnds id stOK 0 := by
  unfold State.kpJudged
  rw [h]

include hc hmay hop hhalt hturn

theorem State.keyProvision_mine {mine : Nat → Bool} (hmine : mine c.kpOp = true) (r : ReadResult) (f : Cmd → Bytes → Otp → Otp)
    (after : Cmd → Bytes → Otp → State → State) :
    s.keyProvision id mine r copies f after =
      if c.bits 256 32 ≠ 320 then s.kpEnds id stInvalid 21
      else match r with
        | .fail => (s.emit (.hostRead (c.bits 192 64) 320)).kpEnds id stInvalid 26
        | .data d => (s.emit (.hostRead (c.bits 192 64) 320)).kpJudged id copies c (d.take 320) (f c (d.take 320))
            (after c (d.take 320) s.otp) := by
  rw [State.keyProvision, State.startable_of hc hmay (by simp [hop])]
  refine (if_neg (by simp [hmine, hhalt, hturn])).trans (if_congr Iff.rfl rfl ?_)
  cases r with
  | fail => rfl
  | data d =>
    unfold State.kpJudged
    dsimp only
    rcases (s.emit (.hostRead (c.bits 192 64) 320)).kpCheck c (d.take 320) with _ | ⟨st, det⟩
    · rfl
    · rfl

/-- The clauses of a provisioning command: refused for its length, for a record not read or a check that fails, stopped in its burn, or
done. -/
theorem State.keyProvision_clauses {mine : Nat → Bool} (hmine : mine c.kpOp = true) {f : Cmd → Bytes → Otp → Otp}
    {after : Cmd → Bytes → Otp → State → State} {E : ReadResult → Host.Outcome State Fault Refusal}
    (hE : ∀ r, E r = .next (s.keyProvision id mine r copies f after)) (r : ReadResult) (d : Bytes) :
    let u := s.emit (.hostRead (c.bits 192 64) 320)
    let b := d.take 320
    let g := f c b
    let next := after c b s.otp
    let ok := c.bits 256 32 = 320
    (¬ok → E r = .next (s.kpEnds id stInvalid 21)) ∧
    (ok → E .fail = .next (u.kpEnds id stInvalid 26)) ∧
    (ok → ∀ st det, u.kpCheck c b = some (st, det) → E (.data d) = .next (u.kpEnds id st det)) ∧
    (ok → u.kpCheck c b = none → copies < 3 → E (.data d) = .next (u.stopBurn id copies g next)) ∧
    (ok → u.kpCheck c b = none → 3 ≤ copies → E (.data d) =
      .next ((next ({ u with otp := g s.otp } : State).showOtp).kpEnds id stOK 0)) := by
  intro u b g next ok
  have hrun (r : ReadResult) : E r = .next (s.keyProvision id mine r copies f after) := hE r
  have hmade (r : ReadResult) := (hrun r).trans
    (congrArg _ (State.keyProvision_mine (copies := copies) hc hmay hop hhalt hturn hmine r f after))
  have hdata (hok : ok) : E (.data d) = .next (u.kpJudged id copies c b g next) := (hmade _).trans (congrArg _ (if_neg (not_not.2 hok)))
  refine ⟨fun hok => (hmade r).trans (congrArg _ (if_pos hok)), fun hok => (hmade _).trans (congrArg _ (if_neg (not_not.2 hok))),
    fun hok st det hk => ?_, fun hok hk hn => ?_, fun hok hk hn => ?_⟩
  · exact (hdata hok).trans (congrArg _ (State.kpJudged_some hk))
  · exact (hdata hok).trans (congrArg _ ((State.kpJudged_none hk).trans (if_pos hn)))
  · exact (hdata hok).trans (congrArg _ ((State.kpJudged_none hk).trans (if_neg (Nat.not_lt.2 hn))))

end

theorem State.kpEnds_otp (s : State) (id st det : Nat) : (s.kpEnds id st det).otp = s.otp := by simp [State.kpEnds]

theorem State.stopBurn_torn (s : State) (id : Nat) {k : Nat} (f : Otp → Otp) (after : State → State) :
    (k < 2 → s.stopBurn id k f after = s.begin id) ∧
    (2 ≤ k → s.stopBurn id k f after = after { ({ s.begin id with otp := s.otp.torn (f s.otp) } : State).showOtp with otp := f s.otp }) :=
  ⟨fun h => if_pos h, fun h => if_neg (Nat.not_lt.2 h)⟩

theorem keyProvision : Claims.KeyProvision := by
  intro s id copies c r d htm hc hmay hopc hhalt hturn u b ends ok
  have hon (f : State → State) : (.next (s.onTm f) : Host.Outcome State Fault Refusal) = .next (f s) := congrArg _ (s.onTm_on f htm)
  refine ⟨fun st det => State.kpEnds_otp u id st det, fun k f after => State.stopBurn_torn u id f after, fun hop => ?_, fun hop => ?_,
    fun hop => ?_, fun hop => ?_, fun hop => ?_⟩
  · exact State.keyProvision_clauses hc hmay hopc hhalt hturn (mine := fun op => decide (op = opAddOwner) || decide (op = 0) || decide (5 < op))
      (by simpa [or_assoc] using hop) (f := fun c b o => o.setSlot c.kpSlot ⟨1, (b.drop 48).take 49⟩) (after := fun _ _ _ t => t)
      (E := fun r => exec (.addOwner id r copies) s) (fun r => hon _) r d
  · exact State.keyProvision_clauses hc hmay hopc hhalt hturn (mine := fun op => decide (op = opRevokeOwner))
      (decide_eq_true hop) (f := fun c _ o => o.revoke c.kpSlot) (after := fun _ _ _ t => t)
      (E := fun r => exec (.revokeOwner id r copies) s) (fun r => hon _) r d
  · exact State.keyProvision_clauses hc hmay hopc hhalt hturn (mine := fun op => decide (op = opLifecycle))
      (decide_eq_true hop) (f := fun c _ o => o.enter (c.kpArg % 4))
      (after := fun c b o t => t.lifecycle o.lifecycle (c.kpArg % 4) (byteAt b 97 + byteAt b 98 * 256))
      (E := fun r => exec (.lifecycle id r copies) s) (fun r => hon _) r d
  · exact State.keyProvision_clauses hc hmay hopc hhalt hturn (mine := fun op => decide (op = opAdvanceSvn))
      (decide_eq_true hop) (f := fun c _ o => o.advance c.kpArg) (after := fun _ _ _ t => t)
      (E := fun r => exec (.advanceSvn id r copies) s) (fun r => hon _) r d
  · exact State.keyProvision_clauses hc hmay hopc hhalt hturn (mine := fun op => decide (op = opOwnerOnly))
      (decide_eq_true hop) (f := fun _ _ o => { o with ownerOnly := true }) (after := fun _ _ _ t => t)
      (E := fun r => exec (.ownerOnly id r copies) s) (fun r => hon _) r d

/-! ### Quotes -/

theorem length_toLe (n v : Nat) : (toLe n v).length = n := by
  induction n generalizing v with
  | zero => rfl
  | succ n ih => exact congrArg (· + 1) (ih _)

theorem length_toBe (n v : Nat) : (toBe n v).length = n := by rw [toBe, List.length_reverse, length_toLe]

theorem State.length_quoteWords (s : State) (f : Fld) : ((List.range 12).flatMap (fun k => toLe 4 (s.rfi f k))).length = 48 := by
  simp [List.length_flatMap, length_toLe]

theorem State.length_quoteBody (s : State) (nonce : Nat) : (s.quoteBody nonce).length = 192 := by
  have hdigest : (if s.noEpoch then List.replicate 48 (0 : Byte)
      else (List.range 12).flatMap (fun k => toLe 4 (s.rfi TM_ALM.ACTIVE_DIGEST.DIGEST k))).length = 48 := by
    split
    · exact List.length_replicate
    · exact s.length_quoteWords _
  simp only [State.quoteBody, List.length_append, length_toLe, length_toBe, List.length_replicate, s.length_quoteWords, hdigest]

theorem attestQuote : Claims.AttestQuote := by
  intro s id c htm hc hmay hop hhalt hturn chain body
  have hchain : chain = if c.bits 480 1 = 1 && !s.rfb TM_SEC.LIFECYCLE.CHAIN_BAD then toLe 4 Config.certChain.length ++ Config.certChain
      else [] := if_congr (by simp) rfl rfl
  have hrun : exec (.attestQuote id) s = .next (
      if s.otp.lifecycle = lcRetired then s.finishR id stDenied 3 0
      else if c.bits 448 32 < 288 + chain.length then s.finishR id stInvalid 21 (288 + chain.length)
      else s.finish id stOK 0 (288 + chain.length) [(c.bits 384 64 / 64 * 64, body ++ sigBytes (Config.sha384 body) ++ chain)]) := by
    refine congrArg Host.Outcome.next ((s.onTm_on _ htm).trans ?_)
    rw [State.attestQuote, State.startable_of hc hmay (by simp [hop])]
    refine (if_neg (by simp [hhalt, hturn])).trans ?_
    rw [hchain]
  refine ⟨fun hr => ?_, fun hr hlen => ?_, fun hr hlen => ?_, s.length_quoteBody _⟩
  · exact hrun.trans (congrArg _ (if_pos hr))
  · exact hrun.trans (congrArg _ ((if_neg hr).trans (if_pos hlen)))
  · exact hrun.trans (congrArg _ ((if_neg hr).trans (if_neg (Nat.not_lt.2 hlen))))

/-- Settles O43: a provisioning command goes the one way of its record through the checks, the burn and the completion; a quote's parts
make 192 bytes. -/
theorem provisioningAndQuotes : Obligations.ProvisioningAndQuotes := ⟨keyProvision, attestQuote⟩

end Sys2Proof.Machine
end

section
/-! PROOF. The management controller's reset and start (R434, R440, R473, R475, R476, R478). -/

namespace Sys2Proof.Machine

/-! ### Enabling pages keeps the flash -/

theorem State.Raised.flash {s t : State} (h : s.Raised t) : t.flash = s.flash := by rw [h.rest]; rfl

theorem State.flash_linkWithdraw {n : Nat} (hn : n < 320) (s : State) (c : Option Nat) : (s.linkWithdraw n c).flash = s.flash :=
  ((State.Raised.linkOut s hn).trans ((State.Raised.raiseO _ _ _ _ _ _).trans (.capCheck _ _))).flash

theorem State.flash_linkIn (s : State) (n : Nat) : (s.linkIn n).flash = s.flash :=
  (State.Raised.perfFld _ _ _ _).flash

theorem State.flash_linkEval {n : Nat} (hn : n < 320) (s : State) : (s.linkEval n).flash = s.flash := by
  rw [State.linkEval]
  split
  · rfl
  split
  · show (if s.fl TM_FLINK.LINK_STATUS.STATE n = lsInService then s.linkWithdraw n (some 7) else s).flash = s.flash
    split
    · exact State.flash_linkWithdraw hn s _
    · rfl
  · generalize s.fl TM_FLINK.LINK_STATUS.STATE n = st
    generalize s.reacting n = cause
    dsimp only
    split
    · exact State.flash_linkWithdraw hn s _
    · rfl
    · split
      · rfl
      · exact s.flash_linkIn n
    · rfl
    · rfl
    · rfl
    · rfl
    · rfl

theorem State.flash_foldl_linkEval {ns : List Nat} (h : ∀ n ∈ ns, n < 320) (s : State) :
    (ns.foldl (fun s n => s.linkEval n) s).flash = s.flash := by
  induction ns generalizing s with
  | nil => rfl
  | cons n ns ih => exact (ih (fun m hm => h m (List.mem_cons_of_mem _ hm)) _).trans (State.flash_linkEval (h n List.mem_cons_self) s)

theorem State.flash_showDdr (s : State) : s.showDdr.flash = s.flash := by
  rw [State.showDdr, State.wf_flash]
  split <;> rfl

theorem State.flash_trainStart (s : State) (c : Nat) : (s.trainStart c).flash = s.flash := State.flash_showDdr _

theorem State.flash_ddrEnable (s : State) : s.ddrEnable.flash = s.flash := by
  rw [State.ddrEnable]
  split
  · rfl
  split
  · exact (State.Raised.raise _ _ _ _ _ _).flash
  · exact State.flash_showDdr _

theorem State.flash_pageEnable (s : State) (P : Nat) (en : Bool) : (s.pageEnable P en).flash = s.flash := by
  rw [State.pageEnable]
  split
  · rfl
  split
  · exact (State.Raised.accessErr _ _ _ _ _).flash
  · extract_lets a b
    have hb : b.flash = s.flash := by
      show (if _ then a.trainStart (P - 4160) else a).flash = s.flash
      split
      · exact a.flash_trainStart _
      · rfl
    split
    · exact (State.flash_foldl_linkEval (fun n hn => pageLinks_lt hn) b).trans hb
    · exact hb

theorem State.flash_foldl_pageEnable (Ps : List Nat) (s : State) : (Ps.foldl (fun s P => s.pageEnable P true) s).flash = s.flash := by
  induction Ps generalizing s with
  | nil => rfl
  | cons P Ps ih => exact (ih _).trans (s.flash_pageEnable P true)

theorem State.coldReady_eq (s : State) :
    s.coldReady = (s.flash.faults.foldl (fun s n => s.replayFault n) (enableRest.foldl (fun s P => s.pageEnable P true)
      (if s.ddrObstacle = none then s.ddrEnable else s))).reachActive := by
  have hif : (if s.ddrObstacle.isNone then s.ddrEnable else s) = if s.ddrObstacle = none then s.ddrEnable else s :=
    if_congr Option.isNone_iff_eq_none rfl rfl
  have hflash : (if s.ddrObstacle = none then s.ddrEnable else s).flash = s.flash := by
    split
    · exact s.flash_ddrEnable
    · rfl
  rw [State.coldReady, hif, State.flash_foldl_pageEnable, hflash]

/-! ### The boot ROM -/

theorem State.slotCheck_congr {s t : State} (hflash : t.flash = s.flash) (hfree : t.freeCtr = s.freeCtr) (hotp : t.otp = s.otp) (i : Nat) :
    (t.slotCheck i).1 = (s.slotCheck i).1 := by
  rw [State.slotCheck, State.slotCheck, State.slotImage, State.slotImage, hflash, hfree, hotp]

theorem State.bootRom_first {s : State} {first : Nat} (h : (s.slotCheck first).1 = none) :
    s.bootRom first = ((((s.showOtp.wf TM_SEC.BOOT.STATE 0).wf TM_MC.STATUS.INIT_STAGE 0).slotCheck first).2.booted first false).helriStart := by
  generalize ha : (s.showOtp.wf TM_SEC.BOOT.STATE 0).wf TM_MC.STATUS.INIT_STAGE 0 = a
  have h' : (a.slotCheck first).1 = none :=
    (State.slotCheck_congr (by simp only [← ha, State.showOtp, State.wf_flash]) (by simp only [← ha, State.showOtp, State.wf_freeCtr])
      (by simp only [← ha, State.showOtp, State.wf_otp]) first).trans h
  rw [State.bootRom, ha]
  rcases hc : a.slotCheck first with ⟨_ | c0, b⟩
  · rfl
  · rw [hc] at h'
    cases h'

theorem State.bootRom_other {s a b c : State} {first c0 : Nat} (ha : (s.showOtp.wf TM_SEC.BOOT.STATE 0).wf TM_MC.STATUS.INIT_STAGE 0 = a)
    (h0 : a.slotCheck first = (some c0, b)) (h1 : b.slotCheck (1 - first) = (none, c)) :
    s.bootRom first = ((c.booted (1 - first) true).raise Ev.TM_SEC.BOOT_FALLBACK 0 c0 (1 - first)
      ((c.booted (1 - first) true).rf TM_SEC.BOOT.IMAGE_SVN)).helriStart := by
  rw [State.bootRom, ha]
  simp only [h0, h1]

theorem State.bootRom_failed {s a b c : State} {first c0 c1 : Nat} (ha : (s.showOtp.wf TM_SEC.BOOT.STATE 0).wf TM_MC.STATUS.INIT_STAGE 0 = a)
    (h0 : a.slotCheck first = (some c0, b)) (h1 : b.slotCheck (1 - first) = (some c1, c)) :
    s.bootRom first = (c.wf TM_SEC.BOOT.STATE 2).raiseO Ev.TM_SEC.BOOT_FAIL 0 none
      (some (if first = 0 then c0 else c1)) (some (if first = 0 then c1 else c0)) := by
  rw [State.bootRom, ha]
  simp only [h0, h1]
  split <;> rfl

/-- The measurement registers filled leave the registers of the boot status. -/
theorem State.booted_rf (s : State) (i : Nat) (fallback : Bool) {f : Fld} (hf : ∀ k < 12, f.key 0 0 ≠ TM_SEC.HELRI_MEAS.MEAS.key 0 k) :
    (s.booted i fallback).rf f = ((((s.wf TM_SEC.BOOT.BOOTED_SLOT i).wf TM_SEC.BOOT.FALLBACK (b2n fallback)).wf TM_SEC.BOOT.IMAGE_SVN
      (byteAt (s.slotImage i) 6)).wf TM_SEC.BOOT.STATE 1).rf f := by
  rw [State.booted, State.foldl_wfi_fill _ TM_SEC.HELRI_MEAS.MEAS 12 (fun _ k => le32 _ (4 * k)) (fun _ _ => rfl)]
  exact regGet_regFill_ne _ _ hf

theorem State.booted_frame (s : State) (i : Nat) (fallback : Bool) : s.booted i fallback = { s with regs := (s.booted i fallback).regs } := by
  rw [State.booted, State.foldl_wfi_fill _ TM_SEC.HELRI_MEAS.MEAS 12 (fun _ k => le32 _ (4 * k)) (fun _ _ => rfl)]
  rfl

/-- A slot that passes its checks is booted: what the registers of TM.SEC then show. -/
theorem State.bootRom_boots {s : State} {first : Nat} (h : (s.slotCheck first).1 = none) :
    ∃ u : State, s.bootRom first = u.helriStart ∧ u.rf TM_SEC.BOOT.STATE = 1 ∧
      u.rf TM_SEC.BOOT.BOOTED_SLOT = first % 2 ^ TM_SEC.BOOT.BOOTED_SLOT.w ∧ u.rf TM_SEC.BOOT.FALLBACK = 0 ∧ u.otp = s.otp := by
  refine ⟨_, State.bootRom_first h, ?_, ?_, ?_, ?_⟩
  · rw [State.booted_rf _ _ _ (by decide), State.rf_wf_same]
    rfl
  · rw [State.booted_rf _ _ _ (by decide)]
    simp (disch := decide) only [State.rf_wf_ne, State.rf_wf_same]
  · rw [State.booted_rf _ _ _ (by decide)]
    simp (disch := decide) only [State.rf_wf_ne, State.rf_wf_same]
    rfl
  · rw [State.booted_frame]
    simp only [State.slotCheck, State.showOtp, State.wf_otp]

/-! ### Helri is ready -/

/-- The state once Helri has started and its restart has been raised. -/
def State.restarted (s : State) : State :=
  let a := (s.wf TM_MC.STATUS.INIT_STAGE 2).updHdr 4102 (fun h => { h with inReset := false })
  (a.countLater 4102).raise Ev.TM_MC.MC_RESTARTED 0 (a.rf TM_MC.STATUS.RESET_CAUSE) (s.rf TM_SEC.BOOT.BOOTED_SLOT)
    ((s.cycle - s.mc.resetAt) / cyMs)

section
variable {s : State}

theorem State.helriReady_waits (h : s.inReset 4102 = false ∨ s.rf TM_SEC.BOOT.STATE ≠ 1 ∨ s.mc.halted = true ∨
    ((s.pw.wake = 4 ∧ s.pw.left = 3) ∧ ∃ c < 16, s.dmcState c = dmcTraining)) : s.helriReady = s :=
  if_pos (by simpa [or_assoc] using h)

theorem State.helriReady_goes (hin : s.inReset 4102 = true) (hst : s.rf TM_SEC.BOOT.STATE = 1) (hhalt : s.mc.halted = false)
    (htrain : (s.pw.wake = 4 ∧ s.pw.left = 3) → ∀ c < 16, s.dmcState c ≠ dmcTraining) :
    s.helriReady = if s.pw.wake = 4 ∧ s.pw.left = 3 then s.restarted.coldReady
      else if s.restarted.pwr = psActive ∧ s.restarted.pw.entry = 0 then s.restarted.startPending else s.restarted := by
  refine (if_neg (by simpa [hin, hst, hhalt] using htrain)).trans (if_congr ?_ rfl (if_congr ?_ rfl rfl))
  · simp
  · simp [State.restarted]

end

theorem controllerReset : Claims.ControllerReset := by
  intro s htm
  have hon (f : State → State) : (.next (s.onTm f) : Host.Outcome State Fault Refusal) = .next (f s) := congrArg _ (s.onTm_on f htm)
  have hboot : exec .bootRetry s = .next s.bootRetry := hon _
  have hready : exec .helriReady s = .next s.helriReady := hon _
  have hgap : exec .heartbeatGap s = .next s.heartbeatGap := hon _
  refine ⟨fun hin => (hon _).trans (congrArg _ (if_pos hin)), rfl, fun hin => ?_, fun hst hopen => ?_, fun hst => ?_,
    fun first h => State.bootRom_boots h, fun first c0 => ?_, fun hin hst hhalt hwake hleft => ?_, s.coldReady_eq,
    fun hin hst hhalt hnot => ?_, fun hany => ?_, fun d hd hst => ?_, fun hst => ?_, fun hd => ?_⟩
  · intro a b trial c
    have hrun (slot : Nat) : s.mcReset slot = c.freshNonce.bootRom slot := if_neg (by rw [hin]; decide)
    exact ⟨(hon _).trans (congrArg _ (hrun _)), hrun⟩
  · rw [hboot, State.bootRetry, if_pos (by simp [hst, hopen])]
  · rw [hboot, State.bootRetry, if_neg (by simp [hst])]
  · intro a b c h0
    have h0' : a.slotCheck first = (some c0, b) := Prod.ext h0 rfl
    exact ⟨fun h1 => State.bootRom_other rfl h0' (Prod.ext h1 rfl), fun c1 h1 => State.bootRom_failed rfl h0' (Prod.ext h1 rfl)⟩
  · refine ⟨fun ht => ?_, fun ht => ?_⟩
    · exact hready.trans (congrArg _ (State.helriReady_waits (.inr (.inr (.inr ⟨⟨hwake, hleft⟩, ht⟩)))))
    · exact hready.trans (congrArg _ ((State.helriReady_goes hin hst hhalt fun _ => ht).trans (if_pos ⟨hwake, hleft⟩)))
  · exact hready.trans (congrArg _ ((State.helriReady_goes hin hst hhalt fun h => absurd h hnot).trans (if_neg hnot)))
  · refine hready.trans (congrArg _ (State.helriReady_waits ?_))
    rcases hany with hin | hst | hhalt
    · exact .inl hin
    · exact .inr (.inl hst)
    · exact .inr (.inr (.inl hhalt))
  · intro u f a v
    rw [hgap, State.heartbeatGap, hd]
    exact congrArg _ (if_neg (not_not.2 hst))
  · rw [hgap, State.heartbeatGap]
    split
    · rfl
    · exact congrArg _ (if_pos hst)
  · rw [hgap, State.heartbeatGap, hd]

end Sys2Proof.Machine
end

section
/-! PROOF. Firmware updates (R479, R481, R482). -/

namespace Sys2Proof.Machine

section
variable {s : State}

/-- The other slot is known from the booted one, which the control register leaves. -/
theorem State.otherSlot_wf (s : State) {f : Fld} (v : Nat) (h : TM_SEC.BOOT.BOOTED_SLOT.key 0 0 ≠ f.key 0 0) : (s.wf f v).otherSlot = s.otherSlot := by
  rw [State.otherSlot, State.rf_wf_ne _ _ _ _ h]
  rfl

theorem State.fwFail_eq (s : State) (cause : Nat) :
    s.fwFail cause = (((s.wf TM_MC.FW_CTRL.BUSY 0).wf TM_MC.FW_CTRL.ERR 1).wf TM_MC.FW_CTRL.CAUSE cause).raise
      Ev.TM_MC.FW_UPDATE_FAIL 0 cause s.otherSlot 0 := rfl

theorem State.fwStage_idle (hbusy : s.rfb TM_MC.FW_CTRL.BUSY = false) :
    s.fwStage = (((s.fwOk.wf TM_MC.FW_CTRL.STAGED 0).wf TM_MC.FW_CTRL.BUSY 1).emit
      (.hostRead (s.rf TM_MC.FW_BUF_HI.ADDR * 2 ^ 32 + s.rf TM_MC.FW_BUF_LO.ADDR * 64) (s.rf TM_MC.FW_LEN.BYTES))) := by
  rw [State.fwStage, if_neg (by rw [hbusy]; decide)]
  simp (disch := decide) only [State.fwOk, State.rf_wf_ne]

/-- The state in which a switch enters the marker of its reset. -/
def State.switching (s : State) : State :=
  let t := ((s.fwOk.wf TM_MC.FW_CTRL.BUSY 1).hbHold 3000).wf TM_SEC.BOOT.NEXT_SLOT s.otherSlot
  { t with mc := { t.mc with update := true } }

theorem State.hbHold_frame (s : State) (v : Nat) : s.hbHold v = { s with regs := (s.hbHold v).regs, timers := (s.hbHold v).timers } := by
  rw [State.hbHold]
  split <;> rfl

theorem State.rf_hbHold (s : State) (v : Nat) {f : Fld} (h : f.key 0 0 ≠ TM_FAULT.HB_HOLD.MS.key 0 0) : (s.hbHold v).rf f = s.rf f := by
  rw [State.hbHold]
  split
  · rfl
  · exact State.rf_wf_ne _ _ _ _ h

theorem State.switching_facts (s : State) :
    s.switching.mc = { s.mc with update := true } ∧ s.switching.rf TM_MC.FW_CTRL.BUSY = 1 ∧
      s.switching.rf TM_SEC.BOOT.NEXT_SLOT = s.otherSlot % 2 ^ TM_SEC.BOOT.NEXT_SLOT.w ∧
      s.switching = { s with regs := s.switching.regs, timers := s.switching.timers, mc := s.switching.mc } := by
  have hframe := State.hbHold_frame (s.fwOk.wf TM_MC.FW_CTRL.BUSY 1) 3000
  have hmc : ((s.fwOk.wf TM_MC.FW_CTRL.BUSY 1).hbHold 3000).mc = s.mc := by
    rw [hframe]
    rfl
  refine ⟨?_, ?_, State.rf_wf_same _ _ _, ?_⟩
  · rw [State.switching]
    dsimp only
    rw [State.wf_mc, hmc]
  · show (((s.fwOk.wf TM_MC.FW_CTRL.BUSY 1).hbHold 3000).wf TM_SEC.BOOT.NEXT_SLOT s.otherSlot).rf _ = 1
    rw [State.rf_wf_ne _ _ _ _ (by decide), State.rf_hbHold _ _ (by decide), State.rf_wf_same]
    rfl
  · rw [State.switching, hframe]
    rfl

theorem State.fwSwitch_staged (hbusy : s.rfb TM_MC.FW_CTRL.BUSY = false) (hst : s.rfb TM_MC.FW_CTRL.STAGED = true) :
    s.fwSwitch = s.switching.softReset 4102 := by
  have hother : ((s.fwOk.wf TM_MC.FW_CTRL.BUSY 1).hbHold 3000).otherSlot = s.otherSlot := by
    rw [State.otherSlot, State.rf_hbHold _ _ (by decide)]
    simp (disch := decide) only [State.fwOk, State.rf_wf_ne, State.otherSlot]
  rw [State.fwSwitch, if_neg (by rw [hbusy]; decide), if_neg (by rw [hst]; decide), State.switching]
  simp only [hother]

end

theorem firmwareUpdate : Claims.FirmwareUpdate := by
  intro s htm hopen refused failed
  have hfw (f : State → State) : (.next (s.onFw f) : Host.Outcome State Fault Refusal) = .next (f s) :=
    congrArg _ ((s.onTm_on _ htm).trans (if_pos hopen))
  have htimeout : exec .fwTrialTimeout s = .next s.fwTrialTimeout := congrArg Host.Outcome.next (s.onTm_on _ htm)
  refine ⟨fun hbusy => ⟨?_, ?_⟩, fun hbusy => ?_, fun hbusy hst => ?_, fun hbusy hst => ?_, fun hbusy hup hhalt => ?_, fun htrial => ⟨?_, ?_⟩,
    fun htrial => ?_, fun htrial hin hhalt => ?_⟩
  · exact (hfw _).trans (congrArg _ (if_pos hbusy))
  · exact (hfw _).trans (congrArg _ (if_pos hbusy))
  · refine ⟨_, (hfw _).trans (congrArg _ (State.fwStage_idle hbusy)), ?_, ?_, ?_, rfl, rfl⟩
    · show ((s.fwOk.wf TM_MC.FW_CTRL.STAGED 0).wf TM_MC.FW_CTRL.BUSY 1).rf _ = _
      rw [State.rf_wf_same]
      rfl
    · show ((s.fwOk.wf TM_MC.FW_CTRL.STAGED 0).wf TM_MC.FW_CTRL.BUSY 1).rf _ = _
      rw [State.rf_wf_ne _ _ _ _ (by decide), State.rf_wf_same]
      rfl
    · show ((s.fwOk.wf TM_MC.FW_CTRL.STAGED 0).wf TM_MC.FW_CTRL.BUSY 1).rf _ = _
      rw [State.rf_wf_ne _ _ _ _ (by decide), State.rf_wf_ne _ _ _ _ (by decide), State.fwOk, State.rf_wf_ne _ _ _ _ (by decide),
        State.rf_wf_same]
      rfl
  · exact (hfw _).trans (congrArg _ ((if_neg (by rw [hbusy]; decide)).trans (if_pos (by rw [hst]; decide))))
  · obtain ⟨hmc, hb, hnext, hframe⟩ := s.switching_facts
    exact ⟨s.switching, (hfw _).trans (congrArg _ (State.fwSwitch_staged hbusy hst)), hmc, hb, hnext, hframe⟩
  · have hgo : ¬ (!s.rfb TM_MC.FW_CTRL.BUSY || s.mc.update || s.mc.halted) = true := by simp [hbusy, hup, hhalt]
    have hrun (r : ReadResult) (g : Bool) := (hfw fun s => s.fwStageDone r g).trans (congrArg _ (if_neg hgo))
    refine ⟨fun g => hrun .fail g, fun d => ?_⟩
    intro b
    refine ⟨fun hbad g => ?_, fun hgood => ?_, fun hgood => ?_⟩
    · exact (hrun (.data d) g).trans (congrArg _ (if_pos hbad))
    · exact (hrun (.data d) false).trans (congrArg _ ((if_neg (by rw [hgood]; decide)).trans (if_pos rfl)))
    · refine (hrun (.data d) true).trans (congrArg _ ((if_neg (by rw [hgood]; decide)).trans ((if_neg (by decide)).trans ?_)))
      show State.raise _ _ _ _ (State.otherSlot _) _ = _
      rw [State.otherSlot_wf _ _ (by decide), State.otherSlot_wf _ _ (by decide)]
      rfl
  · exact (hfw _).trans (congrArg _ (if_pos (by rw [htrial]; rfl)))
  · exact htimeout.trans (congrArg _ (if_pos (by rw [htrial]; rfl)))
  · intro slot
    exact (hfw _).trans (congrArg _ (if_neg (by rw [htrial]; decide)))
  · exact htimeout.trans (congrArg _ (if_neg (by simp [htrial, hin, hhalt])))

/-- Settles O42: a reset and a start go the way of the model's functions, enabling pages keeps the flash the faults stand in, and the
registers an update leaves are read back from its writes. -/
theorem controllerAndFirmware : Obligations.ControllerAndFirmware := ⟨controllerReset, firmwareUpdate⟩

end Sys2Proof.Machine
end

section
/-! PROOF. Entry into Doldrums (R456, R458, R459). -/

namespace Sys2Proof.Machine

/-! ### Every packet is dropped -/

theorem State.pktById_getD_id (s : State) (p : Pkt) : ((s.pktById p.id).getD p).id = p.id := by
  cases h : s.pktById p.id with
  | none => rfl
  | some q => simpa using List.find?_some h

section
variable {pid : Nat} {l : Loc}

theorem State.Still.dropNow (s : State) (p : Pkt) : State.Still pid l s (s.dropNow p) := .dropPkt s _

theorem State.Still.dropAll (s : State) (ps : List Pkt) : State.Still pid l s (s.dropAll ps) := .foldl (fun t p => .dropNow t p) ps s

theorem State.gone_dropNow (s : State) (p : Pkt) : (s.dropNow p).Gone p.id l := by
  have hgone := s.gone_dropPkt ((s.pktById p.id).getD p) l
  rw [s.pktById_getD_id p] at hgone
  exact hgone

theorem State.gone_dropAll {ps : List Pkt} {p : Pkt} (hp : p ∈ ps) (s : State) : (s.dropAll ps).Gone p.id l := by
  induction ps generalizing s with
  | nil => cases hp
  | cons q ps ih =>
    rcases List.mem_cons.1 hp with rfl | hp
    · exact (State.Still.dropAll _ ps).gone (s.gone_dropNow p)
    · exact ih hp _

end

theorem State.pkts_dropAll (s : State) : (s.dropAll s.pkts).pkts = [] := by
  refine List.eq_nil_iff_forall_not_mem.2 fun q hq => ?_
  obtain ⟨r, hr, hid, -⟩ := (State.Still.dropAll (pid := q.id) (l := q.loc) s s.pkts).pkts q hq rfl rfl
  exact State.gone_dropAll hr s q hq hid.symm rfl

/-! ### Power down -/

/-- What the ports and links that go dark leave of a state: its packets, the epoch machine and the memory units in use. -/
structure State.SameStock (s t : State) : Prop where
  pkts : t.pkts = s.pkts
  ep : t.ep = s.ep
  dm : t.dm = s.dm

theorem State.SameStock.trans {s t u : State} (h : s.SameStock t) (h' : t.SameStock u) : s.SameStock u :=
  ⟨h'.pkts.trans h.pkts, h'.ep.trans h.ep, h'.dm.trans h.dm⟩

theorem State.SameStock.foldl {α : Type} {g : State → α → State} (h : ∀ (s : State) a, s.SameStock (g s a)) (as : List α) (s : State) :
    s.SameStock (as.foldl g s) := by
  induction as generalizing s with
  | nil => exact ⟨rfl, rfl, rfl⟩
  | cons a as ih => exact (h s a).trans (ih _)

theorem State.SameStock.wfp (s : State) (f : Fld) (p i v : Nat) : s.SameStock (s.wfp f p i v) := ⟨rfl, rfl, rfl⟩

theorem State.sameStock_portDark (s : State) (p : Nat) : s.SameStock (s.portDark p) := by
  unfold State.portDark
  extract_lets a v b
  have ha : s.SameStock a := (State.SameStock.wfp s _ _ _ _).trans (.wfp _ _ _ _ _)
  have hb : s.SameStock b := ha.trans ⟨rfl, rfl, rfl⟩
  split
  · exact ⟨rfl, rfl, rfl⟩
  split
  · exact hb
  · exact hb.trans ((State.SameStock.wfp b _ _ _ _).trans (.wfp _ _ _ _ _))

theorem State.sameStock_hunt (s : State) (n start : Nat) : s.SameStock (s.hunt n start) := by
  unfold State.hunt
  extract_lets was a
  have ha : s.SameStock a := ⟨rfl, rfl, rfl⟩
  split
  · exact ha.trans (.wfp _ _ _ _ _)
  · exact ha

theorem State.sameStock_linkDark (s : State) (n : Nat) : s.SameStock (s.linkDark n) := by
  unfold State.linkDark
  split
  · exact ⟨rfl, rfl, rfl⟩
  · exact (State.SameStock.wfp s _ _ _ _).trans ((State.SameStock.wfp _ _ _ _ _).trans (State.sameStock_hunt _ n 0))

theorem State.loseData_stock (s : State) : s.loseData.pkts = [] ∧ s.loseData.ep = s.ep ∧ s.loseData.dm.used = [] :=
  ⟨s.pkts_dropAll, (State.Still.dropAll (pid := 0) (l := .residue) s s.pkts).ep, rfl⟩

/-- Every link of the device is dark. -/
def State.linksDark (s : State) : State :=
  let s : State := (List.range 256).foldl (fun s p => s.portDark p) s
  (List.range 320).foldl (fun s n => s.linkDark n) s

theorem State.sameStock_linksDark (s : State) : s.SameStock s.linksDark :=
  (State.SameStock.foldl State.sameStock_portDark _ _).trans (.foldl State.sameStock_linkDark _ _)

/-- The clocks stop. -/
def State.clocksOff (s : State) : State :=
  let s := (s.setPw (fun w => { w with cycleAt := s.cycle })).wf FE_PTP.TIME_CTRL.TIME_VALID 0
  let s : State := { s with timeRun := false, ptp := { s.ptp with adjs := [], ppsOut := false } }
  let s := (s.wf FE_PTP.TIME_CTRL.BUSY 0).wf FE_PWR.STATUS.SWITCH_OK 0
  let s := (s.wf TM_FAULT.ALIVE_STATUS.SLOW 1).wf FE_CLK.STATUS.CYCLE_SYNC 0
  (s.wf FE_CLK.STATUS.ROOT_LOCK 0).wf TM_CLK.STATUS.ROOT_LOCK 0

theorem State.SameStock.setPw (s : State) (f : Power → Power) : s.SameStock (s.setPw f) := ⟨rfl, rfl, rfl⟩

theorem State.SameStock.stopTime (s : State) (p : Ptp) : s.SameStock { s with timeRun := false, ptp := p } := ⟨rfl, rfl, rfl⟩

theorem State.SameStock.wf (s : State) (f : Fld) (v : Nat) : s.SameStock (s.wf f v) := ⟨rfl, rfl, rfl⟩

theorem State.sameStock_clocksOff (s : State) : s.SameStock s.clocksOff := by
  unfold State.clocksOff
  extract_lets a ptp b c d
  have ha : s.SameStock a := (State.SameStock.setPw s _).trans (.wf _ _ _)
  have hb : a.SameStock b := .stopTime a _
  have hc : b.SameStock c := (State.SameStock.wf b _ _).trans (.wf _ _ _)
  have hd : c.SameStock d := (State.SameStock.wf c _ _).trans (.wf _ _ _)
  exact ha.trans (hb.trans (hc.trans (hd.trans ((State.SameStock.wf d _ _).trans (.wf _ _ _)))))

theorem State.clocksOff_lock (s : State) :
    s.clocksOff.rfb TM_CLK.STATUS.ROOT_LOCK = false ∧ s.clocksOff.rfb FE_CLK.STATUS.ROOT_LOCK = false ∧ s.clocksOff.timeRun = false := by
  unfold State.clocksOff
  extract_lets a ptp b c d
  refine ⟨?_, ?_, rfl⟩
  · rw [State.rfb, State.rf_wf_same]
    rfl
  · rw [State.rfb, State.rf_wf_ne _ _ _ _ (by decide), State.rf_wf_same]
    rfl

/-- The state of a power down before its power state is set: everything is dark and the clocks are off. -/
def State.dark (s : State) : State := s.loseData.pcieLinkDown.linksDark.clocksOff

theorem State.powerDown_eq (s : State) : s.powerDown = (s.dark.setPwr psW).watch := by
  simp only [State.powerDown, State.dark, State.linksDark, State.clocksOff]

theorem State.sameStock_pcieLinkDown (s : State) : s.SameStock s.pcieLinkDown := ⟨rfl, rfl, rfl⟩

theorem State.sameStock_dark (s : State) : s.loseData.SameStock s.dark :=
  (State.sameStock_pcieLinkDown _).trans ((State.sameStock_linksDark _).trans (State.sameStock_clocksOff _))

theorem State.dark_lock (s : State) :
    s.dark.rfb TM_CLK.STATUS.ROOT_LOCK = false ∧ s.dark.rfb FE_CLK.STATUS.ROOT_LOCK = false ∧ s.dark.timeRun = false :=
  State.clocksOff_lock _

/-- A power state set while the TM's clock is off, and the watch that follows: the event waits in the always-on domain. -/
theorem State.setPwr_off {s : State} (hoff : s.rfb TM_CLK.STATUS.ROOT_LOCK = false) (v : Nat) :
    s.SameStock (s.setPwr v) ∧ (s.setPwr v).timeRun = s.timeRun ∧
      (∀ f : Fld, f.key 0 0 ≠ TM_PWR.STATE.STATE.key 0 0 → (s.setPwr v).rf f = s.rf f) ∧ (v < 8 → (s.setPwr v).pwr = v) := by
  have hoff' : (s.wf TM_PWR.STATE.STATE v).tmOn = false := by
    rw [State.tmOn, State.rfb, State.rf_wf_ne _ _ _ _ (by decide)]
    exact Bool.and_eq_false_iff.2 (.inl hoff)
  unfold State.setPwr State.raiseAon
  dsimp only
  rw [hoff']
  split
  next h => exact ⟨⟨rfl, rfl, rfl⟩, rfl, fun _ _ => rfl, fun _ => h⟩
  next =>
    exact ⟨⟨rfl, rfl, rfl⟩, rfl, fun f hf => State.rf_wf_ne _ _ _ _ hf, fun hv => (State.rf_wf_same _ _ _).trans (Nat.mod_eq_of_lt hv)⟩

theorem State.sameStock_watch (s : State) : s.SameStock s.watch := ⟨rfl, rfl, rfl⟩

theorem State.watch_rf (s : State) (f : Fld) : s.watch.rf f = s.rf f := rfl

theorem State.watch_timeRun (s : State) : s.watch.timeRun = s.timeRun := rfl

theorem State.powerDown_facts (s : State) :
    s.powerDown.pwr = psW ∧ s.powerDown.tmOn = false ∧ s.powerDown.feOn = false ∧ s.powerDown.timeRun = false ∧ s.powerDown.pkts = [] ∧
      s.powerDown.dm.used = [] ∧ s.powerDown.otp = s.otp ∧ s.powerDown.ep = s.ep := by
  obtain ⟨hpkts, hep, hused⟩ := s.loseData_stock
  obtain ⟨htm, hfe, htime⟩ := s.dark_lock
  obtain ⟨hstock, hrun, hrf, hpwr⟩ := State.setPwr_off htm psW
  have hall := (s.sameStock_dark.trans hstock).trans (State.sameStock_watch _)
  have hlock {f : Fld} (hf : f.key 0 0 ≠ TM_PWR.STATE.STATE.key 0 0) (hs : s.dark.rfb f = false) : s.powerDown.rfb f = false := by
    rw [State.rfb, State.powerDown_eq, State.watch_rf, hrf f hf]
    exact hs
  rw [← s.powerDown_eq] at hall
  refine ⟨?_, ?_, ?_, ?_, hall.pkts.trans hpkts, ?_, s.powerDown_keep.1, hall.ep.trans hep⟩
  · rw [State.pwr, State.powerDown_eq, State.watch_rf]
    exact hpwr (by decide)
  · exact Bool.and_eq_false_iff.2 (.inl (hlock (by decide) htm))
  · exact Bool.and_eq_false_iff.2 (.inl (hlock (by decide) hfe))
  · rw [State.powerDown_eq, State.watch_timeRun, hrun]
    exact htime
  · rw [hall.dm]
    exact hused

/-! ### The steps of an entry -/

theorem State.entryNext_drain {s : State} (h : s.pw.entry = 3) :
    s.entryNext = { s.disarm .doldDrain 0 with pw := { s.pw with entry := 4 } } := by
  rw [State.entryNext, h]
  rfl

theorem State.entryNext_powerDown {s u : State} (h : s.pw.entry = 5) (hu : s.powerDown = u) :
    s.entryNext = if u.pw.abort then u.startWake 2 1 1
      else if u.pw.target = 2 then { u with pw := { u.pw with entry := 6 } }
      else ({ u with pw := { u.pw with entry := 0 } } : State).startPending := by
  rw [State.entryNext, h]
  dsimp only
  rw [hu]
  rfl

theorem doldrumsEntry : Claims.DoldrumsEntry := by
  intro s
  refine ⟨fun hrst => ?_, fun htm d hd => ?_, s.powerDown_facts⟩
  · have hrun : exec .entrySafePoint s = .next s.safePoint := congrArg Host.Outcome.next (if_pos hrst)
    have hgo (h0 : s.pw.entry ≠ 0) (hab : ¬(s.pw.abort = true ∧ s.pw.entry ≤ 3)) :
        s.safePoint = if s.entryWaitOver then s.entryNext else s := (if_neg h0).trans (if_neg (by simpa using hab))
    refine ⟨fun h0 => hrun.trans (congrArg _ (if_pos h0)), fun h0 hab hle => ?_, fun h0 hab hwait => ?_, fun h0 hab hwait =>
      ⟨?_, fun h1 => ?_, fun h2 => ?_, fun h3 => ?_, fun h4 => ⟨fun ha => ?_, fun ha => ?_⟩, fun h5 => ?_,
        fun h6 => ⟨rfl, fun ha => ?_, fun ha => ?_⟩⟩⟩
    · exact hrun.trans (congrArg _ ((if_neg h0).trans (if_pos (by simp [hab, hle]))))
    · exact hrun.trans (congrArg _ ((hgo h0 hab).trans (if_neg (by rw [hwait]; decide))))
    · exact hrun.trans (congrArg _ ((hgo h0 hab).trans (if_pos hwait)))
    · rw [State.entryNext, h1]
      rfl
    · rw [State.entryNext, h2]
      rfl
    · exact State.entryNext_drain h3
    · rw [State.entryNext, h4]
      exact if_pos ha
    · rw [State.entryNext, h4]
      exact if_neg (by rw [ha]; decide)
    · have hnext := State.entryNext_powerDown h5 rfl
      exact ⟨fun ha => hnext.trans (if_pos ha), fun ha ht => hnext.trans ((if_neg (by rw [ha]; decide)).trans (if_pos ht)),
        fun ha ht => hnext.trans ((if_neg (by rw [ha]; decide)).trans (if_neg ht))⟩
    · rw [State.entryNext, h6]
      exact if_pos ha
    · rw [State.entryNext, h6]
      exact if_neg (by rw [ha]; decide)
  · intro u n v
    refine congrArg Host.Outcome.next ((s.onTm_on _ htm).trans ?_)
    rw [State.drainExpire, State.expire_expired hd]
    rfl

end Sys2Proof.Machine
end

section
/-! PROOF. Watching in Doldrums and waking (R460, R461, R464 to R466). -/

namespace Sys2Proof.Machine

/-! ### A wake step's time is over -/

theorem State.raiseAon_pw (s : State) (e : Evt) (cause d0 d1 : Nat) :
    (s.raiseAon e cause d0 d1).pw = { s.pw with held := (s.raiseAon e cause d0 d1).pw.held } := by
  unfold State.raiseAon
  split
  · rw [(State.Raised.raise s e 0 cause d0 d1).rest]
    rfl
  · rfl

theorem State.raiseAon_fails (s : State) (e : Evt) (cause d0 d1 : Nat) : (s.raiseAon e cause d0 d1).pw.fails = s.pw.fails := by
  rw [State.raiseAon_pw]

theorem State.setPwr_fails (s : State) (v : Nat) : (s.setPwr v).pw.fails = s.pw.fails := by
  unfold State.setPwr
  dsimp only
  split
  · rfl
  · exact State.raiseAon_fails _ _ _ _ _

theorem State.failStep_pw (s : State) : s.failStep.2.pw = s.pw := by
  unfold State.failStep
  split <;> rfl

/-- The state in which a wake step that timed out has been given up: the clocks that ran stop, and the state before the wake stands. -/
def State.wakeGivenUp (s : State) (left fails k : Nat) : State :=
  let b : State := if s.tmOn then
    (({ s with pw := { s.pw with cycleAt := s.cycle } } : State).wf FE_CLK.STATUS.ROOT_LOCK 0).wf TM_CLK.STATUS.ROOT_LOCK 0 else s
  ({ b with pw := { b.pw with wake := 0, fails := fails, pwrEn := decide (left = 2) && decide (k ≠ 1) } } : State).setPwr left

/-- The state in which the step that failed stands, and with it the switch that did not close. -/
def State.stepFailed (s : State) (switch : Option Nat) : State :=
  (match switch with
  | some n => if s.pw.left = 2 && s.pw.wake = 2 then s.failStep.2.raiseAon Ev.FE_PWR.SWITCH_FAULT 0 n 0 else s.failStep.2
  | none => s.failStep.2).wf TM_PWR.STATE.FAIL_STEP s.failStep.1

theorem State.stepFailed_fails (s : State) (switch : Option Nat) : (s.stepFailed switch).pw.fails = s.pw.fails := by
  unfold State.stepFailed
  rw [State.wf_pw]
  split
  · split
    · rw [State.raiseAon_fails, s.failStep_pw]
    · rw [s.failStep_pw]
  · rw [s.failStep_pw]

theorem State.stepFailed_eq (s : State) (switch : Option Nat) :
    s.stepFailed switch = (match switch with
      | some n => if s.pw.left = 2 ∧ s.pw.wake = 2 then s.failStep.2.raiseAon Ev.FE_PWR.SWITCH_FAULT 0 n 0 else s.failStep.2
      | none => s.failStep.2).wf TM_PWR.STATE.FAIL_STEP s.failStep.1 := by
  cases switch with
  | none => rfl
  | some n => exact congrArg (State.wf · _ _) (if_congr (by simp) rfl rfl)

theorem State.wakeGivenUp_fails (s : State) (left fails k : Nat) : (s.wakeGivenUp left fails k).pw.fails = fails :=
  State.setPwr_fails _ _

/-- The state that gives up a step, as the model writes it. -/
def State.stepGivenUp (s : State) (left k : Nat) : State :=
  let s := if s.tmOn then
      ((s.setPw (fun w => { w with cycleAt := s.cycle })).wf FE_CLK.STATUS.ROOT_LOCK 0).wf TM_CLK.STATUS.ROOT_LOCK 0 else s
  (s.setPw (fun w => { w with wake := 0, fails := w.fails + 1, pwrEn := decide (left = 2) && decide (k ≠ 1) })).setPwr left

theorem State.stepGivenUp_eq {s : State} {n : Nat} (hn : s.pw.fails = n) (left k : Nat) :
    s.stepGivenUp left k = s.wakeGivenUp left (n + 1) k := by
  subst hn
  unfold State.stepGivenUp State.wakeGivenUp
  split <;> rfl

/-- What follows a failed step `k`: a retry, or after three failures the watch with WAKE_FAIL. -/
def State.wakeFailed (s : State) (left k : Nat) : State :=
  let s := s.stepGivenUp left k
  if s.pw.fails < 3 then s.arm .wakeRetry 0 ((if k = 1 then 10 else 1) * cyMs)
  else
    let s := s.setPw (fun w => { w with pwrEn := decide (left = 2) })
    ((s.wf TM_PWR.STATE.WAKE_FAIL 1).raiseAon Ev.TM_PWR.WAKE_FAIL 0 k s.pw.fails).watch

theorem State.wakeFailed_eq {s : State} {n : Nat} (hn : s.pw.fails = n) (left k : Nat) :
    let e := s.wakeGivenUp left (n + 1) k
    s.wakeFailed left k = if n < 2 then e.arm .wakeRetry 0 ((if k = 1 then 10 else 1) * cyMs)
      else ((({ e with pw := { e.pw with pwrEn := decide (left = 2) } } : State).wf TM_PWR.STATE.WAKE_FAIL 1).raiseAon
        Ev.TM_PWR.WAKE_FAIL 0 k (n + 1)).watch := by
  have hfails : (s.wakeGivenUp left (n + 1) k).pw.fails = n + 1 := State.wakeGivenUp_fails _ _ _ _
  unfold State.wakeFailed
  rw [State.stepGivenUp_eq hn]
  generalize s.wakeGivenUp left (n + 1) k = e at hfails
  have hlast : (e.setPw fun w => { w with pwrEn := decide (left = 2) }).pw.fails = n + 1 := hfails
  have hcount : n + 1 < 3 ↔ n < 2 := by omega
  dsimp only
  rw [hlast, hfails]
  simp only [hcount, State.setPw, hfails]

theorem State.wakeTimeout_of_expired {s x : State} (switch : Option Nat) (hx : s.expire .wakeStep 0 = some x) :
    s.wakeTimeout switch = (x.stepFailed switch).wakeFailed x.pw.left x.failStep.1 := by
  have hpw := x.failStep_pw
  unfold State.wakeTimeout State.stepFailed
  rw [hx]
  dsimp only
  rw [hpw]
  cases switch with
  | none => rfl
  | some n => rfl

/-! ### Samples -/

theorem State.doldSample_due {s x : State} {ls temp : Nat} (hwake : s.waking = false) (hx : s.expire .doldSample 0 = some x) :
    let u := (((x.watch.wfi TM_PWR.LS_LAST.LAST 0 (bits ls 0 32)).wfi TM_PWR.LS_LAST.LAST 1 (bits ls 32 32)).wf
      TM_PWR.TEMP_THR.TEMP_LAST temp).inc1 TM_PWR.SAMPLES.COUNT
    let n := if u.lsMiss ls = true ∨ u.tempMiss temp = true then x.pw.run + 1 else 0
    let v := u.setPw fun w => { w with run := n }
    s.doldSample ls temp =
      if n < orWhenZero (u.rf TM_PWR.DOLD_CFG.DEBOUNCE) 1 ∨ u.rfb TM_PWR.WAKE_N_CTRL.ASSERTED = true then v
      else if u.rfb TM_PWR.DOLD_CFG.SELF_WAKE && !u.rfb TM_PWR.STATE.WAKE_FAIL then v.powerReq 0 (if u.lsMiss ls then 2 else 3)
      else (v.wf TM_PWR.WAKE_N_CTRL.ASSERTED 1).raiseAon Ev.TM_PWR.WAKE_N_ASSERTED 0 (bits ls 0 32) (temp % 256) := by
  intro u n v
  rw [State.doldSample, if_neg (by rw [hwake]; decide), hx]
  simp only [Bool.or_eq_true, decide_eq_true_eq]
  rfl

/-! ### The steps of a wake -/

section
variable {s : State}

theorem State.wakeStepDone_train (hleft : s.pw.left = 2) (h4 : s.pw.wake = 4) :
    s.wakeStepDone = if (List.range 16).any (fun c => decide (s.dmcState c = dmcTraining)) then s
      else (if s.armed .heartbeat 0 && decide (s.reachActive.pwr = psActive) then s.reachActive.arm .heartbeat 0 (100 * cyMs)
        else s.reachActive).evalLinks := by
  rw [State.wakeStepDone, if_pos hleft, h4]
  rfl

theorem State.wakeStepDone_two (hleft : s.pw.left = 2) :
    (s.pw.wake = 1 → s.wakeStepDone = s.wakeStep 2 2) ∧
    (s.pw.wake = 2 → s.wakeStepDone = ((s.wf FE_PWR.STATUS.SWITCH_OK 1).wf FE_PWR.STATUS.RETAINED 1).wakeStep 2 3) ∧
    (s.pw.wake = 3 → s.wakeStepDone = (s.clocksBack.retrain).wakeStep 2 4) := by
  rw [State.wakeStepDone, if_pos hleft]
  refine ⟨fun h => ?_, fun h => ?_, fun h => ?_⟩
  all_goals
    rw [h]
    rfl

theorem State.wakeStepDone_three (hleft : s.pw.left = 3) :
    (s.pw.wake = 1 → s.wakeStepDone = s.wakeStep 3 2) ∧ (s.pw.wake = 2 → s.wakeStepDone = s.wakeStep 3 3) ∧
    (s.pw.wake = 3 → s.wakeStepDone = ((s.wf FE_CLK.STATUS.ROOT_LOCK 1).wf TM_CLK.STATUS.ROOT_LOCK 1).coldStart) := by
  rw [State.wakeStepDone, if_neg (by rw [hleft]; decide)]
  refine ⟨fun h => ?_, fun h => ?_, fun h => ?_⟩
  all_goals
    rw [h]
    rfl

theorem State.failStep_known :
    (s.pw.left = 2 → s.pw.wake = 1 → s.failStep = (1, s)) ∧ (s.pw.left = 2 → s.pw.wake = 2 → s.failStep = (2, s)) ∧
    (s.pw.left = 3 → s.pw.wake = 1 → s.failStep = (2, s)) ∧ (s.pw.left = 3 → s.pw.wake = 2 → s.failStep = (1, s)) ∧
    (s.pw.wake = 3 → s.failStep = (3, s)) := by
  rw [State.failStep]
  refine ⟨fun hl hw => ?_, fun hl hw => ?_, fun hl hw => ?_, fun hl hw => ?_, fun hw => ?_⟩
  · rw [hl, hw]
    rfl
  · rw [hl, hw]
    rfl
  · rw [hl, hw]
    rfl
  · rw [hl, hw]
    rfl
  · rw [hw]
    rcases s.pw.left with _ | _ | _ | _ | l
    all_goals rfl

end

/-! ### The always-on domain browns out -/

/-- What a brown-out leaves before its event. -/
def State.brownedOut (s : State) : State :=
  let s : State := { s with
    hdrs := s.hdrs.filter (fun e => !(decide (e.1 = 4098) || decide (e.1 = 4108)))
    regs := s.regs.filter (fun e => !aonKey e.1)
    pw := { Power.por with rst := 0, left := 3, cause := 3, sysLow := s.pw.sysLow } }
  let s := (s.disarm .wakeRetry 0).wf TM_PWR.STATE.STATE psC
  let s := ((s.wf TM_FAULT.ALIVE_STATUS.STATE 0).wf TM_FAULT.ALIVE_STATUS.CAUSE 0).wf TM_PWR.STATE.BROWNOUT 1
  s.wf TM_PWR.WAKE_N_CTRL.ASSERTED 1

theorem State.brownout_eq {s : State} (hc : s.pwr = psC) : s.brownout = (s.brownedOut.raiseAon Ev.TM_PWR.BROWNOUT 0 0 0).watch :=
  if_neg (not_not.2 hc)

theorem State.brownedOut_flash (s : State) : s.brownedOut.flash = s.flash := by
  simp only [State.brownedOut, State.wf_flash, State.disarm_flash]

/-- The lock of the TM's clock stands outside the always-on domain. -/
theorem State.brownedOut_lock (s : State) : s.brownedOut.rfb TM_CLK.STATUS.ROOT_LOCK = s.rfb TM_CLK.STATUS.ROOT_LOCK := by
  have hkey : (!aonKey (TM_CLK.STATUS.ROOT_LOCK.key 0 0)) = true := by decide +kernel
  rw [State.rfb, State.brownedOut]
  simp (disch := decide) only [State.rf_wf_ne]
  show decide (SMap.get _ (s.regs.filter fun e => !aonKey e.1) _ = 1) = _
  rw [SMap.get_filter _ (fun k => !aonKey k), if_pos hkey]
  rfl

theorem State.watch_flash (s : State) : s.watch.flash = s.flash := rfl

theorem State.brownout_facts {s : State} (hrst : s.pw.rst = 0) (hc : s.pwr = psC) (htm : s.tmOn = false) :
    s.brownout.pwr = psC ∧ s.brownout.rf TM_PWR.STATE.BROWNOUT = 1 ∧ s.brownout.rf TM_PWR.WAKE_N_CTRL.ASSERTED = 1 ∧
      s.brownout.rf TM_FAULT.ALIVE_STATUS.STATE = 0 ∧ s.brownout.otp = s.otp ∧ s.brownout.flash = s.flash := by
  have hoff : s.brownedOut.tmOn = false := by
    refine Bool.and_eq_false_iff.2 (.inl ((State.brownedOut_lock s).trans ?_))
    simpa [State.tmOn, hrst] using htm
  have hread (f : Fld) : s.brownout.rf f = s.brownedOut.rf f := by
    rw [State.brownout_eq hc, State.watch_rf, State.raiseAon, if_neg (by rw [hoff]; decide)]
    rfl
  refine ⟨?_, ?_, ?_, ?_, s.brownout_keep.1, ?_⟩
  · rw [State.pwr, hread, State.brownedOut]
    simp (disch := decide) only [State.rf_wf_ne, State.rf_wf_same]
    rfl
  · rw [hread, State.brownedOut]
    simp (disch := decide) only [State.rf_wf_ne, State.rf_wf_same]
    rfl
  · rw [hread, State.brownedOut]
    simp (disch := decide) only [State.rf_wf_ne, State.rf_wf_same]
    rfl
  · rw [hread, State.brownedOut]
    simp (disch := decide) only [State.rf_wf_ne, State.rf_wf_same]
    rfl
  · rw [State.brownout_eq hc, State.watch_flash, State.raiseAon, if_neg (by rw [hoff]; decide)]
    exact s.brownedOut_flash

theorem doldrumsWake : Claims.DoldrumsWake := by
  intro s hrst
  have hon (f : State → State) : (.next (s.onAon f) : Host.Outcome State Fault Refusal) = .next (f s) := congrArg _ (if_pos hrst)
  have hdone : exec .wakeStepDone s = .next s.wakeStepDone := hon _
  refine ⟨fun d ls temp hwake hd => ?_, fun hleft => ?_, fun hleft => ?_, s.failStep_known, fun d switch hd => ?_, fun d hd => ?_,
    fun h => (hon _).trans (congrArg _ (if_pos h)), fun h => (hon _).trans (congrArg _ (if_pos h)), fun hw => ?_, fun hc htm =>
    ⟨_, hon _, State.brownout_facts hrst hc htm⟩⟩
  · intro u n v
    have hrun : exec (.doldrumsSample ls temp) s = .next (s.doldSample ls temp) := hon _
    have hdue := hrun.trans (congrArg _ (State.doldSample_due hwake (State.expire_expired hd)))
    refine ⟨fun h => hdue.trans (congrArg _ (if_pos h)), fun hle ha => hdue.trans (congrArg _ (if_neg ?_))⟩
    rintro (hlt | hset)
    · exact absurd hlt (Nat.not_lt.2 hle)
    · exact Bool.false_ne_true (ha.symm.trans hset)
  · obtain ⟨h1, h2, h3⟩ := State.wakeStepDone_two hleft
    refine ⟨fun h => hdone.trans (congrArg _ (h1 h)), fun h => hdone.trans (congrArg _ (h2 h)), fun h => hdone.trans (congrArg _ (h3 h)),
      fun h => ⟨fun ht => ?_, fun ht => ?_⟩⟩
    · refine hdone.trans (congrArg _ ((State.wakeStepDone_train hleft h).trans (if_pos ?_)))
      simpa using ht
    · have hgo := hdone.trans (congrArg _ ((State.wakeStepDone_train hleft h).trans (if_neg (by simpa using ht))))
      intro u
      refine ⟨fun hbeat hact => hgo.trans (congrArg _ (congrArg State.evalLinks (if_pos (by rw [hbeat, decide_eq_true hact]; decide)))),
        fun hno => hgo.trans (congrArg _ (congrArg State.evalLinks (if_neg ?_)))⟩
      rcases hno with hbeat | hact
      · simp [hbeat]
      · rw [decide_eq_false hact]
        simp
  · obtain ⟨h1, h2, h3⟩ := State.wakeStepDone_three hleft
    exact ⟨fun h => hdone.trans (congrArg _ (h1 h)), fun h => hdone.trans (congrArg _ (h2 h)), fun h => hdone.trans (congrArg _ (h3 h))⟩
  · intro f a b e
    have hrun : exec (.wakeStepTimeout switch) s = .next ((s.expired .wakeStep 0 d |>.stepFailed switch).wakeFailed s.pw.left f.1) :=
      (hon _).trans (congrArg _ (State.wakeTimeout_of_expired switch (State.expire_expired hd)))
    have ha : (s.expired .wakeStep 0 d).stepFailed switch = a := by
      rw [State.stepFailed_eq]
      cases switch <;> rfl
    have hfails : a.pw.fails = s.pw.fails := by
      rw [← ha]
      exact State.stepFailed_fails _ _
    rw [ha] at hrun
    have hgo := hrun.trans (congrArg _ (State.wakeFailed_eq hfails _ _))
    exact ⟨fun hlt => hgo.trans (congrArg _ (if_pos hlt)), fun hle => hgo.trans (congrArg _ (if_neg (Nat.not_lt.2 hle)))⟩
  · refine (hon _).trans (congrArg _ ?_)
    rw [State.wakeAgain, State.expire_expired hd]
    rfl
  · intro u
    exact (hon _).trans (congrArg _ (if_neg (not_not.2 hw)))

/-- Settles O40: an entry and a wake go step by step as their functions do; a power down drops every packet and stops the clocks, and a
brown-out leaves the clocks off as it found them. -/
theorem doldrums : Obligations.Doldrums := ⟨doldrumsEntry, doldrumsWake⟩

end Sys2Proof.Machine
end

section
/-! PROOF. Ports enabled, disabled, up, down and degraded (R215, R216, R219, R221, R233, R238, R257). -/

namespace Sys2Proof.Machine

/-! ### Enabling and disabling -/

section
variable {s : State} {p v : Nat} (hp : p < 256) (hopen : s.blockOpen (pgPage p) = true)
include hp hopen

theorem State.portEnable_same (hen : s.portEnabled p = true)
    (h : bits v 1 2 = s.pg FE_PG.PORT_CFG.WIDTH p ∧ bits v 3 3 = s.pg FE_PG.PORT_CFG.SPEED p) : s.portEnable p v = s.setPortCfg p v := by
  rw [State.portEnable, if_neg (by simp [hp, hopen]), if_pos hen]
  exact if_neg (by simp [h])

theorem State.portEnable_other (hen : s.portEnabled p = true)
    (h : ¬(bits v 1 2 = s.pg FE_PG.PORT_CFG.WIDTH p ∧ bits v 3 3 = s.pg FE_PG.PORT_CFG.SPEED p)) :
    s.portEnable p v = (s.setPortCfg p v).cfgRefused p v := by
  rw [State.portEnable, if_neg (by simp [hp, hopen]), if_pos hen]
  exact if_pos (by simpa using not_and_or.1 h)

theorem State.portEnable_rateless (hen : s.portEnabled p = false) (hr : laneRate (bits v 3 3) (bits v 1 2) = none) :
    s.portEnable p v = s.cfgRefused p v := by
  rw [State.portEnable, if_neg (by simp [hp, hopen]), if_neg (by rw [hen]; decide), hr]

theorem State.portEnable_taken (hen : s.portEnabled p = false)
    (h : p % lanesOf (bits v 1 2) ≠ 0 ∨ s.lanesTaken p (lanesOf (bits v 1 2)) = true) : s.portEnable p v = s.cfgRefused p v := by
  rw [State.portEnable, if_neg (by simp [hp, hopen]), if_neg (by rw [hen]; decide)]
  cases laneRate (bits v 3 3) (bits v 1 2) with
  | none => rfl
  | some r => exact if_pos (by simpa using h)

theorem State.portEnable_new (hen : s.portEnabled p = false) {r : Nat} (hr : laneRate (bits v 3 3) (bits v 1 2) = some r)
    (hn : p % lanesOf (bits v 1 2) = 0) (hfree : s.lanesTaken p (lanesOf (bits v 1 2)) = false) :
    s.portEnable p v =
      let a := (((s.setPg FE_PG.PORT_CFG.WIDTH p (bits v 1 2)).setPg FE_PG.PORT_CFG.SPEED p (bits v 3 3)).setPg FE_PG.PORT_CFG.ENABLE p
        1).setPortCfg p v
      let b := (a.setPg FE_PG.PORT_STATUS.DEG p 0).updNetPort p (fun x => { x with bad := 0, good := 0, seenUp := false })
      let c := (b.setPg FE_PG.LAT.D_MAC_RX p (macLat (bits v 3 3)).1).setPg FE_PG.LAT.D_MAC_TX p (macLat (bits v 3 3)).2
      c.setLanes (c.portLanes p) r := by
  rw [State.portEnable, if_neg (by simp [hp, hopen]), if_neg (by rw [hen]; decide), hr]
  exact if_neg (by simp [hn, hfree])

/-- The configuration fields of a port take the value of a write that disables it. -/
def State.disabledCfg (s : State) (p v : Nat) : State :=
  ((s.setPg FE_PG.PORT_CFG.WIDTH p (bits v 1 2)).setPg FE_PG.PORT_CFG.SPEED p (bits v 3 3)).setPortCfg p v

theorem State.portDisable_off (hen : s.portEnabled p = false) : s.portDisable p v = (s.setPg FE_PG.PORT_CFG.ENABLE p 0).disabledCfg p v := by
  rw [State.portDisable, if_neg (by simp [hp, hopen]), if_neg (by rw [hen]; decide), State.portStop, hen]
  simp only [Bool.false_eq_true, if_false, State.disabledCfg]

/-- What a port that was enabled has become, whatever the write asked for besides. -/
def State.portStopped (s : State) (p v : Nat) : State :=
  (((s.linkFall p 1).setPg FE_PG.PORT_CFG.ENABLE p 0).setLanes (s.portLanes p) 0).disabledCfg p
    (setBits (setBits v 1 2 (s.pg FE_PG.PORT_CFG.WIDTH p)) 3 3 (s.pg FE_PG.PORT_CFG.SPEED p))

omit hp hopen in
theorem State.portStop_on (hen : s.portEnabled p = true) :
    s.portStop p (setBits (setBits v 1 2 (s.pg FE_PG.PORT_CFG.WIDTH p)) 3 3 (s.pg FE_PG.PORT_CFG.SPEED p)) = s.portStopped p v := by
  unfold State.portStop
  simp only [hen, if_true, State.portStopped, State.disabledCfg]

theorem State.portDisable_same (hen : s.portEnabled p = true)
    (h : bits v 1 2 = s.pg FE_PG.PORT_CFG.WIDTH p ∧ bits v 3 3 = s.pg FE_PG.PORT_CFG.SPEED p) : s.portDisable p v = s.portStopped p v := by
  rw [State.portDisable, if_neg (by simp [hp, hopen]), if_pos hen, ← State.portStop_on hen]
  exact if_neg (by simp [h])

theorem State.portDisable_other (hen : s.portEnabled p = true)
    (h : ¬(bits v 1 2 = s.pg FE_PG.PORT_CFG.WIDTH p ∧ bits v 3 3 = s.pg FE_PG.PORT_CFG.SPEED p)) :
    s.portDisable p v = (s.portStopped p v).cfgRefused p v := by
  rw [State.portDisable, if_neg (by simp [hp, hopen]), if_pos hen, ← State.portStop_on hen]
  exact if_pos (by simpa using not_and_or.1 h)

end

/-! ### The link falls -/

theorem State.linkFall_eq (s : State) (p cause : Nat) :
    s.linkFall p cause =
      let a := (s.setPg FE_PG.PORT_STATUS.LINK_UP p 0).setPg FE_PG.PORT_STATUS.LOS p (if cause = 1 then 1 else 0)
      let b := (a.setPg FE_PG.PORT_STATUS.LOCAL_FAULT p (if cause = 2 then 1 else 0)).setPg FE_PG.PORT_STATUS.REMOTE_FAULT p
        (if cause = 3 then 1 else 0)
      let c := if cause = 1 then (b.portLanes p).foldl (fun (s : State) l =>
        (s.wfp FE_SDN.LANE_STATUS.SIGNAL (l / 16) (l % 16) 0).wfp FE_SDN.LANE_STATUS.CDR_LOCK (l / 16) (l % 16) 0) b else b
      if s.pgb FE_PG.PORT_STATUS.LINK_UP p then
        let u := (c.cutTx p).rfUpdate p
        (u.raise Ev.FE_PG.LINK_DOWN (p / 8) cause p (u.portStatus p)).protHealth p
      else (c.rfUpdate p).protHealth p := by
  have hb2n (k : Nat) : b2n (decide (cause = k)) = if cause = k then 1 else 0 := if_congr (by simp) rfl rfl
  rw [State.linkFall]
  simp only [hb2n]
  rcases Bool.eq_false_or_eq_true (s.pgb FE_PG.PORT_STATUS.LINK_UP p) with hup | hup
  · simp only [hup, if_true]
  · simp only [hup, Bool.false_eq_true, if_false]

theorem portCommands : Claims.PortCommands := by
  intro s p hfe hp
  have hon (f : State → State) : (.next (s.onFe f) : Host.Outcome State Fault Refusal) = .next (f s) := congrArg _ (s.onFe_on f hfe)
  refine ⟨fun hopen cfg => ?_, fun hopen cfg => ?_, fun hen hop hsdn hup => ?_, fun hen cause hlo hhi => ?_, fun hen han hop ability => ?_⟩
  · intro v n refused
    have hrun : exec (.portEnable p cfg) s = .next (s.portEnable p v).latchBounds := hon _
    refine ⟨fun hen hr => ?_, fun hen h => ?_, fun r hen hr hn hfree => ?_, fun hen => ⟨fun hsame => ?_, fun hsame => ?_⟩⟩
    · rw [hrun, State.portEnable_rateless hp hopen hen hr]
    · rw [hrun, State.portEnable_taken hp hopen hen h]
    · rw [hrun, State.portEnable_new hp hopen hen hr hn hfree]
    · rw [hrun, State.portEnable_same hp hopen hen hsame]
    · rw [hrun, State.portEnable_other hp hopen hen hsame]
  · intro v wide fast k put off
    have hrun : exec (.portDisable p cfg) s = .next (s.portDisable p v).latchBounds := hon _
    refine ⟨fun hen => ?_, fun hen hsame => ?_, fun hen hsame => ?_⟩
    · exact hrun.trans (congrArg (fun t => Host.Outcome.next (State.latchBounds t)) (State.portDisable_off hp hopen hen))
    · exact hrun.trans (congrArg (fun t => Host.Outcome.next (State.latchBounds t)) (State.portDisable_same hp hopen hen hsame))
    · exact hrun.trans (congrArg (fun t => Host.Outcome.next (State.latchBounds t)) (State.portDisable_other hp hopen hen hsame))
  · exact (hon _).trans (congrArg _ (if_neg (by simp [hp, hen, hop, hsdn, hup])))
  · intro a b c
    have hexec : exec (.linkDown p cause) s = .next (s.linkFall p cause) :=
      (if_neg (by rw [hfe]; decide)).trans (if_pos (by simp [hp, hen, hlo, hhi]))
    have hrun := hexec.trans (congrArg _ (s.linkFall_eq p cause))
    exact ⟨fun hup => hrun.trans (congrArg _ (if_pos hup)), fun hup => hrun.trans (congrArg _ (if_neg (by rw [hup]; decide)))⟩
  · exact (if_neg (by rw [hfe]; decide)).trans (if_pos (by simp [hp, hen, han, hop]))

/-! ### Degraded signal -/

theorem not_sets_of_short_or_set {m n : Nat} {d : Bool} (h : n < m ∨ d = true) : ¬ (decide (m ≤ n) && !d) = true := by
  rcases h with h | h
  · simp [Nat.not_le.2 h]
  · simp [h]

theorem not_clears_of_short_or_clear {m n : Nat} {d : Bool} (h : n < m ∨ d = false) : ¬ (decide (m ≤ n) && d) = true := by
  rcases h with h | h
  · simp [Nat.not_le.2 h]
  · simp [h]

theorem degradation : Claims.Degradation := by
  intro s
  refine ⟨fun hfe p corr unc prbs hp hen hop => ?_, fun htm n corr unc prbs hen => ?_⟩
  · intro u
    have hrun : exec (.degIntervalEnd (.port p) corr unc prbs) s = .next (s.degInterval p corr unc prbs) :=
      congrArg Host.Outcome.next (s.onFe_on _ hfe)
    have hgo := hrun.trans (congrArg _ (if_neg (by simp [hp, hen, hop])))
    refine ⟨fun hup => hgo.trans (congrArg _ (if_pos (by rw [hup]; decide))), fun hup => ?_⟩
    intro bad v m
    have hjudge := hgo.trans (congrArg _ (if_neg (by rw [hup]; decide)))
    refine ⟨fun hm hd => hjudge.trans (congrArg _ (if_pos ?_)), fun hm hd => hjudge.trans (congrArg _ ((if_neg ?_).trans (if_pos ?_))),
      fun hbad hgood => hjudge.trans (congrArg _ ((if_neg ?_).trans (if_neg ?_)))⟩
    · exact Bool.and_eq_true_iff.2 ⟨decide_eq_true hm, by rw [hd]; rfl⟩
    · exact not_sets_of_short_or_set (.inr hd)
    · exact Bool.and_eq_true_iff.2 ⟨decide_eq_true hm, hd⟩
    · exact not_sets_of_short_or_set hbad
    · exact not_clears_of_short_or_clear hgood
  · intro u
    have hrun : exec (.degIntervalEnd (.link n) corr unc prbs) s = .next (s.flinkDeg n corr unc (prbs.getD 0 0)) :=
      congrArg Host.Outcome.next (s.onTm_on _ htm)
    have hgo := hrun.trans (congrArg _ (if_neg (by simp [hen])))
    refine ⟨fun hal => hgo.trans (congrArg _ (if_pos hal)), fun hal => ?_⟩
    intro bad v m
    have hjudge := hgo.trans (congrArg _ (if_neg (not_not.2 hal)))
    refine ⟨fun hm hd => hjudge.trans (congrArg _ (if_pos ?_)), fun hm hd => hjudge.trans (congrArg _ ((if_neg ?_).trans (if_pos ?_))),
      fun hbad hgood => hjudge.trans (congrArg _ ((if_neg ?_).trans (if_neg ?_)))⟩
    · exact Bool.and_eq_true_iff.2 ⟨decide_eq_true hm, by rw [hd]; rfl⟩
    · exact not_sets_of_short_or_set (.inr hd)
    · exact Bool.and_eq_true_iff.2 ⟨decide_eq_true hm, hd⟩
    · exact not_sets_of_short_or_set hbad
    · exact not_clears_of_short_or_clear hgood

/-- Settles O20: each command along the conditions its function asks for. -/
theorem portStates : Obligations.PortStates := ⟨portCommands, degradation⟩

end Sys2Proof.Machine
end

section
/-! PROOF. The epoch commands and the transitions of the epoch machine (R85 to R98, R110). -/

namespace Sys2Proof.Machine

/-! ### The transitions that no command makes -/

section
variable {s : State}

theorem State.epochFlip_due {f : Nat} (hf : s.flipCycle = some f) :
    s.epochFlip =
      (let u := (s.advanceTo f).disarm .flip 0
       let old := if s.ep.fromNone then none else some u.activeBank
       let v := (({ u with ep := { s.ep with flipTime := 0 } } : State).flipTo u.stagedBank).wf TM_EPOCH.STATE.ROLLBACK 0
       let e := match s.ep.commit with
         | some (id, _) => v.tookEffect id
         | none => v
       let w : State := { e with ep := { e.ep with fromNone := false } }
       let x := ((if s.ep.fromNone then w.setEpochState esRetiring else w.startDrain).afterFlip old).raiseEpoch [Ev.TM_EPOCH.FLIPPED]
       match x.ep.commit with
       | some (_, false) => x.commitDone false
       | _ => x) := by
  rw [State.epochFlip, hf] <;> rfl

theorem State.drainSettled_due {d : Nat} (hst : s.epochState = esDraining) (hroll : s.ep.rollbackArmed = false)
    (hd : s.timerAt .settle 0 = some d) :
    s.drainSettled = ((s.expired .settle 0 d).setEpochState esRetiring).disarm .retire 0 := by
  rw [State.drainSettled, if_neg (by simp [hst, hroll]), State.expire_expired hd] <;> rfl

theorem State.retireTimeout_due {d : Nat} (hst : s.epochState = esDraining) (hroll : s.ep.rollbackArmed = false)
    (hd : s.timerAt .retire 0 = some d) :
    s.retireTimeout = (((s.expired .retire 0 d).raiseEpoch [Ev.TM_EPOCH.RETIRE_TIMEOUT]).setEpochState esExpired).purge := by
  rw [State.retireTimeout, if_neg (by simp [hst, hroll]), State.expire_expired hd]

theorem State.purgeDone_due {d : Nat} (hst : s.epochState = esExpired) (hd : s.timerAt .settle 0 = some d) :
    s.purgeDone = ((s.expired .settle 0 d).setEpochState esRetiring).disarm .retire 0 := by
  rw [State.purgeDone, if_neg (by simp [hst]), State.expire_expired hd] <;> rfl

theorem State.rollbackFlip_due {d id : Nat} (harmed : s.ep.rollbackArmed = true) (hd : s.timerAt .flip 0 = some d)
    (hid : s.ep.rollbackCmd = some id) :
    s.rollbackFlip =
      (let u := s.expired .flip 0 d
       let v := (({ u with ep := { s.ep with rollbackArmed := false, rollbackCmd := none } } : State).flipTo (!u.activeBank)).wf
         TM_EPOCH.STATE.ROLLBACK 1
       ((v.startDrain.afterFlip (some u.activeBank)).raiseEpoch [Ev.TM_EPOCH.FLIPPED, Ev.TM_EPOCH.ROLLBACK]).abortDone id) := by
  have hcmd : (s.expired .flip 0 d).ep.rollbackCmd = some id := hid
  rw [State.rollbackFlip, if_neg (by simp [harmed]), State.expire_expired hd]
  show (match (s.expired .flip 0 d).ep.rollbackCmd with | some id => _ | none => _) = _
  rw [hcmd] <;> rfl

end

theorem epochTransitions : Claims.EpochTransitions := by
  intro s
  refine ⟨fun htm f hf => ?_, fun htm hst hroll => ⟨fun d hd => ?_, fun d hd => ?_⟩, fun htm hst d hd => ?_, fun htm hst => ?_,
    fun htm harmed d id hd hid => ?_, fun htm hre => ?_, fun hfe lanes => ?_, fun hfe egr d hd => ?_⟩
  · exact congrArg Host.Outcome.next ((s.onTm_on _ htm).trans (State.epochFlip_due hf))
  · exact congrArg Host.Outcome.next ((s.onTm_on _ htm).trans (State.drainSettled_due hst hroll hd))
  · exact congrArg Host.Outcome.next ((s.onTm_on _ htm).trans (State.retireTimeout_due hst hroll hd))
  · exact congrArg Host.Outcome.next ((s.onTm_on _ htm).trans (State.purgeDone_due hst hd))
  · exact congrArg Host.Outcome.next ((s.onTm_on _ htm).trans (if_neg (by simp [hst])))
  · exact congrArg Host.Outcome.next ((s.onTm_on _ htm).trans (State.rollbackFlip_due harmed hd hid))
  · exact congrArg Host.Outcome.next ((s.onTm_on _ htm).trans (if_neg (by simp [hre])))
  · refine congrArg Host.Outcome.next ((s.onFe_on _ hfe).trans ?_)
    simp only [State.selectorLane, Bool.or_eq_true, decide_eq_true_eq, State.wf_cycle]
  · exact congrArg Host.Outcome.next ((s.onFe_on _ hfe).trans (congrArg (Option.getD · s) (State.expire_expired hd)))

/-! ### What the steps of the machine leave of EPOCH_STATUS and of the epoch record -/

section
variable {s : State}

theorem State.epochState_setEpochState {v : Nat} (hv : v < 16) : (s.setEpochState v).epochState = v :=
  (State.rf_wf_same _ _ _).trans (Nat.mod_eq_of_lt hv)

theorem State.ep_foldl {α : Type} {g : State → α → State} (h : ∀ (s : State) a, (g s a).ep = s.ep) (as : List α) (s : State) :
    (as.foldl g s).ep = s.ep := by
  induction as generalizing s with
  | nil => rfl
  | cons a as ih => exact (ih _).trans (h s a)

theorem State.Raised.ep {t : State} (h : s.Raised t) : t.ep = s.ep := (h.still (pid := 0) (l := .core)).ep

theorem State.ep_finishR (id status detail result : Nat) : (s.finishR id status detail result).ep = s.ep := by
  cases h : s.cmd id with
  | none => rw [State.finishR, State.finish, h]
  | some c =>
    cases horphan : c.orphan with
    | true =>
      rw [State.finishR_orphan h horphan]
      rfl
    | false =>
      cases hring : c.ring with
      | some n =>
        rw [State.finishR_ring h horphan hring]
        rfl
      | none =>
        obtain ⟨w, hw⟩ : ∃ w, completionWord (c.bits 16 16) status 1 0 detail (c.effSeq.getD (s.rf TM_EPOCH.EPOCH_SEQ.SEQ)) result = w :=
          ⟨_, rfl⟩
        rw [State.finishR_direct h horphan hring hw]
        rfl

theorem State.ep_wf_of {e : EpochState} (f : Fld) (v : Nat) (h : s.ep = e) : (s.wf f v).ep = e := h

theorem State.ep_foldl_of {α : Type} {e : EpochState} {g : State → α → State} (hg : ∀ (s : State) a, (g s a).ep = s.ep) (as : List α)
    (h : s.ep = e) : (as.foldl g s).ep = e := (State.ep_foldl hg as s).trans h

theorem State.ep_dig (f : Fld) (d : Bytes) (s : State) : ((List.range 12).foldl (fun s k => s.wfi f k (le32 d (4 * k))) s).ep = s.ep :=
  State.ep_foldl (fun s k => State.wfi_ep s f k _) _ _

theorem State.ep_showImages : (s.showImages none).ep = s.ep := by
  rw [State.showImages]
  split
  · rfl
  · exact State.ep_dig _ _ _

theorem State.ep_setCnt (f : Fld) (i v : Nat) : (s.setCnt f i v).ep = s.ep := (State.Raised.perfFld (s.wfi f i v) f 0 _).ep

theorem State.ep_flipCounts (old : Option Bool) : (s.flipCounts old).ep = s.ep := by
  refine State.ep_foldl (fun s f => ?_) _ _
  split
  · exact State.ep_setCnt _ _ _
  · split
    · split
      · rfl
      · exact State.ep_setCnt _ _ _
    · exact State.ep_setCnt _ _ _

theorem State.ep_showLayout : s.showLayout.ep = s.ep := by
  rw [State.showLayout]
  split
  · rfl
  · refine State.ep_foldl_of (fun s k => State.wfi_ep s _ k _) _ ?_
    iterate 8 refine State.ep_wf_of _ _ ?_
    refine State.ep_foldl_of (fun s c => (State.wfi_ep _ _ c _).trans (State.wfi_ep s _ c _)) (List.range 4) ?_
    iterate 6 refine State.ep_wf_of _ _ ?_
    rfl

theorem State.ep_flipDepth (egr : Bool) (old : Option Bool) : (s.flipDepth egr old).ep = s.ep := by
  cases old with
  | none => rfl
  | some b =>
    rw [State.flipDepth]
    generalize (if egr = true then FE_PIPEE.DEPTH_CYCLES.CYCLES else FE_PIPEI.DEPTH_CYCLES.CYCLES) = fld
    generalize (if egr = true then FE_PIPEE.GAP_CYCLES.COUNT else FE_PIPEI.GAP_CYCLES.COUNT) = cnt
    split
    · exact State.ep_foldl (fun u i => (State.Still.sat (pid := 0) (l := .core) u cnt 0 i _).ep) _ _
    · rfl

theorem State.ep_flipCalendar (b : Bool) : (s.flipCalendar b).ep = s.ep := by
  rw [State.flipCalendar]
  split
  · rfl
  · rw [State.newCalendar, State.setCal]
    refine (State.ep_setCnt _ _ _).trans ?_
    exact State.ep_foldl (g := fun u k => (u.setNode k { u.node k with shapeEn := false }).setShaper k none) (fun u k => rfl) _ _

theorem State.ep_showExpress : s.showExpress.ep = s.ep := by
  rw [State.showExpress]
  refine (State.Raised.latchBounds _).ep.trans ?_
  iterate 6 refine State.ep_wf_of _ _ ?_
  rfl

theorem State.ep_afterFlip (old : Option Bool) : (s.afterFlip old).ep = s.ep := by
  refine (State.Raised.capCheck _ _).ep.trans ((State.Raised.latchBounds _).ep.trans (State.ep_showExpress.trans
    ((State.ep_flipCalendar _).trans ((State.ep_flipDepth _ _).trans ((State.ep_flipDepth _ _).trans (State.ep_showLayout.trans
      ((State.ep_flipCounts _).trans State.ep_showImages)))))))

/-- One more source of TM.EPOCH that raises in the same cycle, with its open details. -/
def epochRaise (a : List Raise × State) (e : Evt) : List Raise × State :=
  (a.1 ++ [⟨4099, e.src, a.2.freeVal.1, a.2.freeVal.2.freeVal.1, a.2.freeVal.2.freeVal.2.freeVal.1⟩], a.2.freeVal.2.freeVal.2.freeVal.2)

theorem State.Raised.foldl_epochRaise (es : List Evt) (a : List Raise × State) : a.2.Raised (es.foldl epochRaise a).2 := by
  induction es generalizing a with
  | nil => exact .refl _
  | cons e es ih => exact (((State.Raised.freeVal a.2).trans (.freeVal _)).trans (.freeVal _)).trans (ih (epochRaise a e))

theorem State.Raised.raiseEpoch (es : List Evt) : s.Raised (s.raiseEpoch es) :=
  (State.Raised.foldl_epochRaise es ([], s)).trans (.raiseDepth 4 _ 4099 false _)

theorem State.ep_startDrain : s.startDrain.ep = s.ep := by
  rw [State.startDrain]
  split <;> rfl

theorem State.remirror_commitDone (drop : Bool) : (s.commitDone drop).ep.remirror = s.ep.remirror := by
  rw [State.commitDone]
  split
  · rfl
  · exact (congrArg EpochState.remirror (State.ep_finishR _ _ _ _)).trans rfl

/-- A flip leaves no re-mirror waiting that did not wait before. -/
theorem State.remirror_epochFlip : s.epochFlip.ep.remirror = s.ep.remirror := by
  cases hf : s.flipCycle with
  | none => rw [State.epochFlip, hf]
  | some f =>
    rw [State.epochFlip_due hf]
    extract_lets u old epSrc v e wSrc w x
    have hv : v.ep.remirror = s.ep.remirror := rfl
    have he : e.ep.remirror = s.ep.remirror := by
      show (match s.ep.commit with | some (id, _) => v.tookEffect id | none => v).ep.remirror = _
      split <;> exact hv
    have hx : x.ep.remirror = s.ep.remirror := by
      refine (congrArg EpochState.remirror ((State.Raised.raiseEpoch _).ep.trans (State.ep_afterFlip _))).trans ?_
      split
      · exact he
      · exact (congrArg EpochState.remirror State.ep_startDrain).trans he
    split
    · exact (State.remirror_commitDone _).trans hx
    · exact hx

end

/-! ### Starting a stage -/

section
variable {s : State}

theorem State.ep_stageStart_stage (id prev : Nat) : (s.stageStart id prev).ep.stage = some (id, prev) := by
  simp only [State.stageStart, State.wf_ep]
  split <;> rfl

theorem State.loaderHeld_stageStart (id prev : Nat) : (s.stageStart id prev).loaderHeld = s.loaderHeld := by
  have hca : (s.stageStart id prev).ca = s.ca := by
    simp only [State.stageStart, State.wf_ca]
    split <;> rfl
  simp only [State.loaderHeld, State.remapNow, State.stripRec, hca]

theorem State.epochState_stageStart (s : State) (id prev : Nat) : (s.stageStart id prev).epochState = esStaging := by
  simp (disch := decide) only [State.stageStart, State.epochState, State.rf_wf_ne]
  split
  · exact State.epochState_setEpochState (s := s.begin id) (v := esStaging) (by decide)
  · refine (State.rf_wf_ne _ _ _ _ (by decide)).trans ?_
    exact State.epochState_setEpochState (s := s.begin id) (v := esStaging) (by decide)

/-- The limit of a stage changes nothing of its state. -/
theorem State.stageClock {v : Nat} {x : Option (Nat × Nat)} (n : Nat) (hes : s.epochState = v) (hx : s.ep.stage = x) :
    ((s.arm .stage 0 n).wf TM_ALM.LOAD_STATUS.PHASE 1).epochState = v ∧ ((s.arm .stage 0 n).wf TM_ALM.LOAD_STATUS.PHASE 1).ep.stage = x ∧
      ((s.arm .stage 0 n).wf TM_ALM.LOAD_STATUS.PHASE 1).armed .stage 0 = true :=
  ⟨(State.rf_wf_ne _ _ _ _ (by decide)).trans hes, hx, congrArg Option.isSome (s.timerAt_arm_same .stage 0 n)⟩

theorem State.epochState_abandonTo : s.abandonTo.epochState = s.restState := by
  have hlt : s.restState < 16 := by
    rw [State.restState]
    split <;> decide
  show (((s.setEpochState s.restState).wf TM_ALM.LOAD_STATUS.PHASE 0).wf FE_ALM.LOAD_STATUS.PHASE 0).rf TM_EPOCH.STATE.STATE = _
  simp (disch := decide) only [State.rf_wf_ne]
  exact State.epochState_setEpochState hlt

/-! ### What each command leaves -/

variable {id : Nat} {c : Cmd}

theorem Cmd.id_of_cmd (h : s.cmd id = some c) : c.id = id := by simpa using List.find?_some h

theorem State.mayStart_phase (h : s.mayStart c = true) : c.phase = .fetched := by
  rw [State.mayStart, Bool.and_eq_true, Bool.and_eq_true, Bool.and_eq_true] at h
  exact of_decide_eq_true h.1.1.1

section
variable (hc : s.cmd id = some c) (hmay : s.mayStart c = true) (hre : s.ep.remirror = false) (hst : s.epochState ≠ esRetiring)
include hc hmay hre hst

theorem State.stageAlmanac_starts (hop : c.opcode = 0x30) (hkind : c.bits 64 4 = 1) (hstage : s.ep.stage = none)
    (hes : s.epochState = esNoEpoch ∨ s.epochState = esIdle) (hlen : c.bits 192 32 ≠ 0) (img : StageFetch) :
    s.stageAlmanac id img =
      (((s.stageStart id s.epochState).arm .stage 0 (2 * cySec)).wf TM_ALM.LOAD_STATUS.PHASE 1).stageRun id s.epochState (c.bits 192 32)
        img := by
  rw [State.stageAlmanac, hc]
  show (if _ then _ else match s.ep.stage with | some (k, prev) => _ | none => _) = _
  rw [hstage, if_neg (by simp [hop, hkind])]
  show (if _ then _ else _) = _
  rw [if_neg (by simp [hmay, hre, hst]), if_neg (by simp [hkind]), if_neg (by rcases hes with h | h <;> simp [h]), if_neg hlen]

theorem State.stageRules_starts (hop : c.opcode = 0x30) (hkind : c.bits 64 4 = 2) (hes : s.epochState = esIdle ∨ s.epochState = esStaged)
    (hlen : c.bits 192 32 ≠ 0) (hrec : c.bits 192 32 % 64 = 0) (r : ReadResult) :
    s.stageRules id r =
      if s.loaderHeld then s.stageStart id s.epochState
      else (s.stageStart id s.epochState).rulesRun id s.epochState (c.bits 192 32) r := by
  have hphase := State.mayStart_phase hmay
  rw [State.stageRules, hc]
  dsimp only
  rw [if_neg (by simp [hop, hkind]), if_neg (by simp [hphase]), if_neg (by simp [hmay, hre, hst]),
    if_neg (by rcases hes with h | h <;> simp [h, esIdle, esStaged, esNoEpoch]), if_neg (by rcases hes with h | h <;> simp [h]),
    if_neg (by simp [hlen, hrec]), State.loaderHeld_stageStart]

theorem State.epochCommit_staged (hop : c.opcode = 0x31) (hes : s.epochState = esStaged) : s.epochCommit id = s.commitStaged c := by
  rw [State.epochCommit, State.startable_of hc hmay (by simp [hop])]
  dsimp only
  rw [if_neg (by simp [hre, hst]), if_neg (by simp [hes, esStaged, esNoEpoch, esIdle]), if_neg (not_not.2 hes)]

theorem State.epochCommit_unstaged (hop : c.opcode = 0x31) (hes : s.epochState = esNoEpoch ∨ s.epochState = esIdle) :
    s.epochCommit id = s.finishR id stInvalid 0x0602 0 := by
  rw [State.epochCommit, State.startable_of hc hmay (by simp [hop])]
  dsimp only
  rw [if_neg (by simp [hre, hst]), if_pos (by simpa using hes)]

theorem State.epochCommit_busy (hop : c.opcode = 0x31) (hno : s.epochState ≠ esNoEpoch) (hidle : s.epochState ≠ esIdle)
    (hes : s.epochState ≠ esStaged) : s.epochCommit id = s.finishR id stEpochBusy 0 0 := by
  rw [State.epochCommit, State.startable_of hc hmay (by simp [hop])]
  dsimp only
  rw [if_neg (by simp [hre, hst]), if_neg (by simp [hno, hidle]), if_pos hes]

section
variable (hop : c.opcode = 0x32) (hroll : c.bits 128 1 = 0)
include hop hroll

theorem State.epochAbort_nothing (hes : s.epochState = esNoEpoch ∨ s.epochState = esIdle) :
    s.epochAbort id = s.finishR id stOK 0 s.epochState := by
  rw [State.epochAbort, State.startable_of hc hmay (by simp [hop])]
  dsimp only
  rw [if_neg (by simp [hroll, hre, hst]), if_pos (by simpa using hes), State.abortDone]

theorem State.epochAbort_stage (hes : s.epochState = esStaging ∨ s.epochState = esStaged ∨ s.epochState = esFailed) :
    s.epochAbort id = (match s.ep.stage with
      | some (k, _) => s.finishR k stAborted 0 0
      | none => s).abandonTo.abortDone id := by
  rw [State.epochAbort, State.startable_of hc hmay (by simp [hop])]
  dsimp only
  rw [if_neg (by simp [hroll, hre, hst]), if_neg (by rcases hes with h | h | h <;> simp [h, esStaging, esStaged, esFailed, esNoEpoch, esIdle]),
    if_pos (by rcases hes with h | h | h <;> simp [h])] <;> rfl

theorem State.epochAbort_armed {f k : Nat} {d : Bool} (hes : s.epochState = esArmed) (hf : s.flipCycle = some f) (hlt : s.cycle < f)
    (hcommit : s.ep.commit = some (k, d)) :
    s.epochAbort id = ((({ (s.setEpochState esStaged).disarm .flip 0 with ep := { s.ep with commit := none, flipTime := 0 } } : State).finishR k
      stAborted 0 0).abortDone id) := by
  rw [State.epochAbort, State.startable_of hc hmay (by simp [hop])]
  dsimp only
  rw [if_neg (by simp [hroll, hre, hst]), if_neg (by simp [hes, esArmed, esNoEpoch, esIdle]),
    if_neg (by simp [hes, esArmed, esStaging, esStaged, esFailed]), if_pos (by simp [hes, hf, hlt])]
  refine congrArg (State.abortDone · id) ?_
  show (match s.ep.commit with | some (k, _) => _ | none => _) = _
  rw [hcommit] <;> rfl

theorem State.epochAbort_busy (hes : s.epochState = esDraining ∨ s.epochState = esExpired) :
    s.epochAbort id = s.finishR id stEpochBusy 0 0 := by
  rw [State.epochAbort, State.startable_of hc hmay (by simp [hop])]
  dsimp only
  rw [if_neg (by simp [hroll, hre, hst]), if_neg (by rcases hes with h | h <;> simp [h, esDraining, esExpired, esNoEpoch, esIdle]),
    if_neg (by rcases hes with h | h <;> simp [h, esDraining, esExpired, esStaging, esStaged, esFailed]),
    if_neg (by rcases hes with h | h <;> simp [h, esDraining, esExpired, esArmed])]

end

section
variable (hop : c.opcode = 0x32) (hroll : c.bits 128 1 = 1)
include hop hroll

omit hre hst in
/-- The rollback that is admitted, over the state `u` in which a due flip has taken place. -/
theorem State.epochRollback_armed {u : State} (hu : s.flipDue = u) (hue : u.epochState = esDraining) (hur : u.ep.rolled = false)
    (hurem : u.ep.remirror = false) :
    s.epochRollback id = { (u.begin id).arm .flip 0 256 with
      ep := { u.ep with rolled := true, rollbackArmed := true, rollbackCmd := some id } } := by
  rw [State.epochRollback, State.startable_of hc hmay (by simp [hop])]
  dsimp only
  rw [if_neg (by simp [hroll]), hu, if_neg (by simp [hue, hurem, esDraining, esRetiring]), if_neg (by simp [hue, hur])] <;> rfl

theorem State.epochRollback_busy (hu : s.flipDue = s) (hes : s.epochState ≠ esDraining ∨ s.ep.rolled = true) :
    s.epochRollback id = s.finishR id stEpochBusy 0 0 := by
  rw [State.epochRollback, State.startable_of hc hmay (by simp [hop])]
  dsimp only
  rw [if_neg (by simp [hroll]), hu, if_neg (by simp [hre, hst]), if_pos (by simpa using hes)]

end

end

/-- The state after a commit of command `id` has been armed: at the next chance, or at the time `t` of the command. -/
def State.armCommit (s : State) (id : Nat) (drop near : Bool) (t : Nat) : State :=
  let u : State := { (s.begin id).setEpochState esArmed with
    ep := { s.ep with commit := some (id, drop), flipTime := if near then 0 else t, rolled := false } }
  if near then u.arm .flip 0 256 else u

theorem State.commitStaged_armed {t : Nat} (hc : s.cmd id = some c) (hlock : s.commitLocked = none)
    (hseq : c.bits 224 32 = 0 ∨ c.bits 224 32 = s.rf TM_EPOCH.EPOCH_SEQ.SEQ)
    (ht : (c.bits 160 48 * 1000000000 + c.bits 128 32) * 2 ^ 32 = t) (hlate : t ≤ s.time + 10 * secUnits) :
    s.commitStaged c = s.armCommit id (decide (c.bits 208 1 = 1)) (decide (t < s.time + nearFlip)) t := by
  rw [State.commitStaged, hlock, ht, Cmd.id_of_cmd hc]
  dsimp only
  rw [if_neg (by rcases hseq with h | h <;> simp [h]), if_neg (not_lt.2 hlate), State.armCommit]
  by_cases hnear : t < s.time + nearFlip
  · simp only [State.begin, State.setEpochState, State.wf_time, State.updCmd, hnear]
    rfl
  · have hpos : t ≠ 0 := by
      have : 0 < nearFlip := by decide
      omega
    simp only [State.begin, State.setEpochState, State.wf_time, State.updCmd, hnear, if_false, hpos, decide_false, Bool.false_eq_true]
    rfl

theorem State.armCommit_frame (s : State) (id : Nat) (drop near : Bool) (t : Nat) :
    (s.armCommit id drop near t).epochState = esArmed ∧
      s.armCommit id drop near t = { s with regs := (s.armCommit id drop near t).regs, ep := (s.armCommit id drop near t).ep,
                                            hc := (s.armCommit id drop near t).hc, timers := (s.armCommit id drop near t).timers } := by
  have harmed := State.epochState_setEpochState (s := s.begin id) (v := esArmed) (by decide)
  cases near <;> exact ⟨harmed, rfl⟩

theorem State.armCommit_run {f : State → State} {w : State} {drop : Bool} {t : Nat} (htm : s.tmOn = true) (hf : f s = w)
    (hw : w = s.armCommit id drop (decide (t < s.time + nearFlip)) t) :
    ∃ u, (Host.Outcome.next (s.onTm f) : Host.Outcome State Fault Refusal) = .next u ∧ u.epochState = esArmed ∧
      u.ep.commit = some (id, drop) ∧ u.ep.rolled = false ∧
      u = { s with regs := u.regs, ep := u.ep, hc := u.hc, timers := u.timers } ∧
      (t < s.time + nearFlip → u.ep.flipTime = 0 ∧ u.timerAt .flip 0 = some (s.cycle + 256)) ∧
      (¬ t < s.time + nearFlip → u.ep.flipTime = t ∧ u.timers = s.timers) := by
  obtain ⟨harmed, hframe⟩ := s.armCommit_frame id drop (decide (t < s.time + nearFlip)) t
  refine ⟨_, congrArg _ ((s.onTm_on f htm).trans (hf.trans hw)), harmed, ?_, ?_, hframe, fun hnear => ?_, fun hfar => ?_⟩
  · generalize decide (t < s.time + nearFlip) = near
    cases near <;> rfl
  · generalize decide (t < s.time + nearFlip) = near
    cases near <;> rfl
  · rw [decide_eq_true hnear]
    exact ⟨rfl, State.timerAt_arm_same _ _ _ _⟩
  · rw [decide_eq_false hfar]
    exact ⟨rfl, rfl⟩

theorem State.flipDue_not (h : ∀ f, s.flipCycle = some f → s.cycle < f) : s.flipDue = s := by
  rw [State.flipDue]
  cases hf : s.flipCycle with
  | none => rfl
  | some f => exact if_neg (by simpa using h f hf)

theorem State.flipCycle_unarmed (h : s.epochState ≠ esArmed) : s.flipCycle = none := if_pos h

theorem State.flipDue_due {f : Nat} (hf : s.flipCycle = some f) (hle : f ≤ s.cycle) : s.flipDue = s.epochFlip := by
  rw [State.flipDue, hf]
  exact if_pos (by simpa using hle)

theorem State.rollbackArmed_frame (u : State) (id : Nat) {e : EpochState} :
    let t : State := { (u.begin id).arm .flip 0 256 with ep := e }
    t.timerAt .flip 0 = some (u.cycle + 256) ∧ t = { u with ep := e, hc := t.hc, timers := t.timers } :=
  ⟨(u.begin id).timerAt_arm_same .flip 0 256, rfl⟩

end

theorem epochCommands : Claims.EpochCommands := by
  intro s id c htm hc hmay hre hst
  have run {f : State → State} {t : State} (h : f s = t) : Host.Outcome.next (s.onTm f) = (.next t : Host.Outcome State Fault Refusal) :=
    congrArg Host.Outcome.next ((s.onTm_on f htm).trans h)
  refine ⟨fun hop hkind hstage hes hlen img => ?_, fun hop hkind hes hlen hrec => ?_, fun hop hkind hes r => ?_,
    fun hop hes hlock hseq => ?_, fun hop hes => run (State.epochCommit_unstaged hc hmay hre hst hop hes),
    fun hop hno hidle hes => run (State.epochCommit_busy hc hmay hre hst hop hno hidle hes), fun hop hroll => ?_, fun hop hroll => ?_⟩
  · obtain ⟨hes', hstage', harmed⟩ := State.stageClock (2 * cySec) (s.epochState_stageStart id s.epochState)
      (State.ep_stageStart_stage id s.epochState)
    exact ⟨hes', hstage', harmed, run (State.stageAlmanac_starts hc hmay hre hst hop hkind hstage hes hlen img)⟩
  · have hstart := State.stageRules_starts hc hmay hre hst hop hkind hes hlen hrec
    intro u failed
    refine ⟨State.epochState_stageStart _ _ _, fun hheld r => run ((hstart r).trans (if_pos hheld)), fun hfree bs => run ?_,
      fun hfree => run ((hstart .fail).trans (if_neg (by simp [hfree])))⟩
    refine ((hstart (.data bs)).trans (if_neg (by simp [hfree]))).trans ?_
    rfl
  · refine run ?_
    have hphase := State.mayStart_phase hmay
    rw [State.stageRules, hc]
    dsimp only
    rw [if_neg (by simp [hop, hkind]), if_neg (by simp [hphase]), if_neg (by simp [hmay, hre, hst]), if_pos hes]
  · exact fun hlate => State.armCommit_run (f := fun s => s.epochCommit id) htm (State.epochCommit_staged hc hmay hre hst hop hes)
      (State.commitStaged_armed hc hlock hseq rfl hlate)
  · refine ⟨fun hes => run (State.epochAbort_nothing hc hmay hre hst hop hroll hes), fun hes hstage => ?_, fun hes k prev hstage => run ?_,
      fun hes f hf hlt k d hcommit => run (State.epochAbort_armed hc hmay hre hst hop hroll hes hf hlt hcommit),
      fun hes => run (State.epochAbort_busy hc hmay hre hst hop hroll hes)⟩
    · have hrest : s.abandonTo.epochState = s.restState := State.epochState_abandonTo
      refine ⟨hrest, rfl, run ?_⟩
      rw [State.epochAbort_stage hc hmay hre hst hop hroll (.inr hes), hstage]
      exact congrArg (State.finishR _ id stOK 0) hrest
    · rw [State.epochAbort_stage hc hmay hre hst hop hroll (.inl hes), hstage]
  · refine ⟨fun hes hrolled => ?_, fun f hf hle hes hrolled => ?_, fun hes hnot =>
      run (State.epochRollback_busy hc hmay hre hst hop hroll (State.flipDue_not hnot) hes)⟩
    · have hdue : s.flipDue = s := State.flipDue_not fun f hf => by
        rw [State.flipCycle_unarmed (by simp [hes, esDraining, esArmed])] at hf
        cases hf
      obtain ⟨htimer, hframe⟩ := s.rollbackArmed_frame id
        (e := { s.ep with rolled := true, rollbackArmed := true, rollbackCmd := some id })
      exact ⟨_, run (State.epochRollback_armed hc hmay hop hroll hdue hes hrolled hre), htimer, rfl, hframe⟩
    · have hrem := State.remirror_epochFlip.trans hre
      obtain ⟨htimer, hframe⟩ := s.epochFlip.rollbackArmed_frame id
        (e := { s.epochFlip.ep with rolled := true, rollbackArmed := true, rollbackCmd := some id })
      exact ⟨_, run (State.epochRollback_armed hc hmay hop hroll (State.flipDue_due hf hle) hes hrolled hrem), htimer, rfl, hframe⟩

/-- Settles O9: each command over what it meets, each transition at its time. -/
theorem epochChanges : Obligations.EpochChanges := ⟨epochCommands, epochTransitions⟩

end Sys2Proof.Machine
end

section
/-! PROOF. The write slots of the tables, the region switch, learning, hits and the ager (R190 to R192, R202 to R212). -/

namespace Sys2Proof.Machine

section
variable {s : State}

theorem State.rf_sat1_ne {f g : Fld} (h : g.key 0 0 ≠ f.key 0 0) : (s.sat1 f).rf g = s.rf g := by
  rw [State.sat1, State.sat, State.rf, State.rfp_perfFld, State.rfp_wfp_ne _ _ _ _ _ _ _ _ h, State.rf]

/-! ### The region switch -/

theorem State.switchApply_free {id : Nat} {c : Cmd} {t : Tbl} (hc : s.cmd id = some c) (hwait : s.tm.switches.contains id = true)
    (hphase : c.phase = .begun) (ht : s.tblOf c.tblId = some t)
    (hfree : s.tm.wq.any (fun e => match s.cmd e.1 with
      | some d => decide (d.phase = .begun) && decide (d.tblId = t.id)
      | none => false) = false) :
    s.switchApply id =
      (let u : State := { s with
         tm := { s.tm with switches := s.tm.switches.filter (fun k => !decide (k = id)) },
         bankA := s.bankA.switchTbl t (!t.live) (c.bits 128 64) (c.bits 192 64) (c.bits 256 32),
         bankB := s.bankB.switchTbl t (!t.live) (c.bits 128 64) (c.bits 192 64) (c.bits 256 32) }
       let v := match t.cntFld with
         | some (f, i) => u.setCnt f i (c.bits 288 32)
         | none => u
       (v.showLayout.raise Ev.FE_TCMD.REGION_SWITCHED 0 0 t.id (b2n (!t.live))).finishR id stOK 0 (b2n (!t.live))) := by
  rw [State.switchApply, hc]
  dsimp only
  rw [if_neg (by rw [hwait, hphase]; decide), ht]
  exact if_neg (ne_true_of_eq_false hfree)

/-! ### Learning -/

theorem State.learnProcess_untabled {ev : LearnEv} (h : s.learnHead = some (ev, none)) :
    s.learnProcess = s.setLearnQueue (s.ln.queue.drop 1) := by
  rw [State.learnProcess, h]

section
variable {ev : LearnEv} {t : Tbl} {u : State} (h : s.learnHead = some (ev, some t)) (hu : s.setLearnQueue (s.ln.queue.drop 1) = u)
include h hu

theorem State.learnProcess_insert {sl : Nat} (hfind : u.findSlot true t (t.hash 0 ev.key).1 ev.key = none)
    (hfree : u.freeSlot t (t.hash 0 ev.key).1 = some sl) :
    s.learnProcess = (((((u.writeEntry t t.live sl (u.macEntry ev)).countEntry t true).inc FE_TCMD.LEARN_WRITES.COUNT 0 0 1).inc
      FE_LEARN.INSERTED.COUNT 0 0 1).notify ev oInserted 0) := by
  rw [State.learnProcess, h]
  dsimp only
  rw [hu, hfind, hfree]

theorem State.learnProcess_full (hfind : u.findSlot true t (t.hash 0 ev.key).1 ev.key = none)
    (hfree : u.freeSlot t (t.hash 0 ev.key).1 = none) :
    s.learnProcess = ((((u.rehashNote t.id).sat1 FE_LEARN.NO_ROOM.COUNT).raiseO Ev.FE_LEARN.LEARN_NO_ROOM 0 none (some t.id)
      (some (t.hash 0 ev.key).1)).notify ev oNoRoom 0) := by
  rw [State.learnProcess, h]
  dsimp only
  rw [hu, hfind, hfree]

section
variable {sl : Nat} (hfind : u.findSlot true t (t.hash 0 ev.key).1 ev.key = some sl)
include hfind

omit h hu in
/-- The outcome of an event whose key stands in slot `sl`. -/
theorem State.learnOutcome_found : u.learnOutcome t ev =
    if bit (u.slotOf t sl) 61 then oStatic
    else if bits (u.slotOf t sl) 84 9 = ev.port then oDuplicate
    else if u.damped ev.key then oDamped
    else oMoved := by
  rw [State.learnOutcome, hfind]

theorem State.learnProcess_found {o : Nat} (ho : u.learnOutcome t ev = o) :
    s.learnProcess =
      (let d1 := ev.mac % 2 ^ 48 / 2 ^ 32 + ev.bd % 2 ^ 12 * 2 ^ 16
       let v := (u.dampMove ev.key).writeEntry t t.live sl (u.macEntry ev)
       let w := (v.inc FE_TCMD.LEARN_WRITES.COUNT 0 0 1).inc FE_LEARN.MOVED.COUNT 0 0 1
       if o = oStatic then (u.sat1 FE_LEARN.STATIC.COUNT).notify ev o 0
       else if o = oDuplicate then (u.sat1 FE_LEARN.DUPLICATE.COUNT).notify ev o 0
       else if o = oDamped then
         ((u.sat1 FE_LEARN.DAMPED.COUNT).raise Ev.FE_LEARN.MAC_MOVE_DAMPED 0 ev.port (ev.mac % 2 ^ 32) d1).notify ev o 0
       else (w.raise Ev.FE_LEARN.MAC_MOVE 0 ev.port (ev.mac % 2 ^ 32) d1).notify ev oMoved (bits (u.slotOf t sl) 84 9)) := by
  rw [State.learnProcess, h]
  dsimp only
  rw [hu, hfind, ho]

end

end

/-! ### Hit sets -/

section
variable {hit : HitSet} {hs : List HitSet} {t : Tbl} {u : State} (h : s.ln.hits = hit :: hs)
  (hu : ({ s with ln := { s.ln with hits := hs } } : State) = u) (ht : u.tblOf hit.table = some t)
include h hu ht

theorem State.hitWrite_of_table :
    s.hitWrite =
      if u.held t.id || (u.lockedSeg t (hit.slot / t.perLine)).isSome then u.hitLost t.id
      else
        let v := u.inc FE_TCMD.HIT_WRITES.COUNT 0 0 1
        if v.slotHolds t hit.slot hit.key then v.writeEntry t t.live hit.slot (setBit (v.slotOf t hit.slot) 62 true) else v := by
  rw [State.hitWrite, h]
  dsimp only
  rw [hu, ht]

end

/-! ### The ager -/

section
variable {w : AgeWalk} (hop : s.operating 71 = true) (hen : s.rfb FE_AGE.CTRL.ENABLE = true)
include hop hen

theorem State.ageTick_idle (hw : s.ln.walk = none) :
    s.ageTick =
      (let u := s.wf FE_AGE.NOW.TICKS (wrapAdd 16 (s.rf FE_AGE.NOW.TICKS) 1)
       { u with ln := { s.ln with walk := some ⟨u.agedTables, 0, s.cycle, false⟩ } }) := by
  rw [State.ageTick, if_neg (by simp [hop, hen])]
  show (match s.ln.walk with | none => _ | some w => _) = _
  rw [hw] <;> rfl

theorem State.ageTick_walking (hw : s.ln.walk = some w) :
    s.ageTick =
      (let u : State := { s.wf FE_AGE.NOW.TICKS (wrapAdd 16 (s.rf FE_AGE.NOW.TICKS) 1) with
         ln := { s.ln with walk := some { w with again := true } } }
       (u.sat1 FE_AGE.WALK_OVERRUN.COUNT).raise Ev.FE_AGE.WALK_OVERRUN 0 0 (u.rf FE_AGE.NOW.TICKS) (u.rf FE_AGE.LAST_WALK_US.US)) := by
  rw [State.ageTick, if_neg (by simp [hop, hen])]
  show (match s.ln.walk with | none => _ | some w => _) = _
  rw [hw] <;> rfl

theorem State.walkLine_done (hw : s.ln.walk = some w) (htbl : w.tables = []) : s.walkLine = s.walkEnd w := by
  rw [State.walkLine, hw]
  dsimp only
  rw [if_neg (by simp [hop, hen]), htbl]

theorem State.walkLine_line {id : Nat} {rest : List Nat} {t : Tbl} (hw : s.ln.walk = some w) (htbl : w.tables = id :: rest)
    (ht : s.tblOf id = some t) (hline : w.line < t.lines) (hheld : s.held id = false) (hmove : s.layoutMoving t = false) :
    s.walkLine =
      (let u := if (s.lockedSeg t w.line).isSome then s else (t.lineSlots w.line).foldl (fun s sl => s.walkEntry t sl) s
       { u with ln := { u.ln with walk := some { w with line := w.line + 1 } } }) := by
  rw [State.walkLine, hw]
  dsimp only
  rw [if_neg (by simp [hop, hen]), htbl]
  dsimp only
  rw [ht]
  dsimp only
  rw [if_neg (by simp [hline, hheld, hmove])]

end

theorem State.ageDeletion_of_table {id sl key : Nat} {refresh : Bool} {ds : List (Nat × Nat × Nat × Bool)} {t : Tbl} {u : State}
    (h : s.ln.dels = (id, sl, key, refresh) :: ds) (hu : ({ s with ln := { s.ln with dels := ds } } : State) = u)
    (ht : u.tblOf id = some t) :
    s.ageDeletion =
      if (u.lockedSeg t (t.hash 0 key).1).isSome || u.layoutMoving t then u
      else
        let v := u.inc FE_TCMD.AGER_WRITES.COUNT 0 0 1
        if refresh then v.ageRefresh t sl key else (v.ageDeleteAt t (v.findSlot true t (t.hash 0 key).1 key) true).1 := by
  rw [State.ageDeletion, h]
  dsimp only
  rw [hu, ht]

end

/-- The damping window of a key is over. -/
def State.dropDamp (s : State) (key : Nat) : State :=
  { s with ln := { s.ln with damps := s.ln.damps.filter (fun x => !decide (x.key = key)) } }

theorem State.dropDamp_advanceTo (s : State) (n key : Nat) :
    { s.advanceTo n with ln := { s.ln with damps := s.ln.damps.filter (fun x => !decide (x.key = key)) } } =
      (s.advanceTo n).dropDamp key := rfl

theorem execDampWindowExpire_open {s : State} {key : Nat} {d : Damp} (hfe : s.feOn = true)
    (hd : s.ln.damps.find? (fun d => decide (d.key = key)) = some d) :
    execDampWindowExpire key s = .next ((s.advanceTo (d.opened + cySec)).dropDamp key) := by
  rw [execDampWindowExpire, hfe, hd]
  rfl

theorem tableEngines : Claims.TableEngines := by
  intro s hfe
  have run {f : State → State} {t : State} (h : f s = t) : Host.Outcome.next (s.onFe f) = (.next t : Host.Outcome State Fault Refusal) :=
    congrArg Host.Outcome.next ((s.onFe_on f hfe).trans h)
  refine ⟨run ?_, fun id c t hc hwait hphase ht hfree => run (State.switchApply_free hc hwait hphase ht hfree),
    fun ev h => run (State.learnProcess_untabled h), fun ev t sl h hfind hfree => run (State.learnProcess_insert h rfl hfind hfree),
    fun ev t h => ?_, fun hit hs t h ht hlost => run ?_, fun hit hs t h ht hheld hlock => run ?_, fun key d hd => ?_⟩
  · rfl
  · intro u l d1
    refine ⟨fun hfind hfree => run (State.learnProcess_full h rfl hfind hfree), fun sl hfind => ?_⟩
    have houtcome := State.learnOutcome_found hfind
    refine ⟨fun hstatic => ?_, fun hstatic hport => ?_, fun hstatic hport hdamp => ?_, fun hstatic hport hdamp => ?_⟩
    · exact run ((State.learnProcess_found h rfl hfind (houtcome.trans (if_pos hstatic))).trans (if_pos rfl))
    · have ho := houtcome.trans ((if_neg (ne_true_of_eq_false hstatic)).trans (if_pos hport))
      exact run ((State.learnProcess_found h rfl hfind ho).trans ((if_neg (by decide)).trans (if_pos rfl)))
    · have ho := houtcome.trans ((if_neg (ne_true_of_eq_false hstatic)).trans ((if_neg hport).trans (if_pos hdamp)))
      exact run ((State.learnProcess_found h rfl hfind ho).trans ((if_neg (by decide)).trans ((if_neg (by decide)).trans (if_pos rfl))))
    · have ho := houtcome.trans
        ((if_neg (ne_true_of_eq_false hstatic)).trans ((if_neg hport).trans (if_neg (ne_true_of_eq_false hdamp))))
      exact run ((State.learnProcess_found h rfl hfind ho).trans
        ((if_neg (by decide)).trans ((if_neg (by decide)).trans (if_neg (by decide)))))
  · rw [State.hitWrite_of_table h rfl ht]
    exact if_pos (by simpa [Option.isSome_iff_ne_none] using hlost)
  · rw [State.hitWrite_of_table h rfl ht]
    exact if_neg (by simp [hheld, hlock])
  · intro u
    rw [s.dropDamp_advanceTo]
    exact execDampWindowExpire_open hfe hd

theorem agerCommands : Claims.AgerCommands := by
  intro s hfe
  have run {f : State → State} {t : State} (h : f s = t) : Host.Outcome.next (s.onFe f) = (.next t : Host.Outcome State Fault Refusal) :=
    congrArg Host.Outcome.next ((s.onFe_on f hfe).trans h)
  refine ⟨fun hop hen => ⟨fun hw => run (State.ageTick_idle hop hen hw), fun w hw => run ?_⟩,
    fun w hw hop hen => ⟨fun htbl => run (State.walkLine_done hop hen hw htbl),
      fun id rest t htbl ht hline hheld hmove => run (State.walkLine_line hop hen hw htbl ht hline hheld hmove)⟩,
    fun id sl key refresh ds t h ht => ?_⟩
  · refine (State.ageTick_walking hop hen hw).trans ?_
    rw [State.rf_sat1_ne (by decide), State.rf_sat1_ne (by decide)]
  · have hdel := State.ageDeletion_of_table h rfl ht
    refine ⟨fun hstop => run (hdel.trans (if_pos (by simpa [Option.isSome_iff_ne_none] using hstop))), fun hlock hmove => ?_⟩
    have hgo := hdel.trans (if_neg (by simp [hlock, hmove]))
    refine ⟨fun hr => run (hgo.trans (if_neg (ne_true_of_eq_false hr))), fun hr hholds => run ?_, fun hr hholds => run ?_⟩
    · exact (hgo.trans (if_pos hr)).trans (if_pos hholds)
    · exact (hgo.trans (if_pos hr)).trans (if_neg (ne_true_of_eq_false hholds))

/-- Settles O19: each engine over the branches that its work can take. -/
theorem tableAutonomous : Obligations.TableAutonomous := ⟨tableEngines, agerCommands⟩

end Sys2Proof.Machine
end

section
/-! PROOF. Errors of cells, the scrubs and the cell commands (R117 to R130, R185). -/

namespace Sys2Proof.Machine

section
variable {s : State} {n : Nat}

/-! ### The state of a cell written -/

theorem cellState_key_ne_spares (n : Nat) (hn : n < 2112) :
    FE_CELLS.CELL_STATE.STATE.key 0 n ≠ FE_CELLS.STRIP_STATUS.SPARES.key 0 (n / 132) := by
  simp only [Fld.key, FE_CELLS.CELL_STATE.STATE, FE_CELLS.STRIP_STATUS.SPARES, fldN]
  omega

theorem stripState_key_ne_spares (n : Nat) :
    FE_CELLS.STRIP_STATUS.STATE.key 0 (n / 132) ≠ FE_CELLS.STRIP_STATUS.SPARES.key 0 (n / 132) := by
  simp only [Fld.key, FE_CELLS.STRIP_STATUS.STATE, FE_CELLS.STRIP_STATUS.SPARES, fldN]
  omega

theorem stripState_key_ne_cellState (n : Nat) (hn : n < 2112) :
    FE_CELLS.STRIP_STATUS.STATE.key 0 (n / 132) ≠ FE_CELLS.CELL_STATE.STATE.key 0 n := by
  simp only [Fld.key, FE_CELLS.STRIP_STATUS.STATE, FE_CELLS.CELL_STATE.STATE, fldN]
  omega

theorem State.cellState_setCell (s : State) {v : Nat} (hn : n < 2112) (hv : v < 16) : (s.setCell n v).cellState n = v :=
  (State.rfp_wfp_ne _ _ _ _ _ _ _ _ (cellState_key_ne_spares n hn)).trans
    ((State.rfi_wfi_same _ _ _ _).trans (Nat.mod_eq_of_lt hv))

theorem State.stripState_setCell (s : State) (v : Nat) (hn : n < 2112) : (s.setCell n v).stripState (n / 132) = s.stripState (n / 132) :=
  (State.rfp_wfp_ne _ _ _ _ _ _ _ _ (stripState_key_ne_spares n)).trans
    (State.rfp_wfp_ne _ _ _ _ _ _ _ _ (stripState_key_ne_cellState n hn))

/-! ### Findings -/

section
variable {f : CellFinding} {unit c : Nat} (hn : n < 2112) (hreset : s.inReset 72 = false)
include hn hreset

theorem State.cellCheckError_slot {w : Nat} (hst : s.cellState n = csMapped) (hw : w < 256) :
    s.cellCheckError n (.slotCorrected w) unit = s.slotCorrected n w := by
  rw [State.cellCheckError, if_neg (by simp [hn, hreset])]
  exact if_pos (by simp [hst, hw])

/-- A finding that fences, by the state of its cell. -/
theorem State.cellCheckError_fence (hc : fenceCause f = some c) :
    s.cellCheckError n f unit =
      if s.cellState n = csMapped then s.fenceMapped n c none none
      else if s.cellState n = csRebuilding then s.fenceRebuilding n c
      else if s.cellState n = csTesting then s.freeVal.2.testFail n unit s.freeVal.1
      else if s.cellState n = csSpare then s.fenceNote n (if f = .selfTest then 6 else c) none
      else if s.cellState n = csTestedOk then s.fenceNote n c none
      else s := by
  rw [State.cellCheckError, if_neg (by simp [hn, hreset]), hc]

theorem State.cellCheckError_idle (hc : fenceCause f = some c) (hst : s.cellState n = csSpare ∨ s.cellState n = csTestedOk) :
    s.cellCheckError n f unit = s.fenceNote n c none := by
  have hself : (if f = .selfTest then 6 else c) = c := by
    split
    · rename_i h
      subst h
      exact Option.some.inj hc
    · rfl
  rw [State.cellCheckError_fence hn hreset hc, hself]
  rcases hst with h | h <;> rw [h] <;> rfl

end

theorem State.fencedActivity_of (hn : n < 2112) (hst : s.cellState n = csFenced) :
    s.fencedActivity n =
      if s.ca.spoke.contains n then s.sat1 FE_CELLS.FENCED_ACTIVITY.COUNT
      else
        let u := s.sat1 FE_CELLS.FENCED_ACTIVITY.COUNT
        ({ u with ca := { u.ca with spoke := u.ca.spoke ++ [n] } } : State).raise Ev.FE_CELLS.FENCED_CELL_ACTIVITY 0 0 n 0 := by
  have hca : (s.sat1 FE_CELLS.FENCED_ACTIVITY.COUNT).ca = s.ca := by
    rw [State.sat1, State.sat_frame]
  rw [State.fencedActivity, if_pos (by simp [hn, hst])]
  generalize s.sat1 FE_CELLS.FENCED_ACTIVITY.COUNT = u at hca ⊢
  simp only [hca]

theorem State.fenceMapped_run {c l : Nat} (hl : s.logicalOf n = some l) (hrun : s.stripState (n / 132) = stripRun) :
    s.fenceMapped n c none none =
      (let st := n / 132
       let r := s.stripRec st
       let u := s.setStripRec st { r with remaps := r.remaps ++
         [⟨l, s.cycle, none, none, 0, none, s.rfb FE_CELLS.CTRL.AUTO_REMAP, false, false⟩] }
       let v := (u.fenceNote n c (some (st * 128 + l))).sourceLost st l
       (((v.wfi FE_CELLS.STRIP_STATUS.STATE st stripRemap).dropStrip st).faultWindow st (st * 128 + l)).remapNext st (st * 128 + l)) := by
  rw [State.fenceMapped, hl]
  dsimp only
  rw [if_pos hrun, Option.isSome_none, Bool.or_false]

end

theorem cellFindings : Claims.CellFindings := by
  intro s n unit f hfe
  have run {f : State → State} {t : State} (h : f s = t) : Host.Outcome.next (s.onFe f) = (.next t : Host.Outcome State Fault Refusal) :=
    congrArg Host.Outcome.next ((s.onFe_on f hfe).trans h)
  refine ⟨fun hn hreset => ⟨fun c l hc hst hl hrun => run (congrArg State.dmaDrain ?_), fun c hc hst => run (congrArg State.dmaDrain ?_),
    fun c hc hst => run (congrArg State.dmaDrain ?_), fun c hc hst => run (congrArg State.dmaDrain ?_), fun w hf hst hw => ?_⟩,
    fun errs => run ?_, fun l w hl hw => ⟨run ?_, run ?_⟩, fun hn hst => ⟨fun hspoke => run ?_, fun hspoke => ?_⟩⟩
  · rw [State.cellCheckError_fence hn hreset hc, if_pos hst]
    exact State.fenceMapped_run hl hrun
  · exact State.cellCheckError_idle hn hreset hc hst
  · rw [State.cellCheckError_fence hn hreset hc, hst]
    rfl
  · rw [State.cellCheckError_fence hn hreset hc, hst]
    rfl
  · subst hf
    exact run (congrArg State.dmaDrain (State.cellCheckError_slot hn hreset hst hw))
  · refine congrArg (fun g => errs.foldl g s) (funext fun u => funext fun e => ?_)
    simp only [Bool.and_eq_true, decide_eq_true_eq, and_assoc]
    rfl
  · exact if_pos (by simp [hl, hw])
  · exact if_neg (by simp)
  · rw [State.fencedActivity_of hn hst]
    exact if_pos hspoke
  · refine ⟨_, rfl, run ?_⟩
    rw [State.fencedActivity_of hn hst]
    exact if_neg (ne_true_of_eq_false hspoke)

/-! ### Commands -/

section
variable {s : State} {id : Nat} {c : Cmd} (hc : s.cmd id = some c) (hmay : s.mayStart c = true)
include hc hmay

/-- CELL_REMAP of a strip whose spare has been judged. -/
theorem State.cellRemap_judged {st l pos : Nat} {want : Option Nat} (hop : c.opcode = 0x40) (hlg : c.bits 64 11 = st * 128 + l)
    (hl : l < 128) (hst : s.stripState st ≠ stripRemap) (hlost : s.slotStoreLost (c.bits 64 11) = false) (hpos : c.bits 128 8 = pos)
    (hwant : pos = 0xFF ∧ want = none ∨ pos < 132 ∧ want = some pos) :
    s.cellRemap id =
      if (s.spareFor st want).isNone then s.finishR id stNotFound 0 0
      else if s.cellState (s.physOf st l) = csMapped then (s.begin id).fenceMapped (s.physOf st l) 5 (some id) want
      else
        let u := (s.begin id).updRemap st l (fun m => { m with cmd := some id, want := want, auto := true })
        match u.spareFor st want with
        | some x => u.remapTake st l x
        | none => u := by
  have hdiv : (st * 128 + l) / 128 = st := by omega
  have hmod : (st * 128 + l) % 128 = l := by omega
  have hw : (if pos = 0xFF then none else some pos) = want := by
    rcases hwant with ⟨hff, hwant⟩ | ⟨hlt, hwant⟩
    · rw [if_pos hff, hwant]
    · rw [if_neg (by omega), hwant]
  rw [State.cellRemap, State.startable_of hc hmay (by simp [hop])]
  dsimp only
  rw [hpos, hlost, hlg, hdiv, hmod, hw, if_neg (by simp; omega), if_neg hst] <;> rfl

theorem State.cellTest_idle {n : Nat} (hop : c.opcode = 0x42) (hcn : c.bits 64 12 = n) (hn : n < 2112)
    (hst : s.cellState n = csFenced ∨ s.cellState n = csSpare ∨ s.cellState n = csTestedOk) :
    s.cellTest id = ({ (s.begin id).setCell n csTesting with
      ca := { s.ca with tests := s.ca.tests ++ [⟨n, s.cellState n, some id⟩] } } : State).arm .cellTest n cyMs := by
  rw [State.cellTest, State.startable_of hc hmay (by simp [hop])]
  dsimp only
  rw [hcn, if_neg (by omega), if_pos (by simpa [or_assoc] using hst)] <;> rfl

theorem State.cellTest_busy {n : Nat} (hop : c.opcode = 0x42) (hcn : c.bits 64 12 = n) (hn : n < 2112)
    (hst : s.cellState n = csMapped ∨ s.cellState n = csRebuilding ∨ s.cellState n = csTesting) :
    s.cellTest id = s.finishR id stInvalid 4 0 := by
  rw [State.cellTest, State.startable_of hc hmay (by simp [hop])]
  dsimp only
  rw [hcn, if_neg (by omega)]
  rcases hst with h | h | h <;> rw [h] <;> rfl

theorem State.cellTest_range (hop : c.opcode = 0x42) (hn : 2112 ≤ c.bits 64 12) : s.cellTest id = s.finishR id stInvalid 2 0 := by
  rw [State.cellTest, State.startable_of hc hmay (by simp [hop])]
  exact if_pos hn

theorem State.cellUnfence_range (hop : c.opcode = 0x41) (hn : 2112 ≤ c.bits 64 12) : s.cellUnfence id = s.finishR id stInvalid 2 0 := by
  rw [State.cellUnfence, State.startable_of hc hmay (by simp [hop])]
  exact if_pos hn

theorem State.cellUnfence_fenced {n : Nat} (hop : c.opcode = 0x41) (hcn : c.bits 64 12 = n) (hn : n < 2112)
    (hst : s.cellState n = csFenced) : s.cellUnfence id = s.finishR id stInvalid 3 0 := by
  rw [State.cellUnfence, State.startable_of hc hmay (by simp [hop])]
  dsimp only
  rw [hcn, if_neg (by omega), if_pos hst]

theorem State.cellUnfence_tested {n : Nat} {u : State} (hop : c.opcode = 0x41) (hcn : c.bits 64 12 = n) (hn : n < 2112)
    (hst : s.cellState n = csTestedOk) (hup : s.stripState (n / 132) ≠ stripDown) (hu : s.setCell n csSpare = u) :
    s.cellUnfence id =
      ({ u with flash := { u.flash with faults := u.flash.faults.filter (fun x => !decide (x = n)) } } : State).finishR id stOK 0 0 := by
  have hstill : u.stripState (n / 132) ≠ stripDown := by
    rw [← hu, State.stripState_setCell s _ hn]
    exact hup
  rw [State.cellUnfence, State.startable_of hc hmay (by simp [hop])]
  dsimp only
  rw [hcn, if_neg (by omega), if_neg (by simp [hst, csTestedOk, csFenced]), if_neg (by simp [hst]), hu]
  exact congrArg (State.finishR · id stOK 0 0) (if_neg hstill)

end

theorem State.setCell_frame (s : State) (n v : Nat) : s.setCell n v = { s with regs := (s.setCell n v).regs } := rfl

/-- What a test that starts leaves, for a limit of `k` cycles. -/
theorem State.testing_frame (s : State) {id n k : Nat} {ca : CellArr} (hn : n < 2112) :
    let t := ({ (s.begin id).setCell n csTesting with ca := ca } : State).arm .cellTest n k
    t.cellState n = csTesting ∧ t.timerAt .cellTest n = some (s.cycle + k) ∧ t.ca = ca ∧
      t = { s with regs := t.regs, ca := t.ca, hc := t.hc, timers := t.timers } := by
  have hcell := (s.begin id).cellState_setCell hn (v := csTesting) (by decide)
  rw [State.setCell_frame] at hcell ⊢
  generalize ((s.begin id).setCell n csTesting).regs = m at hcell ⊢
  exact ⟨hcell, State.timerAt_arm_same _ _ _ _, rfl, rfl⟩

theorem cellCommands : Claims.CellCommands := by
  intro s id c hfe hc hmay
  have run {f : State → State} {t : State} (h : f s = t) : Host.Outcome.next (s.onFe f) = (.next t : Host.Outcome State Fault Refusal) :=
    congrArg Host.Outcome.next ((s.onFe_on f hfe).trans h)
  refine ⟨fun hop st l hlg hl hst hlost want hwant => ?_, fun hop hn => ⟨fun hst => ?_, fun hst =>
      run (State.cellTest_busy hc hmay hop rfl hn hst)⟩,
    fun hop hn => ⟨fun hst hup => ?_, fun hst => run (State.cellUnfence_fenced hc hmay hop rfl hn hst)⟩, fun hop hn => ?_⟩
  · have hgo := State.cellRemap_judged hc hmay hop hlg hl hst hlost rfl hwant
    refine ⟨fun x hx hmap => run (hgo.trans ?_), fun x hx hmap => ?_, fun hx => run (hgo.trans (if_pos (by simp [hx])))⟩
    · exact (if_neg (by simp [hx])).trans (if_pos hmap)
    · intro u hu
      refine run (hgo.trans (((if_neg (by simp [hx])).trans (if_neg hmap)).trans ?_))
      show (match u.spareFor st want with | some x => _ | none => _) = _
      rw [hu]
  · obtain ⟨hcell, htimer, hca, hframe⟩ := s.testing_frame (id := id) (k := cyMs)
      (ca := { s.ca with tests := s.ca.tests ++ [⟨c.bits 64 12, s.cellState (c.bits 64 12), some id⟩] }) hn
    exact ⟨_, run (State.cellTest_idle hc hmay hop rfl hn hst), hcell, htimer, hca, hframe⟩
  · exact ⟨_, rfl, State.stripState_setCell s _ hn, State.cellState_setCell s hn (by decide),
      run (State.cellUnfence_tested hc hmay hop rfl hn hst hup rfl)⟩
  · rcases hop with hop | hop
    · rw [if_pos hop]
      exact run (State.cellUnfence_range hc hmay hop hn)
    · rw [if_neg (by simp [hop])]
      exact run (State.cellTest_range hc hmay hop hn)

/-- Settles O11: each finding by the state of its cell, each command by the check it meets. -/
theorem cellEvents : Obligations.CellEvents := ⟨cellFindings, cellCommands⟩

end Sys2Proof.Machine
end

section
/-! PROOF. Table commands (R190 to R195). -/

namespace Sys2Proof.Machine

section
variable {s : State} {id : Nat} {c : Cmd} (hc : s.cmd id = some c) (hmay : s.mayStart c = true)
include hc hmay

/-! ### Commands that write -/

/-- What an accepted command leaves, by the check it meets. -/
def State.tblQueued (s : State) (id : Nat) (c : Cmd) (fetched : Nat) : State :=
  match s.tblCheck c fetched with
  | .error (st, d) => s.finishR id st d 0
  | .ok _ => { s.begin id with tm := { s.tm with wq := s.tm.wq ++ [(id, fetched)] } }

/-- The command fetches an entry of 64 bytes first. -/
def State.fetchesEntry (s : State) (c : Cmd) (op : Nat) : Bool :=
  match s.tblOf c.tblId with
  | some t => decide (t.bytes = 64) && decide (op = opModify)
  | none => false

/-- The entry that a command's read has brought. -/
def fetchedEntry : ReadResult → Nat
  | .data bs => leNat (bs.take 64)
  | .fail => 0

theorem State.tblAccept_eq {op : Nat} (r : ReadResult) (hop : c.opcode = op) :
    s.tblAccept id op r =
      (let u := if s.fetchesEntry c op then s.emit (.hostRead (c.bits 128 64) 64) else s
       if s.fetchesEntry c op && decide (r = .fail) then u.finishR id stInvalid 26 0 else u.tblQueued id c (fetchedEntry r)) := by
  unfold State.tblAccept
  rw [State.startable_of hc hmay (by simp [hop])]
  cases r <;> rfl

theorem State.tblAccept_small {op : Nat} (r : ReadResult) (hop : c.opcode = op) (hbig : s.fetchesEntry c op = false) :
    s.tblAccept id op r = s.tblQueued id c (fetchedEntry r) := by
  rw [State.tblAccept_eq hc hmay r hop, hbig]
  rfl

theorem State.tblAccept_big {op : Nat} (bs : Bytes) (hop : c.opcode = op) (hbig : s.fetchesEntry c op = true) :
    s.tblAccept id op (.data bs) = (s.emit (.hostRead (c.bits 128 64) 64)).tblQueued id c (leNat (bs.take 64)) ∧
      s.tblAccept id op .fail = (s.emit (.hostRead (c.bits 128 64) 64)).finishR id stInvalid 26 0 := by
  rw [State.tblAccept_eq hc hmay _ hop, State.tblAccept_eq hc hmay _ hop, hbig]
  exact ⟨rfl, rfl⟩

omit hc hmay in
theorem State.fetchesEntry_other {op : Nat} (h : op ≠ opModify) : s.fetchesEntry c op = false := by
  rw [State.fetchesEntry]
  split
  · simp [h]
  · rfl

omit hc hmay in
theorem State.fetchesEntry_small (h : ∀ t, s.tblOf c.tblId = some t → t.bytes ≠ 64) : s.fetchesEntry c opModify = false := by
  rw [State.fetchesEntry]
  split
  · rename_i t ht
    simp [h t ht]
  · rfl

omit hc hmay in
theorem State.fetchesEntry_big {t : Tbl} (ht : s.tblOf c.tblId = some t) (hbytes : t.bytes = 64) : s.fetchesEntry c opModify = true := by
  rw [State.fetchesEntry, ht]
  simp [hbytes]

/-! ### Commands that read, and the switch -/

theorem State.tblRead_refused {op st d : Nat} (hop : c.opcode = op) (hcheck : s.tblCheck c 0 = .error (st, d)) :
    s.tblRead id op = s.finishR id st d 0 := by
  rw [State.tblRead, State.startable_of hc hmay (by simp [hop])]
  dsimp only
  rw [hcheck]

theorem State.tblSwitch_refused {st d : Nat} (hop : c.opcode = opSwitch) (hcheck : s.tblCheck c 0 = .error (st, d)) :
    s.tblSwitch id = s.finishR id st d 0 := by
  rw [State.tblSwitch, State.startable_of hc hmay (by simp [hop])]
  dsimp only
  rw [hcheck]

section
variable {t : Tbl} (hcheck : s.tblCheck c 0 = .ok t)
include hcheck

theorem State.tblRead_locked {op k : Nat} (hop : c.opcode = op) (hlock : s.lockedSeg t (s.cmdLine c t) = some k) :
    s.tblRead id op = s.finishR id stLocked k 0 := by
  rw [State.tblRead, State.startable_of hc hmay (by simp [hop])]
  dsimp only
  rw [hcheck]
  dsimp only
  rw [hlock]

/-- A read whose segment is not locked. -/
theorem State.tblRead_open {op : Nat} (hop : c.opcode = op) (hlock : s.lockedSeg t (s.cmdLine c t) = none) :
    s.tblRead id op =
      if op = opLookup then
        match s.findSlot false t (s.cmdKey c t).1 (s.cmdKey c t).2 with
        | none => s.finishR id stNotFound 0 0
        | some sl => if s.entryLost t sl then s.finishR id stEccFail 0 0 else s.tblReturn c t sl stOK
      else if s.entryLost t c.index then s.finishR id stEccFail 0 0
      else if t.hashed && !t.occupied (s.slotOf t c.index) then s.finishR id stNotFound 0 0
      else s.tblReturn c t c.index stOK := by
  rw [State.tblRead, State.startable_of hc hmay (by simp [hop])]
  dsimp only
  rw [hcheck]
  dsimp only
  rw [hlock] <;> rfl

theorem State.tblSwitch_busy (hop : c.opcode = opSwitch)
    (hst : s.epochState = esStaging ∨ s.epochState = esStaged ∨ s.layoutMoving t = true) :
    s.tblSwitch id = s.finishR id stEpochBusy 0 0 := by
  rw [State.tblSwitch, State.startable_of hc hmay (by simp [hop])]
  dsimp only
  rw [hcheck]
  exact if_pos (by simpa [or_assoc] using hst)

theorem State.tblSwitch_taken (hop : c.opcode = opSwitch) (hstaging : s.epochState ≠ esStaging) (hstaged : s.epochState ≠ esStaged)
    (hmove : s.layoutMoving t = false) (hused : (t.region (!t.live)).used = true) (hmult : c.bits 192 64 % 2 = 1)
    (hlines : c.bits 256 32 ≠ 0) (hmin : t.minLines ≤ c.bits 256 32) (hmax : c.bits 256 32 ≤ t.capacity (!t.live))
    (hlocks : s.tm.locks.filter (fun x => decide (x.dir = t.dir) && decide (x.table = t.id) && decide (x.reg = t.region (!t.live))) = []) :
    s.tblSwitch id = { s.begin id with tm := { s.tm with switches := s.tm.switches ++ [id] } } := by
  have hgood : ¬ (!(t.region (!t.live)).used || decide (c.bits 192 64 % 2 = 0) || decide (c.bits 256 32 = 0) ||
      decide (c.bits 256 32 < t.minLines) || decide (t.capacity (!t.live) < c.bits 256 32)) = true := by
    simp [hused, hmult, hlines, hmin, hmax]
  rw [State.tblSwitch, State.startable_of hc hmay (by simp [hop])]
  dsimp only
  rw [hcheck]
  dsimp only
  rw [if_neg (by simp [hstaging, hstaged, hmove]), if_neg hgood, hlocks] <;> rfl

end

end

theorem tableCommands : Claims.TableCommands := by
  intro s id c hfe hc hmay
  have run {f : State → State} {t : State} (h : f s = t) : Host.Outcome.next (s.onFe f) = (.next t : Host.Outcome State Fault Refusal) :=
    congrArg Host.Outcome.next ((s.onFe_on f hfe).trans h)
  have write {op : Nat} (hop : c.opcode = op) (h : op ≠ opModify) : s.tblAccept id op .fail = s.tblQueued id c 0 :=
    State.tblAccept_small hc hmay .fail hop (State.fetchesEntry_other h)
  refine ⟨fun hop => run (write hop (by decide)), fun hop => run (write hop (by decide)), fun hop => run (write hop (by decide)),
    fun hop => run (write hop (by decide)), fun hop bs => ⟨fun hsmall => ?_, fun t ht hbytes => ?_⟩, fun st d hcheck => ?_,
    fun t hcheck => ?_⟩
  · exact run (State.tblAccept_small hc hmay (.data bs) hop (State.fetchesEntry_small hsmall))
  · obtain ⟨hdata, hfail⟩ := State.tblAccept_big hc hmay bs hop (State.fetchesEntry_big ht hbytes)
    exact ⟨run hdata, run hfail⟩
  · exact ⟨fun hop => run (State.tblRead_refused hc hmay hop hcheck), fun hop => run (State.tblRead_refused hc hmay hop hcheck),
      fun hop => run (State.tblSwitch_refused hc hmay hop hcheck)⟩
  · refine ⟨fun k hlock => ⟨fun hop => run (State.tblRead_locked hc hmay hcheck hop hlock),
        fun hop => run (State.tblRead_locked hc hmay hcheck hop hlock)⟩, fun hop hlock => run ?_, fun hop hlock hlost hocc => run ?_,
      fun hop hlock hlost => run ?_, fun hop hlock hlost hhash hocc => run ?_, fun hop hst =>
        run (State.tblSwitch_busy hc hmay hcheck hop hst),
      fun hop hstaging hstaged hmove hused hmult hlines hmin hmax hlocks =>
        run (State.tblSwitch_taken hc hmay hcheck hop hstaging hstaged hmove hused hmult hlines hmin hmax hlocks)⟩
    · exact (State.tblRead_open hc hmay hcheck hop hlock).trans (if_pos rfl)
    · rw [State.tblRead_open hc hmay hcheck hop hlock, if_neg (by decide), if_neg (by simp [hlost]),
        if_neg (by rcases hocc with h | h <;> simp [h])]
    · rw [State.tblRead_open hc hmay hcheck hop hlock, if_neg (by decide), if_pos hlost]
    · rw [State.tblRead_open hc hmay hcheck hop hlock, if_neg (by decide), if_neg (by simp [hlost]), if_pos (by simp [hhash, hocc])]

end Sys2Proof.Machine
end

section
/-! PROOF. Direct access to table memory: BAR2, segment locks, the hold and the scrub (R184 to R188, R196, R198, R210). -/

namespace Sys2Proof.Machine

/-! ### Segment locks -/

section
variable {s : State}

/-- The fields of LOCK_CTRL written. -/
def State.lockFields (s : State) (v : Nat) : State :=
  (((((s.wf FE_TDMA.LOCK_CTRL.TABLE_ID (bits v 0 8)).wf FE_TDMA.LOCK_CTRL.REGION (bits v 8 1)).wf
    FE_TDMA.LOCK_CTRL.STAGED (bits v 9 1)).wf FE_TDMA.LOCK_CTRL.OP (bits v 10 1)).wf FE_TDMA.LOCK_CTRL.FIRST_SEG (bits v 16 8)).wf
    FE_TDMA.LOCK_CTRL.LAST_SEG (bits v 24 8)

theorem State.lockCtrl_go {v : Nat} (hopen : s.blockOpen 69 = true) (hgo : bit v 11 = true) :
    s.lockCtrl v = (match (s.lockFields v).lockTarget with
      | some (t, r) =>
        if bits v 24 8 < bits v 16 8 then (s.lockFields v).raise Ev.FE_TDMA.LOCK_REFUSED 0 0 v 0
        else (s.lockFields v).setLocks t r (bits v 16 8) (bits v 24 8) (bit v 10)
      | none => (s.lockFields v).raise Ev.FE_TDMA.LOCK_REFUSED 0 0 v 0).showLocks := by
  rw [State.lockCtrl, if_neg (by simp [hopen])]
  exact congrArg State.showLocks ((if_pos hgo).trans rfl)

theorem State.lockCtrl_taken {v : Nat} {t : Tbl} {r : Bool} (hopen : s.blockOpen 69 = true) (hgo : bit v 11 = true)
    (ht : (s.lockFields v).lockTarget = some (t, r)) (hle : bits v 16 8 ≤ bits v 24 8) :
    s.lockCtrl v = ((s.lockFields v).setLocks t r (bits v 16 8) (bits v 24 8) (bit v 10)).showLocks := by
  rw [State.lockCtrl_go hopen hgo, ht]
  exact congrArg State.showLocks (if_neg (by omega))

theorem State.lockCtrl_refused {v : Nat} (hopen : s.blockOpen 69 = true) (hgo : bit v 11 = true)
    (h : (s.lockFields v).lockTarget = none ∨ bits v 24 8 < bits v 16 8) :
    s.lockCtrl v = ((s.lockFields v).raise Ev.FE_TDMA.LOCK_REFUSED 0 0 v 0).showLocks := by
  rw [State.lockCtrl_go hopen hgo]
  refine congrArg State.showLocks ?_
  split
  · rename_i t r ht
    refine if_pos (h.resolve_left ?_)
    rw [ht]
    exact Option.some_ne_none _
  · rfl

/-- The control word of a lock or an unlock command. -/
def lockWord (ctrl : Nat) (op : Bool) : Nat := setBit (setBit (ctrl % 2 ^ 32) 11 true) 10 op

theorem bit_lockWord_go (ctrl : Nat) (op : Bool) : bit (lockWord ctrl op) 11 = true := by
  rw [lockWord, bit_setBit_apart _ _ (by decide), bit_setBit_same]

theorem bit_lockWord_op (ctrl : Nat) (op : Bool) : bit (lockWord ctrl op) 10 = op := bit_setBit_same _ _ _

theorem bits_lockWord (ctrl : Nat) (op : Bool) {lo : Nat} (hlo : 12 ≤ lo) (hhi : lo + 8 ≤ 32) : bits (lockWord ctrl op) lo 8 = bits ctrl lo 8 := by
  rw [lockWord, bits_setBit_apart _ _ (by omega), bits_setBit_apart _ _ (by omega), bits_mod_two_pow _ hhi]

theorem State.lockCtrl_word_taken {ctrl : Nat} {op : Bool} {t : Tbl} {r : Bool} (hopen : s.blockOpen 69 = true)
    (ht : (s.lockFields (lockWord ctrl op)).lockTarget = some (t, r)) (hle : bits ctrl 16 8 ≤ bits ctrl 24 8) :
    s.lockCtrl (lockWord ctrl op) =
      ((s.lockFields (lockWord ctrl op)).setLocks t r (bits ctrl 16 8) (bits ctrl 24 8) op).showLocks := by
  have hgo := State.lockCtrl_taken hopen (bit_lockWord_go ctrl op) ht
  rw [bits_lockWord ctrl op (by decide) (by decide), bits_lockWord ctrl op (by decide) (by decide), bit_lockWord_op] at hgo
  exact hgo hle

theorem State.lockCtrl_word_refused {ctrl : Nat} {op : Bool} (hopen : s.blockOpen 69 = true)
    (h : (s.lockFields (lockWord ctrl op)).lockTarget = none ∨ bits ctrl 24 8 < bits ctrl 16 8) :
    s.lockCtrl (lockWord ctrl op) =
      ((s.lockFields (lockWord ctrl op)).raise Ev.FE_TDMA.LOCK_REFUSED 0 0 (lockWord ctrl op) 0).showLocks := by
  refine State.lockCtrl_refused hopen (bit_lockWord_go ctrl op) ?_
  rwa [bits_lockWord ctrl op (by decide) (by decide), bits_lockWord ctrl op (by decide) (by decide)]

/-! ### BAR2 -/

theorem State.bar2Write_held {off width v : Nat} (h : s.dmaStops off = true ∨ s.tm.dmaHeld ≠ []) :
    s.bar2Write off width v = { s with tm := { s.tm with dmaHeld := s.tm.dmaHeld ++ [(off, width, v)] } } :=
  if_pos (by rcases h with h | h <;> simp [h])

theorem State.bar2Write_free {off : Nat} (width v : Nat) (hstop : s.dmaStops off = false) (hheld : s.tm.dmaHeld = []) :
    s.bar2Write off width v = s.bar2Take off width v := if_neg (by simp [hstop, hheld])

theorem State.bar2Take_words {off width v : Nat} (hop : s.operating 69 = true) (hoff : off % 4 = 0) (hwidth : width % 4 = 0)
    (hpos : 0 < width) :
    s.bar2Take off width v = (List.range (width / 4)).foldl (fun s k => s.bar2Word (off + 4 * k) (bits v (32 * k) 32)) s :=
  (if_neg (by simp [hop])).trans (if_neg (by simp [hoff, hwidth]; omega))

theorem State.bar2Take_misfit {off width v : Nat} (hop : s.operating 69 = true) (h : off % 4 ≠ 0 ∨ width % 4 ≠ 0 ∨ width = 0) :
    s.bar2Take off width v = s.accessErr 69 1 off v :=
  (if_neg (by simp [hop])).trans (if_pos (by rcases h with h | h | h <;> simp [h]))

theorem State.bar2Take_word {off v : Nat} (hop : s.operating 69 = true) (hoff : off % 4 = 0) (hv : v < 2 ^ 32) :
    s.bar2Take off 4 v = s.bar2Word off v := by
  rw [State.bar2Take_words hop hoff (by decide) (by decide)]
  show s.bar2Word off (bits v 0 32) = _
  rw [bits_eq_div_mod, pow_zero, Nat.div_one, Nat.mod_eq_of_lt hv]

theorem State.bar2Word_reserved {off v : Nat} (h : bar2Of off = none) : s.bar2Word off v = s.accessErr 69 2 off v := by
  rw [State.bar2Word, h]

theorem State.bar2Word_line {off v d c ln w : Nat} (h : bar2Of off = some (d, c, ln, w)) :
    s.bar2Word off v =
      if s.lineLocked d c ln then (s.writeLine d c ln (32 * w) 32 v).inc FE_TDMA.DMA_WORDS.COUNT 0 0 1
      else ((s.sat1 FE_TDMA.DMA_UNLOCKED.COUNT).wf FE_TDMA.DMA_LAST_DISCARD.OFFSET off).raise Ev.FE_TDMA.DMA_UNLOCKED 0 0 off v := by
  rw [State.bar2Word, h]

theorem State.bar2Read_line {off d c ln w : Nat} (h : bar2Of off = some (d, c, ln, w)) :
    s.bar2Read off =
      if s.wordLost d c ln w then (s.raise Ev.FE_TDMA.DMA_UNCORRECTABLE 0 0 (off / 4 * 4) 0).emit (.readData 0xFFFFFFFF)
      else s.emit (.readData (bits (s.line d c ln) (32 * w) 32)) := by
  rw [State.bar2Read, h]

theorem State.bar2Read_reserved {off : Nat} (h : bar2Of off = none) : s.bar2Read off = s.emit (.readData 0) := by
  rw [State.bar2Read, h]

/-! ### The hold -/

theorem State.holdWrite_frame {v : Nat} (hopen : s.blockOpen 68 = true) :
    s.holdWrite v = { s with regs := (s.holdWrite v).regs } ∧
      (s.holdWrite v).rf FE_TCMD.HOLD.TABLE = v % 256 ∧ (s.holdWrite v).rf FE_TCMD.HOLD.ENABLE = v / 256 % 2 ∧
      (¬ (v % 256 = s.rf FE_TCMD.HOLD.TABLE ∧ v / 256 % 2 = 1) → (s.holdWrite v).rf FE_TCMD.HOLD.ACTIVE = 0) := by
  have htable : bits v 0 8 = v % 256 := (bits_eq_div_mod v 0 8).trans (congrArg (· % 256) (Nat.div_one v))
  have hen : bits v 8 1 = v / 256 % 2 := bits_eq_div_mod v 8 1
  have heq : s.holdWrite v = if (decide (bits v 0 8 = s.rf FE_TCMD.HOLD.TABLE) && bit v 8) = true then
      (s.wf FE_TCMD.HOLD.TABLE (bits v 0 8)).wf FE_TCMD.HOLD.ENABLE (bits v 8 1)
      else ((s.wf FE_TCMD.HOLD.TABLE (bits v 0 8)).wf FE_TCMD.HOLD.ENABLE (bits v 8 1)).wf FE_TCMD.HOLD.ACTIVE 0 := if_neg (by simp [hopen])
  rw [heq, htable, hen]
  split
  · rename_i hsame
    refine ⟨rfl, ?_, ?_, fun h => absurd ?_ h⟩
    · simp (disch := decide) only [State.rf_wf_ne, State.rf_wf_same]
      exact Nat.mod_mod _ _
    · simp (disch := decide) only [State.rf_wf_same]
      exact Nat.mod_mod _ _
    · simpa [bit, Nat.testBit_eq_decide_div_mod_eq] using hsame
  · refine ⟨rfl, ?_, ?_, fun _ => ?_⟩
    · simp (disch := decide) only [State.rf_wf_ne, State.rf_wf_same]
      exact Nat.mod_mod _ _
    · simp (disch := decide) only [State.rf_wf_ne, State.rf_wf_same]
      exact Nat.mod_mod _ _
    · simp (disch := decide) only [State.rf_wf_same]
      rfl

theorem State.holdDrained_free (hen : s.rfb FE_TCMD.HOLD.ENABLE = true) (hfree : ∀ d ∈ s.ln.dels, d.1 ≠ s.rf FE_TCMD.HOLD.TABLE) :
    s.holdDrained = s.wf FE_TCMD.HOLD.ACTIVE 1 := by
  have hany : s.ln.dels.any (fun d => decide (d.1 = s.rf FE_TCMD.HOLD.TABLE)) = false :=
    List.any_eq_false.2 fun d hd => by simpa using hfree d hd
  exact if_pos (by rw [hen, hany]; rfl)

/-! ### The scrub of a line -/

theorem Ecc.bad_set_ne (e : Ecc) {w x : Nat} (b : Bool) (h : x ≠ w) : (e.set w b).bad x = e.bad x := by
  rw [Ecc.set]
  split
  · rfl
  · split
    · simp [Ecc.bad, h]
    · simp [Ecc.bad, h]

theorem State.wordBad_markWord_ne (st c ln : Nat) {w x : Nat} (b : Bool) (h : x ≠ w) :
    (s.markWord st c ln w b).wordBad st c ln x = s.wordBad st c ln x := by
  rw [State.wordBad, State.eccOf, State.markWord, SMap.upd, SMap.get_put_same, Ecc.bad_set_ne _ _ (by omega)]
  rfl

theorem State.wordBad_congr {t : State} (h : t.tm = s.tm) (st c ln w : Nat) : t.wordBad st c ln w = s.wordBad st c ln w := by
  rw [State.wordBad, State.wordBad, State.eccOf, State.eccOf, h]

theorem State.tm_sat (f : Fld) (p i n : Nat) : (s.sat f p i n).tm = s.tm := by
  rw [State.sat_frame]

/-- What the scrub makes of an uncorrectable word: counted when it is lost in every replica, repaired otherwise. -/
def State.scrubWord (st c ln : Nat) (lost : Nat → Bool) (u : State) (w : Nat) : State :=
  if lost w then u.sat1 FE_TCMD.SCRUB_UNC.COUNT else (u.markWord st c ln w false).sat1 FE_TCMD.SCRUB_REPAIRED.COUNT

theorem State.wordBad_scrubWord (st c ln : Nat) (lost : Nat → Bool) {w x : Nat} (h : x ≠ w) :
    (State.scrubWord st c ln lost s w).wordBad st c ln x = s.wordBad st c ln x := by
  rw [State.scrubWord]
  split
  · exact State.wordBad_congr (State.tm_sat _ _ _ _) _ _ _ _
  · exact (State.wordBad_congr (State.tm_sat _ _ _ _) _ _ _ _).trans (State.wordBad_markWord_ne _ _ _ _ h)

/-- Words are scrubbed apart: the words to scrub are those that were bad before. -/
theorem State.foldl_scrubWord (st c ln : Nat) (lost bad : Nat → Bool) (ws : List Nat) (hnd : ws.Nodup) (u : State)
    (hbad : ∀ w ∈ ws, u.wordBad st c ln w = bad w) :
    ws.foldl (fun u w => if !u.wordBad st c ln w then u else State.scrubWord st c ln lost u w) u =
      (ws.filter bad).foldl (State.scrubWord st c ln lost) u := by
  induction ws generalizing u with
  | nil => rfl
  | cons w ws ih =>
    obtain ⟨hw, hws⟩ := List.nodup_cons.1 hnd
    have hhead := hbad w (List.mem_cons_self ..)
    have htail : ∀ x ∈ ws, u.wordBad st c ln x = bad x := fun x hx => hbad x (List.mem_cons_of_mem _ hx)
    rw [List.foldl_cons, hhead]
    cases hb : bad w with
    | false =>
      rw [List.filter_cons_of_neg (by simp [hb])]
      exact ih hws u htail
    | true =>
      rw [List.filter_cons_of_pos hb, List.foldl_cons]
      refine ih hws _ fun x hx => ?_
      have hne : x ≠ w := fun h => hw (h ▸ hx)
      exact (State.wordBad_scrubWord st c ln lost hne).trans (htail x hx)

/-- The scrub's pass over the words of a line: the words lost in every replica are counted, the other bad ones repaired. -/
theorem State.foldl_scrubLine (st c ln : Nat) (lost bad : Nat → Bool) (u : State)
    (hbad : ∀ w ∈ List.range 8, u.wordBad st c ln w = bad w) :
    (List.range 8).foldl (fun u w => if !u.wordBad st c ln w then u
      else if ((List.range 8).filter (fun w => lost w)).contains w then u.sat1 FE_TCMD.SCRUB_UNC.COUNT
      else (u.markWord st c ln w false).sat1 FE_TCMD.SCRUB_REPAIRED.COUNT) u =
      ((List.range 8).filter (fun w => bad w)).foldl (State.scrubWord st c ln lost) u := by
  refine (List.foldl_ext _ _ _ fun v w hw => ?_).trans (State.foldl_scrubWord st c ln lost bad _ List.nodup_range u hbad)
  have hlost : ((List.range 8).filter (fun w => lost w)).contains w = lost w := by
    rw [Bool.eq_iff_iff]
    simpa using fun _ => List.mem_range.1 hw
  rw [hlost, State.scrubWord]

theorem State.rfi_scrubCount (n : Nat) {f : Fld} (hf : f.page = 72) (i : Nat) :
    (s.sat FE_TCMD.SCRUB_CORR.COUNT 0 0 n).rfi f i = s.rfi f i := by
  have hne : f.key 0 i ≠ FE_TCMD.SCRUB_CORR.COUNT.key 0 0 := by
    have hscrub : FE_TCMD.SCRUB_CORR.COUNT.key 0 0 < 72 * 4096 * 8 := by decide
    simp only [Fld.key, hf] at hscrub ⊢
    omega
  rw [State.sat, State.rfi, State.rfp_perfFld, State.rfp_wfp_ne _ _ _ _ _ _ _ _ hne, State.rfi]

theorem State.cellMapped_scrubCount (n d c : Nat) : (s.sat FE_TCMD.SCRUB_CORR.COUNT 0 0 n).cellMapped d c = s.cellMapped d c := by
  have hphys : (s.sat FE_TCMD.SCRUB_CORR.COUNT 0 0 n).physOf d c = s.physOf d c := congrArg (d * 132 + ·) (State.rfi_scrubCount n rfl _)
  exact congrArg (fun v => decide (v = 0)) ((congrArg (State.cellState _) hphys).trans (State.rfi_scrubCount n rfl _))

theorem State.wordLost_scrubCount (n d c ln w : Nat) : (s.sat FE_TCMD.SCRUB_CORR.COUNT 0 0 n).wordLost d c ln w = s.wordLost d c ln w := by
  simp only [State.wordLost, State.cellMapped_scrubCount, State.wordBad_congr (State.tm_sat _ _ _ _)]

section
variable {st c ln : Nat} {single : List Nat} {n : Nat}

/-- A scrub of a line of a mapped cell in a strip that no copy uses, with `n` words corrected. -/
theorem State.tableScrub_line (hst : st < 16) (hc : c < 128) (hln : ln < 49152) (hmap : s.cellMapped st c = true)
    (hcopy : ∀ x, x < 16 → s.remapNow x = none) (hop : s.operating 68 = true)
    (hn : (single.filter (fun w => decide (w < 8) && !s.wordBad st c ln w)).length = n) :
    s.tableScrub st c ln single [] false =
      (let t := ((List.range 8).filter (fun w => s.wordBad st c ln w)).foldl
         (State.scrubWord st c ln (fun w => s.wordLost (st / 8) c ln w)) (s.sat FE_TCMD.SCRUB_CORR.COUNT 0 0 n)
       if ((List.range 8).filter (fun w => s.wordLost (st / 8) c ln w)).isEmpty then t
       else ((t.wf FE_TCMD.SCRUB_LAST.LOGICAL (st * 128 + c)).wf FE_TCMD.SCRUB_LAST.LINE ln).raise
         Ev.FE_TCMD.SCRUB_UNCORRECTABLE 0 0 (st * 128 + c) ln) := by
  unfold State.tableScrub
  rw [if_neg (by simp; omega)]
  dsimp only [List.foldl_nil]
  rw [if_neg ?_, hn]
  · simp only [State.wordLost_scrubCount]
    rw [State.foldl_scrubLine st c ln (s.wordLost (st / 8) c ln) (s.wordBad st c ln) _
      (fun w _ => State.wordBad_congr (State.tm_sat _ _ _ _) _ _ _ _)]
  · intro h
    simp only [hmap, hop, Bool.not_true, Bool.false_or, Bool.or_false, List.any_eq_true, List.mem_range] at h
    obtain ⟨x, hx, hx'⟩ := h
    rw [hcopy x hx] at hx'
    cases hx'

theorem State.isEmpty_lostWords (h : ∀ w, w < 8 → s.wordLost (st / 8) c ln w = false) :
    ((List.range 8).filter (fun w => s.wordLost (st / 8) c ln w)).isEmpty = true := by
  rw [List.isEmpty_iff, List.filter_eq_nil_iff]
  exact fun w hw => ne_true_of_eq_false (h w (List.mem_range.1 hw))

theorem State.not_isEmpty_lostWords (h : ∃ w, w < 8 ∧ s.wordLost (st / 8) c ln w = true) :
    ¬ ((List.range 8).filter (fun w => s.wordLost (st / 8) c ln w)).isEmpty = true := by
  obtain ⟨w, hw, hlost⟩ := h
  rw [List.isEmpty_iff, List.filter_eq_nil_iff]
  exact fun hnone => hnone w (List.mem_range.2 hw) hlost

end

end

theorem tableMemory : Claims.TableMemory := by
  intro s hfe
  have run {f : State → State} {t : State} (h : f s = t) : Host.Outcome.next (s.onFe f) = (.next t : Host.Outcome State Fault Refusal) :=
    congrArg Host.Outcome.next ((s.onFe_on f hfe).trans h)
  refine ⟨fun off v width h => run (State.bar2Write_held h), fun off v width hop hstop hheld => ?_, fun off => ?_, fun hopen ctrl => ?_,
    fun hopen v => ?_, fun hen hfree => run (State.holdDrained_free hen hfree),
    fun st c ln single hst hc hln hmap hcopy hop => ?_⟩
  · have hfree (width : Nat) (v : Nat) := State.bar2Write_free (off := off) width v hstop hheld
    refine ⟨fun hoff hwidth hpos => run ((hfree _ _).trans (State.bar2Take_words hop hoff hwidth hpos)),
      fun h => run ((hfree _ _).trans (State.bar2Take_misfit hop h)), fun hoff hv => ?_⟩
    have hword := (hfree 4 v).trans (State.bar2Take_word hop hoff hv)
    exact ⟨fun h => run (hword.trans (State.bar2Word_reserved h)), fun d c ln w h =>
      ⟨fun hlock => run (hword.trans ((State.bar2Word_line h).trans (if_pos hlock))),
        fun hlock => run (hword.trans ((State.bar2Word_line h).trans (if_neg (ne_true_of_eq_false hlock))))⟩⟩
  · exact ⟨fun h => run (State.bar2Read_reserved h), fun d c ln w h =>
      ⟨fun hlost => run ((State.bar2Read_line h).trans (if_neg (ne_true_of_eq_false hlost))),
        fun hlost => run ((State.bar2Read_line h).trans (if_pos hlost))⟩⟩
  · exact ⟨fun t r ht hle => run (State.lockCtrl_word_taken hopen ht hle), fun t r ht hle => run (State.lockCtrl_word_taken hopen ht hle),
      fun h => run (State.lockCtrl_word_refused hopen h), fun h => run (State.lockCtrl_word_refused hopen h)⟩
  · exact ⟨_, run rfl, State.holdWrite_frame hopen⟩
  · have hgo := State.tableScrub_line hst hc hln hmap hcopy hop (single := single) rfl
    exact ⟨fun hnone => run (hgo.trans (if_pos (State.isEmpty_lostWords hnone))),
      fun hsome => run (hgo.trans (if_neg (State.not_isEmpty_lostWords hsome)))⟩

/-- Settles O18: each command by the check it meets, each access by what it addresses. -/
theorem tableAccess : Obligations.TableAccess := ⟨tableCommands, tableMemory⟩

end Sys2Proof.Machine
end

section
/-! PROOF. The timers of reorder contexts, and the registers of the spray pattern and of multicast (R279, R280, R283 to R290). -/

namespace Sys2Proof.Machine

theorem reorderTimers : Claims.ReorderTimers := by
  intro s htm
  have run {f : State → State} {t : State} (h : f s = t) : Host.Outcome.next (s.onTm f) = (.next t : Host.Outcome State Fault Refusal) :=
    congrArg Host.Outcome.next ((s.onTm_on f htm).trans h)
  refine ⟨fun src ex d hd => run ?_, fun src ex d hd => run ?_, fun src ex d hd => ?_⟩
  · rw [State.collectOver, State.expire_expired hd]
  · rw [State.gapExpire, State.expire_expired hd]
  · intro k u
    refine ⟨fun hempty => run ?_, fun hheld => run ?_⟩
    · rw [State.ctxIdle, State.expire_expired hd]
      exact if_pos hempty
    · rw [State.ctxIdle, State.expire_expired hd]
      exact if_neg (ne_true_of_eq_false hheld)

/-! ### The pending pattern -/

section
variable {s : State}

theorem State.copyActive_open (hopen : s.blockOpen 4146 = true) (hpend : s.rfb TM_SPRAY.INSTALL.PENDING = false) :
    s.copyActive = s.setFab (fun f => { f with
      pend := ((List.range s.pendWords).map (fun w => (w, leAt s.sprayNow (64 + 4 * w) 4))).filter (fun e => decide (e.2 ≠ 0)) }) :=
  if_neg (by simp [hopen, hpend])

theorem State.pendAccess_write {v : Nat} (hopen : s.blockOpen 4146 = true) (hpend : s.rfb TM_SPRAY.INSTALL.PENDING = false) :
    s.pendAccess (some v) = (s.setFab (fun f => { f with
      pend := SMap.put 0 f.pend (s.rf TM_SPRAY.PEND_ADDR.WORD) (v % 2 ^ 32) })).wf TM_SPRAY.PEND_ADDR.WORD
        (s.rf TM_SPRAY.PEND_ADDR.WORD + 1) := by
  rw [State.pendAccess, if_neg (by simp [hopen])]
  exact congrArg (State.wf · _ _) (if_neg (by simp [hpend]))

theorem State.pendAccess_read (hopen : s.blockOpen 4146 = true) :
    s.pendAccess none = (s.emit (.readData (SMap.get 0 s.fab.pend (s.rf TM_SPRAY.PEND_ADDR.WORD)))).wf TM_SPRAY.PEND_ADDR.WORD
      (s.rf TM_SPRAY.PEND_ADDR.WORD + 1) := if_neg (by simp [hopen])

section
variable (hopen : s.blockOpen 4146 = true) (hpend : s.rfb TM_SPRAY.INSTALL.PENDING = false)
include hopen hpend

theorem State.installGo_good
    (h : installCause (s.pendSec s.pendWords) (if s.sprayNow.isEmpty then 0 else sprayLen s.sprayNow) (sprayExp s.sprayNow) = none) :
    s.installGo = (s.installErr 0).wf TM_SPRAY.INSTALL.PENDING 1 := by
  rw [State.installGo, if_neg (by simp [hopen]), if_neg (by simp [hpend])]
  dsimp only
  rw [h]

theorem State.installGo_bad {c : Nat} {w : Option Nat}
    (h : installCause (s.pendSec s.pendWords) (if s.sprayNow.isEmpty then 0 else sprayLen s.sprayNow) (sprayExp s.sprayNow) = some (c, w)) :
    s.installGo = (s.installErr c).raiseO Ev.TM_SPRAY.INSTALL_REFUSED 0 (some c) w (some 0) := by
  rw [State.installGo, if_neg (by simp [hopen]), if_neg (by simp [hpend])]
  dsimp only
  rw [h]

end

theorem State.installApply_due (hpend : s.rfb TM_SPRAY.INSTALL.PENDING = true) (hidle : s.epochState = esIdle)
    (hbound : s.atBoundary = true) :
    s.installApply =
      (let d := s.pendSec s.pendWords
       let u := ({ s with bankA := s.bankA.setSpray d, bankB := s.bankB.setSpray d } : State).setFab (fun f => { f with
         ptr := SMap.drop (fun k => decide (spreadList s.sprayNow (k % 16) ≠ spreadList d (k % 16))) f.ptr })
       let v := (u.wf TM_SPRAY.INSTALL.PENDING 0).inc1 TM_SPRAY.INSTALL_COUNT.COUNT
       (v.showExpress.raise Ev.TM_SPRAY.INSTALLED 0 0 (v.rf TM_SPRAY.INSTALL_COUNT.COUNT) v.fab.mfi).capCheck s.expOver) :=
  if_neg (by simp [hpend, hidle, hbound])

/-! ### Groups and records -/

theorem State.walkDone_over (h : s.fab.walk.any (fun id => (s.pktById id).isSome) = false) :
    s.walkDone = (s.setFab (fun f => { f with walk := [] })).wf TM_MCAST.WALK_DRAIN.DRAIN 0 := if_neg (ne_true_of_eq_false h)

theorem State.residueRetry_due {d : Nat} (hd : s.timerAt .residueRetry 0 = some d) (hop : (s.expired .residueRetry 0 d).operating 4155 = true) :
    s.residueRetry =
      (let u := s.expired .residueRetry 0 d
       let v := ((u.fab.residue.foldl (fun (a : List (Bool × Nat) × State) b => a.2.retryOne a.1 b) ([], u)).2).mcastSweep
       if v.fab.residue.isEmpty then v else v.arm .residueRetry 0 v.retryCycles) := by
  rw [State.residueRetry, State.expire_expired hd]
  exact if_neg (by simp [hop])

theorem State.residueExpire_found {egr : Bool} {r : Nat} {b : Branch}
    (hb : s.fab.residue.find? (fun b => decide (b.egr = egr) && decide (b.rec_ = r)) = some b) :
    s.residueExpire egr r =
      (let u := s.advanceTo (b.born + orWhenZero (s.rf TM_MCAST.RESIDUE_TIMEOUT.MS) 1 * cyMs)
       let v := ((u.residueOut b).recDrop r).sat1 TM_MCAST.RESIDUE_TIMEOUT_DROP.COUNT
       (v.raise Ev.TM_MCAST.RESIDUE_TIMEOUT 0 0 b.group r).mcastSweep) := by
  rw [State.residueExpire, hb]

/-- Word `k` of a value spread over registers of 32 bits. -/
theorem State.rfi_regFill_word (s : State) (m : SMap Nat) {f : Fld} {n k v : Nat} (hper : f.per = 1) (hstride : 0 < f.stride) (hw : f.w = 32)
    (hk : k < n) : ({ s with regs := regFill m f n (fun k => bits v (32 * k) 32) } : State).rfi f k = bits v (32 * k) 32 := by
  refine (regGet_regFill_same m (fun k => bits v (32 * k) 32) hper hstride hk).trans ?_
  rw [hw]
  exact bits_mod _ _ _

section
variable (hopen : s.blockOpen 4155 = true)
include hopen

theorem State.walkDrain_open : s.walkDrain = (s.setFab (fun f => { f with walk := (s.at_ .residue).map (·.id) })).wf TM_MCAST.WALK_DRAIN.DRAIN 1 :=
  if_neg (by simp [hopen])

/-- A read of group `g`, with OP as written. -/
theorem State.groupRead_frame {v g : Nat} (hg : bits v 0 16 = g) :
    ∃ m, s.groupRead v = { s with regs := regFill m TM_MCAST.GROUP_DATA.DATA 2 (fun k => bits (s.group g) (32 * k) 32) } := by
  refine ⟨((s.wf TM_MCAST.GROUP_SEL.GROUP g).wf TM_MCAST.GROUP_SEL.OP (bits v 16 1)).regs, ?_⟩
  rw [State.groupRead, if_neg (by simp [hopen]), hg]
  exact State.foldl_wfi_fill _ _ _ (fun u k => bits (u.group g) (32 * k) 32) (fun _ _ => rfl)

theorem State.recordRead_frame {v r : Nat} (hr : bits v 0 20 = r) :
    ∃ m, s.recordRead v = { s with regs := regFill m TM_MCAST.REC_DATA.DATA 4 (fun k => bits (s.record r) (32 * k) 32) } := by
  refine ⟨((s.wf TM_MCAST.REC_SEL.RECORD r).wf TM_MCAST.REC_SEL.OP (bits v 20 1)).regs, ?_⟩
  rw [State.recordRead, if_neg (by simp [hopen]), hr]
  exact State.foldl_wfi_fill _ _ _ (fun u k => bits (u.record r) (32 * k) 32) (fun _ _ => rfl)

theorem State.groupWrite_frame {v g w : Nat} (hg : bits v 0 16 = g)
    (hw : (s.rfi TM_MCAST.GROUP_DATA.DATA 0 + s.rfi TM_MCAST.GROUP_DATA.DATA 1 * 2 ^ 32) % 2 ^ 43 = w) :
    ∃ m, s.groupWrite v = { s with regs := m, fab := { s.fab with groups := SMap.put 0 s.fab.groups g w } } := by
  refine ⟨((s.wf TM_MCAST.GROUP_SEL.GROUP g).wf TM_MCAST.GROUP_SEL.OP (bits v 16 1)).regs, ?_⟩
  have hdata (k : Nat) (hk : k < 2) :
      ((s.wf TM_MCAST.GROUP_SEL.GROUP g).wf TM_MCAST.GROUP_SEL.OP (bits v 16 1)).rfi TM_MCAST.GROUP_DATA.DATA k =
        s.rfi TM_MCAST.GROUP_DATA.DATA k := by
    interval_cases k <;>
      exact (State.rfp_wfp_ne _ _ _ _ _ _ _ _ (by decide)).trans (State.rfp_wfp_ne _ _ _ _ _ _ _ _ (by decide))
  rw [State.groupWrite, if_neg (by simp [hopen]), hg]
  dsimp only
  rw [hdata 0 (by decide), hdata 1 (by decide), hw]
  rfl

theorem State.recordWrite_frame {v r w : Nat} (hr : bits v 0 20 = r)
    (hw : recKnown (sumN ((List.range 4).map (fun k => s.rfi TM_MCAST.REC_DATA.DATA k * 2 ^ (32 * k)))) = w) :
    ∃ m, s.recordWrite v = { s with
      regs := m, fab := { s.fab with recs := SMap.upd 0 s.fab.recs r (fun old => setBits w 64 16 (recDrops old)) } } := by
  refine ⟨((s.wf TM_MCAST.REC_SEL.RECORD r).wf TM_MCAST.REC_SEL.OP (bits v 20 1)).regs, ?_⟩
  have hdata : (List.range 4).map (fun k => ((s.wf TM_MCAST.REC_SEL.RECORD r).wf TM_MCAST.REC_SEL.OP (bits v 20 1)).rfi
      TM_MCAST.REC_DATA.DATA k * 2 ^ (32 * k)) = (List.range 4).map (fun k => s.rfi TM_MCAST.REC_DATA.DATA k * 2 ^ (32 * k)) := by
    refine List.map_congr_left fun k hk => congrArg (· * 2 ^ (32 * k)) ?_
    have hne : ∀ k < 4, TM_MCAST.REC_DATA.DATA.key 0 k ≠ TM_MCAST.REC_SEL.OP.key 0 0 ∧
        TM_MCAST.REC_DATA.DATA.key 0 k ≠ TM_MCAST.REC_SEL.RECORD.key 0 0 := by decide
    obtain ⟨hop, hrec⟩ := hne k (List.mem_range.1 hk)
    exact (State.rfp_wfp_ne _ _ _ _ _ _ _ _ hop).trans (State.rfp_wfp_ne _ _ _ _ _ _ _ _ hrec)
  rw [State.recordWrite, if_neg (by simp [hopen]), hr]
  dsimp only
  rw [hdata, hw]
  rfl

end

end

theorem multicastRegisters : Claims.MulticastRegisters := by
  intro s htm
  have run {f : State → State} {t : State} (h : f s = t) : Host.Outcome.next (s.onTm f) = (.next t : Host.Outcome State Fault Refusal) :=
    congrArg Host.Outcome.next ((s.onTm_on f htm).trans h)
  refine ⟨fun hopen hpend => ⟨run (State.copyActive_open hopen hpend), fun v => run (State.pendAccess_write hopen hpend),
      fun h => run (State.installGo_good hopen hpend h), fun c w h => run (State.installGo_bad hopen hpend h)⟩,
    fun hopen => run (State.pendAccess_read hopen), fun hpend hidle hbound => run (State.installApply_due hpend hidle hbound),
    fun hopen sel => ?_, fun h => run (State.walkDone_over h), fun d hd => run ∘ State.residueRetry_due hd,
    fun egr r b hb => run (State.residueExpire_found hb)⟩
  have hgroup (op : Bool) : bits (setBit (sel % 2 ^ 32) 16 op) 0 16 = bits sel 0 16 := by
    rw [bits_setBit_apart _ _ (by decide), bits_mod_two_pow _ (by decide)]
  have hrecord (op : Bool) : bits (setBit (sel % 2 ^ 32) 20 op) 0 20 = bits sel 0 20 := by
    rw [bits_setBit_apart _ _ (by decide), bits_mod_two_pow _ (by decide)]
  refine ⟨?_, ?_, ?_, ?_, ?_⟩
  · obtain ⟨m, hm⟩ := State.groupRead_frame hopen (hgroup false)
    exact ⟨_, run hm, rfl, fun k hk => s.rfi_regFill_word m rfl (by decide) rfl hk⟩
  · obtain ⟨m, hm⟩ := State.groupWrite_frame hopen (hgroup true) rfl
    exact ⟨_, run hm, rfl, SMap.get_put_same _ _ _ _, fun g hg => SMap.get_put_ne _ _ _ _ _ _ hg⟩
  · obtain ⟨m, hm⟩ := State.recordRead_frame hopen (hrecord false)
    exact ⟨_, run hm, rfl, fun k hk => s.rfi_regFill_word m rfl (by decide) rfl hk⟩
  · obtain ⟨m, hm⟩ := State.recordWrite_frame hopen (hrecord true) rfl
    exact ⟨_, run hm, rfl, SMap.get_put_same _ _ _ _, fun r hr => SMap.get_put_ne _ _ _ _ _ _ hr⟩
  · exact ⟨_, run (State.walkDrain_open hopen), rfl, State.rf_wf_same _ _ _, rfl⟩

end Sys2Proof.Machine
end

section
/-! PROOF. The transmit slots and frames of the fabric links (R243, R249, R258, R261, R262, R273, R277). -/

namespace Sys2Proof.Machine

/-! ### Links that send in turn -/

/-- Steps that each put some outputs in front of the others. -/
theorem State.foldl_out {α : Type} {F : State → α → State} {e : α → List Out} {s : State} (as : List α)
    (hF : ∀ l, ∀ a ∈ as, F { s with out := l } a = { s with out := (e a).reverse ++ l }) (l : List Out) :
    as.foldl F { s with out := l } = { s with out := (as.flatMap e).reverse ++ l } := by
  induction as generalizing l with
  | nil => rfl
  | cons a as ih =>
    rw [List.foldl_cons, hF l a (List.mem_cons_self ..), ih fun l a ha => hF l a (List.mem_cons_of_mem _ ha), List.flatMap_cons,
      List.reverse_append, List.append_assoc]

/-- The output of one link, if it sends. -/
def sent (p : Nat → Bool) (o : Nat → Out) (n : Nat) : List Out := if p n then [o n] else []

theorem flatMap_sent (p : Nat → Bool) (o : Nat → Out) (ns : List Nat) : ns.flatMap (sent p o) = (ns.filter p).map o := by
  induction ns with
  | nil => rfl
  | cons n ns ih =>
    rw [List.flatMap_cons, ih, sent]
    cases h : p n with
    | false => rw [List.filter_cons_of_neg (by simp [h])]; rfl
    | true => rw [List.filter_cons_of_pos h]; rfl

/-- The ten links of each group in turn are the links in turn. -/
theorem flatMap_groups (e : Nat → List Out) (m : Nat) :
    (List.range m).flatMap (fun g => (List.range 10).flatMap (fun l => e (10 * g + l))) = (List.range (10 * m)).flatMap e := by
  induction m with
  | zero => rfl
  | succ m ih =>
    rw [List.range_succ (n := m), List.flatMap_append, ih, Nat.mul_succ, List.range_add, List.flatMap_append, List.flatMap_map]
    simp

section
variable {s : State}

/-! ### Slots -/

/-- The idle cell of the present position. -/
def State.idleOut (s : State) (n : Nat) : Out :=
  .cell n ((scramble (64 + 256 * s.fab.pos) idleCell).take 16) ((scramble (64 + 256 * s.fab.pos) idleCell).drop 16)

theorem State.sendCell_idle {n : Nat} (l : List Out) (hloop : s.flLooped n = false) :
    (if ({ s with out := l } : State).flTx n then ({ s with out := l } : State).sendCell n none else { s with out := l }) =
      { s with out := (sent (fun n => s.flTx n && !s.flMuted n) s.idleOut n).reverse ++ l } := by
  have hcell : ({ s with out := l } : State).sendCell n none = ({ s with out := l } : State).flOut n (s.idleOut n) :=
    if_neg (by rw [show ({ s with out := l } : State).flLooped n = false from hloop, Bool.false_and]; decide)
  rw [hcell, sent]
  show (if s.flTx n then (if s.flMuted n then ({ s with out := l } : State) else { s with out := s.idleOut n :: l }) else _) = _
  cases s.flTx n <;> cases s.flMuted n <;> rfl

/-- The slots of a position while no pattern runs and no lane is looped: every link that sends puts an idle cell on its lane. -/
theorem State.spraySlot_idle (hpos : s.fab.pos < 31) (hpat : s.fab.patBank = none) (hloop : ∀ n, n < 320 → s.flLooped n = false) :
    s.spraySlot = { s with
      fab := { s.fab with pos := s.fab.pos + 1 },
      out := (((List.range 320).filter (fun n => s.flTx n && !s.flMuted n)).map s.idleOut).reverse ++ s.out } := by
  rw [State.spraySlot, if_neg (by omega)]
  refine (congrArg (State.setFab · (fun f => { f with pos := f.pos + 1 })) (State.foldl_out (s := s)
    (e := fun g => (List.range 10).flatMap (fun l => sent (fun n => s.flTx n && !s.flMuted n) s.idleOut (10 * g + l)))
    (List.range 32) (fun l g hg => ?_) s.out)).trans ?_
  · have hnone : (({ s with out := l } : State).fab.patBank.isSome && ({ s with out := l } : State).operating 4146) = false := by
      show (s.fab.patBank.isSome && _) = false
      rw [hpat, Option.isSome_none, Bool.false_and]
    simp only [hnone, Bool.false_eq_true, if_false, List.find?_nil, Option.map_none]
    refine State.foldl_out (List.range 10) (fun l k hk => State.sendCell_idle l (hloop _ ?_)) l
    have := List.mem_range.1 hg
    have := List.mem_range.1 hk
    omega
  · rw [flatMap_groups, flatMap_sent]
    rfl

/-! ### Frames -/

theorem State.overheadTx_fabOut (s : State) (f : Fabric) (l : List Out) (n mfi : Nat) (fc : List Nat) :
    ({ s with fab := f, out := l } : State).overheadTx n mfi fc = s.overheadTx n mfi fc := rfl

theorem State.overheadOut_quiet {f : Fabric} {n : Nat} (l : List Out) (m : Nat) (fc : List Nat) (hloop : s.flLooped n = false) :
    (if ({ s with fab := f, out := l } : State).flTx n then ({ s with fab := f, out := l } : State).overheadOut n
        (({ s with fab := f, out := l } : State).overheadTx n m fc) else { s with fab := f, out := l }) =
      { s with fab := f, out := (sent (fun n => s.flTx n && !s.flMuted n) (fun n => .overhead n (s.overheadTx n m fc)) n).reverse ++ l } := by
  have hout (b : Bytes) : ({ s with fab := f, out := l } : State).overheadOut n b =
      ({ s with fab := f, out := l } : State).flOut n (.overhead n b) :=
    if_neg (by rw [show ({ s with fab := f, out := l } : State).flLooped n = false from hloop, Bool.false_and]; decide)
  rw [hout, State.overheadTx_fabOut, sent]
  generalize s.overheadTx n m fc = b
  show (if s.flTx n then (if s.flMuted n then ({ s with fab := f, out := l } : State) else { s with fab := f, out := .overhead n b :: l })
    else _) = _
  cases s.flTx n <;> cases s.flMuted n <;> rfl

theorem State.frameStart_quiet {m : Nat} (hpos : 31 ≤ s.fab.pos) (hm : (s.fab.mfi + 1) % 256 = m) (hloop : ∀ n, n < 320 → s.flLooped n = false) :
    s.frameStart = { s with
      fab := { s.fcFrame.2.fab with mfi := m, pos := 0 },
      out := (((List.range 320).filter (fun n => s.flTx n && !s.flMuted n)).map
        (fun n => Out.overhead n (s.overheadTx n m s.fcFrame.1))).reverse ++ s.out } := by
  rw [State.frameStart, if_neg (by omega), hm]
  have hgo := State.foldl_out (s := s.fcFrame.2.setFab (fun f => { f with mfi := m, pos := 0 }))
    (e := sent (fun n => s.flTx n && !s.flMuted n) (fun n => Out.overhead n (s.overheadTx n m s.fcFrame.1))) (List.range 320)
    (F := fun u n => if u.flTx n then u.overheadOut n (u.overheadTx n m s.fcFrame.1) else u) (fun l n hn => ?_) s.out
  · rw [flatMap_sent] at hgo
    exact hgo
  · exact State.overheadOut_quiet (f := { s.fcFrame.2.fab with mfi := m, pos := 0 }) l m s.fcFrame.1 (hloop n (List.mem_range.1 hn))

end

theorem transmitFrames : Claims.TransmitFrames := by
  intro s htm
  have run {f : State → State} {t : State} (h : f s = t) : Host.Outcome.next (s.onTm f) = (.next t : Host.Outcome State Fault Refusal) :=
    congrArg Host.Outcome.next ((s.onTm_on f htm).trans h)
  refine ⟨fun hpos => run (if_neg (by omega)), fun hpos hpat hloop => ?_, fun hpos => ⟨run (if_neg (by omega)), fun hloop => ?_⟩,
    fun hbound => run (if_pos hbound)⟩
  · exact ⟨_, run (State.spraySlot_idle hpos hpat hloop), rfl, rfl, rfl, rfl⟩
  · exact ⟨_, run (State.frameStart_quiet hpos rfl hloop), rfl, rfl, rfl⟩

end Sys2Proof.Machine
end

section
/-! PROOF. The steps of the switch core (R269, R270). -/

namespace Sys2Proof.Machine

/-- A pass over a list in which one element alone acts, and acts once. -/
theorem foldl_once {α β : Type} {f : β → α → β} {s u : β} {g : α} (as : List α) (hg : g ∈ as) (hrest : ∀ a ∈ as, a ≠ g → f s a = s)
    (hact : f s g = u) (hdone : ∀ a, f u a = u) : as.foldl f s = u := by
  induction as with
  | nil => cases hg
  | cons a as ih =>
    rw [List.foldl_cons]
    by_cases ha : a = g
    · rw [ha, hact]
      exact List.foldl_fixed' hdone as
    · rw [hrest a (List.mem_cons_self ..) ha]
      exact ih ((List.mem_cons.1 hg).resolve_left (Ne.symm ha)) fun b hb => hrest b (List.mem_cons_of_mem _ hb)

theorem bankKey_inj {b d e b' d' e' : Nat} (hd : d < 48) (he : e < 2) (hd' : d' < 48) (he' : e' < 2) :
    bankKey b d e = bankKey b' d' e' ↔ b = b' ∧ d = d' ∧ e = e' := by
  simp only [bankKey]
  omega

theorem Cell.exp_lt (c : Cell) : c.exp < 2 := by
  rw [Cell.exp, spaceOf]
  split <;> decide

theorem SMap.put_alone (k : Nat) (c : List Cell) : SMap.put [] [(k, c)] k [] = [] := by
  simp [SMap.put, SMap.drop]

theorem SMap.upd_drop_alone (k : Nat) (c : Cell) : SMap.upd [] [(k, [c])] k (·.drop 1) = [] := by
  simp [SMap.upd, SMap.get, SMap.put_alone]

theorem SMap.upd_append_nil (k : Nat) (c : Cell) : SMap.upd [] [] k (· ++ [c]) = [(k, [c])] := by
  simp [SMap.upd, SMap.get, SMap.put, SMap.drop, SMap.ins]

section
variable {s : State}

/-! ### Where nothing waits -/

theorem State.coreTake_none {t d : Nat} (n : Nat) (h : s.corePick t d = none) : State.coreTake n s t d = s := by
  cases n with
  | zero => rfl
  | succ n => rw [State.coreTake, h]

theorem State.corePick_empty (h : s.fab.banks = []) (t d : Nat) : s.corePick t d = none := by
  have hhead (e b : Nat) : s.coreHead t d e b = none := by rw [State.coreHead, h]; rfl
  simp only [State.corePick, hhead]
  rfl

theorem State.corePut_none {src : Nat} (n t : Nat) (h : s.staged src = []) : State.corePut n s t src = s := by
  cases n with
  | zero => rfl
  | succ n =>
    rw [State.corePut, h]
    rfl

theorem State.foldl_corePut_none (t : Nat) (h : s.fab.staging = []) :
    (List.range 48).foldl (fun (v : State) k => State.corePut 2 v t k) s = s :=
  List.foldl_fixed' (fun k => State.corePut_none 2 t (by rw [State.staged, h]; rfl)) _

theorem State.cutStream_empty (n st : Nat) (h : s.pkts = []) : State.cutStream n s st = s := by
  have hhead (l : Loc) : s.headAt l = none := by rw [State.headAt, h]; rfl
  cases n with
  | zero => rfl
  | succ n => rw [State.cutStream, hhead, hhead]

theorem State.cutAll_empty (h : s.pkts = []) : s.cutAll = s := by
  rw [State.cutAll]
  split
  · exact List.foldl_fixed' (fun st => State.cutStream_empty 400 st h) _
  · rfl

/-! ### A lone staged cell -/

theorem State.staged_alone {src k : Nat} {c : Cell} (hst : s.fab.staging = [(src, [c])]) :
    s.staged k = if src = k then [c] else [] := by
  rw [State.staged, hst, SMap.get, SMap.get]

theorem State.corePut_alone {src : Nat} {c : Cell} (t : Nat) (hst : s.fab.staging = [(src, [c])]) (hbanks : s.fab.banks = []) :
    State.corePut 2 s t src = s.setFab (fun f => { f with
      staging := [], banks := [(bankKey (s.stageBank (s.cellBank c) t src) c.dst c.exp, [{ c with since := s.cycle, ns := s.nowNs }])] }) := by
  have hstaged : s.staged src = [c] := (State.staged_alone hst).trans (if_pos rfl)
  have hroom (k : Nat) : decide ((SMap.get [] s.fab.banks k).length < 24) = true := by rw [hbanks]; rfl
  have hidx : firstIdx (fun c => decide ((SMap.get [] s.fab.banks (bankKey (s.stageBank (s.cellBank c) t src) c.dst c.exp)).length < 24))
      [c] = some 0 := if_pos (hroom _)
  rw [State.corePut, hstaged]
  dsimp only
  rw [hidx]
  refine (State.corePut_none 1 t ?_).trans ?_
  · show SMap.get [] (SMap.put [] s.fab.staging src []) src = []
    exact SMap.get_put_same _ _ _ _
  · simp only [State.setStaged, State.setFab, List.take_zero, List.nil_append, Nat.zero_add, List.drop_one, List.tail_cons, hst, hbanks,
      SMap.put_alone, SMap.upd_append_nil]

/-- The steps of the sources for a lone staged cell. -/
theorem State.foldl_corePut_alone {src : Nat} {c : Cell} (t : Nat) (hsrc : src < 48) (hst : s.fab.staging = [(src, [c])])
    (hbanks : s.fab.banks = []) :
    (List.range 48).foldl (fun (v : State) k => State.corePut 2 v t k) s = s.setFab (fun f => { f with
      staging := [], banks := [(bankKey (s.stageBank (s.cellBank c) t src) c.dst c.exp, [{ c with since := s.cycle, ns := s.nowNs }])] }) :=
  foldl_once _ (List.mem_range.2 hsrc)
    (fun _ _ hk => State.corePut_none 2 t ((State.staged_alone hst).trans (if_neg (Ne.symm hk))))
    (State.corePut_alone t hst hbanks) (fun _ => State.corePut_none 2 t rfl)

/-! ### A lone cell in a bank -/

section
variable {t g r k : Nat} {c : Cell} (hg : g < 32) (hk : s.stageBank (s.cellBank c) (64 + t) g = k)
  (hbanks : s.fab.banks = [(bankKey k g c.exp, [c])])
include hg hk hbanks

theorem State.coreHead_alone {d e b : Nat} (hd : d < 48) (he : e < 2) :
    s.coreHead t d e b = if b = k ∧ d = g ∧ e = c.exp then some (bankKey k g c.exp, c) else none := by
  have hkey := bankKey_inj (b := k) (b' := b) (show g < 48 by omega) c.exp_lt hd he
  rw [State.coreHead, hbanks, SMap.get, SMap.get]
  by_cases h : b = k ∧ d = g ∧ e = c.exp
  · obtain ⟨rfl, rfl, rfl⟩ := h
    rw [if_pos rfl, if_pos ⟨rfl, rfl, rfl⟩]
    exact if_pos hk
  · rw [if_neg h, if_neg fun hb => h ?_]
    · rfl
    · obtain ⟨hb, hd', he'⟩ := hkey.1 hb
      exact ⟨hb.symm, hd'.symm, he'.symm⟩

theorem State.corePick_other {d : Nat} (hd : d < 48) (hne : d ≠ g) : s.corePick t d = none := by
  have hhead {e : Nat} (he : e < 2) (b : Nat) : s.coreHead t d e b = none :=
    (State.coreHead_alone hg hk hbanks hd he).trans (if_neg fun h => hne h.2.1)
  simp only [State.corePick, hhead (show 0 < 2 by decide), hhead (show 1 < 2 by decide)]
  rfl

theorem State.corePick_alone : s.corePick t g = some (bankKey k g c.exp, c) := by
  have hhead {e : Nat} (he : e < 2) (b : Nat) := State.coreHead_alone hg hk hbanks (b := b) (show g < 48 by omega) he
  have hbank : s.stageBank s.activeBank (64 + t) g = k ∨ s.stageBank (!s.activeBank) (64 + t) g = k := by
    cases hcb : s.cellBank c <;> cases ha : s.activeBank <;> simp_all
  have hexp : c.exp = 0 ∨ c.exp = 1 := by
    have := c.exp_lt
    omega
  simp only [State.corePick, hhead (show 0 < 2 by decide), hhead (show 1 < 2 by decide)]
  by_cases hx : s.stageBank s.activeBank (64 + t) g = k
  · rcases hexp with he | he <;> simp [hx, he]
  · rcases hexp with he | he <;> simp [hx, hbank.resolve_left hx, he]

omit hg hk hbanks in
theorem State.coreOut_sent (hpkts : s.pkts = []) (htx : c.tx = some (g, r)) :
    s.coreOut c = s.setFab (fun f => { f with txq := SMap.upd [] f.txq (txKey g r c.exp) (· ++ [c]) }) := by
  have hnone : (s.setFab (fun f => { f with txq := SMap.upd [] f.txq (txKey g r c.exp) (· ++ [c]) })).pktById c.pkt = none := by
    show s.pkts.find? _ = none
    rw [hpkts]
    rfl
  rw [State.coreOut, htx]
  dsimp only
  split
  · rfl
  · rw [hnone]

theorem State.coreTake_alone (hpkts : s.pkts = []) (htx : c.tx = some (g, r)) :
    State.coreTake 2 s t g = s.setFab (fun f => { f with banks := [], txq := SMap.upd [] f.txq (txKey g r c.exp) (· ++ [c]) }) := by
  rw [State.coreTake, State.corePick_alone hg hk hbanks]
  dsimp only
  rw [State.coreOut_sent (by exact hpkts) htx]
  refine (State.coreTake_none 1 (State.corePick_empty ?_ t g)).trans ?_
  · show SMap.upd [] s.fab.banks (bankKey k g c.exp) (·.drop 1) = []
    rw [hbanks, SMap.upd_drop_alone]
  · simp only [State.setFab, hbanks, SMap.upd_drop_alone]

theorem State.foldl_coreTake_alone (hpkts : s.pkts = []) (htx : c.tx = some (g, r)) :
    (List.range 48).foldl (fun (u : State) d => State.coreTake 2 u t d) s = s.setFab (fun f => { f with
      banks := [], txq := SMap.upd [] f.txq (txKey g r c.exp) (· ++ [c]) }) :=
  foldl_once _ (List.mem_range.2 (show g < 48 by omega))
    (fun _ hd hne => State.coreTake_none 2 (State.corePick_other hg hk hbanks (List.mem_range.1 hd) hne))
    (State.coreTake_alone hg hk hbanks hpkts htx) (fun d => State.coreTake_none 2 (State.corePick_empty rfl t d))

end

end

theorem switchCore : Claims.SwitchCore := by
  intro s htm
  have run {f : State → State} {t : State} (h : f s = t) : Host.Outcome.next (s.onTm f) = (.next t : Host.Outcome State Fault Refusal) :=
    congrArg Host.Outcome.next ((s.onTm_on f htm).trans h)
  refine ⟨fun h => run (if_pos (by rcases h with h | h <;> simp [h])), fun hep hop => ?_⟩
  have hgo : s.coreStep = (((List.range 48).foldl (fun (v : State) k => State.corePut 2 v (s.cycle % 64) k)
      ((List.range 48).foldl (fun (u : State) d => State.coreTake 2 u (s.cycle % 64) d) s)).advance 1).cutAll := if_neg (by simp [hep, hop])
  refine ⟨run hgo, fun src c hsrc hpkts hst hbanks => run (hgo.trans ?_), fun c g r hg htx hpkts hst hbanks => run (hgo.trans ?_)⟩
  · have htake : (List.range 48).foldl (fun (u : State) d => State.coreTake 2 u (s.cycle % 64) d) s = s :=
      List.foldl_fixed' (fun d => State.coreTake_none 2 (State.corePick_empty hbanks _ d)) _
    rw [htake, State.foldl_corePut_alone _ hsrc hst hbanks]
    exact State.cutAll_empty hpkts
  · rw [State.foldl_coreTake_alone hg rfl hbanks hpkts htx, State.foldl_corePut_none _ (by exact hst)]
    exact State.cutAll_empty hpkts

/-- Settles O17: the passes of the switch core over a lone cell, the links of a frame in turn, and each timer and register by its rule. -/
theorem fabricAndMulticast : Obligations.FabricAndMulticast := ⟨switchCore, transmitFrames, reorderTimers, multicastRegisters⟩

end Sys2Proof.Machine
end
